-- ==== Sys2Proof/Word.lean ====
section
/-! DEFINITION. The word types of the model: a register is 32 bits (R12), a byte is 8. -/

namespace Sys2Proof

/-- A register of BAR0 (R12). -/
abbrev Word := BitVec 32

/-- One byte of a memory. -/
abbrev Byte := BitVec 8

end Sys2Proof
end

