-- ==== Sys2Proof/Machine/Bits.lean ====
section
/-! DEFINITION. Bit fields (R7), byte order (R8), rounding and saturation helpers shared by every block. -/

namespace Sys2Proof.Machine

/-- The field of `len` bits at `lo` of a number (R7). -/
def bits (w lo len : Nat) : Nat := (w / 2 ^ lo) % 2 ^ len

/-- Bit `i` of a number. -/
def bitAt (w i : Nat) : Bool := bits w i 1 == 1

/-- A Bool as 0 or 1. -/
def b2n (b : Bool) : Nat := if b then 1 else 0

/-- The number of `bits` at `lo` of a register. -/
def fld (w : Word) (lo len : Nat) : Nat := bits w.toNat lo len

/-- Bit `i` of a register. -/
def wbit (w : Word) (i : Nat) : Bool := w.getLsbD i

/-- A register with the bits of `mask` replaced by those of `v`. -/
def maskIn (old v mask : Word) : Word := (old &&& ~~~mask) ||| (v &&& mask)

/-- A register with bit `i` set. -/
def setBitW (w : Word) (i : Nat) : Word := w ||| BitVec.ofNat 32 (2 ^ i)

/-- A register with bit `i` set to `b`. -/
def putBitW (w : Word) (i : Nat) (b : Bool) : Word :=
  maskIn w (BitVec.ofNat 32 (b2n b * 2 ^ i)) (BitVec.ofNat 32 (2 ^ i))

/-- A register with the field of `len` bits at `lo` set to `v` (cut to the field). -/
def putFld (w : Word) (lo len v : Nat) : Word :=
  maskIn w (BitVec.ofNat 32 ((v % 2 ^ len) * 2 ^ lo)) (BitVec.ofNat 32 ((2 ^ len - 1) * 2 ^ lo))

/-- A number held to 32 bits, saturating. -/
def sat32 (n : Nat) : Word := BitVec.ofNat 32 (min n (2 ^ 32 - 1))

/-- The 32-bit two's complement of a number, saturating at both ends. -/
def satI32 (x : Int) : Word :=
  if x > 2147483647 then 0x7FFFFFFF#32 else if x < -2147483648 then 0x80000000#32 else BitVec.ofInt 32 x

/-- The signed value of a field of `len` bits. -/
def signed (n len : Nat) : Int := if n < 2 ^ (len - 1) then (n : Int) else (n : Int) - 2 ^ len

/-- Quotient rounded up (0 when the divisor is 0). -/
def ceilDiv (a b : Nat) : Nat := (a + b - 1) / b

/-- The little-endian number of a list of bytes (R8). -/
def leNat : List Byte → Nat
  | [] => 0
  | b :: bs => b.toNat + 256 * leNat bs

/-- The little-endian bytes of a number, `n` of them (R8). -/
def leBytes : Nat → Nat → List Byte
  | 0, _ => []
  | n + 1, v => BitVec.ofNat 8 v :: leBytes n (v / 256)

/-- The big-endian number of a list of bytes (network order). -/
def beNat (bs : List Byte) : Nat := leNat bs.reverse

/-- `n` bytes of a list from offset `o`, with zero bytes past its end. -/
def slice (bs : List Byte) (o n : Nat) : List Byte :=
  let r := (bs.drop o).take n
  r ++ List.replicate (n - r.length) 0#8

/-- The little-endian field of `n` bytes at offset `o`. -/
def leAt (bs : List Byte) (o n : Nat) : Nat := leNat (slice bs o n)

/-- The big-endian field of `n` bytes at offset `o`. -/
def beAt (bs : List Byte) (o n : Nat) : Nat := beNat (slice bs o n)

/-- Whether every byte is zero. -/
def allZero (bs : List Byte) : Bool := bs.all (· == 0#8)

/-- The sum of a list of numbers. -/
def sumNat (l : List Nat) : Nat := l.foldl (· + ·) 0

/-- The greatest of a list of numbers (0 for none). -/
def maxNat (l : List Nat) : Nat := l.foldl max 0

/-- The indices below `n` where `p` holds, rising. -/
def indicesWhere (n : Nat) (p : Nat → Bool) : List Nat := (List.range n).filter p

/-- The number of bits set below `n` (the members of a bit set). -/
def popcount (w n : Nat) : Nat := (indicesWhere n (bitAt w)).length

end Sys2Proof.Machine
end

