-- ==== Sys2Proof/Machine/Wire.lean ====
section
/-! DEFINITION. What travels: packets, flits, training frames and capability messages of the Aethil links (chapter 12),
the messages that packets carry (chapters 6, 9, 13, 16), and the small operand types of the commands. -/

namespace Sys2Proof.Machine

/-- Who accesses a register: host software through PF0, or supervisor firmware through its mirror (R506, R556). -/
inductive Requester where
  | pf0 | supervisor
  deriving DecidableEq, Repr

/-- Where a written register lies: BAR0 of PF0, or the MSI-X table of PF0 (function 0) or PF1 (function 1). -/
inductive RegSpace where
  | bar0
  | msix (fn : Nat)
  deriving DecidableEq, Repr

/-- What ends a read or an access badly (Table 7.9): the cause codes of WINDOW_VIOLATION and POISONED. -/
inductive ReadFail where
  | timeout | unsupported | completerAbort | poisonedTlp | memoryEcc
  deriving DecidableEq, Repr

/-- The cause code of Table 7.9. -/
def ReadFail.code : ReadFail → Nat
  | .timeout => 1 | .unsupported => 2 | .completerAbort => 3 | .poisonedTlp => 4 | .memoryEcc => 5

/-- What a sensor reports at a tick edge (R531): the sensor's PLDM ID and its reading in 1/16 °C, none when it fails to
report. -/
structure Reading where
  sensor : Nat
  value : Option Int
  deriving DecidableEq, Repr

/-- What a patrol finds (R439, R441): an error in a 64-byte line of module memory or of core SRAM (line = core × 196,608 +
line in the core), a 64-bit word of hub SRAM (word = hub × 4,194,304 + word in the hub), an entry of an on-die table
(of the image's: window w is w, ALLOCATIONS entry i is 256 + i, group g is 1024 + g, tree t is 2048 + t, standing entry e is
4096 + e, model m is 8192 + m, route entry d is 8448 + d, channel c is 8512 + c, failover entry of lost module f and target d
is 9216 + 32 f + d; of those written at run time: Tally stream i is 65536 + i, Ledger slot k is 131072 + k, flag f is
196608 + f, MSK_SLOT_STATE_k is 262144 + k), or a block of a control store (block = hub × 256 + block in the hub). `ctrlEnd` is the end of
a block that the scrub has walked, where it recomputes the block's CRC (R290). -/
inductive Finding where
  | hbm (line : Nat) (uncorrectable : Bool)
  | csram (line : Nat) (uncorrectable : Bool)
  | hsram (word : Nat) (uncorrectable : Bool)
  | table (entry : Nat) (uncorrectable : Bool)
  | ctrl (block : Nat) (uncorrectable : Bool)
  | ctrlEnd (block : Nat)
  deriving DecidableEq, Repr

/-- The contents of an arm message (R226, R227): the rank (255 for a node), the group signature, the member's counts (one,
or 32 for ALL_TO_ALL) and s_max in 4 KiB granules (R250). -/
structure ArmMsg where
  opTag : Nat
  rank : Nat
  signature : Nat
  counts : List Nat
  sGran : Nat
  deriving DecidableEq, Repr

/-- What a packet carries besides data. -/
inductive Msg where
  | data
  | arm (m : ArmMsg)
  | seal (opTag bitmap sGran : Nat) (counts : List Nat)
  | segment (opTag index : Nat) (inAcc : Bool) (bitmap : Nat)
  | credit (opTag limit : Nat)
  | withdraw (opTag rank : Nat)
  | reArm (opTag rank lowest : Nat)
  | reSeal (opTag bitmap j0 : Nat)
  | keyReject (opTag : Nat)
  | linkFault (opTag : Nat)
  | nodeDown (m : Nat)
  | nodeUp (m : Nat)
  | join (m epoch crc : Nat)
  | e2eAck (chan key next : Nat)
  | e2eNak (chan key expected : Nat)
  | order (bytes : List Byte)
  | orderRefuse (order reason : Nat)
  | orderWithdraw (order : Nat)
  | shipDone (order : Nat)
  | slotUpdate (model slot st : Nat) (masked : Bool) (step microstep : Nat)
  deriving DecidableEq, Repr

/-- A packet (Table 12.3, with ROUTE of Table 13.4). -/
structure Packet where
  key : Nat
  ptype : Nat
  /-- PFLAGS.CLASS. -/
  cls : Nat
  /-- PFLAGS.FENCE. -/
  fence : Bool
  src : Nat
  dst : Nat
  mode : Nat
  phase : Bool
  via : Nat
  failover : Bool
  foreign : Bool
  ttl : Nat
  opTag : Nat
  e2e : Nat
  offset : Nat
  msg : Msg
  data : List Byte
  deriving DecidableEq, Repr

/-- LENGTH of Table 12.3. -/
def Packet.length (p : Packet) : Nat := p.data.length

/-- Flits a packet occupies: one HEAD, then DATA flits. -/
def Packet.flits (p : Packet) : Nat := ceilDiv (32 + p.length) 256

/-- The flit types that carry sequence numbers (Table 12.2). -/
inductive FlitType where
  | idle | head | data | abort
  deriving DecidableEq, Repr

/-- A sequenced flit (Table 12.2): its number, its acknowledgement, the credits it returns (class and count in flits),
the operation it belongs to, whether it is the last of its packet, and the packet whose flit it is. -/
structure Flit where
  ty : FlitType
  seq : Nat
  ack : Nat
  crd : Option (Nat × Nat)
  opTag : Nat
  last : Bool
  pkt : Option Packet
  deriving DecidableEq, Repr

/-- The capability message (Table 12.6). `parts` holds (KEY, DEFINED) by partition index. -/
structure Cap where
  ver : Nat
  mode : Nat
  build : Nat
  modId : Nat
  port : Nat
  expMod : Nat
  expPort : Nat
  width : Nat
  tick : Nat
  epochLen : Nat
  parts : List (Nat × Bool)
  deriving DecidableEq, Repr

/-- Link-level sends: CTRL flits (Table 12.4), training frames, replays and lane events. -/
inductive LinkMsg where
  | nak (seq : Nat)
  | fault
  | hold
  | widthReq (mask : Nat)
  | widthAck (mask : Nat)
  | cap (c : Cap)
  | capAck
  | capRefuse (reason : Nat)
  | flit (f : Flit)
  | train
  | dark
  deriving DecidableEq, Repr

end Sys2Proof.Machine
end

