-- ==== Sys2Proof/Syntax.lean ====
section
/-! DEFINITION. The commands of the block: one constructor per row of the opcode table, in its order, with the operands a
command brings from outside: what a port, a queue, a register write, a pin or a management request carries, and what
data, verdicts of cryptography and readings arrive with it. `t` is the time of the command in ns after the current tick
edge (before the first tick, after reset release). -/

namespace Sys2Proof

open Sys2Proof.Machine

/-- The commands (spec/opcode_table.json). -/
inductive Instr where
  /-- TICK_EDGE: The tick strobe is issued when the timescale reaches the next grid point, and the timed tick edge
  sequence of Table 1.4 then runs (R38) -/
  | tickEdge (readings : List Reading) (drawnUj : Nat)
  /-- FIRST_TICK: The first tick is issued at the first grid point after the configuration lock or after the source
  that sets the timescale, and SERVICEABLE follows at t+4.0 µs (R560) -/
  | firstTick (readings : List Reading)
  /-- MAINTENANCE_SLOT_OPEN: At t+S_m the maintenance slot opens, and the actions fixed to that instant take place
  (R28) -/
  | maintenanceSlotOpen
  /-- GRACE_DEADLINE: At t+G the tick guard aborts every item of the previous tick still running, and each
  completes with TICK_OVERRUN (R40) -/
  | graceDeadline
  /-- ITEM_START: An item starts on its lanes when its planned start arrives or, if later, when the preceding item
  on its lane finishes (R32) -/
  | itemStart (idx t : Nat)
  /-- WORK_ITEM_COMPLETE: A work item finishes, its status is decided and its completion record is written (R178)
  -/
  | workItemComplete (idx t : Nat)
  /-- OVERLAY_COMMIT: A write of TICK_OVL_CTRL.COMMIT submits the overlay, which is classified and then accepted or
  refused (R511) -/
  | overlayCommit (t : Nat)
  /-- REGISTER_WRITE: A write to a register with no row of its own takes effect as its access code allows, subject
  to the Fence (R13) -/
  | registerWrite (space : RegSpace) (off : Nat) (v : Word) (hi : Option Word) (src : Requester) (t : Nat)
  /-- BAR_REFUSED_ACCESS: A narrow, unaligned or poisoned BAR access completes successfully, returns all ones on a
  read, has no effect on a write, and is counted (R460) -/
  | barRefusedAccess (read : Bool) (bytes t : Nat)
  /-- SUPERVISOR_BUS_ERROR: A supervisor load or store outside its three regions returns a bus error and counts as
  a partition-crossing violation (R119) -/
  | supervisorBusError (addr t : Nat)
  /-- PPS_IN_EDGE: A PPS_IN edge is taken for qualification and measurement, or ignored when it falls off the 1 s
  grid (R56) -/
  | ppsInEdge (falling : Bool) (t : Nat)
  /-- PPS_IN_LOSS: No PPS_IN edge arrives within 1 µs after an expected edge, so PPS_IN is lost (R56) -/
  | ppsInLoss (t : Nat)
  /-- REF10M_QUALIFY: REF10M_IN qualifies after 1 s within ±5 ppm, changing source 0x2 to 0x1 while PPS_IN is
  selected (R57) -/
  | ref10mQualify (t : Nat)
  /-- REF10M_LOSS: REF10M_IN is lost after 1 µs without transitions, and source 0x1 changes to 0x2 (R57) -/
  | ref10mLoss (t : Nat)
  /-- PTP_SYNC_RX: A PTP Sync message is timestamped and counts toward qualification and the next measurement (R58)
  -/
  | ptpSyncRx (interval : Nat) (rawOffset : Int) (t : Nat)
  /-- PTP_ANNOUNCE_RX: A PTP Announce is taken for qualification and for the UTC offset and leap indicators (R62)
  -/
  | ptpAnnounceRx (interval domain : Nat) (traceable : Bool) (clockClass : Nat) (utc : Int) (leap61 leap59 : Bool) (t : Nat)
  /-- PTP_LOSS: Three Sync intervals or three Announce intervals pass without a valid message, so PTP is lost (R58)
  -/
  | ptpLoss (t : Nat)
  /-- PTP_MEASUREMENT: At each whole second the mean offset of that second's valid Syncs becomes one measurement
  that steers the loop (R63) -/
  | ptpMeasurement (t : Nat)
  /-- REVERT_HOLD_OFF_EXPIRY: A higher-priority source that has stayed qualified for the revert hold-off replaces
  the selected source (R55) -/
  | revertHoldOffExpiry (t : Nat)
  /-- UNTRACEABLE_ENTRY: The freewheel bound exceeds the untraceable limit, and the quality becomes UNTRACEABLE
  (R65) -/
  | untraceableEntry (t : Nat)
  /-- LABEL_SUBMIT: A write to TBU_LABEL_HI submits the seconds count of the next PPS edge, or the label is ignored
  while PTP is qualified (R59) -/
  | labelSubmit (hi : Word)
  /-- SNAP: TBU_SNAP_CTRL.SNAP captures all four words of a time record at one instant (R73) -/
  | snap (t : Nat)
  /-- PPS_OUT_RISE: PPS_OUT rises at every whole second of reported time for 100 µs, unless it is squelched (R74)
  -/
  | ppsOutRise (t : Nat)
  /-- POWER_ON: V3P3_AUX enters its window and the standby domain starts, with the main domain held in reset (R544)
  -/
  | powerOn
  /-- RESET_N_ASSERT: RESET_N held low for at least 1 ms starts a module reset, which clears all volatile state
  (R544) -/
  | resetNAssert (lowNs : Nat)
  /-- RESET_RELEASE: The rise of RESET_N latches the straps and starts the boot ROM, flash discovery and HBM3E
  training (R92) -/
  | resetRelease (g1 : Bool) (bootSel modId : Nat) (sfdpOk : Bool) (t : Nat)
  /-- FLASH_READ_TIMEOUT: A flash read that does not complete within 1 ms counts as a flash read error for every
  slot (R95) -/
  | flashReadTimeout (t : Nat)
  /-- IMAGE_READ_COMPLETE: The slot image has been read and hashed, and its signature, digests and load checks are
  verified (R103) -/
  | imageReadComplete (pub : List Byte) (t : Nat)
  /-- LOAD_COMPLETE: The tables and control stores are loaded, the microcode lock is taken, and supervisor firmware
  starts (R107) -/
  | loadComplete
  /-- HW_TRAINING_COMPLETE: HBM3E and C-die training ends, and a failure leaves the device in HW_FAIL (R116) -/
  | hwTrainingComplete (failed t : Nat)
  /-- FW_INIT_BUDGET_EXPIRY: Supervisor firmware has not set READY within FW_INIT_BUDGET, so the slot fails at boot
  or the restart counts as failed (R111) -/
  | fwInitBudgetExpiry (t : Nat)
  /-- PORT_BRINGUP_START: Port p starts its own bring-up 0.5 ms × p after the microcode lock (R304) -/
  | portBringupStart (n : Nat)
  /-- SUP_READY: Supervisor firmware writes SUP_STATUS.READY, which opens HOST_WINDOW at boot or ends a restart
  (R516) -/
  | supReady (ready : Bool)
  /-- CONFIG_LOCK: A write of HST_BOOT_CTRL.LOCK in HOST_WINDOW takes the configuration lock (R108) -/
  | configLock (t : Nat)
  /-- LOCK_WINDOW_EXPIRY: LOCK_WINDOW ends and the configuration lock takes place (R108) -/
  | lockWindowExpiry (t : Nat)
  /-- CONFIRM: HST_BOOT_CTRL.CONFIRM marks the booted slot CONFIRMED and may raise the fused minimum SVN (R98) -/
  | confirm
  /-- COMPARATOR_MISMATCH: The lockstep comparator finds a mismatch, discards the outputs of that cycle and resets
  the supervisor alone (R122) -/
  | comparatorMismatch (t : Nat)
  /-- DELAY_PARITY_ERROR: A parity error in a delay-register byte outside the self-test declares CHECK_LOST without
  resetting the supervisor (R124) -/
  | delayParityError (t : Nat)
  /-- COMPARATOR_SELF_TEST: At epoch position 1 the comparator and delay-register parity are tested during a
  72-cycle stall (R123) -/
  | comparatorSelfTest (lane : Option Nat) (parityMissed : Bool) (t : Nat)
  /-- WATCHDOG_FIRE: At t+4.0 µs of the strobe that brought the count to W with no valid kick, the watchdog fires
  (R137) -/
  | watchdogFire (mismatch : Bool) (t : Nat)
  /-- WATCHDOG_KICK: A write to SUP_WDOG_KICK with the current TICK_SEQ low bits returns the count to 0, and any
  other value is counted as bad (R138) -/
  | watchdogKick (v : Word)
  /-- SUPERVISOR_ENTRY: Within 200 µs of a supervisor-alone reset, the main core starts at the SUPERVISOR_FW entry
  point (R139) -/
  | supervisorEntry
  /-- SUP_RELEASE: SUP_CTRL.RELEASE starts one more restart of a held supervisor (R142) -/
  | supRelease
  /-- FENCE_PART_ACTIVE_WRITE: A write of FENCE_PART_ACTIVE schedules partition activation or deactivation for an
  epoch edge, with refusals under CHECK_LOST (R518) -/
  | fencePartActiveWrite (v : Word) (t : Nat)
  /-- EGRESS_CAP_WRITE: A write of FENCE_EGRESS_CAP_p at or below its ceiling is accepted for the next tick edge,
  and one above it is refused whole (R133) -/
  | egressCapWrite (p : Nat) (v : Word) (t : Nat)
  /-- TABLE_RELOAD_COMPLETE: A failed-closed table entry finishes its reload from flash, or is retried once and
  then left failed closed (R441) -/
  | tableReloadComplete (entry : Nat) (passed : Bool)
  /-- PACKET_ARRIVE: A packet's HEAD flit arrives at an Aethil port, is key-checked, and is delivered, forwarded or
  discarded (R153) -/
  | packetArrive (n : Nat) (p0 : Packet) (t : Nat)
  /-- KEY_REJECT_NOTICE_RX: A received key-reject notice completes the named operation with KEY_REJECT (R155) -/
  | keyRejectNoticeRx (tag reason t : Nat)
  /-- QUEUE_ENABLE: WQ_Q_CTRL.ENABLE enables the queue if its configuration, ownership and windows are valid, and
  sets CFG_ERR otherwise (R165) -/
  | queueEnable (q t : Nat)
  /-- QUEUE_SHUTDOWN: WQ_Q_CTRL.SHUTDOWN moves the queue to STOPPING until the next admission gate (R181) -/
  | queueShutdown (q : Nat)
  /-- QUEUE_RESET: WQ_Q_CTRL.RESET makes its write the shutdown point, aborts every posted entry and resets the
  queue (R182) -/
  | queueReset (q t : Nat)
  /-- QUEUE_INVALIDATE: WQ_Q_CTRL.INVALIDATE discards the untaken cached entries and starts a re-fetch in ring
  order (R176) -/
  | queueInvalidate (q t : Nat)
  /-- INVALIDATE_COMPLETE: The invalidate finishes within 2 µs, INV_BUSY clears, and any deferred doorbell takes
  effect (R176) -/
  | invalidateComplete (q t : Nat)
  /-- ABORTED_RECORDS_WRITE: ABORTED records are written in ring order once released CQ space exists (R183) -/
  | abortedRecordsWrite (q t : Nat)
  /-- DOORBELL_SQ_TAIL: A write of WQ_DB_SQ_TAIL is accepted, refused or answered NOT_READY, and accepted entries
  are fetched into the cache (R171) -/
  | doorbellSqTail (q : Nat) (v : Word) (t : Nat)
  /-- DOORBELL_CQ_HEAD: A write of WQ_DB_CQ_HEAD releases completion records if it moves the head forward validly
  (R173) -/
  | doorbellCqHead (q : Nat) (v : Word) (t : Nat)
  /-- NOP: A NOP descriptor is checked as it enters the cache and completes OK at the admission gate of its target
  tick (R170) -/
  | nop (q : Nat) (raw : List Byte) (t : Nat)
  /-- COMPUTE: A COMPUTE descriptor runs its kernel object on every core named in LANES at the item's planned start
  (R32) -/
  | compute (idx : Nat) (accesses : List (Bool × Nat × List Byte)) (t : Nat)
  /-- COPY: A COPY descriptor has its whole ranges checked by the Fence, and then the DMA engine copies the bytes
  (R473) -/
  | copy (idx t : Nat)
  /-- BARRIER: A BARRIER completes OK at the first admission gate at which every earlier entry of its queue has
  completed (R170) -/
  | barrier (q : Nat) (raw : List Byte) (t : Nat)
  /-- ALL_REDUCE: A collective that reduces COUNT elements over all ranks and delivers the result to every member
  (R212) -/
  | allReduce (idx : Nat) (others : List (Nat × List Byte)) (t : Nat)
  /-- REDUCE: A collective that reduces COUNT elements over all ranks and delivers the result to the root only
  (R212) -/
  | reduce (idx : Nat) (others : List (Nat × List Byte)) (t : Nat)
  /-- REDUCE_SCATTER: A collective that reduces over all ranks and delivers shard r of the result to rank r (R212)
  -/
  | reduceScatter (idx : Nat) (others : List (Nat × List Byte)) (t : Nat)
  /-- ALL_GATHER: A collective that delivers every rank's source into n slots on every member (R212) -/
  | allGather (idx : Nat) (others : List (Nat × List Byte)) (t : Nat)
  /-- GATHER: A collective that delivers every rank's source into n slots on the root (R212) -/
  | gather (idx : Nat) (others : List (Nat × List Byte)) (t : Nat)
  /-- SCATTER: A collective that sends slot j of the root's source to rank j (R212) -/
  | scatter (idx : Nat) (others : List (Nat × List Byte)) (t : Nat)
  /-- BROADCAST: A collective that copies the root's COUNT elements to every member (R212) -/
  | broadcast (idx : Nat) (others : List (Nat × List Byte)) (t : Nat)
  /-- ALL_TO_ALL: A collective in which each member sends block j to rank j and receives block j from rank j (R212)
  -/
  | allToAll (idx : Nat) (others : List (Nat × List Byte)) (t : Nat)
  /-- SEND: A collective that sends COUNT elements to the peer of a two-member group (R213) -/
  | send (idx t : Nat)
  /-- RECV: A collective that receives COUNT elements from the peer of a two-member group (R213) -/
  | recv (idx : Nat) (others : List (Nat × List Byte)) (t : Nat)
  /-- STREAM: A collective in which the root sends chunks in order and each non-root sets a chunk flag per chunk
  received (R231) -/
  | stream (idx c : Nat) (data : List Byte) (t : Nat)
  /-- SERVE_SUBMIT: A serving request is cached and taken for admission at an eligible admission gate (R379) -/
  | serveSubmit (q : Nat) (raw : List Byte) (t : Nat)
  /-- SERVE_CANCEL: A cancel is taken as soon as it is cached, masks or ends the matching live request, and
  completes OK (R378) -/
  | serveCancel (q : Nat) (raw : List Byte) (t : Nat)
  /-- SERVE_PAUSE: A pause moves the target slot out of the batch at the end of its current step or chunk, to cold
  or summary storage (R400) -/
  | servePause (q : Nat) (raw : List Byte) (t : Nat)
  /-- SERVE_RESUME: A resume that passes the memory claim and time test restores a paused request from cold pages
  or summary (R404) -/
  | serveResume (q : Nat) (raw : List Byte) (t : Nat)
  /-- HOST_READ_COMPLETION: A PCIe read completion arrives and is written if its tag slot and generation match, or
  dropped as late (R187) -/
  | hostReadCompletion (tag : Nat) (fail : Option ReadFail) (data : List Byte) (t : Nat)
  /-- COMPLETION_TIMEOUT: A host read times out, and its entry completes with POISONED with its other reads
  abandoned (R186) -/
  | completionTimeout (k t : Nat)
  /-- TAG_QUARANTINE_END: A quarantined read tag slot rejoins the round-robin after 2 × the completion timeout
  (R188) -/
  | tagQuarantineEnd (k : Nat)
  /-- FLAG_SET: A SET reaching a flag's home sets it, releasing the waiters, or overflows (R200) -/
  | flagSet (issuer flag t : Nat)
  /-- FLAG_CLEAR: A CLEAR reaching a flag's home clears it, or underflows and aborts its issuer (R205) -/
  | flagClear (issuer flag t : Nat)
  /-- FLAG_WAIT: A WAIT stalls its issuer until the flag reads 1, leaving the flag unchanged (R197) -/
  | flagWait (issuer flag t : Nat)
  /-- FLAG_WAIT_CLR: A WAIT_CLR stalls until the flag reads 1 and clears it in the cycle of its release (R200) -/
  | flagWaitClr (issuer flag t : Nat)
  /-- TILE_SET: A matrix unit's tile SET on a TILE flag announces a completed tile, and any other flag aborts the
  item (R204) -/
  | tileSet (core flag t : Nat)
  /-- WAITER_RELEASE: A release reaches a waiting core or spoke after its exact latency, and the waiter resumes
  (R201) -/
  | waiterRelease (issuer t : Nat)
  /-- MANUAL_SET: A SYNC_DBG_OP SET checked by the Fence sets the flag without fault and is audited (R208) -/
  | manualSet (flag part : Nat) (src : Requester) (t : Nat)
  /-- MANUAL_CLEAR: A SYNC_DBG_OP CLEAR checked by the Fence clears the flag without fault and is audited (R208) -/
  | manualClear (flag part : Nat) (src : Requester) (t : Nat)
  /-- ARM_MESSAGE_RX: An arm message reaches the order root with its signature and counts (R226) -/
  | armMessageRx (stream : Nat) (a : ArmMsg) (t : Nat)
  /-- ARM_STEP_TIMEOUT: The step timeout after the planned start expires, and members whose arm did not arrive are
  left out of the seal (R226) -/
  | armStepTimeout (stream t : Nat)
  /-- SEAL_RX: A member or node receives the seal or a re-seal and holds it for the start of the data phase (R258)
  -/
  | sealRx (stream bitmap sGran : Nat) (counts : List Nat) (reSeal : Option Nat) (t : Nat)
  /-- DATA_PHASE_START: At planned start + λ, with the seal held, the data phase begins at every member (R258) -/
  | dataPhaseStart (stream t : Nat)
  /-- SEGMENT_RX: A collective segment arrives at a hub, and is held, combined or forwarded in fold order, or
  discarded without credit (R253) -/
  | segmentRx (stream pos src seg : Nat) (inAcc : Bool) (data : List Byte) (result : Option Nat) (t : Nat)
  /-- SEGMENT_CREDIT_RX: A segment credit arrives and lets a waiting SEND of that segment proceed (R253) -/
  | segmentCreditRx (stream dir peer seg : Nat)
  /-- WITHDRAW_NOTICE_RX: A withdraw notice arrives at a tree hub, and its member is declared missing (R232) -/
  | withdrawNoticeRx (stream rank src t : Nat)
  /-- DATA_STEP_TIMEOUT: An expected non-streamed contribution does not arrive within the step timeout, so its
  member is lost after the seal (R240) -/
  | dataStepTimeout (stream rank t : Nat)
  /-- RE_ARM_RX: A re-arm message up the alternate tree reaches the new order root with its lowest unwritten
  segment (R345) -/
  | reArmRx (stream rank lowest t : Nat)
  /-- TREE_RESUME: 0.5 µs after the last re-arm reached the order root, the data phase resumes from segment j0
  (R345) -/
  | treeResume (stream j0 t : Nat)
  /-- MICRO_NOP: A microword with OP NOP does nothing and chooses its successor by BR (R268) -/
  | microNop (idx ecc t : Nat)
  /-- MICRO_LDI: A microword loads IMM into DST (R268) -/
  | microLdi (idx ecc t : Nat)
  /-- MICRO_LDCTX: A microword loads a context field into DST, reading 0 before the field is valid (R271) -/
  | microLdctx (idx ecc t : Nat)
  /-- MICRO_ADD: A microword sets DST to SRCA + B modulo 2⁶⁴ (R269) -/
  | microAdd (idx ecc t : Nat)
  /-- MICRO_SUB: A microword sets DST to SRCA − B modulo 2⁶⁴ (R269) -/
  | microSub (idx ecc t : Nat)
  /-- MICRO_AND: A microword sets DST to SRCA AND B (R269) -/
  | microAnd (idx ecc t : Nat)
  /-- MICRO_OR: A microword sets DST to SRCA OR B (R269) -/
  | microOr (idx ecc t : Nat)
  /-- MICRO_SHL: A microword shifts SRCA left by bits [5:0] of B (R269) -/
  | microShl (idx ecc t : Nat)
  /-- MICRO_SHR: A microword shifts SRCA right by bits [5:0] of B, filling with zeros (R269) -/
  | microShr (idx ecc t : Nat)
  /-- MICRO_GRANT: A microword grants credit for segment SRCA to the positions in its mask (R253) -/
  | microGrant (idx ecc t : Nat)
  /-- MICRO_READ: A microword issues a read of segment or tile SRCA of the member's source into the OWN slot (R283)
  -/
  | microRead (idx ecc t : Nat)
  /-- MICRO_COMB: A microword issues a combine of an operand slot into the accumulator slot, or a copy when FIRST
  is set (R224) -/
  | microComb (idx ecc t : Nat)
  /-- MICRO_FILL: A microword fills a slot for segment SRCA with identity or the poison pattern (R280) -/
  | microFill (idx ecc t : Nat)
  /-- MICRO_SEND: A microword, with its commit, issues a send of a slot's segment up, down or to a peer (R282) -/
  | microSend (idx ecc t : Nat)
  /-- MICRO_WRITE: A microword, with its commit, issues a write of a slot's segment to the destination (R282) -/
  | microWrite (idx ecc t : Nat)
  /-- MICRO_SETF: A microword, with its commit, performs a SET on flag CARG (R282) -/
  | microSetf (idx ecc t : Nat)
  /-- MICRO_CLRF: A microword, with its commit, performs a CLEAR on flag CARG (R282) -/
  | microClrf (idx ecc t : Nat)
  /-- MICRO_END: A microword ends the routine and completes the item with the decided status or a microcode subcode
  (R270) -/
  | microEnd (idx ecc t : Nat)
  /-- ENGINE_OP_COMPLETE: An engine operation issued by a spoke finishes in the hub engines, and the slot
  conditions it affects become true (R254) -/
  | engineOpComplete (stream k t : Nat)
  /-- WAIT_CONDITION_TRUE: A spoke stalled at a word sees its condition true and executes the word, starting
  lock-step timing and claims at the first DATA_START (R272) -/
  | waitConditionTrue (idx t : Nat)
  /-- SPOKE_RESTART: Six cycles after a restart cause, the routine resumes at its last commit with the snapshot
  registers, or at its entry (R279) -/
  | spokeRestart (idx : Nat)
  /-- CS_BLOCK_RELOAD_COMPLETE: A control-store block reload from flash finishes its CRC check and rewrites the
  block, or is retried and then marked BAD (R288) -/
  | csBlockReloadComplete (h blk : Nat) (flashOk : Bool) (t : Nat)
  /-- FLIT_RX: A flit is accepted if its CRC and SEQ are right and discarded otherwise, with a NAK at the first
  discard (R299) -/
  | flitRx (n : Nat) (crcOk : Bool) (f : Flit) (fec : Nat × Nat) (t : Nat)
  /-- NAK_RX: A NAK makes the transmitter retransmit every kept flit from the one named (R300) -/
  | nakRx (n q t : Nat)
  /-- ACK_TIMER_EXPIRY: The oldest unacknowledged flit has been held for 2 µs, so replay starts from it (R300) -/
  | ackTimerExpiry (n t : Nat)
  /-- REPLAY_BUDGET_EXPIRY: 9 µs after a fault opened, the replay budget is exhausted, FAULT is sent and the port
  enters FAULTED (R301) -/
  | replayBudgetExpiry (n t : Nat)
  /-- FAULT_RX: A FAULT CTRL flit received makes the port FAULTED (R302) -/
  | faultRx (n t : Nat)
  /-- ABORT_FLIT_RX: A packet ending in ABORT is discarded and handled as a receive-side LINK_FAULT (R298) -/
  | abortFlitRx (n : Nat) (p : Packet) (t : Nat)
  /-- SIGNAL_LOSS: A port loses signal, enters FAULTED or DOWN, and the fabric routes around it (R337) -/
  | signalLoss (n : Nat) (lost : Bool) (t : Nat)
  /-- TRAINING_FRAME_RX: A partner training frame is answered with HOLD before the microcode lock, or trained
  against afterwards (R304) -/
  | trainingFrameRx (n : Nat)
  /-- HOLD_RX: A received HOLD makes the port repeat its training request every 1 ms (R304) -/
  | holdRx (n : Nat)
  /-- HOLD_RETRY: 1 ms after a HOLD, the port repeats its training request (R304) -/
  | holdRetry (n : Nat)
  /-- BRINGUP_COMPLETE: Training phases 1–4 end at width 4, 3 or 2 and capability exchange starts, or bring-up
  fails to DOWN (R305) -/
  | bringupComplete (n mask : Nat)
  /-- CAP_RX: A partner's CAP message is checked in order, and CAP_ACK or CAP_REFUSE is sent (R306) -/
  | capRx (n : Nat) (c : Cap) (t : Nat)
  /-- CAP_ACK_RX: A received CAP_ACK after both ends pass moves the port to READY (R306) -/
  | capAckRx (n : Nat)
  /-- CAP_REFUSE_RX: A received CAP_REFUSE moves the port to REFUSED (R306) -/
  | capRefuseRx (n reason t : Nat)
  /-- WIDTH_REQ_RX: A width change request pauses the flit stream for 64 ns and is answered by WIDTH_ACK (R308) -/
  | widthReqRx (n mask t : Nat)
  /-- WIDTH_ACK_RX: A width acknowledgement completes a width change of a joined port (R308) -/
  | widthAckRx (n mask t : Nat)
  /-- PORT_RETRAIN_TIMER: A FAULTED port retrains at once and then every 100 ms, up to 8 consecutive failures
  (R305) -/
  | portRetrainTimer (n : Nat)
  /-- PORT_RETRY: LNK_PORT_CTRL.RETRY restarts training of a port that stayed FAULTED after 8 failures (R305) -/
  | portRetry (n : Nat)
  /-- LINK_FAULT_NOTICE_RX: A LINK_FAULT notice completes the originated operation with LINK_FAULT, or starts a
  resend of a channel flow (R310) -/
  | linkFaultNoticeRx (tag t : Nat)
  /-- BRIDGE_FAIL: The die-to-die bridge exhausts its budget or loses signal, and cross-die traffic moves to the
  detour (R314) -/
  | bridgeFail (tx rx : List Packet) (t : Nat)
  /-- BRIDGE_RETRAIN: Every 100 ms the failed bridge retrains, and a success awaits the next epoch edge (R318) -/
  | bridgeRetrain (ok : Bool)
  /-- NODE_DOWN_RX: A NODE_DOWN notice is forwarded once and switches routing to the failover entry of the lost
  module (R339) -/
  | nodeDownRx (n m t : Nat)
  /-- NODE_UP_RX: A NODE_UP flood restores primary routes and admits the module to collectives from t+S_m (R351) -/
  | nodeUpRx (n m t : Nat)
  /-- JOIN_RX: A partner's JOIN with the same epoch and MODULES CRC joins the port, and a different CRC refuses the
  handshake (R349) -/
  | joinRx (n m epoch crc t : Nat)
  /-- E2E_ACK_RX: An end-to-end acknowledgement releases the origin's kept packets of a flow (R330) -/
  | e2eAckRx (key chan dst next t : Nat)
  /-- E2E_NAK_RX: An end-to-end NAK makes the origin resend from the oldest unacknowledged packet (R330) -/
  | e2eNakRx (key chan dst t : Nat)
  /-- E2E_ACK_TIMER: 1 µs after the oldest packet not yet acknowledged, the destination sends a cumulative
  acknowledgement (R329) -/
  | e2eAckTimer (key chan src : Nat)
  /-- E2E_TIMEOUT: The channel's end-to-end timeout passes without progress, so the origin resends or spends its
  resend budget (R330) -/
  | e2eTimeout (key chan dst t : Nat)
  /-- INGEST_FRAME_RX: An ingest frame's last byte arrives and the Tally unit runs its ordered checks, writing an
  entry, forwarding or discarding (R366) -/
  | ingestFrameRx (n : Nat) (fr : List Byte) (t : Nat)
  /-- INGEST_LINK_DOWN: An ingest port loses link and raises LINK_DOWN with ALERT_N (R372) -/
  | ingestLinkDown (n t : Nat)
  /-- TLY_STREAM_WRITE: A host write of a stream entry in HOST_WINDOW takes effect, or is refused and sets
  ENTRY_REFUSED (R371) -/
  | tlyStreamWrite (idx w : Nat) (v : Word) (src : Requester) (t : Nat)
  /-- TLY_FWD_HEAD_WRITE: A write of TLY_FWD_HEAD_n releases forward-ring slots if it stays within the written
  slots (R524) -/
  | tlyFwdHeadWrite (n : Nat) (v : Word)
  /-- LDG_ADMIT: A write of LDG_ADMIT allocates a slot and its pages together or neither, and reports the result
  (R380) -/
  | ldgAdmit (v : Word) (t : Nat)
  /-- LDG_ORDER_ADMIT: A write of LDG_ORDER_ADMIT admits the oldest queued order of a PREFILL model (R410) -/
  | ldgOrderAdmit (v : Word) (t : Nat)
  /-- OUTPUT_RING_ENABLE: A write of LDG_OUT_CFG_p.ENABLE = 1 enables the output ring only if its span and vector
  are valid (R395) -/
  | outputRingEnable (p : Nat) (v : Word)
  /-- LDG_OUT_HEAD_WRITE: A write of LDG_OUT_HEAD_p releases batch slots if it stays within the written slots
  (R524) -/
  | ldgOutHeadWrite (p : Nat) (v : Word)
  /-- MICROSTEP_BOUNDARY: At a microstep boundary the batch mask is read, the MSUM masks are written, and pending
  slot updates apply (R387) -/
  | microstepBoundary (m : Nat)
  /-- DECODE_STEP_END: A decode, draft or verify step ends; tokens are selected, the batch is written, and ended
  slots are freed (R393) -/
  | decodeStepEnd (idx : Nat) (rows : List (Nat × List (List Nat))) (t : Nat)
  /-- PREFILL_CHUNK_END: A prefill chunk completes, and a prompt-completing chunk moves the slot to DECODE or to
  shipping (R375) -/
  | prefillChunkEnd (idx : Nat) (logits : List Nat) (t : Nat)
  /-- SLOT_UPDATE_RX: A slot update from the lead is applied at its named microstep, or late at the next boundary
  (R391) -/
  | slotUpdateRx (m k st : Nat) (masked : Bool) (step microstep t : Nat)
  /-- PAUSE_TTL_EXPIRY: A paused slot's TTL reaches 0 at the admission gate, and the request ends CANCELLED with
  EXPIRED (R403) -/
  | pauseTtlExpiry (k t : Nat)
  /-- COLD_PAUSE_COMPLETE: The last cold-pause page write is issued, the pages return to the pool, and the PAUSE
  completes (R401) -/
  | coldPauseComplete (k t : Nat)
  /-- SUMMARY_STORE_COMPLETE: The summary kernel has stored its pages and freed the rest, and the slot enters
  PAUSED_SUMMARY (R402) -/
  | summaryStoreComplete (idx t : Nat)
  /-- COLD_RESUME_COMPLETE: The pages have been read back from the host buffer and the slot enters DECODE, or ends
  POISONED (R404) -/
  | coldResumeComplete (k : Nat) (fail : Option ReadFail) (t : Nat)
  /-- ORDER_RX: A prefill order arrives at the prefill lead and is queued or refused with a notice (R410) -/
  | orderRx (bytes : List Byte) (src key t : Nat)
  /-- ORDER_REFUSE_NOTICE_RX: The decode lead receives an order refusal and ends the request NOT_ADMITTED (R410) -/
  | orderRefuseNoticeRx (k reason t : Nat)
  /-- ORDER_QUEUE_TIMEOUT: An order still queued SHIP_LIMIT ticks after arrival is refused (R411) -/
  | orderQueueTimeout (m t : Nat)
  /-- KV_SHIP_COMPLETE: The last KV page is written and acknowledged, and the decode slot enters DECODE at the next
  gate (R413) -/
  | kvShipComplete (k : Nat) (pages : List Byte) (token : Option Nat) (autoSt t : Nat)
  /-- KV_SHIP_TIMEOUT: A ship not acknowledged within SHIP_LIMIT ticks ends its request with LINK_FAULT (R414) -/
  | kvShipTimeout (k t : Nat)
  /-- ORDER_WITHDRAW_RX: A withdraw from the decode lead drops the queued order, or stops its chunk or ship (R415)
  -/
  | orderWithdrawRx (src decSlot : Nat)
  /-- AUTO_LOAD: MSK_AUTO_CTRL LOAD starts validation of an automaton (R429) -/
  | autoLoad (n t : Nat)
  /-- AUTO_UNLOAD: MSK_AUTO_CTRL UNLOAD clears VALID when USERS is 0 (R429) -/
  | autoUnload (n t : Nat)
  /-- AUTO_VALIDATION_DONE: Automaton validation ends, VALID is set or the failure is reported, and BUSY clears
  (R429) -/
  | autoValidationDone (t : Nat)
  /-- ADAPTER_REGISTER: A write of MSK_ADAPTER_a word 0 registers, changes or removes the adapter, or is refused
  (R416) -/
  | adapterRegister (a : Nat) (v : Word) (t : Nat)
  /-- CHORE_START: At t+S_m+0.1 µs the background chores begin in the maintenance slot (R436) -/
  | choreStart (found : List Finding) (t : Nat)
  /-- CHORE_STOP: At t+S_f−0.1 µs the chores issue no new access, and they resume at the next slot (R436) -/
  | choreStop (t : Nat)
  /-- LANE_RECAL_START: At its scheduled tick a port removes one lane by WIDTH_REQ and starts re-adapting it (R443)
  -/
  | laneRecalStart (n : Nat)
  /-- LANE_RECAL_DONE: A lane's adaptation ends; it is returned by WIDTH_REQ, or stays out and the port is DEGRADED
  (R444) -/
  | laneRecalDone (n : Nat) (ok : Bool) (t : Nat)
  /-- LOG_PAGE_PROGRAM: The log chore programs one page of buffered records and keeps erased sectors ahead (R447)
  -/
  | logPageProgram
  /-- FLASH_OP_COMPLETE: A page program or sector erase completes, and a failed verify retires the sector (R449) -/
  | flashOpComplete (ok : Bool) (t : Nat)
  /-- TELEMETRY_SAMPLE: Every TELEM_PERIOD ticks one sample of the sensors and counters enters the telemetry ring
  (R452) -/
  | telemetrySample (t : Nat)
  /-- HW_TIMER_EXPIRY: A hardware timer reaches its COMPARE value, and its allocated owner acts on it (R528) -/
  | hwTimerExpiry (k : Nat)
  /-- FLR_PF0: A Function Level Reset of PF0 stops host access, resets the queues, ends Ledger requests and
  disables the rings (R465) -/
  | flrPf0 (t : Nat)
  /-- FLR_PF1: A Function Level Reset of PF1 resets only PF1's configuration and MCTP state (R466) -/
  | flrPf1
  /-- PERST_N_ASSERT: PERST_N low takes the PCIe link down and resets both functions, with PCIE_DOWN raised (R545)
  -/
  | perstNAssert (t : Nat)
  /-- PERST_N_DEASSERT: PERST_N rises and the PCIe link retrains (R545) -/
  | perstNDeassert
  /-- ATS_INVALIDATE_REQUEST: An ATS Invalidate Request stops the use of matching translations at once (R462) -/
  | atsInvalidateRequest (page count : Nat)
  /-- ATS_INVALIDATE_COMPLETE: After requests using the translations have left, the Invalidate Completion is sent
  within 20 µs (R462) -/
  | atsInvalidateComplete (page : Nat)
  /-- IDE_INTEGRITY_FAIL: The IDE stream fails an integrity check, enters Insecure and raises IDE_FAIL (R464) -/
  | ideIntegrityFail (t : Nat)
  /-- IDE_KM_K_SET_GO: A K_SET_GO switches the Link IDE stream to the alternate key set without losing a TLP (R463)
  -/
  | ideKmKSetGo (keySet : Nat)
  /-- SET_ENDPOINT_ID: The bus owner's Set Endpoint ID assigns an MCTP endpoint its EID (R475) -/
  | setEndpointId (ep eid : Nat)
  /-- GET_SENSOR_READING: A PLDM Type 2 request returns a sensor's reading, or ERROR_NOT_READY while the supervisor
  is absent (R477) -/
  | getSensorReading (ep id t : Nat)
  /-- SET_EVENT_RECEIVER: PLDM SetEventReceiver sets where platform events are sent (R478) -/
  | setEventReceiver (ep : Nat) (receiver : Option Nat)
  /-- POLL_FOR_PLATFORM_EVENT_MESSAGE: A poll returns a held platform event when no receiver is set (R478) -/
  | pollForPlatformEventMessage (ep : Nat)
  /-- REQUEST_UPDATE: PLDM RequestUpdate opens the one update session and clears the target slot's directory bits
  (R480) -/
  | requestUpdate (ep len t : Nat)
  /-- FIRMWARE_DATA_RX: A 1,024-byte firmware data chunk is written to the target slot (R480) -/
  | firmwareDataRx (data : List Byte) (t : Nat)
  /-- VERIFY_COMPLETE: At VerifyComplete the written image is checked against load checks 0x03–0x0F (R482) -/
  | verifyComplete (pub : List Byte) (t : Nat)
  /-- ACTIVATE_FIRMWARE: ActivateFirmware writes the target's directory entry PRESENT with the next sequence number
  (R483) -/
  | activateFirmware (ep t : Nat)
  /-- SPDM_GET_MEASUREMENTS: An SPDM measurement request returns indices 1–6, or Busy for index 5 before the
  configuration lock (R485) -/
  | spdmGetMeasurements (ep index : Nat)
  /-- SPDM_KEY_EXCHANGE: An SPDM KEY_EXCHANGE sets up a secure session, answered by hardware in every state (R484)
  -/
  | spdmKeyExchange (ep : Nat)
  /-- SPDM_CHALLENGE: An SPDM CHALLENGE is answered with the module identity signature (R484) -/
  | spdmChallenge (ep certSlot : Nat)
  /-- SPDM_GET_CERTIFICATE: An SPDM certificate request returns the slot 0 identity chain (R484) -/
  | spdmGetCertificate (ep certSlot : Nat)
  /-- LOG_READ: A write of HST_LOG_ADDR starts a 256-byte read of the log region and sets BUSY (R486) -/
  | logRead (v : Word)
  /-- LOG_READ_COMPLETE: The log data is in HST_LOG_DATA and BUSY clears (R486) -/
  | logReadComplete
  /-- PWR_LIMIT_WRITE: A write of PWR_LIMIT within range sets the ceiling for the next tick, and any other value is
  refused by the Fence (R529) -/
  | pwrLimitWrite (v : Word) (src : Requester) (t : Nat)
  /-- LIMITER_INTERVAL: At each 1 µs interval the limiter decides, from energy drawn so far, whether the interval
  is gated (R548) -/
  | limiterInterval (drawn t : Nat)
  /-- RAIL_FAULT: A rail outside its operating window for more than 10 µs sets RAIL_FAULT while the module keeps
  running (R539) -/
  | railFault (t : Nat)
  /-- RAIL_PROTECT_RESET: A rail outside its protect window, or a regulator over-current, starts a protective rail
  reset (R540) -/
  | railProtectReset
  /-- RAIL_HOLD_RELEASE: Both rails have been back in window for 20 ms, and the module boots (R540) -/
  | railHoldRelease (g1 : Bool) (bootSel modId : Nat) (sfdpOk : Bool) (t : Nat)
  /-- THERMAL_TRIP: A junction at 120 °C or a stack at 105 °C starts a protective thermal reset and drives
  THERMTRIP_N low (R554) -/
  | thermalTrip
  /-- THERMAL_HOLD_RELEASE: Every die below 90 °C and every stack below 85 °C for 1 s releases THERMTRIP_N and
  boots (R554) -/
  | thermalHoldRelease (g1 : Bool) (bootSel modId : Nat) (sfdpOk : Bool) (t : Nat)
  /-- ALARM_MIN_TIME_EXPIRY: The 10 ms minimum of an ALARM ball ends, and the ball follows its class bit (R537) -/
  | alarmMinTimeExpiry (ball : Nat)
  /-- TICK_COUNT_CLR: TICK_CTRL.COUNT_CLR zeroes the TICK counters (R51) -/
  | tickCountClr
  /-- TBU_COUNT_CLR: TBU_CTRL.COUNT_CLR zeroes the TBU counters (R79) -/
  | tbuCountClr
  /-- SUP_COUNT_CLR: SUP_CTRL.COUNT_CLR zeroes the SUP counters (R145) -/
  | supCountClr
  /-- FENCE_COUNT_CLR: FENCE_CTRL.COUNT_CLR zeroes the Fence refusal counters (R145) -/
  | fenceCountClr
  /-- FENCE_VLOG_CLR: FENCE_VLOG_CLR clears the violation log and VLOG_OVF (R129) -/
  | fenceVlogClr
  /-- PART_COUNT_CLR: PART_CTRL.COUNT_CLR zeroes the PART reject and notice counters (R163) -/
  | partCountClr
  /-- PART_LOG_CLR: PART_LOG_CLR clears both reject log registers and LOG_OVF (R160) -/
  | partLogClr
  /-- WQ_COUNT_CLR: WQ_CTRL.COUNT_CLR zeroes the WQ counters (R193) -/
  | wqCountClr
  /-- SYNC_COUNT_CLR: SYNC_CTRL.COUNT_CLR zeroes the SYNC counters (R211) -/
  | syncCountClr
  /-- SYNC_FAULT_LOG_CLR: SYNC_LOG_CLR bit 0 clears SYNC_FAULT_LOG and LOG_OVF (R205) -/
  | syncFaultLogClr
  /-- SYNC_AUDIT_WRAP_CLR: SYNC_LOG_CLR bit 1 clears AUDIT_WRAP (R209) -/
  | syncAuditWrapClr
  /-- HUB_COLL_COUNT_CLR: HUB_COLL_CTRL.COUNT_CLR zeroes the collective counters (R243) -/
  | hubCollCountClr
  /-- HUB_COLL_LOG_CLR: HUB_COLL_LOG_CLR clears the collective log and LOG_OVF (R240) -/
  | hubCollLogClr
  /-- HUB_COUNT_CLR: HUB_CTRL.COUNT_CLR zeroes the hub SRAM and credit counters (R264) -/
  | hubCountClr (h : Nat)
  /-- SPK_COUNT_CLR: SPK_CTRL.COUNT_CLR zeroes the spoke and control-store counters (R294) -/
  | spkCountClr (h : Nat)
  /-- SPK_LOG_CLR: SPK_LOG_CLR clears SPK_ILLEGAL_LOG (R285) -/
  | spkLogClr (h : Nat)
  /-- LNK_COUNT_CLR: LNK_CTRL.COUNT_CLR zeroes every LNK counter (R320) -/
  | lnkCountClr
  /-- LNK_LOG_CLR: LNK_LOG_CLR clears both fault log registers (R310) -/
  | lnkLogClr
  /-- FAB_COUNT_CLR: FAB_CTRL.COUNT_CLR zeroes the FAB counters (R355) -/
  | fabCountClr
  /-- TLY_COUNT_CLR: TLY_CTRL.COUNT_CLR zeroes the TLY counters (R372) -/
  | tlyCountClr
  /-- LDG_COUNT_CLR: LDG_CTRL.COUNT_CLR zeroes the LDG counters (R406) -/
  | ldgCountClr
  /-- MSK_COUNT_CLR: MSK_CTRL.COUNT_CLR zeroes the MSK counters (R434) -/
  | mskCountClr
  /-- BKG_COUNT_CLR: BKG_CTRL.COUNT_CLR zeroes the BKG counters (R455) -/
  | bkgCountClr
  /-- BKG_LOG_CLR: BKG_LOG_CLR clears both uncorrectable-error logs (R439) -/
  | bkgLogClr
  /-- HST_COUNT_CLR: HST_CTRL.COUNT_CLR zeroes the HST access, IDE and event-drop counters (R487) -/
  | hstCountClr
  /-- PWR_COUNT_CLR: PWR_CTRL.COUNT_CLR zeroes the PWR counters (R532) -/
  | pwrCountClr
  /-- SIGNAL_DETECT: A port in DOWN detects signal from its partner and starts bring-up again (R304) -/
  | signalDetect (n : Nat)
  /-- LANE_SIGNAL_LOSS: One lane of a joined port loses signal and is removed by a width change, making the port
  DEGRADED, or FAULTED below 2 lanes (R308) -/
  | laneSignalLoss (n lane t : Nat)
  /-- INGEST_LINK_UP: An ingest port regains link, TLY_STATUS.LINK_UP sets, and frames are accepted again (R356) -/
  | ingestLinkUp (n : Nat)
  /-- PCIE_LINK_UP: The PCIe link completes training, configuration space and BAR0 become available, and DL_UP sets
  (R456) -/
  | pcieLinkUp (rate width : Nat) (flit ats : Bool)
  /-- PCIE_LINK_DOWN: The PCIe link drops without PERST_N, PCIE_DOWN is raised, and reads in flight end under R186
  (R487) -/
  | pcieLinkDown (t : Nat)
  /-- PAIR_LO_READ: A read of the LO register of a 64-bit pair, or a 64-bit read, loads the requester's high-word
  latch (R507) -/
  | pairLoRead (off : Nat) (wide : Bool) (src : Requester) (t : Nat)
  /-- DESCRIPTOR_FETCH_COMPLETE: A descriptor fetch from a ring in module memory completes, and the entry is
  checked under Table 7.6 and cached, or an uncorrectable error faults the queue (R174) -/
  | descriptorFetchComplete (q idx : Nat) (ok : Bool) (t : Nat)
  /-- LEAP_SECOND: At the end of the UTC day the device applies a leap second, and UTC_IN_FORCE changes without
  moving the timescale (R62) -/
  | leapSecond
  /-- I3C_ENTDAA: The bus owner's first ENTDAA moves an I3C/SMBus management endpoint from SMBus target operation
  into I3C mode (R475) -/
  | i3cEntdaa (ep : Nat)
  deriving DecidableEq, Repr

end Sys2Proof
end

