-- ==== Sys2Proof/Decode.lean ====
section
/-! DEFINITION. Words as commands. The opcode table of this block gives no row any bits (every row's field list is
empty), so no word spells a command. -/

namespace Sys2Proof

/-- The command that a word spells by the table's bits: the table gives none of its rows bits, so none. -/
def decodeTableWord (_nbits _w : Nat) : Option Instr := none

end Sys2Proof
end

