-- ==== Sys2Proof/Machine/Numerics.lean ====
section
/-! DEFINITION. The arithmetic of the collectives (chapter 9): formats, accumulators, combines and the order of a
reduction. Floating point is exact dyadic arithmetic with one rounding at the end. -/

namespace Sys2Proof.Machine

/-! ## Floating-point values -/

/-- The value of a float: a NaN, an infinity, or ±m × 2^e (`neg` is the sign). -/
inductive FVal where
  | nan
  | inf (neg : Bool)
  | fin (neg : Bool) (m : Nat) (e : Int)
  deriving DecidableEq, Repr

/-- A float format: exponent and significand bits; `ofp8` marks E4M3, which has no infinity (Table 9.5). -/
structure FFmt where
  eb : Nat
  mb : Nat
  ofp8 : Bool
  deriving DecidableEq, Repr

/-- FP32. -/
def FFmt.fp32 : FFmt := { eb := 8, mb := 23, ofp8 := false }
/-- BF16. -/
def FFmt.bf16 : FFmt := { eb := 8, mb := 7, ofp8 := false }
/-- FP16. -/
def FFmt.fp16 : FFmt := { eb := 5, mb := 10, ofp8 := false }
/-- FP8 E4M3. -/
def FFmt.e4m3 : FFmt := { eb := 4, mb := 3, ofp8 := true }
/-- FP8 E5M2. -/
def FFmt.e5m2 : FFmt := { eb := 5, mb := 2, ofp8 := false }

/-- The exponent bias. -/
def FFmt.bias (f : FFmt) : Int := (2 ^ (f.eb - 1) : Nat) - 1

/-- The exponent of the last place of a subnormal. -/
def FFmt.emin (f : FFmt) : Int := 1 - f.bias - f.mb

/-- The value of an encoding. -/
def FFmt.decode (f : FFmt) (w : Nat) : FVal :=
  let neg := bitAt w (f.eb + f.mb)
  let e := bits w f.mb f.eb
  let m := bits w 0 f.mb
  if f.ofp8 then
    if e = 2 ^ f.eb - 1 ∧ m = 2 ^ f.mb - 1 then .nan
    else if e = 0 then .fin neg m f.emin else .fin neg (m + 2 ^ f.mb) (f.emin + e - 1)
  else if e = 2 ^ f.eb - 1 then (if m = 0 then .inf neg else .nan)
  else if e = 0 then .fin neg m f.emin
  else .fin neg (m + 2 ^ f.mb) (f.emin + e - 1)

/-- The canonical quiet NaN (R220). -/
def FFmt.qnan (f : FFmt) : Nat :=
  if f.ofp8 then 0x7F else (2 ^ f.eb - 1) * 2 ^ f.mb + 2 ^ (f.mb - 1)

/-- The sign bit in place. -/
def FFmt.signed (f : FFmt) (neg : Bool) (w : Nat) : Nat := b2n neg * 2 ^ (f.eb + f.mb) + w

/-- Where a magnitude ends up that is too large: ±∞, or ±448 in E4M3 (R221). -/
def FFmt.big (f : FFmt) : Nat :=
  if f.ofp8 then (2 ^ f.eb - 1) * 2 ^ f.mb + 2 ^ f.mb - 2 else (2 ^ f.eb - 1) * 2 ^ f.mb

/-- `m / 2^k` rounded to nearest, ties to even. -/
def roundShift (m k : Nat) : Nat :=
  let q := m / 2 ^ k
  let r := m % 2 ^ k
  if 2 * r > 2 ^ k ∨ (2 * r = 2 ^ k ∧ q % 2 = 1) then q + 1 else q

/-- A value encoded with one rounding to nearest, ties to even (R219, R221). -/
def FFmt.encode (f : FFmt) : FVal → Nat
  | .nan => f.qnan
  | .inf neg => f.signed neg f.big
  | .fin neg m e =>
    if m = 0 then f.signed neg 0
    else
      -- exponent of the last place kept
      let q : Int := max f.emin (Nat.log2 m + e - f.mb)
      let r := if q ≤ e then m * 2 ^ (e - q).toNat else roundShift m (q - e).toNat
      -- r counts units of 2^q; a carry into the next binade is absorbed by the encoding
      let biased : Nat := (q - f.emin).toNat
      let code := if r < 2 ^ f.mb then r else biased * 2 ^ f.mb + r
      f.signed neg (if code ≥ f.big then f.big else code)

/-- The exact sum of two floats, before rounding. -/
def FVal.add : FVal → FVal → FVal
  | .nan, _ => .nan
  | _, .nan => .nan
  | .inf a, .inf b => if a = b then .inf a else .nan
  | .inf a, _ => .inf a
  | _, .inf b => .inf b
  | .fin a m e, .fin b n g =>
    if m = 0 ∧ n = 0 then .fin (a && b) 0 0
    else
      let lo := min e g
      let x : Int := (if a then -1 else 1) * ((m * 2 ^ (e - lo).toNat : Nat) : Int)
      let y : Int := (if b then -1 else 1) * ((n * 2 ^ (g - lo).toNat : Nat) : Int)
      let z := x + y
      .fin (decide (z < 0)) z.natAbs lo

/-- Strictly less in the order of IEEE 754-2019 minimum and maximum, with −0 below +0 (NaNs apart). -/
def FVal.lt : FVal → FVal → Bool
  | .nan, _ => false
  | _, .nan => false
  | .inf a, .inf b => a && !b
  | .inf a, .fin _ _ _ => a
  | .fin _ _ _, .inf b => !b
  | .fin a m e, .fin b n g =>
    if m = 0 ∧ n = 0 then a && !b
    else
      let lo := min e g
      let x : Int := (if a then -1 else 1) * ((m * 2 ^ (e - lo).toNat : Nat) : Int)
      let y : Int := (if b then -1 else 1) * ((n * 2 ^ (g - lo).toNat : Nat) : Int)
      decide (x < y)

/-- The FP32 sum, rounded once (R219). -/
def fp32Add (a b : Nat) : Nat := FFmt.fp32.encode ((FFmt.fp32.decode a).add (FFmt.fp32.decode b))

/-- IEEE 754-2019 maximum in FP32; a NaN operand gives the canonical NaN (R220). -/
def fp32Max (a b : Nat) : Nat :=
  match FFmt.fp32.decode a, FFmt.fp32.decode b with
  | .nan, _ => FFmt.fp32.qnan
  | _, .nan => FFmt.fp32.qnan
  | x, y => if x.lt y then b else a

/-- IEEE 754-2019 minimum in FP32. -/
def fp32Min (a b : Nat) : Nat :=
  match FFmt.fp32.decode a, FFmt.fp32.decode b with
  | .nan, _ => FFmt.fp32.qnan
  | _, .nan => FFmt.fp32.qnan
  | x, y => if y.lt x then b else a

/-! ## Input formats and accumulators (Table 9.5) -/

/-- E, the bytes of an input element. -/
def fmtBytes (fmt : Nat) : Nat :=
  if fmt = 0 ∨ fmt = 5 then 4 else if fmt = 1 ∨ fmt = 2 then 2 else 1

/-- The float format of an IN_FMT code, none for an integer format. -/
def fmtFloat (fmt : Nat) : Option FFmt :=
  if fmt = 0 then some .fp32 else if fmt = 1 then some .bf16 else if fmt = 2 then some .fp16
  else if fmt = 3 then some .e4m3 else if fmt = 4 then some .e5m2 else none

/-- Bits of the accumulator: FP32, INT64 for INT32, INT32 for INT8, the byte itself for BYTE. -/
def accBits (fmt : Nat) : Nat := if fmt = 5 then 64 else if fmt = 7 then 8 else 32

/-- a of Table 10.3: accumulator size over input size (1 for data movement and for AND and OR on BYTE). -/
def accRatio (fmt redFn : Nat) : Nat := if redFn = 0 then 1 else (accBits fmt / 8) / fmtBytes fmt

/-- An input element converted exactly to its accumulator (R219, R220). -/
def toAcc (fmt w : Nat) : Nat :=
  match fmtFloat fmt with
  | some f => FFmt.fp32.encode (f.decode w)
  | none =>
    if fmt = 5 then (signed w 32 % (2 ^ 64 : Nat)).toNat
    else if fmt = 6 then (signed w 8 % (2 ^ 32 : Nat)).toNat
    else w

/-- An accumulator converted once to the output format (R221); `outAcc` keeps the accumulator. -/
def fromAcc (fmt : Nat) (outAcc : Bool) (w : Nat) : Nat :=
  match fmtFloat fmt with
  | some f => if outAcc then w else f.encode (FFmt.fp32.decode w)
  | none =>
    if outAcc then w
    else if fmt = 5 then
      ((max (-2147483648) (min 2147483647 (signed w 64))) % (2 ^ 32 : Nat)).toNat
    else if fmt = 6 then ((max (-128) (min 127 (signed w 32))) % (2 ^ 8 : Nat)).toNat
    else w

/-- Bytes of an output element. -/
def outBytes (fmt : Nat) (outAcc : Bool) : Nat := if outAcc then 4 else fmtBytes fmt

/-- The identity of a reduction function in the accumulator (Table 9.6). -/
def identity (fmt redFn : Nat) : Nat :=
  let isF := (fmtFloat fmt).isSome
  if redFn = 1 ∨ redFn = 6 then (if isF then 0x80000000 else 0)
  else if redFn = 2 then (if isF then 0xFF800000 else 2 ^ (accBits fmt - 1))
  else if redFn = 3 then (if isF then 0x7F800000 else 2 ^ (accBits fmt - 1) - 1)
  else if redFn = 4 then 2 ^ accBits fmt - 1
  else 0

/-- One combine in the accumulator (R219, R220). -/
def combine (fmt redFn a b : Nat) : Nat :=
  if (fmtFloat fmt).isSome then
    if redFn = 1 ∨ redFn = 6 then fp32Add a b else if redFn = 2 then fp32Max a b
    else if redFn = 3 then fp32Min a b else a
  else
    let n := accBits fmt
    if redFn = 1 ∨ redFn = 6 then (a + b) % 2 ^ n
    else if redFn = 2 then (if signed a n < signed b n then b else a)
    else if redFn = 3 then (if signed b n < signed a n then b else a)
    else if redFn = 4 then a &&& b
    else if redFn = 5 then a ||| b
    else a

/-! ## The order of a reduction (R223, R244) -/

/-- Runs of at most `k` values, in order. The first argument bounds the runs (any number not below the length does). -/
def runsOf (k : Nat) : Nat → List Nat → List (List Nat)
  | 0, _ => []
  | _ + 1, [] => []
  | n + 1, v :: vs => (v :: vs).take k :: runsOf k n ((v :: vs).drop k)

/-- A left fold of one run; a run of one value passes unchanged. -/
def foldRun (f : Nat → Nat → Nat) : List Nat → Nat
  | [] => 0
  | v :: vs => vs.foldl f v

/-- Levels of runs of `k` until one value is left; the first argument bounds the levels. -/
def foldLevels (k : Nat) (f : Nat → Nat → Nat) : Nat → List Nat → Nat
  | 0, vs => vs.headD 0
  | n + 1, vs =>
    match vs with
    | [] => 0
    | [v] => v
    | _ => foldLevels k f n ((runsOf k vs.length vs).map (foldRun f))

/-- The value of one element of a reduction over the ranks' contributions, in rank order: runs of four (R223), or pairs
under G1COMPAT (R244). -/
def reduceInOrder (g1 : Bool) (fmt redFn : Nat) (vs : List Nat) : Nat :=
  foldLevels (if g1 then 2 else 4) (combine fmt redFn) 6 vs

/-! ## CRC-32C (R359) -/

/-- One bit of the reflected CRC-32C. -/
def crcBit (c : Nat) : Nat := if c % 2 = 1 then (c / 2) ^^^ 0x82F63B78 else c / 2

/-- One byte of the reflected CRC-32C. -/
def crcByte (c : Nat) (b : Byte) : Nat :=
  let x := c ^^^ b.toNat
  crcBit (crcBit (crcBit (crcBit (crcBit (crcBit (crcBit (crcBit x)))))))

/-- CRC-32C with the parameters of Table 14.2. -/
def crc32c (bs : List Byte) : Nat := (bs.foldl crcByte 0xFFFFFFFF) ^^^ 0xFFFFFFFF

/-- One bit of the CRC-CCITT (polynomial 0x1021, not reflected). -/
def ccittBit (c : Nat) : Nat := if c ≥ 0x8000 then ((c * 2) % 65536) ^^^ 0x1021 else c * 2

/-- The CRC-CCITT of IEEE C37.118.2 (initial value 0xFFFF, log entry 8). -/
def crcCcitt (bs : List Byte) : Nat :=
  bs.foldl (fun c b =>
    let x := c ^^^ (b.toNat * 256)
    ccittBit (ccittBit (ccittBit (ccittBit (ccittBit (ccittBit (ccittBit (ccittBit x)))))))) 0xFFFF

end Sys2Proof.Machine
end

