-- ==== Sys2Proof/Config.lean ====
section
/-! DEFINITION. The free values of the model: constants without a body, applied to a plain counter of the state or to
the operands they depend on. No statement rests on a value of one of them. -/

namespace Sys2Proof.Config

/-- A value the spec leaves open, drawn at the n-th draw (`State.free` counts the draws). Log entry 3. -/
opaque freeNat : Nat → Nat

/-- An open choice between two outcomes, drawn at the n-th draw. Log entry 3. -/
opaque freeBool : Nat → Bool

/-- The word an open register or memory value reads as at the n-th draw. Log entry 3. -/
opaque freeWord : Nat → BitVec 32

/-- The frequency correction the discipline loop answers for its time constant (s), the offset (ns) and the correction in
force (0.001 ppb units), before the clamp of R63: the spec gives the loop's time constants but no transfer function.
Log entry 4. -/
opaque loopCorrection : Nat → Int → Int → Int

/-- How much of a tick's slew lies before an instant of it, by the slew (half ns), the length of the tick and the instant
(ns from the edge): R54 and R68 give the slew of a whole tick and not its course within the tick. Log entry 72. -/
opaque slewCourse : Int → Nat → Nat → Int

/-- How many group members lie below a hub that is not the order root, by tree and hub: the spec's own tables give a
module only its own nodes. Log entry 9. -/
opaque membersBelow : Nat → Nat → Nat

/-- The ranks below a hub of a tree, as a bitmap, by tree, module and hub, for the same reason. Log entry 9. -/
opaque ranksBelow : Nat → Nat → Nat → Nat

/-- The version and stepping of the boot ROM (measurement 1 of Table 4.14), which the spec does not state. Log entry 10. -/
opaque bootRom : Nat

/-- Measurement 5 (Table 4.14): straps, booted slot, SVN, IMAGE_ID and HST_IDENT in 16 bytes whose layout the spec does
not state. Log entry 10. -/
opaque measurement5 : Nat → Nat → Nat → Nat → Nat → List (BitVec 8)

/-- The module identity chain of certificate slot 0 (R484), provisioned at manufacture. Log entry 10. -/
opaque certificate : List (BitVec 8)

end Sys2Proof.Config
end

