-- ==== Sys2Proof/Machine/RegMap.lean ====
section
/-! DEFINITION. The register maps of chapters 20 and 21: every register of BAR0 with its offset, access code (Table
0.4), writable bits and reset value. A register that one name covers many times has its first offset, its stride and
its count. -/

namespace Sys2Proof.Machine

/-- The access codes of Table 0.4. -/
inductive Access where
  | ro | rw | w1c | w1s | wo | rwl
  deriving DecidableEq, Repr

/-- One row of a register map. `mask` has a 1 for every bit that a write reaches; `sup` marks the registers of Tables
20.2 and 21.2 (writable by supervisor firmware only). -/
structure RegRow where
  base : Nat
  stride : Nat
  count : Nat
  acc : Access
  mask : Nat
  reset : Nat
  sup : Bool
  deriving DecidableEq, Repr

/-- Whether a BAR0 offset is a register of this row. -/
def RegRow.has (r : RegRow) (off : Nat) : Bool :=
  decide (r.base ≤ off) && (off - r.base) % r.stride == 0 && decide ((off - r.base) / r.stride < r.count)

/-! ## Register offsets -/

def Reg.TBU_CFG : Nat := 0x100000
def Reg.TBU_LIMITS : Nat := 0x100004
def Reg.TBU_COMP : Nat := 0x100008
def Reg.TBU_QUALITY : Nat := 0x100010
def Reg.TBU_BOUND_NS : Nat := 0x100014
def Reg.TBU_OFFSET_NS : Nat := 0x100018
def Reg.TBU_FREQ_CORR : Nat := 0x10001C
def Reg.TBU_SNAP_CTRL : Nat := 0x100020
def Reg.TBU_SNAP (i : Nat) : Nat := 0x100024 + 4 * i
def Reg.TBU_FW_ELAPSED : Nat := 0x100034
def Reg.TBU_UTC_OFFSET : Nat := 0x100038
def Reg.TBU_LABEL_LO : Nat := 0x100040
def Reg.TBU_LABEL_HI : Nat := 0x100044
def Reg.TBU_SEED_LO : Nat := 0x100048
def Reg.TBU_SEED_HI : Nat := 0x10004C
def Reg.TBU_LAST_STEP_LO : Nat := 0x100050
def Reg.TBU_LAST_STEP_HI : Nat := 0x100054
def Reg.TBU_EVENT : Nat := 0x100058
def Reg.TBU_BOUND_EXCEED_COUNT : Nat := 0x10005C
def Reg.TBU_LABEL_IGNORED_COUNT : Nat := 0x100060
def Reg.TBU_CTRL : Nat := 0x100064
def Reg.TICK_CFG : Nat := 0x110000
def Reg.TICK_EPOCHCFG : Nat := 0x110004
def Reg.TICK_STATUS : Nat := 0x110008
def Reg.TICK_SEQ_LO : Nat := 0x110010
def Reg.TICK_SEQ_HI : Nat := 0x110014
def Reg.TICK_INDEX_LO : Nat := 0x110018
def Reg.TICK_INDEX_HI : Nat := 0x11001C
def Reg.TICK_EPOCH_LO : Nat := 0x110020
def Reg.TICK_EPOCH_HI : Nat := 0x110024
def Reg.TICK_STRETCH_NS : Nat := 0x110028
def Reg.TICK_LATE_COUNT : Nat := 0x110030
def Reg.TICK_OVERRUN_COUNT : Nat := 0x110034
def Reg.TICK_SKIP_COUNT : Nat := 0x110038
def Reg.TICK_SCHED_LATE_COUNT : Nat := 0x11003C
def Reg.TICK_SCHED_REJECT_COUNT : Nat := 0x110040
def Reg.TICK_CTRL : Nat := 0x110044
def Reg.TICK_EVENT : Nat := 0x110048
def Reg.TICK_OVL_CTRL : Nat := 0x110050
def Reg.TICK_OVL_COUNT : Nat := 0x110054
def Reg.TICK_OVL_TARGET_LO : Nat := 0x110058
def Reg.TICK_OVL_TARGET_HI : Nat := 0x11005C
def Reg.TICK_OVL_STATUS : Nat := 0x110060
def Reg.TICK_EPOCH_REC_0 : Nat := 0x110070
def Reg.TICK_EPOCH_REC_1 : Nat := 0x110074
def Reg.TICK_EPOCH_REC_2 : Nat := 0x110078
def Reg.TICK_EPOCH_REC_3 : Nat := 0x11007C
def Reg.TICK_OVL_WINDOW (i : Nat) : Nat := 0x118000 + 4 * i
def Reg.SUP_STATUS : Nat := 0x120000
def Reg.SUP_WDOG_CFG : Nat := 0x120004
def Reg.SUP_WDOG_KICK : Nat := 0x120008
def Reg.SUP_RESET_CAUSE : Nat := 0x12000C
def Reg.SUP_CHECK_STATUS : Nat := 0x120010
def Reg.SUP_FW_VERSION : Nat := 0x120014
def Reg.SUP_RESET_COUNT : Nat := 0x120020
def Reg.SUP_MISMATCH_COUNT : Nat := 0x120024
def Reg.SUP_KICK_BAD_COUNT : Nat := 0x120028
def Reg.SUP_OVERLAY_HELD_COUNT : Nat := 0x12002C
def Reg.SUP_CTRL : Nat := 0x120030
def Reg.FENCE_STATUS : Nat := 0x130000
def Reg.FENCE_EVENT : Nat := 0x130004
def Reg.FENCE_VLOG_0 : Nat := 0x130008
def Reg.FENCE_VLOG_1 : Nat := 0x13000C
def Reg.FENCE_VLOG_CLR : Nat := 0x130010
def Reg.FENCE_PART_ACTIVE : Nat := 0x130014
def Reg.FENCE_EGRESS_FLOOR : Nat := 0x130018
def Reg.FENCE_PART_INIT : Nat := 0x13001C
def Reg.FENCE_EGRESS_CEIL (i : Nat) : Nat := 0x130040 + 4 * i
def Reg.FENCE_EGRESS_CAP (i : Nat) : Nat := 0x130060 + 4 * i
def Reg.FENCE_EGRESS_USED_AETHIL (i : Nat) : Nat := 0x130080 + 8 * i
def Reg.FENCE_EGRESS_USED_PCIE (i : Nat) : Nat := 0x130084 + 8 * i
def Reg.FENCE_COUNT_PART : Nat := 0x1300C0
def Reg.FENCE_COUNT_TIME : Nat := 0x1300C4
def Reg.FENCE_COUNT_UCODE : Nat := 0x1300C8
def Reg.FENCE_COUNT_WINDOW : Nat := 0x1300CC
def Reg.FENCE_COUNT_LOCK : Nat := 0x1300D0
def Reg.FENCE_COUNT_EGRESS : Nat := 0x1300D4
def Reg.FENCE_CTRL : Nat := 0x1300E0
def Reg.PART_KEY (i : Nat) : Nat := 0x140000 + 4 * i
def Reg.PART_CFG : Nat := 0x140020
def Reg.PART_STATUS : Nat := 0x140024
def Reg.PART_EVENT : Nat := 0x140028
def Reg.PART_REJECT_LOG_0 : Nat := 0x140030
def Reg.PART_REJECT_LOG_1 : Nat := 0x140034
def Reg.PART_LOG_CLR : Nat := 0x140038
def Reg.PART_PORT_ALLOW (i : Nat) : Nat := 0x140040 + 4 * i
def Reg.PART_REJECT_PORT_COUNT (i : Nat) : Nat := 0x140080 + 4 * i
def Reg.PART_REJECT_HUB_COUNT : Nat := 0x1400C0
def Reg.PART_REJECT_SYNC_COUNT : Nat := 0x1400C4
def Reg.PART_NOTICE_TX_COUNT : Nat := 0x1400C8
def Reg.PART_NOTICE_RX_COUNT : Nat := 0x1400CC
def Reg.PART_CTRL : Nat := 0x1400E0
def Reg.WQ_STATUS : Nat := 0x200000
def Reg.WQ_EVENT : Nat := 0x200004
def Reg.WQ_LATE_CPL_COUNT : Nat := 0x200010
def Reg.WQ_DESC_INVALID_COUNT : Nat := 0x200014
def Reg.WQ_NOT_ADMITTED_COUNT : Nat := 0x200018
def Reg.WQ_ABORTED_COUNT : Nat := 0x20001C
def Reg.WQ_POISONED_COUNT : Nat := 0x200020
def Reg.WQ_DB_REFUSED_COUNT : Nat := 0x200024
def Reg.WQ_STANDING_UNREPORTED_COUNT : Nat := 0x200028
def Reg.WQ_TAG_QUARANTINED : Nat := 0x20002C
def Reg.WQ_CTRL : Nat := 0x200030
def Reg.WQ_Q_SQ_BASE_LO (i : Nat) : Nat := 0x201000 + 64 * i
def Reg.WQ_Q_SQ_BASE_HI (i : Nat) : Nat := 0x201004 + 64 * i
def Reg.WQ_Q_CQ_BASE_LO (i : Nat) : Nat := 0x201008 + 64 * i
def Reg.WQ_Q_CQ_BASE_HI (i : Nat) : Nat := 0x20100C + 64 * i
def Reg.WQ_Q_CFG (i : Nat) : Nat := 0x201010 + 64 * i
def Reg.WQ_Q_CTRL (i : Nat) : Nat := 0x201014 + 64 * i
def Reg.WQ_Q_STATUS (i : Nat) : Nat := 0x201018 + 64 * i
def Reg.WQ_Q_INDEX (i : Nat) : Nat := 0x20101C + 64 * i
def Reg.WQ_Q_CQ_HEAD (i : Nat) : Nat := 0x201020 + 64 * i
def Reg.WQ_Q_CACHE_IDX_0 (i : Nat) : Nat := 0x201024 + 64 * i
def Reg.WQ_Q_CACHE_IDX_1 (i : Nat) : Nat := 0x201028 + 64 * i
def Reg.WQ_Q_CACHE_IDX_2 (i : Nat) : Nat := 0x20102C + 64 * i
def Reg.WQ_Q_CACHE_IDX_3 (i : Nat) : Nat := 0x201030 + 64 * i
def Reg.WQ_CACHE (i : Nat) : Nat := 0x204000 + 4 * i
def Reg.WQ_DB_SQ_TAIL (i : Nat) : Nat := 0x280000 + 4096 * i
def Reg.WQ_DB_CQ_HEAD (i : Nat) : Nat := 0x280004 + 4096 * i
def Reg.WQ_DB_STATUS (i : Nat) : Nat := 0x280008 + 4096 * i
def Reg.SYNC_STATE (i : Nat) : Nat := 0x300000 + 4 * i
def Reg.SYNC_DBG_OP : Nat := 0x300200
def Reg.SYNC_STATUS : Nat := 0x300204
def Reg.SYNC_EVENT : Nat := 0x300208
def Reg.SYNC_FAULT_LOG : Nat := 0x30020C
def Reg.SYNC_LOG_CLR : Nat := 0x300210
def Reg.SYNC_OVERFLOW_COUNT : Nat := 0x300220
def Reg.SYNC_UNDERFLOW_COUNT : Nat := 0x300224
def Reg.SYNC_DBG_COUNT : Nat := 0x300228
def Reg.SYNC_SPIN_CORE_US : Nat := 0x30022C
def Reg.SYNC_SPIN_SPOKE_US : Nat := 0x300230
def Reg.SYNC_CTRL : Nat := 0x300240
def Reg.SYNC_AUDIT (i : Nat) : Nat := 0x300400 + 4 * i
def Reg.HUB_COLL_EVENT : Nat := 0x400E00
def Reg.HUB_COLL_LOG_0 : Nat := 0x400E04
def Reg.HUB_COLL_LOG_1 : Nat := 0x400E08
def Reg.HUB_COLL_LOG_CLR : Nat := 0x400E0C
def Reg.HUB_COLL_STATUS : Nat := 0x400E10
def Reg.HUB_MEMBER_MISSING_COUNT : Nat := 0x400E20
def Reg.HUB_SIG_MISMATCH_COUNT : Nat := 0x400E24
def Reg.HUB_LATE_CONTRIB_COUNT : Nat := 0x400E28
def Reg.HUB_WITHDRAW_TX_COUNT : Nat := 0x400E2C
def Reg.HUB_WITHDRAW_RX_COUNT : Nat := 0x400E30
def Reg.HUB_COLL_CTRL : Nat := 0x400E40
def Reg.LNK_PORT_EN : Nat := 0x600000
def Reg.LNK_EVENT : Nat := 0x600004
def Reg.LNK_FAULT_LOG_0 : Nat := 0x600008
def Reg.LNK_FAULT_LOG_1 : Nat := 0x60000C
def Reg.LNK_LOG_CLR : Nat := 0x600010
def Reg.LNK_CONSEQ_COUNT : Nat := 0x600014
def Reg.LNK_FAULT_OP_COUNT : Nat := 0x600018
def Reg.LNK_NOTICE_TX_COUNT : Nat := 0x60001C
def Reg.LNK_NOTICE_RX_COUNT : Nat := 0x600020
def Reg.LNK_BRIDGE_STATUS : Nat := 0x600030
def Reg.LNK_DETOUR_CFG : Nat := 0x600034
def Reg.LNK_BRIDGE_FAULT_COUNT : Nat := 0x600038
def Reg.LNK_ISO_ITEM_COUNT : Nat := 0x60003C
def Reg.LNK_CTRL : Nat := 0x600040
def Reg.LNK_PORT_STATUS (i : Nat) : Nat := 0x600100 + 64 * i
def Reg.LNK_PORT_CTRL (i : Nat) : Nat := 0x600104 + 64 * i
def Reg.LNK_CRC_ERR_COUNT (i : Nat) : Nat := 0x600108 + 64 * i
def Reg.LNK_REPLAY_COUNT (i : Nat) : Nat := 0x60010C + 64 * i
def Reg.LNK_EXHAUST_COUNT (i : Nat) : Nat := 0x600110 + 64 * i
def Reg.LNK_FEC_CORR_COUNT (i : Nat) : Nat := 0x600114 + 64 * i
def Reg.LNK_FEC_UNCORR_COUNT (i : Nat) : Nat := 0x600118 + 64 * i
def Reg.LNK_TRAIN_FAIL_COUNT (i : Nat) : Nat := 0x60011C + 64 * i
def Reg.FAB_STATUS : Nat := 0x700000
def Reg.FAB_NODE_UP : Nat := 0x700004
def Reg.FAB_EVENT : Nat := 0x700008
def Reg.FAB_ROB_PEAK (i : Nat) : Nat := 0x700010 + 4 * i
def Reg.FAB_TTL_DROP_COUNT : Nat := 0x700020
def Reg.FAB_E2E_RESEND_COUNT : Nat := 0x700024
def Reg.FAB_GAP_COUNT : Nat := 0x700028
def Reg.FAB_ROB_DIRECT_COUNT : Nat := 0x70002C
def Reg.FAB_FENCE_DROP_COUNT : Nat := 0x700030
def Reg.FAB_TREE_SWITCH_COUNT : Nat := 0x700034
def Reg.FAB_UNREACH_COUNT : Nat := 0x700038
def Reg.FAB_NODE_DOWN_COUNT : Nat := 0x70003C
def Reg.FAB_CTRL : Nat := 0x700040
def Reg.TLY_CFG : Nat := 0x800000
def Reg.TLY_UDP_PORTS : Nat := 0x800004
def Reg.TLY_PORT_IP (i : Nat) : Nat := 0x800008 + 4 * i
def Reg.TLY_STATUS : Nat := 0x800010
def Reg.TLY_EVENT : Nat := 0x800014
def Reg.TLY_AREA_BASE_LO (i : Nat) : Nat := 0x800040 + 16 * i
def Reg.TLY_AREA_BASE_HI (i : Nat) : Nat := 0x800044 + 16 * i
def Reg.TLY_AREA_CFG (i : Nat) : Nat := 0x800048 + 16 * i
def Reg.TLY_FWD_BASE_LO (i : Nat) : Nat := 0x8000C0 + 32 * i
def Reg.TLY_FWD_BASE_HI (i : Nat) : Nat := 0x8000C4 + 32 * i
def Reg.TLY_FWD_CFG (i : Nat) : Nat := 0x8000C8 + 32 * i
def Reg.TLY_FWD_TAIL (i : Nat) : Nat := 0x8000CC + 32 * i
def Reg.TLY_FWD_HEAD (i : Nat) : Nat := 0x8000D0 + 32 * i
def Reg.TLY_RX_0_COUNT : Nat := 0x800100
def Reg.TLY_RX_1_COUNT : Nat := 0x800104
def Reg.TLY_NOT_MEAS_COUNT : Nat := 0x800108
def Reg.TLY_MALFORMED_COUNT : Nat := 0x80010C
def Reg.TLY_CORRUPT_COUNT : Nat := 0x800110
def Reg.TLY_CMD_DROP_COUNT : Nat := 0x800114
def Reg.TLY_FWD_COUNT : Nat := 0x800118
def Reg.TLY_FWD_DROP_COUNT : Nat := 0x80011C
def Reg.TLY_UNKNOWN_COUNT : Nat := 0x800120
def Reg.TLY_INACTIVE_COUNT : Nat := 0x800124
def Reg.TLY_INTERLEAVED_COUNT : Nat := 0x800128
def Reg.TLY_ORPHAN_COUNT : Nat := 0x80012C
def Reg.TLY_TRUNCATED_COUNT : Nat := 0x800130
def Reg.TLY_STALE_COUNT : Nat := 0x800134
def Reg.TLY_EARLY_COUNT : Nat := 0x800138
def Reg.TLY_REPEAT_COUNT : Nat := 0x80013C
def Reg.TLY_OLD_COUNT : Nat := 0x800140
def Reg.TLY_GAP_COUNT : Nat := 0x800144
def Reg.TLY_MISSED_COUNT : Nat := 0x800148
def Reg.TLY_DROPPED_COUNT : Nat := 0x80014C
def Reg.TLY_CTRL : Nat := 0x800160
def Reg.TLY_STREAM_W0 (i : Nat) : Nat := 0x810000 + 16 * i
def Reg.TLY_STREAM_W1 (i : Nat) : Nat := 0x810004 + 16 * i
def Reg.TLY_STREAM_W2 (i : Nat) : Nat := 0x810008 + 16 * i
def Reg.TLY_STREAM_W3 (i : Nat) : Nat := 0x81000C + 16 * i
def Reg.LDG_STATUS : Nat := 0x900000
def Reg.LDG_EVENT : Nat := 0x900004
def Reg.LDG_ADMIT : Nat := 0x900008
def Reg.LDG_ADMIT_RESULT : Nat := 0x90000C
def Reg.LDG_REFUSE_LOG : Nat := 0x900010
def Reg.LDG_ADMIT_COUNT : Nat := 0x900020
def Reg.LDG_REFUSE_COUNT : Nat := 0x900024
def Reg.LDG_CANCEL_COUNT : Nat := 0x900028
def Reg.LDG_EXPIRE_COUNT : Nat := 0x90002C
def Reg.LDG_OUT_DROP_COUNT : Nat := 0x900030
def Reg.LDG_STEP_FAIL_COUNT : Nat := 0x900034
def Reg.LDG_UPDATE_LATE_COUNT : Nat := 0x900038
def Reg.LDG_STALL_TICKS_COUNT : Nat := 0x90003C
def Reg.LDG_CTRL : Nat := 0x900040
def Reg.LDG_ORDER_ADMIT : Nat := 0x900050
def Reg.LDG_ORDER_RESULT : Nat := 0x900054
def Reg.LDG_OUT_BASE_LO (i : Nat) : Nat := 0x900100 + 32 * i
def Reg.LDG_OUT_BASE_HI (i : Nat) : Nat := 0x900104 + 32 * i
def Reg.LDG_OUT_CFG (i : Nat) : Nat := 0x900108 + 32 * i
def Reg.LDG_OUT_TAIL (i : Nat) : Nat := 0x90010C + 32 * i
def Reg.LDG_OUT_HEAD (i : Nat) : Nat := 0x900110 + 32 * i
def Reg.LDG_KV_FREE (i : Nat) : Nat := 0x900114 + 32 * i
def Reg.LDG_SLOTS_LIVE (i : Nat) : Nat := 0x900118 + 32 * i
def Reg.LDG_OUT_SLOT_BYTES (i : Nat) : Nat := 0x90011C + 32 * i
def Reg.LDG_SLOT (i : Nat) : Nat := 0x910000 + 4 * i
def Reg.MSK_EVENT : Nat := 0x980000
def Reg.MSK_AUTO_CTRL : Nat := 0x980004
def Reg.MSK_AUTO_STATUS : Nat := 0x980008
def Reg.MSK_HOST_LATE_COUNT : Nat := 0x980010
def Reg.MSK_HOST_REFUSE_COUNT : Nat := 0x980014
def Reg.MSK_MASK_END_COUNT : Nat := 0x980018
def Reg.MSK_SPEC_ROUNDS_COUNT : Nat := 0x98001C
def Reg.MSK_SPEC_ACCEPT_COUNT : Nat := 0x980020
def Reg.MSK_ADAPTER_REFUSE_COUNT : Nat := 0x980024
def Reg.MSK_SHIP_FAIL_COUNT : Nat := 0x980028
def Reg.MSK_ORDER_REFUSE_COUNT : Nat := 0x98002C
def Reg.MSK_CTRL : Nat := 0x980030
def Reg.MSK_SAMPLE_BASE_LO (i : Nat) : Nat := 0x980100 + 16 * i
def Reg.MSK_SAMPLE_BASE_HI (i : Nat) : Nat := 0x980104 + 16 * i
def Reg.MSK_RETURN_BASE_LO (i : Nat) : Nat := 0x980108 + 16 * i
def Reg.MSK_RETURN_BASE_HI (i : Nat) : Nat := 0x98010C + 16 * i
def Reg.MSK_AUTO_W0 (i : Nat) : Nat := 0x980800 + 32 * i
def Reg.MSK_AUTO_W1 (i : Nat) : Nat := 0x980804 + 32 * i
def Reg.MSK_AUTO_W2 (i : Nat) : Nat := 0x980808 + 32 * i
def Reg.MSK_AUTO_W3 (i : Nat) : Nat := 0x98080C + 32 * i
def Reg.MSK_AUTO_W4 (i : Nat) : Nat := 0x980810 + 32 * i
def Reg.MSK_AUTO_W5 (i : Nat) : Nat := 0x980814 + 32 * i
def Reg.MSK_AUTO_W6 (i : Nat) : Nat := 0x980818 + 32 * i
def Reg.MSK_AUTO_W7 (i : Nat) : Nat := 0x98081C + 32 * i
def Reg.MSK_ADAPTER_W0 (i : Nat) : Nat := 0x981000 + 16 * i
def Reg.MSK_ADAPTER_W1 (i : Nat) : Nat := 0x981004 + 16 * i
def Reg.MSK_ADAPTER_W2 (i : Nat) : Nat := 0x981008 + 16 * i
def Reg.MSK_ADAPTER_W3 (i : Nat) : Nat := 0x98100C + 16 * i
def Reg.MSK_SLOT_STATE (i : Nat) : Nat := 0x984000 + 4 * i
def Reg.BKG_CFG : Nat := 0xA00000
def Reg.BKG_STATUS : Nat := 0xA00004
def Reg.BKG_EVENT : Nat := 0xA00008
def Reg.BKG_HBM_UE_LOG_LO : Nat := 0xA00010
def Reg.BKG_HBM_UE_LOG_HI : Nat := 0xA00014
def Reg.BKG_CSRAM_UE_LOG : Nat := 0xA00018
def Reg.BKG_LOG_CLR : Nat := 0xA0001C
def Reg.BKG_HBM_CE_COUNT : Nat := 0xA00020
def Reg.BKG_HBM_UE_COUNT : Nat := 0xA00024
def Reg.BKG_CSRAM_CE_COUNT : Nat := 0xA00028
def Reg.BKG_CSRAM_UE_COUNT : Nat := 0xA0002C
def Reg.BKG_TABLE_CE_COUNT : Nat := 0xA00030
def Reg.BKG_TABLE_UE_COUNT : Nat := 0xA00034
def Reg.BKG_RECAL_DONE_COUNT : Nat := 0xA00038
def Reg.BKG_RECAL_FAIL_COUNT : Nat := 0xA0003C
def Reg.BKG_RECAL_SKIP_COUNT : Nat := 0xA00040
def Reg.BKG_LOG_DROP_COUNT : Nat := 0xA00044
def Reg.BKG_TELEM_OVF_COUNT : Nat := 0xA00048
def Reg.BKG_SECTOR_RETIRED_COUNT : Nat := 0xA0004C
def Reg.BKG_PASS_HBM : Nat := 0xA00060
def Reg.BKG_PASS_CSRAM : Nat := 0xA00064
def Reg.BKG_PASS_HSRAM : Nat := 0xA00068
def Reg.BKG_PASS_CS : Nat := 0xA0006C
def Reg.BKG_PASS_TABLE : Nat := 0xA00070
def Reg.BKG_LOG_WPTR : Nat := 0xA00080
def Reg.BKG_LOG_USABLE : Nat := 0xA00084
def Reg.BKG_TELEM_IDX : Nat := 0xA00088
def Reg.BKG_CTRL : Nat := 0xA000F0
def Reg.BKG_TIMER_COMPARE (i : Nat) : Nat := 0xA00200 + 16 * i
def Reg.BKG_TIMER_COUNT (i : Nat) : Nat := 0xA00204 + 16 * i
def Reg.BKG_TIMER_RUN (i : Nat) : Nat := 0xA00208 + 16 * i
def Reg.HST_IDENT : Nat := 0xB00000
def Reg.HST_PCIE_STATUS : Nat := 0xB00004
def Reg.HST_EVENT : Nat := 0xB00008
def Reg.HST_ALERT_STATUS : Nat := 0xB0000C
def Reg.HST_BAD_ACCESS_COUNT : Nat := 0xB00010
def Reg.HST_IDE_FAIL_COUNT : Nat := 0xB00014
def Reg.HST_PLDM_EVENT_DROP_COUNT : Nat := 0xB00018
def Reg.HST_UPDATE_STATUS : Nat := 0xB0001C
def Reg.HST_MCTP_EID : Nat := 0xB00020
def Reg.HST_CTRL : Nat := 0xB00030
def Reg.HST_LOG_ADDR : Nat := 0xB00040
def Reg.HST_LOG_STATUS : Nat := 0xB00044
def Reg.HST_STRAP : Nat := 0xB00100
def Reg.HST_BOOT_STATUS : Nat := 0xB00104
def Reg.HST_BOOT_CTRL : Nat := 0xB00108
def Reg.HST_BOOT_FAIL : Nat := 0xB0010C
def Reg.HST_IMAGE_SEQ : Nat := 0xB00110
def Reg.HST_BOOT_ELAPSED : Nat := 0xB00114
def Reg.HST_DOORBELL_EARLY_COUNT : Nat := 0xB00118
def Reg.HST_BOOT_INGEST_DROP : Nat := 0xB0011C
def Reg.HST_BOOT_HWFAIL : Nat := 0xB00120
def Reg.HST_SVN : Nat := 0xB00124
def Reg.HST_IMAGE_DIGEST (i : Nat) : Nat := 0xB00130 + 4 * i
def Reg.HST_LOG_DATA (i : Nat) : Nat := 0xB00400 + 4 * i
def Reg.PWR_LIMIT : Nat := 0xC00000
def Reg.PWR_STATUS : Nat := 0xC00004
def Reg.PWR_EVENT : Nat := 0xC00008
def Reg.PWR_THERM_CFG : Nat := 0xC0000C
def Reg.PWR_TICK_MEAN_W : Nat := 0xC00010
def Reg.PWR_TICK_ENERGY_UJ : Nat := 0xC00014
def Reg.PWR_PEAK_W : Nat := 0xC00018
def Reg.PWR_RESET_CAUSE : Nat := 0xC0001C
def Reg.PWR_TEMP_CDIE (i : Nat) : Nat := 0xC00020 + 4 * i
def Reg.PWR_TEMP_IDIE (i : Nat) : Nat := 0xC00030 + 4 * i
def Reg.PWR_TEMP_HBM (i : Nat) : Nat := 0xC00040 + 4 * i
def Reg.PWR_LIMIT_TICK_COUNT : Nat := 0xC00080
def Reg.PWR_THERM_WARN_COUNT : Nat := 0xC00084
def Reg.PWR_THERM_CRIT_COUNT : Nat := 0xC00088
def Reg.PWR_CTRL : Nat := 0xC000A0
def Reg.HUB_SEGCFG (h : Nat) : Nat := 0x400000 + 0x100000 * h
def Reg.HUB_EVENT (h : Nat) : Nat := 0x400004 + 0x100000 * h
def Reg.HUB_SRAM_CE_COUNT (h : Nat) : Nat := 0x400008 + 0x100000 * h
def Reg.HUB_SRAM_UE_COUNT (h : Nat) : Nat := 0x40000C + 0x100000 * h
def Reg.HUB_CREDIT_VIOL_COUNT (h : Nat) : Nat := 0x400010 + 0x100000 * h
def Reg.HUB_HELD_PEAK (h : Nat) : Nat := 0x400014 + 0x100000 * h
def Reg.HUB_CTRL (h : Nat) : Nat := 0x400020 + 0x100000 * h
def Reg.HUB_STRM_CFG (h i : Nat) : Nat := 0x400100 + 0x100000 * h + 16 * i
def Reg.HUB_STRM_BASE (h i : Nat) : Nat := 0x400104 + 0x100000 * h + 16 * i
def Reg.HUB_STRM_SIZE (h i : Nat) : Nat := 0x400108 + 0x100000 * h + 16 * i
def Reg.HUB_STRM_STAT (h i : Nat) : Nat := 0x40010C + 0x100000 * h + 16 * i
def Reg.SPK_STATE (h i : Nat) : Nat := 0x408000 + 0x100000 * h + 64 * i
def Reg.SPK_CONT (h i : Nat) : Nat := 0x408004 + 0x100000 * h + 64 * i
def Reg.SPK_RESTART_COUNT (h i : Nat) : Nat := 0x408008 + 0x100000 * h + 64 * i
def Reg.SPK_LAST_CAUSE (h i : Nat) : Nat := 0x40800C + 0x100000 * h + 64 * i
def Reg.SPK_LS_MISS_COUNT (h i : Nat) : Nat := 0x408010 + 0x100000 * h + 64 * i
def Reg.SPK_EVENT (h : Nat) : Nat := 0x408400 + 0x100000 * h
def Reg.SPK_UCODE_ID (h : Nat) : Nat := 0x408404 + 0x100000 * h
def Reg.SPK_ILLEGAL_LOG (h : Nat) : Nat := 0x408408 + 0x100000 * h
def Reg.SPK_LOG_CLR (h : Nat) : Nat := 0x40840C + 0x100000 * h
def Reg.SPK_CS_CE_COUNT (h : Nat) : Nat := 0x408410 + 0x100000 * h
def Reg.SPK_CS_UE_COUNT (h : Nat) : Nat := 0x408414 + 0x100000 * h
def Reg.SPK_RELOAD_COUNT (h : Nat) : Nat := 0x408418 + 0x100000 * h
def Reg.SPK_ILLEGAL_COUNT (h : Nat) : Nat := 0x40841C + 0x100000 * h
def Reg.SPK_CS_BAD (h i : Nat) : Nat := 0x408420 + 0x100000 * h + 4 * i
def Reg.SPK_CTRL (h : Nat) : Nat := 0x408440 + 0x100000 * h
def Reg.SPK_CS_WINDOW (h i : Nat) : Nat := 0x410000 + 0x100000 * h + 4 * i

/-! ## The maps -/

/-- Table 20.3. -/
def RegMap.rowsTbu : List RegRow :=
  [
  ⟨0x100000, 4, 1, .rwl, 0xFFFF0F83, 0x3C000000, false⟩,
  ⟨0x100004, 4, 1, .rwl, 0xFFFFF3FF, 0x271000A, false⟩,
  ⟨0x100008, 4, 1, .rwl, 0xFFFFFFFF, 0x0, false⟩,
  ⟨0x100010, 4, 1, .ro, 0x0, 0x3, false⟩,
  ⟨0x100014, 4, 1, .ro, 0x0, 0xFFFFFFFF, false⟩,
  ⟨0x100018, 4, 1, .ro, 0x0, 0x0, false⟩,
  ⟨0x10001C, 4, 1, .ro, 0x0, 0x0, false⟩,
  ⟨0x100020, 4, 1, .w1s, 0x1, 0x0, false⟩,
  ⟨0x100024, 4, 4, .ro, 0x0, 0x0, false⟩,
  ⟨0x100034, 4, 1, .ro, 0x0, 0x0, false⟩,
  ⟨0x100038, 4, 1, .rw, 0xFFFF, 0x0, false⟩,
  ⟨0x100040, 4, 1, .wo, 0xFFFFFFFF, 0x0, false⟩,
  ⟨0x100044, 4, 1, .wo, 0xFFFF, 0x0, false⟩,
  ⟨0x100048, 4, 1, .rwl, 0xFFFFFFFF, 0x0, false⟩,
  ⟨0x10004C, 4, 1, .rwl, 0xFFFF, 0x0, false⟩,
  ⟨0x100050, 4, 1, .ro, 0x0, 0x0, false⟩,
  ⟨0x100054, 4, 1, .ro, 0x0, 0x0, false⟩,
  ⟨0x100058, 4, 1, .w1c, 0xFF, 0x0, false⟩,
  ⟨0x10005C, 4, 1, .ro, 0x0, 0x0, false⟩,
  ⟨0x100060, 4, 1, .ro, 0x0, 0x0, false⟩,
  ⟨0x100064, 4, 1, .w1s, 0x1, 0x0, false⟩]

/-- Table 20.4. -/
def RegMap.rowsTick : List RegRow :=
  [
  ⟨0x110000, 4, 1, .rwl, 0xFF7F07FF, 0x32140064, false⟩,
  ⟨0x110004, 4, 1, .rwl, 0xFFFF, 0x320, false⟩,
  ⟨0x110008, 4, 1, .ro, 0x0, 0x0, false⟩,
  ⟨0x110010, 4, 1, .ro, 0x0, 0x0, false⟩,
  ⟨0x110014, 4, 1, .ro, 0x0, 0x0, false⟩,
  ⟨0x110018, 4, 1, .ro, 0x0, 0x0, false⟩,
  ⟨0x11001C, 4, 1, .ro, 0x0, 0x0, false⟩,
  ⟨0x110020, 4, 1, .ro, 0x0, 0x0, false⟩,
  ⟨0x110024, 4, 1, .ro, 0x0, 0x0, false⟩,
  ⟨0x110028, 4, 1, .ro, 0x0, 0x0, false⟩,
  ⟨0x110030, 4, 1, .ro, 0x0, 0x0, false⟩,
  ⟨0x110034, 4, 1, .ro, 0x0, 0x0, false⟩,
  ⟨0x110038, 4, 1, .ro, 0x0, 0x0, false⟩,
  ⟨0x11003C, 4, 1, .ro, 0x0, 0x0, false⟩,
  ⟨0x110040, 4, 1, .ro, 0x0, 0x0, false⟩,
  ⟨0x110044, 4, 1, .w1s, 0x1, 0x0, false⟩,
  ⟨0x110048, 4, 1, .w1c, 0x3, 0x0, false⟩,
  ⟨0x110050, 4, 1, .w1s, 0x1, 0x0, true⟩,
  ⟨0x110054, 4, 1, .rw, 0x7FF, 0x0, true⟩,
  ⟨0x110058, 4, 1, .rw, 0xFFFFFFFF, 0x0, true⟩,
  ⟨0x11005C, 4, 1, .rw, 0xFFFFFFFF, 0x0, true⟩,
  ⟨0x110060, 4, 1, .ro, 0x0, 0x0, false⟩,
  ⟨0x110070, 4, 1, .ro, 0x0, 0x0, false⟩,
  ⟨0x110074, 4, 1, .ro, 0x0, 0x0, false⟩,
  ⟨0x110078, 4, 1, .ro, 0x0, 0x3, false⟩,
  ⟨0x11007C, 4, 1, .ro, 0x0, 0xFFFFFFFF, false⟩,
  ⟨0x118000, 4, 8192, .rw, 0xFFFFFFFF, 0x0, true⟩]

/-- Table 20.9. -/
def RegMap.rowsSup : List RegRow :=
  [
  ⟨0x120000, 4, 1, .rw, 0x1, 0x0, true⟩,
  ⟨0x120004, 4, 1, .rwl, 0x7F, 0x4, false⟩,
  ⟨0x120008, 4, 1, .wo, 0xFFFF, 0x0, true⟩,
  ⟨0x12000C, 4, 1, .ro, 0x0, 0x0, false⟩,
  ⟨0x120010, 4, 1, .ro, 0x0, 0x0, false⟩,
  ⟨0x120014, 4, 1, .ro, 0x0, 0x0, false⟩,
  ⟨0x120020, 4, 1, .ro, 0x0, 0x0, false⟩,
  ⟨0x120024, 4, 1, .ro, 0x0, 0x0, false⟩,
  ⟨0x120028, 4, 1, .ro, 0x0, 0x0, false⟩,
  ⟨0x12002C, 4, 1, .ro, 0x0, 0x0, false⟩,
  ⟨0x120030, 4, 1, .w1s, 0x3, 0x0, false⟩]

/-- Table 20.10. -/
def RegMap.rowsFence : List RegRow :=
  [
  ⟨0x130000, 4, 1, .ro, 0x0, 0x0, false⟩,
  ⟨0x130004, 4, 1, .w1c, 0xFF, 0x0, false⟩,
  ⟨0x130008, 4, 1, .ro, 0x0, 0x0, false⟩,
  ⟨0x13000C, 4, 1, .ro, 0x0, 0x0, false⟩,
  ⟨0x130010, 4, 1, .w1s, 0x1, 0x0, false⟩,
  ⟨0x130014, 4, 1, .rw, 0xFF, 0x0, true⟩,
  ⟨0x130018, 4, 1, .rwl, 0xFFFFFFFF, 0x0, false⟩,
  ⟨0x13001C, 4, 1, .rwl, 0xFF, 0x0, false⟩,
  ⟨0x130040, 4, 8, .rwl, 0xFFFFFFFF, 0x0, false⟩,
  ⟨0x130060, 4, 8, .rw, 0xFFFFFFFF, 0x0, true⟩,
  ⟨0x130080, 8, 8, .ro, 0x0, 0x0, false⟩,
  ⟨0x130084, 8, 8, .ro, 0x0, 0x0, false⟩,
  ⟨0x1300C0, 4, 1, .ro, 0x0, 0x0, false⟩,
  ⟨0x1300C4, 4, 1, .ro, 0x0, 0x0, false⟩,
  ⟨0x1300C8, 4, 1, .ro, 0x0, 0x0, false⟩,
  ⟨0x1300CC, 4, 1, .ro, 0x0, 0x0, false⟩,
  ⟨0x1300D0, 4, 1, .ro, 0x0, 0x0, false⟩,
  ⟨0x1300D4, 4, 1, .ro, 0x0, 0x0, false⟩,
  ⟨0x1300E0, 4, 1, .w1s, 0x1, 0x0, false⟩]

/-- Table 20.11. -/
def RegMap.rowsPart : List RegRow :=
  [
  ⟨0x140000, 4, 8, .rwl, 0x1FFFF, 0x0, false⟩,
  ⟨0x140020, 4, 1, .rwl, 0xFF, 0x10, false⟩,
  ⟨0x140024, 4, 1, .ro, 0x0, 0x0, false⟩,
  ⟨0x140028, 4, 1, .w1c, 0x1F, 0x0, false⟩,
  ⟨0x140030, 4, 1, .ro, 0x0, 0x0, false⟩,
  ⟨0x140034, 4, 1, .ro, 0x0, 0x0, false⟩,
  ⟨0x140038, 4, 1, .w1s, 0x1, 0x0, false⟩,
  ⟨0x140040, 4, 16, .rwl, 0xFF, 0x0, false⟩,
  ⟨0x140080, 4, 16, .ro, 0x0, 0x0, false⟩,
  ⟨0x1400C0, 4, 1, .ro, 0x0, 0x0, false⟩,
  ⟨0x1400C4, 4, 1, .ro, 0x0, 0x0, false⟩,
  ⟨0x1400C8, 4, 1, .ro, 0x0, 0x0, false⟩,
  ⟨0x1400CC, 4, 1, .ro, 0x0, 0x0, false⟩,
  ⟨0x1400E0, 4, 1, .w1s, 0x1, 0x0, false⟩]

/-- Table 20.12. -/
def RegMap.rowsWq : List RegRow :=
  [
  ⟨0x200000, 4, 1, .ro, 0x0, 0x0, false⟩,
  ⟨0x200004, 4, 1, .w1c, 0x1F, 0x0, false⟩,
  ⟨0x200010, 4, 1, .ro, 0x0, 0x0, false⟩,
  ⟨0x200014, 4, 1, .ro, 0x0, 0x0, false⟩,
  ⟨0x200018, 4, 1, .ro, 0x0, 0x0, false⟩,
  ⟨0x20001C, 4, 1, .ro, 0x0, 0x0, false⟩,
  ⟨0x200020, 4, 1, .ro, 0x0, 0x0, false⟩,
  ⟨0x200024, 4, 1, .ro, 0x0, 0x0, false⟩,
  ⟨0x200028, 4, 1, .ro, 0x0, 0x0, false⟩,
  ⟨0x20002C, 4, 1, .ro, 0x0, 0x0, false⟩,
  ⟨0x200030, 4, 1, .w1s, 0x1, 0x0, false⟩,
  ⟨0x201000, 64, 64, .rw, 0xFFFFF001, 0x0, false⟩,
  ⟨0x201004, 64, 64, .rw, 0xFFFFFFFF, 0x0, false⟩,
  ⟨0x201008, 64, 64, .rw, 0xFFFFF001, 0x0, false⟩,
  ⟨0x20100C, 64, 64, .rw, 0xFFFFFFFF, 0x0, false⟩,
  ⟨0x201010, 64, 64, .rw, 0x7FF001F, 0x0, false⟩,
  ⟨0x201014, 64, 64, .w1s, 0xF, 0x0, false⟩,
  ⟨0x201018, 64, 64, .ro, 0x0, 0x0, false⟩,
  ⟨0x20101C, 64, 64, .ro, 0x0, 0x0, false⟩,
  ⟨0x201020, 64, 64, .ro, 0x0, 0x0, false⟩,
  ⟨0x201024, 64, 64, .ro, 0x0, 0x0, false⟩,
  ⟨0x201028, 64, 64, .ro, 0x0, 0x0, false⟩,
  ⟨0x20102C, 64, 64, .ro, 0x0, 0x0, false⟩,
  ⟨0x201030, 64, 64, .ro, 0x0, 0x0, false⟩,
  ⟨0x204000, 4, 8192, .ro, 0x0, 0x0, false⟩,
  ⟨0x280000, 4096, 64, .wo, 0xFFF, 0x0, false⟩,
  ⟨0x280004, 4096, 64, .wo, 0xFFF, 0x0, false⟩,
  ⟨0x280008, 4096, 64, .ro, 0x0, 0x0, false⟩]

/-- Table 20.13. -/
def RegMap.rowsSync : List RegRow :=
  [
  ⟨0x300000, 4, 128, .ro, 0x0, 0x0, false⟩,
  ⟨0x300200, 4, 1, .wo, 0x73FFF, 0x0, false⟩,
  ⟨0x300204, 4, 1, .ro, 0x0, 0x0, false⟩,
  ⟨0x300208, 4, 1, .w1c, 0x7, 0x0, false⟩,
  ⟨0x30020C, 4, 1, .ro, 0x0, 0x0, false⟩,
  ⟨0x300210, 4, 1, .w1s, 0x3, 0x0, false⟩,
  ⟨0x300220, 4, 1, .ro, 0x0, 0x0, false⟩,
  ⟨0x300224, 4, 1, .ro, 0x0, 0x0, false⟩,
  ⟨0x300228, 4, 1, .ro, 0x0, 0x0, false⟩,
  ⟨0x30022C, 4, 1, .ro, 0x0, 0x0, false⟩,
  ⟨0x300230, 4, 1, .ro, 0x0, 0x0, false⟩,
  ⟨0x300240, 4, 1, .w1s, 0x1, 0x0, false⟩,
  ⟨0x300400, 4, 256, .ro, 0x0, 0x0, false⟩]

/-- Tables 21.4 and 9.12. -/
def RegMap.rowsHub0 : List RegRow :=
  [
  ⟨0x400E00, 4, 1, .w1c, 0xF, 0x0, false⟩,
  ⟨0x400E04, 4, 1, .ro, 0x0, 0x0, false⟩,
  ⟨0x400E08, 4, 1, .ro, 0x0, 0x0, false⟩,
  ⟨0x400E0C, 4, 1, .w1s, 0x1, 0x0, false⟩,
  ⟨0x400E10, 4, 1, .ro, 0x0, 0x0, false⟩,
  ⟨0x400E20, 4, 1, .ro, 0x0, 0x0, false⟩,
  ⟨0x400E24, 4, 1, .ro, 0x0, 0x0, false⟩,
  ⟨0x400E28, 4, 1, .ro, 0x0, 0x0, false⟩,
  ⟨0x400E2C, 4, 1, .ro, 0x0, 0x0, false⟩,
  ⟨0x400E30, 4, 1, .ro, 0x0, 0x0, false⟩,
  ⟨0x400E40, 4, 1, .w1s, 0x1, 0x0, false⟩,
  ⟨0x400000, 4, 1, .rwl, 0x1FF, 0x100, false⟩,
  ⟨0x400004, 4, 1, .w1c, 0x7, 0x0, false⟩,
  ⟨0x400008, 4, 1, .ro, 0x0, 0x0, false⟩,
  ⟨0x40000C, 4, 1, .ro, 0x0, 0x0, false⟩,
  ⟨0x400010, 4, 1, .ro, 0x0, 0x0, false⟩,
  ⟨0x400014, 4, 1, .ro, 0x0, 0x0, false⟩,
  ⟨0x400020, 4, 1, .w1s, 0x1, 0x0, false⟩,
  ⟨0x400100, 16, 16, .rwl, 0x31FF, 0x0, false⟩,
  ⟨0x400104, 16, 16, .rwl, 0x1FFF, 0x0, false⟩,
  ⟨0x400108, 16, 16, .rwl, 0x3FFF, 0x0, false⟩,
  ⟨0x40010C, 16, 16, .ro, 0x0, 0x0, false⟩,
  ⟨0x408000, 64, 16, .ro, 0x0, 0x0, false⟩,
  ⟨0x408004, 64, 16, .ro, 0x0, 0x0, false⟩,
  ⟨0x408008, 64, 16, .ro, 0x0, 0x0, false⟩,
  ⟨0x40800C, 64, 16, .ro, 0x0, 0x0, false⟩,
  ⟨0x408010, 64, 16, .ro, 0x0, 0x0, false⟩,
  ⟨0x408400, 4, 1, .w1c, 0x7F, 0x0, false⟩,
  ⟨0x408404, 4, 1, .ro, 0x0, 0x0, false⟩,
  ⟨0x408408, 4, 1, .ro, 0x0, 0x0, false⟩,
  ⟨0x40840C, 4, 1, .w1s, 0x1, 0x0, false⟩,
  ⟨0x408410, 4, 1, .ro, 0x0, 0x0, false⟩,
  ⟨0x408414, 4, 1, .ro, 0x0, 0x0, false⟩,
  ⟨0x408418, 4, 1, .ro, 0x0, 0x0, false⟩,
  ⟨0x40841C, 4, 1, .ro, 0x0, 0x0, false⟩,
  ⟨0x408420, 4, 8, .ro, 0x0, 0x0, false⟩,
  ⟨0x408440, 4, 1, .w1s, 0x1, 0x0, false⟩,
  ⟨0x410000, 4, 65536, .ro, 0x0, 0x0, false⟩]

/-- Table 21.4. -/
def RegMap.rowsHub1 : List RegRow :=
  [
  ⟨0x500000, 4, 1, .rwl, 0x1FF, 0x100, false⟩,
  ⟨0x500004, 4, 1, .w1c, 0x7, 0x0, false⟩,
  ⟨0x500008, 4, 1, .ro, 0x0, 0x0, false⟩,
  ⟨0x50000C, 4, 1, .ro, 0x0, 0x0, false⟩,
  ⟨0x500010, 4, 1, .ro, 0x0, 0x0, false⟩,
  ⟨0x500014, 4, 1, .ro, 0x0, 0x0, false⟩,
  ⟨0x500020, 4, 1, .w1s, 0x1, 0x0, false⟩,
  ⟨0x500100, 16, 16, .rwl, 0x31FF, 0x0, false⟩,
  ⟨0x500104, 16, 16, .rwl, 0x1FFF, 0x0, false⟩,
  ⟨0x500108, 16, 16, .rwl, 0x3FFF, 0x0, false⟩,
  ⟨0x50010C, 16, 16, .ro, 0x0, 0x0, false⟩,
  ⟨0x508000, 64, 16, .ro, 0x0, 0x0, false⟩,
  ⟨0x508004, 64, 16, .ro, 0x0, 0x0, false⟩,
  ⟨0x508008, 64, 16, .ro, 0x0, 0x0, false⟩,
  ⟨0x50800C, 64, 16, .ro, 0x0, 0x0, false⟩,
  ⟨0x508010, 64, 16, .ro, 0x0, 0x0, false⟩,
  ⟨0x508400, 4, 1, .w1c, 0x7F, 0x0, false⟩,
  ⟨0x508404, 4, 1, .ro, 0x0, 0x0, false⟩,
  ⟨0x508408, 4, 1, .ro, 0x0, 0x0, false⟩,
  ⟨0x50840C, 4, 1, .w1s, 0x1, 0x0, false⟩,
  ⟨0x508410, 4, 1, .ro, 0x0, 0x0, false⟩,
  ⟨0x508414, 4, 1, .ro, 0x0, 0x0, false⟩,
  ⟨0x508418, 4, 1, .ro, 0x0, 0x0, false⟩,
  ⟨0x50841C, 4, 1, .ro, 0x0, 0x0, false⟩,
  ⟨0x508420, 4, 8, .ro, 0x0, 0x0, false⟩,
  ⟨0x508440, 4, 1, .w1s, 0x1, 0x0, false⟩,
  ⟨0x510000, 4, 65536, .ro, 0x0, 0x0, false⟩]

/-- Table 21.5. -/
def RegMap.rowsLnk : List RegRow :=
  [
  ⟨0x600000, 4, 1, .rwl, 0xFFFF, 0xFFFF, false⟩,
  ⟨0x600004, 4, 1, .w1c, 0x1FF, 0x0, false⟩,
  ⟨0x600008, 4, 1, .ro, 0x0, 0x0, false⟩,
  ⟨0x60000C, 4, 1, .ro, 0x0, 0x0, false⟩,
  ⟨0x600010, 4, 1, .w1s, 0x1, 0x0, false⟩,
  ⟨0x600014, 4, 1, .ro, 0x0, 0x0, false⟩,
  ⟨0x600018, 4, 1, .ro, 0x0, 0x0, false⟩,
  ⟨0x60001C, 4, 1, .ro, 0x0, 0x0, false⟩,
  ⟨0x600020, 4, 1, .ro, 0x0, 0x0, false⟩,
  ⟨0x600030, 4, 1, .ro, 0x0, 0x0, false⟩,
  ⟨0x600034, 4, 1, .rwl, 0x7F7F, 0x0, false⟩,
  ⟨0x600038, 4, 1, .ro, 0x0, 0x0, false⟩,
  ⟨0x60003C, 4, 1, .ro, 0x0, 0x0, false⟩,
  ⟨0x600040, 4, 1, .w1s, 0x1, 0x0, false⟩,
  ⟨0x600100, 64, 16, .ro, 0x0, 0x0, false⟩,
  ⟨0x600104, 64, 16, .w1s, 0x1, 0x0, false⟩,
  ⟨0x600108, 64, 16, .ro, 0x0, 0x0, false⟩,
  ⟨0x60010C, 64, 16, .ro, 0x0, 0x0, false⟩,
  ⟨0x600110, 64, 16, .ro, 0x0, 0x0, false⟩,
  ⟨0x600114, 64, 16, .ro, 0x0, 0x0, false⟩,
  ⟨0x600118, 64, 16, .ro, 0x0, 0x0, false⟩,
  ⟨0x60011C, 64, 16, .ro, 0x0, 0x0, false⟩]

/-- Table 21.6. -/
def RegMap.rowsFab : List RegRow :=
  [
  ⟨0x700000, 4, 1, .ro, 0x0, 0x0, false⟩,
  ⟨0x700004, 4, 1, .ro, 0x0, 0x0, false⟩,
  ⟨0x700008, 4, 1, .w1c, 0x1FF, 0x0, false⟩,
  ⟨0x700010, 4, 2, .ro, 0x0, 0x0, false⟩,
  ⟨0x700020, 4, 1, .ro, 0x0, 0x0, false⟩,
  ⟨0x700024, 4, 1, .ro, 0x0, 0x0, false⟩,
  ⟨0x700028, 4, 1, .ro, 0x0, 0x0, false⟩,
  ⟨0x70002C, 4, 1, .ro, 0x0, 0x0, false⟩,
  ⟨0x700030, 4, 1, .ro, 0x0, 0x0, false⟩,
  ⟨0x700034, 4, 1, .ro, 0x0, 0x0, false⟩,
  ⟨0x700038, 4, 1, .ro, 0x0, 0x0, false⟩,
  ⟨0x70003C, 4, 1, .ro, 0x0, 0x0, false⟩,
  ⟨0x700040, 4, 1, .w1s, 0x1, 0x0, false⟩]

/-- Table 21.7. -/
def RegMap.rowsTly : List RegRow :=
  [
  ⟨0x800000, 4, 1, .rwl, 0xFFFF0007, 0x640000, false⟩,
  ⟨0x800004, 4, 1, .rwl, 0xFFFFFFFF, 0xB8601269, false⟩,
  ⟨0x800008, 4, 2, .rwl, 0xFFFFFFFF, 0x0, false⟩,
  ⟨0x800010, 4, 1, .ro, 0x0, 0x0, false⟩,
  ⟨0x800014, 4, 1, .w1c, 0x7FF, 0x0, false⟩,
  ⟨0x800040, 16, 8, .rwl, 0xFFFFF000, 0x0, false⟩,
  ⟨0x800044, 16, 8, .rwl, 0xFFFFFFFF, 0x0, false⟩,
  ⟨0x800048, 16, 8, .rwl, 0xFFFF1FFF, 0x0, false⟩,
  ⟨0x8000C0, 32, 2, .rwl, 0xFFFFC000, 0x0, false⟩,
  ⟨0x8000C4, 32, 2, .rwl, 0xFFFFFFFF, 0x0, false⟩,
  ⟨0x8000C8, 32, 2, .rwl, 0x7F, 0x0, false⟩,
  ⟨0x8000CC, 32, 2, .ro, 0x0, 0x0, false⟩,
  ⟨0x8000D0, 32, 2, .rw, 0xFF, 0x0, false⟩,
  ⟨0x800100, 4, 1, .ro, 0x0, 0x0, false⟩,
  ⟨0x800104, 4, 1, .ro, 0x0, 0x0, false⟩,
  ⟨0x800108, 4, 1, .ro, 0x0, 0x0, false⟩,
  ⟨0x80010C, 4, 1, .ro, 0x0, 0x0, false⟩,
  ⟨0x800110, 4, 1, .ro, 0x0, 0x0, false⟩,
  ⟨0x800114, 4, 1, .ro, 0x0, 0x0, false⟩,
  ⟨0x800118, 4, 1, .ro, 0x0, 0x0, false⟩,
  ⟨0x80011C, 4, 1, .ro, 0x0, 0x0, false⟩,
  ⟨0x800120, 4, 1, .ro, 0x0, 0x0, false⟩,
  ⟨0x800124, 4, 1, .ro, 0x0, 0x0, false⟩,
  ⟨0x800128, 4, 1, .ro, 0x0, 0x0, false⟩,
  ⟨0x80012C, 4, 1, .ro, 0x0, 0x0, false⟩,
  ⟨0x800130, 4, 1, .ro, 0x0, 0x0, false⟩,
  ⟨0x800134, 4, 1, .ro, 0x0, 0x0, false⟩,
  ⟨0x800138, 4, 1, .ro, 0x0, 0x0, false⟩,
  ⟨0x80013C, 4, 1, .ro, 0x0, 0x0, false⟩,
  ⟨0x800140, 4, 1, .ro, 0x0, 0x0, false⟩,
  ⟨0x800144, 4, 1, .ro, 0x0, 0x0, false⟩,
  ⟨0x800148, 4, 1, .ro, 0x0, 0x0, false⟩,
  ⟨0x80014C, 4, 1, .ro, 0x0, 0x0, false⟩,
  ⟨0x800160, 4, 1, .w1s, 0x1, 0x0, false⟩,
  ⟨0x810000, 16, 8192, .rwl, 0xFFFF007F, 0x0, false⟩,
  ⟨0x810004, 16, 8192, .rwl, 0xFFFFFFFF, 0x0, false⟩,
  ⟨0x810008, 16, 8192, .rwl, 0xFFFFFF, 0x0, false⟩,
  ⟨0x81000C, 16, 8192, .ro, 0x0, 0x0, false⟩]

/-- Tables 21.8 and 21.9. -/
def RegMap.rowsLdgMsk : List RegRow :=
  [
  ⟨0x900000, 4, 1, .ro, 0x0, 0x0, false⟩,
  ⟨0x900004, 4, 1, .w1c, 0x3F, 0x0, false⟩,
  ⟨0x900008, 4, 1, .wo, 0x3FFFF, 0x0, true⟩,
  ⟨0x90000C, 4, 1, .ro, 0x0, 0x0, false⟩,
  ⟨0x900010, 4, 1, .ro, 0x0, 0x0, false⟩,
  ⟨0x900020, 4, 1, .ro, 0x0, 0x0, false⟩,
  ⟨0x900024, 4, 1, .ro, 0x0, 0x0, false⟩,
  ⟨0x900028, 4, 1, .ro, 0x0, 0x0, false⟩,
  ⟨0x90002C, 4, 1, .ro, 0x0, 0x0, false⟩,
  ⟨0x900030, 4, 1, .ro, 0x0, 0x0, false⟩,
  ⟨0x900034, 4, 1, .ro, 0x0, 0x0, false⟩,
  ⟨0x900038, 4, 1, .ro, 0x0, 0x0, false⟩,
  ⟨0x90003C, 4, 1, .ro, 0x0, 0x0, false⟩,
  ⟨0x900040, 4, 1, .w1s, 0x1, 0x0, false⟩,
  ⟨0x900050, 4, 1, .wo, 0xF, 0x0, true⟩,
  ⟨0x900054, 4, 1, .ro, 0x0, 0x0, false⟩,
  ⟨0x900100, 32, 8, .rw, 0xFFFFF000, 0x0, false⟩,
  ⟨0x900104, 32, 8, .rw, 0xFFFFFFFF, 0x0, false⟩,
  ⟨0x900108, 32, 8, .rw, 0x7FF001F, 0x0, false⟩,
  ⟨0x90010C, 32, 8, .ro, 0x0, 0x0, false⟩,
  ⟨0x900110, 32, 8, .rw, 0xFFF, 0x0, false⟩,
  ⟨0x900114, 32, 8, .ro, 0x0, 0x0, false⟩,
  ⟨0x900118, 32, 8, .ro, 0x0, 0x0, false⟩,
  ⟨0x90011C, 32, 8, .ro, 0x0, 0x0, false⟩,
  ⟨0x910000, 4, 4096, .ro, 0x0, 0x0, false⟩,
  ⟨0x980000, 4, 1, .w1c, 0x7F, 0x0, false⟩,
  ⟨0x980004, 4, 1, .wo, 0xFF, 0x0, false⟩,
  ⟨0x980008, 4, 1, .ro, 0x0, 0x0, false⟩,
  ⟨0x980010, 4, 1, .ro, 0x0, 0x0, false⟩,
  ⟨0x980014, 4, 1, .ro, 0x0, 0x0, false⟩,
  ⟨0x980018, 4, 1, .ro, 0x0, 0x0, false⟩,
  ⟨0x98001C, 4, 1, .ro, 0x0, 0x0, false⟩,
  ⟨0x980020, 4, 1, .ro, 0x0, 0x0, false⟩,
  ⟨0x980024, 4, 1, .ro, 0x0, 0x0, false⟩,
  ⟨0x980028, 4, 1, .ro, 0x0, 0x0, false⟩,
  ⟨0x98002C, 4, 1, .ro, 0x0, 0x0, false⟩,
  ⟨0x980030, 4, 1, .w1s, 0x1, 0x0, false⟩,
  ⟨0x980100, 16, 8, .rw, 0xFFFFE000, 0x0, false⟩,
  ⟨0x980104, 16, 8, .rw, 0xFFFFFFFF, 0x0, false⟩,
  ⟨0x980108, 16, 8, .rw, 0xFFFFF000, 0x0, false⟩] ++
  [
  ⟨0x98010C, 16, 8, .rw, 0xFFFFFFFF, 0x0, false⟩,
  ⟨0x980800, 32, 64, .rw, 0x1E, 0x0, false⟩,
  ⟨0x980804, 32, 64, .rw, 0xFFFFFFFF, 0x0, false⟩,
  ⟨0x980808, 32, 64, .rw, 0x3FFFF, 0x0, false⟩,
  ⟨0x98080C, 32, 64, .rw, 0xFFFFFFFF, 0x0, false⟩,
  ⟨0x980810, 32, 64, .rw, 0x3FFFF, 0x0, false⟩,
  ⟨0x980814, 32, 64, .rw, 0x3FFFF, 0x0, false⟩,
  ⟨0x980818, 32, 64, .rw, 0xFFFFFFF8, 0x0, false⟩,
  ⟨0x98081C, 32, 64, .rw, 0xFFFFFFFF, 0x0, false⟩,
  ⟨0x981000, 16, 512, .rw, 0x7FFF, 0x0, false⟩,
  ⟨0x981004, 16, 512, .ro, 0x0, 0x0, false⟩,
  ⟨0x981008, 16, 512, .rw, 0xFFFFFFFF, 0x0, false⟩,
  ⟨0x98100C, 16, 512, .rw, 0xFFFFFFFF, 0x0, false⟩,
  ⟨0x984000, 4, 1024, .ro, 0x0, 0x0, false⟩]

/-- Table 21.10. -/
def RegMap.rowsBkg : List RegRow :=
  [
  ⟨0xA00000, 4, 1, .rwl, 0xFFFFF, 0x14104, false⟩,
  ⟨0xA00004, 4, 1, .ro, 0x0, 0x0, false⟩,
  ⟨0xA00008, 4, 1, .w1c, 0xFFF, 0x0, false⟩,
  ⟨0xA00010, 4, 1, .ro, 0x0, 0x0, false⟩,
  ⟨0xA00014, 4, 1, .ro, 0x0, 0x0, false⟩,
  ⟨0xA00018, 4, 1, .ro, 0x0, 0x0, false⟩,
  ⟨0xA0001C, 4, 1, .w1s, 0x1, 0x0, false⟩,
  ⟨0xA00020, 4, 1, .ro, 0x0, 0x0, false⟩,
  ⟨0xA00024, 4, 1, .ro, 0x0, 0x0, false⟩,
  ⟨0xA00028, 4, 1, .ro, 0x0, 0x0, false⟩,
  ⟨0xA0002C, 4, 1, .ro, 0x0, 0x0, false⟩,
  ⟨0xA00030, 4, 1, .ro, 0x0, 0x0, false⟩,
  ⟨0xA00034, 4, 1, .ro, 0x0, 0x0, false⟩,
  ⟨0xA00038, 4, 1, .ro, 0x0, 0x0, false⟩,
  ⟨0xA0003C, 4, 1, .ro, 0x0, 0x0, false⟩,
  ⟨0xA00040, 4, 1, .ro, 0x0, 0x0, false⟩,
  ⟨0xA00044, 4, 1, .ro, 0x0, 0x0, false⟩,
  ⟨0xA00048, 4, 1, .ro, 0x0, 0x0, false⟩,
  ⟨0xA0004C, 4, 1, .ro, 0x0, 0x0, false⟩,
  ⟨0xA00060, 4, 1, .ro, 0x0, 0x0, false⟩,
  ⟨0xA00064, 4, 1, .ro, 0x0, 0x0, false⟩,
  ⟨0xA00068, 4, 1, .ro, 0x0, 0x0, false⟩,
  ⟨0xA0006C, 4, 1, .ro, 0x0, 0x0, false⟩,
  ⟨0xA00070, 4, 1, .ro, 0x0, 0x0, false⟩,
  ⟨0xA00080, 4, 1, .ro, 0x0, 0x0, false⟩,
  ⟨0xA00084, 4, 1, .ro, 0x0, 0x0, false⟩,
  ⟨0xA00088, 4, 1, .ro, 0x0, 0x0, false⟩,
  ⟨0xA000F0, 4, 1, .w1s, 0x1, 0x0, false⟩,
  ⟨0xA00200, 16, 32, .rw, 0xFFFFFFFF, 0x0, false⟩,
  ⟨0xA00204, 16, 32, .ro, 0x0, 0x0, false⟩,
  ⟨0xA00208, 16, 32, .rw, 0x1, 0x0, false⟩]

/-- Table 21.11. -/
def RegMap.rowsHst : List RegRow :=
  [
  ⟨0xB00000, 4, 1, .ro, 0x0, 0x0, false⟩,
  ⟨0xB00004, 4, 1, .ro, 0x0, 0x0, false⟩,
  ⟨0xB00008, 4, 1, .w1c, 0x3F, 0x0, false⟩,
  ⟨0xB0000C, 4, 1, .w1c, 0x3FF, 0x0, false⟩,
  ⟨0xB00010, 4, 1, .ro, 0x0, 0x0, false⟩,
  ⟨0xB00014, 4, 1, .ro, 0x0, 0x0, false⟩,
  ⟨0xB00018, 4, 1, .ro, 0x0, 0x0, false⟩,
  ⟨0xB0001C, 4, 1, .ro, 0x0, 0x3, false⟩,
  ⟨0xB00020, 4, 1, .ro, 0x0, 0x0, false⟩,
  ⟨0xB00030, 4, 1, .w1s, 0x1, 0x0, false⟩,
  ⟨0xB00040, 4, 1, .rw, 0x1FFFF00, 0x0, false⟩,
  ⟨0xB00044, 4, 1, .ro, 0x0, 0x0, false⟩,
  ⟨0xB00100, 4, 1, .ro, 0x0, 0x0, false⟩,
  ⟨0xB00104, 4, 1, .ro, 0x0, 0xFFFF0C00, false⟩,
  ⟨0xB00108, 4, 1, .w1s, 0x3, 0x0, false⟩,
  ⟨0xB0010C, 4, 1, .ro, 0x0, 0x0, false⟩,
  ⟨0xB00110, 4, 1, .ro, 0x0, 0x0, false⟩,
  ⟨0xB00114, 4, 1, .ro, 0x0, 0x0, false⟩,
  ⟨0xB00118, 4, 1, .ro, 0x0, 0x0, false⟩,
  ⟨0xB0011C, 4, 1, .ro, 0x0, 0x0, false⟩,
  ⟨0xB00120, 4, 1, .ro, 0x0, 0x0, false⟩,
  ⟨0xB00124, 4, 1, .ro, 0x0, 0x0, false⟩,
  ⟨0xB00130, 4, 12, .ro, 0x0, 0x0, false⟩,
  ⟨0xB00400, 4, 64, .ro, 0x0, 0x0, false⟩]

/-- Table 21.12. -/
def RegMap.rowsPwr : List RegRow :=
  [
  ⟨0xC00000, 4, 1, .rw, 0xFFFF, 0x41A, false⟩,
  ⟨0xC00004, 4, 1, .ro, 0x0, 0x0, false⟩,
  ⟨0xC00008, 4, 1, .w1c, 0x1F, 0x0, false⟩,
  ⟨0xC0000C, 4, 1, .rwl, 0xFFFFFFFF, 0x5F55695F, false⟩,
  ⟨0xC00010, 4, 1, .ro, 0x0, 0x0, false⟩,
  ⟨0xC00014, 4, 1, .ro, 0x0, 0x0, false⟩,
  ⟨0xC00018, 4, 1, .ro, 0x0, 0x0, false⟩,
  ⟨0xC0001C, 4, 1, .ro, 0x0, 0x0, false⟩,
  ⟨0xC00020, 4, 4, .ro, 0x0, 0x0, false⟩,
  ⟨0xC00030, 4, 2, .ro, 0x0, 0x0, false⟩,
  ⟨0xC00040, 4, 12, .ro, 0x0, 0x0, false⟩,
  ⟨0xC00080, 4, 1, .ro, 0x0, 0x0, false⟩,
  ⟨0xC00084, 4, 1, .ro, 0x0, 0x0, false⟩,
  ⟨0xC00088, 4, 1, .ro, 0x0, 0x0, false⟩,
  ⟨0xC000A0, 4, 1, .w1s, 0x1, 0x0, false⟩]

/-- The map of the block that holds a BAR0 offset (the block spans of Tables 20.1 and 21.1). -/
def RegMap.rowsOf (off : Nat) : List RegRow :=
  if off < 0x100000 then []
  else if off < 0x110000 then RegMap.rowsTbu
  else if off < 0x120000 then RegMap.rowsTick
  else if off < 0x130000 then RegMap.rowsSup
  else if off < 0x140000 then RegMap.rowsFence
  else if off < 0x200000 then RegMap.rowsPart
  else if off < 0x300000 then RegMap.rowsWq
  else if off < 0x400000 then RegMap.rowsSync
  else if off < 0x500000 then RegMap.rowsHub0
  else if off < 0x600000 then RegMap.rowsHub1
  else if off < 0x700000 then RegMap.rowsLnk
  else if off < 0x800000 then RegMap.rowsFab
  else if off < 0x900000 then RegMap.rowsTly
  else if off < 0xA00000 then RegMap.rowsLdgMsk
  else if off < 0xB00000 then RegMap.rowsBkg
  else if off < 0xC00000 then RegMap.rowsHst
  else if off < 0xD00000 then RegMap.rowsPwr
  else []

/-- The row of a BAR0 offset; none where the offset holds no register (R15). -/
def RegMap.find (off : Nat) : Option RegRow := (RegMap.rowsOf off).find? (fun r => r.has off)

/-- What a register reads before anything has written it: its reset value, 0 where no register lies there (R15). -/
def RegMap.resetOf (off : Nat) : Word :=
  match RegMap.find off with
  | some r => BitVec.ofNat 32 r.reset
  | none => 0

end Sys2Proof.Machine
end

