-- ==== Sys2Proof/Machine/SMap.lean ====
section
/-! DEFINITION. Sparse maps: the one form in which the state holds registers, memories and numbered tables. A map is a
list of (key, value) pairs with strictly rising keys; a key that is not listed reads as the map's default. -/

namespace Sys2Proof.Machine

/-- A sparse map: pairs with strictly rising keys. -/
abbrev SMap (α : Type) := List (Nat × α)

/-- The value listed at a key. -/
def SMap.get? {α : Type} : SMap α → Nat → Option α
  | [], _ => none
  | (k', v) :: m, k => if k = k' then some v else SMap.get? m k

/-- The value at a key, `d` where none is listed. -/
def SMap.get {α : Type} (m : SMap α) (d : α) (k : Nat) : α := (SMap.get? m k).getD d

/-- The map with the value at a key replaced (keys stay strictly rising). -/
def SMap.put {α : Type} : SMap α → Nat → α → SMap α
  | [], k, v => [(k, v)]
  | (k', v') :: m, k, v =>
    if k < k' then (k, v) :: (k', v') :: m
    else if k = k' then (k, v) :: m
    else (k', v') :: SMap.put m k v

/-- The map with a key taken out. -/
def SMap.del {α : Type} (m : SMap α) (k : Nat) : SMap α := m.filter (fun e => e.1 != k)

/-- The map with the value at a key changed by `f`. -/
def SMap.upd {α : Type} (m : SMap α) (d : α) (k : Nat) (f : α → α) : SMap α := SMap.put m k (f (SMap.get m d k))

/-- Every listed value changed by `f` of its key. -/
def SMap.mapV {α : Type} (f : Nat → α → α) (m : SMap α) : SMap α := m.map (fun e => (e.1, f e.1 e.2))

/-- The listed keys whose value satisfies `p`, rising. -/
def SMap.keysWhere {α : Type} (p : Nat → α → Bool) (m : SMap α) : List Nat := (m.filter (fun e => p e.1 e.2)).map (·.1)

/-- The least key that is not listed, among 0, 1, …, n - 1. -/
def SMap.freeKey {α : Type} (m : SMap α) (n : Nat) : Option Nat := (List.range n).find? (fun k => (SMap.get? m k).isNone)

/-- The canonical form of a map: keys strictly rising. -/
def SMap.sorted {α : Type} : SMap α → Bool
  | [] => true
  | [_] => true
  | a :: b :: m => decide (a.1 < b.1) && SMap.sorted (b :: m)

/-- A memory: bytes at addresses. -/
abbrev Mem := List Host.Cell

/-- One byte of a memory; `d` is what an unlisted address reads as. -/
def Mem.read (d : Byte) (m : Mem) (a : Nat) : Byte := SMap.get m d a

/-- A memory with one byte written; writing the value an unlisted address reads as takes the entry out. -/
def Mem.write (d : Byte) (m : Mem) (a : Nat) (b : Byte) : Mem :=
  if b = d then SMap.del m a else SMap.put m a b

/-- `n` bytes of a memory from an address. -/
def Mem.readN (d : Byte) (m : Mem) (a : Nat) : Nat → List Byte
  | 0 => []
  | n + 1 => Mem.read d m a :: Mem.readN d m (a + 1) n

/-- A memory with a list of bytes written from an address. -/
def Mem.writeN (d : Byte) (m : Mem) (a : Nat) : List Byte → Mem
  | [] => m
  | b :: bs => Mem.writeN d (Mem.write d m a b) (a + 1) bs

/-- The canonical form of a memory: addresses strictly rising, and no entry equal to what an unlisted address reads
as. -/
def Mem.wf (d : Byte) (m : Mem) : Bool := SMap.sorted m && m.all (fun c => c.2 != d)

end Sys2Proof.Machine
end

