-- ==== Sys2Proof/Machine/State.lean ====
section
/-! DEFINITION. The state of the machine as plain data: every register, memory, queue, counter, mode and pin the spec
gives the block, the queue of waiting commands, the reasons a step can stop, and the state right after reset. -/

namespace Sys2Proof.Machine

/-! ## The build, the straps and the requesters -/

/-- The builds of Table 3.4. -/
inductive Build where
  | l | n | m | q
  deriving DecidableEq, Repr

/-- HST_IDENT.BUILD (Table 3.5). -/
def Build.code : Build → Nat
  | .l => 1 | .n => 2 | .m => 3 | .q => 4

/-- The number of I-dies, hubs included (Table 3.4). -/
def Build.idies : Build → Nat
  | .l => 1 | _ => 2

/-- Populated HBM3E stacks (Table 3.4). -/
def Build.stacks : Build → Nat
  | .l => 4 | .n => 8 | .m => 12 | .q => 0

/-- Tensor cores (Table 3.4). -/
def Build.cores : Build → Nat
  | .q => 0 | _ => 64

/-- Aethil ports (Table 3.4). -/
def Build.ports : Build → Nat
  | .l => 8 | _ => 16

/-- Spokes, and so collective streams (Table 3.4). -/
def Build.streams : Build → Nat
  | .l => 16 | _ => 32

/-- The power envelope in W (R90). -/
def Build.envelope : Build → Nat
  | .l => 860 | .n => 1050 | .m => 1170 | .q => 160

/-- Module-memory capacity in bytes: 24 GiB a stack (R9). -/
def Build.memBytes (b : Build) : Nat := b.stacks * 25769803776

/-- The straps sampled at reset (R92). -/
structure Straps where
  g1compat : Bool
  bootSel : Nat
  modId : Nat
  deriving DecidableEq, Repr

/-- The memories the spec gives the module, its host and its flash. -/
structure Memories where
  /-- Module memory (R84). -/
  mem : Mem
  /-- Host memory as the device's DMA sees it. -/
  host : Mem
  /-- Core SRAM, addressed core × 12 MiB + offset. -/
  csram : Mem
  /-- Hub SRAM, addressed hub × 32 MiB + offset (R245). -/
  hsram : Mem
  /-- The xSPI flash (Table 4.3). -/
  flash : Mem
  /-- The supervisor's data SRAM. -/
  supData : Mem
  /-- The supervisor's code SRAM. -/
  supCode : Mem
  /-- Poisoned granules: 64-byte lines of module memory (R439). -/
  poisonMem : List Nat
  /-- Poisoned 64-byte lines of core SRAM. -/
  poisonCsram : List Nat
  /-- Poisoned 64-bit words of hub SRAM. -/
  poisonHsram : List Nat
  deriving DecidableEq, Repr

/-! ## Time -/

/-- The tick generator (chapter 1). -/
structure Clock where
  /-- A tick has been issued since reset (TICK_STATUS.RUNNING). -/
  running : Bool
  /-- TICK_SEQ of the current tick (R24). -/
  seq : Nat
  /-- The tick index k of the current tick (R21). -/
  index : Nat
  /-- The timescale in ns at the current tick edge; before the first tick, at reset release. -/
  edge : Int
  /-- Nanoseconds since reset release at the current tick edge (0 before the first tick), and half a nanosecond more where
  `half` is 1: a slewed tick lasts its length and its slew (R68). -/
  elapsed : Nat
  half : Nat
  /-- The length of the current tick in ns of the timescale: T, or more in a stretched tick (R45). -/
  len : Nat
  /-- TICK_STRETCH_NS. -/
  stretch : Nat
  /-- TICK_STATUS.BANK. -/
  bank : Bool
  /-- TICK_STATUS.STANDING. -/
  standing : Bool
  /-- TICK_STATUS.EPOCH_DISCONT. -/
  discont : Bool
  /-- Time steps applied since reset (R49). -/
  steps : Nat
  /-- Nanoseconds since reset release after which the first tick may be issued (R560); none while it waits. -/
  firstFrom : Option Nat
  /-- The maintenance slot of the current tick has opened (t+S_m reached). -/
  slotOpen : Bool
  /-- A step is committed to this epoch edge (R44). -/
  stepCommitted : Bool
  /-- The epoch record that the latch of this epoch edge replaced, and how many EPOCH_OUT pulses it started (R76): what a
  measurement before t+1.0 µs of the edge, which TICK_EDGE has run ahead of, still decides. -/
  recordBefore : List Word
  pulses : Nat
  /-- The tick index at the edge of the current tick, which names the bank of its measurement set (R367). -/
  setIndex : Nat
  /-- G1COMPAT forced the cadence: the image held another one (TICK_STATUS.CADENCE_FORCED). -/
  forced : Bool
  deriving DecidableEq, Repr

/-- The quality states of Table 2.4. -/
inductive Quality where
  | locked | freewheel | reacquire | untraceable
  deriving DecidableEq, Repr

/-- The code of Table 2.4. -/
def Quality.code : Quality → Nat
  | .locked => 0 | .freewheel => 1 | .reacquire => 2 | .untraceable => 3

/-- PPS_IN (R56). -/
structure Pps where
  /-- Consecutive edges on the 1 s grid, 0 to 4. -/
  count : Nat
  /-- Instant of the last edge taken, ns since reset release. -/
  last : Option Nat
  qualified : Bool
  /-- The most recent offset measured (R561), the instant of its measurement and the correction in force at it (R70). -/
  offset : Option Int
  measAt : Nat
  measCorr : Int
  deriving DecidableEq, Repr

/-- PTP (R58, R62). -/
structure Ptp where
  /-- The last Announce carried timeTraceable TRUE and clockClass 6 or 7 in the configured domain. -/
  announceOk : Bool
  /-- Consecutive Sync messages, 0 to 3. -/
  count : Nat
  /-- The Sync interval of the last valid Sync. -/
  lastInterval : Option Nat
  qualified : Bool
  /-- TAI − UTC of the last Announce. -/
  utc : Int
  leap61 : Bool
  leap59 : Bool
  /-- Offsets of the valid Syncs of the current one-second interval. -/
  pendingOffsets : List Int
  /-- The most recent offset measured (R561), the instant of its measurement and the correction in force at it (R70). -/
  offset : Option Int
  measAt : Nat
  measCorr : Int
  deriving DecidableEq, Repr

/-- The Timebase Unit (chapter 2). -/
structure Tbu where
  pps : Pps
  ref10m : Bool
  ptp : Ptp
  quality : Quality
  /-- SOURCE code of Table 2.7. -/
  source : Nat
  /-- The offset held for Table 2.4, ns: the last measured one of the selected source, 0 after a step (R70). -/
  offset : Int
  /-- The last measured offset (TBU_OFFSET_NS). -/
  lastOffset : Int
  /-- What is left of that offset to slew, in half nanoseconds (R68). -/
  remaining : Int
  /-- A measurement made after a step was committed: it is used only after the step (R71). -/
  deferred : Option Int
  /-- The slew of the running tick, in half nanoseconds (R68), and whether all of it has been placed. -/
  tickSlew : Int
  slewPlaced : Bool
  stepPending : Bool
  /-- A seconds count has been taken from PTP or a label (R59). -/
  secondsKnown : Bool
  /-- The label of the next PPS edge. -/
  label : Option Nat
  /-- Consecutive measurements with |offset| ≤ 50 ns. -/
  lockCount : Nat
  /-- Instant of the last entry into LOCKED, ns since reset release. -/
  lockedAt : Nat
  everTraced : Bool
  /-- Freewheel entry: instant, B0 and the curve (R66). -/
  fwEntry : Nat
  fwB0 : Nat
  shortCurve : Bool
  /-- The applied frequency correction, 0.001 ppb units. -/
  corr : Int
  /-- The corrections applied, newest first: (instant since reset release, correction). -/
  corrHist : List (Nat × Int)
  /-- Instant and correction of the latest measurement (R70). -/
  measAt : Nat
  measCorr : Int
  /-- The source of higher priority that is in its revert hold-off (R55). -/
  holding : Bool
  lastStep : Int
  /-- The time record of TBU_SNAP_0 to _3. -/
  snap : List Word
  deriving DecidableEq, Repr

/-! ## Completion statuses and event classes -/

/-- Completion statuses (Table 0.5). -/
inductive Status where
  | ok | aborted | tickOverrun | memberFault | keyReject | linkFault | consequential | notAdmitted
  | cancelled | poisoned | syncFault | descInvalid | windowViolation | notReady | isolated | timeDiscontinuity
  | micro (sub : Nat)
  deriving DecidableEq, Repr

/-- The 8-bit code of Table 0.5; a microcode subcode lies in 0x80–0xFF. -/
def Status.code : Status → Nat
  | .ok => 0 | .aborted => 1 | .tickOverrun => 2 | .memberFault => 3 | .keyReject => 4 | .linkFault => 5
  | .consequential => 6 | .notAdmitted => 7 | .cancelled => 8 | .poisoned => 9 | .syncFault => 10
  | .descInvalid => 11 | .windowViolation => 12 | .notReady => 13 | .isolated => 14 | .timeDiscontinuity => 15
  | .micro sub => 128 + sub % 128

/-- The status of a code below 16 of Table 0.5, and the subcode of a code from 128 on. -/
def Status.ofCode (c : Nat) : Status :=
  ([.ok, .aborted, .tickOverrun, .memberFault, .keyReject, .linkFault, .consequential, .notAdmitted, .cancelled, .poisoned,
    .syncFault, .descInvalid, .windowViolation, .notReady, .isolated, .timeDiscontinuity] : List Status).getD c (.micro (c % 128))

/-- Event classes, numbered as in Table 17.4 (R20). -/
inductive EvClass where
  | time | link | fabric | sync | check | fence | ingest | serve | background | power
  deriving DecidableEq, Repr

/-- The code of Table 17.4. -/
def EvClass.code : EvClass → Nat
  | .time => 0 | .link => 1 | .fabric => 2 | .sync => 3 | .check => 4 | .fence => 5 | .ingest => 6 | .serve => 7
  | .background => 8 | .power => 9

/-- One PLDM event (Table 18.9) and the log record it also makes (Table 17.4). -/
structure EventRec where
  cls : EvClass
  block : Nat
  bit : Nat
  alert : Bool
  detail : Word
  tick : Nat
  time : List Word
  deriving DecidableEq, Repr

/-! ## Work -/

/-- A descriptor (Table 7.2; a G1COMPAT descriptor of Table 7.15 is held in the same fields). -/
structure Desc where
  raw : List Byte
  opcode : Nat
  tgtAbs : Bool
  irq : Bool
  key : Nat
  target : Nat
  defer : Nat
  depIndex : Nat
  depQueue : Nat
  depValid : Bool
  worst : Nat
  lanes : Nat
  userTag : Nat
  /-- The 32 operand bytes. -/
  ops : List Byte
  /-- Every field and bit outside the operands that is marked 0 is 0. -/
  zeroOk : Bool
  deriving DecidableEq, Repr

/-- A slot of a queue's prefetch cache (R174). -/
structure CacheSlot where
  index : Nat
  desc : Desc
  /-- Its slot of the cache, 0 to 7. -/
  pos : Nat
  /-- TICK_SEQ of the target tick (R167); one that has passed may lie below 0. -/
  target : Int
  /-- TICK_SEQ of the first tick whose overlay deadline lay ahead when the entry was cached. -/
  first : Nat
  /-- The check of Table 7.6 that failed: status and DETAIL. -/
  fail : Option (Status × Nat)
  /-- Taken by an accepted overlay or by the Ledger. -/
  taken : Bool
  /-- Time steps applied when the entry entered the cache (R49). -/
  steps : Nat
  deriving DecidableEq, Repr

/-- The queue states of WQ_Q_STATUS. -/
inductive QState where
  | disabled | enabled | stopping | faulted | resetting
  deriving DecidableEq, Repr

/-- The code of WQ_Q_STATUS.STATE. -/
def QState.code : QState → Nat
  | .disabled => 0 | .enabled => 1 | .stopping => 2 | .faulted => 3 | .resetting => 4

/-- A completion record that waits to be written (R183). -/
structure PendingRec where
  index : Nat
  desc : Desc
  status : Status
  detail : Nat
  invalid : Bool
  /-- The instant the status was decided (Table 7.8). -/
  time : List Word
  deriving DecidableEq, Repr

/-- A work queue (chapter 7). -/
structure Queue where
  st : QState
  cfgErr : Bool
  invBusy : Bool
  /-- The accepted SQ tail. -/
  tail : Nat
  /-- Posted entries not completed, in ring order (their SQ indices). -/
  posted : List Nat
  /-- Posted entries not yet fetched, in ring order. -/
  toFetch : List Nat
  /-- Fetches outstanding (SQ indices). -/
  fetching : List Nat
  /-- Descriptors that arrived and wait for an earlier one to enter the cache (R174). -/
  fetched : SMap (List Byte)
  cache : List CacheSlot
  /-- Next CQ write index. -/
  cqWrite : Nat
  /-- Released CQ head. -/
  cqHead : Nat
  phase : Bool
  /-- Records written and not released, oldest first; true marks a standing record. -/
  unreleased : List Bool
  /-- The next ENABLE begins a first pass (R179, R562). -/
  firstPass : Bool
  dbResult : Nat
  dbRetry : Nat
  /-- Doorbells written while INV_BUSY (R176), oldest first: true is a CQ head. -/
  dbWaiting : List (Bool × Nat)
  /-- A record with IRQ set was written since the last moderated signal (R180). -/
  irqPending : Bool
  /-- The status of the entry most recently completed at an index (R169). -/
  done : SMap Status
  /-- ABORTED records that wait for released CQ space (R183). -/
  aborts : List PendingRec
  /-- A SHUTDOWN waits for its shutdown point although a failed fetch has made the queue FAULTED (R181, R189). -/
  stopDue : Bool
  deriving DecidableEq, Repr

/-- What a standing-schedule entry holds (Table 7.10). -/
structure Standing where
  period : Nat
  offset : Nat
  runNext : Bool
  reportOk : Bool
  queue : Nat
  start : Nat
  desc : Desc
  deriving DecidableEq, Repr

/-- Where a work item comes from. -/
inductive ItemSrc where
  /-- A cached work-queue entry. -/
  | entry (queue index : Nat)
  /-- An instance of a standing-schedule entry. -/
  | standing (e : Nat)
  /-- A decode or draft step of a model. -/
  | step (model number : Nat)
  /-- A prefill chunk of a slot, with its token count. -/
  | chunk (model slot tokens : Nat)
  /-- A summary store of a slot. -/
  | summary (model slot : Nat)
  deriving DecidableEq, Repr

/-- Where a work item stands. -/
inductive ItemPhase where
  | waiting | running | done
  deriving DecidableEq, Repr

/-- A dispatched work item of a tick (R30, R32). -/
structure Item where
  src : ItemSrc
  part : Nat
  queue : Nat
  desc : Desc
  /-- Lanes: core c is c, stream i is 64 + i. -/
  lanes : List Nat
  start : Nat
  finish : Nat
  /-- TICK_SEQ of its tick. -/
  seq : Nat
  ph : ItemPhase
  /-- Not complete at the edge after its tick (R38). -/
  late : Bool
  runNext : Bool
  reportOk : Bool
  /-- It has written some result. -/
  wrote : Bool
  /-- Grounds for a status that arose while it ran, with DETAIL (chapter 19 picks among them). -/
  grounds : List (Status × Nat)
  /-- The membership bitmap of a collective. -/
  members : Nat
  /-- Time steps applied when the operation was accepted (R49). -/
  steps : Nat
  /-- Order of release, for ties (R514). -/
  order : Nat
  /-- The tick index of its tick, as it was when the item was released. -/
  tick : Nat
  deriving DecidableEq, Repr

/-- An item of an overlay (Table 20.7). -/
structure OvlItem where
  kind : Nat
  src : Nat
  index : Nat
  start : Nat
  finish : Nat
  tokens : Nat
  reservedOk : Bool
  deriving DecidableEq, Repr

/-- An item of an accepted overlay with the entry it took (R174). -/
structure Taken where
  it : OvlItem
  slot : Option CacheSlot
  deriving DecidableEq, Repr

/-- The schedule memory and the overlay interface (chapter 20). -/
structure Sched where
  /-- The inactive bank, mapped by the overlay window (word index). -/
  window : SMap Word
  /-- The active bank. -/
  active : SMap Word
  /-- The accepted overlay: the TICK_SEQ of its tick and its items. -/
  overlay : Option (Nat × List Taken)
  /-- TICK_OVL_STATUS: ITEM and RESULT of the last commit. -/
  ovlItem : Nat
  ovlResult : Nat
  standing : List Standing
  /-- A committed replacement standing schedule (R35). -/
  standingNext : Option (List Standing)
  /-- The status of the instance of a standing entry most recently completed (R169). -/
  standingDone : SMap Status
  fcNs : Nat
  /-- Items of the current and the previous tick. -/
  items : SMap Item
  nextItem : Nat
  deriving DecidableEq, Repr

/-! ## Host reads -/

/-- What a host read is for. -/
inductive ReadUse where
  | fetch (queue index : Nat)
  | copy (item dst len : Nat)
  | prompt (slot off : Nat)
  | coldResume (slot dst len : Nat)
  | hostReturn (part slot : Nat)
  /-- A descriptor fetch that an INVALIDATE, a BARRIER or the end of fetching made useless: its data is not used. -/
  | unused
  deriving DecidableEq, Repr

/-- A read tag slot (R185). -/
structure TagSlot where
  gen : Nat
  waiting : Option ReadUse
  quarantined : Bool
  deriving DecidableEq, Repr

/-! ## Supervisor, Fence and partitions -/

/-- The supervisor pair (chapter 5). -/
structure Sup where
  ready : Bool
  restarting : Bool
  held : Bool
  checkLost : Bool
  overlayHeld : Bool
  /-- READY has been set since the supervisor reset that set OVERLAY_HELD (R141). -/
  readySince : Bool
  /-- Tick strobes since the last valid kick (R137). -/
  wdog : Nat
  /-- The watchdog counts (READY set since the last supervisor reset, R143). -/
  wdogOn : Bool
  /-- Consecutive failed restarts (R142). -/
  failed : Nat
  /-- The tick interrupt is pending at the supervisor. -/
  irq : Bool
  /-- The main core runs from the SUPERVISOR_FW entry point. -/
  started : Bool
  /-- ENTRY, CODE_LEN and DATA_LEN of the loaded SUPERVISOR_FW section; the locked copy of DATA follows CODE in the code
  SRAM. -/
  entry : Nat
  codeLen : Nat
  dataLen : Nat
  /-- The checker core is halted (R125). -/
  checkerHalted : Bool
  /-- The comparator self-test (Table 5.4): 0 runs, 1 skipped from a hold until READY, 2 skipped from READY until the next
  epoch edge. -/
  selfTestOff : Nat
  deriving DecidableEq, Repr

/-- A DMA window (Table 18.6). -/
structure Window where
  read : Bool
  write : Bool
  host : Bool
  part : Nat
  base : Nat
  length : Nat
  deriving DecidableEq, Repr

/-- A class of an ALLOCATIONS entry with its first resource, count, partition and use code. -/
structure Alloc where
  cls : Nat
  use : Nat
  part : Nat
  first : Nat
  count : Nat
  deriving DecidableEq, Repr

/-- The Fence (chapter 5). -/
structure Fence where
  /-- Partitions in force (PART_STATUS[7:0]). -/
  inForce : Nat
  /-- A change of FENCE_PART_ACTIVE that came after t − 25 µs of an epoch edge waits for the edge after it: the
  TICK_SEQ of the write (R518). -/
  activeWrite : Option (Nat × Nat)
  /-- Egress counted in the tick, by partition: Aethil and PCIe bytes. -/
  usedAethil : SMap Nat
  usedPcie : SMap Nat
  /-- Caps in force this tick, by partition (written caps take effect at the next edge, R133). -/
  caps : SMap Word
  vlogValid : Bool
  vlogOvf : Bool
  /-- The two bounds that share FENCE_EVENT.LOCK and have refused while it is set: bit 0 locked fields, bit 1 the power
  ceiling (R129). -/
  lockBy : Nat
  /-- Fence table entries failed closed, with the reloads that failed: window w is w, ALLOCATIONS entry i is 256 + i. -/
  failedClosed : SMap Nat
  windows : SMap Window
  allocs : SMap Alloc
  deriving DecidableEq, Repr

/-- The partition block (chapter 6). -/
structure Part where
  /-- Rejects of the current tick (R161). -/
  tickRejects : Nat
  logOvf : Bool
  tenants : SMap Nat
  deriving DecidableEq, Repr

/-! ## Sync flags -/

/-- A pending wait at a flag's home (R200). -/
structure Waiter where
  issuer : Nat
  clr : Bool
  item : Option Nat
  deriving DecidableEq, Repr

/-- A release that travels from a flag's home to its waiter (R201). -/
structure Release where
  flag : Nat
  issuer : Nat
  /-- Latency in ninths of a ns from the SET (a core cycle is 5, an I-die cycle 6). -/
  latency : Nat
  deriving DecidableEq, Repr

/-- The sync fabric (chapter 8). -/
structure Sync where
  /-- Flags that read 1. -/
  flags : List Nat
  waiters : SMap (List Waiter)
  releases : List Release
  logOvf : Bool
  auditWrap : Bool
  auditNext : Nat
  /-- Audit ring words. -/
  audit : SMap (List Word)
  /-- Waits that began in the current tick: (issuer, ns from the edge). -/
  since : SMap Nat
  /-- Spin time of the current tick in ns. -/
  spinCore : Nat
  spinSpoke : Nat
  deriving DecidableEq, Repr

/-! ## Links and fabric -/

/-- The port states of Table 12.5. -/
inductive PortState where
  | disabled | down | hold | training | exchange | refused | ready | active | degraded | faulted
  deriving DecidableEq, Repr

/-- The code of Table 12.5. -/
def PortState.code : PortState → Nat
  | .disabled => 0 | .down => 1 | .hold => 2 | .training => 3 | .exchange => 4 | .refused => 5 | .ready => 6
  | .active => 7 | .degraded => 8 | .faulted => 9

/-- An open link fault (R301): when it opened (ns from reset release), the flit it concerns and its failed deliveries. -/
structure LinkFault where
  opened : Nat
  seq : Nat
  failures : Nat
  deriving DecidableEq, Repr

/-- A packet that waits at an egress port, with the port it came in by and the packet as it came where it is in
transit: its flits lie in that port's receive buffer until it goes (R303). -/
structure TxWait where
  pkt : Packet
  rx : Option (Nat × Packet)
  deriving DecidableEq, Repr

/-- An Aethil port (chapter 12). -/
structure Port where
  st : PortState
  /-- Mask of the lanes trained and in service; WIDTH is their count. -/
  laneOk : Nat
  /-- Packets that wait for credits, oldest first (R297), and credits owed to the partner by class (R303). -/
  txWait : List TxWait
  owed : List Nat
  /-- Packets in the receive buffer that have not passed to the crossbar or a hub, with their flits so far, oldest first
  (R303). -/
  rxBuf : List (Packet × Nat)
  /-- The stream of the collective packet that this port sent last (R256). -/
  turn : Nat
  partnerMod : Nat
  partnerPort : Nat
  refuse : Nat
  txSeq : Nat
  rxSeq : Nat
  /-- Unacknowledged flits, oldest first (R300). -/
  replay : List Flit
  /-- A flit was discarded since the last accepted one (one NAK per gap, R299). -/
  gap : Bool
  fault : Option LinkFault
  /-- The fault open at the transmitting side: a flit that a NAK named or whose acknowledgement timer expired. -/
  txFault : Option LinkFault
  /-- The training in progress is a retrain of a FAULTED port (R305). -/
  retrain : Bool
  /-- Transmit credits in flits, classes 0 to 2 (R303). -/
  credits : List Nat
  /-- The packet whose HEAD has arrived and whose last flit has not. -/
  rxPartial : Option Packet
  /-- A packet for this module, checked at its HEAD, whose last flit has not arrived (R298). -/
  arriving : Option Packet
  /-- Consecutive failed retrains (R305). -/
  failedRetrains : Nat
  /-- This end's checks of the partner's CAP passed; the partner's CAP_ACK arrived (R306). -/
  capPassed : Bool
  ackRx : Bool
  /-- TICK_SEQ at entry to READY (R307). -/
  readySeq : Nat
  /-- Lane mask of a WIDTH_REQ sent and not answered. -/
  widthReq : Option Nat
  /-- A width change has been made, and at this end no flit accepted, or no flit acknowledged, since: failed deliveries of
  flits that come in, or go out, count against no budget (R308). -/
  changing : Bool
  changingTx : Bool
  /-- This port's own bring-up time has come since the microcode lock (R304). -/
  begun : Bool
  /-- Lane under recalibration, and whether it was taken out of service for it. -/
  recal : Option (Nat × Bool)
  /-- Epoch number of the JOIN sent and of the JOIN received, with its CRC (R349). -/
  joinTx : Option Nat
  joinRx : Option (Nat × Nat)
  deriving DecidableEq, Repr

/-- The die-to-die bridge (R314–R318). -/
structure Bridge where
  /-- 0 UP, 1 FAULTED, 2 RETRAINED. -/
  st : Nat
  isolated : Bool
  detour : Bool
  /-- I-die 1's own standing schedule while ISOLATED. -/
  standing1 : List Standing
  deriving DecidableEq, Repr

/-- The source of a fold position (Table 13.7). -/
structure Pos where
  kind : Nat
  mod : Nat
  hub : Nat
  deriving DecidableEq, Repr

/-- A node of a tree entry (Table 13.7). -/
structure TreeNode where
  role : Nat
  parentMod : Nat
  parentHub : Nat
  r : Nat
  pos : List Pos
  deriving DecidableEq, Repr

/-- A tree entry (Table 13.7). -/
structure Tree where
  defined : Bool
  rootMod : Nat
  rootHub : Nat
  chan : Nat
  node0 : TreeNode
  node1 : TreeNode
  alt : List Nat
  deriving DecidableEq, Repr

/-- A module of the MODULES table. -/
structure ModEntry where
  present : Bool
  relay : Bool
  x : Nat
  y : Nat
  z : Nat
  deriving DecidableEq, Repr

/-- A port of the PORTS table. -/
structure PortEntry where
  expMod : Nat
  expPort : Nat
  used : Bool
  foreign : Bool
  deriving DecidableEq, Repr

/-- A channel of the CHANNELS table. -/
structure Channel where
  mode : Nat
  foreignOk : Bool
  timeoutUs : Nat
  valiant : Nat
  deriving DecidableEq, Repr

/-- The ROUTES section as loaded (Table 13.6). Route entries hold (DOR_PORTS, MIN_PORTS). -/
structure Routes where
  topo : Nat
  dimX : Nat
  dimY : Nat
  dimZ : Nat
  foreignRelay : Option Nat
  modules : List ModEntry
  ports : List PortEntry
  channels : List Channel
  route : List (Nat × Nat)
  /-- Keyed by 32 × lost module + target. -/
  failover : SMap (Nat × Nat)
  trees : List Tree
  /-- CRC-32C of the MODULES table (R349). -/
  crc : Nat
  deriving DecidableEq, Repr

/-- A packet sent and not acknowledged end to end: its number, its transfer, its source address and the packet (R330). -/
structure Sent where
  seq : Nat
  transfer : Nat
  addr : Nat
  pkt : Packet
  deriving DecidableEq, Repr

/-- A flow at its origin (R328, R330). -/
structure OutFlow where
  part : Nat
  chan : Nat
  dst : Nat
  next : Nat
  unacked : List Sent
  /-- Timeouts without progress (the resend budget is 3). -/
  timeouts : Nat
  via : Option Nat
  /-- A LINK_FAULT report for the flow has been received (R334, R335). -/
  reported : Bool
  /-- A key reject has ended a transfer of the flow, whose timeout may still fire (R155, R334). -/
  rejected : Bool
  deriving DecidableEq, Repr

/-- A flow at its destination (R331–R333). -/
structure InFlow where
  key : Nat
  chan : Nat
  src : Nat
  expect : Nat
  /-- Packets held out of sequence, with their I-die buffer (false) or overflow range (true). -/
  held : List (Packet × Bool)
  fences : List Packet
  /-- Numbers delivered out of sequence (R332). -/
  direct : List Nat
  /-- Packets delivered in sequence and not yet acknowledged. -/
  unackedCount : Nat
  nakSent : Bool
  unsequenced : Bool
  deriving DecidableEq, Repr

/-- What one packet of a transfer carries: its message, its destination offset, its source address and its bytes. -/
structure Piece where
  msg : Msg
  offset : Nat
  addr : Nat
  data : List Byte
  deriving DecidableEq, Repr

/-- A channel transfer this module originates: its destination, its packets still unacknowledged and its fate. -/
structure Transfer where
  id : Nat
  part : Nat
  chan : Nat
  dst : Nat
  order : Nat
  status : Option (Status × Nat)
  /-- A KV ship, staged through KV_STAGE, and its pieces that wait for room there (R247, R412). -/
  staged : Bool
  waiting : List Piece
  deriving DecidableEq, Repr

/-- The fabric (chapter 13). -/
structure Fabric where
  routes : Routes
  nodeUp : Nat
  /-- Modules declared down, rising. -/
  down : List Nat
  severed : Bool
  /-- NODE_DOWN and NODE_UP notices already forwarded. -/
  seenDown : List Nat
  seenUp : List Nat
  /-- Modules announced up, admitted at t+S_m of this epoch edge (R351). -/
  upNext : List Nat
  outFlows : List OutFlow
  inFlows : List InFlow
  transfers : List Transfer
  nextTransfer : Nat
  /-- Reorder buffer and overflow bytes in use, by I-die, and their peaks of the tick. -/
  rob : SMap Nat
  ovf : SMap Nat
  robPeak : SMap Nat
  ovfPeak : SMap Nat
  fenceUsed : SMap Nat
  /-- Packets that reached the device and wait for nothing more: delivered fabric data, newest first. -/
  delivered : List Packet
  /-- Next port in rotation for SPRAY. -/
  rotate : Nat
  deriving DecidableEq, Repr

/-- Operation tags already reported as LINK_FAULT on this module (R310), and timeouts that acted
(R312). -/
structure FaultLedger where
  reported : List Nat
  /-- Operation tags for which a key-reject notice was sent or received (R155, R311). -/
  rejects : List Nat
  timedOut : List Nat
  /-- Collectives of this module that a LINK_FAULT or a key reject has ended, whose timeouts may still fire (R155, R311). -/
  closed : List Nat
  deriving DecidableEq, Repr

/-! ## Values at reset of the numbered tables -/

/-- A descriptor with every byte 0. -/
def Desc.zero : Desc :=
  { raw := [], opcode := 0, tgtAbs := false, irq := false, key := 0, target := 0, defer := 0, depIndex := 0,
    depQueue := 0, depValid := false, worst := 0, lanes := 0, userTag := 0, ops := [], zeroOk := true }

/-- A work queue after reset. -/
def Queue.init : Queue :=
  { st := .disabled, cfgErr := false, invBusy := false, tail := 0, posted := [], toFetch := [], fetching := [], fetched := [],
    cache := [], cqWrite := 0, cqHead := 0, phase := false, unreleased := [], firstPass := true, dbResult := 0,
    dbRetry := 0, dbWaiting := [], irqPending := false, done := [], aborts := [], stopDue := false }

/-- A read tag slot after reset. -/
def TagSlot.init : TagSlot := { gen := 0, waiting := none, quarantined := false }

/-- A port after reset: before the microcode lock it is in HOLD, or DISABLED when it is not enabled. -/
def Port.init : Port :=
  { st := .hold, laneOk := 0, txWait := [], owed := [0, 0, 0], rxBuf := [], turn := 0, partnerMod := 0, partnerPort := 0, refuse := 0, txSeq := 0, rxSeq := 0, replay := [],
    gap := false, fault := none, txFault := none, retrain := false, credits := [0, 0, 0], rxPartial := none, arriving := none, failedRetrains := 0,
    capPassed := false, ackRx := false, readySeq := 0, widthReq := none, changing := false, changingTx := false, begun := false, recal := none, joinTx := none,
    joinRx := none }

/-- An item that names nothing. -/
def Item.zero : Item :=
  { src := .standing 0, part := 0, queue := 0, desc := Desc.zero, lanes := [], start := 0, finish := 0, seq := 0,
    ph := .done, late := false, runNext := false, reportOk := false, wrote := false, grounds := [], members := 0,
    steps := 0, order := 0, tick := 0 }

/-- No routes. -/
def Routes.none : Routes :=
  { topo := 0, dimX := 0, dimY := 0, dimZ := 0, foreignRelay := Option.none, modules := [], ports := [],
    channels := [], route := [], failover := [], trees := [], crc := 0 }

/-! ## Collectives, hubs and spokes -/

/-- A group of the GROUPS section (Table 9.11). -/
structure Group where
  /-- The 64-byte entry as loaded. -/
  raw : List Byte
  defined : Bool
  lenient : Bool
  nodeOnly : Bool
  kind : Nat
  part : Nat
  stream : Nat
  size : Nat
  axis : Nat
  treeId : Nat
  stepTimeout : Nat
  maxDyn : Nat
  /-- BLOCK_ORIGIN and BLOCK_EXTENT, three numbers each. -/
  origin : List Nat
  extent : List Nat
  members : List Nat
  deriving DecidableEq, Repr

/-- A slot of a stream buffer (Table 11.4): the segment it holds, whether all of it is there, and its elements: in the
accumulator for a reduction, input bytes for data movement. -/
structure SlotBuf where
  seg : Nat
  full : Bool
  /-- The elements are already in the output format (a result that came down the tree). -/
  out : Bool
  elems : List Nat
  /-- A combine has taken this operand (R224). -/
  combined : Bool := false
  deriving DecidableEq, Repr

/-- An engine operation that a spoke issued and the hub has not finished (R254). -/
structure EngOp where
  /-- OP code of Table 11.3. -/
  op : Nat
  seg : Nat
  /-- The slot, as half × 8 + position. -/
  slot : Nat
  /-- COMB: the operand slot; SEND: the direction; FILL: the pattern; GRANT: the position mask. -/
  arg : Nat
  /-- COMB: FIRST; SEND: the peer's rank; WRITE: the slot rank. -/
  aux : Nat
  deriving DecidableEq, Repr

/-- What an arm message told the order root: signature agreement and counts (R226). -/
structure Armed where
  good : Bool
  counts : List Nat
  deriving DecidableEq, Repr

/-- A collective in progress on a stream (chapters 9 and 10). -/
structure CollOp where
  item : Nat
  group : Nat
  /-- The operands of Table 9.4. -/
  coll : Nat
  redFn : Nat
  fmt : Nat
  cflags : Nat
  count : Nat
  src : Nat
  dst : Nat
  peer : Nat
  tileFlag : Nat
  tileK : Nat
  tileLen : Nat
  /-- MOD_IDs by rank, and this module's rank; none on a node. -/
  members : List Nat
  rank : Option Nat
  /-- ROLE of Table 10.3 and r. -/
  role : Nat
  foldR : Nat
  /-- The tree in use; its alternates are taken in turn (R235, R344). -/
  tree : Nat
  /-- 0 before the planned start, 1 in the arm round, 2 sealed, 3 in the data phase. -/
  stage : Nat
  /-- Arm messages that reached the order root, by rank. -/
  arms : SMap Armed
  /-- Smallest s_max seen so far, in granules (R250). -/
  sGran : Nat
  sealed : Nat
  counts : List Nat
  /-- m of R252. -/
  segs : Nat
  /-- Ranks lost after the seal. -/
  lost : Nat
  /-- Ranks whose loss has been counted (R240). -/
  counted : Nat
  /-- Ranks from which blocks arrived (R236). -/
  blocks : Nat
  /-- Lowest segment not yet written (R345), and segments completed (HUB_STRM_STAT). -/
  written : Nat
  /-- Re-arm messages that reached the order root of the alternate tree: lowest unwritten segment by rank. -/
  reArms : SMap Nat
  /-- A tree switch waits for its re-seal. -/
  switching : Bool
  /-- Credits granted to positions (position, segment), and credits held to send (0 up or 16 + the peer's rank, segment). -/
  granted : List (Nat × Nat)
  held : List (Nat × Nat)
  slots : SMap SlotBuf
  engine : List EngOp
  /-- Result bytes already written by this operation. -/
  wrote : Bool
  /-- The tick index of the operation (Table 12.3). -/
  tick : Nat
  /-- Tiles of a STREAMED source whose flag has released, or chunks of a STREAM done with, in ascending order (R230,
  R231), and the source bytes of the tiles that a whole run has read. -/
  tiles : Nat
  ownRead : List Byte
  /-- Segments that have arrived of another rank's block, as (rank, segment) (R236). -/
  got : List (Nat × Nat)
  /-- Segments whose operands this member has sent up, and after a tree switch the number of segments whose results it had
  written before (R346). -/
  sent : List Nat
  redo : Nat
  deriving DecidableEq, Repr

/-- A spoke while its routine runs (chapter 11). -/
structure Spoke where
  /-- The dispatch entry (Table 11.9). -/
  entry : Nat
  pc : Nat
  /-- GP0 to GP15. -/
  gp : List Nat
  /-- The commit: continuation and snapshot (R278). -/
  commit : Option (Nat × List Nat)
  /-- The routine's first DATA_START wait has released. -/
  dataSeen : Bool
  /-- Lock-step timing is in force, and its claim is held (R273, R275). -/
  timing : Bool
  claim : Bool
  /-- The word whose flag a WAIT_CLR of this spoke has taken although a restart came before the word executed: it does
  not wait for that flag again (R282, R283). -/
  taken : Option Nat
  /-- Lock-step is off for the rest of the operation (R274, R276). -/
  waitOnly : Bool
  /-- The spoke stalls at its word (WAITING), with the flag wait it made. -/
  waiting : Bool
  flagWait : Option Nat
  /-- The flag wait has been released (R201). -/
  released : Bool
  /-- A restart is in progress. -/
  restarting : Bool
  /-- The block whose reload it waits for, and whether it restarts with cause 5 after it (R287, R289). -/
  stall : Option (Nat × Bool)
  op : CollOp
  deriving DecidableEq, Repr

/-- The control stores (R286–R292). Keys: word = hub × 16,384 + address; block = hub × 256 + block; dispatch entry =
hub × 128 + index. -/
structure CtrlStore where
  words : SMap Nat
  crcs : SMap Nat
  dispatch : SMap Nat
  /-- Blocks under reload, with the failures so far. -/
  reloading : SMap Nat
  /-- BASE, WORDS and the flash address of the loaded words of each hub. -/
  base : SMap Nat
  wordsN : SMap Nat
  flashAt : SMap Nat
  deriving DecidableEq, Repr

/-- The hubs (chapters 9 to 11). -/
structure Hubs where
  groups : SMap Group
  spokes : SMap Spoke
  store : CtrlStore
  /-- Operations of this module that ended: item and status, newest first, so that a later contribution is known to be
  late (R234). -/
  ended : List (Nat × Nat)
  /-- Granules held early by one stream, the most in the current tick, by hub (R254). -/
  heldPeak : SMap Nat
  /-- The stream whose combine each hub's ALU serves (true) or served last (R257). -/
  alu : SMap (Nat × Bool)
  collOvf : Bool
  /-- The instant, ns since reset release, at which HUB_COLL_LOG was written (chapter 9, Edge cases). -/
  collLogAt : Option Nat
  deriving DecidableEq, Repr

/-! ## Measurement ingest, the Ledger and serving models -/

/-- A native block in progress on an ingest port (R358, R360). -/
structure TallyBlock where
  stream : Nat
  alive : Nat
  time : List Byte
  blockLen : Nat
  count : Nat
  next : Nat
  payload : List Byte
  /-- Every byte of every segment so far, for the CRC (Table 14.3). -/
  crcOver : List Byte
  /-- TICK_SEQ of the tick in which the first segment arrived (R361). -/
  seq : Nat
  deriving DecidableEq, Repr

/-- The measurement set of a partition in the current tick (R369). -/
structure TallySet where
  entries : Nat
  dataBytes : Nat
  dropped : Nat
  /-- Next data offset from the bank start. -/
  dataNext : Nat
  /-- The entries written, for SET_CRC. -/
  bytes : List Byte
  deriving DecidableEq, Repr

/-- The Tally units (chapter 14). -/
structure Tally where
  blocks : SMap TallyBlock
  sets : SMap TallySet
  /-- Forward-ring slots written and not released, by port (R524). -/
  fwdUsed : SMap Nat
  /-- Forward rings that write nothing until their HEAD is written after an FLR (R523). -/
  fwdOff : List Nat
  deriving DecidableEq, Repr

/-- A partition entry of the LEDGER section (Table 15.9). -/
structure LdgPart where
  slotFirst : Nat
  slotMax : Nat
  weights : List Nat
  pageLog2 : Nat
  kvBase : Nat
  kvPages : Nat
  deriving DecidableEq, Repr

/-- A model entry with its serving extension (Tables 15.10 and 16.10). -/
structure Model where
  runNext : Bool
  multi : Bool
  part : Nat
  steps : Nat
  microsteps : Nat
  failLimit : Nat
  leadMod : Nat
  group : Nat
  cores : Nat
  maxCtx : Nat
  kvb : Nat
  d0 : Nat
  d1 : Nat
  d2 : Nat
  p0 : Nat
  p1 : Nat
  chunkMax : Nat
  slotMax : Nat
  reserve : Nat
  summaryBytes : Nat
  summaryTokens : Nat
  layout : Nat
  place : Nat
  peerModel : Nat
  peerMod : Nat
  draftModel : Nat
  draftLen : Nat
  kvChannel : Nat
  shipGroup : Nat
  stepStreams : Nat
  vocab : Nat
  sampleK : Nat
  shipLimit : Nat
  adapterBpr : Nat
  gatherBase : Nat
  deriving DecidableEq, Repr

/-- An order in a PREFILL model's queue (R410). -/
structure Order where
  bytes : List Byte
  /-- TICK_SEQ of its receipt. -/
  seq : Nat
  /-- The module it came from. -/
  src : Nat
  deriving DecidableEq, Repr

/-- A slot update of a multi-module pool that waits for its step and microstep (R391). -/
structure SlotUpdate where
  slot : Nat
  /-- The slot's new STATE, and whether its row is masked. -/
  st : Nat
  masked : Bool
  step : Nat
  microstep : Nat
  deriving DecidableEq, Repr

/-- What a model has in hand (chapter 15). -/
structure ModelRun where
  /-- STEP_SEQ: batches written, mod 65,536. -/
  stepSeq : Nat
  /-- Steps run since load. -/
  stepNo : Nat
  /-- A step is in progress, with the slots of its rows in row order, and its next microstep boundary. -/
  running : Bool
  rows : List Nat
  microstep : Nat
  /-- Steps begun in the current tick (R425), and whether a slot was in DECODE when the tick began (R399). -/
  inTick : Nat
  expect : Bool
  /-- Failed steps in a row, and the last failed step's status (R398). -/
  fails : Nat
  lastFail : Option (Status × Nat)
  gap : Bool
  stalled : Bool
  retry : Bool
  /-- TICK_SEQ of the tick whose step R397 leaves out. -/
  skipSeq : Option Nat
  /-- V and F_c of R384. -/
  vtime : Nat
  finish : List Nat
  orders : List Order
  updates : List SlotUpdate
  deriving DecidableEq, Repr

/-- A slot of the Ledger (Table 15.2). -/
structure Slot where
  st : Nat
  model : Nat
  cls : Nat
  part : Nat
  /-- The SUBMIT: queue and SQ index, and its descriptor; on a PREFILL model, the order. -/
  queue : Nat
  index : Nat
  desc : Desc
  order : Option Order
  promptLen : Nat
  promptAddr : Nat
  promptHost : Bool
  /-- Pieces of a host prompt that have arrived, by offset. -/
  promptBuf : SMap (List Byte)
  hostSample : Bool
  speculate : Bool
  maskN : Nat
  adapter : Nat
  maxNew : Nat
  stop : Option Nat
  /-- KV pages held, in page order. -/
  pages : List Nat
  /-- Prompt (or summary) tokens still to be processed. -/
  todo : Nat
  emitted : Nat
  ttl : Nat
  /-- The TTL starts at the tick edge after the PAUSE completed (R403). -/
  ttlOn : Bool
  /-- Time steps applied when the operation was accepted (R49). -/
  steps : Nat
  /-- Order of admission. -/
  age : Nat
  masked : Bool
  /-- A cancellation took effect while a step was in progress. -/
  midStep : Bool
  /-- How the request ends at the end of the step or chunk in progress. -/
  ending : Option (Status × Nat)
  /-- A PAUSE taken: its queue, index, descriptor and mode, waiting for the end of the step or chunk. -/
  pause : Option (Nat × Nat × Desc × Nat)
  /-- Time steps applied when its PAUSE, or its RESUME, was accepted (R49). -/
  controlSteps : Nat
  /-- The state it paused from. -/
  pausedFrom : Nat
  /-- A RESUME taken: its queue, index and descriptor. -/
  resume : Option (Nat × Nat × Desc)
  hostAddr : Nat
  /-- Reads of a cold resume still outstanding. -/
  reads : Nat
  /-- STEP_SEQ of its candidate region, and the token the host returned. -/
  candSeq : Option Nat
  returned : Option Nat
  /-- The return read at the last gate was refused (R424). -/
  hostRefused : Bool
  /-- Prefill of a summary resume. -/
  summary : Bool
  /-- TICK_SEQ of the start of its KV ship; the first token shipped. -/
  shipSeq : Option Nat
  firstToken : Nat
  /-- Tokens its draft model proposed in this round (R431). -/
  draft : List Nat
  /-- The decode slot enters DECODE at the next admission gate (R413). -/
  shipped : Bool
  deriving DecidableEq, Repr

/-- The Ledger (chapters 15 and 16). -/
structure Ledger where
  parts : SMap LdgPart
  models : SMap Model
  runs : SMap ModelRun
  slots : SMap Slot
  /-- KV pages taken, by partition: page numbers. -/
  taken : SMap (List Nat)
  nextAge : Nat
  /-- Partitions that wrote a batch in the current tick (their vector is signalled at t+3.0 µs of the next). -/
  wrote : List Nat
  /-- Output-ring slots written and not released, by partition. -/
  outUsed : SMap Nat
  /-- Candidate and return areas in force, by partition (they change at an admission gate). -/
  sampleBase : SMap Nat
  returnBase : SMap Nat
  deriving DecidableEq, Repr

/-- What a model has in hand after reset. -/
def ModelRun.init : ModelRun :=
  { stepSeq := 0, stepNo := 0, running := false, rows := [], microstep := 0, inTick := 0, expect := false, fails := 0, lastFail := none,
    gap := false, stalled := false, retry := false, skipSeq := none, vtime := 0, finish := List.replicate 8 0,
    orders := [], updates := [] }

/-- An empty measurement set. -/
def TallySet.init : TallySet := { entries := 0, dataBytes := 0, dropped := 0, dataNext := 0, bytes := [] }

/-- A FREE slot. -/
def Slot.free : Slot :=
  { st := 0, model := 0, cls := 0, part := 0, queue := 0, index := 0, desc := Desc.zero, order := none, promptLen := 0,
    promptAddr := 0, promptHost := false, promptBuf := [], hostSample := false, speculate := false, maskN := 255, adapter := 65535,
    maxNew := 0, stop := none, pages := [], todo := 0, emitted := 0, ttl := 0, ttlOn := false, steps := 0, age := 0,
    masked := false, midStep := false, ending := none, pause := none, controlSteps := 0, pausedFrom := 0, resume := none, hostAddr := 0,
    reads := 0, candSeq := none, returned := none, hostRefused := false, summary := false, shipSeq := none, firstToken := 0, draft := [],
    shipped := false }

/-! ## Boot, management, background and power -/

/-- The boot sequence (chapter 4). -/
structure Boot where
  /-- HST_BOOT_STATUS.PHASE. -/
  phase : Nat
  /-- HST_BOOT_STATUS.SLOT: 0 A, 1 B, 2 safe, 3 none yet. -/
  slot : Nat
  cfgLocked : Bool
  ucodeLocked : Bool
  serviceable : Bool
  waitSource : Bool
  fallback : Bool
  unconfirmed : Bool
  /-- Slots still to be tried, in order (R97). -/
  trying : List Nat
  /-- HW training is complete (R116). -/
  hwDone : Bool
  /-- FW_INIT_BUDGET of the image in ms and LOCK_WINDOW in ms. -/
  fwBudgetMs : Nat
  lockWindowMs : Nat
  /-- Sections of the booted image that apply: type, flash address, length. -/
  sections : List (Nat × Nat × Nat)
  imageId : Nat
  /-- A supervisor READY that came before the configuration window is part of the boot (R108). -/
  fwReady : Bool
  /-- RESET_N is low since this instant (ns on the module's clock of the command), or the module is not released yet. -/
  inReset : Bool
  /-- Protective holds: rail and thermal (R540, R554). -/
  railHold : Bool
  thermalHold : Bool
  /-- The flash did not answer a read (R95). -/
  flashDead : Bool
  deriving DecidableEq, Repr

/-- The fuses (chapter 4): fused minimum SVN, revoked key slots, and the hash of the public key of each of the four key
slots (R103). -/
structure Fuses where
  minSvn : Nat
  revoked : Nat
  keyHashes : List (List Byte)
  deriving DecidableEq, Repr

/-- A log record that waits in the on-die buffer (Table 17.4). -/
inductive LogRec where
  | event (e : EventRec) (rseq : Nat)
  | telemetry (sensor : Nat) (reading : Nat) (tick rseq : Nat) (time : List Word)
  deriving DecidableEq, Repr

/-- A flash operation of the log chore in progress (R447, R448): a page program with its bytes, or a sector erase. -/
inductive FlashOp where
  | program (addr : Nat) (bytes : List Byte)
  | erase (sector : Nat)
  deriving DecidableEq, Repr

/-- The background chores (chapter 17). -/
structure Background where
  /-- Chores in their slot or carry-over: chore codes 0 HBM3E, 1 core SRAM, 2 hub SRAM, 3 table, 4 control store. -/
  running : List Nat
  /-- The patrols run in a carry-over window, since this instant (R437). -/
  carry : Option Nat
  /-- Where each patrol resumes, and the ticks with slot time of the pass in progress. -/
  place : SMap Nat
  ticks : SMap Nat
  /-- Ports that recalibrated in the current epoch are told by `Port.recal`; here the open sector of the log, its next
  page, pages programmed in the epoch, the flash operation in progress. -/
  openSector : Option Nat
  nextPage : Nat
  pagesInEpoch : Nat
  /-- A page was programmed in the current slot (R447). -/
  pageInSlot : Bool
  /-- COMPARE values still in force, by timer, while one written with RUN = 1 waits for the next expiry (R528). -/
  timerNext : SMap Word
  flashOp : Option FlashOp
  /-- Sectors known erased, sectors retired, erase counts. -/
  erased : List Nat
  retired : List Nat
  erases : SMap Nat
  sectorSeq : Nat
  /-- The telemetry ring (R452): samples by slot, and how many are held. -/
  ring : SMap (List Nat)
  held : Nat
  deriving DecidableEq, Repr

/-- PLDM firmware update (R480–R483). -/
structure Update where
  active : Bool
  /-- Bytes received, and the length announced. -/
  got : Nat
  len : Nat
  deriving DecidableEq, Repr

/-- PCIe, management and security (chapter 18). -/
structure HostIf where
  perstLow : Bool
  /-- PF0 issues no access to host memory until it is enabled again (R465). -/
  pf0Off : Bool
  /-- PCIe configuration space is ready (R457). -/
  cfgReady : Bool
  /-- Address translations cached: partition and host page. -/
  ats : List (Nat × Nat)
  /-- Invalidations not yet completed: host page. -/
  atsInv : List Nat
  /-- The IDE stream: secure, insecure, and the key set in use. -/
  ideInsecure : Bool
  ideKeySet : Nat
  /-- Endpoints in I3C mode. -/
  i3cMode : List Nat
  update : Update
  /-- Measurements frozen (R107): digests of measurements 2 to 4, and measurement 5 at the configuration lock. -/
  meas : SMap (List Byte)
  /-- An SPDM session is open. -/
  spdmSession : Bool
  /-- Log read in progress (R486). -/
  logBusy : Option Nat
  deriving DecidableEq, Repr

/-- The power block (chapters 21 and 22). -/
structure Power where
  /-- The ceiling in force in this tick. -/
  ceiling : Nat
  crit : Bool
  /-- E(t) of the tick in µJ, the highest 1 µs mean in W, the interval in progress and whether it is gated. -/
  energy : Nat
  peak : Nat
  gated : Bool
  acted : Bool
  /-- ALARM balls that are high: ball and whether their minimum time runs. -/
  balls : SMap Bool
  deriving DecidableEq, Repr

/-! ## Emissions -/

/-- What the module emits: on pins, links, the host bus and management. The state keeps them all, newest first. -/
inductive Output where
  /-- A pin pulse: pin name, start (ns from the tick edge) and width in ns. -/
  | pulse (pin : String) (start width : Nat)
  /-- A pin level. -/
  | level (pin : String) (high : Bool)
  /-- An MSI-X message of function 0 or 1 (R469). -/
  | msix (fn vector : Nat)
  /-- A PlatformEventMessage to the event receiver (R478). -/
  | pldmEvent (e : EventRec)
  /-- A PCIe memory read with its tag (R185). -/
  | hostRead (tag addr len : Nat)
  /-- A packet on an Aethil port. -/
  | packet (port : Nat) (p : Packet)
  /-- A packet over the die-to-die bridge. -/
  | bridge (p : Packet)
  /-- A link-level flit or training frame on a port. -/
  | link (port : Nat) (f : LinkMsg)
  /-- The tick interrupt to supervisor firmware (Table 1.4). -/
  | tickIrq
  /-- A management answer: kind, code and data bytes. -/
  | reply (kind : String) (code : Nat) (data : List Byte)
  /-- The bus error of R119. -/
  | busError
  /-- A value the device returns to a register access. -/
  | value (v : Nat)
  deriving DecidableEq, Repr

/-! ## The machine -/

/-- Every piece of state of the module. -/
structure State where
  build : Build
  straps : Straps
  boot : Boot
  fuses : Fuses
  mems : Memories
  clock : Clock
  tbu : Tbu
  /-- BAR0 registers by offset; an unlisted register holds its reset value (`RegMap.resetOf`). -/
  regs : SMap Word
  /-- High-word latches by requester (R507): key = 2^24 × requester + offset of the HI register. -/
  latches : SMap Word
  sched : Sched
  queues : SMap Queue
  tags : SMap TagSlot
  nextSlot : Nat
  /-- Reads that wait for a free tag slot, oldest first: use, address, length (R185). -/
  readWait : List (ReadUse × Nat × Nat)
  sup : Sup
  fence : Fence
  /-- PCIe writes held by an egress cap (R132), oldest first: partition, address, bytes. -/
  heldWrites : List (Nat × Nat × List Byte)
  /-- Packets held by an egress cap: partition, the I-die they come from (2 where that is either) and packet. -/
  heldPackets : List (Nat × Nat × Packet)
  part : Part
  sync : Sync
  ports : SMap Port
  bridge : Bridge
  fab : Fabric
  faults : FaultLedger
  hubs : Hubs
  tally : Tally
  ledger : Ledger
  bkg : Background
  host : HostIf
  power : Power
  /-- The on-die log buffer (R446), oldest first, and the record sequence since reset. -/
  logBuf : List LogRec
  logSeq : Nat
  /-- PLDM events not yet sent (R478), oldest first, and the event receiver. -/
  pldmQ : List EventRec
  pldmReceiver : Option Nat
  /-- MSI-X: unmasked vectors and pending bits; key = 4096 × function + vector (R469). -/
  msixUnmasked : List Nat
  msixPending : List Nat
  /-- MSI-X table words; key = 65536 × function + byte offset. -/
  msixTable : SMap Word
  /-- What the module emitted, newest first. -/
  out : List Output
  /-- Draws of free values so far (the model's own field, log entry 3). -/
  free : Nat
  /-- Commands waiting, first in, first out (the model's own field). -/
  pending : List Instr
  deriving DecidableEq, Repr

/-- Reasons a step stops with a fault. -/
inductive Fault where
  /-- Raised by RESET_N_ASSERT when RESET_N is low for 1 µs or more and for less than 1 ms: the spec gives no defined
  outcome (chapter 22). Safe: the model stops where the hardware does something unknown. -/
  | resetPulseUndefined
  deriving DecidableEq, Repr

/-- Reasons a step refuses a command. -/
inductive Refusal where
  /-- Raised by an arm of exec that has no meaning yet. Safe. -/
  | notModelled (mnemonic : String)
  deriving DecidableEq, Repr

/-! ## Reset -/

/-- The Timebase Unit after reset: UNTRACEABLE on the OCXO, no source qualified (chapter 2). -/
def Tbu.init : Tbu :=
  { pps := { count := 0, last := none, qualified := false, offset := none, measAt := 0, measCorr := 0 }
    ref10m := false
    ptp := { announceOk := false, count := 0, lastInterval := none, qualified := false, utc := 0, leap61 := false,
             leap59 := false, pendingOffsets := [], offset := none, measAt := 0, measCorr := 0 }
    quality := .untraceable, source := 0, offset := 0, lastOffset := 0, remaining := 0, deferred := none, tickSlew := 0, slewPlaced := false
    stepPending := false, secondsKnown := false, label := none, lockCount := 0, lockedAt := 0, everTraced := false
    fwEntry := 0, fwB0 := 0, shortCurve := false, corr := 0, corrHist := [(0, 0)], measAt := 0, measCorr := 0
    holding := false, lastStep := 0, snap := [0, 0, 0, 0] }

/-- The registers whose reset value depends on the build (Tables 3.5, 21.7 and 21.12; log entry 7 for LNK_PORT_EN). -/
def State.resetRegs (b : Build) (st : Straps) : SMap Word :=
  let ident := 0x01000000 + (if st.g1compat then 0x8000 else 0) + b.stacks * 256 + b.idies * 64 + b.code
  let strap := (if st.g1compat then 1 else 0) + 2 * (st.bootSel % 4) + 8 * (st.modId % 32)
  [(Reg.LNK_PORT_EN, BitVec.ofNat 32 (2 ^ b.ports - 1)), (Reg.HST_IDENT, BitVec.ofNat 32 ident),
   (Reg.HST_STRAP, BitVec.ofNat 32 strap), (Reg.PWR_LIMIT, BitVec.ofNat 32 b.envelope)]

/-- The machine at reset release: build and straps as sampled (R92), every register at its reset value, every memory
empty but the flash and host memory given, fuses as given. -/
def State.fresh (b : Build) (st : Straps) (fuses : Fuses) (flash hostMem : Mem) : State :=
  { build := b
    straps := st
    boot := { phase := 0, slot := 3, cfgLocked := false, ucodeLocked := false, serviceable := false,
              waitSource := false, fallback := false, unconfirmed := false, trying := [], hwDone := false,
              fwBudgetMs := 450, lockWindowMs := 80, sections := [], imageId := 0, fwReady := false, inReset := false,
              railHold := false, thermalHold := false, flashDead := false }
    fuses := fuses
    mems := { mem := [], host := hostMem, csram := [], hsram := [], flash := flash, supData := [], supCode := [],
              poisonMem := [], poisonCsram := [], poisonHsram := [] }
    clock := { running := false, seq := 0, index := 0, edge := 0, elapsed := 0, half := 0, len := 0, stretch := 0, bank := false,
               standing := false, discont := false, steps := 0, firstFrom := none, slotOpen := false,
               stepCommitted := false, recordBefore := [], pulses := 0, setIndex := 0, forced := false }
    tbu := Tbu.init
    regs := State.resetRegs b st
    latches := []
    sched := { window := [], active := [], overlay := none, ovlItem := 0, ovlResult := 0, standing := [],
               standingNext := none, standingDone := [], fcNs := 0, items := [], nextItem := 0 }
    queues := []
    tags := []
    nextSlot := 0
    readWait := []
    sup := { ready := false, restarting := false, held := false, checkLost := false, overlayHeld := false,
             readySince := false, wdog := 0, wdogOn := false, failed := 0, irq := false, started := false, entry := 0,
             codeLen := 0, dataLen := 0, checkerHalted := false,
             selfTestOff := 0 }
    fence := { inForce := 0, activeWrite := none, usedAethil := [], usedPcie := [], caps := [], vlogValid := false,
               vlogOvf := false, lockBy := 0, failedClosed := [], windows := [], allocs := [] }
    heldWrites := []
    heldPackets := []
    part := { tickRejects := 0, logOvf := false, tenants := [] }
    sync := { flags := [], waiters := [], releases := [], logOvf := false, auditWrap := false, auditNext := 0,
              audit := [], since := [], spinCore := 0, spinSpoke := 0 }
    ports := []
    bridge := { st := 0, isolated := false, detour := false, standing1 := [] }
    fab := { routes := Routes.none, nodeUp := 0, down := [], severed := false, seenDown := [], seenUp := [], upNext := [],
             outFlows := [], inFlows := [], transfers := [], nextTransfer := 0, rob := [], ovf := [], robPeak := [],
             ovfPeak := [], fenceUsed := [], delivered := [], rotate := 0 }
    faults := { reported := [], rejects := [], timedOut := [], closed := [] }
    hubs := { groups := [], spokes := [],
              store := { words := [], crcs := [], dispatch := [], reloading := [], base := [], wordsN := [],
                         flashAt := [] }
              ended := [], heldPeak := [], alu := [], collOvf := false,
              collLogAt := none }
    tally := { blocks := [], sets := [], fwdUsed := [], fwdOff := [] }
    ledger := { parts := [], models := [], runs := [], slots := [], taken := [], nextAge := 0, wrote := [], outUsed := [],
                sampleBase := [], returnBase := [] }
    bkg := { running := [], carry := none, place := [], ticks := [], openSector := none, nextPage := 0, pagesInEpoch := 0, pageInSlot := false,
             timerNext := [],
             flashOp := none, erased := [], retired := [], erases := [], sectorSeq := 0, ring := [], held := 0 }
    host := { perstLow := false, pf0Off := false, cfgReady := false, ats := [], atsInv := [], ideInsecure := false, ideKeySet := 0,
              i3cMode := [], update := { active := false, got := 0, len := 0 }, meas := [], spdmSession := false,
              logBusy := none }
    power := { ceiling := b.envelope, crit := false, energy := 0, peak := 0, gated := false, acted := false,
               balls := [] }
    logBuf := []
    logSeq := 0
    pldmQ := []
    pldmReceiver := none
    msixUnmasked := []
    msixPending := []
    msixTable := []
    out := []
    free := 0
    pending := [] }

/-- The machine right after reset: an N build with every strap low (unconnected straps read 0, R533), an erased flash,
no fused minimum SVN and key hashes of zeros (log entries 1 and 2); the reset was a power-on (log entry 15). -/
def State.reset : State :=
  let s := State.fresh .n { g1compat := false, bootSel := 0, modId := 0 } { minSvn := 0, revoked := 0, keyHashes := List.replicate 4 (List.replicate 48 0#8) } [] []
  { s with regs := SMap.put s.regs Reg.PWR_RESET_CAUSE 1#32 }

end Sys2Proof.Machine
end

