-- ==== Sys2Proof/Machine/Ops.lean ====
section
/-! DEFINITION. The named operations over registers, counters, events, time and memory that every family's meanings
are built from. -/

namespace Sys2Proof.Machine

/-! ## Registers -/

/-- The value a register holds. -/
def rd (s : State) (off : Nat) : Word := SMap.get s.regs (RegMap.resetOf off) off

/-- A register replaced. -/
def wr (s : State) (off : Nat) (v : Word) : State := { s with regs := SMap.put s.regs off v }

/-- A field of a register. -/
def rdF (s : State) (off lo len : Nat) : Nat := fld (rd s off) lo len

/-- A saturating counter after adding `n` (R51 and its likes). -/
def addSat (w : Word) (n : Nat) : Word := sat32 (w.toNat + n)

/-- A saturating counter register with `n` added. -/
def bumpN (s : State) (off n : Nat) : State := wr s off (addSat (rd s off) n)

/-- A saturating counter register with one added. -/
def bump (s : State) (off : Nat) : State := bumpN s off 1

/-- A list of registers set to 0. -/
def zeroRegs (s : State) (offs : List Nat) : State :=
  { s with regs := offs.foldl (fun r o => SMap.put r o 0#32) s.regs }

/-- An output appended. -/
def emit (s : State) (o : Output) : State := { s with out := o :: s.out }

/-- A free Bool, drawn at the counter of the state (log entry 3). -/
def drawBool (s : State) : Bool := Config.freeBool s.free

/-- The state with one more free value drawn. -/
def drawn (s : State) : State := { s with free := s.free + 1 }

/-- `a / b` rounded: exact where it divides, and up or down by a free choice where it does not (log entry 5). -/
def freeDiv (s : State) (a : Int) (b : Nat) : Int :=
  if a % b = 0 then a / b else if drawBool s then a / b + 1 else a / b

/-! ## The build -/

/-- G1COMPAT is in force. -/
def g1 (s : State) : Bool := s.straps.g1compat

/-- Work queues present (chapter 7, Under G1COMPAT). -/
def numQueues (s : State) : Nat := if g1 s then 32 else 64

/-- Collective streams present (Table 3.4; 8 under G1COMPAT). -/
def numStreams (s : State) : Nat := if g1 s then 8 else s.build.streams

/-- Partitions present. -/
def numParts (s : State) : Nat := if g1 s then 4 else 8

/-- This module's MOD_ID. -/
def modId (s : State) : Nat := s.straps.modId

/-! ## Tick geometry (R22, R27) -/

/-- CADENCE in force: 0x0C8 under G1COMPAT. -/
def cadence (s : State) : Nat := if g1 s then 200 else rdF s Reg.TICK_CFG 0 11

/-- T in ns. -/
def tickNs (s : State) : Nat := 50000 * cadence s

/-- N, the ticks of an epoch. -/
def epochLen (s : State) : Nat := rdF s Reg.TICK_EPOCHCFG 0 16

/-- The grace window G in ns. -/
def graceNs (s : State) : Nat := rdF s Reg.TICK_CFG 16 7 * tickNs s / 1000

/-- The maintenance slot M in ns. -/
def maintNs (s : State) : Nat := rdF s Reg.TICK_CFG 24 8 * tickNs s / 1000

/-- S_m = max(4 µs, G). -/
def slotStart (s : State) : Nat := max 4000 (graceNs s)

/-- S_f = S_m + M. -/
def foreStart (s : State) : Nat := slotStart s + maintNs s

/-- σ = 50 ppm of T, in half nanoseconds (T is a multiple of 50 µs, so σ is a multiple of 2.5 ns). -/
def sigmaHalf (s : State) : Nat := tickNs s / 10000

/-- t+T−σ, the end of the foreground, in whole ns (rounded down). -/
def foreEnd (s : State) : Nat := (2 * tickNs s - sigmaHalf s) / 2

/-- F = T − σ − S_f, in whole ns (rounded down). -/
def foreLen (s : State) : Nat := foreEnd s - foreStart s

/-- Epoch position of a tick index (R23). -/
def epochPos (s : State) (k : Nat) : Nat := k % epochLen s

/-- Epoch number of a tick index (R23). -/
def epochNum (s : State) (k : Nat) : Nat := k / epochLen s

/-- The current tick began at an epoch edge. -/
def atEpochEdge (s : State) : Bool := s.clock.running && epochPos s s.clock.index == 0

/-- The current tick is stretched or will be: a step is committed to it (R44). -/
def stepCommitted (s : State) : Bool := s.clock.stepCommitted

/-- How much of the running tick's slew is placed `t` ns after its edge, in half ns: none at the edge, all of it at its
end, and between them a free course that stays within the slew (log entry 72). -/
def slewAt (s : State) (t : Nat) : Int :=
  let d := s.tbu.tickSlew
  if d = 0 ∨ t = 0 then 0
  else if s.tbu.slewPlaced = true ∨ s.clock.len ≤ t then d
  else max (min 0 d) (min (max 0 d) (Config.slewCourse d s.clock.len t))

/-- The instant `t` ns of the timescale after the current tick edge, in ns since reset release: a slew lengthens or
shortens the tick (R68). -/
def now (s : State) (t : Nat) : Nat := ((2 * (s.clock.elapsed + t) + s.clock.half : Nat) + slewAt s t).toNat / 2

/-- The timescale at the instant `t` ns after the current tick edge. -/
def scaleAt (s : State) (t : Nat) : Int := s.clock.edge + t

/-! ## Error bound and time records (R66, R72) -/

/-- The freewheel bound of R66, `e` ns after entry, rounded up to a whole ns and saturating. The three terms are put
over the common denominator 10^10 × 3600^2 × 10^8 (ns). -/
def freewheelBound (b0 e : Nat) (short : Bool) : Nat :=
  let lin := if short then 30 else 3
  -- linear term: lin × e / 10^10 ; square term: 320 × e² / (3600 × 10^9)²
  let den := 12960000 * 1000000000 * 1000000000
  let num := b0 * den + lin * e * (den / 10000000000) + 320 * e * e
  min (ceilDiv num den) (2 ^ 32 - 1)

/-- The bound reported `t` ns after the current tick edge (Table 2.4). -/
def boundAt (s : State) (t : Nat) : Nat :=
  match s.tbu.quality with
  | .locked => 100
  | .reacquire => min (s.tbu.offset.natAbs + 100) (2 ^ 32 - 1)
  | .freewheel => freewheelBound s.tbu.fwB0 (now s t - s.tbu.fwEntry) s.tbu.shortCurve
  | .untraceable =>
    if s.tbu.everTraced then freewheelBound s.tbu.fwB0 (now s t - s.tbu.fwEntry) s.tbu.shortCurve else 2 ^ 32 - 1

/-- Words 0 to 3 of a time record at an instant of the timescale (Table 2.7). -/
def timeRecordAt (s : State) (ts : Int) (bound : Nat) : List Word :=
  let n := ts.toNat
  let sec := n / 1000000000
  let w2 := sec / 2 ^ 32 % 65536 + s.tbu.quality.code * 2 ^ 16 + s.tbu.source * 2 ^ 18 +
    b2n s.clock.discont * 2 ^ 22 + b2n s.tbu.stepPending * 2 ^ 23
  [BitVec.ofNat 32 (n % 1000000000), BitVec.ofNat 32 sec, BitVec.ofNat 32 w2, BitVec.ofNat 32 bound]

/-- The time record of the instant `t` ns after the current tick edge (R72). -/
def timeRecord (s : State) (t : Nat) : List Word := timeRecordAt s (scaleAt s t) (boundAt s t)

/-- Words 0 to 2 of a time with bits [31:16] of word 2 zero, as completion records carry it (R72). -/
def timeOnly (s : State) (t : Nat) : List Word :=
  let n := (scaleAt s t).toNat
  let sec := n / 1000000000
  [BitVec.ofNat 32 (n % 1000000000), BitVec.ofNat 32 sec, BitVec.ofNat 32 (sec / 2 ^ 32 % 65536)]

/-- The little-endian bytes of a list of words (R8). -/
def wordBytes (ws : List Word) : List Byte := ws.flatMap (fun w => leBytes 4 w.toNat)

/-! ## Ownership (R150, Table 6.2) -/

/-- Entry `e` of an on-die table, numbered as `Finding` numbers them, is failed closed (R441). -/
def entryClosed (s : State) (e : Nat) : Bool := (SMap.get? s.fence.failedClosed e).isSome

/-- The ALLOCATIONS entry of class `c` that covers resource `i`; none where no entry does, or where the entry is failed
closed (R441). -/
def allocOf (s : State) (c i : Nat) : Option Alloc :=
  (s.fence.allocs.find? (fun a => a.2.cls == c && decide (a.2.first ≤ i) && decide (i < a.2.first + a.2.count) &&
    (SMap.get? s.fence.failedClosed (256 + a.1)).isNone)).map (·.2)

/-- The partition that owns resource `i` of class `c` (Table 6.2). -/
def ownerOf (s : State) (c i : Nat) : Option Nat := (allocOf s c i).map (·.part)

/-- The USE code of the entry of class `c` that covers resource `i`. -/
def useOf (s : State) (c i : Nat) : Option Nat := (allocOf s c i).map (·.use)

/-! ## MSI-X (R468, R469) -/

/-- Whether a vector is unmasked; after reset every vector is masked (log entry 14). -/
def msixOpen (s : State) (fn vec : Nat) : Bool := s.msixUnmasked.contains (4096 * fn + vec)

/-- A vector signalled: a message when it is unmasked, its pending bit when it is masked (R469). -/
def signalVector (s : State) (fn vec : Nat) : State :=
  { s with
    out := if msixOpen s fn vec then .msix fn vec :: s.out else s.out
    msixPending := if msixOpen s fn vec || s.msixPending.contains (4096 * fn + vec) then s.msixPending
      else (4096 * fn + vec) :: s.msixPending }

/-- FIRST of the DEVICE vector allocation, in force from the configuration lock on (Table 18.5). -/
def deviceVector (s : State) : Option Nat :=
  if s.boot.cfgLocked then (s.fence.allocs.find? (fun a => a.2.cls == 0x0C && a.2.use == 2)).map (·.2.first) else none

/-- The alert summary (offset 0) or boot phase (offset 1) vectors of both functions (Table 18.5). -/
def signalDevice (s : State) (which : Nat) : State :=
  let s1 := match deviceVector s with
    | some f => signalVector s 0 (f + which)
    | none => s
  signalVector s1 1 which

/-! ## Events (R20, R446, R478, R479) -/

/-- The first log register of a block, where it is valid, for the event register at `evt`; 0 otherwise (Tables 17.4 and
18.9). -/
def firstLog (s : State) (evt : Nat) : Word :=
  if evt = Reg.FENCE_EVENT then (if s.fence.vlogValid then rd s Reg.FENCE_VLOG_0 else 0)
  else if evt = Reg.PART_EVENT then (if wbit (rd s Reg.PART_REJECT_LOG_0) 15 then rd s Reg.PART_REJECT_LOG_0 else 0)
  else if evt = Reg.SYNC_EVENT then (if wbit (rd s Reg.SYNC_FAULT_LOG) 23 then rd s Reg.SYNC_FAULT_LOG else 0)
  else if evt = Reg.HUB_COLL_EVENT then (if wbit (rd s Reg.HUB_COLL_LOG_0) 31 then rd s Reg.HUB_COLL_LOG_0 else 0)
  else if evt = Reg.SPK_EVENT 0 then (if wbit (rd s (Reg.SPK_ILLEGAL_LOG 0)) 31 then rd s (Reg.SPK_ILLEGAL_LOG 0) else 0)
  else if evt = Reg.SPK_EVENT 1 then (if wbit (rd s (Reg.SPK_ILLEGAL_LOG 1)) 31 then rd s (Reg.SPK_ILLEGAL_LOG 1) else 0)
  else if evt = Reg.LNK_EVENT then (if wbit (rd s Reg.LNK_FAULT_LOG_0) 31 then rd s Reg.LNK_FAULT_LOG_0 else 0)
  else if evt = Reg.BKG_EVENT then (if wbit (rd s Reg.BKG_HBM_UE_LOG_LO) 0 then rd s Reg.BKG_HBM_UE_LOG_LO else 0)
  else if evt = Reg.LDG_EVENT then rd s Reg.LDG_REFUSE_LOG
  else 0

/-- The record of an event (Table 18.9) at `t` ns after the tick edge. -/
def eventRec (s : State) (evt bit : Nat) (c : EvClass) (alert : Bool) (t : Nat) : EventRec :=
  { cls := c, block := evt / 65536, bit := bit, alert := alert, detail := firstLog s evt, tick := s.clock.index,
    time := timeOnly s t }

/-- An event bit set in its register, nothing more. -/
def setEvent (s : State) (evt bit : Nat) : State := wr s evt (setBitW (rd s evt) bit)

/-- A log record added to the on-die buffer of 2,048 records; when it is full the record is dropped and counted, and
LOG_DROP is raised (R446). -/
def logEvent (s : State) (e : EventRec) : State :=
  if s.logBuf.length < 2048 then
    { s with logBuf := s.logBuf ++ [.event e s.logSeq], logSeq := s.logSeq + 1 }
  else bump (setEvent s Reg.BKG_EVENT 9) Reg.BKG_LOG_DROP_COUNT

/-- A PLDM event sent to the receiver, or held while none is set; past 64 held events it is dropped and counted, with
PLDM_EVENT_DROP (R478). -/
def sendPldm (s : State) (e : EventRec) : State :=
  if s.pldmReceiver.isSome then { s with out := .pldmEvent e :: s.out }
  else if s.pldmQ.length < 64 then { s with pldmQ := s.pldmQ ++ [e] }
  else bump (setEvent s Reg.HST_EVENT 5) Reg.HST_PLDM_EVENT_DROP_COUNT

/-- The ALARM balls of a class, once the configuration is locked (R535, R536). -/
def alarmBalls (s : State) (c : Nat) : List Nat :=
  if s.boot.cfgLocked then (List.range 7).filter (fun b => useOf s 1 b == some (0x10 + c)) else []

/-- A timing ball carries its timing function: an entry of USE TIMING covers it, from the configuration lock on (R535,
R536). -/
def timingBall (s : State) (b : Nat) : Bool := s.boot.cfgLocked && useOf s 1 b == some 1

/-- The name of a function ball (Table 22.2). -/
def ballName (b : Nat) : String :=
  if b = 0 then "PPS_OUT" else if b = 1 then "TICK_OUT" else if b = 2 then "EPOCH_OUT" else if b = 3 then "GPIO0"
  else if b = 4 then "GPIO1" else if b = 5 then "GPIO2" else "GPIO3"

/-- The ALARM balls of a class driven high; a ball that is low rises and its 10 ms minimum starts (R537). -/
def raiseAlarms (s : State) (c : Nat) : State :=
  (alarmBalls s c).foldl (fun s b =>
    if (SMap.get? s.power.balls b).isSome then s
    else emit { s with power := { s.power with balls := SMap.put s.power.balls b true } } (.level (ballName b) true)) s

/-- The ALARM balls of a class whose bit is 0: those past their minimum go low (R537). -/
def dropAlarms (s : State) (c : Nat) : State :=
  (alarmBalls s c).foldl (fun s b =>
    if SMap.get? s.power.balls b = some false then
      emit { s with power := { s.power with balls := SMap.del s.power.balls b } } (.level (ballName b) false)
    else s) s

/-- ALERT_N asserted for a class: its bit of HST_ALERT_STATUS is set, its ALARM balls are high, and the alert summary
vectors are signalled when the bit goes from 0 to 1 (R479, R537, Table 18.5). -/
def assertAlert (s : State) (c : EvClass) : State :=
  let was := wbit (rd s Reg.HST_ALERT_STATUS) c.code
  let low := rd s Reg.HST_ALERT_STATUS = 0
  let s1 := raiseAlarms (wr s Reg.HST_ALERT_STATUS (setBitW (rd s Reg.HST_ALERT_STATUS) c.code)) c.code
  let s2 := if low then emit s1 (.level "ALERT_N" false) else s1
  if was then s2 else signalDevice s2 0

/-- An event raised: its bit is set; when it asserts ALERT_N or is a PLDM event it is logged and sent, and ALERT_N is
asserted where its rule says so. -/
def raise (s : State) (evt bit : Nat) (c : EvClass) (alert pldm : Bool) (t : Nat) : State :=
  let s1 := setEvent s evt bit
  let e := eventRec s1 evt bit c alert t
  let s2 := if alert || pldm then sendPldm (logEvent s1 e) e else s1
  if alert then assertAlert s2 c else s2

/-! ## Fence refusals (R129) -/

/-- The bounds of Table 5.3. -/
inductive Bound where
  | part | egress | time | tickGuard | ucode | window | lock | power
  deriving DecidableEq, Repr

/-- The bit of FENCE_EVENT, which FENCE_VLOG_0 also holds. Table 5.9 lists none for the power ceiling: it shares LOCK (log
entry 76). -/
def Bound.bit : Bound → Nat
  | .part => 0 | .egress => 1 | .time => 2 | .tickGuard => 3 | .ucode => 4 | .window => 5 | .lock => 6 | .power => 6

/-- The bit of `Fence.lockBy` of a bound that shares FENCE_EVENT.LOCK. -/
def Bound.share : Bound → Nat
  | .lock => 1 | .power => 2 | _ => 0

/-- The counter of a bound (Table 5.3: the tick guard and the power ceiling count in FENCE_COUNT_LOCK). -/
def Bound.counter : Bound → Nat
  | .part => Reg.FENCE_COUNT_PART | .egress => Reg.FENCE_COUNT_EGRESS | .time => Reg.FENCE_COUNT_TIME
  | .tickGuard => Reg.FENCE_COUNT_LOCK | .ucode => Reg.FENCE_COUNT_UCODE | .window => Reg.FENCE_COUNT_WINDOW
  | .lock => Reg.FENCE_COUNT_LOCK | .power => Reg.FENCE_COUNT_LOCK

/-- The Fence's log entry of a refusal: written when the log is empty, VLOG_OVF set otherwise. -/
def fenceLog (s : State) (b : Bound) (p : Nat) (src : Requester) (addr : Nat) : State :=
  if s.fence.vlogValid then { s with fence := { s.fence with vlogOvf := true } }
  else
    { s with
      fence := { s.fence with vlogValid := true }
      regs := SMap.put (SMap.put s.regs Reg.FENCE_VLOG_0
        (BitVec.ofNat 32 (b.bit + (p % 8) * 16 + (match src with | .supervisor => 0 | .pf0 => 128))))
        Reg.FENCE_VLOG_1 (BitVec.ofNat 32 addr) }

/-- FENCE_EVENT.LOCK is shared: which of its bounds have set it since it was last clear. -/
def noteBound (s : State) (b : Bound) : State :=
  if b.share = 0 then s
  else { s with fence := { s.fence with
    lockBy := (if wbit (rd s Reg.FENCE_EVENT) b.bit then s.fence.lockBy else 0) ||| b.share } }

/-- A Fence refusal with `n` counts (R129, R130): the counter, the log, the FENCE-class event; ALERT_N when the refusal
repeats (its event bit is still set by a refusal of the same bound) or is of the time, microcode or tick-guard kind. -/
def fenceRefuseN (s : State) (b : Bound) (n p : Nat) (src : Requester) (addr t : Nat) : State :=
  let set := wbit (rd s Reg.FENCE_EVENT) b.bit
  let repeats := set && (b.share == 0 || s.fence.lockBy &&& b.share != 0)
  let kind := match b with
    | .time | .ucode | .tickGuard => true
    | _ => false
  let s1 := fenceLog (bumpN (noteBound s b) b.counter n) b p src addr
  raise s1 Reg.FENCE_EVENT b.bit .fence (repeats || kind) false t

/-- One Fence refusal. -/
def fenceRefuse (s : State) (b : Bound) (p : Nat) (src : Requester) (addr t : Nat) : State :=
  fenceRefuseN s b 1 p src addr t

/-- The cap in force for a partition (R133, Table 5.2): the written cap, and under CHECK_LOST no more than the floor. -/
def capOf (s : State) (p : Nat) : Nat × Nat :=
  let c := SMap.get s.fence.caps 0#32 p
  let fl := rd s Reg.FENCE_EGRESS_FLOOR
  let a := fld c 16 16
  let h := fld c 0 16
  if s.sup.checkLost then (min a (fld fl 16 16), min h (fld fl 0 16)) else (a, h)

/-- The egress of a partition with `n` Aethil bytes more stays at or below its cap, and no packet of the partition is held,
for held traffic stays in order (R132). -/
def aethilFits (s : State) (p n : Nat) : Bool :=
  decide (SMap.get s.fence.usedAethil 0 p + n ≤ (capOf s p).1 * 1048576) && !s.heldPackets.any (fun e => e.1 == p)

/-- The egress of a partition with `n` PCIe bytes more stays at or below its cap, and no write of the partition is held
(R132). -/
def pcieFits (s : State) (p n : Nat) : Bool :=
  decide (SMap.get s.fence.usedPcie 0 p + n ≤ (capOf s p).2 * 1048576) && !s.heldWrites.any (fun e => e.1 == p)

/-- The translations of a host range cached for a partition while ATS is enabled (R461): one per 4 KiB page. -/
def translate (s : State) (p addr n : Nat) : State :=
  if wbit (rd s Reg.HST_PCIE_STATUS) 10 then
    let pages := (List.range (if n = 0 then 0 else (addr + n - 1) / 4096 + 1 - addr / 4096)).map (fun i => (p, addr / 4096 + i))
    { s with host := { s.host with ats := s.host.ats ++ pages.filter (fun e => !s.host.ats.contains e) } }
  else s

/-- A posted write of one packet to host memory for partition `p`: counted and made when it fits the cap, held until the
next tick edge otherwise, which the Fence counts (R132, Table 5.9). -/
def hostPacket (s : State) (p addr : Nat) (bs : List Byte) (t : Nat) : State :=
  if pcieFits s p bs.length then
    let s := translate s p addr bs.length
    { s with
      mems := { s.mems with host := Mem.writeN 0#8 s.mems.host addr bs }
      fence := { s.fence with usedPcie := SMap.upd s.fence.usedPcie 0 p (· + bs.length) } }
  else
    let s1 := { s with heldWrites := s.heldWrites ++ [(p, addr, bs)] }
    fenceRefuse s1 .egress p .pf0 addr t

/-- A PCIe write to host memory for partition `p`. A write that does not fit the cap whole goes by packets of at most
512 bytes (Table 18.1), each held or made by itself; none is made at all while PF0 issues no access (R465). -/
def hostWrite (s : State) (p addr : Nat) (bs : List Byte) (t : Nat) : State :=
  if s.host.pf0Off then s
  else if bs.length ≤ 512 ∨ pcieFits s p bs.length = true then hostPacket s p addr bs t
  else (List.range (ceilDiv bs.length 512)).foldl (fun s k =>
    hostPacket s p (addr + 512 * k) ((bs.drop (512 * k)).take 512) t) s

/-! ## Module memory, with poison (R440) -/

/-- The poison marks after a write of `n` bytes at `a`: a granule of `g` bytes that the write covers whole loses its
mark. -/
def clearPoison (marks : List Nat) (g a n : Nat) : List Nat :=
  marks.filter (fun k => !(decide (a ≤ k * g) && decide (k * g + g ≤ a + n)))

/-- Some byte of a range lies in a poisoned granule of `g` bytes. -/
def poisoned (marks : List Nat) (g a n : Nat) : Bool :=
  marks.any (fun k => decide (a < k * g + g) && decide (k * g < a + n))

/-- Module memory written. -/
def memWrite (s : State) (a : Nat) (bs : List Byte) : State :=
  { s with mems := { s.mems with
      mem := Mem.writeN 0#8 s.mems.mem a bs
      poisonMem := clearPoison s.mems.poisonMem 64 a bs.length } }

/-- Module memory read. -/
def memRead (s : State) (a n : Nat) : List Byte := Mem.readN 0#8 s.mems.mem a n

/-- Host memory read, as a read completion would return it. -/
def hostRead (s : State) (a n : Nat) : List Byte := Mem.readN 0#8 s.mems.host a n

/-- Some byte of a module-memory range is poisoned. -/
def memPoisoned (s : State) (a n : Nat) : Bool := poisoned s.mems.poisonMem 64 a n

/-- A write to a ring or record of partition `p` in host memory (`host`) or module memory. -/
def spaceWrite (s : State) (host : Bool) (p addr : Nat) (bs : List Byte) (t : Nat) : State :=
  if host then hostWrite s p addr bs t else memWrite s addr bs

/-! ## Partitions and windows (R472) -/

/-- Partition `p` is DEFINED (R146). -/
def partDefined (s : State) (p : Nat) : Bool := decide (p < numParts s) && wbit (rd s (Reg.PART_KEY p)) 16

/-- The key of a partition. -/
def keyOf (s : State) (p : Nat) : Nat := rdF s (Reg.PART_KEY p) 0 16

/-- The defined partition of a key. -/
def partOfKey (s : State) (key : Nat) : Option Nat :=
  (List.range (numParts s)).find? (fun p => partDefined s p && keyOf s p == key)

/-- Partition `p` is active in the current tick. -/
def partActive (s : State) (p : Nat) : Bool := bitAt s.fence.inForce p

/-- The whole span lies inside one window of the partition, of its space, with the permission the direction needs
(R472). A failed-closed entry grants nothing (R441). -/
def windowOk (s : State) (p : Nat) (host write : Bool) (a n : Nat) : Bool :=
  s.fence.windows.any (fun e =>
    e.2.part == p && e.2.host == host && (if write then e.2.write else e.2.read) &&
    decide (e.2.base ≤ a) && decide (a + n ≤ e.2.base + e.2.length) && (SMap.get? s.fence.failedClosed e.1).isNone)

/-- Queue `q` is usable by its partition: an ALLOCATIONS entry of class 0x0B covers it with PART ⌊q / 8⌋ (Table 6.2). -/
def queueOwned (s : State) (q : Nat) : Bool := ownerOf s 0x0B q == some (q / 8)

/-- A collective stream's owner (class 0x0A). -/
def streamOwner (s : State) (i : Nat) : Option Nat := ownerOf s 0x0A i

/-! ## Numbered tables -/

/-- Queue `q`. -/
def queue (s : State) (q : Nat) : Queue := SMap.get s.queues Queue.init q

/-- Queue `q` replaced. -/
def setQueue (s : State) (q : Nat) (v : Queue) : State := { s with queues := SMap.put s.queues q v }

/-- Port `n`. -/
def port (s : State) (n : Nat) : Port := SMap.get s.ports Port.init n

/-- Port `n` replaced. -/
def setPort (s : State) (n : Nat) (v : Port) : State := { s with ports := SMap.put s.ports n v }

/-- Work item `i`. -/
def item (s : State) (i : Nat) : Item := SMap.get s.sched.items Item.zero i

/-- Work item `i` replaced. -/
def setItem (s : State) (i : Nat) (v : Item) : State :=
  { s with sched := { s.sched with items := SMap.put s.sched.items i v } }

/-- Work item `i` is known and not done. -/
def itemLive (s : State) (i : Nat) : Bool :=
  match SMap.get? s.sched.items i with
  | some it => it.ph != .done
  | none => false

/-- A ground for a status added to a work item (chapter 19 decides among them). -/
def addGround (s : State) (i : Nat) (st : Status) (d : Nat) : State :=
  setItem s i { item s i with grounds := (item s i).grounds ++ [(st, d)] }

/-- The boot phase changed: HST_BOOT_STATUS.PHASE and its vectors (Table 18.5). -/
def setPhase (s : State) (ph : Nat) : State :=
  if s.boot.phase = ph then s else signalDevice { s with boot := { s.boot with phase := ph } } 1

end Sys2Proof.Machine
end

