-- ==== Sys2Proof/Machine/Records.lean ====
section
/-! DEFINITION. Descriptors, host reads, completion records and the precedence of statuses (chapters 7 and 19): what
every family uses to read a descriptor, to issue a read and to complete an entry. -/

namespace Sys2Proof.Machine

/-! ## Descriptors (Tables 7.2 and 7.15) -/

/-- A 64-byte descriptor (Table 7.2). -/
def parseDesc (raw : List Byte) : Desc :=
  let ctl := leAt raw 1 1
  let df := leAt raw 8 1
  let dep := leAt raw 0x0A 2
  { raw := slice raw 0 64, opcode := leAt raw 0 1, tgtAbs := bitAt ctl 0, irq := bitAt ctl 1, key := leAt raw 2 2,
    target := leAt raw 4 4, defer := bits df 0 4, depIndex := bits dep 0 12, depQueue := bits dep 12 3,
    depValid := bitAt dep 15, worst := leAt raw 0x0C 4, lanes := leAt raw 0x10 8, userTag := leAt raw 0x18 8,
    ops := slice raw 0x20 32,
    zeroOk := bits ctl 2 6 == 0 && (bitAt ctl 0 || leAt raw 4 4 == 0) && bits df 4 4 == 0 && leAt raw 9 1 == 0 }

/-- The lanes a G1COMPAT descriptor names, as Table 7.2 would write them. -/
def lanesG1 (opcode lane : Nat) : Nat :=
  if opcode = 1 ∨ opcode = 2 then 2 ^ bits lane 0 6 else if opcode = 3 then bits lane 0 3 else 0

/-- The operands of a G1COMPAT descriptor in the layout of the native opcode (Table 7.15). -/
def opsG1 (opcode ctl : Nat) (o : List Byte) : List Byte :=
  if opcode = 1 then slice o 0 16 ++ leBytes 4 256 ++ leBytes 12 0
  else if opcode = 2 then
    slice o 0 6 ++ leBytes 2 0 ++ slice o 6 6 ++ leBytes 2 0 ++ slice o 12 4 ++
      leBytes 4 (b2n (bitAt ctl 4) + 2 * b2n (bitAt ctl 5)) ++ leBytes 8 0
  else if opcode = 3 then
    slice o 0 3 ++ leBytes 1 0 ++ slice o 4 4 ++ leBytes 8 (leAt o 8 4 * 4096) ++ leBytes 8 (leAt o 12 4 * 4096) ++
      slice o 3 1 ++ leBytes 7 0
  else slice o 0 16 ++ leBytes 16 0

/-- A 32-byte G1COMPAT descriptor (Table 7.15). -/
def parseDescG1 (raw : List Byte) : Desc :=
  let op := leAt raw 0 1
  let ctl := leAt raw 1 1
  let df := leAt raw 4 1
  let lane := leAt raw 5 1
  { raw := slice raw 0 32, opcode := op, tgtAbs := false, irq := bitAt ctl 1, key := leAt raw 2 2, target := 0,
    defer := bits df 0 4, depIndex := 0, depQueue := 0, depValid := false, worst := leAt raw 8 4,
    lanes := lanesG1 op lane, userTag := leAt raw 0x0C 4, ops := opsG1 op ctl (slice raw 0x10 16),
    zeroOk := bits ctl 2 2 == 0 && bits ctl 6 2 == 0 && bitAt ctl 0 == false && (op == 2 || bits ctl 4 2 == 0) &&
      bits df 4 4 == 0 && bits lane 6 2 == 0 && (op != 3 || bits lane 3 3 == 0) &&
      (op == 1 || op == 2 || op == 3 || lane == 0) && leAt raw 6 2 == 0 }

/-- A descriptor in the format of the strap. -/
def parseFor (s : State) (raw : List Byte) : Desc := if g1 s then parseDescG1 raw else parseDesc raw

/-- Bytes of one SQ entry. -/
def sqeBytes (s : State) : Nat := if g1 s then 32 else 64

/-- Bytes of one completion record. -/
def cqeBytes (s : State) : Nat := if g1 s then 16 else 32

/-! ## Queue geometry -/

/-- The depth D of queue `q`. -/
def qDepth (s : State) (q : Nat) : Nat := 2 ^ rdF s (Reg.WQ_Q_CFG q) 0 4

/-- A ring base: the address and whether it lies in host memory. -/
def ringBase (s : State) (lo hi : Nat) : Nat × Bool :=
  ((rd s lo).toNat / 4096 * 4096 + (rd s hi).toNat * 2 ^ 32, wbit (rd s lo) 0)

/-- The SQ of queue `q`. -/
def sqBase (s : State) (q : Nat) : Nat × Bool := ringBase s (Reg.WQ_Q_SQ_BASE_LO q) (Reg.WQ_Q_SQ_BASE_HI q)

/-- The CQ of queue `q`. -/
def cqBase (s : State) (q : Nat) : Nat × Bool := ringBase s (Reg.WQ_Q_CQ_BASE_LO q) (Reg.WQ_Q_CQ_BASE_HI q)

/-- The vector of queue `q`. -/
def qVector (s : State) (q : Nat) : Nat := rdF s (Reg.WQ_Q_CFG q) 16 11

/-- Entries posted and not released: those not completed and the records of entries not released (R166). -/
def postedUnreleased (qu : Queue) : Nat :=
  qu.posted.length + qu.aborts.length + (qu.unreleased.filter (fun b => !b)).length

/-- Standing records written and not released (R191). -/
def standingUnreleased (qu : Queue) : Nat := (qu.unreleased.filter (fun b => b)).length

/-! ## Host reads (R185) -/

/-- Read tag slots in use: 1,024 in Flit Mode, 64 without (R458). -/
def tagSlots (s : State) : Nat := if wbit (rd s Reg.HST_PCIE_STATUS) 8 then 1024 else 64

/-- A slot can take a new read. -/
def slotFree (s : State) (k : Nat) : Bool :=
  let t := SMap.get s.tags TagSlot.init k
  t.waiting.isNone && !t.quarantined

/-- The next free slot in round-robin order (R185). -/
def nextFreeSlot (s : State) : Option Nat :=
  ((List.range (tagSlots s)).map (fun i => (s.nextSlot + i) % tagSlots s)).find? (slotFree s)

/-- The partition a read is made for. -/
def ReadUse.part (s : State) : ReadUse → Nat
  | .fetch q _ => q / 8
  | .copy i _ _ => (item s i).part
  | .prompt k _ => (SMap.get s.ledger.slots Slot.free k).part
  | .coldResume k _ _ => (SMap.get s.ledger.slots Slot.free k).part
  | .hostReturn p _ => p
  | .unused => 0

/-- A tagged read of `len` bytes of host memory (R185): the slot's generation increases by one, and the tag is
slot × 16 + generation. Without a free slot, and while PF0 issues no access (R465), it waits. -/
def issueRead (s : State) (u : ReadUse) (addr len : Nat) : State :=
  match (if s.host.pf0Off then none else nextFreeSlot s) with
  | none => { s with readWait := s.readWait ++ [(u, addr, len)] }
  | some k =>
    let g := (SMap.get s.tags TagSlot.init k).gen + 1
    let s := translate s (u.part s) addr len
    { s with
      tags := SMap.put s.tags k { gen := g % 16, waiting := some u, quarantined := false }
      nextSlot := (k + 1) % tagSlots s
      out := .hostRead (k * 16 + g % 16) addr len :: s.out }

/-- A span cut into reads of at most 4,096 bytes that cross no 4 KiB boundary (Table 18.1): offset and length of each. -/
def readPieces (addr len : Nat) : List (Nat × Nat) :=
  if len = 0 then []
  else
    let first := addr / 4096
    let last := (addr + len - 1) / 4096
    (List.range (last - first + 1)).map (fun i =>
      let a := max addr ((first + i) * 4096)
      let b := min (addr + len) ((first + i + 1) * 4096)
      (a - addr, b - a))

/-- The oldest waiting read issued when a slot is free. -/
def issueWaiting (s : State) : State :=
  match s.readWait, (if s.host.pf0Off then none else nextFreeSlot s) with
  | (u, a, n) :: rest, some _ => issueRead { s with readWait := rest } u a n
  | _, _ => s

/-- Every outstanding or waiting read whose use satisfies `p` abandoned: its slot waits for nothing and is skipped for
2 × the completion timeout (R188). -/
def abandonReads (s : State) (p : ReadUse → Bool) : State :=
  { s with readWait := s.readWait.filter (fun r => !p r.1), tags := SMap.mapV (fun _ t =>
      match t.waiting with
      | some u => if p u then { t with waiting := none, quarantined := true } else t
      | none => t) s.tags }

/-- The reads of Ledger slot `k`. -/
def ReadUse.ofSlot (k : Nat) : ReadUse → Bool
  | .prompt j _ => j == k
  | .coldResume j _ _ => j == k
  | .hostReturn _ j => j == k
  | _ => false

/-- The reads of work item `i`. -/
def ReadUse.ofItem (i : Nat) : ReadUse → Bool
  | .copy it _ _ => it == i
  | _ => false

/-! ## BARRIERs -/

/-- A BARRIER waits in the cache: no entry posted after it enters the cache (R170). -/
def barrierCached (qu : Queue) : Bool := qu.cache.any (fun c => c.desc.opcode == 8)

/-! ## The precedence of Table 19.4 -/

/-- The rank of a status in Table 19.4 (1 highest). -/
def Status.rank : Status → Nat
  | .aborted => 1 | .tickOverrun => 2 | .isolated => 3 | .descInvalid => 4 | .keyReject => 5 | .windowViolation => 6
  | .poisoned => 7 | .syncFault => 8 | .linkFault => 9 | .consequential => 10 | .memberFault => 11 | .cancelled => 12
  | .notAdmitted => 13 | .micro _ => 14 | .timeDiscontinuity => 15 | .ok => 16 | .notReady => 17

/-- The cause of highest rank among causes of one cycle, the first among equals (R491); OK for none. -/
def pickStatus : List (Status × Nat) → Status × Nat
  | [] => (.ok, 0)
  | c :: cs =>
    let r := pickStatus cs
    if c.1.rank ≤ r.1.rank then c else r

/-- OK becomes TIME_DISCONTINUITY when a time step was applied in the operation's lifetime (R49, R492). -/
def qualifyTime (s : State) (steps0 : Nat) (st : Status) : Status :=
  if st = .ok ∧ steps0 < s.clock.steps then .timeDiscontinuity else st

/-- Results that a status leaves invalid when the operation wrote any (Table 19.5): `kernel` marks an access of a
running kernel (R474). -/
def invalidResults (st : Status) (wrote : Bool) : Bool :=
  wrote && (match st with
    | .ok | .timeDiscontinuity | .cancelled | .notAdmitted | .keyReject | .descInvalid => false
    | _ => true)

/-! ## Completion records (Table 7.8) -/

/-- What a completion record says besides its queue. -/
structure Rec where
  index : Nat
  status : Status
  detail : Nat
  late : Bool
  invalid : Bool
  inherited : Bool
  standing : Bool
  irq : Bool
  userTag : Nat
  /-- The instant the status was decided. -/
  time : List Word
  deriving DecidableEq, Repr

/-- The bytes of a record (Table 7.8, or Table 7.16 under G1COMPAT). -/
def recBytes (s : State) (qu : Queue) (r : Rec) : List Byte :=
  let flags := b2n qu.phase + 2 * b2n r.late + 4 * b2n r.invalid + 8 * b2n r.inherited + 16 * b2n r.standing
  if g1 s then
    leBytes 4 r.userTag ++ leBytes 2 r.index ++ leBytes 1 r.status.code ++ leBytes 1 flags ++ leBytes 4 r.detail ++
      leBytes 4 0
  else
    leBytes 8 r.userTag ++ leBytes 2 r.index ++ leBytes 1 r.status.code ++ leBytes 1 flags ++ leBytes 4 r.detail ++
      wordBytes r.time ++ leBytes 2 (qu.posted.headD qu.tail) ++ leBytes 2 0

/-- The counter and event of a status written in a work-queue record (Table 7.13). -/
def countStatus (s : State) (st : Status) (t : Nat) : State :=
  match st with
  | .descInvalid => raise (bump s Reg.WQ_DESC_INVALID_COUNT) Reg.WQ_EVENT 0 .serve false false t
  | .poisoned => raise (bump s Reg.WQ_POISONED_COUNT) Reg.WQ_EVENT 1 .serve false false t
  | .notAdmitted => bump s Reg.WQ_NOT_ADMITTED_COUNT
  | .aborted => bump s Reg.WQ_ABORTED_COUNT
  | _ => s

/-- One record written to the CQ of queue `q` (R178–R180): the bytes, the write index and phase, and the signal of the
queue's vector when the entry had IRQ set (at once with IRQ_MODE 0, at t+3.0 µs with IRQ_MODE 1). A write that no window
of the partition grants any more is refused (R128, R441; log entry 77). -/
def writeRec (s : State) (q : Nat) (r : Rec) (t : Nat) : State :=
  let qu := queue s q
  let b := cqBase s q
  let wrap := qu.cqWrite + 1 == qDepth s q
  let a := b.1 + qu.cqWrite * cqeBytes s
  let s1 := if windowOk s (q / 8) b.2 true a (cqeBytes s) then spaceWrite s b.2 (q / 8) a (recBytes s qu r) t
    else fenceRefuse s .window (q / 8) .pf0 a t
  let moderated := wbit (rd s (Reg.WQ_Q_CFG q)) 4
  let s2 := setQueue s1 q { qu with
    cqWrite := if wrap then 0 else qu.cqWrite + 1
    phase := if wrap then !qu.phase else qu.phase
    unreleased := qu.unreleased ++ [r.standing]
    irqPending := qu.irqPending || (r.irq && moderated) }
  if r.irq && !moderated then signalVector s2 0 (qVector s q) else s2

/-- The entry at SQ index `i` of queue `q` completes (R178): it is no longer posted, its status is kept for DEP (R169),
the counters count it and its record is written. -/
def closeEntry (s : State) (q i : Nat) (d : Desc) (st : Status) (detail : Nat) (late invalid inherited : Bool)
    (t : Nat) : State :=
  let qu := queue s q
  let s1 := setQueue s q { qu with
    posted := qu.posted.filter (· != i)
    cache := qu.cache.filter (fun c => c.index != i)
    done := SMap.put qu.done i st }
  let s2 := countStatus s1 st t
  writeRec s2 q { index := i, status := st, detail := detail, late := late, invalid := invalid,
                  inherited := inherited, standing := false, irq := d.irq, userTag := d.userTag,
                  time := timeOnly s t } t

/-- A descriptor that the device could not read: its USER_TAG and IRQ bit are free values. -/
def unknownDesc (s : State) : Desc :=
  { Desc.zero with userTag := Config.freeNat s.free % 2 ^ 64, irq := Config.freeBool s.free }

/-! ## Fetching (R174) -/

/-- One fetch started for queue `q` when it may fetch and a cache slot is free. A fetch that no window of the partition
grants any more is not issued, and its entry completes with WINDOW_VIOLATION (R128, R441). -/
def fetchOne (s : State) (q t : Nat) : State :=
  let qu := queue s q
  match qu.toFetch with
  | [] => s
  | i :: rest =>
    if (qu.st == .enabled || qu.st == .stopping) && decide (qu.cache.length + qu.fetching.length < 8) && !barrierCached qu then
      let b := sqBase s q
      let a := b.1 + i * sqeBytes s
      if windowOk s (q / 8) b.2 false a (sqeBytes s) then
        let s1 := setQueue s q { qu with toFetch := rest, fetching := qu.fetching ++ [i] }
        if b.2 then issueRead s1 (.fetch q i) a (sqeBytes s) else s1
      else
        closeEntry (fenceRefuse (drawn (setQueue s q { qu with toFetch := rest })) .window (q / 8) .pf0 a t) q i
          (unknownDesc s) .windowViolation 24 false false false t
    else s

/-- Fetches started for every free cache slot of queue `q` (R174). -/
def startFetch (s : State) (q t : Nat) : State := (queue s q).toFetch.foldl (fun s _ => fetchOne s q t) s

/-- An entry completes, and the cache slot it held is free for another fetch (R174). -/
def completeEntry (s : State) (q i : Nat) (d : Desc) (st : Status) (detail : Nat) (late invalid inherited : Bool)
    (t : Nat) : State :=
  startFetch (closeEntry s q i d st detail late invalid inherited t) q t

/-- A standing entry's record (R190, R191): written when its status is not OK or REPORT_OK is set, while the queue is
ENABLED and its CQ has room left; a record not written is counted in WQ_STANDING_UNREPORTED_COUNT. The status is kept for
DEP (R169). -/
def completeStanding (s : State) (e : Standing) (n : Nat) (st : Status) (detail : Nat) (late invalid inherited : Bool)
    (t : Nat) : State :=
  let q := e.queue
  let qu := queue s q
  let s := countStatus { s with sched := { s.sched with standingDone := SMap.put s.sched.standingDone n st } } st t
  if (st != .ok || e.reportOk) && qu.st == .enabled &&
      decide (postedUnreleased qu + standingUnreleased qu < qDepth s q - 1) then
    writeRec s q
      { index := n, status := st, detail := detail, late := late, invalid := invalid, inherited := inherited,
        standing := true, irq := e.desc.irq, userTag := e.desc.userTag, time := timeOnly s t } t
  else bump s Reg.WQ_STANDING_UNREPORTED_COUNT

/-- A record that waited for CQ space, written as ABORTED (R183). -/
def writeAborted (s : State) (q : Nat) (p : PendingRec) (t : Nat) : State :=
  writeRec (countStatus s .aborted t) q
    { index := p.index, status := .aborted, detail := p.detail, late := false, invalid := p.invalid,
      inherited := false, standing := false, irq := p.desc.irq, userTag := p.desc.userTag, time := p.time } t

end Sys2Proof.Machine
end

