-- ==== Sys2Proof/Machine/Supervisor.lean ====
section
/-! DEFINITION. The supervisor pair, the Fence's own registers and the partition checks (chapters 5 and 6). -/

namespace Sys2Proof.Machine

/-! ## The supervisor -/

/-- The supervisor replaced. -/
def setSup (s : State) (u : Sup) : State := { s with sup := u }

/-- A CHECK-class event of a block that gives it no bit of an event register: only the event record is made, whose bit
index the spec leaves open (log entry 6). -/
def raiseIn (s : State) (block : Nat) (alert : Bool) (t : Nat) : State :=
  let e : EventRec :=
    { cls := .check, block := block, bit := Config.freeNat s.free, alert := alert, detail := 0, tick := s.clock.index,
      time := timeOnly s t }
  let s1 := sendPldm (logEvent (drawn s) e) e
  if alert then assertAlert s1 .check else s1

/-- A CHECK-class event of the SUP block. -/
def raiseSup (s : State) (alert : Bool) (t : Nat) : State := raiseIn s 0x12 alert t

/-- A supervisor-alone reset (R139, R140, R143): both cores and the data SRAM restart, READY clears, the watchdog holds
at 0, overlays are held (R141), the cause is recorded and counted. Nothing outside the pair changes. -/
def supReset (s : State) (cause : Nat) : State :=
  let s1 := setSup s { s.sup with
    ready := false, restarting := true, overlayHeld := true, readySince := false, wdog := 0, wdogOn := false,
    irq := false, started := false }
  let s2 := { s1 with mems := { s1.mems with
    supData := Mem.writeN 0#8 [] 0 (Mem.readN 0#8 s.mems.supCode s.sup.codeLen s.sup.dataLen) } }
  bump (wr s2 Reg.SUP_RESET_CAUSE (BitVec.ofNat 32 cause)) Reg.SUP_RESET_COUNT

/-- CHECK_LOST declared (R125): the checker halts, the comparator is ignored, ALERT_N asserts and a PLDM event is
sent. -/
def declareCheckLost (s : State) (t : Nat) : State :=
  raiseSup (setSup s { s.sup with checkLost := true, checkerHalted := true }) true t

/-- COMPARATOR_MISMATCH (R122): the held outputs are discarded, the mismatch is counted, a CHECK-class event is raised,
and the supervisor alone is reset. Under CHECK_LOST the comparator is ignored (R125). -/
def execComparatorMismatch (t : Nat) (s : State) : Host.Outcome State Fault Refusal :=
  if s.sup.checkLost then .next s else .next (raiseSup (supReset (bump s Reg.SUP_MISMATCH_COUNT) 2) false t)

/-- DELAY_PARITY_ERROR (R124): CHECK_LOST is declared, and the supervisor is not reset. -/
def execDelayParityError (t : Nat) (s : State) : Host.Outcome State Fault Refusal :=
  if s.sup.checkLost then .next s
  else .next (declareCheckLost (wr s Reg.SUP_CHECK_STATUS (setBitW (rd s Reg.SUP_CHECK_STATUS) 1)) t)

/-- COMPARATOR_SELF_TEST (R123): in the maintenance slot of epoch position 1 (every tick when N is 1). `lane` is the
lowest lane that failed, `parityMissed` an injected parity error that went unflagged; either declares CHECK_LOST. The
test does not run under CHECK_LOST, nor while the supervisor is held and then up to the epoch edge after its restart
(Table 5.4). -/
def execComparatorSelfTest (lane : Option Nat) (parityMissed : Bool) (t : Nat) (s : State) :
    Host.Outcome State Fault Refusal :=
  if s.sup.checkLost || s.sup.held || s.sup.selfTestOff != 0 || !s.clock.running ||
      !(epochPos s s.clock.index == 1 || epochLen s == 1) then .next s
  else if lane.isNone && !parityMissed then
    .next (wr s Reg.SUP_CHECK_STATUS (setBitW (rd s Reg.SUP_CHECK_STATUS) 0))
  else
    let w := rd s Reg.SUP_CHECK_STATUS
    let v := bits w.toNat 1 1 * 2 + 4 + (lane.getD 0 % 64) * 8 + b2n lane.isSome * 512 + b2n parityMissed * 1024
    .next (declareCheckLost (wr s Reg.SUP_CHECK_STATUS (BitVec.ofNat 32 v)) t)

/-- WATCHDOG_FIRE (R137, R143): at t+4.0 µs of the strobe that brought the count to W with no valid kick since. A
mismatch in the same cycle makes one reset with both causes. The fire is a CHECK-class event (Table 19.2). -/
def execWatchdogFire (mismatch : Bool) (t : Nat) (s : State) : Host.Outcome State Fault Refusal :=
  if s.sup.wdogOn && !s.sup.held && decide (s.sup.wdog ≥ rdF s Reg.SUP_WDOG_CFG 0 7) then
    let both := mismatch && !s.sup.checkLost
    let s1 := if both then bump s Reg.SUP_MISMATCH_COUNT else s
    .next (raiseSup (supReset s1 (if both then 3 else 1)) false t)
  else .next s

/-- WATCHDOG_KICK (R138): valid only with the low 16 bits of the TICK_SEQ of the tick in which it lands. -/
def execWatchdogKick (v : Word) (s : State) : Host.Outcome State Fault Refusal :=
  if s.clock.running && fld v 0 16 == s.clock.seq % 65536 then .next (setSup s { s.sup with wdog := 0 })
  else .next (bump s Reg.SUP_KICK_BAD_COUNT)

/-- SUPERVISOR_ENTRY (R139, R111): the main core starts at the SUPERVISOR_FW entry point. -/
def execSupervisorEntry (s : State) : Host.Outcome State Fault Refusal :=
  if s.boot.ucodeLocked && !s.sup.held && !s.sup.started then .next (setSup s { s.sup with started := true })
  else .next s

/-- SUP_RELEASE (R142): a held supervisor gets one more restart; the failure count is not reset. -/
def execSupRelease (s : State) : Host.Outcome State Fault Refusal :=
  if s.sup.held then .next (supReset (setSup s { s.sup with held := false }) 8) else .next s

/-- What happens when READY does not come within FW_INIT_BUDGET after a restart (R142): another restart, or after three
failed restarts in a row the hold, each counted as a supervisor-alone reset. -/
def restartFailed (s : State) (t : Nat) : State :=
  let n := s.sup.failed + 1
  let s1 := supReset (setSup s { s.sup with failed := n }) 4
  if n ≥ 3 then raiseSup (setSup s1 { s1.sup with held := true, restarting := false, selfTestOff := 1 }) true t else s1

/-- SUPERVISOR_BUS_ERROR (R119): a load or store outside the three regions returns a bus error and counts as a
partition-crossing violation, logged with partition 0 (log entry 76). -/
def execSupervisorBusError (addr t : Nat) (s : State) : Host.Outcome State Fault Refusal :=
  .next (emit (fenceRefuse s .part 0 .supervisor addr t) .busError)

/-- A refused access counted (R460, R556). -/
def badAccess (s : State) (t : Nat) : State :=
  raise (bump s Reg.HST_BAD_ACCESS_COUNT) Reg.HST_EVENT 0 .background false false t

/-- BAR_REFUSED_ACCESS (R460, R556): a narrow, unaligned or poisoned access. A read returns all ones in its `bytes`
bytes, a write has no effect. -/
def execBarRefusedAccess (read : Bool) (bytes t : Nat) (s : State) : Host.Outcome State Fault Refusal :=
  let s1 := badAccess s t
  if read then .next (emit s1 (.value (2 ^ (8 * bytes) - 1))) else .next s1

/-! ## Fence registers -/

/-- FENCE_PART_ACTIVE_WRITE (R131, R518): the value to be applied at the next epoch edge; a write later than t−25 µs
before an epoch edge waits for the edge after it. Under CHECK_LOST a bit whose partition is not in force is refused,
one refusal a bit, and the other bits take effect. -/
def execFencePartActiveWrite (v : Word) (t : Nat) (s : State) : Host.Outcome State Fault Refusal :=
  let want := fld v 0 (numParts s)
  let refused := if s.sup.checkLost then
    indicesWhere 8 (fun p => bitAt want p && !partActive s p) else []
  let keep := sumNat ((indicesWhere 8 (fun p => bitAt want p && !refused.contains p)).map (2 ^ ·))
  let s1 := refused.foldl (fun s p => fenceRefuse s .lock p .supervisor Reg.FENCE_PART_ACTIVE t) s
  let late := s.clock.running && decide (t + 25000 > s.clock.len) && epochPos s (s.clock.index + 1) == 0
  let old := rdF s Reg.FENCE_PART_ACTIVE 0 8
  let hold := if late && s.fence.activeWrite.isNone then some (old, s.clock.seq + 1) else s.fence.activeWrite
  let s2 := { s1 with fence := { s1.fence with activeWrite := hold } }
  .next (wr s2 Reg.FENCE_PART_ACTIVE (BitVec.ofNat 32 keep))

/-- EGRESS_CAP_WRITE (R133): accepted at or below the ceiling in both fields, in force from the next tick edge; refused
whole otherwise. -/
def execEgressCapWrite (p : Nat) (v : Word) (t : Nat) (s : State) : Host.Outcome State Fault Refusal :=
  if p < numParts s then
    let c := rd s (Reg.FENCE_EGRESS_CEIL p)
    if fld v 16 16 ≤ fld c 16 16 ∧ fld v 0 16 ≤ fld c 0 16 then .next (wr s (Reg.FENCE_EGRESS_CAP p) v)
    else .next (fenceRefuse s .egress p .supervisor (Reg.FENCE_EGRESS_CAP p) t)
  else .next s

/-- TABLE_RELOAD_COMPLETE (R441, R448): the reload of a failed-closed entry ends; a failed reload is retried once, and
an entry whose retry fails stays closed until module reset. -/
def execTableReloadComplete (entry : Nat) (passed : Bool) (s : State) : Host.Outcome State Fault Refusal :=
  match SMap.get? s.fence.failedClosed entry with
  | none => .next s
  | some n =>
    if n ≥ 2 then .next s
    else if passed then
      .next { s with fence := { s.fence with failedClosed := SMap.del s.fence.failedClosed entry } }
    else .next { s with fence := { s.fence with failedClosed := SMap.put s.fence.failedClosed entry (n + 1) } }

/-! ## Partition rejects (R160, R161) -/

/-- The threshold rule of R161: only the reject that brings the tick's sum to ALERT_THRESH asserts ALERT_N; a threshold
of 0 asserts it on every reject. -/
def rejectAlerts (s : State) : Bool :=
  let th := rdF s Reg.PART_CFG 0 8
  th == 0 || s.part.tickRejects + 1 == th

/-- A reject reported: its log entry when the log is empty, its event, the tick's sum and the threshold. -/
def reportReject (s : State) (log0 log1 : Word) (bit : Nat) (c : EvClass) (t : Nat) : State :=
  let alert := rejectAlerts s
  let valid := wbit (rd s Reg.PART_REJECT_LOG_0) 15
  let s1 := if valid then { s with part := { s.part with logOvf := true, tickRejects := s.part.tickRejects + 1 } }
    else
      { s with
        part := { s.part with tickRejects := s.part.tickRejects + 1 }
        regs := SMap.put (SMap.put s.regs Reg.PART_REJECT_LOG_0 log0) Reg.PART_REJECT_LOG_1 log1 }
  let s2 := raise s1 Reg.PART_EVENT bit c alert false t
  if alert then setEvent s2 Reg.PART_EVENT 4 else s2

/-- PART_REJECT_LOG_0 (Table 6.6). -/
def rejectLog0 (key part point reason : Nat) : Word :=
  BitVec.ofNat 32 (key % 65536 * 65536 + 32768 + part % 8 * 4096 + point % 32 * 16 + reason % 16)

/-- A port reject (reasons 1–5 and 7, point the port) or a hub or bridge reject (points 0x10–0x12). -/
def packetReject (s : State) (point reason part key src opTag t : Nat) : State :=
  let hub := point ≥ 0x10
  let s1 := bump s (if hub then Reg.PART_REJECT_HUB_COUNT else Reg.PART_REJECT_PORT_COUNT point)
  reportReject s1 (rejectLog0 key (if reason ≤ 3 then 0 else part) point reason)
    (BitVec.ofNat 32 (src % 32 + opTag % 65536 * 65536)) (if hub then 1 else 0) .fabric t

/-- A sync reject (R156). -/
def syncReject (s : State) (issuerPart owner flag t : Nat) : State :=
  reportReject (bump s Reg.PART_REJECT_SYNC_COUNT) (rejectLog0 issuerPart owner 0x13 8)
    (BitVec.ofNat 32 (modId s % 32 + flag % 4096 * 65536)) 2 .sync t

end Sys2Proof.Machine
end

