-- ==== Sys2Proof/Machine/Send.lean ====
section
/-! DEFINITION. How a packet leaves the module: the route of a packet (R323–R327, R339, R340), the flits and credits of
a port (R297, R300, R303), the egress caps (R132), and the control messages under key 0xFFFF. -/

namespace Sys2Proof.Machine

/-! ## Routes -/

/-- The port carries packets of all classes. -/
def Port.live (p : Port) : Bool := p.st == .active || p.st == .degraded

/-- Lanes in service. -/
def Port.width (p : Port) : Nat := popcount p.laneOk 4

/-- The route entry of a target: (DOR_PORTS, MIN_PORTS) of the route table, or of the failover table of the
lowest-numbered module that is down (R323, R339, R340); no port while the entry is failed closed (R441). -/
def routeEntry (s : State) (target : Nat) : Nat × Nat :=
  match s.fab.down with
  | f :: _ =>
    if entryClosed s (9216 + 32 * f + target) then (0, 0) else SMap.get s.fab.routes.failover (0, 0) (32 * f + target)
  | [] => if entryClosed s (8448 + target) then (0, 0) else s.fab.routes.route.getD target (0, 0)

/-- The CHANNELS entry of a number; none while it is failed closed (R441). -/
def channel? (s : State) (c : Nat) : Option Channel := if entryClosed s (8512 + c) then none else s.fab.routes.channels[c]?

/-- What a packet is routed toward: its intermediate in Valiant phase 0, the bridge relay while it leaves the domain,
its destination otherwise (R323, R353). -/
def routeTarget (s : State) (p : Packet) : Nat :=
  if p.foreign then
    match s.fab.routes.foreignRelay with
    | some r => r
    | none => p.dst
  else if p.mode = 2 ∧ p.phase = false then p.via else p.dst

/-- The FOREIGN port of this module, if it has one. -/
def foreignPort (s : State) : Option Nat :=
  (List.range 16).find? (fun n => match s.fab.routes.ports[n]? with
    | some e => e.used && e.foreign && (port s n).live
    | none => false)

/-- Live ports of a mask, rising. -/
def livePorts (s : State) (mask : Nat) : List Nat := indicesWhere 16 (fun n => bitAt mask n && (port s n).live)

/-- Transmit credits of a class on a port. -/
def creditsOf (p : Port) (c : Nat) : Nat := p.credits.getD c 0

/-- The port a packet leaves by (R324): the lowest live port of DOR_PORTS, or for SPRAY the next live port of MIN_PORTS
in rotation that holds credits for the whole packet; where none holds them, the packet waits at the next live one in
rotation (DEDUCED, log entry 71: R297 starts a packet only when its credits are there). -/
def egressPort (s : State) (p : Packet) : Option Nat :=
  let e := routeEntry s (routeTarget s p)
  if p.foreign && s.fab.routes.foreignRelay == some (modId s) then foreignPort s
  else if p.mode = 3 then
    let ok := (livePorts s e.2).filter (fun n => decide (p.flits ≤ creditsOf (port s n) p.cls))
    let from_ := if ok.isEmpty then livePorts s e.2 else ok
    match from_.find? (fun n => decide (s.fab.rotate ≤ n)) with
    | some n => some n
    | none => from_.head?
  else (livePorts s e.1).head?

/-- The next hop over a port is a module that is down (R340). -/
def hopDown (s : State) (n : Nat) : Bool :=
  match s.fab.routes.ports[n]? with
  | some e => e.used && !e.foreign && s.fab.down.contains e.expMod
  | none => false

/-- A port of the packet's route entry leads to a module that is down: the next hop of a packet that finds no live port
there is that module (R340). -/
def deadHop (s : State) (p : Packet) : Bool :=
  let e := routeEntry s (routeTarget s p)
  (List.range 16).any (fun n => bitAt (if p.mode = 3 then e.2 else e.1) n && hopDown s n)

/-! ## Flits -/

/-- The flits of a packet, numbered from `q`, with the acknowledgement `ack` (Table 12.2). -/
def packetFlits (p : Packet) (q ack : Nat) : List Flit :=
  let n := p.flits
  (List.range n).map (fun i =>
    { ty := if i = 0 then .head else .data, seq := (q + i) % 2048, ack := ack, crd := none, opTag := p.opTag,
      last := i + 1 == n, pkt := some p })

/-- The flits of a packet in the receive buffer of port `n` pass to the crossbar or a hub: their credits are owed to the
partner (R303). -/
def passRx (s : State) (n : Nat) (p : Packet) : State :=
  let po := port s n
  match po.rxBuf.find? (fun e => e.1 == p) with
  | some e => setPort s n { po with rxBuf := po.rxBuf.erase e, owed := po.owed.set p.cls (po.owed.getD p.cls 0 + e.2) }
  | none => s

/-- A packet's flits sent on a port: numbered, kept for replay, and charged to the class's credits (R297, R300). The flits
of a packet in transit leave the buffer of the port it came in by. -/
def transmit (s : State) (n : Nat) (w : TxWait) : State :=
  let po := port s n
  let p := w.pkt
  let fl := packetFlits p po.txSeq ((po.rxSeq + 2047) % 2048)
  let s1 := setPort s n { po with
    txSeq := (po.txSeq + fl.length) % 2048
    replay := po.replay ++ fl
    turn := if p.cls = 1 then bits p.opTag 0 5 else po.turn
    credits := po.credits.set p.cls (creditsOf po p.cls - fl.length) }
  let s2 := match w.rx with
    | some (m, p0) => passRx s1 m p0
    | none => s1
  emit { s2 with fab := { s2.fab with rotate := if p.mode = 3 then n + 1 else s2.fab.rotate } } (.packet n p)

/-! ## Priority and claims (R255, R256, R275, R276) -/

/-- PRIO of a stream. -/
def streamPrio (s : State) (i : Nat) : Nat := rdF s (Reg.HUB_STRM_CFG (i / 16) (i % 16)) 12 2

/-- Spokes of a hub other than `i` that hold a claim on the resource of bit `b` of their dispatch entries: 16 the ALU, 17
the bridge, 18 + q port q of the I-die. -/
def claimants (s : State) (i hub b : Nat) : List Nat :=
  SMap.keysWhere (fun k (p : Spoke) => k != i && k / 16 == hub && p.claim && bitAt p.entry b) s.hubs.spokes

/-- The stream may use the resource: none of its claimants has equal or higher priority. -/
def claimFree (s : State) (i hub b : Nat) : Bool :=
  (claimants s i hub b).all (fun k => decide (streamPrio s k < streamPrio s i))

/-- A claimant preempted (R276, R277): cause 3 is recorded and counted, its claim is released, and its routine restarts in
wait mode without a claim for the rest of the operation. A claimant waits for no flag: the miss that makes a spoke wait
releases its claim (R274). -/
def preemptSpoke (s : State) (i : Nat) : State :=
  match SMap.get? s.hubs.spokes i with
  | none => s
  | some p =>
    let h := i / 16
    let s1 := raise (wr (bump s (Reg.SPK_RESTART_COUNT h (i % 16))) (Reg.SPK_LAST_CAUSE h (i % 16)) 3#32)
      (Reg.SPK_EVENT h) 0 .fabric false false 0
    { s1 with hubs := { s1.hubs with spokes := SMap.put s1.hubs.spokes i { p with
        timing := false, claim := false, waitOnly := true, restarting := true, waiting := false, stall := none } } }

/-- The claimants of a resource that stream `i` is ready to use preempted (R276): those of lower priority. -/
def preempt (s : State) (i hub b : Nat) : State :=
  ((claimants s i hub b).filter (fun k => decide (streamPrio s k < streamPrio s i))).foldl preemptSpoke s

/-- The place of a packet's stream in a port's rotation: ascending from the stream after the one that sent last (R256). -/
def rotation (po : Port) (p : Packet) : Nat := (bits p.opTag 0 5 + 31 - po.turn % 32) % 32

/-- Whether waiting packet `a` goes before `b` on a port: strict class order; among collective packets the stream's
priority, then the rotation (R255, R256). -/
def goesBefore (s : State) (po : Port) (a b : Packet) : Bool :=
  let x := streamPrio s (bits a.opTag 0 5)
  let y := streamPrio s (bits b.opTag 0 5)
  decide (a.cls < b.cls) || (a.cls == b.cls && a.cls == 1 &&
    (decide (y < x) || (x == y && decide (rotation po a < rotation po b))))

/-- A packet is ready on port `n`: it holds credits for all its flits (R297), and no other stream's claim of equal or
higher priority keeps it off the port (R275). -/
def packetReady (s : State) (n : Nat) (p : Packet) : Bool :=
  decide (p.flits ≤ creditsOf (port s n) p.cls) && (p.cls != 1 || claimFree s (bits p.opTag 0 5) (n / 8) (18 + n % 8))

/-- The first packet in transmit order among those that are ready on port `n`. -/
def pickPacket (s : State) (n : Nat) : List TxWait → Option TxWait
  | [] => none
  | w :: ws =>
    let ready := packetReady s n w.pkt
    match pickPacket s n ws with
    | some b => if ready && !goesBefore s (port s n) b.pkt w.pkt then some w else some b
    | none => if ready then some w else none

/-- Waiting packets of a port sent while credits last; the count bounds the packets sent. A collective packet preempts the
claimants of lower priority. -/
def drainPort (s : State) (n : Nat) : Nat → State
  | 0 => s
  | k + 1 =>
    match pickPacket s n (port s n).txWait with
    | none => s
    | some w =>
      let s1 := if w.pkt.cls = 1 then preempt s (bits w.pkt.opTag 0 5) (n / 8) (18 + n % 8) else s
      drainPort (transmit (setPort s1 n { port s1 n with txWait := (port s1 n).txWait.erase w }) n w) n k

/-- A packet handed to a port: it waits its turn and its credits, then goes. -/
def toPort (s : State) (n : Nat) (w : TxWait) : State :=
  let s1 := setPort s n { port s n with txWait := (port s n).txWait ++ [w] }
  drainPort s1 n (port s1 n).txWait.length

/-! ## The detour (R315) -/

/-- The detour pairs of LNK_DETOUR_CFG that are VALID: (I-die 0 port, I-die 1 port). -/
def detourPairs (s : State) : List (Nat × Nat) :=
  let v := rd s Reg.LNK_DETOUR_CFG
  (if wbit v 6 then [(fld v 0 3, 8 + fld v 3 3)] else []) ++ (if wbit v 14 then [(fld v 8 3, 8 + fld v 11 3)] else [])

/-- The detour pair in use: the first whose two ports carry traffic (chapter 12, Edge cases). -/
def detourPair (s : State) : Option (Nat × Nat) :=
  (detourPairs s).find? (fun d => (port s d.1).live && (port s d.2).live)

/-- A detour pair can be used (R315). -/
def detourReady (s : State) : Bool := (detourPair s).isSome

/-- The detour port by which traffic leaves an I-die. -/
def detourPort (s : State) (die : Nat) : Option Nat := (detourPair s).map (fun d => if die = 0 then d.1 else d.2)

/-! ## Packets -/

/-- A packet routed out of the module (R323, R324, R340): discarded and counted when its next hop is a module that is
down. With no live port toward a target whose neighbours are all up it is discarded uncounted (DESIGN CHOICE, log
entry 71: Table 13.8 gives the count R340, R347 and R353 only). `die` is the I-die it comes from, 2 where the model names
none: with the bridge failed it reaches the other die's ports by the detour (R315), and not at all without one. -/
def routeOut (s : State) (die : Nat) (w : TxWait) : State :=
  match egressPort s w.pkt with
  | none => if deadHop s w.pkt then bump s Reg.FAB_UNREACH_COUNT else s
  | some n =>
    if hopDown s n then bump s Reg.FAB_UNREACH_COUNT
    else if die < 2 ∧ n / 8 ≠ die ∧ s.bridge.st ≠ 0 then
      match detourPort s die with
      | some m => toPort s m w
      | none => s
    else toPort s n w

/-- A packet of partition `q` that this module originates on I-die `die` (R132, R136, R343): it counts 32 header bytes and
its data against the Aethil cap, and waits for the next tick edge when it does not fit. -/
def sendOwn (s : State) (q die : Nat) (p : Packet) (t : Nat) : State :=
  let n := 32 + p.length
  if aethilFits s q n then
    routeOut { s with fence := { s.fence with usedAethil := SMap.upd s.fence.usedAethil 0 q (· + n) } } die
      { pkt := p, rx := none }
  else
    fenceRefuse { s with heldPackets := s.heldPackets ++ [(q, die, p)] } .egress q .pf0 0 t

/-- A channel's destination lies in the bridged domain (R353): the channel is FOREIGN_OK, the MODULES table does not name
the module, and the domain has a bridge relay (DEDUCED, log entry 78). -/
def foreignDst (s : State) (chan dst : Nat) : Bool :=
  (match channel? s chan with
    | some c => c.foreignOk
    | none => false) && s.fab.routes.foreignRelay.isSome &&
  (match s.fab.routes.modules[dst]? with
    | some e => !e.present
    | none => true)

/-- A message goes to a module of the bridged domain: the acknowledgements of such flows (R353). -/
def Msg.foreign (s : State) (dst : Nat) : Msg → Bool
  | .e2eAck c _ _ => foreignDst s c dst
  | .e2eNak c _ _ => foreignDst s c dst
  | _ => false

/-- A packet under key 0xFFFF (R152): class 0, routed by DOR. -/
def ctlPacket (s : State) (dst opTag : Nat) (m : Msg) : Packet :=
  { key := 0xFFFF, ptype := 4, cls := 0, fence := false, src := modId s, dst := dst, mode := 1, phase := false, via := 0,
    failover := !s.fab.down.isEmpty, foreign := m.foreign s dst, ttl := 15, opTag := opTag, e2e := 0, offset := 0, msg := m,
    data := [] }

/-- A control message to module `dst`; nothing is sent to this module itself. -/
def sendCtl (s : State) (dst opTag : Nat) (m : Msg) : State :=
  if dst = modId s then s else routeOut s 2 { pkt := ctlPacket s dst opTag m, rx := none }

/-- A control message flooded on every live port but `except` (R339). -/
def flood (s : State) (except : Option Nat) (m : Msg) : State :=
  ((List.range 16).filter (fun n => (port s n).live && except != some n)).foldl
    (fun s n => toPort s n { pkt := ctlPacket s (port s n).partnerMod 0 m, rx := none }) s

/-- A module can be reached by the routes in force. -/
def reachable (s : State) (m : Nat) : Bool :=
  m == modId s || (match livePorts s (routeEntry s m).1 with
    | n :: _ => !hopDown s n
    | [] => false)

/-- The OP_TAG of a collective packet (Table 12.3), from its stream, group, tick index and SRC_MOD. -/
def collTag (stream group tick src : Nat) : Nat :=
  stream % 32 + group % 256 * 32 + tick % 16384 * 8192 + src % 32 * 2 ^ 27

end Sys2Proof.Machine
end

