-- ==== Sys2Proof/Machine/Groups.lean ====
section
/-! DEFINITION. Groups, ranks, trees and what a collective is at dispatch (chapters 9, 10, 11 and 13). -/

namespace Sys2Proof.Machine

/-! ## Topology -/

/-- The coordinates of a module of the MODULES table; none for a relay or an absent module. -/
def coordsOf (s : State) (m : Nat) : Option (Nat × Nat × Nat) :=
  match s.fab.routes.modules[m]? with
  | some e => if e.present && !e.relay then some (e.x, e.y, e.z) else none
  | none => none

/-- The MOD_ID at a grid position (R321). -/
def modAt (s : State) (x y z : Nat) : Nat := x + s.fab.routes.dimX * (y + s.fab.routes.dimY * z)

/-! ## Groups (R216, R217, R557) -/

/-- A group that names nothing. -/
def Group.none : Group :=
  { raw := [], defined := false, lenient := false, nodeOnly := false, kind := 0, part := 0, stream := 0, size := 0,
    axis := 0, treeId := 0, stepTimeout := 0, maxDyn := 0, origin := [], extent := [], members := [] }

/-- Group `g`; one whose table entry is failed closed names nothing (R441). -/
def group (s : State) (g : Nat) : Group :=
  if (SMap.get? s.fence.failedClosed (1024 + g)).isSome then Group.none else SMap.get s.hubs.groups Group.none g

/-- The anchor of an AXIS group: this module's coordinates, or BLOCK_ORIGIN of a NODE_ONLY entry (R557). -/
def axisAnchor (s : State) (g : Group) : Nat × Nat × Nat :=
  let o := (g.origin.getD 0 0, g.origin.getD 1 0, g.origin.getD 2 0)
  if g.nodeOnly then o else (coordsOf s (modId s)).getD o

/-- The members of a group by rank (Table 9.3, R557). -/
def groupMembers (s : State) (g : Group) : List Nat :=
  if g.kind = 1 then g.members.take g.size
  else if g.kind = 2 then
    let a := axisAnchor s g
    if g.axis = 0 then (List.range s.fab.routes.dimX).map (fun i => modAt s i a.2.1 a.2.2)
    else if g.axis = 1 then (List.range s.fab.routes.dimY).map (fun i => modAt s a.1 i a.2.2)
    else (List.range s.fab.routes.dimZ).map (fun i => modAt s a.1 a.2.1 i)
  else if g.kind = 3 then
    let x0 := g.origin.getD 0 0
    let y0 := g.origin.getD 1 0
    let z0 := g.origin.getD 2 0
    (List.range (g.extent.getD 2 0)).flatMap (fun k =>
      (List.range (g.extent.getD 1 0)).flatMap (fun j =>
        (List.range (g.extent.getD 0 0)).map (fun i => modAt s (x0 + i) (y0 + j) (z0 + k))))
  else []

/-- The group signature (R217): CRC-32C of the entry with NODE_ONLY cleared, BLOCK_ORIGIN cleared on an AXIS entry and
the derived members written in. -/
def groupSignature (s : State) (g : Group) : Nat :=
  let flags := leAt g.raw 0 1
  let b0 := BitVec.ofNat 8 (flags - (if bitAt flags 2 then 4 else 0))
  let origin := if g.kind = 2 then leBytes 3 0 else slice g.raw 16 3
  let mem := groupMembers s g
  let bytes := b0 :: slice g.raw 1 15 ++ origin ++ slice g.raw 19 13 ++
    (mem.map (BitVec.ofNat 8) ++ List.replicate (32 - mem.length) 0xFF#8)
  crc32c bytes

/-! ## Trees (Table 13.7) -/

/-- A tree that names nothing. -/
def Tree.none : Tree :=
  let nd : TreeNode := { role := 0, parentMod := 255, parentHub := 0, r := 0, pos := [] }
  { defined := false, rootMod := 0, rootHub := 0, chan := 0, node0 := nd, node1 := nd, alt := [] }

/-- Tree `t`; one whose table entry is failed closed names nothing (R441). -/
def treeAt (s : State) (t : Nat) : Tree :=
  if (SMap.get? s.fence.failedClosed (2048 + t)).isSome then Tree.none else (s.fab.routes.trees[t]?).getD Tree.none

/-- The node of a tree on hub `h`. -/
def Tree.node (t : Tree) (h : Nat) : TreeNode := if h = 0 then t.node0 else t.node1

/-- The edges of a node to other hubs: its parent, where it has one, and its children. -/
def TreeNode.edges (n : TreeNode) : List (Nat × Nat) :=
  if n.role = 0 then []
  else (if n.parentMod = 255 then [] else [(n.parentMod, n.parentHub)]) ++
    (n.pos.filter (·.kind == 2)).map (fun p => (p.mod, p.hub))

/-- The modules this module exchanges with in a tree: the parents and children of its nodes. -/
def treePeers (s : State) (t : Nat) : List Nat :=
  let tr := treeAt s t
  (((tr.node0.edges ++ tr.node1.edges).map (·.1)).filter (· != modId s)).eraseDups

/-- This module's hub `h` is the order root of tree `t`. -/
def isRoot (s : State) (t h : Nat) : Bool := (treeAt s t).rootMod == modId s && (treeAt s t).rootHub == h

/-- A tree of this module has an edge between its two hubs (R317). -/
def crossesBridge (s : State) (t : Nat) : Bool :=
  let tr := treeAt s t
  tr.node0.edges.any (fun e => e.1 == modId s && e.2 != 0) || tr.node1.edges.any (fun e => e.1 == modId s && e.2 != 1)

/-- The trees that a group's collective can run on: its own and the alternates that it names (R344). -/
def groupTrees (s : State) (g : Group) : List Nat := g.treeId :: ((treeAt s g.treeId).alt.filter (· != 255)).eraseDups

/-- The streams of this module that a group's collective runs on: the group's, and stream (n mod 16) + 16 × h of each hub h
on which one of its trees has a node (R342; R218 as log entry 78 reads it). -/
def groupStreams (s : State) (g : Group) : List Nat :=
  g.stream :: ((List.range 2).filter (fun h =>
    (groupTrees s g).any (fun t => ((treeAt s t).node h).role != 0))).map (fun h => g.stream % 16 + 16 * h)

/-- The hub on which this module takes part as a member: the one whose node reads the member's own source, and otherwise
that of the group's stream (R342). -/
def memberHub (s : State) (g : Group) : Nat :=
  let reads := fun h => ((treeAt s g.treeId).node h).role != 0 && ((treeAt s g.treeId).node h).pos.any (·.kind == 1)
  let h := g.stream / 16
  if reads h || !reads (1 - h) then h else 1 - h

/-- This module's rank in a group's collective on a stream; none on a node that is no member. -/
def rankOn (s : State) (g : Group) (stream : Nat) : Option Nat :=
  if g.nodeOnly ∨ stream / 16 ≠ memberHub s g then none else (groupMembers s g).findIdx? (· == modId s)

/-! ## Operands (Table 9.4) -/

/-- The operands of a COLLECTIVE as numbers. -/
structure CollArgs where
  group : Nat
  coll : Nat
  redFn : Nat
  fmt : Nat
  cflags : Nat
  count : Nat
  src : Nat
  dst : Nat
  peer : Nat
  zero : Nat
  tileFlag : Nat
  tileK : Nat
  tileLen : Nat
  doneFlag : Nat
  doneZero : Nat
  doneValid : Bool
  deriving DecidableEq, Repr

/-- The operand bytes read. -/
def collArgs (o : List Byte) : CollArgs :=
  { group := leAt o 0 1, coll := leAt o 1 1, redFn := bits (leAt o 2 1) 0 4, fmt := bits (leAt o 2 1) 4 4,
    cflags := leAt o 3 1, count := leAt o 4 4, src := leAt o 8 8, dst := leAt o 16 8, peer := leAt o 24 1,
    zero := leAt o 25 1, tileFlag := bits (leAt o 26 2) 0 12, tileK := bits (leAt o 26 2) 12 4, tileLen := leAt o 28 2,
    doneFlag := bits (leAt o 30 2) 0 12, doneZero := bits (leAt o 30 2) 12 3, doneValid := bitAt (leAt o 30 2) 15 }

/-- OUT_ACC, DYN_COUNT, STREAMED and SRC_CORE of CFLAGS. -/
def CollArgs.outAcc (a : CollArgs) : Bool := bitAt a.cflags 0
def CollArgs.dyn (a : CollArgs) : Bool := bitAt a.cflags 1
def CollArgs.streamed (a : CollArgs) : Bool := bitAt a.cflags 2
def CollArgs.srcCore (a : CollArgs) : Bool := bitAt a.cflags 3

/-! ## Segment size (R249–R251) -/

/-- Buffer granules a role needs per granule of segment (Table 10.3); combining hubs have r = 2 under G1COMPAT. -/
def needPerGranule (s : State) (tree hub role r a n : Nat) (reduction : Bool) : Nat :=
  if role = 1 then 2 * a
  else if reduction then 2 * ((if g1 s then 2 else r) + 1) * a
  else 2 * r * (if isRoot s tree hub then n else Config.membersBelow tree hub)

/-- SEG_MAX of a stream in granules (Table 10.8). -/
def segMax (s : State) (stream : Nat) : Nat :=
  let v := rdF s (Reg.HUB_STRM_CFG (stream / 16) (stream % 16)) 0 9
  if v = 0 then rdF s (Reg.HUB_SEGCFG (stream / 16)) 0 9 else v

/-- s_max in granules, 0 where even one granule does not fit (R250, R251). -/
def sMaxGran (s : State) (stream tree role r a n : Nat) (reduction : Bool) : Nat :=
  let size := rdF s (Reg.HUB_STRM_SIZE (stream / 16) (stream % 16)) 0 14
  let need := needPerGranule s tree (stream / 16) role r a n reduction
  min (segMax s stream) (size / max need 1)

/-- A reduction is named (RED_FN other than NONE). -/
def isReduction (redFn : Nat) : Bool := redFn != 0

/-- The role of this module's hub for a group's collective on `stream` (Table 10.3): the tree's, 1 where the tree gives
the hub none, 4 on a node-only entry. -/
def roleOf (s : State) (g : Group) (stream : Nat) : Nat :=
  let nd := (treeAt s g.treeId).node (stream / 16)
  if g.nodeOnly then 4 else if nd.role = 0 then 1 else nd.role

/-- s_max of a group's collective on a stream, in granules (R250). -/
def opSMax (s : State) (g : Group) (stream fmt redFn : Nat) : Nat :=
  sMaxGran s stream g.treeId (roleOf s g stream) ((treeAt s g.treeId).node (stream / 16)).r (accRatio fmt redFn) g.size
    (isReduction redFn)

/-- The collective of an item as it is dispatched on its stream. -/
def mkOp (s : State) (i : Nat) (d : Desc) : CollOp :=
  let a := collArgs d.ops
  let g := group s a.group
  let st := d.lanes % 32
  { item := i, group := a.group, coll := a.coll, redFn := a.redFn, fmt := a.fmt, cflags := a.cflags, count := a.count,
    src := a.src, dst := a.dst, peer := a.peer % 32, tileFlag := a.tileFlag, tileK := a.tileK,
    tileLen := a.tileLen * 64, members := groupMembers s g, rank := rankOn s g st, role := roleOf s g st,
    foldR := ((treeAt s g.treeId).node (st / 16)).r, tree := g.treeId, stage := 0, arms := [],
    sGran := opSMax s g st a.fmt a.redFn, sealed := 0, counts := [], segs := 0, lost := 0, counted := 0, blocks := 0,
    written := 0, reArms := [], switching := false, granted := [], held := [], slots := [], engine := [], wrote := false,
    tick := (item s i).tick, tiles := 0, ownRead := [], got := [], sent := [], redo := 0 }

/-- The dispatch entry index (R265). -/
def dispatchIndex (coll role cflags : Nat) : Nat := 8 * coll + 2 * (role - 1) + b2n (bitAt cflags 2)

/-- The dispatch entry of a stream's hub (Table 11.9). -/
def dispatchEntry (s : State) (stream idx : Nat) : Nat := SMap.get s.hubs.store.dispatch 0 (stream / 16 * 128 + idx)

/-- The operation on a stream. -/
def spoke? (s : State) (i : Nat) : Option Spoke := SMap.get? s.hubs.spokes i

/-- A spoke replaced. -/
def setSpoke (s : State) (i : Nat) (p : Spoke) : State :=
  { s with hubs := { s.hubs with spokes := SMap.put s.hubs.spokes i p } }

/-- The collective on a stream replaced. -/
def setOp (s : State) (i : Nat) (p : Spoke) (op : CollOp) : State := setSpoke s i { p with op := op }

/-- Rank `r` takes part: it is in the seal and has not been lost (R236). -/
def CollOp.has (o : CollOp) (r : Nat) : Bool := bitAt o.sealed r && !bitAt o.lost r

/-- The seal less the members lost so far (MEMB of Table 11.6). -/
def CollOp.memb (o : CollOp) : Nat := sumNat ((indicesWhere 32 o.has).map (2 ^ ·))

/-- The bitmap that DETAIL carries: the seal less the members lost (R236); 0 before the seal. For ALL_TO_ALL, SEND and RECV
it is the ranks whose blocks arrived, this member's own included. -/
def CollOp.bitmap (o : CollOp) : Nat :=
  if o.coll = 7 ∨ o.coll = 8 ∨ o.coll = 9 then
    o.blocks ||| (match o.rank with | some r => 2 ^ r | none => 0)
  else o.memb

/-- DYN_COUNT and STREAMED of an operation. -/
def CollOp.dyn (o : CollOp) : Bool := bitAt o.cflags 1
def CollOp.streamed (o : CollOp) : Bool := bitAt o.cflags 2

/-- The sealed counts of an ALL_TO_ALL with DYN_COUNT are one row of 32 per rank, and one number per rank otherwise (R228). -/
def CollOp.matrix (o : CollOp) : Bool := o.coll == 7 && o.dyn

/-- Elements that rank `r` contributes to this member. -/
def CollOp.cntOf (o : CollOp) (r : Nat) : Nat :=
  if !o.dyn then o.count else if o.matrix then o.counts.getD (32 * r + o.rank.getD 0) 0 else o.counts.getD r 0

/-- Elements that this member contributes to rank `r`. -/
def CollOp.cntTo (o : CollOp) (r : Nat) : Nat :=
  if !o.dyn then o.count
  else if o.matrix then o.counts.getD (32 * o.rank.getD 0 + r) 0
  else o.counts.getD (o.rank.getD 255) 0

/-- The elements of the operation that segments are cut against (R252). -/
def CollOp.most (o : CollOp) : Nat := if o.dyn then maxNat o.counts else o.count

/-- Granules that one operand of a segment occupies: one for an operation below 4 KiB a member (R262). -/
def CollOp.operandGran (o : CollOp) : Nat :=
  if o.most * fmtBytes o.fmt < 4096 then 1 else o.sGran * accRatio o.fmt o.redFn

/-- Granules that an operation holds early (R224): full operands of a reduction with an operand before them in the fold
not yet combined. -/
def heldGranules (o : CollOp) : Nat :=
  if isReduction o.redFn then
    (o.slots.filter (fun e => e.1 % 8 < 4 && e.2.full && !e.2.combined &&
      (List.range (e.1 % 8)).any (fun q =>
        match SMap.get? o.slots (e.1 - e.1 % 8 + q) with
        | some b => !(b.seg == e.2.seg && b.combined)
        | none => true))).length * o.operandGran
  else 0

/-- The most granules that one stream of a hub holds early at this instant. -/
def heldNow (s : State) (h : Nat) : Nat :=
  maxNat ((List.range 16).map (fun i => match spoke? s (16 * h + i) with
    | some p => heldGranules p.op
    | none => 0))

/-- The peak of a hub's early holding in the tick (R264), after a change on `stream`. -/
def notePeak (s : State) (stream : Nat) : State :=
  let h := stream / 16
  { s with hubs := { s.hubs with heldPeak := SMap.upd s.hubs.heldPeak 0 h (fun x => max x (heldNow s h)) } }

/-- The OP_TAG of this module's operation on a stream (Table 12.3). -/
def CollOp.tag (o : CollOp) (s : State) (stream : Nat) : Nat := collTag stream o.group o.tick (modId s)

/-- The tag of member `m`'s contribution to the operation on a stream. -/
def memberTag (stream : Nat) (o : CollOp) (m : Nat) : Nat := collTag stream o.group o.tick m

/-- The partition a collective runs in: its item's (R151). -/
def CollOp.part (o : CollOp) (s : State) : Nat := (Sys2Proof.Machine.item s o.item).part

/-- Check 6 of Table 6.3 for a collective packet: its stream and its group are the partition's. A group that is not DEFINED
is no partition's (R150). -/
def collTargetOk (s : State) (part tag : Nat) : Bool :=
  let g := group s (bits tag 5 8)
  streamOwner s (bits tag 0 5) == some part && g.defined && g.part == part

end Sys2Proof.Machine
end

