-- ==== Sys2Proof/Machine/LedgerBase.lean ====
section
/-! DEFINITION. The Ledger's tables and the end of a request (chapter 15): what the dispatch of work items needs of the
serving layer. -/

namespace Sys2Proof.Machine

/-! ## Tables -/

/-- The Ledger replaced. -/
def setLdg (s : State) (l : Ledger) : State := { s with ledger := l }

/-- Slot `k`. -/
def slot (s : State) (k : Nat) : Slot := SMap.get s.ledger.slots Slot.free k

/-- Slot `k` replaced. -/
def setSlot (s : State) (k : Nat) (v : Slot) : State := setLdg s { s.ledger with slots := SMap.put s.ledger.slots k v }

/-- Model `m` of the LEDGER section; none while its entry is failed closed (R441). -/
def model? (s : State) (m : Nat) : Option Model := if entryClosed s (8192 + m) then none else SMap.get? s.ledger.models m

/-- What model `m` has in hand. -/
def run (s : State) (m : Nat) : ModelRun := SMap.get s.ledger.runs ModelRun.init m

/-- A model's run replaced. -/
def setRun (s : State) (m : Nat) (r : ModelRun) : State := setLdg s { s.ledger with runs := SMap.put s.ledger.runs m r }

/-- The LEDGER entry of a partition. -/
def ldgPart (s : State) (p : Nat) : LdgPart :=
  SMap.get s.ledger.parts { slotFirst := 0, slotMax := 0, weights := [], pageLog2 := 16, kvBase := 0, kvPages := 0 } p

/-- The slots of a model in states other than FREE. -/
def slotsOf (s : State) (m : Nat) : List Nat := SMap.keysWhere (fun _ (x : Slot) => x.st != 0 && x.model == m) s.ledger.slots

/-- The live requests of a model: those whose slot is taken. -/
def liveSlots (s : State) : List Nat := SMap.keysWhere (fun _ (x : Slot) => x.st != 0) s.ledger.slots

/-- KV pages taken in a partition's pool. -/
def takenPages (s : State) (p : Nat) : List Nat := SMap.get s.ledger.taken [] p

/-- The address of KV page `i` of partition `p`. -/
def pageAddr (s : State) (p i : Nat) : Nat := (ldgPart s p).kvBase + i * 2 ^ (ldgPart s p).pageLog2

/-- Tokens of a model that one KV page holds. -/
def tokensPerPage (s : State) (m : Model) : Nat := 2 ^ (ldgPart s m.part).pageLog2 / max m.kvb 1

/-- C_r of a slot (R380, R410). -/
def Slot.ctx (x : Slot) : Nat :=
  if x.order.isSome then x.promptLen else x.promptLen + x.maxNew + (if x.speculate then 8 else 0)

/-! ## Slot updates of multi-module pools (R391) -/

/-- This module holds the slot table of a model: every model's but that of a MULTI model with another lead (R391). -/
def leads (s : State) (md : Model) : Bool := !md.multi || md.leadMod == modId s

/-- A slot update sent by the lead to the other members of a MULTI model's group: it names the step, and a microstep two
boundaries after the lead's own; between two steps, the start of the next (log entry 80). -/
def sendUpdate (s : State) (m k st : Nat) (masked : Bool) : State :=
  match model? s m with
  | some md =>
    if md.multi && md.leadMod == modId s then
      (groupMembers s (group s md.group)).foldl (fun s d =>
        sendCtl s d 0 (.slotUpdate m k st masked (run s m).stepNo (if (run s m).running then (run s m).microstep + 2 else 0))) s
    else s
  | none => s

/-- A slot's state changed, with its update. -/
def setSlotSt (s : State) (k st : Nat) : State :=
  sendUpdate (setSlot s k { slot s k with st := st }) (slot s k).model k st (slot s k).masked

/-! ## Pages -/

/-- The pages of a slot returned to the pool. -/
def releasePages (s : State) (k : Nat) : State :=
  let x := slot s k
  setSlot (setLdg s { s.ledger with
    taken := SMap.put s.ledger.taken x.part ((takenPages s x.part).filter (fun i => !x.pages.contains i)) }) k
    { x with pages := [] }

/-- The lowest `n` free pages of a partition's pool; none when fewer are free (R374, R380). -/
def freePages (s : State) (p n : Nat) : Option (List Nat) :=
  let used := takenPages s p
  let l := ((List.range (ldgPart s p).kvPages).filter (fun i => !used.contains i)).take n
  if l.length = n then some l else none

/-- Pages taken by a slot. -/
def takePages (s : State) (k : Nat) (l : List Nat) : State :=
  let x := slot s k
  setSlot (setLdg s { s.ledger with taken := SMap.put s.ledger.taken x.part (l ++ takenPages s x.part) }) k
    { x with pages := x.pages ++ l }

/-- A slot returned to FREE with its pages (R375, R376). -/
def freeSlot (s : State) (k : Nat) : State :=
  let m := (slot s k).model
  let s1 := releasePages s k
  sendUpdate (setLdg s1 { s1.ledger with slots := SMap.del s1.ledger.slots k }) m k 0 false

/-! ## Ends (R376, Table 15.3) -/

/-- A control entry of the Ledger completes; OK is qualified by a time step since it was accepted (R49). -/
def endControl (s : State) (c : Nat × Nat × Desc) (steps : Nat) (st : Status) (d t : Nat) : State :=
  completeEntry s c.1 c.2.1 c.2.2 (qualifyTime s steps st) d false false false t

/-- A request ends: its SUBMIT completes, its slot and pages are free, and a PAUSE or RESUME still in hand completes
with the same status (R376, R404). An order's slot has no entry here, and an entry that its queue aborted completes
there (R183). -/
def endRequest (s : State) (k : Nat) (st : Status) (d t : Nat) : State :=
  let x := slot s k
  if x.st = 0 then s
  else
    let st1 := qualifyTime s x.steps st
    let s1 := freeSlot (abandonReads s (ReadUse.ofSlot k)) k
    let s2 := match x.pause with
      | some (q, i, ds, _) => endControl s1 (q, i, ds) x.controlSteps st d t
      | none => s1
    let s3 := match x.resume with
      | some c => endControl s2 c x.controlSteps st d t
      | none => s2
    if x.order.isSome ∨ 64 ≤ x.queue then s3
    else completeEntry s3 x.queue x.index x.desc st1 d false false false t

/-- DETAIL of CANCELLED (Table 15.3). -/
def cancelDetail (x : Slot) (expired paused : Bool) : Nat :=
  min x.emitted 0xFFFFFF + b2n x.midStep * 2 ^ 24 + b2n expired * 2 ^ 25 + b2n paused * 2 ^ 26

/-- A slot enters PAUSING (R400): its storing goes on apart from the batch. -/
def beginPause (s : State) (k : Nat) : State :=
  let x := slot s k
  setSlotSt (setSlot s k { x with pausedFrom := x.st }) k 3

/-- What waits for the end of a slot's step or chunk takes effect (R389, R400). -/
def settleSlot (s : State) (k t : Nat) : State :=
  let x := slot s k
  match x.ending with
  | some (.cancelled, _) => endRequest s k .cancelled (cancelDetail x false false) t
  | some (st, d) => endRequest s k st d t
  | none => if x.pause.isSome ∧ (x.st = 1 ∨ x.st = 2) then beginPause s k else s

/-- The slots of a step's rows settled and the step over; mask changes of the lead that were not yet due lapse with it. -/
def stepOver (s : State) (m t : Nat) : State :=
  let r := run s m
  let s1 := setRun s m { r with
    running := false, rows := [], microstep := 0, stepNo := r.stepNo + 1
    updates := if (model? s m).any (leads s) then [] else r.updates }
  r.rows.foldl (fun s k => if (slot s k).model = m then settleSlot s k t else s) s1

/-- The prefill lead tells the decode lead that the ship or the slot of an order has failed, with status and DETAIL (R414; log
entry 80). -/
def tellDecode (s : State) (k : Nat) (st : Status) (d : Nat) : State :=
  match (slot s k).order with
  | some o => sendCtl s o.src 0 (.orderRefuse (leAt o.bytes 6 2) (st.code + 256 * d))
  | none => s

/-- A step or chunk of a model failed (R396–R398): counted, its next batch carries RETRY, and after FAIL_LIMIT failures
in a row the live requests in the batch end with its status. `rows` are the slots it ran for. -/
def stepFailed (s : State) (m : Nat) (rows : List Nat) (isStep : Bool) (st : Status) (d t : Nat) : State :=
  match model? s m with
  | none => s
  | some md =>
    let r := run s m
    let s1 := raise (bump s Reg.LDG_STEP_FAIL_COUNT) Reg.LDG_EVENT 2 .serve false false t
    let limit := decide (md.failLimit ≤ r.fails + 1)
    let s2 := setRun s1 m { r with
      fails := if limit then 0 else r.fails + 1
      lastFail := some (st, d)
      retry := true
      skipSeq := if st = .tickOverrun ∧ isStep = true ∧ md.runNext = false then some s.clock.seq else r.skipSeq }
    let s3 := if isStep then stepOver s2 m t else rows.foldl (fun s k => settleSlot s k t) s2
    if limit && leads s md then rows.foldl (fun s k => if (slot s k).st = 0 then s else endRequest (tellDecode s k st d) k st d t) s3 else s3

/-- A slot whose summary store failed returns to the state it paused from, and its PAUSE completes with the failure. -/
def pauseFailed (s : State) (k : Nat) (st : Status) (d t : Nat) : State :=
  let x := slot s k
  match x.pause with
  | some (q, i, ds, _) => endControl (setSlotSt (setSlot s k { x with pause := none }) k x.pausedFrom) (q, i, ds) x.controlSteps st d t
  | none => s

/-- A work item of the Ledger ended with a status other than OK or TIME_DISCONTINUITY (R396). -/
def ledgerItemFailed (s : State) (src : ItemSrc) (st : Status) (d t : Nat) : State :=
  match st, src with
  | .ok, _ | .timeDiscontinuity, _ => s
  | _, .step m _ => stepFailed s m (run s m).rows true st d t
  | _, .chunk m k _ => stepFailed s m [k] false st d t
  | _, .summary _ k => pauseFailed s k st d t
  | _, _ => s

end Sys2Proof.Machine
end

