-- ==== Sys2Proof/Machine/SyncHome.lean ====
section
/-! DEFINITION. What happens at a flag's home (chapter 8): states, waits, releases and their latencies, and the fault
log. The commands on flags are in SyncFlags.lean. -/

namespace Sys2Proof.Machine

/-- The fabric of flags replaced. -/
def setSync (s : State) (y : Sync) : State := { s with sync := y }

/-- A flag reads 1. -/
def flagOn (s : State) (f : Nat) : Bool := s.sync.flags.contains f

/-- The core whose core flag it is (R194). -/
def flagCore (f : Nat) : Nat := f / 48

/-- The hub whose hub flag it is. -/
def flagHub (f : Nat) : Nat := (f - 3072) / 512

/-- A flag is a core flag. -/
def isCoreFlag (f : Nat) : Bool := decide (f < 3072)

/-- The partition that owns a flag (R194, R195): no allocation covers a flag whose home is absent. -/
def flagOwner (s : State) (f : Nat) : Option Nat :=
  if isCoreFlag f then ownerOf s 0x08 f else if f < 4096 then ownerOf s 0x09 (f - 3072) else none

/-- The build has the flag's home (R195). -/
def flagPresent (s : State) (f : Nat) : Bool :=
  if isCoreFlag f then s.build != .q else decide (f < 3072 + 512 * s.build.idies)

/-- The USE code of a flag's allocation (R202). -/
def flagUse (s : State) (f : Nat) : Option Nat :=
  if isCoreFlag f then useOf s 0x08 f else useOf s 0x09 (f - 3072)

/-- Distance of two cores in core cycles (R559): the C-dies form a ring of four. -/
def coreDist (x y : Nat) : Nat :=
  if x = y then 0
  else
    let d := (x / 16 + 4 - y / 16) % 4
    if d = 0 then 37 else if d = 2 then 177 else 107

/-- Distance of two hubs in I-die cycles (R559). -/
def hubHop (x y : Nat) : Nat := if x = y then 0 else 54

/-- Who sets a flag, for the latency of a release: a core or its matrix unit, a spoke, or the flag's home itself (a
manual SET, or a wait on a flag already 1, R197). -/
inductive Setter where
  | core (c : Nat)
  | spoke (i : Nat)
  | home
  deriving DecidableEq, Repr

/-- Set-to-release latency of Table 8.3a in ninths of a ns (a core cycle is 5, an I-die cycle is 6), from a setter
through a flag to the waiter with issuer index `w`. -/
def setLatency (by_ : Setter) (f w : Nat) : Nat :=
  let st := match by_ with
    | .home => if isCoreFlag f then Setter.core (flagCore f) else Setter.spoke (16 * flagHub f)
    | x => x
  match st with
  | .core c =>
    if isCoreFlag f then
      (if w < 64 then 5 * (3 + coreDist c (flagCore f) + coreDist (flagCore f) w) else 5 * (90 + coreDist c (flagCore f)))
    else if w < 64 then 6 * 150
    else 6 * (75 + hubHop (flagHub f) ((w - 64) / 16))
  | .spoke i =>
    if isCoreFlag f then
      (if w < 64 then 6 * 75 + 5 * coreDist (flagCore f) w else 6 * 75 + 5 * 90)
    else if w < 64 then 6 * 75
    else 6 * (6 + hubHop (i / 16) (flagHub f) + hubHop (flagHub f) ((w - 64) / 16))
  | .home => 0

/-- The waits pending on a flag. -/
def waitsOn (s : State) (f : Nat) : List Waiter := SMap.get s.sync.waiters [] f

/-- The pending WAIT_CLR of lowest issuer index (R200). -/
def lowestClr (ws : List Waiter) : Option Waiter :=
  ws.foldl (fun best w => if w.clr then
    (match best with
      | some b => if w.issuer < b.issuer then some w else some b
      | none => some w) else best) none

/-- A SET applied at its home to a flag that reads 0 (R200): every WAIT and the lowest WAIT_CLR are released, the latter
clearing the flag in the same cycle; each release travels for its latency. -/
def applySet (s : State) (f : Nat) (by_ : Setter) : State :=
  let ws := waitsOn s f
  let c := lowestClr ws
  let rel := ws.filter (fun w => !w.clr || some w == c)
  let rest := ws.filter (fun w => w.clr && some w != c)
  setSync s { s.sync with
    flags := if c.isSome then s.sync.flags.filter (· != f) else f :: s.sync.flags.filter (· != f)
    waiters := if rest.isEmpty then SMap.del s.sync.waiters f else SMap.put s.sync.waiters f rest
    releases := s.sync.releases ++
      rel.map (fun w => { flag := f, issuer := w.issuer, latency := setLatency by_ f w.issuer }) }

/-- A CLEAR applied at its home. -/
def applyClear (s : State) (f : Nat) : State := setSync s { s.sync with flags := s.sync.flags.filter (· != f) }

/-- Spin time added for an issuer that stops waiting at `t` (R210). -/
def endSpin (s : State) (issuer t : Nat) : State :=
  match SMap.get? s.sync.since issuer with
  | none => s
  | some t0 =>
    let d := t - t0
    setSync s { s.sync with
      since := SMap.del s.sync.since issuer
      spinCore := if issuer < 64 then s.sync.spinCore + d else s.sync.spinCore
      spinSpoke := if issuer < 64 then s.sync.spinSpoke else s.sync.spinSpoke + d }

/-- The waits of one issuer withdrawn at their homes, with a release still on its way (R198). -/
def withdrawWaits (s : State) (t issuer : Nat) : State :=
  endSpin (setSync s { s.sync with
    waiters := (SMap.mapV (fun _ ws => ws.filter (fun w => w.issuer != issuer)) s.sync.waiters).filter
      (fun e => !e.2.isEmpty)
    releases := s.sync.releases.filter (fun r => r.issuer != issuer) }) issuer t

/-- An overflow (`under` false) or underflow at a flag (R205): counted, raised, and logged when the log is empty. -/
def syncFault (s : State) (f : Nat) (under : Bool) (p issuer t : Nat) : State :=
  let s1 := bump s (if under then Reg.SYNC_UNDERFLOW_COUNT else Reg.SYNC_OVERFLOW_COUNT)
  let s2 := if wbit (rd s Reg.SYNC_FAULT_LOG) 23 then setSync s1 { s1.sync with logOvf := true }
    else wr s1 Reg.SYNC_FAULT_LOG
      (BitVec.ofNat 32 (f % 4096 + b2n under * 4096 + p % 8 * 8192 + issuer % 128 * 65536 + 2 ^ 23))
  raise s2 Reg.SYNC_EVENT (b2n under) .sync false false t

/-- An overflow under G1COMPAT: counted and raised, nothing more (chapter 8). -/
def overflowG1 (s : State) (t : Nat) : State :=
  raise (bump s Reg.SYNC_OVERFLOW_COUNT) Reg.SYNC_EVENT 0 .sync false false t

/-- DETAIL of SYNC_FAULT (Table 8.4). -/
def syncDetail (f : Nat) (under : Bool) (issuer : Nat) : Nat := f % 4096 + b2n under * 4096 + issuer % 128 * 65536

end Sys2Proof.Machine
end

