-- ==== Sys2Proof/Machine/Items.lean ====
section
/-! DEFINITION. Work items: how a spoke enters a routine (R265, R266), and how an item ends (chapters 1, 7, 9, 11
and 19). -/

namespace Sys2Proof.Machine

/-! ## Lists in order -/

/-- An element put into a list that `le` orders. -/
def insertBy {α : Type} (le : α → α → Bool) (x : α) : List α → List α
  | [] => [x]
  | y :: ys => if le x y then x :: y :: ys else y :: insertBy le x ys

/-- A list sorted by `le` (equals keep their order). -/
def sortBy {α : Type} (le : α → α → Bool) (l : List α) : List α := l.foldr (insertBy le) []

/-! ## Lanes -/

/-- The running item that occupies a lane. -/
def runningOn (s : State) (lane : Nat) : Option Nat :=
  (s.sched.items.find? (fun e => e.2.ph == .running && e.2.lanes.contains lane)).map (·.1)

/-- A late item still runs on some lane of an item (R32). -/
def lanesBusy (s : State) (it : Item) : Bool := it.lanes.any (fun l => (runningOn s l).isSome)

/-- The order of a lane (R514): late items of the previous tick first, then ascending planned start, then release. -/
def laneBefore (a b : Item) : Bool :=
  decide (a.seq < b.seq) || (a.seq == b.seq && (decide (a.start < b.start) || (a.start == b.start && decide (a.order ≤ b.order))))

/-- The items that wait for a lane, in order. -/
def laneQueue (s : State) (lane : Nat) : List Nat :=
  let w := s.sched.items.filter (fun e => e.2.ph == .waiting && e.2.lanes.contains lane)
  (sortBy (fun a b => laneBefore a.2 b.2) w).map (·.1)

/-! ## Spokes -/

/-- A spoke at the entry of a routine (R265). -/
def Spoke.enter (entry : Nat) (op : CollOp) : Spoke :=
  { entry := entry, pc := bits entry 0 14, gp := List.replicate 16 0, commit := none, dataSeen := false, timing := false,
    claim := false, waitOnly := false, waiting := false, flagWait := none, released := false, restarting := false,
    stall := none, taken := none, op := op }

/-- The dispatch entry an item enters by on a stream. -/
def entryOf (s : State) (i stream : Nat) : Nat :=
  let op := mkOp s i (item s i).desc
  dispatchEntry s stream (dispatchIndex op.coll op.role op.cflags)

/-- Withdraw notices to the hubs of a collective's tree (R232): the order root, the parents and children of this module's
nodes and the other members (log entry 78), and over the bridge this module's other hub when the tree has an edge to it. -/
def sendWithdraw (s : State) (tag tree : Nat) (members : List Nat) (rank : Option Nat) : State :=
  let m : Msg := .withdraw tag (rank.getD 255)
  let dsts := (((treeAt s tree).rootMod :: treePeers s tree ++ members).filter (· != modId s)).eraseDups
  let s1 := dsts.foldl (fun s d => sendCtl (bump s Reg.HUB_WITHDRAW_TX_COUNT) d tag m) s
  if crossesBridge s tree then emit (bump s1 Reg.HUB_WITHDRAW_TX_COUNT) (.bridge (ctlPacket s1 (modId s) tag m)) else s1

/-- A collective ends (R232, R281): its spoke is free, its commit gone, and unless it ended well a withdraw notice is
sent. -/
def endCollective (s : State) (i : Nat) (d : Desc) (st : Status) : State :=
  if d.opcode ≠ 3 then s
  else
    let stream := d.lanes % 32
    let a := collArgs d.ops
    let g := group s a.group
    let live := match spoke? s stream with
      | some p => p.op.item == i
      | none => false
    let segs := match spoke? s stream with
      | some p => p.op.written
      | none => 0
    let tree := match spoke? s stream with
      | some p => if p.op.item = i then p.op.tree else g.treeId
      | none => g.treeId
    let s1 := if live then
        wr { s with hubs := { s.hubs with
          spokes := SMap.del s.hubs.spokes stream
          ended := (i, st.code) :: s.hubs.ended } } (Reg.HUB_STRM_STAT (stream / 16) (stream % 16))
          (BitVec.ofNat 32 (segs % 4096 * 65536))
      else s
    match st with
    | .ok | .timeDiscontinuity | .memberFault => s1
    | _ => sendWithdraw s1 (collTag stream a.group (item s i).tick (modId s)) tree (groupMembers s g) (rankOn s g stream)

/-- A spoke operates on the other hub's flag while the bridge has failed (chapter 8, Edge cases; R317). -/
def flagIsolated (s : State) (issuer f : Nat) : Bool :=
  s.bridge.st != 0 && decide (64 ≤ issuer) && !isCoreFlag f && (issuer - 64) / 16 != flagHub f

/-- DONE_FLAG set before the record of a collective that ended well (R239); an overflow turns it into SYNC_FAULT, but not
under G1COMPAT, and a flag of the other hub behind a failed bridge into ISOLATED (R317). -/
def setDone (s : State) (it : Item) (st : Status) (d t : Nat) : (Status × Nat) × State :=
  let a := collArgs it.desc.ops
  if it.desc.opcode = 3 ∧ a.doneValid = true ∧ (st = .ok ∨ st = .timeDiscontinuity) then
    let issuer := 64 + it.desc.lanes % 32
    if flagIsolated s issuer a.doneFlag then ((.isolated, 0), s)
    else if flagOn s a.doneFlag then
      if g1 s then ((st, d), overflowG1 s t)
      else ((.syncFault, syncDetail a.doneFlag false issuer), syncFault s a.doneFlag false it.part issuer t)
    else ((st, d), applySet s a.doneFlag (.spoke (it.desc.lanes % 32)))
  else ((st, d), s)

/-- The record of an ended item, by where it came from. A Ledger item has none of its own: its failure
is the step's (R396). -/
def recordItem (s : State) (it : Item) (st : Status) (d : Nat) (invalid : Bool) (t : Nat) : State :=
  let iso := s.bridge.isolated && it.lanes.any (fun l => decide (80 ≤ l))
  if iso then bump s Reg.LNK_ISO_ITEM_COUNT
  else
    match it.src with
    | .entry q i => completeEntry s q i it.desc st d it.late invalid false t
    | .standing e =>
      let z : Standing :=
        { period := 1, offset := 0, runNext := it.runNext, reportOk := it.reportOk, queue := it.queue, start := it.start,
          desc := it.desc }
      completeStanding s z e st d it.late invalid false t
    | src => ledgerItemFailed s src st d t

/-- The lanes of an item that its work has entered: its cores once it runs, and each stream whose routine is its own
(R265). -/
def lanesEntered (s : State) (i : Nat) : List Nat :=
  let it := item s i
  it.lanes.filter (fun l => if l < 64 then it.ph == .running else (spoke? s (l - 64)).any (fun p => p.op.item == i))

/-- A work item stops: it is done, the waits of the lanes it has entered and its reads are withdrawn (R198), and a
collective of its ends with `st`. -/
def haltItem (s : State) (i : Nat) (st : Status) (t : Nat) : State :=
  let it := item s i
  let s2 := (lanesEntered s i).foldl (fun s l => withdrawWaits s t l) (setItem s i { it with ph := .done })
  endCollective (abandonReads s2 (ReadUse.ofItem i)) i it.desc st

/-- The deadline of an item's tick has come (R40): it is of the previous tick, and t+G is reached. -/
def atDeadline (s : State) (it : Item) (t : Nat) : Bool := decide (it.seq < s.clock.seq) && decide (graceNs s ≤ t)

/-- DETAIL of TICK_OVERRUN: the index of the tick whose carry-over window holds the abort (Table 7.9). -/
def overrunDetail (s : State) : Nat := s.clock.index % 2 ^ 32

/-- The cause that the tick guard adds to what ends an item at its deadline (R40, R41). -/
def guardCause (s : State) (it : Item) (t : Nat) : List (Status × Nat) :=
  if atDeadline s it t then [(.tickOverrun, overrunDetail s)] else []

/-- A work item ends, without entering the next routine: the causes of the cycle, the tick guard's among them, and the
grounds that arose decide (R41, R491), OK is qualified by a time step (R49), waits and reads are withdrawn, and its record
is written. `bad` says whether its results are invalid where the status of `causes` alone does not. -/
def endItem (s : State) (i : Nat) (causes : List (Status × Nat)) (bad : Option Bool) (t : Nat) : State :=
  let it := item s i
  if it.ph == .done then s
  else
    let c := pickStatus (it.grounds ++ guardCause s it t ++ causes)
    let st := qualifyTime s it.steps c.1
    let s0 := if c.1 = .tickOverrun ∧ atDeadline s it t = true then bump s Reg.TICK_OVERRUN_COUNT else s
    let r := setDone s0 it st c.2 t
    let s1 := haltItem r.2 i r.1.1 t
    let invalid := if r.1.1 ≠ st then true
      else if c = pickStatus causes then bad.getD (invalidResults st it.wrote) else invalidResults st it.wrote
    recordItem s1 it r.1.1 r.1.2 invalid t

/-- PERIODIC_SKIP (R42): the instance of standing entry `e` in this tick is not dispatched and completes with
TICK_OVERRUN. -/
def skipPeriodic (e t : Nat) (s : State) : State :=
  (SMap.keysWhere (fun _ (it : Item) => it.ph == .waiting && it.seq == s.clock.seq && it.src == .standing e) s.sched.items).foldl
    (fun s i => endItem (bump s Reg.TICK_SKIP_COUNT) i [(.tickOverrun, overrunDetail s)] none t) s

/-- A periodic item that the tick guard ends at its deadline leaves out its instance of this tick, unless its entry is
marked RUN_NEXT (R42). -/
def endWork (s : State) (i : Nat) (causes : List (Status × Nat)) (bad : Option Bool) (t : Nat) : State :=
  let it := item s i
  let s1 := endItem s i causes bad t
  let expired := it.ph != .done && atDeadline s it t &&
    (pickStatus (it.grounds ++ guardCause s it t ++ causes)).1 == .tickOverrun
  match it.src with
  | .standing e => if expired && !it.runNext then skipPeriodic e t s1 else s1
  | _ => s1

/-- The 64-bit words of hub SRAM of a stream's buffer (R248): the first, and the one after the last. -/
def bufferWords (s : State) (stream : Nat) : Nat × Nat :=
  let h := stream / 16
  let b := rdF s (Reg.HUB_STRM_BASE h (stream % 16)) 0 13
  let n := rdF s (Reg.HUB_STRM_SIZE h (stream % 16)) 0 14
  (h * 4194304 + b * 512, h * 4194304 + (b + n) * 512)

/-- The buffer of a stream holds nothing of the operation before: each operand of the next one is written whole before it
is read, which clears the poison marks there (R440; log entry 78). -/
def freshBuffer (s : State) (stream : Nat) : State :=
  let w := bufferWords s stream
  { s with mems := { s.mems with poisonHsram := s.mems.poisonHsram.filter (fun x => decide (x < w.1) || decide (w.2 ≤ x)) } }

/-- The next routine of a stream entered when no routine runs there (R265, R266): an item whose dispatch entry is not
VALID completes with DESC_INVALID and the one after it is tried. -/
def enterLane (s : State) (t stream : Nat) : State :=
  (laneQueue s (64 + stream)).foldl (fun s i =>
    if (spoke? s stream).isSome then s
    else
      let e := entryOf s i stream
      if bitAt e 15 then setSpoke (freshBuffer s stream) stream (Spoke.enter e (mkOp s i (item s i).desc))
      else endItem s i [(.descInvalid, 8)] none t) s

/-- A work item ends and the next routine of each of its streams is entered. -/
def finishItem (s : State) (i : Nat) (causes : List (Status × Nat)) (bad : Option Bool) (t : Nat) : State :=
  let ls := (item s i).lanes
  (ls.filter (fun l => decide (64 ≤ l))).foldl (fun s l => enterLane s t (l - 64)) (endWork s i causes bad t)

/-- The item a core runs, or the item of a stream's routine. -/
def itemOfIssuer (s : State) (issuer : Nat) : Option Nat :=
  if issuer < 64 then runningOn s issuer else (spoke? s (issuer - 64)).map (·.op.item)

/-- The partition an issuer works for: its item's, or its stream's owner. -/
def partOfIssuer (s : State) (issuer : Nat) : Option Nat :=
  match itemOfIssuer s issuer with
  | some i => some (item s i).part
  | none => if issuer < 64 then none else streamOwner s (issuer - 64)

/-- The item of an issuer aborted at once with a status (R156, R204, R205). -/
def abortIssuer (s : State) (issuer : Nat) (st : Status) (d : Nat) (bad : Bool) (t : Nat) : State :=
  match itemOfIssuer s issuer with
  | some i => finishItem s i [(st, d)] (some bad) t
  | none => s

end Sys2Proof.Machine
end

