-- ==== Sys2Proof/Machine/SyncFlags.lean ====
section
/-! DEFINITION. The commands on synchronisation flags (chapter 8). -/

namespace Sys2Proof.Machine

/-- The ownership check at a flag's home (R156): the issuer's partition owns the flag. `none` means refused. -/
def flagCheck (s : State) (issuer f : Nat) : Bool :=
  match flagOwner s f, partOfIssuer s issuer with
  | some p, some q => p == q
  | _, _ => false

/-- A refused flag operation (R156): counted and logged, and the item completes with KEY_REJECT, DETAIL 8. -/
def flagReject (s : State) (issuer f t : Nat) : State :=
  abortIssuer (syncReject s ((partOfIssuer s issuer).getD 0) ((flagOwner s f).getD 0) f t) issuer .keyReject 8 false t

/-- The setter of an issuer index: the register port sets as the home does. -/
def setterOf (issuer : Nat) : Setter :=
  if issuer < 64 then .core issuer else if issuer < 96 then .spoke (issuer - 64) else .home

/-- A SET reaching a flag's home: isolated, refused, overflowing (under G1COMPAT only counted) or applied. -/
def doSet (s : State) (issuer f t : Nat) : State :=
  if flagIsolated s issuer f then abortIssuer s issuer .isolated 0 false t
  else if !flagCheck s issuer f then flagReject s issuer f t
  else if flagOn s f then
    if g1 s then overflowG1 s t
    else
      abortIssuer (syncFault s f false ((flagOwner s f).getD 0) issuer t) issuer .syncFault (syncDetail f false issuer) true t
  else applySet s f (setterOf issuer)

/-- A CLEAR reaching a flag's home. -/
def doClear (s : State) (issuer f t : Nat) : State :=
  if flagIsolated s issuer f then abortIssuer s issuer .isolated 0 false t
  else if !flagCheck s issuer f then flagReject s issuer f t
  else if flagOn s f then applyClear s f
  else
    abortIssuer (syncFault s f true ((flagOwner s f).getD 0) issuer t) issuer .syncFault (syncDetail f true issuer) true t

/-- A WAIT or WAIT_CLR reaching a flag's home (R197, R200): released at once when the flag reads 1, and pending
otherwise. The issuer spins until its release arrives. -/
def doWait (s : State) (issuer f : Nat) (clr : Bool) (t : Nat) : State :=
  if flagIsolated s issuer f then abortIssuer s issuer .isolated 0 false t
  else if !flagCheck s issuer f then flagReject s issuer f t
  else
    let s0 := setSync s { s.sync with since := SMap.put s.sync.since issuer t }
    if flagOn s f then
      setSync s0 { s0.sync with
        flags := if clr then s0.sync.flags.filter (· != f) else s0.sync.flags
        releases := s0.sync.releases ++ [{ flag := f, issuer := issuer, latency := setLatency .home f issuer }] }
    else
      setSync s0 { s0.sync with
        waiters := SMap.upd s0.sync.waiters [] f
          (· ++ [{ issuer := issuer, clr := clr, item := itemOfIssuer s issuer }]) }

/-- FLAG_SET (R200, R205). -/
def execFlagSet (issuer flag t : Nat) (s : State) : Host.Outcome State Fault Refusal := .next (doSet s issuer flag t)

/-- FLAG_CLEAR (R205). -/
def execFlagClear (issuer flag t : Nat) (s : State) : Host.Outcome State Fault Refusal :=
  .next (doClear s issuer flag t)

/-- A core stalls in a flag wait (R198): it issues no other. -/
def coreWaits (s : State) (issuer : Nat) : Bool := decide (issuer < 64) && (SMap.get? s.sync.since issuer).isSome

/-- FLAG_WAIT (R197). -/
def execFlagWait (issuer flag t : Nat) (s : State) : Host.Outcome State Fault Refusal :=
  if coreWaits s issuer then .next s else .next (doWait s issuer flag false t)

/-- FLAG_WAIT_CLR (R200). -/
def execFlagWaitClr (issuer flag t : Nat) (s : State) : Host.Outcome State Fault Refusal :=
  if coreWaits s issuer then .next s else .next (doWait s issuer flag true t)

/-- TILE_SET (R204): a matrix unit's SET, with the index of its core. On a flag whose USE is not TILE it is not
performed, and the item completes with DESC_INVALID; a flag of another partition is still counted as a reject. -/
def execTileSet (core flag t : Nat) (s : State) : Host.Outcome State Fault Refusal :=
  if flagUse s flag = some 3 then .next (doSet s core flag t)
  else
    let s1 := if flagCheck s core flag then s
      else syncReject s ((partOfIssuer s core).getD 0) ((flagOwner s flag).getD 0) flag t
    .next (abortIssuer s1 core .descInvalid 8 true t)

/-- WAITER_RELEASE (R201): the oldest release on its way to an issuer arrives, and the issuer resumes. -/
def execWaiterRelease (issuer t : Nat) (s : State) : Host.Outcome State Fault Refusal :=
  match s.sync.releases.find? (fun r => r.issuer == issuer) with
  | none => .next s
  | some r =>
    let s1 := endSpin (setSync s { s.sync with releases := s.sync.releases.erase r }) issuer t
    if issuer < 64 then .next s1
    else
      match spoke? s1 (issuer - 64) with
      | some p => .next (if p.waiting && p.flagWait.isSome then setSpoke s1 (issuer - 64) { p with released := true } else s1)
      | none => .next s1

/-- One record in the audit ring (R209, Table 8.6): counted, and sent as a SYNC-class PLDM event. -/
def auditManual (s : State) (f part : Nat) (set : Bool) (src : Requester) (result t : Nat) : State :=
  let k := s.sync.auditNext
  let w0 := f % 4096 + b2n set * 4096 + part % 8 * 8192 + (match src with | .pf0 => 65536 | .supervisor => 0) +
    b2n (flagOn s f) * 2 ^ 17 + result * 2 ^ 18
  let rec_ := BitVec.ofNat 32 w0 :: timeOnly s t
  let s1 := setSync s { s.sync with
    audit := SMap.put s.sync.audit k rec_
    auditNext := (k + 1) % 64
    auditWrap := s.sync.auditWrap || (SMap.get? s.sync.audit k).isSome }
  raise (bump s1 Reg.SYNC_DBG_COUNT) Reg.SYNC_EVENT 2 .sync false true t

/-- A manual operation (R207, R208): performed only when the named partition owns the flag; never a fault. -/
def manualOp (s : State) (f part : Nat) (set : Bool) (src : Requester) (t : Nat) : State :=
  if flagOwner s f = some part ∧ part < numParts s then
    if flagOn s f = set then auditManual s f part set src 1 t
    else
      let s1 := auditManual s f part set src 0 t
      if set then applySet s1 f .home else applyClear s1 f
  else fenceRefuse (auditManual s f part set src 2 t) .part part src Reg.SYNC_DBG_OP t

/-- MANUAL_SET (R208). -/
def execManualSet (flag part : Nat) (src : Requester) (t : Nat) (s : State) : Host.Outcome State Fault Refusal :=
  .next (manualOp s flag part true src t)

/-- MANUAL_CLEAR (R208). -/
def execManualClear (flag part : Nat) (src : Requester) (t : Nat) (s : State) : Host.Outcome State Fault Refusal :=
  .next (manualOp s flag part false src t)

end Sys2Proof.Machine
end

