-- ==== Sys2Proof/Machine/Collective.lean ====
section
/-! DEFINITION. Collectives: the arm round and the seal, missing members, tree switches, outcomes and results
(chapters 9, 10 and 13). -/

namespace Sys2Proof.Machine

/-! ## Messages -/

/-- A VALIANT packet's intermediate (R325) from this module to `dst` on a channel: none where no module is left. -/
def viaOf (s : State) (chan dst : Nat) : Option Nat :=
  let c := (channel? s chan).getD { mode := 0, foreignOk := false, timeoutUs := 0, valiant := 0 }
  if c.mode = 2 then
    let set := indicesWhere 32 (fun m => bitAt c.valiant m && m != modId s && m != dst && !s.fab.down.contains m)
    let all := indicesWhere 32 (fun m => bitAt c.valiant m && m != modId s && m != dst)
    let h := crc32c (leBytes 1 (modId s) ++ leBytes 1 dst ++ leBytes 1 chan ++ leBytes 4 (epochNum s s.clock.index))
    match all[h % max all.length 1]? with
    | some m => if set.contains m then some m else none
    | none => none
  else none

/-- A collective packet of this module (Tables 12.3 and 13.4): control (PTYPE 2) or a segment (PTYPE 1), on the channel
that the operation's tree names (R324). -/
def collPacket (s : State) (o : CollOp) (ptype key dst tag offset : Nat) (m : Msg) (data : List Byte) : Packet :=
  let chan := (treeAt s o.tree).chan
  let mode := ((channel? s chan).map (·.mode)).getD 1
  let via := viaOf s chan dst
  { key := key, ptype := ptype, cls := 1, fence := false, src := modId s, dst := dst, mode := mode,
    phase := mode == 2 && via.isNone, via := via.getD 0, failover := !s.fab.down.isEmpty, foreign := false, ttl := 15,
    opTag := tag, e2e := 0, offset := offset, msg := m, data := data }

/-- A collective packet to this module's other hub (R254, R315): over the bridge, with checks 5 and 6 of Table 6.3 made
there (log entry 77), after the claims on it (R275, R276); by the detour when the bridge has failed. It takes effect there
by the command of its own row. -/
def sendBridge (s : State) (stream part : Nat) (p : Packet) (t : Nat) : State :=
  if s.bridge.st ≠ 0 then
    match detourPort s (stream / 16) with
    | some n => toPort s n { pkt := p, rx := none }
    | none => s
  else if !partActive s part then packetReject s 0x10 5 part p.key p.src p.opTag t
  else if !collTargetOk s part p.opTag then packetReject s 0x10 6 part p.key p.src p.opTag t
  else emit (preempt s stream (stream / 16) 17) (.bridge p)

/-- A collective message of the operation on a stream to hub `dst.2` of module `dst.1`, under the key of its partition;
nothing goes to the hub itself. -/
def sendColl (s : State) (stream : Nat) (o : CollOp) (ptype : Nat) (dst : Nat × Nat) (tag offset : Nat) (m : Msg)
    (data : List Byte) (t : Nat) : State :=
  let part := o.part s
  let p := collPacket s o ptype (keyOf s part) dst.1 tag offset m data
  if dst.1 ≠ modId s then sendOwn s part (stream / 16) p t
  else if dst.2 = stream / 16 then s
  else sendBridge s stream part p t

/-- The children of the operation's hub in its tree: module and hub. -/
def opChildren (s : State) (o : CollOp) (stream : Nat) : List (Nat × Nat) :=
  let n := (treeAt s o.tree).node (stream / 16)
  if n.role = 0 then [] else ((n.pos.filter (·.kind == 2)).map (fun p => (p.mod, p.hub))).eraseDups

/-- The parent of the operation's hub: module and hub; the order root for a hub to which the tree gives no role. -/
def opParent (s : State) (o : CollOp) (stream : Nat) : Option (Nat × Nat) :=
  let tr := treeAt s o.tree
  let nd := tr.node (stream / 16)
  if nd.role = 0 then (if isRoot s o.tree (stream / 16) then none else some (tr.rootMod, tr.rootHub))
  else if nd.parentMod = 255 then none
  else some (nd.parentMod, nd.parentHub)

/-- A message sent on to every child of the operation's hub. -/
def sendDown (s : State) (stream : Nat) (o : CollOp) (m : Msg) (t : Nat) : State :=
  (opChildren s o stream).foldl (fun s c => sendColl s stream o 2 c (o.tag s stream) 0 m [] t) s

/-- A message sent up to the parent of the operation's hub. -/
def sendUp (s : State) (stream : Nat) (o : CollOp) (tag : Nat) (m : Msg) (t : Nat) : State :=
  match opParent s o stream with
  | some d => sendColl s stream o 2 d tag 0 m [] t
  | none => s

/-- An operation changed on its stream. -/
def updOp (s : State) (stream : Nat) (f : CollOp → CollOp) : State :=
  match spoke? s stream with
  | some p => setOp s stream p (f p.op)
  | none => s

/-! ## Restarts (R277–R279) -/

/-- A WAIT_CLR of a spoke's word has taken its flag: no wait of the spoke is pending at the flag's home any more. -/
def waitTaken (s : State) (i : Nat) (p : Spoke) : Bool :=
  match p.flagWait with
  | some f => bitAt (SMap.get s.hubs.store.words 0 (i / 16 * 16384 + p.pc)) 116 &&
      !(waitsOn s f).any (fun w => w.issuer == 64 + i)
  | none => false

/-- A restart cause meets a spoke: it is recorded and counted, and the routine stops at the word boundary unless a
restart is already in progress. A flag that its WAIT_CLR has already taken stays taken (R282). -/
def restartSpoke (s : State) (i cause t : Nat) : State :=
  match spoke? s i with
  | none => s
  | some p =>
    let h := i / 16
    let k := i % 16
    let s1 := raise (wr (bump s (Reg.SPK_RESTART_COUNT h k)) (Reg.SPK_LAST_CAUSE h k) (BitVec.ofNat 32 cause))
      (Reg.SPK_EVENT h) 0 .fabric false false t
    if p.restarting then s1
    else setSpoke (withdrawWaits s1 t (64 + i)) i
      { p with restarting := true, waiting := false, flagWait := none, released := false, stall := none
               taken := if waitTaken s i p then some p.pc else p.taken }

/-! ## Missing members (R226, R232–R240) -/

/-- HUB_COLL_LOG written when it is empty (Table 9.12). Of two members of one operation lost at one instant it records
the lower rank (chapter 9, Edge cases). -/
def logMissing (s : State) (stream : Nat) (o : CollOp) (rank cause : Nat) (after : Bool) (t : Nat) : State :=
  let old := rd s Reg.HUB_COLL_LOG_0
  let lower := decide (s.hubs.collLogAt = some (now s t)) && fld old 5 13 == o.group % 256 + stream % 32 * 256 &&
    decide (rank % 32 < fld old 0 5)
  let s1 := { s with hubs := { s.hubs with collOvf := s.hubs.collOvf || wbit old 31 } }
  if wbit old 31 && !lower then s1
  else
    let s2 := { s1 with hubs := { s1.hubs with collLogAt := some (now s t) } }
    wr (wr s2 Reg.HUB_COLL_LOG_0 (BitVec.ofNat 32
      (rank % 32 + o.group % 256 * 32 + stream % 32 * 8192 + cause % 8 * 2 ^ 18 + b2n after * 2 ^ 21 + 2 ^ 31)))
      Reg.HUB_COLL_LOG_1 (BitVec.ofNat 32 o.tick)

/-- A member declared missing, counted once on the order root (R240). -/
def countMissing (s : State) (stream : Nat) (o : CollOp) (rank cause : Nat) (after : Bool) (t : Nat) : State :=
  if isRoot s o.tree (stream / 16) && !bitAt o.counted rank then
    let s1 := updOp s stream (fun o => { o with counted := o.counted ||| 2 ^ rank })
    let s2 := logMissing s1 stream o rank cause after t
    raise (bump s2 Reg.HUB_MEMBER_MISSING_COUNT) Reg.HUB_COLL_EVENT 0 .fabric false false t
  else s

/-- A member left out of the seal before it is formed. -/
def leaveOut (s : State) (stream : Nat) (o : CollOp) (rank cause t : Nat) : State :=
  updOp (countMissing s stream o rank cause false t) stream
    (fun o => { o with arms := SMap.put o.arms rank { good := false, counts := [] } })

/-- A member lost, without the restart of the routine (R226, R232, R236): left out before the seal, its bit cleared after
it. The first cause decides. -/
def dropMember (s : State) (stream rank cause t : Nat) : State :=
  match spoke? s stream with
  | none => s
  | some p =>
    let o := p.op
    if o.stage < 2 then
      if (SMap.get? o.arms rank).isSome then s else leaveOut s stream o rank cause t
    else if o.has rank then
      updOp (countMissing s stream o rank cause true t) stream (fun o => { o with lost := o.lost ||| 2 ^ rank })
    else s

/-- A member lost (R280): after the seal the routine restarts. -/
def loseMember (s : State) (stream rank cause t : Nat) : State :=
  let after := match spoke? s stream with
    | some p => decide (2 ≤ p.op.stage) && p.op.has rank
    | none => false
  let s1 := dropMember s stream rank cause t
  if after then restartSpoke s1 stream 1 t else s1

/-! ## The seal (R226, R228, R250, R258) -/

/-- A sealed operation: the bitmap, the counts of the sealed members, s and m (R250, R252). -/
def CollOp.withSeal (o : CollOp) (bitmap sGran : Nat) (counts : List Nat) : CollOp :=
  let cs := if o.matrix then (List.range 1024).map (fun k => if bitAt bitmap (k / 32) then counts.getD k 0 else 0)
    else (List.range 32).map (fun r => if bitAt bitmap r then counts.getD r 0 else 0)
  let most := if o.dyn then maxNat cs else o.count
  { o with
    stage := 2
    sealed := bitmap
    sGran := sGran
    counts := cs
    segs := if sGran = 0 then 0 else ceilDiv (most * fmtBytes o.fmt) (sGran * 4096)
    lost := 0 }

/-- The counts of every rank as the order root has them: one each, or a row of 32 each for ALL_TO_ALL with DYN_COUNT. -/
def CollOp.armCounts (o : CollOp) : List Nat :=
  let of := fun r => match SMap.get? o.arms r with
    | some a => a.counts
    | none => []
  if o.matrix then (List.range 1024).map (fun k => (of (k / 32)).getD (k % 32) 0)
  else (List.range 32).map (fun r => (of r).headD 0)

/-- The seal formed at the order root from the arm messages it has, and sent down the tree. -/
def formSeal (s : State) (stream t : Nat) : State :=
  match spoke? s stream with
  | none => s
  | some p =>
    let o := p.op
    let good := (indicesWhere 32 (fun r => match SMap.get? o.arms r with | some a => a.good | none => false))
    let bitmap := sumNat (good.map (2 ^ ·))
    let s1 := setOp s stream p (o.withSeal bitmap o.sGran o.armCounts)
    sendDown s1 stream o (.seal (o.tag s stream) bitmap o.sGran o.armCounts) t

/-- Every member has armed or been left out. -/
def allArmed (o : CollOp) : Bool := (List.range o.members.length).all (fun r => (SMap.get? o.arms r).isSome)

/-- The seal formed when the last awaited arm message is there. -/
def sealWhenReady (s : State) (stream t : Nat) : State :=
  match spoke? s stream with
  | some p => if p.op.stage == 1 && isRoot s p.op.tree (stream / 16) && allArmed p.op then formSeal s stream t else s
  | none => s

/-- The counts this member sends: its COUNT, or for ALL_TO_ALL with DYN_COUNT the header of its source. -/
def ownCounts (s : State) (o : CollOp) : List Nat :=
  if o.matrix then (List.range 32).map (fun j => leNat (memRead s (o.src + 4 * j) 4))
  else [o.count]

/-- This module has joined the domain (R117). -/
def ownJoined (s : State) : Bool := bitAt s.fab.nodeUp (modId s)

/-- The arm round of the operation on a stream (Table 9.10): the arm message goes up, a node's with s_max alone; at the
order root the members that are not joined or cannot be reached are left out at once (R226), this module's own rank among
them (R117). A module that has not joined sends no arm. -/
def armRound (s : State) (stream t : Nat) : State :=
  match spoke? s stream with
  | none => s
  | some p =>
    let o := p.op
    if isRoot s o.tree (stream / 16) then
      let s2 := match o.rank with
        | some r => if ownJoined s then updOp s stream (fun o => { o with
              arms := SMap.put o.arms r { good := true, counts := ownCounts s o } })
            else s
        | none => s
      let s3 := (List.range o.members.length).foldl (fun s r =>
        let m := o.members.getD r 0
        let armed := match spoke? s stream with
          | some p => (SMap.get? p.op.arms r).isSome
          | none => true
        if armed then s
        else if !bitAt s.fab.nodeUp m then leaveOut s stream o r 6 t
        else if !reachable s m then leaveOut s stream o r 7 t
        else s) s2
      sealWhenReady s3 stream t
    else if ownJoined s then
      sendUp s stream o (o.tag s stream)
        (.arm { opTag := o.tag s stream, rank := o.rank.getD 255, signature := groupSignature s (group s o.group),
                counts := if o.rank.isSome then ownCounts s o else [], sGran := o.sGran }) t
    else s

/-- The planned start of a collective (Table 9.10). A severed module, or a tree that crosses a failed bridge with no
detour, ends with ISOLATED (R317, R341). -/
def beginArm (s : State) (stream t : Nat) : State :=
  match spoke? s stream with
  | none => s
  | some p =>
    let o := p.op
    if s.fab.severed || (s.bridge.st != 0 && crossesBridge s o.tree && !detourReady s) then
      finishItem s o.item [(.isolated, 0)] none t
    else armRound (setOp s stream p { o with stage := 1 }) stream t

/-- ARM_MESSAGE_RX (R226, R227, R250): at the order root the arm is recorded, a member with another signature is left
out, and a node's arm (rank 255) gives its s_max; on any other hub of the tree it goes on up with the smaller s_max. -/
def execArmMessageRx (stream : Nat) (a : ArmMsg) (t : Nat) (s : State) : Host.Outcome State Fault Refusal :=
  match spoke? s stream with
  | none => .next s
  | some p =>
    let o := p.op
    if !isRoot s o.tree (stream / 16) then
      .next (sendUp s stream o a.opTag (.arm { a with sGran := min o.sGran a.sGran }) t)
    else if o.stage ≥ 2 then .next s
    else if 32 ≤ a.rank then .next (updOp s stream (fun o => { o with sGran := min o.sGran a.sGran }))
    else if (SMap.get? o.arms a.rank).isSome then .next s
    else if a.signature ≠ groupSignature s (group s o.group) then
      let s1 := raise (bump s Reg.HUB_SIG_MISMATCH_COUNT) Reg.HUB_COLL_EVENT 1 .fabric false false t
      .next (sealWhenReady (leaveOut s1 stream o a.rank 5 t) stream t)
    else
      .next (sealWhenReady (updOp s stream (fun o => { o with
        arms := SMap.put o.arms a.rank { good := true, counts := a.counts }
        sGran := min o.sGran a.sGran })) stream t)

/-- A timeout is consequential (R311, R348): the contribution has been reported as a link fault or key reject here, or
its edge runs through a module already down. -/
def consequential (s : State) (tag m : Nat) : Bool :=
  s.faults.reported.contains tag || s.faults.rejects.contains tag || s.fab.down.contains m

/-- LNK_CONSEQ counted (R311). -/
def countConseq (s : State) (t : Nat) : State :=
  raise (bump s Reg.LNK_CONSEQ_COUNT) Reg.LNK_EVENT 4 .link false false t

/-- A timeout that has acted for a contribution (R312). -/
def noteTimeout (s : State) (tag : Nat) : State :=
  { s with faults := { s.faults with timedOut := tag :: s.faults.timedOut } }

/-- A step timer of a stream fires whose operation a LINK_FAULT or key reject has ended: consequential (R155, R311). -/
def closedTimeout (s : State) (stream t : Nat) : State :=
  match s.faults.closed.find? (fun g => bits g 0 5 == stream % 32) with
  | some g => countConseq { s with faults := { s.faults with closed := s.faults.closed.erase g } } t
  | none => s

/-- ARM_STEP_TIMEOUT (R226): members whose arm did not arrive are left out, and the seal is formed. -/
def execArmStepTimeout (stream t : Nat) (s : State) : Host.Outcome State Fault Refusal :=
  match spoke? s stream with
  | none => .next (closedTimeout s stream t)
  | some p =>
    if p.op.stage == 1 && isRoot s p.op.tree (stream / 16) then
      let s1 := (List.range p.op.members.length).foldl (fun s r =>
        let m := p.op.members.getD r 0
        let tag := memberTag stream p.op m
        if (SMap.get? p.op.arms r).isSome then s
        else if consequential s tag m then
          updOp (countConseq s t) stream (fun o => { o with arms := SMap.put o.arms r { good := false, counts := [] } })
        else leaveOut (noteTimeout s tag) stream p.op r 0 t) s
      .next (formSeal s1 stream t)
    else .next s

/-- The ranks that a bitmap leaves out of the seal of an operation. -/
def CollOp.without (o : CollOp) (bitmap : Nat) : Nat :=
  sumNat ((indicesWhere 32 (fun r => bitAt o.sealed r && !bitAt bitmap r)).map (2 ^ ·))

/-- SEAL_RX (R227, R258, R345): the seal or a re-seal is held and sent on down; a member that the seal leaves out completes
with MEMBER_FAULT and its own bit clear. Members that a re-seal leaves out were lost after the seal. -/
def execSealRx (stream bitmap sGran : Nat) (counts : List Nat) (reSeal : Option Nat) (t : Nat) (s : State) :
    Host.Outcome State Fault Refusal :=
  match spoke? s stream with
  | none => .next s
  | some p =>
    let o := p.op
    let tag := o.tag s stream
    let m : Msg := match reSeal with
      | some j => .reSeal tag bitmap j
      | none => .seal tag bitmap sGran counts
    let s1 := sendDown s stream o m t
    match reSeal with
    | some _ =>
      if o.switching then .next (updOp s1 stream (fun o => { o with lost := o.without bitmap })) else .next s1
    | none =>
      if o.stage ≠ 1 then .next s1
      else
        let s2 := updOp s1 stream (fun o => o.withSeal bitmap sGran counts)
        match o.rank with
        | some r =>
          if bitAt bitmap r then .next s2
          else .next (finishItem s2 o.item [(.memberFault, bitmap)] (some false) t)
        | none => .next s2

/-! ## Withdrawals and timeouts -/

/-- DATA_STEP_TIMEOUT (R233, R240, R311, R348): a contribution of a step that is not STREAMED did not come within the step
timeout; its member is lost, cause 1, unless the timeout is consequential. -/
def execDataStepTimeout (stream rank t : Nat) (s : State) : Host.Outcome State Fault Refusal :=
  match spoke? s stream with
  | none => .next (closedTimeout s stream t)
  | some p =>
    let m := p.op.members.getD rank 0
    let tag := memberTag stream p.op m
    if p.op.streamed || p.op.stage < 2 then .next s
    else if consequential s tag m then .next (countConseq s t)
    else .next (loseMember (noteTimeout s tag) stream rank 1 t)

/-! ## Tree switches (R344–R347) -/

/-- The ranks of a module that is lost (R344). -/
def behind (o : CollOp) (f : Nat) : List Nat :=
  (List.range o.members.length).filter (fun r => o.members.getD r 0 == f)

/-- The ranks that reach the order root only through a module that is lost, its own among them (R347; log entry 9 for the
ranks below another module's hub). -/
def onlyThrough (o : CollOp) (f : Nat) : List Nat :=
  (List.range o.members.length).filter (fun r => o.members.getD r 0 == f ||
    bitAt (Config.ranksBelow o.tree f 0) r || bitAt (Config.ranksBelow o.tree f 1) r)

/-- Module `f` takes part in the edges that this module knows of a tree: it is the order root, a parent or a child. -/
def treeUses (s : State) (tree f : Nat) : Bool := (treeAt s tree).rootMod == f || (treePeers s tree).contains f

/-- The re-arm message of an operation that has moved to an alternate tree (R345): up the tree, or recorded at its order
root. -/
def reArm (s : State) (stream t : Nat) : State :=
  match spoke? s stream with
  | none => s
  | some q =>
    if isRoot s q.op.tree (stream / 16) then
      match q.op.rank with
      | some r => updOp s stream (fun o => { o with reArms := SMap.put o.reArms r o.written })
      | none => s
    else
      let tag := q.op.tag s stream
      sendUp s stream q.op tag (.reArm tag (q.op.rank.getD 255) q.op.written) t

/-- An operation of a module that is lost to it: a member that is down (`member`) is missing with cause 7, and the operation
moves to the tree that ALT names for the module (R344, R347). The device knows the edges of its own hubs alone; ALT tells
which other modules the tree needs (log entry 78). -/
def switchTree (s : State) (stream f : Nat) (member : Bool) (t : Nat) : State :=
  match spoke? s stream with
  | none => s
  | some p =>
    let o := p.op
    let gone := if member then behind o f else []
    let alt := (treeAt s o.tree).alt.getD f 255
    if alt = o.tree ∨ (alt = 255 ∧ treeUses s o.tree f = false) then
      gone.foldl (fun s r => loseMember s stream r 7 t) s
    else if alt = 255 then
      let s1 := raise s Reg.FAB_EVENT 3 .fabric true false t
      if (treeAt s o.tree).rootMod = f then finishItem s1 o.item [(.linkFault, 0)] none t
      else (onlyThrough o f).foldl (fun s r => loseMember (bump s Reg.FAB_UNREACH_COUNT) stream r 7 t) s1
    else
      let s1 := raise (bump s Reg.FAB_TREE_SWITCH_COUNT) Reg.FAB_EVENT 2 .fabric false false t
      let nd := (treeAt s alt).node (stream / 16)
      let s2 := updOp s1 stream (fun o => { o with
        tree := alt
        role := if o.role = 4 then 4 else if nd.role = 0 then 1 else nd.role
        foldR := nd.r
        switching := decide (2 ≤ o.stage)
        arms := if o.stage < 2 then [] else o.arms
        reArms := [] })
      let s3 := gone.foldl (fun s r => loseMember s stream r 7 t) s2
      if o.stage = 1 then beginArm s3 stream t
      else if o.stage ≥ 2 then reArm s3 stream t
      else s3

/-- WITHDRAW_NOTICE_RX (R232, R235): counted; the member is lost, cause 2. A node's withdrawal (rank 255) declares no member
missing: the operation moves to the alternate tree of the node's module. -/
def execWithdrawNoticeRx (stream rank src t : Nat) (s : State) : Host.Outcome State Fault Refusal :=
  let s1 := raise (bump s Reg.HUB_WITHDRAW_RX_COUNT) Reg.HUB_COLL_EVENT 3 .fabric false false t
  if rank < 32 then .next (sealWhenReady (loseMember s1 stream rank 2 t) stream t)
  else .next (switchTree s1 stream src false t)

/-- RE_ARM_RX (R345): a re-arm message reaches the order root of the alternate tree, or goes on up. -/
def execReArmRx (stream rank lowest t : Nat) (s : State) : Host.Outcome State Fault Refusal :=
  match spoke? s stream with
  | none => .next s
  | some p =>
    if isRoot s p.op.tree (stream / 16) then
      .next (if rank < 32 then setOp s stream p { p.op with reArms := SMap.put p.op.reArms rank lowest } else s)
    else .next (sendUp s stream p.op (p.op.tag s stream) (.reArm (p.op.tag s stream) rank lowest) t)

/-- The operation resumed from segment j0 with the bitmap of the re-seal (R346): slots, credits and written segments at or
above j0 are handled as if for the first time. The members that the bitmap leaves out were lost after the seal (R237). -/
def CollOp.resumeAt (o : CollOp) (j0 bitmap : Nat) : CollOp :=
  { o with
    stage := 3
    switching := false
    lost := o.without bitmap
    written := min o.written j0
    redo := o.written
    granted := o.granted.filter (fun g => decide (g.2 < j0))
    held := o.held.filter (fun g => decide (g.2 < j0))
    slots := o.slots.filter (fun e => decide (e.2.seg < j0)) }

/-! ## Outcomes (Table 9.9) -/

/-- The operations whose root or peer must be there. -/
def needsRoot (coll : Nat) : Bool := [1, 4, 5, 6, 8, 9, 10].contains coll

/-- Status, DETAIL and validity of a collective that reached its normal end (R237, Table 9.9). -/
def collOutcome (s : State) (o : CollOp) : (Status × Nat) × Bool :=
  let g := group s o.group
  let n := o.members.length
  let bm := o.bitmap
  let missing := (List.range n).any (fun r => !o.has r)
  let ownOut := match o.rank with
    | some r => !bitAt o.sealed r
    | none => false
  let rootOut := needsRoot o.coll && !o.has o.peer
  if ownOut then ((.memberFault, bm), false)
  else if !missing then ((.ok, bm), false)
  else if rootOut then ((.memberFault, bm), true)
  else if o.coll ≤ 2 then
    if o.lost ≠ 0 then ((.memberFault, bm), true)
    else if g.lenient then ((.ok, bm), false) else ((.memberFault, bm), true)
  else if g.lenient then ((.ok, bm), false) else ((.memberFault, bm), false)

/-- A late contribution discarded and counted (R234). -/
def lateContribution (s : State) (t : Nat) : State :=
  raise (bump s Reg.HUB_LATE_CONTRIB_COUNT) Reg.HUB_COLL_EVENT 2 .fabric false false t

/-! ## Sources and destinations -/

/-- Elements of `n` bytes read from bytes. -/
def elemsOf (n : Nat) : Nat → List Byte → List Nat
  | 0, _ => []
  | k + 1, bs => leAt bs 0 n :: elemsOf n k (bs.drop n)

/-- Bytes of the source of a member with this COUNT: the elements, and the mask for MSUM (R222). -/
def sourceBytes (o : CollOp) (count : Nat) : Nat :=
  let e := fmtBytes o.fmt
  if o.redFn = 6 then ceilDiv (count * e) 64 * 64 + ceilDiv count 8 else count * e

/-- A read of this member's source: core SRAM with SRC_CORE, module memory otherwise. -/
def readSource (s : State) (o : CollOp) (off n : Nat) : List Byte :=
  if bitAt o.cflags 3 then Mem.readN 0#8 s.mems.csram (o.tileFlag / 48 * 12582912 + o.src + off) n
  else memRead s (o.src + off) n

/-- Some byte of a span of this member's source is poisoned. -/
def sourcePoisoned (s : State) (o : CollOp) (off n : Nat) : Bool :=
  if bitAt o.cflags 3 then poisoned s.mems.poisonCsram 64 (o.tileFlag / 48 * 12582912 + o.src + off) n
  else memPoisoned s (o.src + off) n

/-- Tiles of a STREAMED source, or chunks of a STREAM. -/
def CollOp.tileCount (o : CollOp) : Nat := if o.tileLen = 0 then 0 else ceilDiv (o.count * fmtBytes o.fmt) o.tileLen

/-- The first `n` bytes of a STREAMED source lie in tiles whose flags have released (R215, R230). -/
def CollOp.released (o : CollOp) (n : Nat) : Bool := decide (n ≤ o.tiles * o.tileLen) || decide (o.tileCount ≤ o.tiles)

/-- The count header of DYN_COUNT that this member's destination begins with (R228). -/
def countHeader (o : CollOp) : List Byte :=
  (List.range 32).flatMap (fun r => leBytes 4 (if r < o.members.length then o.cntOf r else 0))

/-- The operation writes results on this member: every member of the seal, of a REDUCE or GATHER the root alone (Table
9.2, R117). -/
def CollOp.receives (o : CollOp) : Bool :=
  match o.rank with
  | some r => bitAt o.sealed r && !((o.coll == 1 || o.coll == 4) && r != o.peer) && o.coll != 8
  | none => false

/-- A write of a collective's result to module memory, checked by the Fence (R472): none where the window refuses it. -/
def writeResult (s : State) (stream part dst : Nat) (bs : List Byte) (t : Nat) : State × Bool :=
  if bs.isEmpty then (s, true)
  else if windowOk s part false true dst bs.length then
    (updOp (memWrite s dst bs) stream (fun o => { o with wrote := true }), true)
  else (fenceRefuse s .window part .pf0 dst t, false)

/-- DATA_PHASE_START (R258): at planned start + λ with the seal held, the data phase begins. The hub writes the count
header of an operation with DYN_COUNT (R228; log entry 78). -/
def execDataPhaseStart (stream t : Nat) (s : State) : Host.Outcome State Fault Refusal :=
  match spoke? s stream with
  | none => .next s
  | some p =>
    if p.op.stage = 2 ∧ p.op.switching = false then
      let o := { p.op with stage := 3 }
      let s1 := setOp s stream p o
      if o.dyn && o.receives then
        let r := writeResult s1 stream (item s o.item).part o.dst (countHeader o) t
        if r.2 then .next (setItem r.1 o.item { item r.1 o.item with wrote := true })
        else .next (finishItem r.1 o.item [(.windowViolation, 8)] none t)
      else .next s1
    else .next s

end Sys2Proof.Machine
end

