-- ==== Sys2Proof/Machine/Spoke.lean ====
section
/-! DEFINITION. Spokes: microwords, wait conditions, engine operations, restarts and the control stores (chapter 11),
and the segments and credits they move (R252–R257). -/

namespace Sys2Proof.Machine

/-! ## Microwords (R267) -/

/-- The fields of a microword (Table 11.2). -/
structure Micro where
  op : Nat
  cond : Nat
  clr : Bool
  commit : Bool
  carg : Nat
  dst : Nat
  srcA : Nat
  srcB : Nat
  isel : Bool
  br : Nat
  next : Nat
  zero : Nat
  imm : Nat
  deriving DecidableEq, Repr

/-- A word of the control store read as fields. -/
def microOf (w : Nat) : Micro :=
  { op := bits w 122 6, cond := bits w 117 5, clr := bitAt w 116, commit := bitAt w 115, carg := bits w 103 12,
    dst := bits w 99 4, srcA := bits w 95 4, srcB := bits w 91 4, isel := bitAt w 90, br := bits w 88 2,
    next := bits w 74 14, zero := bits w 64 10, imm := bits w 0 64 }

/-- An engine operation. -/
def Micro.engine (m : Micro) : Bool := decide (0x10 ≤ m.op) && decide (m.op ≤ 0x15)

/-- An effect word (R282). -/
def Micro.effect (m : Micro) : Bool := m.op == 0x14 || m.op == 0x15 || m.op == 0x20 || m.op == 0x21 || m.clr

/-- OP is one of Table 11.3. -/
def Micro.opKnown (m : Micro) : Bool :=
  decide (m.op ≤ 0x08) || m.engine || m.op == 0x20 || m.op == 0x21 || m.op == 0x30

/-- A slot specifier whose position is not reserved (Table 11.4); under G1COMPAT positions 2 and 3 are. -/
def slotOk (pair : Bool) (x : Nat) : Bool :=
  bitAt x 5 || decide (bits x 0 3 ≤ 1) || bits x 0 3 == 4 || (!pair && decide (bits x 0 3 ≤ 3))

/-- The slot positions, directions and immediate bits of the word are not reserved (R284, Table 11.3). -/
def Micro.immOk (pair : Bool) (m : Micro) : Bool :=
  match m.op with
  | 0x00 | 0x20 | 0x21 => m.imm == 0
  | 0x02 => decide (m.imm ≤ 0x0C)
  | 0x10 => decide (m.imm < 16) && (!pair || decide (m.imm < 4))
  | 0x11 => decide (m.imm < 64) && bitAt m.imm 5
  | 0x12 => decide (m.imm < 2 ^ 17) && bits m.imm 6 2 == 0 && bits m.imm 14 2 == 0 && slotOk pair (bits m.imm 0 6) &&
      slotOk pair (bits m.imm 8 6)
  | 0x13 => decide (m.imm < 2 ^ 9) && bits m.imm 6 2 == 0 && slotOk pair (bits m.imm 0 6)
  | 0x14 => decide (m.imm < 2 ^ 12) && bits m.imm 6 2 == 0 && slotOk pair (bits m.imm 0 6) &&
      decide (bits m.imm 8 4 ≤ 2)
  | 0x15 => decide (m.imm < 64) && slotOk pair m.imm
  | 0x30 => m.imm == 0 || (decide (0x80 ≤ m.imm) && decide (m.imm ≤ 0xFF))
  | _ => true

/-- The argument of the wait condition is not reserved (Table 11.5). -/
def Micro.condOk (pair : Bool) (m : Micro) : Bool :=
  match m.cond with
  | 0x00 | 0x03 | 0x04 | 0x09 | 0x01 => true
  | 0x02 => !pair
  | 0x05 | 0x06 | 0x07 => decide (m.carg < 64) && slotOk pair m.carg
  | 0x08 => decide (m.carg ≤ 2)
  | _ => false

/-- The word is legal where it stands (R284); `seen` says that the routine's first DATA_START wait has released or
releases with this word. -/
def Micro.legal (pair seen : Bool) (m : Micro) : Bool :=
  m.opKnown && m.immOk pair && m.condOk pair && m.zero == 0 && (!m.effect || m.commit) &&
    (!m.clr || m.cond == 1 || m.cond == 2) && (seen || m.cond == 4 || !(m.engine || m.op == 0x20 || m.op == 0x21))

/-! ## Slots and segments (R252, Table 11.4) -/

/-- The fold position of this member's own operand on the stream's hub: the position whose source is its own (Table
13.7), position 0 where it has none. -/
def ownPos (s : State) (o : CollOp) (stream : Nat) : Nat :=
  (((treeAt s o.tree).node (stream / 16)).pos.findIdx? (fun p => p.kind == 1)).getD 0

/-- The slot a specifier names for a segment, as half × 8 + position. -/
def slotKey (s : State) (o : CollOp) (stream spec seg : Nat) : Nat :=
  let half := if bitAt spec 4 then seg % 2 else bits spec 3 1
  half * 8 + (if bitAt spec 5 then ownPos s o stream else bits spec 0 3)

/-- Elements of one whole segment (R252). -/
def CollOp.per (o : CollOp) : Nat := o.sGran * 4096 / fmtBytes o.fmt

/-- First element of a segment and its length. -/
def CollOp.span (o : CollOp) (seg : Nat) : Nat × Nat := (seg * o.per, min o.per (o.most - seg * o.per))

/-- The operation is a reduction. -/
def CollOp.reduces (o : CollOp) : Bool := isReduction o.redFn

/-- What fills the slot of an operand that does not come: the identity of a reduction, poison otherwise (R238). -/
def CollOp.filler (o : CollOp) : Nat := if o.reduces then identity o.fmt o.redFn else 2 ^ (8 * fmtBytes o.fmt) - 1

/-- The child member whose operand a position holds is out of the sealed operation (R280). -/
def posLost (s : State) (o : CollOp) (stream key : Nat) : Bool :=
  match ((treeAt s o.tree).node (stream / 16)).pos[key % 8]? with
  | some p => p.kind == 2 && decide (2 ≤ o.stage) && (match o.members.findIdx? (· == p.mod) with
      | some r => !o.has r
      | none => false)
  | none => false

/-- What a slot holds for a segment: its elements once all of it is there; the filler for an operand that was lost
before all of it was there (R280). -/
def slotElems (s : State) (o : CollOp) (stream key seg : Nat) : Option SlotBuf :=
  match SMap.get? o.slots key with
  | some b =>
    if b.seg == seg && b.full then some b
    else if posLost s o stream key then
      some { seg := seg, full := true, out := false, elems := List.replicate (o.span seg).2 o.filler }
    else none
  | none =>
    if posLost s o stream key then
      some { seg := seg, full := true, out := false, elems := List.replicate (o.span seg).2 o.filler }
    else none

/-! ## Spoke conditions (Table 11.5) -/

/-- The flag a FLAG or TILE condition waits on. -/
def condFlag (p : Spoke) (m : Micro) : Option Nat :=
  if m.cond = 1 then some m.carg
  else if m.cond = 2 then some (p.op.tileFlag + p.gp.getD m.srcA 0 % max p.op.tileK 1)
  else none

/-- The key of a credit to send: 0 up, 16 + the rank to a peer (R253). -/
def creditKey (dir rank : Nat) : Nat := if dir = 0 then 0 else 16 + rank % 32

/-- A condition other than FLAG and TILE. -/
def condTrue (s : State) (i : Nat) (p : Spoke) (m : Micro) : Bool :=
  let seg := p.gp.getD m.srcA 0
  let key := slotKey s p.op i m.carg seg
  match m.cond with
  | 0x03 => decide (1 ≤ p.op.stage)
  | 0x04 => decide (3 ≤ p.op.stage)
  | 0x05 => (slotElems s p.op i key seg).isSome
  | 0x06 => !p.op.engine.any (fun e => e.op == 0x12 && e.slot == key)
  | 0x07 => !p.op.engine.any (fun e => (e.op == 0x14 || e.op == 0x15) && e.slot == key)
  | 0x08 => m.carg == 1 || p.op.held.contains (creditKey m.carg (p.gp.getD m.srcB 0), seg)
  | 0x09 => p.op.engine.isEmpty
  | _ => true

/-! ## Words (R268–R271) -/

/-- A context field (Table 11.6, R271). -/
def ctxField (s : State) (o : CollOp) (code : Nat) : Nat :=
  let sealedNow := decide (3 ≤ o.stage)
  match code with
  | 0x00 => if sealedNow then o.segs else 0
  | 0x01 => if sealedNow then o.sGran * 4096 else 0
  | 0x02 => o.rank.getD 0xFF
  | 0x03 => o.members.length
  | 0x04 => if sealedNow then o.memb else 0
  | 0x05 => if sealedNow then o.sealed else 0
  | 0x06 => o.role
  | 0x07 => o.foldR
  | 0x08 => if o.tileLen = 0 then 0 else ceilDiv (o.count * fmtBytes o.fmt) o.tileLen
  | 0x09 => o.tileLen
  | 0x0A => o.coll + (o.fmt * 16 + o.redFn) * 2 ^ 8 + o.cflags * 2 ^ 16
  | 0x0B => o.peer
  | 0x0C => s.clock.index % 2 ^ 32
  | _ => 0

/-- The value an OP writes to DST, where it writes one (R269). -/
def aluValue (s : State) (p : Spoke) (m : Micro) : Option Nat :=
  let a := p.gp.getD m.srcA 0
  let b := if m.isel then m.imm else p.gp.getD m.srcB 0
  match m.op with
  | 0x01 => some m.imm
  | 0x02 => some (ctxField s p.op (m.imm % 256))
  | 0x03 => some ((a + b) % 2 ^ 64)
  | 0x04 => some ((a + 2 ^ 64 - b) % 2 ^ 64)
  | 0x05 => some (a &&& b)
  | 0x06 => some (a ||| b)
  | 0x07 => some (a * 2 ^ (b % 64) % 2 ^ 64)
  | 0x08 => some (a / 2 ^ (b % 64))
  | _ => none

/-- The engine operation a word issues. -/
def engineOp (s : State) (i : Nat) (p : Spoke) (m : Micro) : EngOp :=
  let seg := p.gp.getD m.srcA 0
  let key := fun spec => slotKey s p.op i spec seg
  match m.op with
  | 0x10 => { op := 0x10, seg := seg, slot := 0, arg := m.imm, aux := 0 }
  | 0x12 => { op := 0x12, seg := seg, slot := key (bits m.imm 8 6), arg := key (bits m.imm 0 6), aux := bits m.imm 16 1 }
  | 0x13 => { op := 0x13, seg := seg, slot := key (bits m.imm 0 6), arg := bits m.imm 8 1, aux := 0 }
  | 0x14 => { op := 0x14, seg := seg, slot := key (bits m.imm 0 6), arg := bits m.imm 8 4, aux := p.gp.getD m.srcB 0 }
  | _ => { op := m.op, seg := seg, slot := key (bits m.imm 0 6), arg := 0, aux := p.gp.getD m.srcB 0 }

/-- The routine ends (R270): status 0 takes the collective's own outcome, a subcode stands unless the device decided
another status; the results of a subcode are invalid (Table 19.5). -/
def endRoutine (s : State) (p : Spoke) (status t : Nat) : State :=
  let oc := collOutcome s p.op
  let sub := decide (status ≠ 0) && oc.1.1 == .ok
  let c : Status × Nat := if sub then (.micro (status % 128), 0) else oc.1
  finishItem s p.op.item [c] (some ((sub || oc.2) && p.op.wrote)) t

/-- The tile whose flag a TILE word has waited for counts as released when it is the next one (R230). -/
def tileReleased (p : Spoke) (m : Micro) : Nat :=
  if m.cond = 2 ∧ p.gp.getD m.srcA 0 = p.op.tiles then p.op.tiles + 1 else p.op.tiles

/-- A word executes (R268, R278): its OP, its successor by BR, its commit. Its wait, if it made one, ends (R210). -/
def execWord (s : State) (i : Nat) (p : Spoke) (m : Micro) (t : Nat) : State :=
  let first := m.cond == 4 && !p.dataSeen
  let lock := first && bitAt p.entry 14 && !p.waitOnly
  let v := aluValue s p m
  let gp := match v with
    | some x => p.gp.set m.dst x
    | none => p.gp
  let tested := match v with
    | some x => x
    | none => p.gp.getD m.srcA 0
  let jump := m.br == 1 || (m.br == 2 && tested == 0) || (m.br == 3 && tested != 0)
  let nextPc := if jump then m.next else (p.pc + 1) % 2 ^ 14
  let op := { p.op with
    engine := if m.engine then p.op.engine ++ [engineOp s i p m] else p.op.engine
    tiles := tileReleased p m }
  let q : Spoke :=
    { p with
      pc := nextPc
      gp := gp
      op := op
      commit := if m.commit then some (nextPc, gp) else p.commit
      dataSeen := p.dataSeen || m.cond == 4
      timing := p.timing || lock
      claim := p.claim || lock
      waiting := false
      flagWait := none
      released := false
      taken := none }
  let s1 := setSpoke (endSpin s (64 + i) t) i q
  if m.op = 0x20 then doSet s1 (64 + i) m.carg t
  else if m.op = 0x21 then doClear s1 (64 + i) m.carg t
  else if m.op = 0x30 then endRoutine s1 q (m.imm % 256) t
  else s1

/-- A lock-step miss (R274): counted, the claim released, and the rest of the operation runs in wait mode. -/
def lockMiss (s : State) (i : Nat) (p : Spoke) (t : Nat) : Spoke × State :=
  if p.timing then
    ({ p with timing := false, claim := false, waitOnly := true },
      raise (bump s (Reg.SPK_LS_MISS_COUNT (i / 16) (i % 16))) (Reg.SPK_EVENT (i / 16)) 1 .fabric false false t)
  else (p, s)

/-- The spoke stalls at its word with its condition false (R272, R274), and waits from now on (R210); a FLAG or TILE
condition becomes a wait at the flag's home. -/
def stallWord (s : State) (i : Nat) (p : Spoke) (m : Micro) (t : Nat) : State :=
  let r := lockMiss s i p t
  let f := condFlag r.1 m
  let s1 := setSpoke r.2 i { r.1 with waiting := true, flagWait := f, released := false }
  match f with
  | some g => doWait s1 (64 + i) g m.clr t
  | none => setSync s1 { s1.sync with since := SMap.put s1.sync.since (64 + i) t }

/-- The condition of a word met for the first time: it executes at once when the condition holds, and stalls the spoke
otherwise. A FLAG or TILE wait is a WAIT at the flag's home, except in lock-step timing, where the flag is checked in
this cycle (R273). A flag that the word's WAIT_CLR took before a restart is not waited for again (R282). -/
def meetWord (s : State) (i : Nat) (p : Spoke) (m : Micro) (t : Nat) : State :=
  match condFlag p m with
  | some f =>
    if p.taken = some p.pc then execWord s i p m t
    else if p.timing && flagOn s f && flagCheck s (64 + i) f then
      execWord (if m.clr then applyClear s f else s) i p m t
    else stallWord s i p m t
  | none => if condTrue s i p m then execWord s i p m t else stallWord s i p m t

/-! ## The ALU (R257, R275, R276) -/

/-- Slots an engine operation touches. -/
def EngOp.slots (e : EngOp) : List Nat :=
  if e.op = 0x10 then [] else if e.op = 0x12 then [e.slot, e.arg] else [e.slot]

/-- An operation issued earlier and not finished touches one of its slots. -/
def engineBlocked (l : List EngOp) (e : EngOp) : Bool := l.any (fun x => x.slots.any (fun k => e.slots.contains k))

/-- A combine of a stream is ready: its operand is there, nothing issued before it touches its slots, and no claim of
equal or higher priority keeps it off the ALU. -/
def combReady (s : State) (i : Nat) : Bool :=
  match spoke? s i with
  | none => false
  | some p =>
    claimFree s i (i / 16) 16 && p.op.engine.zipIdx.any (fun e =>
      e.1.op == 0x12 && !engineBlocked (p.op.engine.take e.2) e.1 && (slotElems s p.op i e.1.arg e.1.seg).isSome)

/-- The stream whose combine a hub's ALU serves: of those ready with the highest PRIO, the one in service, and otherwise the
next in ascending stream number after the one served last (R257). -/
def aluPick (s : State) (h : Nat) : Option Nat :=
  let ready := ((List.range 16).map (16 * h + ·)).filter (combReady s)
  let top := maxNat (ready.map (streamPrio s))
  let best := ready.filter (fun i => streamPrio s i == top)
  match SMap.get? s.hubs.alu h with
  | none => best.head?
  | some (c, on) =>
    if on && best.contains c then some c
    else match best.find? (fun i => decide (c < i)) with
      | some i => some i
      | none => best.head?

/-- The ALU of a hub takes up its next combine; the claimants of lower priority are preempted (R276). -/
def aluStart (s : State) (h : Nat) : State :=
  match aluPick s h with
  | some i =>
    preempt { s with hubs := { s.hubs with alu := SMap.put s.hubs.alu h (i, true) } } i h 16
  | none => s

/-- A combine that has just been issued may be the next that the ALU takes up (R257). -/
def startComb (s : State) (i : Nat) (m : Micro) : State := if m.op = 0x12 then aluStart s (i / 16) else s

/-! ## Fetching (R284–R290) -/

/-- The word address lies in the ROUTINES allocation of its hub. -/
def inRoutines (s : State) (h pc : Nat) : Bool := (allocOf s (6 + h) pc).isSome

/-- A block of a control store is BAD. -/
def blockBad (s : State) (h blk : Nat) : Bool := wbit (rd s (Reg.SPK_CS_BAD h (blk / 32))) (blk % 32)

/-- An illegal word ends the routine (R285). -/
def illegalWord (s : State) (i : Nat) (p : Spoke) (t : Nat) : State :=
  let h := i / 16
  let s1 := bump s (Reg.SPK_ILLEGAL_COUNT h)
  let s2 := if wbit (rd s (Reg.SPK_ILLEGAL_LOG h)) 31 then s1
    else wr s1 (Reg.SPK_ILLEGAL_LOG h) (BitVec.ofNat 32 (p.pc + i % 32 * 2 ^ 14 + 2 ^ 31))
  finishItem (raise s2 (Reg.SPK_EVENT h) 6 .check false false t) p.op.item [(.descInvalid, 8)] none t

/-- An uncorrectable error at fetch (R287): the spoke stalls and the word's block is reloaded. -/
def fetchUe (s : State) (i : Nat) (p : Spoke) (t : Nat) : State :=
  let h := i / 16
  let key := h * 256 + p.pc / 64
  let s1 := raise (bump s (Reg.SPK_CS_UE_COUNT h)) (Reg.SPK_EVENT h) 3 .check false false t
  let s2 := if (SMap.get? s1.hubs.store.reloading key).isSome then s1
    else { s1 with hubs := { s1.hubs with store := { s1.hubs.store with
      reloading := SMap.put s1.hubs.store.reloading key 0 } } }
  setSpoke s2 i { p with stall := some (key, true) }

/-- The word at a spoke's address is fetched and met (R268, R284–R290): `op` is the operation of the command, and `ecc`
what the check bits found (1 a correctable error, 2 an uncorrectable one). A legal word with another OP is not this
command's word. -/
def doMicro (s : State) (i op ecc t : Nat) : State :=
  match spoke? s i with
  | none => s
  | some p =>
    let h := i / 16
    let blk := p.pc / 64
    let m := microOf (SMap.get s.hubs.store.words 0 (h * 16384 + p.pc))
    if p.restarting || p.waiting || p.stall.isSome then s
    else if !inRoutines s h p.pc then illegalWord s i p t
    else if blockBad s h blk then finishItem s p.op.item [(.poisoned, 0x15)] none t
    else if (SMap.get? s.hubs.store.reloading (h * 256 + blk)).isSome then
      let r := lockMiss s i p t
      setSpoke r.2 i { r.1 with stall := some (h * 256 + blk, false) }
    else if ecc = 2 then fetchUe s i p t
    else
      let s1 := if ecc = 1 then raise (bump s (Reg.SPK_CS_CE_COUNT h)) (Reg.SPK_EVENT h) 2 .check false false t else s
      if ecc = 1 ∧ p.timing = true then restartSpoke s1 i 4 t
      else if !m.legal (g1 s) p.dataSeen then illegalWord s1 i p t
      else if m.op ≠ op then s1
      else startComb (meetWord s1 i p m t) i m

/-- MICRO_NOP. -/
def execMicroNop (i ecc t : Nat) (s : State) : Host.Outcome State Fault Refusal := .next (doMicro s i 0x00 ecc t)
/-- MICRO_LDI. -/
def execMicroLdi (i ecc t : Nat) (s : State) : Host.Outcome State Fault Refusal := .next (doMicro s i 0x01 ecc t)
/-- MICRO_LDCTX (R271). -/
def execMicroLdctx (i ecc t : Nat) (s : State) : Host.Outcome State Fault Refusal := .next (doMicro s i 0x02 ecc t)
/-- MICRO_ADD (R269). -/
def execMicroAdd (i ecc t : Nat) (s : State) : Host.Outcome State Fault Refusal := .next (doMicro s i 0x03 ecc t)
/-- MICRO_SUB (R269). -/
def execMicroSub (i ecc t : Nat) (s : State) : Host.Outcome State Fault Refusal := .next (doMicro s i 0x04 ecc t)
/-- MICRO_AND (R269). -/
def execMicroAnd (i ecc t : Nat) (s : State) : Host.Outcome State Fault Refusal := .next (doMicro s i 0x05 ecc t)
/-- MICRO_OR (R269). -/
def execMicroOr (i ecc t : Nat) (s : State) : Host.Outcome State Fault Refusal := .next (doMicro s i 0x06 ecc t)
/-- MICRO_SHL (R269). -/
def execMicroShl (i ecc t : Nat) (s : State) : Host.Outcome State Fault Refusal := .next (doMicro s i 0x07 ecc t)
/-- MICRO_SHR (R269). -/
def execMicroShr (i ecc t : Nat) (s : State) : Host.Outcome State Fault Refusal := .next (doMicro s i 0x08 ecc t)
/-- MICRO_GRANT (R253). -/
def execMicroGrant (i ecc t : Nat) (s : State) : Host.Outcome State Fault Refusal := .next (doMicro s i 0x10 ecc t)
/-- MICRO_READ (R215, R230). -/
def execMicroRead (i ecc t : Nat) (s : State) : Host.Outcome State Fault Refusal := .next (doMicro s i 0x11 ecc t)
/-- MICRO_COMB (R223, R224). -/
def execMicroComb (i ecc t : Nat) (s : State) : Host.Outcome State Fault Refusal := .next (doMicro s i 0x12 ecc t)
/-- MICRO_FILL (R238, R280). -/
def execMicroFill (i ecc t : Nat) (s : State) : Host.Outcome State Fault Refusal := .next (doMicro s i 0x13 ecc t)
/-- MICRO_SEND (R282). -/
def execMicroSend (i ecc t : Nat) (s : State) : Host.Outcome State Fault Refusal := .next (doMicro s i 0x14 ecc t)
/-- MICRO_WRITE (R282). -/
def execMicroWrite (i ecc t : Nat) (s : State) : Host.Outcome State Fault Refusal := .next (doMicro s i 0x15 ecc t)
/-- MICRO_SETF (R205, R282). -/
def execMicroSetf (i ecc t : Nat) (s : State) : Host.Outcome State Fault Refusal := .next (doMicro s i 0x20 ecc t)
/-- MICRO_CLRF (R205, R282). -/
def execMicroClrf (i ecc t : Nat) (s : State) : Host.Outcome State Fault Refusal := .next (doMicro s i 0x21 ecc t)
/-- MICRO_END (R270). -/
def execMicroEnd (i ecc t : Nat) (s : State) : Host.Outcome State Fault Refusal := .next (doMicro s i 0x30 ecc t)

/-- WAIT_CONDITION_TRUE (R272, R273): a stalled spoke whose condition is now true executes its word; a flag wait is true
when its release has arrived. -/
def execWaitConditionTrue (i t : Nat) (s : State) : Host.Outcome State Fault Refusal :=
  match spoke? s i with
  | none => .next s
  | some p =>
    let m := microOf (SMap.get s.hubs.store.words 0 (i / 16 * 16384 + p.pc))
    if !p.waiting || p.restarting || p.stall.isSome then .next s
    else if p.flagWait.isSome then (if p.released then .next (startComb (execWord s i p m t) i m) else .next s)
    else if condTrue s i p m then .next (startComb (execWord s i p m t) i m)
    else .next s

/-- SPOKE_RESTART (R279): six cycles after the cause, the routine resumes at its last commit with the snapshot, or at
its entry with every register 0. -/
def execSpokeRestart (i : Nat) (s : State) : Host.Outcome State Fault Refusal :=
  match spoke? s i with
  | none => .next s
  | some p =>
    if !p.restarting then .next s
    else
      match p.commit with
      | some (pc, gp) => .next (setSpoke s i { p with restarting := false, pc := pc, gp := gp })
      | none => .next (setSpoke s i { p with restarting := false, pc := bits p.entry 0 14, gp := List.replicate 16 0 })

/-! ## Reloads of the control store (R287–R290) -/

/-- The loaded words of a block: first word address and count. -/
def blockWords (s : State) (h blk : Nat) : Nat × Nat :=
  let b := SMap.get s.hubs.store.base 0 h
  let e := b + SMap.get s.hubs.store.wordsN 0 h
  let lo := max b (64 * blk)
  (lo, min e (64 * blk + 64) - lo)

/-- The data bytes of a block as flash holds them. -/
def blockFlash (s : State) (h blk : Nat) : List Byte :=
  let w := blockWords s h blk
  Mem.readN 0xFF#8 s.mems.flash
    (SMap.get s.hubs.store.flashAt 0 h + 16 * (w.1 - SMap.get s.hubs.store.base 0 h)) (16 * w.2)

/-- Words `n` from address `a` of hub `h` rewritten from bytes. -/
def putWords (m : SMap Nat) (h a : Nat) (bs : List Byte) : Nat → SMap Nat
  | 0 => m
  | n + 1 => putWords (SMap.put m (h * 16384 + a) (leAt bs 0 16)) h (a + 1) (bs.drop 16) n

/-- Spokes stalled on a block resume: those that met its error restart with cause 5, the others fetch again; on a BAD
block their routines end. -/
def wakeStalled (s : State) (key : Nat) (bad : Bool) (t : Nat) : State :=
  (SMap.keysWhere (fun _ (p : Spoke) => match p.stall with
    | some (k, _) => k == key
    | none => false) s.hubs.spokes).foldl (fun s i =>
      match spoke? s i with
      | none => s
      | some p =>
        let own := match p.stall with
          | some (_, b) => b
          | none => false
        let s1 := setSpoke s i { p with stall := none }
        if bad then finishItem s1 p.op.item [(.poisoned, 0x15)] none t
        else if own then restartSpoke s1 i 5 t
        else s1) s

/-- CS_BLOCK_RELOAD_COMPLETE (R288, R290): a reload whose flash read succeeds and whose CRC matches the block table
rewrites the block; it is retried once, and a second failure marks the block BAD. -/
def execCsBlockReloadComplete (h blk : Nat) (flashOk : Bool) (t : Nat) (s : State) :
    Host.Outcome State Fault Refusal :=
  let key := h * 256 + blk
  match SMap.get? s.hubs.store.reloading key with
  | none => .next s
  | some n =>
    let bs := blockFlash s h blk
    let w := blockWords s h blk
    if flashOk && (SMap.get? s.hubs.store.crcs key).getD (crc32c []) == crc32c bs then
      let s1 := { s with hubs := { s.hubs with store := { s.hubs.store with
        words := putWords s.hubs.store.words h w.1 bs w.2
        reloading := SMap.del s.hubs.store.reloading key } } }
      let s2 := raise (bump s1 (Reg.SPK_RELOAD_COUNT h)) (Reg.SPK_EVENT h) 4 .check false false t
      .next (wakeStalled s2 key false t)
    else if n = 0 then
      .next { s with hubs := { s.hubs with store := { s.hubs.store with
        reloading := SMap.put s.hubs.store.reloading key 1 } } }
    else
      let s1 := { s with hubs := { s.hubs with store := { s.hubs.store with
        reloading := SMap.del s.hubs.store.reloading key } } }
      let r := Reg.SPK_CS_BAD h (blk / 32)
      let s2 := wr s1 r (setBitW (rd s1 r) (blk % 32))
      .next (wakeStalled (raise s2 (Reg.SPK_EVENT h) 5 .check true false t) key true t)

/-! ## Engine operations (R253, R254, Table 11.3) -/

/-- A slot replaced. -/
def putSlot (s : State) (stream key : Nat) (b : SlotBuf) : State :=
  updOp s stream (fun o => { o with slots := SMap.put o.slots key b })

/-- The engine operation `k` of a stream taken out of the engines. -/
def dropEngine (s : State) (stream k : Nat) : State :=
  updOp s stream (fun o => { o with engine := o.engine.eraseIdx k })

/-- Segment `j` of position `q` is still open (R253): credit was granted for it, and neither a combine nor a send or write
has taken its operand yet. -/
def openAt (s : State) (o : CollOp) (stream q j : Nat) : Bool :=
  let key := j % 2 * 8 + q
  o.granted.contains (q, j) && !posLost s o stream key && (match SMap.get? o.slots key with
    | some b => !((b.seg == j && b.combined) || decide (j < b.seg))
    | none => true)

/-- An uncorrectable hub SRAM error ends the stream's collective (R263). -/
def hubSramUe (s : State) (item t : Nat) : State := finishItem s item [(.poisoned, 5)] none t

/-- The byte offset of the part for rank `r` in the source of a SCATTER root or of an ALL_TO_ALL (R228); of rank n, the
length of the source. -/
def partOffset (o : CollOp) (r : Nat) : Nat :=
  let e := fmtBytes o.fmt
  if o.matrix then 128 + e * sumNat ((List.range r).map o.cntTo) else r * o.count * e

/-- The operation's source holds one part for each rank: a SCATTER root's slots, an ALL_TO_ALL's blocks. -/
def CollOp.parted (o : CollOp) : Bool := o.coll == 7 || (o.coll == 5 && o.rank == some o.peer)

/-- Bytes of this member's source: those of tiles that a whole run has read, and otherwise from memory. -/
def ownRaw (s : State) (o : CollOp) (off n : Nat) : List Byte :=
  if off + n ≤ o.ownRead.length then slice o.ownRead off n
  else if off < o.ownRead.length then
    slice o.ownRead off (o.ownRead.length - off) ++ readSource s o o.ownRead.length (off + n - o.ownRead.length)
  else readSource s o off n

/-- The elements of a segment of this member's source (R215, R222, R228, R230, R252): of a parted source the segment of
every part in turn, each filled up to the segment's length. -/
def ownElems (s : State) (o : CollOp) (seg : Nat) : List Nat :=
  let sp := o.span seg
  let e := fmtBytes o.fmt
  if o.rank.isNone then (if o.reduces then List.replicate sp.2 o.filler else [])
  else if o.parted then
    (List.range o.members.length).flatMap (fun k =>
      let n := min sp.2 (o.cntTo k - sp.1)
      elemsOf e n (readSource s o (partOffset o k + sp.1 * e) (n * e)) ++ List.replicate (sp.2 - n) o.filler)
  else
    let n := min sp.2 (o.cntTo o.peer - sp.1)
    let raw := elemsOf e n (ownRaw s o (sp.1 * e) (n * e))
    if o.reduces then
      let maskOff := ceilDiv (o.count * e) 64 * 64
      (List.range sp.2).map (fun k =>
        if k ≥ n then o.filler
        else if o.redFn = 6 ∧ bitAt (leAt (readSource s o (maskOff + (sp.1 + k) / 8) 1) 0 1) ((sp.1 + k) % 8) = false then
          o.filler
        else toAcc o.fmt (raw.getD k 0))
    else raw

/-- The bytes of this member's source that a READ of a segment needs: of each part or of the whole, offset and length. -/
def ownSpans (o : CollOp) (seg : Nat) : List (Nat × Nat) :=
  let sp := o.span seg
  let e := fmtBytes o.fmt
  if o.rank.isNone then []
  else if o.parted then
    (List.range o.members.length).map (fun k => (partOffset o k + sp.1 * e, min sp.2 (o.cntTo k - sp.1) * e))
  else [(sp.1 * e, min sp.2 (o.cntTo o.peer - sp.1) * e)]

/-- The ranks whose parts a slot of a SCATTER or an ALL_TO_ALL holds: every rank's, or those below this hub. -/
def slotRanks (s : State) (stream seg : Nat) (o : CollOp) (b : SlotBuf) : List Nat :=
  if b.elems.length = o.members.length * (o.span seg).2 then List.range o.members.length
  else indicesWhere 32 (bitAt (Config.ranksBelow o.tree (modId s) (stream / 16)))

/-- The part of a slot for some ranks, in the order of the slot: the whole slot of an operation whose slots have no parts
or that holds one alone. -/
def slotParts (s : State) (stream seg : Nat) (o : CollOp) (b : SlotBuf) (ranks : List Nat) : SlotBuf :=
  let n := (o.span seg).2
  if (o.coll = 5 ∨ o.coll = 7) ∧ n < b.elems.length then
    { b with elems := (slotRanks s stream seg o b).zipIdx.flatMap (fun e =>
        if ranks.contains e.1 then
          (b.elems.drop (e.2 * n)).take (if o.coll = 7 then min n (o.cntTo e.1 - (o.span seg).1) else n)
        else []) }
  else b

/-- The bytes a slot sends upward: input bytes from a member that only sends (the accumulators convert back exactly),
accumulators above the first combine (Table 10.4), and input bytes of data movement. -/
def upBytes (o : CollOp) (b : SlotBuf) : List Byte :=
  if !o.reduces then b.elems.flatMap (leBytes (fmtBytes o.fmt))
  else if o.role = 1 then b.elems.flatMap (fun v => leBytes (fmtBytes o.fmt) (fromAcc o.fmt false v))
  else b.elems.flatMap (leBytes (accBits o.fmt / 8))

/-- The bytes a slot sends downward or writes: the result in the output format (R221), or the data moved. -/
def downBytes (o : CollOp) (b : SlotBuf) : List Byte :=
  let w := outBytes o.fmt (bitAt o.cflags 0)
  if !o.reduces then b.elems.flatMap (leBytes (fmtBytes o.fmt))
  else b.elems.flatMap (fun v => leBytes w (if b.out then v else fromAcc o.fmt (bitAt o.cflags 0) v))

/-- A segment's bytes sent to a hub of a module in packets of at most 4,064 data bytes (Table 12.3). -/
def sendSegment (s : State) (stream : Nat) (dst : Nat × Nat) (seg : Nat) (o : CollOp) (inAcc : Bool) (bs : List Byte)
    (t : Nat) : State :=
  let tag := o.tag s stream
  (List.range (max (ceilDiv bs.length 4064) 1)).foldl (fun s k =>
    sendColl s stream o 1 dst tag (k * 4064) (.segment tag seg inAcc o.memb) ((bs.drop (k * 4064)).take 4064) t) s

/-- The hubs a SEND goes to. -/
def sendTargets (s : State) (stream : Nat) (o : CollOp) (e : EngOp) : List (Nat × Nat) :=
  if e.arg = 0 then (opParent s o stream).toList
  else if e.arg = 1 then opChildren s o stream
  else (o.members[e.aux % 32]?).toList.map (fun m => (m, stream / 16))

/-- What a SEND of a slot carries to a hub: a part of a SCATTER or ALL_TO_ALL, input bytes or accumulators going up, output
bytes going down. -/
def sendBytes (s : State) (stream : Nat) (o : CollOp) (e : EngOp) (b : SlotBuf) (d : Nat × Nat) : List Byte :=
  let part := if e.arg = 2 then slotParts s stream e.seg o b [e.aux % 32]
    else if e.arg = 1 then slotParts s stream e.seg o b (indicesWhere 32 (bitAt (Config.ranksBelow o.tree d.1 d.2)))
    else b
  if e.arg = 0 then upBytes o part else downBytes o part

/-- Where a WRITE of a segment goes: its byte offset in the destination. -/
def writeOffset (o : CollOp) (seg rank : Nat) : Nat :=
  let sp := o.span seg
  let e := fmtBytes o.fmt
  let dyn := bitAt o.cflags 1
  if o.coll = 3 ∨ o.coll = 4 ∨ o.coll = 7 then
    (if dyn then 128 + e * sumNat ((List.range rank).map o.cntOf) else rank * o.count * e) + sp.1 * e
  else if o.coll = 2 then
    sp.1 * outBytes o.fmt (bitAt o.cflags 0) -
      o.rank.getD 0 * ceilDiv o.count (max o.members.length 1) * outBytes o.fmt (bitAt o.cflags 0)
  else (if dyn then 128 else 0) + sp.1 * (if o.reduces then outBytes o.fmt (bitAt o.cflags 0) else e)

/-- The bytes of a segment that a WRITE puts: of a REDUCE_SCATTER only this rank's share (R214), of a slot with parts this
rank's part. -/
def writeBytes (s : State) (stream : Nat) (o : CollOp) (seg : Nat) (b : SlotBuf) : List Byte :=
  let bs := downBytes o (slotParts s stream seg o b o.rank.toList)
  if o.coll = 2 then
    let w := outBytes o.fmt (bitAt o.cflags 0)
    let sh := ceilDiv o.count (max o.members.length 1) * w
    let lo := o.rank.getD 0 * sh
    let at_ := (o.span seg).1 * w
    (bs.drop (lo - at_)).take (lo + sh - max lo at_)
  else bs

/-! ## Engine operations at their end -/

/-- The operand of a slot has been taken by a combine, a send or a write. -/
def takeSlot (s : State) (stream key : Nat) (b : SlotBuf) : State := putSlot s stream key { b with combined := true }

/-- An engine operation of a stream finishes (R224, R253, R254). It stays in the engines while an operand, a tile, a credit,
an open segment, an earlier operation, the ALU or a claimed resource is awaited. -/
def completeEngine (s : State) (stream k : Nat) (p : Spoke) (e : EngOp) (t : Nat) : State :=
  let o := p.op
  let it := item s o.item
  let done := dropEngine s stream k
  match e.op with
  | 0x10 =>
    let own := ownPos s o stream
    if o.segs ≤ e.seg then done
    else if (indicesWhere 4 (bitAt e.arg)).any (fun q => (List.range (e.seg - 1)).any (openAt s o stream q)) then s
    else
      (indicesWhere 4 (bitAt e.arg)).foldl (fun s q =>
        match ((treeAt s o.tree).node (stream / 16)).pos[q]? with
        | some ps =>
          if q == own && ps.kind == 1 || ps.kind != 2 || o.granted.contains (q, e.seg) then s
          else
            let s1 := updOp s stream (fun o => { o with granted := (q, e.seg) :: o.granted })
            sendColl s1 stream o 2 (ps.mod, ps.hub) (o.tag s stream) 0 (.credit (o.tag s stream) e.seg) [] t
        | none => s) done
  | 0x11 =>
    let spans := (ownSpans o e.seg).filter (fun x => x.2 != 0)
    if o.streamed && !spans.all (fun x => o.released (x.1 + x.2)) then s
    else match spans.find? (fun x => !bitAt o.cflags 3 && !windowOk s it.part false false (o.src + x.1) x.2) with
    | some x =>
      finishItem (fenceRefuse s .window it.part .pf0 (o.src + x.1) t) o.item [(.windowViolation, 0)] none t
    | none =>
      if spans.any (fun x => sourcePoisoned s o x.1 x.2) then finishItem s o.item [(.poisoned, 5)] none t
      else
        notePeak (putSlot done stream e.slot { seg := e.seg, full := true, out := false, elems := ownElems s o e.seg })
          stream
  | 0x12 =>
    match slotElems s o stream e.arg e.seg with
    | none => s
    | some b =>
      if aluPick s (stream / 16) ≠ some stream then s
      else
        let acc := match SMap.get? o.slots e.slot with
          | some a => a.elems
          | none => []
        let v := if e.aux = 1 ∨ o.reduces = false then b.elems
          else (List.range (o.span e.seg).2).map (fun i =>
            combine o.fmt o.redFn (acc.getD i o.filler) (b.elems.getD i o.filler))
        let s1 := putSlot (takeSlot done stream e.arg b) stream e.slot { seg := e.seg, full := true, out := b.out, elems := v }
        { s1 with hubs := { s1.hubs with alu := SMap.put s1.hubs.alu (stream / 16) (stream, false) } }
  | 0x13 =>
    let v := if e.arg = 1 then 2 ^ (8 * fmtBytes o.fmt) - 1 else identity o.fmt o.redFn
    putSlot done stream e.slot
      { seg := e.seg, full := true, out := false, elems := List.replicate (o.span e.seg).2 v }
  | 0x14 =>
    match slotElems s o stream e.slot e.seg with
    | none => s
    | some b =>
      let dsts := sendTargets s stream o e
      if e.arg ≠ 1 ∧ o.held.contains (creditKey e.arg e.aux, e.seg) = false then s
      else if dsts.any (fun d => d.1 == modId s && d.2 != stream / 16) && !claimFree s stream (stream / 16) 17 then s
      else
        let s1 := updOp (takeSlot done stream e.slot b) stream (fun o => { o with
          held := o.held.filter (· != (creditKey e.arg e.aux, e.seg))
          sent := if e.arg = 0 ∧ o.role = 1 then e.seg :: o.sent.filter (· != e.seg) else o.sent })
        dsts.foldl (fun s d => sendSegment s stream d e.seg o (e.arg == 0 && o.reduces && o.role != 1)
          (sendBytes s stream o e b d) t) s1
  | _ =>
    match slotElems s o stream e.slot e.seg with
    | none => s
    | some b =>
      if !o.receives then done
      else
        let bs := writeBytes s stream o e.seg b
        let r := writeResult (takeSlot done stream e.slot b) stream it.part (o.dst + writeOffset o e.seg (e.aux % 32)) bs t
        if r.2 then
          let s1 := setItem r.1 o.item { item r.1 o.item with wrote := (item r.1 o.item).wrote || !bs.isEmpty }
          updOp s1 stream (fun o => { o with written := if o.written = e.seg then e.seg + 1 else o.written })
        else finishItem r.1 o.item [(.windowViolation, 8)] none t

/-- ENGINE_OP_COMPLETE (R254): the `k`-th outstanding engine operation of a stream finishes, and the ALU takes up its next
combine. -/
def execEngineOpComplete (stream k t : Nat) (s : State) : Host.Outcome State Fault Refusal :=
  match spoke? s stream with
  | none => .next s
  | some p =>
    match p.op.engine[k]? with
    | none => .next s
    | some e =>
      if engineBlocked (p.op.engine.take k) e then .next s
      else .next (aluStart (completeEngine s stream k p e t) (stream / 16))

/-! ## Segments and credits (R234, R253) -/

/-- The elements of a received segment: accumulators or input elements going up, output elements coming down. -/
def rxElems (o : CollOp) (pos seg : Nat) (inAcc : Bool) (data : List Byte) : List Nat :=
  if !o.reduces then elemsOf (fmtBytes o.fmt) (data.length / fmtBytes o.fmt) data
  else if pos = 4 then
    let w := outBytes o.fmt (bitAt o.cflags 0)
    elemsOf w (data.length / w) data
  else
    let w := if inAcc then accBits o.fmt / 8 else fmtBytes o.fmt
    let got := elemsOf w (data.length / w) data
    (List.range (o.span seg).2).map (fun k => match got[k]? with
      | some v => if inAcc then v else toAcc o.fmt v
      | none => o.filler)

/-- Every segment of rank `r`'s block has arrived (R236). -/
def CollOp.blockHere (o : CollOp) (r : Nat) : Bool :=
  (List.range (ceilDiv (o.cntOf r) (max o.per 1))).all (fun j => o.got.contains (r, j))

/-- Segment `seg` of rank `r`'s block noted, and the rank's bit when its block is whole (R236). -/
def CollOp.noteBlock (o : CollOp) (r seg : Nat) : CollOp :=
  let o1 := { o with got := (r, seg) :: o.got }
  if o1.blockHere r then { o1 with blocks := o1.blocks ||| 2 ^ r } else o1

/-- A result segment that this member had written before a tree switch is written again as it arrives (R346). -/
def writeAgain (s : State) (stream pos seg : Nat) (t : Nat) : State :=
  match spoke? s stream with
  | none => s
  | some p =>
    let o := p.op
    if pos = 4 ∧ o.written ≤ seg ∧ seg < o.redo ∧ o.receives = true then
      match slotElems s o stream (seg % 2 * 8 + 4) seg with
      | none => s
      | some b =>
        let r := writeResult s stream (item s o.item).part (o.dst + writeOffset o seg 0) (writeBytes s stream o seg b) t
        if r.2 then updOp r.1 stream (fun o => { o with written := if o.written = seg then seg + 1 else o.written })
        else finishItem r.1 o.item [(.windowViolation, 8)] none t
    else s

/-- SEGMENT_RX (R224, R234, R253): segment `seg` for a fold position (4: a result that comes down) from module `src`.
It is held in its slot; without a credit it is discarded and counted; after its member was declared missing, or with no
operation in progress, it is late. `result` is the bitmap that a result carries (R236). -/
def execSegmentRx (stream pos src seg : Nat) (inAcc : Bool) (data : List Byte) (result : Option Nat) (t : Nat)
    (s : State) : Host.Outcome State Fault Refusal :=
  let h := stream / 16
  match spoke? s stream with
  | none => .next (lateContribution s t)
  | some p =>
    let o := p.op
    let rank := o.members.findIdx? (· == src)
    let gone := match rank with
      | some r => decide (2 ≤ o.stage) && !o.has r
      | none => false
    if gone && pos != 4 then .next (lateContribution s t)
    else if pos < 4 ∧ o.granted.contains (pos, seg) = false then
      .next (raise (bump s (Reg.HUB_CREDIT_VIOL_COUNT h)) (Reg.HUB_EVENT h) 2 .fabric false false t)
    else
      let o1 := { o with
        slots := SMap.put o.slots (seg % 2 * 8 + pos % 8)
          { seg := seg, full := true, out := pos == 4, elems := rxElems o pos seg inAcc data }
        lost := match result with
          | some bm => o.without bm
          | none => o.lost }
      let o2 := match rank with
        | some r => o1.noteBlock r seg
        | none => o1
      .next (aluStart (writeAgain (notePeak (setOp s stream p o2) stream) stream pos seg t) h)

/-- SEGMENT_CREDIT_RX (R253): the credit of a hub for a segment: the parent's (direction 0), or that of the module of rank
`peer` (direction 2). -/
def execSegmentCreditRx (stream dir peer seg : Nat) (s : State) : Host.Outcome State Fault Refusal :=
  let key := creditKey dir peer
  .next (updOp s stream (fun o => { o with held := if o.held.contains (key, seg) then o.held else (key, seg) :: o.held }))

/-! ## Resuming after a tree switch (R345, R346) -/

/-- The segments of its own source at or above j0 that this member had sent up, sent again on the new tree (R346). -/
def resendUp (s : State) (stream j0 t : Nat) : State :=
  match spoke? s stream with
  | none => s
  | some p =>
    match opParent s p.op stream with
    | none => s
    | some d => (sortBy (fun a b => decide (a ≤ b)) (p.op.sent.filter (fun j => decide (j0 ≤ j)))).foldl (fun s j =>
        sendSegment s stream d j p.op false
          (upBytes p.op { seg := j, full := true, out := false, elems := ownElems s p.op j }) t) s

/-- TREE_RESUME (R345, R346): 0.5 µs after the last re-arm the data phase resumes from the smallest lowest unwritten
segment; the order root's re-seal goes down, and spokes restart with cause 2, or with cause 1 where a member is found
missing in the same cycle (chapter 11, Edge cases). -/
def execTreeResume (stream j0 t : Nat) (s : State) : Host.Outcome State Fault Refusal :=
  match spoke? s stream with
  | none => .next s
  | some p =>
    let o := p.op
    if !o.switching then .next s
    else if isRoot s o.tree (stream / 16) then
      let missing := (List.range o.members.length).filter (fun r => o.has r && (SMap.get? o.reArms r).isNone)
      let s1 := missing.foldl (fun s r => dropMember s stream r 0 t) s
      let bm := sumNat ((indicesWhere 32 (fun r => o.has r && !missing.contains r)).map (2 ^ ·))
      let lows := o.reArms.map (·.2)
      let j := lows.foldl min (lows.headD 0)
      let s2 := sendDown s1 stream o (.reSeal (o.tag s stream) bm j) t
      .next (restartSpoke (updOp s2 stream (fun o => o.resumeAt j bm)) stream (if missing.isEmpty then 2 else 1) t)
    else .next (restartSpoke (resendUp (setOp s stream p (o.resumeAt j0 o.memb)) stream j0 t) stream 2 t)

end Sys2Proof.Machine
end

