-- ==== Sys2Proof/Machine/Flows.lean ====
section
/-! DEFINITION. Channel transfers and flows at their origin (R328–R336), modules declared down (R338–R341), and the
one report of a link fault or key reject per operation (R310–R313, R155). -/

namespace Sys2Proof.Machine

/-! ## Flows at the origin -/

/-- The channel of a number. -/
def channelOf (s : State) (c : Nat) : Channel :=
  (channel? s c).getD { mode := 0, foreignOk := false, timeoutUs := 0, valiant := 0 }

/-- The fabric replaced. -/
def setFab (s : State) (f : Fabric) : State := { s with fab := f }

/-- A flow is the one of a partition, channel and destination. -/
def OutFlow.is (f : OutFlow) (part chan dst : Nat) : Bool := f.part == part && f.chan == chan && f.dst == dst

/-- The home I-die of a flow (R332). -/
def homeDie (s : State) (chan : Nat) : Nat := if s.build = .l ∨ chan < 8 then 0 else 1

/-- The flow of a partition, channel and destination. -/
def outFlow? (s : State) (part chan dst : Nat) : Option OutFlow := s.fab.outFlows.find? (fun f => f.is part chan dst)

/-- A flow replaced (or added). -/
def putFlow (s : State) (f : OutFlow) : State :=
  setFab s { s.fab with
    outFlows := if (outFlow? s f.part f.chan f.dst).isSome then
        s.fab.outFlows.map (fun g => if g.is f.part f.chan f.dst then f else g)
      else s.fab.outFlows ++ [f] }

/-- A new flow (R328). -/
def OutFlow.new (s : State) (part chan dst : Nat) : OutFlow :=
  { part := part, chan := chan, dst := dst, next := 0, unacked := [], timeouts := 0, via := viaOf s chan dst,
    reported := false, rejected := false }

/-- A packet of a flow routed as the flow is now (R324, R325): a VALIANT flow without an intermediate goes as DOR. -/
def OutFlow.route (s : State) (f : OutFlow) (p : Packet) : Packet :=
  { p with
    phase := (channelOf s f.chan).mode == 2 && f.via.isNone, via := f.via.getD 0, failover := !s.fab.down.isEmpty
    foreign := foreignDst s f.chan f.dst }

/-- The OP_TAG of a transfer's packets. -/
def transferTag (s : State) (transfer chan : Nat) : Nat := transfer % 65536 + chan % 16 * 65536 + modId s * 2 ^ 27

/-- A channel packet of a flow (Tables 12.3 and 13.4). -/
def flowPacket (s : State) (f : OutFlow) (transfer seq offset : Nat) (fence : Bool) (m : Msg) (data : List Byte) :
    Packet :=
  f.route s
    { key := keyOf s f.part, ptype := 3, cls := 2, fence := fence, src := modId s, dst := f.dst,
      mode := (channelOf s f.chan).mode, phase := false, via := 0, failover := false, foreign := false, ttl := 15,
      opTag := transferTag s transfer f.chan, e2e := seq, offset := offset, msg := m, data := data }

/-- One packet of a transfer sent on its flow and kept until it is acknowledged (R328, R330). -/
def sendPiece (part chan dst transfer t : Nat) (fence : Bool) (s : State) (x : Piece) : State :=
  let f := (outFlow? s part chan dst).getD (OutFlow.new s part chan dst)
  let p := flowPacket s f transfer f.next x.offset fence x.msg x.data
  let s1 := putFlow s { f with
    next := (f.next + 1) % 2 ^ 32
    unacked := f.unacked ++ [{ seq := f.next, transfer := transfer, addr := x.addr, pkt := p }] }
  sendOwn s1 part 2 p t

/-- Bytes cut into pieces of at most 4,064, at rising offsets. -/
def piecesOf (offset addr : Nat) (bs : List Byte) : List Piece :=
  (List.range (max (ceilDiv bs.length 4064) 1)).map (fun k =>
    { msg := .data, offset := offset + k * 4064, addr := addr + k * 4064, data := (bs.drop (k * 4064)).take 4064 })

/-- A channel reaches a destination (R334): by the routes in force, and in the bridged domain by the bridge relay (R353). -/
def canReach (s : State) (chan dst : Nat) : Bool :=
  if foreignDst s chan dst then
    match s.fab.routes.foreignRelay with
    | some r => if r = modId s then (foreignPort s).isSome else !s.fab.down.contains r && reachable s r
    | none => false
  else !s.fab.down.contains dst && reachable s dst

/-- The tag under which an operation is remembered: channel transfers are told from collectives. -/
def ledgerTag (ptype tag : Nat) : Nat := if ptype = 3 then 2 ^ 32 + tag else tag

/-- A number that a new operation takes is no longer remembered for the one that had it before. -/
def forgetTag (s : State) (g : Nat) : State :=
  { s with faults := {
    reported := s.faults.reported.filter (· != g), rejects := s.faults.rejects.filter (· != g)
    timedOut := s.faults.timedOut.filter (· != g), closed := s.faults.closed } }

/-- An allocated range of hub SRAM holds hub `h`'s KV staging of partition `part`. -/
def Alloc.stages (a : Alloc) (h part : Nat) : Bool := a.cls == 4 + h && a.use == 2 && a.part == part

/-- Bytes of KV_STAGE of a partition on a hub (Table 10.2); an entry that is failed closed names none (R441). -/
def stageBytes (s : State) (h part : Nat) : Nat :=
  sumNat ((s.fence.allocs.filter (fun a => a.2.stages h part && (SMap.get? s.fence.failedClosed (256 + a.1)).isNone)).map
    (·.2.count))

/-- The staged packets of a partition on a hub that are not acknowledged, oldest first, each with its transfer. -/
def stagedHere (s : State) (h part : Nat) : List (Transfer × Sent) :=
  (s.fab.outFlows.filter (fun f => f.part == part && homeDie s f.chan == h)).flatMap (fun f =>
    f.unacked.flatMap (fun u =>
      ((s.fab.transfers.filter (fun x => x.staged && x.id == u.transfer && x.chan == f.chan && x.dst == f.dst)).take 1).map
        (fun x => (x, u))))

/-- Pieces of a staged transfer sent while KV_STAGE has room for them; the others wait (R247). -/
def stagePieces (tr : Transfer) (t : Nat) : List Piece → State → State × List Piece
  | [], s => (s, [])
  | x :: rest, s =>
    let h := homeDie s tr.chan
    if sumNat ((stagedHere s h tr.part).map (·.2.pkt.length)) + x.data.length ≤ stageBytes s h tr.part then
      stagePieces tr t rest
        (sendPiece tr.part tr.chan tr.dst tr.id t ((channelOf s tr.chan).mode == 3 && rest.isEmpty) s x)
    else (s, x :: rest)

/-- A transfer's waiting pieces replaced. -/
def setWaiting (s : State) (tr : Transfer) (l : List Piece) : State :=
  setFab s { s.fab with transfers := s.fab.transfers.map (fun x =>
    if x.id = tr.id ∧ x.chan = tr.chan ∧ x.dst = tr.dst then { x with waiting := l } else x) }

/-- The staged transfers go on, in the order they were started, as far as KV_STAGE has room (R247). -/
def fillStage (s : State) (t : Nat) : State :=
  (s.fab.transfers.filter (fun x => x.status.isNone && !x.waiting.isEmpty)).foldl (fun s tr =>
    let r := stagePieces tr t tr.waiting s
    setWaiting r.1 tr r.2) s

/-- A channel transfer started (R328, R334): its number, or its LINK_FAULT with DETAIL 1 where the channel is UNUSED or
the destination is down or unreachable. The last packet carries FENCE on a SPRAY channel (R333). A KV ship (`staged`) goes
through KV_STAGE and waits while that is full (R412, R247). -/
def startTransfer (s : State) (part chan dst order : Nat) (staged : Bool) (pieces : List Piece) (t : Nat) : State :=
  let id := s.fab.nextTransfer % 65536
  let bad := (channelOf s chan).mode == 0 || !canReach s chan dst
  let tr : Transfer := { id := id, part := part, chan := chan, dst := dst, order := order,
                         status := if bad then some (.linkFault, 1) else none, staged := staged,
                         waiting := if staged && !bad then pieces else [] }
  let s0 := forgetTag s (ledgerTag 3 (transferTag s id chan))
  let s1 := setFab s0 { s.fab with nextTransfer := s.fab.nextTransfer + 1, transfers := s.fab.transfers ++ [tr] }
  if bad then s1
  else if staged then fillStage s1 t
  else
    let spray := (channelOf s chan).mode == 3
    let s2 := pieces.dropLast.foldl (sendPiece part chan dst id t false) s1
    (pieces.getLast?.toList).foldl (sendPiece part chan dst id t spray) s2

/-- A transfer's fate decided, once; its packets are no longer resent. -/
def endTransfer (s : State) (tr : Transfer) (st : Status) (d : Nat) : State :=
  setFab s { s.fab with
    transfers := s.fab.transfers.map (fun x =>
      if x.id = tr.id ∧ x.chan = tr.chan ∧ x.dst = tr.dst ∧ x.status = none then { x with status := some (st, d), waiting := [] } else x)
    outFlows := s.fab.outFlows.map (fun f => if f.is tr.part tr.chan tr.dst then
      { f with unacked := f.unacked.filter (fun u => u.transfer != tr.id) } else f) }

/-- The open transfers of a flow. -/
def openTransfers (s : State) (part chan dst : Nat) : List Transfer :=
  s.fab.transfers.filter (fun x => x.part == part && x.chan == chan && x.dst == dst && x.status.isNone)

/-- A kept packet of a flow sent again, read anew from its source (R330, R336) and routed as the flow is now (R335). -/
def resendOne (f : OutFlow) (t : Nat) (s : State) (u : Sent) : State :=
  let p := if u.pkt.msg = .data then { u.pkt with data := memRead s u.addr u.pkt.data.length } else u.pkt
  sendOwn (bump s Reg.FAB_E2E_RESEND_COUNT) f.part 2 (f.route s p) t

/-- Every unacknowledged packet of a flow resent, oldest first (R330). -/
def resendFlow (s : State) (f : OutFlow) (t : Nat) : State := f.unacked.foldl (resendOne f t) s

/-- The VALIANT intermediates of the flows whose packets are all acknowledged renewed, at an epoch edge (R326). -/
def renewVias (s : State) : State :=
  setFab s { s.fab with outFlows := s.fab.outFlows.map (fun f =>
    if f.unacked.isEmpty then { f with via := viaOf s f.chan f.dst } else f) }

/-- A number is later than another in sequence, modulo 2^32. -/
def seqLater (a b : Nat) : Bool := decide (0 < (a + 2 ^ 32 - b) % 2 ^ 32) && decide ((a + 2 ^ 32 - b) % 2 ^ 32 < 2 ^ 31)

/-- E2E_ACK reaching the origin (R330): packets below `next` are released, and a transfer without any left has ended
well. -/
def ackFlow (s : State) (part chan dst next : Nat) : State :=
  match outFlow? s part chan dst with
  | none => s
  | some f =>
    let keep := f.unacked.filter (fun u => !seqLater next u.seq)
    let s1 := putFlow s { f with
      unacked := keep
      timeouts := if keep.length < f.unacked.length then 0 else f.timeouts
      reported := f.reported && !keep.isEmpty }
    (openTransfers s1 part chan dst).foldl (fun s tr =>
      if keep.any (fun u => u.transfer == tr.id) || !tr.waiting.isEmpty then s else endTransfer s tr .ok 0) s1

/-- The end-to-end timeout of a flow passed without progress (R330, R334, R313): a resend, or after the budget of 3 the
end of its transfers. A timeout after a LINK_FAULT report for the flow is consequential (R311), and so is one that finds
only a transfer that a key reject has ended (R334). -/
def flowTimeout (s : State) (f : OutFlow) (t : Nat) : State :=
  if f.unacked.isEmpty then (if f.rejected then countConseq (putFlow s { f with rejected := false }) t else s)
  else
    let s0 := if f.reported then countConseq s t else s
    if f.timeouts + 1 ≥ 3 then
      let st : Status := if f.reported then .consequential else .linkFault
      let s1 := raise s0 Reg.FAB_EVENT 7 .fabric false false t
      (openTransfers s1 f.part f.chan f.dst).foldl (fun s tr =>
        endTransfer (if f.reported then s else noteTimeout s (ledgerTag 3 (transferTag s tr.id tr.chan))) tr st
          (if f.reported then 0 else 2)) (putFlow s1 { f with timeouts := 0, unacked := [], reported := false })
    else resendFlow (putFlow s0 { f with timeouts := f.timeouts + 1 }) f t

/-! ## Modules down (R338–R341) -/

/-- Whether a live port of this module goes to module `m`. -/
def liveToward (s : State) (m : Nat) : Bool :=
  (List.range 16).any (fun n => (port s n).live && (match s.fab.routes.ports[n]? with
    | some e => e.used && !e.foreign && e.expMod == m
    | none => false))

/-- Every collective of the module ended with ISOLATED (R341). -/
def severModule (s : State) (t : Nat) : State :=
  (s.hubs.spokes.map (·.1)).foldl (fun s i => match spoke? s i with
    | some p => finishItem s p.op.item [(.isolated, 0)] none t
    | none => s) { s with fab := { s.fab with severed := true } }

/-- Transfers whose destination is unreachable end with LINK_FAULT, DETAIL 1 (R334, R353). -/
def dropUnreachable (s : State) : State :=
  (s.fab.transfers.filter (fun tr => tr.status.isNone && !canReach s tr.chan tr.dst)).foldl
    (fun s tr => endTransfer s tr .linkFault 1) s

/-- VALIANT flows lose a lost intermediate: they route as DOR at once (chapter 13, Edge cases). -/
def dropVia (s : State) (m : Nat) : State :=
  setFab s { s.fab with outFlows := s.fab.outFlows.map (fun f => if f.via = some m then { f with via := none } else f) }

/-- Module `m` is down from now on (R338, R339, R341, R344): counted, routed around, its trees switched and its flows
ended; a module that learns that it is itself down is severed. `from_` is the port the notice came by; the first notice
is flooded on every other live port. -/
def moduleDown (s : State) (m : Nat) (from_ : Option Nat) (t : Nat) : State :=
  if s.fab.seenDown.contains m then s
  else
    let s1 := setFab s { s.fab with
      seenDown := m :: s.fab.seenDown
      seenUp := s.fab.seenUp.filter (· != m)
      upNext := s.fab.upNext.filter (· != m)
      nodeUp := s.fab.nodeUp - (if bitAt s.fab.nodeUp m then 2 ^ m else 0)
      down := insertBy (fun a b => decide (a ≤ b)) m (s.fab.down.filter (· != m)) }
    let s2 := flood s1 from_ (.nodeDown m)
    let s3 := raise (bump s2 Reg.FAB_NODE_DOWN_COUNT) Reg.FAB_EVENT 0 .fabric true false t
    let s4 := if m = modId s then severModule s3 t
      else (s3.hubs.spokes.map (·.1)).foldl (fun s i => switchTree s i m true t) s3
    dropUnreachable (dropVia s4 m)

/-- A port toward a neighbour was lost (R338): with no live port left toward it, the neighbour is declared down when it
was lost, and otherwise the one of the two with the higher MOD_ID. A FOREIGN port declares no module down; its loss makes
the flows across it unreachable (R353). -/
def checkNeighbour (s : State) (n : Nat) (lost : Bool) (t : Nat) : State :=
  match s.fab.routes.ports[n]? with
  | none => s
  | some e =>
    if e.foreign then dropUnreachable s
    else if !e.used || liveToward s e.expMod || !bitAt s.fab.nodeUp e.expMod then s
    else moduleDown s (if lost then e.expMod else max e.expMod (modId s)) none t

/-! ## One report per operation (R310–R312) -/

/-- The stream of this module whose collective a tag names, in this tick or carried over (R310). -/
def streamOfTag (s : State) (tag : Nat) : Option Nat :=
  (s.hubs.spokes.find? (fun e => e.2.op.tag s e.1 == tag)).map (·.1)

/-- Tags of collectives half a turn of the tick index old are no longer remembered: OP_TAG holds 14 bits of it (Table
12.3), which another operation will take. -/
def ageLedger (s : State) : State :=
  let young := fun g => decide (2 ^ 32 ≤ g) || decide ((s.clock.index + 16384 - bits g 13 14) % 16384 < 8192)
  { s with faults := {
    reported := s.faults.reported.filter young, rejects := s.faults.rejects.filter young
    timedOut := s.faults.timedOut.filter young, closed := s.faults.closed.filter young } }

/-- A collective of this module that a LINK_FAULT or a key reject ends: timers of it that fire later are consequential
(R155, R311). -/
def closeTag (s : State) (tag : Nat) : State := { s with faults := { s.faults with closed := tag :: s.faults.closed } }

/-- The flow of this module whose packets a channel tag names, with its transfer number. -/
def flowOfTag (s : State) (tag : Nat) : Option OutFlow :=
  s.fab.outFlows.find? (fun f => f.chan == bits tag 16 4 && f.unacked.any (fun u => u.transfer == bits tag 0 16))

/-- The transfer of this module that a channel tag names. -/
def transferOfTag (s : State) (tag : Nat) : Option Transfer :=
  s.fab.transfers.find? (fun x => x.chan == bits tag 16 4 && x.id == bits tag 0 16 && x.status.isNone)

/-- HUB_COLL_LOG records the action of a timeout of the contribution that ledger tag `tag` names: its group, stream, tick
and the rank of its SRC_MOD (Tables 9.12 and 12.3). -/
def loggedTimeout (s : State) (tag : Nat) : Bool :=
  let l := rd s Reg.HUB_COLL_LOG_0
  decide (tag < 2 ^ 32) && wbit l 31 && fld l 5 8 == bits tag 5 8 && fld l 13 5 == bits tag 0 5 && decide (fld l 18 3 ≤ 1) &&
    fld (rd s Reg.HUB_COLL_LOG_1) 0 14 == bits tag 13 14 &&
    (groupMembers s (group s (bits tag 5 8)))[fld l 0 5]? == some (bits tag 27 5)

/-- A LINK_FAULT for an operation whose timeout already acted (R312): only the recorded cause of that action changes. -/
def lateFault (s : State) (tag t : Nat) : State :=
  countConseq (if loggedTimeout s tag then wr s Reg.HUB_COLL_LOG_0 (putFld (rd s Reg.HUB_COLL_LOG_0) 18 3 3) else s) t

/-- This module's own operation meets LINK_FAULT (R310, R335): a collective completes, a channel flow is resent. -/
def faultOwn (s : State) (ptype tag t : Nat) : State :=
  if ptype = 3 then
    match flowOfTag s tag with
    | some f => resendFlow (putFlow s { f with reported := true }) { f with reported := true } t
    | none => s
  else
    match streamOfTag s tag with
    | some i => match spoke? s i with
      | some p => finishItem (closeTag s tag) p.op.item [(.linkFault, 0)] none t
      | none => s
    | none => s

/-- LNK_FAULT_LOG written when it is empty. -/
def logFault (s : State) (port tag : Nat) (rx : Bool) : State :=
  if wbit (rd s Reg.LNK_FAULT_LOG_0) 31 then s
  else wr (wr s Reg.LNK_FAULT_LOG_0 (BitVec.ofNat 32 (port % 32 + b2n rx * 32 + 2 ^ 31))) Reg.LNK_FAULT_LOG_1
    (BitVec.ofNat 32 tag)

/-- The ranks whose contribution a packet of module `m`'s hub `h` carries: the member's own, or those below a node that is
no member (log entry 78). -/
def carriedRanks (o : CollOp) (m h : Nat) : List Nat :=
  match o.members.findIdx? (· == m) with
  | some r => [r]
  | none => indicesWhere o.members.length (bitAt (Config.ranksBelow o.tree m h))

/-- The receive side of a report: the operation that the packet addresses, on each stream of this module that runs it,
loses the contribution (cause 3). -/
def faultContribution (s : State) (p : Packet) (t : Nat) : State :=
  if p.ptype = 3 ∨ p.dst ≠ modId s then s
  else
    let streams := (s.hubs.spokes.filter (fun e => e.2.op.group % 256 == bits p.opTag 5 8 &&
      e.2.op.tick % 16384 == bits p.opTag 13 14 && e.1 % 16 == bits p.opTag 0 5 % 16)).map (·.1)
    streams.foldl (fun s i => match spoke? s i with
      | some sp => (carriedRanks sp.op p.src (bits p.opTag 0 5 / 16)).foldl (fun s r =>
          sealWhenReady (loseMember s i r 3 t) i t) s
      | none => s) s

/-- One operation reported as LINK_FAULT by a port (0x10 the bridge), once per module (R310). Packets under key 0xFFFF
carry no operation. -/
def reportOp (port : Nat) (rx : Bool) (t : Nat) (s : State) (p : Packet) : State :=
  let tag := ledgerTag p.ptype p.opTag
  if p.key = 0xFFFF ∨ s.faults.reported.contains tag = true then s
  else
    let s1 := logFault (bump { s with faults := { s.faults with reported := tag :: s.faults.reported } }
      Reg.LNK_FAULT_OP_COUNT) port p.opTag rx
    if s.faults.timedOut.contains tag then lateFault s1 tag t
    else if rx then faultContribution s1 p t
    else if p.src = modId s then faultOwn s1 p.ptype p.opTag t
    else sendCtl (bump s1 Reg.LNK_NOTICE_TX_COUNT) p.src p.opTag (.linkFault p.opTag)

/-- Reports of a port's replay buffer and of the packet it was receiving (R310). -/
def reportPort (s : State) (n : Nat) (replay : List Flit) (rx : Option Packet) (t : Nat) : State :=
  let s1 := (replay.filterMap (·.pkt)).foldl (reportOp n false t) s
  (rx.toList).foldl (reportOp n true t) s1

end Sys2Proof.Machine
end

