-- ==== Sys2Proof/Machine/Masks.lean ====
section
/-! DEFINITION. Automata, adapters and the choice of a token (chapter 16). -/

namespace Sys2Proof.Machine

/-! ## Registers of an automaton (Table 16.8) -/

/-- Word `i` of automaton `n`. -/
def autoWord (s : State) (n i : Nat) : Nat := (rd s (Reg.MSK_AUTO_W0 n + 4 * i)).toNat

/-- An automaton is VALID. -/
def autoValid (s : State) (n : Nat) : Bool := bitAt (autoWord s n 0) 0

/-- An automaton is of the RAMP kind. -/
def autoRamp (s : State) (n : Nat) : Bool := bitAt (autoWord s n 0) 1

/-- PART of an automaton. -/
def autoPart (s : State) (n : Nat) : Nat := bits (autoWord s n 0) 2 3

/-- STATES of a DFA. -/
def dfaStates (s : State) (n : Nat) : Nat := bits (autoWord s n 1) 16 16 + 1

/-- BASE of a DFA's tables. -/
def dfaBase (s : State) (n : Nat) : Nat := autoWord s n 6 / 8 * 8 + autoWord s n 7 * 2 ^ 32

/-- A DFA state entry (Table 16.7). -/
def dfaState (s : State) (n st : Nat) : Nat := leNat (memRead s (dfaBase s n + 8 * st) 8)

/-- A DFA range entry. -/
def dfaRange (s : State) (n i : Nat) : Nat := leNat (memRead s (dfaBase s n + 8 * dfaStates s n + 8 * i) 8)

/-- The ranges of a DFA state: FIRST, LAST, NEXT. -/
def dfaRanges (s : State) (n st : Nat) : List (Nat × Nat × Nat) :=
  let e := dfaState s n st
  (List.range (bits e 32 21)).map (fun i =>
    let r := dfaRange s n (bits e 0 24 + i)
    (bits r 0 18, bits r 18 18, bits r 36 16))

/-! ## What a state allows (R426, R427) -/

/-- The bin of a value token of a RAMP automaton. -/
def rampBin (s : State) (n tok : Nat) : Option Nat :=
  let b := bits (autoWord s n 1) 0 18
  if b ≤ tok ∧ tok < b + bits (autoWord s n 2) 0 18 then some (tok - b) else none

/-- "No bin" of MSK_SLOT_STATE. -/
def noBin : Nat := 2 ^ 31

/-- Whether automaton `n` in state `st` allows a token; `stop` is the request's stop token. -/
def autoAllows (s : State) (n st : Nat) (stop : Option Nat) (tok : Nat) : Bool :=
  if n = 255 then true
  else if autoRamp s n then
    if some tok = stop then true
    else
      let pass := decide (bits (autoWord s n 4) 0 18 ≤ tok) && decide (tok ≤ bits (autoWord s n 5) 0 18)
      pass || (match rampBin s n tok with
        | some b =>
          bitAt st 31 || (decide (st - bits (autoWord s n 3) 16 16 ≤ b) && decide (b ≤ st + bits (autoWord s n 3) 0 16))
        | none => false)
  else if some tok = stop then bitAt (dfaState s n st) 24
  else (dfaRanges s n st).any (fun r => decide (r.1 ≤ tok) && decide (tok ≤ r.2.1))

/-- The automaton state after a token. -/
def autoNext (s : State) (n st : Nat) (stop : Option Nat) (tok : Nat) : Nat :=
  if n = 255 ∨ some tok = stop then st
  else if autoRamp s n then (rampBin s n tok).getD st
  else match (dfaRanges s n st).find? (fun r => decide (r.1 ≤ tok) && decide (tok ≤ r.2.1)) with
    | some r => r.2.2
    | none => st

/-- The state at admission (R428). -/
def autoStart (s : State) (n : Nat) (prompt : List Nat) : Nat :=
  if n = 255 then 0
  else if autoRamp s n then
    (prompt.foldl (fun acc tok => match rampBin s n tok with
      | some b => b
      | none => acc) noBin)
  else bits (autoWord s n 1) 0 16

/-! ## Selection (R420, R422) -/

/-- An FP32 pattern is a NaN. -/
def isNan32 (w : Nat) : Bool := bits w 23 8 == 255 && bits w 0 23 != 0

/-- The value of a logit; the two zeros are equal. -/
def logitVal (w : Nat) : FVal := FFmt.fp32.decode (if w = 0x80000000 then 0 else w)

/-- The tokens a row may choose among, rising: allowed ones below VOCAB. -/
def allowedTokens (s : State) (m : Model) (n st : Nat) (stop : Option Nat) (logits : List Nat) : List Nat :=
  (List.range (min m.vocab logits.length)).filter (autoAllows s n st stop)

/-- Greedy selection (R420): the allowed token of greatest logit, the lowest among equals and among tokens all of whose
logits are NaN; none where no token is allowed. -/
def selectToken (s : State) (m : Model) (n st : Nat) (stop : Option Nat) (logits : List Nat) : Option Nat :=
  let ok := allowedTokens s m n st stop logits
  let better := fun (best : Option Nat) (tok : Nat) =>
    let w := logits.getD tok 0
    if isNan32 w then best
    else match best with
      | none => some tok
      | some b => if (logitVal (logits.getD b 0)).lt (logitVal w) then some tok else best
  match ok.foldl better none with
  | some b => some b
  | none => ok.head?

/-- Candidates for the host (R422): allowed tokens without NaN logits, in descending order, ties by ascending token. -/
def candidates (s : State) (m : Model) (n st : Nat) (stop : Option Nat) (logits : List Nat) : List Nat :=
  let ok := (allowedTokens s m n st stop logits).filter (fun tok => !isNan32 (logits.getD tok 0))
  let val := fun tok => logitVal (logits.getD tok 0)
  (sortBy' (fun a b => (val b).lt (val a) || (!(val a).lt (val b) && decide (a ≤ b))) ok).take m.sampleK
where
  /-- Insertion sort. -/
  sortBy' (le : Nat → Nat → Bool) : List Nat → List Nat
    | [] => []
    | x :: xs => ins le x (sortBy' le xs)
  /-- One insertion. -/
  ins (le : Nat → Nat → Bool) (x : Nat) : List Nat → List Nat
    | [] => [x]
    | y :: ys => if le x y then x :: y :: ys else y :: ins le x ys

/-! ## Users (R417) -/

/-- SUBMIT entries in the prefetch caches that satisfy `p`. -/
def cachedSubmits (s : State) (p : Nat → Desc → Bool) : Nat :=
  sumNat (s.queues.map (fun e => (e.2.cache.filter (fun c => c.desc.opcode == 4 && !c.taken && p e.1 c.desc)).length))

/-- USERS of an automaton. -/
def autoUsers (s : State) (n : Nat) : Nat :=
  cachedSubmits s (fun _ d => leAt d.ops 3 1 == n) + (s.ledger.slots.filter (fun e => e.2.st != 0 && e.2.maskN == n)).length

/-- USERS of an adapter. -/
def adapterUsers (s : State) (a : Nat) : Nat :=
  cachedSubmits s (fun _ d => leAt d.ops 0x14 2 == a) +
    (s.ledger.slots.filter (fun e => e.2.st != 0 && e.2.adapter == a)).length

/-- An adapter is VALID for a partition and model. -/
def adapterOk (s : State) (a p m : Nat) : Bool :=
  let w := rd s (Reg.MSK_ADAPTER_W0 a)
  a == 0xFFFF || (decide (a < 512) && wbit w 0 && fld w 1 3 == p && fld w 4 4 == m)

/-- An automaton is VALID for a partition. -/
def maskOk (s : State) (n p : Nat) : Bool := n == 255 || (decide (n < 64) && autoValid s n && autoPart s n == p)

/-! ## AUTO_LOAD, AUTO_UNLOAD, ADAPTER_REGISTER (R416, R429) -/

/-- A failed automaton command raises AUTO_FAIL. -/
def autoFail (s : State) (t : Nat) : State := raise s Reg.MSK_EVENT 0 .serve false false t

/-- AUTO_LOAD (R429): validation of automaton `n` starts, unless another is in progress. Under G1COMPAT the write has no
effect and sets the refusal event. -/
def execAutoLoad (n t : Nat) (s : State) : Host.Outcome State Fault Refusal :=
  if g1 s then .next (autoFail s t)
  else if wbit (rd s Reg.MSK_AUTO_STATUS) 6 then .next s
  else .next (wr s Reg.MSK_AUTO_STATUS (BitVec.ofNat 32 (n % 64 + 64)))

/-- AUTO_UNLOAD (R429): VALID is cleared when USERS is 0. -/
def execAutoUnload (n t : Nat) (s : State) : Host.Outcome State Fault Refusal :=
  if g1 s then .next (autoFail s t)
  else if wbit (rd s Reg.MSK_AUTO_STATUS) 6 then .next s
  else if autoUsers s (n % 64) = 0 then
    .next (wr (wr s (Reg.MSK_AUTO_W0 (n % 64)) (putBitW (rd s (Reg.MSK_AUTO_W0 (n % 64))) 0 false)) Reg.MSK_AUTO_STATUS
      (BitVec.ofNat 32 (n % 64 + 2 ^ 31)))
  else .next (autoFail (wr s Reg.MSK_AUTO_STATUS (BitVec.ofNat 32 (n % 64 + 256 + 2 ^ 31))) t)

/-- The ranges of a DFA state are ascending and disjoint, with FIRST ≤ LAST < 262,144 and NEXT < STATES. -/
def rangesOk (states : Nat) : List (Nat × Nat × Nat) → Bool
  | [] => true
  | [r] => decide (r.1 ≤ r.2.1) && decide (r.2.2 < states)
  | r :: q :: rs =>
    decide (r.1 ≤ r.2.1) && decide (r.2.2 < states) && decide (r.2.1 < q.1) && rangesOk states (q :: rs)

/-- The result code of a validation (R429): 0 OK, 1 in use, 2 window, 3 format, 4 partition. -/
def autoCheck (s : State) (n : Nat) : Nat :=
  let p := autoPart s n
  if autoUsers s n ≠ 0 then 1
  else if !partDefined s p then 4
  else if autoRamp s n then
    (if 1 ≤ bits (autoWord s n 2) 0 18 ∧ bits (autoWord s n 1) 0 18 + bits (autoWord s n 2) 0 18 ≤ 262144 ∧
      bits (autoWord s n 4) 0 18 ≤ bits (autoWord s n 5) 0 18 then 0 else 3)
  else
    let k := dfaStates s n
    if !windowOk s p false false (dfaBase s n) (8 * k) then 2
    else
      let counts := (List.range k).map (fun i => bits (dfaState s n i) 32 21)
      let last := maxNat ((List.range k).map (fun i => bits (dfaState s n i) 0 24 + bits (dfaState s n i) 32 21))
      if sumNat counts > 1048576 then 3
      else if !windowOk s p false false (dfaBase s n) (8 * k + 8 * last) then 2
      else if (List.range k).all (fun i => rangesOk k (dfaRanges s n i) &&
          ((dfaRanges s n i).length != 0 || bitAt (dfaState s n i) 24)) then 0 else 3

/-- AUTO_VALIDATION_DONE (R429): the outcome is reported, VALID is set where every condition holds, and BUSY clears. -/
def execAutoValidationDone (t : Nat) (s : State) : Host.Outcome State Fault Refusal :=
  let w := rd s Reg.MSK_AUTO_STATUS
  if !wbit w 6 then .next s
  else
    let n := fld w 0 6
    let c := autoCheck s n
    let s1 := wr s Reg.MSK_AUTO_STATUS (BitVec.ofNat 32 (n + c * 256 + 2 ^ 31))
    if c = 0 then .next (wr s1 (Reg.MSK_AUTO_W0 n) (putBitW (rd s1 (Reg.MSK_AUTO_W0 n)) 0 true))
    else .next (autoFail s1 t)

/-- ADAPTER_REGISTER (R416): a write of word 0 of adapter `a`. -/
def execAdapterRegister (a : Nat) (v : Word) (t : Nat) (s : State) : Host.Outcome State Fault Refusal :=
  let addr := (rd s (Reg.MSK_ADAPTER_W2 a)).toNat + (rd s (Reg.MSK_ADAPTER_W3 a)).toNat * 2 ^ 32
  let p := fld v 1 3
  let rank := fld v 8 7
  let bpr := match model? s (fld v 4 4) with
    | some m => if m.part = p then m.adapterBpr else 0
    | none => 0
  let ok := !g1 s && adapterUsers s a == 0 && (!wbit v 0 || (decide (1 ≤ rank) && decide (rank ≤ 64) && bpr != 0 &&
    windowOk s p false false addr (rank * bpr)))
  if ok then .next (wr s (Reg.MSK_ADAPTER_W0 a) (v &&& 0x7FFF#32))
  else if g1 s then .next (raise s Reg.MSK_EVENT 1 .serve false false t)
  else .next (raise (bump s Reg.MSK_ADAPTER_REFUSE_COUNT) Reg.MSK_EVENT 1 .serve false false t)

end Sys2Proof.Machine
end

