-- ==== Sys2Proof/Machine/Ledger.lean ====
section
/-! DEFINITION. The Ledger (chapters 15 and 16): admission, cancellation, pauses, output batches, and the shared parts of
steps, chunks, orders and ships. -/

namespace Sys2Proof.Machine

/-! ## The time test (R381, R430) -/

/-- The models of the pool of `m`: those whose CORES masks intersect, directly or through other models (R373). -/
def poolOf (s : State) (m : Nat) : List Nat :=
  let step := fun (l : List Nat) =>
    SMap.keysWhere (fun k (x : Model) => l.contains k || l.any (fun j => match model? s j with
      | some y => (x.cores &&& y.cores) != 0
      | none => false)) s.ledger.models
  (List.range 16).foldl (fun l _ => step l) [m]

/-- The slots that count in B_m and K_m: live and not paused; a DRAFT model's are its verifier's that speculate. -/
def countedSlots (s : State) (m : Nat) (md : Model) : List Nat :=
  let live := fun j => (slotsOf s j).filter (fun k => (slot s k).st != 4 && (slot s k).st != 5)
  if md.place = 3 then (live md.peerModel).filter (fun k => (slot s k).speculate) else live m

/-- The decode time of a model with `b` slots and `k` tokens of context (R381). -/
def stepTime (md : Model) (b k : Nat) : Nat := md.steps * (400 + md.d0 + md.d1 * b + md.d2 * ceilDiv k 1024)

/-- The time test of R381 over the pool of `m`, with one more slot of `m` of context `c` counted. -/
def timeTest (s : State) (m c : Nat) : Bool :=
  let l := poolOf s m
  let time := sumNat (l.map (fun j => match model? s j with
    | some md =>
      let ks := countedSlots s j md
      stepTime md (ks.length + b2n (j == m)) (sumNat (ks.map (fun k => (slot s k).ctx)) + (if j = m then c else 0))
    | none => 0))
  let reserve := maxNat (l.map (fun j => match model? s j with
    | some md => md.reserve
    | none => 0))
  decide (time + reserve ≤ foreLen s - s.sched.fcNs)

/-! ## Allocation (R380) -/

/-- P(r) of a model for a context. -/
def pagesFor (s : State) (md : Model) (c : Nat) : Nat := ceilDiv c (max (tokensPerPage s md) 1)

/-- The lowest free slot of a partition's range. -/
def freeSlotIn (s : State) (p : Nat) : Option Nat :=
  let e := ldgPart s p
  ((List.range e.slotMax).map (e.slotFirst + ·)).find? (fun k => (slot s k).st == 0)

/-- A slot and `n` pages claimed together: the slot and its pages, or the RESULT code (5 model at its SLOT_MAX, 1 no
slot, 2 no pages). -/
def claim (s : State) (m : Nat) (md : Model) (n : Nat) : (Nat × List Nat) ⊕ Nat :=
  if md.slotMax ≤ (slotsOf s m).length then .inr 5
  else match freeSlotIn s md.part with
    | none => .inr 1
    | some k => match freePages s md.part n with
      | none => .inr 2
      | some l => .inl (k, l)

/-- A refused claim: counted, raised and its reason logged. -/
def refuseClaim (s : State) (code t : Nat) : State :=
  let s1 := bump s Reg.LDG_REFUSE_COUNT
  let s2 := if code = 1 ∨ code = 5 then wr s1 Reg.LDG_REFUSE_LOG 1#32
    else if code = 2 then wr s1 Reg.LDG_REFUSE_LOG 2#32 else s1
  raise s2 Reg.LDG_EVENT 0 .serve false false t

/-! ## Ends of channel transfers (R412, R414) -/

/-- A failed ship or order ends the request (R414); the prefill lead tells the decode lead (log entry 80). -/
def shipFailed (s : State) (k : Nat) (st : Status) (d t : Nat) : State :=
  let x := slot s k
  if x.order.isSome then endRequest (tellDecode s k st d) k st d t
  else endRequest (raise (bump s Reg.MSK_SHIP_FAIL_COUNT) Reg.MSK_EVENT 5 .serve false false t) k st d t

/-- Ended transfers taken up by the Ledger: a ship that ended frees its prefill slot, and an order or ship that failed
ends its request. Staged ships go on in the room that is free. -/
def reapTransfers (s : State) (t : Nat) : State :=
  let done := s.fab.transfers.filter (fun x => x.status.isSome)
  let s1 := setFab s { s.fab with transfers := s.fab.transfers.filter (fun x => x.status.isNone) }
  let s2 := done.foldl (fun s tr =>
    match tr.status with
    | none => s
    | some (st, d) =>
      let x := slot s tr.order
      if x.st = 0 then s
      else if st = .ok then (if x.order.isSome ∧ x.shipSeq.isSome then freeSlot s tr.order else s)
      else shipFailed s tr.order st d t) s1
  if s2.fab.transfers.all (·.waiting.isEmpty) then s2 else fillStage s2 t

/-! ## Requests -/

/-- The operands of a SERVE_SUBMIT (Table 15.4) as a slot in PREFILL. -/
def slotOfSubmit (s : State) (q i : Nat) (steps : Nat) (d : Desc) (p : Nat) : Slot :=
  let o := d.ops
  let fl := leAt o 2 1
  let stop := leAt o 0x18 4
  { Slot.free with
    st := 1, model := leAt o 0 1, cls := bits (leAt o 1 1) 0 3, part := p, queue := q, index := i, desc := d
    promptLen := leAt o 4 4, promptAddr := leAt o 8 8, promptHost := bitAt fl 0, hostSample := bitAt fl 1
    speculate := bitAt fl 2, maskN := leAt o 3 1, adapter := leAt o 0x14 2, maxNew := leAt o 0x10 4
    stop := if bitAt stop 31 then some (bits stop 0 18) else none
    todo := leAt o 4 4, steps := steps, age := s.ledger.nextAge }

/-- Prompt tokens in bytes. -/
def tokensOf (bs : List Byte) : List Nat := (List.range (bs.length / 4)).map (fun i => bits (leAt bs (4 * i) 4) 0 18)

/-- The order of a DECODE model's slot (Table 16.4) with its prompt. -/
def orderBytes (s : State) (k : Nat) (md : Model) (prompt : List Byte) : List Byte :=
  let x := slot s k
  leBytes 4 0x5244524F ++ leBytes 1 (modId s) ++ leBytes 1 md.peerModel ++ leBytes 2 k ++ leBytes 1 x.cls ++
    leBytes 1 x.maskN ++ leBytes 2 x.adapter ++ leBytes 4 x.promptLen ++ leBytes 4 md.kvb ++
    leBytes 1 (ldgPart s md.part).pageLog2 ++ leBytes 3 0 ++ leBytes 8 x.desc.userTag ++
    leBytes 4 (match x.stop with | some v => v + 2 ^ 31 | none => 0) ++
    leBytes 4 (rd s (Reg.MSK_SLOT_STATE k)).toNat ++ leBytes 24 0 ++ prompt

/-- The prompt of a slot is known: its automaton takes its first state (R428), and a DECODE model's order is sent
(R409). -/
def promptKnown (s : State) (k : Nat) (bs : List Byte) (t : Nat) : State :=
  let x := slot s k
  let s1 := wr s (Reg.MSK_SLOT_STATE k) (BitVec.ofNat 32 (autoStart s x.maskN (tokensOf bs)))
  match model? s x.model with
  | some md =>
    if md.place = 1 then
      let o := orderBytes s1 k md bs
      reapTransfers (startTransfer s1 md.part (md.kvChannel % 16) md.peerMod k false
        ((piecesOf 0 0 o).map (fun (p : Piece) => { p with msg := .order p.data })) t) t
    else s1
  | none => s1

/-- The window checks of a request's prompt: its read (R472). -/
def readPrompt (s : State) (k t : Nat) : State :=
  let x := slot s k
  let n := 4 * x.promptLen
  if !windowOk s x.part x.promptHost false x.promptAddr n then
    endRequest (fenceRefuse s .window x.part .pf0 x.promptAddr t) k .windowViolation 0 t
  else if x.promptHost then
    (readPieces x.promptAddr n).foldl (fun s e => issueRead s (.prompt k e.1) (x.promptAddr + e.1) e.2) s
  else if memPoisoned s x.promptAddr n then endRequest s k .poisoned 5 t
  else promptKnown s k (memRead s x.promptAddr n) t

/-- A piece of a host prompt arrived; with the last of them the prompt is known. -/
def promptPiece (s : State) (k off : Nat) (bs : List Byte) (t : Nat) : State :=
  let x := slot s k
  let buf := SMap.put x.promptBuf off bs
  let s1 := setSlot s k { x with promptBuf := buf }
  let all := buf.flatMap (·.2)
  if all.length < 4 * x.promptLen then s1 else promptKnown (setSlot s1 k { x with promptBuf := [] }) k all t

/-- LDG_ADMIT's word: SQ index and queue. -/
def admitTarget (v : Word) : Nat × Nat := (fld v 0 12, fld v 12 6)

/-- A status that a dependent inherits: any but OK and TIME_DISCONTINUITY (R169). -/
def inheritable : Status → Option Status
  | .ok | .timeDiscontinuity => none
  | st => some st

/-- The dependency that an entry of queue `q` names has completed with a status that it inherits (R169). -/
def depFailed (s : State) (q : Nat) (d : Desc) : Bool :=
  let dq := queue s (q / 8 * 8 + d.depQueue)
  d.depValid && !dq.posted.contains d.depIndex && ((SMap.get? dq.done d.depIndex).bind inheritable).isSome

/-- LDG_ADMIT (R380, R527): the named cached SUBMIT claims a slot and its pages together or neither; the outcome is in
LDG_ADMIT_RESULT. One whose dependency has failed is not taken; it completes at the next gate (R169; log entry 77). -/
def execLdgAdmit (v : Word) (t : Nat) (s : State) : Host.Outcome State Fault Refusal :=
  let i := (admitTarget v).1
  let q := (admitTarget v).2
  let p := q / 8
  let result := fun (s : State) (code k : Nat) => wr s Reg.LDG_ADMIT_RESULT (BitVec.ofNat 32 (k % 1024 + code * 1024 + 2 ^ 31))
  match (queue s q).cache.find? (fun c => c.index == i && c.desc.opcode == 4 && c.fail.isNone && !c.taken &&
    !depFailed s q c.desc) with
  | none => .next (result (refuseClaim s 3 t) 3 0)
  | some c =>
    let x := slotOfSubmit s q i c.steps c.desc p
    if !partActive s p then .next (result (refuseClaim s 4 t) 4 0)
    else match model? s x.model with
      | none => .next (result (refuseClaim s 3 t) 3 0)
      | some md =>
        match claim s x.model md (pagesFor s md x.ctx) with
        | .inr code => .next (result (refuseClaim s code t) code 0)
        | .inl (k, l) =>
          let s1 := takePages (setSlot s k x) k l
          let s2 := setLdg s1 { s1.ledger with nextAge := s1.ledger.nextAge + 1 }
          let qu := queue s2 q
          let s3 := startFetch (setQueue s2 q { qu with cache := qu.cache.filter (fun c => c.index != i) }) q t
          let s4 := sendUpdate s3 x.model k 1 false
          let s5 := wr s4 (Reg.MSK_SLOT_STATE k) (BitVec.ofNat 32 (autoStart s4 x.maskN []))
          .next (readPrompt (result (bump s5 Reg.LDG_ADMIT_COUNT) 0 k) k t)

/-! ## Output batches (R393, R394) -/

/-- One record of a batch (Table 15.7). -/
structure BatchRec where
  slot : Nat
  flags : Nat
  pos : Nat
  tag : Nat
  tokens : List Nat
  deriving DecidableEq, Repr

/-- The bytes of a record. -/
def BatchRec.bytes (r : BatchRec) : List Byte :=
  leBytes 2 r.slot ++ leBytes 1 r.flags ++ leBytes 1 r.tokens.length ++ leBytes 4 r.pos ++ leBytes 4 r.tag ++
    ((r.tokens.take 9).flatMap (leBytes 4)) ++ List.replicate (4 * (9 - r.tokens.length)) 0#8

/-- OUT_SLOT_BYTES of a partition. -/
def outSlotBytes (s : State) (p : Nat) : Nat := 64 * ceilDiv (32 + 48 * (ldgPart s p).slotMax) 64

/-- LDG_OUT_BASE. -/
def outBase (s : State) (p : Nat) : Nat :=
  (rd s (Reg.LDG_OUT_BASE_LO p)).toNat / 4096 * 4096 + (rd s (Reg.LDG_OUT_BASE_HI p)).toNat * 2 ^ 32

/-- Slots of a partition's output ring. -/
def outSlots (s : State) (p : Nat) : Nat := 2 ^ rdF s (Reg.LDG_OUT_CFG p) 0 4

/-- A batch of tick index `tick` written to the next ring slot, or discarded when the ring is disabled or full (R393, R394).
A write that the Fence refuses is dropped, and the tail advances (log entry 80). -/
def writeBatch (s : State) (m kind tick : Nat) (md : Model) (recs : List BatchRec) (t : Nat) : State :=
  let p := md.part
  let r := run s m
  let used := SMap.get s.ledger.outUsed 0 p
  let r1 := { r with stepSeq := (r.stepSeq + 1) % 65536 }
  if !wbit (rd s (Reg.LDG_OUT_CFG p)) 4 || decide (outSlots s p ≤ used) then
    raise (bump (setRun s m { r1 with gap := true }) Reg.LDG_OUT_DROP_COUNT) Reg.LDG_EVENT 1 .serve false false t
  else
    let tail := rdF s (Reg.LDG_OUT_TAIL p) 0 12
    let fl := b2n r.gap + 2 * b2n r.stalled + 4 * b2n r.retry
    let bs := leBytes 4 0x48435442 ++ leBytes 1 m ++ leBytes 1 kind ++ leBytes 2 recs.length ++
      leBytes 8 tick ++ wordBytes (timeOnly s t) ++ leBytes 2 fl ++ leBytes 2 r.stepSeq ++
      recs.flatMap BatchRec.bytes
    let s1 := setRun s m { r1 with gap := false, stalled := false, retry := false }
    let addr := outBase s p + tail * outSlotBytes s p
    let s2 := if windowOk s1 p true true addr bs.length then hostWrite s1 p addr bs t
      else fenceRefuse s1 .window p .pf0 addr t
    let s3 := wr s2 (Reg.LDG_OUT_TAIL p) (BitVec.ofNat 32 ((tail + 1) % outSlots s p))
    setLdg s3 { s3.ledger with
      outUsed := SMap.put s3.ledger.outUsed p (used + 1)
      wrote := if s3.ledger.wrote.contains p then s3.ledger.wrote else p :: s3.ledger.wrote }

/-- OUTPUT_RING_ENABLE (R395, R527): a write of LDG_OUT_CFG_p. -/
def execOutputRingEnable (p : Nat) (v : Word) (s : State) : Host.Outcome State Fault Refusal :=
  let old := rd s (Reg.LDG_OUT_CFG p)
  if wbit old 4 then .next (wr s (Reg.LDG_OUT_CFG p) (putBitW old 4 (wbit v 4)))
  else
    let w := v &&& 0x07FF001F#32
    let log := fld w 0 4
    let ok := decide (2 ≤ log) && decide (log ≤ 12) &&
      windowOk s p true true (outBase s p) (2 ^ log * outSlotBytes s p) && ownerOf s 0x0C (fld w 16 11) == some p
    .next (wr s (Reg.LDG_OUT_CFG p) (if wbit w 4 && !ok then putBitW w 4 false else w))

/-- LDG_OUT_HEAD_WRITE (R524): slots released up to the new head, when that passes no slot not yet written. -/
def execLdgOutHeadWrite (p : Nat) (v : Word) (s : State) : Host.Outcome State Fault Refusal :=
  let n := outSlots s p
  let head := rdF s (Reg.LDG_OUT_HEAD p) 0 12
  let used := SMap.get s.ledger.outUsed 0 p
  let move := (fld v 0 12 + n - head % n) % n
  if fld v 0 12 < n ∧ move ≤ used then
    .next (setLdg (wr s (Reg.LDG_OUT_HEAD p) (v &&& 0xFFF#32))
      { s.ledger with outUsed := SMap.put s.ledger.outUsed p (used - move) })
  else .next s

/-! ## Candidates for the host (R422) -/

/-- The candidate region of a slot written by posted writes, for a step of tick index `tick`. -/
def writeCandidates (s : State) (k tick : Nat) (md : Model) (logits : List Nat) (t : Nat) : State :=
  let x := slot s k
  let toks := candidates s md x.maskN (rd s (Reg.MSK_SLOT_STATE k)).toNat x.stop logits
  let seq := (run s x.model).stepSeq
  let addr := SMap.get s.ledger.sampleBase 0 x.part + (k - (ldgPart s x.part).slotFirst) * 8192
  let bs := leBytes 4 x.emitted ++ leBytes 2 seq ++ leBytes 2 toks.length ++ leBytes 8 tick ++
    leBytes 8 x.desc.userTag ++ leBytes 8 0 ++ toks.flatMap (fun v => leBytes 4 v ++ leBytes 4 (logits.getD v 0))
  let s1 := setSlot s k { x with candSeq := some seq, returned := none }
  if windowOk s x.part true true addr bs.length then hostWrite s1 x.part addr bs t
  else fenceRefuse s1 .window x.part .pf0 addr t

/-! ## Emission (R420, R421, R431, R432) -/

/-- Tokens emitted by a slot: its automaton advances over them, and they count. -/
def emitTokens (s : State) (k : Nat) (toks : List Nat) : State :=
  let x := slot s k
  let st := toks.foldl (fun a v => autoNext s x.maskN a x.stop v) (rd s (Reg.MSK_SLOT_STATE k)).toNat
  wr (setSlot s k { x with emitted := x.emitted + toks.length }) (Reg.MSK_SLOT_STATE k) (BitVec.ofNat 32 st)

/-- The tokens of a row cut after a stop token, at MAX_NEW and at MAX_CTX (R432). -/
def cutTokens (x : Slot) (md : Model) (toks : List Nat) : List Nat :=
  let room := min (x.maxNew - x.emitted) (md.maxCtx - (x.promptLen + x.emitted))
  let upTo := match toks.findIdx? (fun v => some v == x.stop) with
    | some i => toks.take (i + 1)
    | none => toks
  upTo.take room

/-- RFLAGS of a record whose slot emitted `toks` from `pos`: FIRST, FINAL, HOST_SAMPLE, STOP, MAX_NEW, MAX_CTX. `none_`
says that no token was allowed after them (R421), which matters only where they do not end the request (R432). -/
def recFlags (x : Slot) (md : Model) (toks : List Nat) (none_ : Bool) : Nat :=
  let n := x.emitted + toks.length
  let stop := toks.any (fun v => some v == x.stop)
  let maxNew := !stop && decide (x.maxNew ≤ n)
  let maxCtx := !stop && decide (md.maxCtx ≤ x.promptLen + n)
  b2n (x.emitted == 0 && !toks.isEmpty) + 2 * b2n (stop || maxNew || maxCtx || none_) + 4 * b2n x.hostSample +
    8 * b2n stop + 16 * b2n maxNew + 32 * b2n maxCtx

/-- A row's tokens emitted: its record, and its request ending where they end it. `none_` as in R421. -/
def emitRow (s : State) (k : Nat) (md : Model) (toks : List Nat) (none_ : Bool) (t : Nat) : BatchRec × State :=
  let x := slot s k
  let cut := cutTokens x md toks
  let fl := recFlags x md cut none_
  let r : BatchRec := { slot := k, flags := fl, pos := x.emitted, tag := x.desc.userTag % 2 ^ 32, tokens := cut }
  let s1 := emitTokens s k cut
  let s2 := if none_ && bits fl 3 3 == 0 then raise (bump s1 Reg.MSK_MASK_END_COUNT) Reg.MSK_EVENT 4 .serve false false t else s1
  (r, if bitAt fl 1 then setSlot s2 k { slot s2 k with ending := some (.ok, 0) } else s2)

/-- What a round gives: its tokens, the draft tokens accepted, and whether a position had no allowed token. -/
structure Round where
  toks : List Nat
  accepted : Nat
  blocked : Bool
  deriving DecidableEq, Repr

/-- The positions of a round in order, each under the state after the tokens before it (R431). -/
def roundGo (s : State) (md : Model) (x : Slot) (st : Nat) (acc : List Nat) (n : Nat) :
    List (List Nat) → List Nat → Round
  | [], _ => { toks := acc, accepted := n, blocked := false }
  | l :: ls, ds =>
    match selectToken s md x.maskN st x.stop l, ds with
    | none, _ => { toks := acc, accepted := n, blocked := true }
    | some v, d :: ds' =>
      if v = d then roundGo s md x (autoNext s x.maskN st x.stop v) (acc ++ [v]) (n + 1) ls ds'
      else { toks := acc ++ [v], accepted := n, blocked := false }
    | some v, [] => { toks := acc ++ [v], accepted := n, blocked := false }

/-- The round of one row at the end of a decode or verify step: its tokens from the logits of the positions it computed,
one list of FP32 patterns a position (R420, R431). -/
def roundOf (s : State) (k : Nat) (md : Model) (pos : List (List Nat)) : Round :=
  roundGo s md (slot s k) (rd s (Reg.MSK_SLOT_STATE k)).toNat [] 0 pos (slot s k).draft

/-! ## Finding requests (R377) -/

/-- The live request a control entry of queue `q` names. -/
def controlTarget (s : State) (q : Nat) (d : Desc) : Option Nat :=
  let tg := leAt d.ops 0 2
  let tq := q / 8 * 8 + bits tg 12 3
  let ti := bits tg 0 12
  let tag := leAt d.ops 8 8
  (s.ledger.slots.find? (fun e => e.2.st != 0 && e.2.order.isNone && e.2.queue == tq && e.2.index == ti &&
    e.2.desc.userTag == tag)).map (·.1)

/-- A chunk of a slot runs. -/
def chunkRuns (s : State) (k : Nat) : Bool :=
  s.sched.items.any (fun e => e.2.ph == .running && (match e.2.src with
    | .chunk _ j _ => j == k
    | _ => false))

/-- A mask change in a step of a MULTI model waits on its lead as on every other module (R391). -/
def deferMask (s : State) (m k : Nat) : State :=
  let r := run s m
  setRun s m { r with updates := r.updates ++
    [{ slot := k, st := 7, masked := true, step := r.stepNo, microstep := r.microstep + 2 }] }

/-- A slot's request is ended at the end of its step or chunk in progress, and at once when none is. -/
def endSoon (s : State) (k : Nat) (st : Status) (d t : Nat) : State :=
  let x := slot s k
  let inStep := (run s x.model).running && (run s x.model).rows.contains k
  let busy := if x.st = 1 then chunkRuns s k else inStep
  let waits := inStep && (model? s x.model).any (·.multi)
  let s0 := if waits then deferMask s x.model k else s
  let s1 := setSlot s0 k { x with masked := x.masked || !waits, midStep := x.midStep || inStep, ending := some (st, d) }
  if busy then sendUpdate (setSlot s1 k { slot s1 k with st := 7 }) x.model k 7 true else settleSlot s1 k t

/-- The order of a DECODE request in PREFILL is withdrawn (R415). -/
def withdrawOrder (s : State) (k : Nat) : State :=
  let x := slot s k
  match model? s x.model with
  | some md => if md.place = 1 ∧ x.st = 1 then sendCtl s md.peerMod 0 (.orderWithdraw k) else s
  | none => s

/-- A cancellation of a live request (R389, R390, R415). -/
def cancelSlot (s : State) (k t : Nat) : State :=
  let x := slot s k
  let s0 := bump s Reg.LDG_CANCEL_COUNT
  if x.st = 7 then s
  else if x.st = 1 ∨ x.st = 2 then endSoon (withdrawOrder s0 k) k .cancelled 0 t
  else
    endRequest s0 k .cancelled (cancelDetail x false true) t

/-! ## Queue shutdown and partition deactivation -/

/-- The live requests of a queue that stops: masked as by a cancellation; their records are the queue's (R183). -/
def dropQueueRequests (s : State) (q t : Nat) : State :=
  ((liveSlots s).filter (fun k => (slot s k).queue == q && (slot s k).order.isNone)).foldl (fun s k =>
    let x := slot s k
    let s1 := withdrawOrder (setSlot s k { x with queue := 64, pause := none, resume := none }) k
    if x.st = 1 ∨ x.st = 2 ∨ x.st = 7 then endSoon s1 k .aborted 0 t else endRequest s1 k .aborted 0 t) s

/-- The live requests of a partition that is deactivated end with ABORTED (R159). -/
def dropPartRequests (s : State) (p t : Nat) : State :=
  ((liveSlots s).filter (fun k => (slot s k).part == p)).foldl (fun s k =>
    endRequest (withdrawOrder s k) k .aborted (b2n ((run s (slot s k).model).rows.contains k)) t) s

end Sys2Proof.Machine
end

