-- ==== Sys2Proof/Machine/Serving.lean ====
section
/-! DEFINITION. The commands of the Ledger: steps, chunks, microsteps, pauses, resumes, orders and ships (chapters 15 and
16), and what the Ledger does at an admission gate. -/

namespace Sys2Proof.Machine

/-! ## Steps -/

/-- The rows of a step: the DECODE slots of its model; a DRAFT model's are its verifier's that speculate. -/
def stepRows (s : State) (m : Nat) (md : Model) : List Nat :=
  if md.place = 3 then (slotsOf s md.peerModel).filter (fun k => (slot s k).st == 2 && (slot s k).speculate)
  else (slotsOf s m).filter (fun k => (slot s k).st == 2)

/-- A HOST_SAMPLE row at the start of a step (R424, R425): masked in later steps of the tick, and, counted, when its
return has not come; one whose return was refused stays masked. -/
def startRow (inTick t : Nat) (s : State) (k : Nat) : State :=
  let x := slot s k
  if !x.hostSample then setSlot s k { x with masked := false }
  else if 0 < inTick then setSlot s k { x with masked := true }
  else if x.candSeq.isSome && x.returned.isNone && x.hostRefused then setSlot s k { x with masked := true }
  else if x.candSeq.isSome && x.returned.isNone then
    raise (bump (setSlot s k { x with masked := true }) Reg.MSK_HOST_LATE_COUNT) Reg.MSK_EVENT 2 .serve false false t
  else setSlot s k { x with masked := false }

/-- An entry of the gather list (Table 16.5). -/
def gatherEntry (s : State) (k : Nat) : List Byte :=
  let a := (slot s k).adapter
  let w := rd s (Reg.MSK_ADAPTER_W0 a)
  if a = 0xFFFF then leBytes 4 (k % 1024) ++ leBytes 4 0xFFFF ++ leBytes 8 0
  else
    leBytes 4 (k % 1024 + fld w 8 7 * 65536) ++ leBytes 4 a ++ leBytes 4 (rd s (Reg.MSK_ADAPTER_W2 a)).toNat ++
      leBytes 4 (rd s (Reg.MSK_ADAPTER_W3 a)).toNat

/-- A slot update applied (R391). -/
def applyUpdate (m : Nat) (s : State) (u : SlotUpdate) : State :=
  let x := slot s u.slot
  if u.st = 0 then setLdg s { s.ledger with slots := SMap.del s.ledger.slots u.slot }
  else setSlot s u.slot { x with
    st := u.st, model := m, masked := u.masked
    part := match model? s m with
      | some md => md.part
      | none => x.part }

/-- An update is due: its step and microstep have come. -/
def updateDue (r : ModelRun) (u : SlotUpdate) : Bool :=
  decide (u.step < r.stepNo) || (u.step == r.stepNo && decide (u.microstep ≤ r.microstep))

/-- The updates of a model that are due applied. -/
def applyUpdates (s : State) (m : Nat) : State :=
  let r := run s m
  (r.updates.filter (updateDue r)).foldl (applyUpdate m)
    (setRun s m { r with updates := r.updates.filter (fun u => !updateDue r u) })

/-- The MSUM mask of a step collective of `n` elements over the batch's rows (R222, R387): an equal share of the
elements a row, set where the row is live. -/
def rowMask (s : State) (rows : List Nat) (n : Nat) : List Byte :=
  let per := n / max rows.length 1
  let live := fun e => match rows[e / max per 1]? with
    | some k => (slot s k).st != 0 && !(slot s k).masked
    | none => false
  (List.range (ceilDiv n 8)).map (fun b =>
    BitVec.ofNat 8 (sumNat ((List.range 8).map (fun j => b2n (decide (8 * b + j < n) && live (8 * b + j)) * 2 ^ j))))

/-- The mask of one collective item written, where it is an MSUM step collective of the model with a source here. -/
def writeMask (m : Nat) (md : Model) (s : State) (it : Item) : State :=
  let a := collArgs it.desc.ops
  let n := it.desc.lanes % 32
  if it.desc.opcode == 3 && it.ph != .done && bitAt md.stepStreams n && a.redFn == 6 && (rankOn s (group s a.group) n).isSome then
    let off := a.src + ceilDiv (a.count * fmtBytes a.fmt) 64 * 64
    let bs := rowMask s (run s m).rows a.count
    if a.srcCore then
      { s with mems := { s.mems with csram := Mem.writeN 0#8 s.mems.csram (a.tileFlag / 48 * 12582912 + off) bs } }
    else memWrite s off bs
  else s

/-- The masks of a model's step collectives written, before each microstep (R387, R407): those of the collectives on its
streams that have not ended, so that one which starts within the microstep has its mask too. -/
def writeMasks (s : State) (m : Nat) (md : Model) : State := (s.sched.items.map (·.2)).foldl (writeMask m md) s

/-- A step of model `m` starts as work item `i` (R419, R424): the updates due at its start are applied, then its rows, its
masks, which the lead of a MULTI model tells the others (R391), those of its collectives, and its gather list. -/
def beginStep (s : State) (i m t : Nat) : State :=
  match model? s m with
  | none => s
  | some md =>
    let s0 := applyUpdates s m
    let rows := stepRows s0 m md
    let r := run s0 m
    let s1 := if md.place = 3 then
        (if r.inTick = 0 then rows.foldl (fun s k => setSlot s k { slot s k with draft := [] }) s0 else s0)
      else if leads s0 md then rows.foldl (startRow r.inTick t) s0 else s0
    let s2 := setRun s1 m { r with running := true, rows := rows, microstep := 0, inTick := r.inTick + 1 }
    let s3 := rows.foldl (fun s k => if (slot s k).masked != (slot s0 k).masked then
      sendUpdate s m k (slot s k).st (slot s k).masked else s) s2
    let s4 := writeMasks s3 m md
    let bs := rows.flatMap (gatherEntry s4)
    if md.adapterBpr = 0 ∨ bs.isEmpty = true then s4
    else if windowOk s4 md.part false true md.gatherBase bs.length then memWrite s4 md.gatherBase bs
    else finishItem (fenceRefuse s4 .window md.part .pf0 md.gatherBase t) i [(.windowViolation, 8)] none t

/-- MICROSTEP_BOUNDARY (R387, R391): the step of model `m` reaches its next microstep. -/
def execMicrostepBoundary (m : Nat) (s : State) : Host.Outcome State Fault Refusal :=
  match model? s m with
  | none => .next s
  | some md =>
    let r := run s m
    if !r.running then .next s
    else
      let s1 := applyUpdates (setRun s m { r with microstep := r.microstep + 1 }) m
      .next (writeMasks s1 m md)

/-- SLOT_UPDATE_RX (R391, R392): kept until its step and microstep; late, it applies at the next boundary and is
counted. -/
def execSlotUpdateRx (m k st : Nat) (masked : Bool) (step microstep t : Nat) (s : State) :
    Host.Outcome State Fault Refusal :=
  let r := run s m
  let u : SlotUpdate := { slot := k, st := st, masked := masked, step := step, microstep := microstep }
  let late := decide (step < r.stepNo) || (step == r.stepNo && r.running && decide (microstep ≤ r.microstep))
  let s1 := setRun s m { r with updates := r.updates ++ [u] }
  if late then .next (raise (bump s1 Reg.LDG_UPDATE_LATE_COUNT) Reg.LDG_EVENT 4 .serve false false t) else .next s1

/-- The automaton state after a draft's proposals. -/
def draftState (s : State) (k : Nat) : Nat :=
  let x := slot s k
  x.draft.foldl (fun a v => autoNext s x.maskN a x.stop v) (rd s (Reg.MSK_SLOT_STATE k)).toNat

/-- A draft step's proposal for one row (R431): none after the stop token, where no token is allowed, or past
DRAFT_LEN. -/
def draftRow (md : Model) (rows : List (Nat × List (List Nat))) (s : State) (k : Nat) : State :=
  let x := slot s k
  let stopped := x.draft.any (fun v => some v == x.stop)
  let len := match model? s x.model with
    | some v => v.draftLen
    | none => 0
  if stopped || decide (len ≤ x.draft.length) then s
  else match selectToken s md x.maskN (draftState s k) x.stop (((SMap.get? rows k).getD []).headD []) with
    | some v => setSlot s k { x with draft := x.draft ++ [v] }
    | none => s

/-- One live row at the end of a decode or verify step of tick index `tick`: its record and its effects (R420–R423, R431). -/
def decodeRow (md : Model) (rows : List (Nat × List (List Nat))) (tick t : Nat) (a : List BatchRec × State) (k : Nat) :
    List BatchRec × State :=
  let s := a.2
  let x := slot s k
  let pos := (SMap.get? rows k).getD []
  if x.hostSample then
    let r := emitRow s k md x.returned.toList false t
    let y := slot r.2 k
    let s1 := if y.ending.isSome then setSlot r.2 k { y with returned := none, candSeq := none }
      else writeCandidates r.2 k tick md (pos.headD []) t
    (a.1 ++ [r.1], s1)
  else
    let rd_ := roundOf s k md pos
    let blocked := rd_.blocked && !rd_.toks.any (fun v => some v == x.stop)
    let r := emitRow s k md rd_.toks blocked t
    let s1 := setSlot r.2 k { slot r.2 k with draft := [] }
    let spec := x.speculate && md.draftModel != 255
    (a.1 ++ [r.1], if spec then bumpN (bump s1 Reg.MSK_SPEC_ROUNDS_COUNT) Reg.MSK_SPEC_ACCEPT_COUNT rd_.accepted else s1)

/-- A work item has no ground for a failure, and its deadline has not come (R41). -/
def itemClean (s : State) (i t : Nat) : Bool :=
  match (pickStatus ((item s i).grounds ++ guardCause s (item s i) t)).1 with
  | .ok | .timeDiscontinuity => true
  | _ => false

/-- An item of the Ledger whose model entry is failed closed has nothing to work with (R441): it ends POISONED. -/
def endModelless (s : State) (i t : Nat) : State :=
  if (item s i).ph ≠ .running then s else finishItem s i [(.poisoned, 5)] none t

/-- DECODE_STEP_END (R393, R396, R420, R431): the step that runs as item `i` ends; `rows` holds, by slot, the FP32
logits of each position the step computed. A step with a ground for failure fails. Of a MULTI model only the lead emits and
writes the batch (R391). -/
def execDecodeStepEnd (i : Nat) (rows : List (Nat × List (List Nat))) (t : Nat) (s : State) :
    Host.Outcome State Fault Refusal :=
  match (item s i).src with
  | .step m _ =>
    match model? s m with
    | none => .next (endModelless s i t)
    | some md =>
      let r := run s m
      if (item s i).ph ≠ .running ∨ r.running = false then .next s
      else if !itemClean s i t then .next (finishItem s i [] none t)
      else
        let s1 := finishItem s i [] none t
        if md.place = 3 then .next (stepOver (r.rows.foldl (draftRow md rows) s1) m t)
        else if !leads s md then .next (stepOver s1 m t)
        else
          let live := r.rows.filter (fun k => (slot s1 k).st == 2 && !(slot s1 k).masked)
          let res := live.foldl (decodeRow md rows (item s i).tick t) ([], s1)
          let s2 := writeBatch res.2 m 0 (item s i).tick md res.1 t
          .next (stepOver (setRun s2 m { run s2 m with fails := 0, lastFail := none }) m t)
  | _ => .next s

/-! ## Prefill (R375, R384) -/

/-- The fair-queue tags after a chunk of `q` tokens of class `c` (R384). -/
def chargeClass (s : State) (m : Nat) (md : Model) (c q : Nat) : State :=
  let r := run s m
  let sc := max r.vtime (r.finish.getD c 0)
  setRun s m { r with
    vtime := sc % 2 ^ 64
    finish := r.finish.set c ((sc + ceilDiv (q * 65536) (max ((ldgPart s md.part).weights.getD c 1) 1)) % 2 ^ 64) }

/-- A RESUME in hand completes with OK. -/
def resumeDone (s : State) (k t : Nat) : State :=
  let x := slot s k
  match x.resume with
  | some c => endControl (setSlot s k { x with resume := none }) c x.controlSteps .ok 0 t
  | none => s

/-- The pages of an order's slot shipped to the decode lead, with the first token and the automaton state (R412). No
allowed first token travels as 0xFFFF_FFFF. -/
def startShip (s : State) (k : Nat) (md : Model) (logits : List Nat) (t : Nat) : State :=
  let x := slot s k
  match x.order with
  | none => s
  | some o =>
    let tok := selectToken s md x.maskN (rd s (Reg.MSK_SLOT_STATE k)).toNat x.stop logits
    let st := match tok with
      | some v => autoNext s x.maskN (rd s (Reg.MSK_SLOT_STATE k)).toNat x.stop v
      | none => (rd s (Reg.MSK_SLOT_STATE k)).toNat
    let n := ceilDiv x.promptLen (max (tokensPerPage s md) 1)
    let size := 2 ^ (ldgPart s x.part).pageLog2
    let pieces := (List.range n).flatMap (fun i =>
      piecesOf (i * size) (pageAddr s x.part (x.pages.getD i 0)) (memRead s (pageAddr s x.part (x.pages.getD i 0)) size))
    let last : Piece := { msg := .shipDone (leAt o.bytes 6 2), offset := n * size, addr := 0,
                          data := leBytes 4 (tok.getD 0xFFFFFFFF) ++ leBytes 4 st }
    let s1 := setSlot s k { x with shipSeq := some s.clock.seq, firstToken := tok.getD 0xFFFFFFFF }
    startTransfer s1 x.part (md.kvChannel % 16) o.src k true (pieces ++ [last]) t

/-- A prompt completed on the module that decodes it (R375, R393): its first token, or its candidates, in a batch of KIND
1, and the slot in DECODE. -/
def promptDone (s : State) (k tick : Nat) (md : Model) (logits : List Nat) (t : Nat) : State :=
  let s0 := setSlotSt s k 2
  let r := decodeRow md [(k, [logits])] tick t ([], s0) k
  writeBatch r.2 (slot s k).model 1 tick md r.1 t

/-- PREFILL_CHUNK_END (R375, R384, R404, R412): the chunk that runs as item `i` ends; `logits` are those of its last
token. -/
def execPrefillChunkEnd (i : Nat) (logits : List Nat) (t : Nat) (s : State) : Host.Outcome State Fault Refusal :=
  match (item s i).src with
  | .chunk m k q =>
    match model? s m with
    | none => .next (endModelless s i t)
    | some md =>
      if (item s i).ph ≠ .running then .next s
      else if !itemClean s i t then .next (finishItem s i [] none t)
      else
        let s1 := chargeClass (finishItem s i [] none t) m md (slot s k).cls q
        let s2 := setRun s1 m { run s1 m with fails := 0 }
        let x := slot s2 k
        if x.model ≠ m ∨ x.st = 0 ∨ leads s md = false then .next s2
        else
          let s3 := setSlot s2 k { x with todo := x.todo - q }
          if x.ending.isSome then .next (settleSlot s3 k t)
          else if x.todo - q ≠ 0 then .next (settleSlot s3 k t)
          else if x.summary then
            .next (settleSlot (resumeDone (setSlotSt (setSlot s3 k { slot s3 k with summary := false }) k 2) k t) k t)
          else if md.place = 2 then .next (reapTransfers (startShip s3 k md logits t) t)
          else .next (settleSlot (promptDone s3 k (item s i).tick md logits t) k t)
  | _ => .next s

/-! ## Pauses (R400–R403) -/

/-- COLD_PAUSE_COMPLETE (R401): the pages of a slot in PAUSING are written to its host buffer in page order; a Fence
refusal completes the PAUSE with WINDOW_VIOLATION and returns the slot to the state it paused from. -/
def execColdPauseComplete (k t : Nat) (s : State) : Host.Outcome State Fault Refusal :=
  let x := slot s k
  match x.pause with
  | some (q, i, ds, 1) =>
    if x.st ≠ 3 then .next s
    else
      let size := 2 ^ (ldgPart s x.part).pageLog2
      if x.pages.any (fun pg => memPoisoned s (pageAddr s x.part pg) size) then .next (endRequest s k .poisoned 5 t)
      else
        let r := x.pages.zipIdx.foldl (fun (a : State × Bool) e =>
          let addr := x.hostAddr + e.2 * size
          if !a.2 then a
          else if windowOk a.1 x.part true true addr size then
            (hostWrite a.1 x.part addr (memRead a.1 (pageAddr s x.part e.1) size) t, true)
          else (fenceRefuse a.1 .window x.part .pf0 addr t, false)) (s, true)
        if r.2 then
          let s1 := setSlotSt (releasePages r.1 k) k 4
          .next (endControl (setSlot s1 k { slot s1 k with pause := none, ttlOn := false }) (q, i, ds) x.controlSteps .ok 0 t)
        else .next (pauseFailed r.1 k .windowViolation 8 t)
  | _ => .next s

/-- SUMMARY_STORE_COMPLETE (R402): the summary kernel that runs as item `i` has stored its pages; the rest are freed. The
item of a pause that was cancelled (R390) just ends. -/
def execSummaryStoreComplete (i t : Nat) (s : State) : Host.Outcome State Fault Refusal :=
  match (item s i).src with
  | .summary m k =>
    match model? s m, (slot s k).pause with
    | some md, some (q, j, ds, _) =>
      if (item s i).ph ≠ .running then .next s
      else if !itemClean s i t then .next (finishItem s i [] none t)
      else
        let s1 := chargeClass (finishItem s i [] none t) m md (slot s k).cls md.summaryTokens
        let n := ceilDiv md.summaryBytes (2 ^ (ldgPart s md.part).pageLog2)
        let x := slot s1 k
        let s2 := takePages (releasePages s1 k) k (x.pages.take n)
        let s3 := setSlotSt s2 k 5
        .next (endControl (setSlot s3 k { slot s3 k with pause := none, ttlOn := false }) (q, j, ds) x.controlSteps .ok 0 t)
    | _, _ => if (item s i).ph ≠ .running then .next s else .next (finishItem s i [] none t)
  | _ => .next s

/-- PAUSE_TTL_EXPIRY (R403). -/
def execPauseTtlExpiry (k t : Nat) (s : State) : Host.Outcome State Fault Refusal :=
  let x := slot s k
  if (x.st = 4 ∨ x.st = 5) ∧ x.ttlOn = true ∧ x.ttl = 0 then
    let s1 := raise (bump s Reg.LDG_EXPIRE_COUNT) Reg.LDG_EVENT 3 .serve false false t
    .next (endRequest s1 k .cancelled (cancelDetail x true false) t)
  else .next s

/-- COLD_RESUME_COMPLETE (R404): every page has been read back, or a read failed. -/
def execColdResumeComplete (k : Nat) (fail : Option ReadFail) (t : Nat) (s : State) :
    Host.Outcome State Fault Refusal :=
  let x := slot s k
  if x.st ≠ 6 then .next s
  else match fail with
    | some f =>
      .next (endRequest s k .poisoned f.code t)
    | none => if x.reads = 0 then .next (resumeDone (setSlotSt s k 2) k t) else .next s

/-- A PAUSE taken at an admission gate (R379, R400). -/
def takePause (s : State) (q : Nat) (c : CacheSlot) (t : Nat) : State :=
  let bad := completeEntry s q c.index c.desc .descInvalid 8 false false false t
  match controlTarget s q c.desc with
  | none => bad
  | some k =>
    let x := slot s k
    let mode := leAt c.desc.ops 0x10 1
    let noSummary := match model? s x.model with
      | some md => md.summaryBytes == 0
      | none => true
    if !(x.st == 1 || x.st == 2) || x.pause.isSome || (mode == 2 && noSummary) then bad
    else
      let qu := queue s q
      let s1 := startFetch (setQueue s q { qu with cache := qu.cache.filter (fun z => z.index != c.index) }) q t
      let s2 := setSlot s1 k { x with
        pause := some (q, c.index, c.desc, mode), controlSteps := c.steps, ttl := leAt c.desc.ops 0x14 4, hostAddr := leAt c.desc.ops 0x18 8 }
      let busy := chunkRuns s k || ((run s x.model).running && (run s x.model).rows.contains k)
      if busy then s2 else beginPause s2 k

/-- A RESUME at an admission gate (R379, R404): taken when it passes the memory claim and the time test; left cached
otherwise. -/
def takeResume (s : State) (q : Nat) (c : CacheSlot) (t : Nat) : State :=
  match controlTarget s q c.desc with
  | none => completeEntry s q c.index c.desc .descInvalid 8 false false false t
  | some k =>
    let x := slot s k
    if !(x.st == 4 || x.st == 5) then completeEntry s q c.index c.desc .descInvalid 8 false false false t
    else match model? s x.model with
      | none => s
      | some md =>
        match freePages s x.part (pagesFor s md x.ctx - x.pages.length) with
        | none => s
        | some l =>
          if !timeTest s x.model x.ctx then s
          else
            let qu := queue s q
            let s1 := startFetch (setQueue s q { qu with cache := qu.cache.filter (fun z => z.index != c.index) }) q t
            let s2 := takePages (setSlot s1 k { x with resume := some (q, c.index, c.desc), controlSteps := c.steps, ttlOn := false }) k l
            if x.st = 5 then
              setSlotSt (setSlot s2 k { slot s2 k with todo := md.summaryTokens, summary := true }) k 1
            else
              let size := 2 ^ (ldgPart s x.part).pageLog2
              let n := (slot s2 k).pages.length
              let parts := ((slot s2 k).pages.zipIdx).flatMap (fun e =>
                (readPieces (x.hostAddr + e.2 * size) size).map (fun r =>
                  (pageAddr s x.part e.1 + r.1, x.hostAddr + e.2 * size + r.1, r.2)))
              let s3 := setSlotSt (setSlot s2 k { slot s2 k with reads := parts.length }) k 6
              if windowOk s3 x.part true false x.hostAddr (n * size) then
                parts.foldl (fun s e => issueRead s (.coldResume k e.1 e.2.2) e.2.1 e.2.2) s3
              else endRequest (fenceRefuse s3 .window x.part .pf0 x.hostAddr t) k .windowViolation 0 t

/-- The paused slots' TTL at a tick edge (R403). -/
def tickTtl (s : State) : State :=
  setLdg s { s.ledger with slots := SMap.mapV (fun _ x =>
    if x.st = 4 ∨ x.st = 5 then (if x.ttlOn then { x with ttl := x.ttl - 1 } else { x with ttlOn := true }) else x) s.ledger.slots }

/-- A tick without a step for a slot in DECODE (R399), and the steps of the new tick counted from 0. -/
def tickStalls (s : State) (t : Nat) : State :=
  let late := SMap.keysWhere (fun m (r : ModelRun) => r.expect && r.inTick == 0 &&
    (slotsOf s m).any (fun k => (slot s k).st == 2)) s.ledger.runs
  let s1 := late.foldl (fun s m => setRun s m { run s m with stalled := true }) s
  let s2 := if late.isEmpty then s1 else raise (bump s1 Reg.LDG_STALL_TICKS_COUNT) Reg.LDG_EVENT 5 .serve false false t
  let s3 := (SMap.keysWhere (fun _ (_ : Model) => true) s2.ledger.models).foldl (fun s m =>
    setRun s m { run s m with inTick := 0, expect := (slotsOf s m).any (fun k => (slot s k).st == 2) }) s2
  s3

/-- At the gate: shipped slots enter DECODE (R413), the sample and return areas written since take effect, and host
returns are read (R423). -/
def gateLedger (s : State) (t : Nat) : State :=
  let s1 := (SMap.keysWhere (fun _ (x : Slot) => x.shipped && x.st == 1) s.ledger.slots).foldl (fun s k =>
    setSlotSt (setSlot s k { slot s k with shipped := false }) k 2) s
  let base := fun lo hi al => (rd s lo).toNat / al * al + (rd s hi).toNat * 2 ^ 32
  let s2 := (List.range (numParts s)).foldl (fun s p => setLdg s { s.ledger with
    sampleBase := SMap.put s.ledger.sampleBase p (base (Reg.MSK_SAMPLE_BASE_LO p) (Reg.MSK_SAMPLE_BASE_HI p) 8192)
    returnBase := SMap.put s.ledger.returnBase p (base (Reg.MSK_RETURN_BASE_LO p) (Reg.MSK_RETURN_BASE_HI p) 4096) }) s1
  (SMap.keysWhere (fun _ (x : Slot) => x.st == 2 && x.hostSample && x.candSeq.isSome && x.returned.isNone)
      s2.ledger.slots).foldl (fun s k =>
    let p := (slot s k).part
    let addr := SMap.get s.ledger.returnBase 0 p + (k - (ldgPart s p).slotFirst) * 8
    if windowOk s p true false addr 8 then issueRead s (.hostReturn p k) addr 8
    else fenceRefuse s .window p .pf0 addr t)
    (setLdg s2 { s2.ledger with slots := SMap.mapV (fun _ x => { x with hostRefused := false }) s2.ledger.slots })

/-- A host return read (R423, R424). -/
def takeReturn (s : State) (k : Nat) (bs : List Byte) (t : Nat) : State :=
  let x := slot s k
  let w := leAt bs 0 8
  let tok := bits w 0 18
  if x.st ≠ 2 ∨ x.hostSample = false ∨ bitAt w 31 = false ∨ x.candSeq ≠ some (bits w 32 16) ∨ x.returned.isSome then s
  else if autoAllows s x.maskN (rd s (Reg.MSK_SLOT_STATE k)).toNat x.stop tok then
    setSlot s k { x with returned := some tok }
  else raise (bump (setSlot s k { x with hostRefused := true }) Reg.MSK_HOST_REFUSE_COUNT) Reg.MSK_EVENT 3 .serve false false t

/-! ## Orders and ships (R409–R415) -/

/-- An order refused with a notice to the decode lead. -/
def refuseOrder (s : State) (o : Order) (t : Nat) : State :=
  let s1 := raise (bump s Reg.MSK_ORDER_REFUSE_COUNT) Reg.MSK_EVENT 6 .serve false false t
  sendCtl s1 o.src 0 (.orderRefuse (leAt o.bytes 6 2) 0)

/-- ORDER_RX (R410): an order of partition key `key` from module `src` is queued or refused. -/
def execOrderRx (bytes : List Byte) (src key t : Nat) (s : State) : Host.Outcome State Fault Refusal :=
  let o : Order := { bytes := bytes, seq := s.clock.seq, src := src }
  let m := leAt bytes 5 1
  match model? s m, partOfKey s key with
  | some md, some p =>
    let ok := md.place == 2 && md.part == p && decide ((run s m).orders.length < 64) && leAt bytes 0x10 4 == md.kvb &&
      leAt bytes 0x14 1 == (ldgPart s p).pageLog2 && adapterOk s (leAt bytes 0x0A 2) p m && maskOk s (leAt bytes 9 1) p
    if ok then .next (setRun s m { run s m with orders := (run s m).orders ++ [o] }) else .next (refuseOrder s o t)
  | _, _ => .next (refuseOrder s o t)

/-- The slot of an admitted order, in PREFILL. -/
def slotOfOrder (s : State) (m p : Nat) (o : Order) : Slot :=
  let b := o.bytes
  let stop := leAt b 0x20 4
  { Slot.free with
    st := 1, model := m, cls := bits (leAt b 8 1) 0 3, part := p, queue := 64, order := some o
    promptLen := leAt b 0x0C 4, maskN := leAt b 9 1, adapter := leAt b 0x0A 2, todo := leAt b 0x0C 4
    stop := if bitAt stop 31 then some (bits stop 0 18) else none, steps := s.clock.steps, age := s.ledger.nextAge
    desc := { Desc.zero with userTag := leAt b 0x18 8 } }

/-- LDG_ORDER_ADMIT (R410, R527): the oldest queued order of a PREFILL model claims a slot and its pages. -/
def execLdgOrderAdmit (v : Word) (t : Nat) (s : State) : Host.Outcome State Fault Refusal :=
  let m := fld v 0 4
  let result := fun (s : State) (code k : Nat) => wr s Reg.LDG_ORDER_RESULT (BitVec.ofNat 32 (k % 1024 + code * 1024 + 2 ^ 31))
  match model? s m with
  | none => .next (result s 4 0)
  | some md =>
    if md.place ≠ 2 then .next (result s 4 0)
    else match (run s m).orders with
      | [] => .next (result s 3 0)
      | o :: rest =>
        let x := slotOfOrder s m md.part o
        match claim s m md (pagesFor s md x.promptLen) with
        | .inr code => .next (result (refuseClaim s code t) code 0)
        | .inl (k, l) =>
          let s1 := takePages (setSlot s k x) k l
          let s2 := setRun (setLdg s1 { s1.ledger with nextAge := s1.ledger.nextAge + 1 }) m
            { run s1 m with orders := rest }
          .next (result (wr s2 (Reg.MSK_SLOT_STATE k) (BitVec.ofNat 32 (leAt o.bytes 0x24 4))) 0 k)

/-- ORDER_REFUSE_NOTICE_RX (R410): the request ends with NOT_ADMITTED, DETAIL bit 8 set. A notice with a reason tells of a
failure on the prefill lead (R414): its status code, with DETAIL above it (log entry 80). -/
def execOrderRefuseNoticeRx (k reason t : Nat) (s : State) : Host.Outcome State Fault Refusal :=
  let x := slot s k
  match model? s x.model with
  | some md =>
    if x.st = 1 ∧ x.order.isNone = true ∧ md.place = 1 then
      if reason = 0 then .next (endRequest s k .notAdmitted 256 t)
      else .next (shipFailed s k (Status.ofCode (reason % 256)) (reason / 256) t)
    else .next s
  | none => .next s

/-- ORDER_QUEUE_TIMEOUT (R411): the oldest order of a model, still queued after SHIP_LIMIT ticks, is refused. -/
def execOrderQueueTimeout (m t : Nat) (s : State) : Host.Outcome State Fault Refusal :=
  match model? s m, (run s m).orders with
  | some md, o :: rest =>
    if o.seq + md.shipLimit ≤ s.clock.seq then .next (refuseOrder (setRun s m { run s m with orders := rest }) o t)
    else .next s
  | _, _ => .next s

/-- Transfers of a slot given up: their packets are no longer kept. -/
def dropTransfers (s : State) (k : Nat) : State :=
  let mine := s.fab.transfers.filter (fun x => x.order == k && x.status.isNone)
  let s1 := mine.foldl (fun s tr => endTransfer s tr .aborted 0) s
  setFab s1 { s1.fab with transfers := s1.fab.transfers.filter (fun x => !(x.order == k && x.status == some (.aborted, 0))) }

/-- ORDER_WITHDRAW_RX (R415): the decode lead withdraws an order: it is dropped when queued; its chunk or ship stops and
its slot is freed at the end of the chunk. -/
def execOrderWithdrawRx (src decSlot : Nat) (s : State) : Host.Outcome State Fault Refusal :=
  let hit := fun (o : Order) => o.src == src && leAt o.bytes 6 2 == decSlot
  let s1 := setLdg s { s.ledger with runs := SMap.mapV (fun _ r => { r with orders := r.orders.filter (fun o => !hit o) }) s.ledger.runs }
  .next ((SMap.keysWhere (fun _ (x : Slot) => match x.order with
    | some o => hit o
    | none => false) s1.ledger.slots).foldl (fun s k =>
      if chunkRuns s k then setSlot s k { slot s k with ending := some (.cancelled, 0), masked := true, st := 7 }
      else freeSlot (dropTransfers s k) k) s1)

/-- Pages of a slot written from the bytes of a ship (R413). -/
def writePages (s : State) (p size : Nat) (bs : List Byte) : List Nat → State
  | [] => s
  | pg :: rest => writePages (memWrite s (pageAddr s p pg) (slice bs 0 size)) p size (bs.drop size) rest

/-- KV_SHIP_COMPLETE (R413): the last page of a ship to decode slot `k` is written; its first token (none where no token
was allowed) goes out in a batch of KIND 1, and the slot enters DECODE at the next gate. -/
def execKvShipComplete (k : Nat) (pages : List Byte) (token : Option Nat) (autoSt t : Nat) (s : State) :
    Host.Outcome State Fault Refusal :=
  let x := slot s k
  match model? s x.model with
  | none => .next s
  | some md =>
    if x.st ≠ 1 ∨ md.place ≠ 1 ∨ x.shipped = true ∨ x.order.isSome then .next s
    else
      let size := 2 ^ (ldgPart s x.part).pageLog2
      let n := ceilDiv x.promptLen (max (tokensPerPage s md) 1)
      let s1 := writePages s x.part size pages (x.pages.take n)
      let r := emitRow (setSlot s1 k { slot s1 k with todo := 0, shipped := true }) k md token.toList token.isNone t
      let s2 := wr r.2 (Reg.MSK_SLOT_STATE k) (BitVec.ofNat 32 autoSt)
      .next (settleSlot (writeBatch s2 x.model 1 s.clock.index md [r.1] t) k t)

/-- KV_SHIP_TIMEOUT (R414): a ship not acknowledged within SHIP_LIMIT ticks of its start ends its request with LINK_FAULT,
DETAIL 2, at either end. -/
def execKvShipTimeout (k t : Nat) (s : State) : Host.Outcome State Fault Refusal :=
  let x := slot s k
  match model? s x.model with
  | none => .next s
  | some md =>
    if x.order.isSome ∧ x.shipSeq.any (fun q => decide (q + md.shipLimit ≤ s.clock.seq)) = true then
      .next (shipFailed (dropTransfers s k) k .linkFault 2 t)
    else if x.st = 1 ∧ md.place = 1 ∧ x.shipped = false then .next (shipFailed (dropTransfers s k) k .linkFault 2 t)
    else .next s

end Sys2Proof.Machine
end

