-- ==== Sys2Proof/Machine/Link.lean ====
section
/-! DEFINITION. The Aethil links and the die-to-die bridge (chapter 12): flits and replay, port states, bring-up,
capability exchange, width changes and link faults. -/

namespace Sys2Proof.Machine

/-! ## Ports -/

/-- Port `n` exists on the build and is enabled (Table 12.5). -/
def portPresent (s : State) (n : Nat) : Bool := decide (n < s.build.ports) && wbit (rd s Reg.LNK_PORT_EN) n

/-- STATE of a port: DISABLED where it is absent or not enabled. -/
def portSt (s : State) (n : Nat) : PortState := if portPresent s n then (port s n).st else .disabled

/-- A joined port's state by its width (Table 12.5). -/
def joinedSt (mask : Nat) : PortState := if popcount mask 4 = 4 then .active else .degraded

/-- A port waiting at an earlier link layer is cleared for a new bring-up: SEQ and ACK start at 0 and nothing is kept. -/
def Port.clear (p : Port) : Port :=
  { p with
    txSeq := 0, rxSeq := 0, replay := [], gap := false, fault := none, txFault := none, rxPartial := none
    arriving := none, rxBuf := [], changing := false, changingTx := false, capPassed := false, ackRx := false, refuse := 0, widthReq := none, owed := [0, 0, 0]
    joinTx := none, joinRx := none, recal := none }

/-- The receive buffers advertised per class, in flits (Table 12.1, R303). -/
def rxBuffers : List Nat := [32, 1024, 512]

/-- The packets of port `n` that faulted leave by the routes then in force (R337). -/
def rerouteWaiting (s : State) (n : Nat) (l : List TxWait) : State := l.foldl (fun s w => routeOut s (n / 8) w) s

/-- A packet as it was forwarded is the packet that came in: its hops, its phase and its FOREIGN bit apart. -/
def Packet.sameAs (q p : Packet) : Bool := { q with ttl := p.ttl, phase := p.phase, foreign := p.foreign } == p

/-- The kept flits of a port with the last `m` flits of a packet replaced by one ABORT flit (R298); the flits after them,
which have not been sent, move up. -/
def abortFlits (l : List Flit) (p : Packet) (m : Nat) : List Flit :=
  let mine := fun (f : Flit) => match f.pkt with
    | some q => q.sameAs p
    | none => false
  let head := l.takeWhile (fun f => !mine f)
  let own := (l.drop head.length).takeWhile mine
  let keep := own.take (own.length - m)
  let ab := ((own.drop keep.length).head?.toList).map (fun f =>
    { f with ty := FlitType.abort, opTag := p.opTag, last := true, crd := none })
  head ++ keep ++ ab ++ ((l.drop (head.length + own.length)).map (fun f => { f with seq := (f.seq + 2048 - (m - 1)) % 2048 }))

/-- A packet partly received on port `n` cannot be completed (R298). One that waits to be forwarded goes nowhere; one whose
HEAD has been forwarded ends with an ABORT flit in place of its remaining flits, whose credits are not used. -/
def abortEgress (s : State) (n : Nat) (p : Packet) : State :=
  let got := match (port s n).rxBuf.find? (fun e => e.1 == p) with
    | some e => e.2
    | none => 1
  (List.range 16).foldl (fun s m =>
    let po := port s m
    if po.txWait.any (fun w => w.rx == some (n, p)) then
      setPort s m { po with txWait := po.txWait.filter (fun w => w.rx != some (n, p)) }
    else if m ≠ n ∧ got < p.flits ∧ po.replay.any (fun f => f.ty == .head && (f.pkt.any (·.sameAs p))) then
      let left := p.flits - got
      let kept := abortFlits po.replay p left
      let s1 := setPort s m { po with
        replay := kept
        txSeq := (po.txSeq + 2048 - (left - 1)) % 2048
        credits := po.credits.set p.cls (creditsOf po p.cls + (left - 1)) }
      (kept.filter (fun f => f.ty == .abort && f.opTag == p.opTag)).foldl (fun s f => emit s (.link m (.flit f))) s1
    else s) s

/-- With the bridge failed and no detour pair in use, the collectives whose tree crosses it end with ISOLATED (R317). -/
def endCrossing (s : State) (t : Nat) : State :=
  if s.bridge.isolated && !detourReady s then
    (s.hubs.spokes.map (·.1)).foldl (fun s i => match spoke? s i with
      | some p => if crossesBridge s p.op.tree then finishItem s p.op.item [(.isolated, 0)] none t else s
      | none => s) s
  else s

/-- A joined or READY port enters FAULTED (Table 12.5): its lanes are no longer driven, its operations are reported when
`report` holds (R310, R337), its waiting packets are rerouted, and the fabric looks at its neighbour (R338). -/
def portFault (s : State) (n : Nat) (report lost : Bool) (t : Nat) : State :=
  let po := port s n
  let s0 := (po.rxPartial.toList).foldl (fun s p => abortEgress s n p) s
  let s1 := raise (setPort s0 n { po.clear with st := .faulted, txWait := [], retrain := false }) Reg.LNK_EVENT 0 .link
    true false t
  let s2 := if report then reportPort s1 n po.replay po.rxPartial t else s1
  let s3 := rerouteWaiting s2 n po.txWait
  endCrossing (reapTransfers (checkNeighbour s3 n lost t) t) t

/-- The replay budget of a port exhausted (R301, R302, R310). -/
def exhaust (s : State) (n t : Nat) : State :=
  let s1 := raise (bump s (Reg.LNK_EXHAUST_COUNT n)) Reg.LNK_EVENT 3 .link false false t
  let s2 := portFault s1 n true false t
  emit (emit s2 (.link n .fault)) (.link n .dark)

/-- A failed delivery of flit `q` added to a fault: opened when none is open for it. -/
def failDelivery (f : Option LinkFault) (q now_ : Nat) : LinkFault :=
  match f with
  | some x => if x.seq = q then { x with failures := x.failures + 1 } else { opened := now_, seq := q, failures := 1 }
  | none => { opened := now_, seq := q, failures := 1 }

/-- Every kept flit of a port from number `q` on sent again (R300). -/
def replayFrom (s : State) (n q : Nat) : State :=
  let l := (port s n).replay.dropWhile (fun f => f.seq != q)
  l.foldl (fun s f => emit s (.link n (.flit f))) (bump s (Reg.LNK_REPLAY_COUNT n))

/-- The kept flits after an acknowledgement of number `a`: dropped up to it. -/
def ackReplay (l : List Flit) (a : Nat) : List Flit :=
  if l.any (fun f => f.seq == a) then (l.dropWhile (fun f => f.seq != a)).drop 1 else l

/-- What an accepted flit acknowledges and returns (R300, R303). -/
def acceptReturns (s : State) (n : Nat) (f : Flit) : State :=
  let po := port s n
  let kept := ackReplay po.replay f.ack
  let po1 := { po with
    replay := kept
    changingTx := po.changingTx && kept.length == po.replay.length
    txFault := match po.txFault with
      | some x => if kept.any (fun g => g.seq == x.seq) then some x else none
      | none => none
    credits := match f.crd with
      | some (c, k) => po.credits.set c (creditsOf po c + 4 * k)
      | none => po.credits }
  let s1 := setPort s n po1
  drainPort s1 n po1.txWait.length

/-- An IDLE flit that carries the acknowledgement and the credits owed in units of 4 flits (R303). -/
def sendIdle (s : State) (n : Nat) : State :=
  let po := port s n
  let c := ([0, 1, 2].find? (fun c => decide (4 ≤ po.owed.getD c 0)))
  let k := match c with
    | some c => min (po.owed.getD c 0 / 4) 15
    | none => 0
  let f : Flit := { ty := .idle, seq := po.txSeq, ack := (po.rxSeq + 2047) % 2048, crd := c.map (fun c => (c, k)),
                    opTag := 0, last := true, pkt := none }
  let po1 := { po with
    txSeq := (po.txSeq + 1) % 2048
    replay := po.replay ++ [f]
    owed := match c with
      | some c => po.owed.set c (po.owed.getD c 0 - 4 * k)
      | none => po.owed }
  emit (setPort s n po1) (.link n (.flit f))

/-- NAK_RX (R300, R301): the transmitter replays from the flit named; its fourth failed delivery exhausts the budget.
Flits lost in flight across a width change count against none (R308). -/
def execNakRx (n q t : Nat) (s : State) : Host.Outcome State Fault Refusal :=
  let po := port s n
  if portSt s n = .disabled ∨ po.replay.any (fun f => f.seq == q) = false then .next s
  else if po.changingTx then .next (replayFrom s n q)
  else
    let lf := failDelivery po.txFault q (now s t)
    let s1 := setPort s n { po with txFault := some lf }
    if 4 ≤ lf.failures then .next (exhaust s1 n t) else .next (replayFrom s1 n q)

/-- ACK_TIMER_EXPIRY (R300, R301): the oldest kept flit has waited 2 µs for its acknowledgement. -/
def execAckTimerExpiry (n t : Nat) (s : State) : Host.Outcome State Fault Refusal :=
  let po := port s n
  match po.replay.head? with
  | none => .next s
  | some f =>
    if po.changingTx then .next (replayFrom s n f.seq) else
    let lf := failDelivery po.txFault f.seq (now s t)
    let s1 := setPort s n { po with txFault := some lf }
    if 4 ≤ lf.failures then .next (exhaust s1 n t) else .next (replayFrom s1 n f.seq)

/-- REPLAY_BUDGET_EXPIRY (R301): 9 µs after a fault opened. -/
def execReplayBudgetExpiry (n t : Nat) (s : State) : Host.Outcome State Fault Refusal :=
  let po := port s n
  if portPresent s n && (po.fault.isSome || po.txFault.isSome) then .next (exhaust s n t) else .next s

/-- FAULT_RX (R302, R310): the other end exhausted its budget. An end that was itself in the middle of a replay
exhausts too (chapter 12, Edge cases). -/
def execFaultRx (n t : Nat) (s : State) : Host.Outcome State Fault Refusal :=
  let st := portSt s n
  if st == .ready || st == .active || st == .degraded then
    let po := port s n
    let s1 := if po.fault.isSome || po.txFault.isSome then
        raise (bump s (Reg.LNK_EXHAUST_COUNT n)) Reg.LNK_EVENT 3 .link false false t else s
    .next (portFault s1 n true false t)
  else .next s

/-- ABORT_FLIT_RX (R298, R310): a packet that ended in ABORT is discarded, here and where it was being forwarded, and its
operation is reported on the receive side. -/
def execAbortFlitRx (n : Nat) (p : Packet) (t : Nat) (s : State) : Host.Outcome State Fault Refusal :=
  let st := portSt s n
  if st == .active || st == .degraded then
    let s1 := passRx (abortEgress s n p) n p
    let s2 := setPort s1 n { port s1 n with rxPartial := none, arriving := none }
    .next (reapTransfers (reportOp n true t s2 p) t)
  else .next s

/-- SIGNAL_LOSS (R337, Table 12.5): a port loses signal. In TRAINING, EXCHANGE or READY it goes DOWN; joined, it faults
without a report. `lost` says that the neighbour itself was lost (R338): its reset also ends REFUSED. -/
def execSignalLoss (n : Nat) (lost : Bool) (t : Nat) (s : State) : Host.Outcome State Fault Refusal :=
  match portSt s n with
  | .training | .exchange | .ready =>
    .next (setPort s n { (port s n).clear with st := .down, retrain := false, laneOk := 0 })
  | .active | .degraded => .next (portFault s n false lost t)
  | .refused =>
    .next (if lost then setPort s n { (port s n).clear with st := .down, retrain := false, laneOk := 0 } else s)
  | _ => .next s

/-- A DOWN port starts to train. -/
def trainPort (s : State) (n : Nat) : State :=
  emit (setPort s n { (port s n).clear with st := .training, retrain := false }) (.link n .train)

/-- SIGNAL_DETECT (R304): signal on a DOWN port starts bring-up, once the port's own time for it has come. -/
def execSignalDetect (n : Nat) (s : State) : Host.Outcome State Fault Refusal :=
  if portSt s n = .down ∧ s.boot.ucodeLocked = true ∧ (port s n).begun = true then .next (trainPort s n) else .next s

/-- PORT_BRINGUP_START (R304): port `n` starts its own bring-up 0.5 ms × n after the microcode lock. A port that the safe
image keeps in HOLD starts none (R100). -/
def execPortBringupStart (n : Nat) (s : State) : Host.Outcome State Fault Refusal :=
  if portSt s n = .down ∧ s.boot.ucodeLocked = true then
    .next (trainPort (setPort s n { port s n with begun := true }) n)
  else .next s

/-- TRAINING_FRAME_RX (R304): answered with HOLD before the microcode lock and by a port that the safe image keeps in HOLD
(R100); a DOWN port whose bring-up time has come trains. -/
def execTrainingFrameRx (n : Nat) (s : State) : Host.Outcome State Fault Refusal :=
  if portSt s n = .disabled then .next s
  else if s.boot.ucodeLocked = false ∨ portSt s n = .hold then .next (emit s (.link n .hold))
  else if portSt s n = .down ∧ (port s n).begun = true then .next (trainPort s n)
  else .next s

/-- HOLD_RX (R304): the port stays in training and repeats its request every 1 ms. -/
def execHoldRx (n : Nat) (s : State) : Host.Outcome State Fault Refusal :=
  if portSt s n = .training ∨ (portSt s n = .down ∧ (port s n).begun = true) then
    .next (setPort s n { port s n with st := .training })
  else .next s

/-- HOLD_RETRY (R304): the training request repeated. -/
def execHoldRetry (n : Nat) (s : State) : Host.Outcome State Fault Refusal :=
  if portSt s n = .training then .next (emit s (.link n .train)) else .next s

/-! ## Capability exchange (R306, Tables 12.6 and 12.7) -/

/-- TICK_CFG as loaded; under G1COMPAT with the forced cadence. -/
def tickCfgLoaded (s : State) : Nat :=
  (if g1 s then putFld (rd s Reg.TICK_CFG) 0 11 200 else rd s Reg.TICK_CFG).toNat

/-- The CAP message of a port. -/
def ownCap (s : State) (n : Nat) : Cap :=
  let e := (s.fab.routes.ports[n]?).getD { expMod := 0, expPort := 0, used := false, foreign := false }
  { ver := 1, mode := b2n (g1 s), build := s.build.code, modId := modId s, port := n, expMod := e.expMod,
    expPort := e.expPort, width := (port s n).width, tick := tickCfgLoaded s, epochLen := epochLen s,
    parts := (List.range 8).map (fun p => (keyOf s p, partDefined s p)) }

/-- The keys of two modules agree (check 6). -/
def partsAgree (a b : List (Nat × Bool)) : Bool :=
  (List.range 8).all (fun i => (List.range 8).all (fun j =>
    let x := a.getD i (0, false)
    let y := b.getD j (0, false)
    if x.2 && y.2 then (if i = j then x.1 == y.1 else x.1 != y.1) else true))

/-- The first check of Table 12.7 that a partner's CAP fails; 0 for none. -/
def capCheck (s : State) (n : Nat) (c : Cap) : Nat :=
  let e := (s.fab.routes.ports[n]?).getD { expMod := 0, expPort := 0, used := false, foreign := false }
  if c.ver ≠ 1 then 1
  else if c.mode ≠ b2n (g1 s) then 2
  else if !(decide (c.expPort < s.build.ports) && c.expPort == n && c.expMod == modId s) then 3
  else if c.modId == modId s || c.modId != e.expMod || c.port != e.expPort ||
      (c.build == 4 && (coordsOf s c.modId).isSome) then 4
  else if c.tick ≠ tickCfgLoaded s ∨ c.epochLen ≠ epochLen s then 5
  else if !partsAgree (ownCap s n).parts c.parts then 6
  else 0

/-- A port enters REFUSED with a reason. -/
def refusePort (s : State) (n reason t : Nat) : State :=
  raise (setPort s n { port s n with st := .refused, refuse := reason }) Reg.LNK_EVENT 1 .link true false t

/-- A port whose exchange is complete on both ends enters READY. -/
def readyWhenDone (s : State) (n : Nat) : State :=
  let po := port s n
  if po.st = .exchange ∧ po.capPassed = true ∧ po.ackRx = true then
    setPort s n { po with st := .ready, readySeq := s.clock.seq, failedRetrains := 0, retrain := false }
  else s

/-- BRINGUP_COMPLETE (R303, R305): training ends with the lanes of `mask`. With two or more, SEQ and ACK start at 0,
credits are advertised and capability exchange starts; otherwise the bring-up has failed. -/
def execBringupComplete (n mask : Nat) (s : State) : Host.Outcome State Fault Refusal :=
  if portSt s n ≠ .training then .next s
  else
    let po := port s n
    if 2 ≤ popcount mask 4 then
      let s1 := setPort s n { po.clear with st := .exchange, laneOk := mask % 16, credits := rxBuffers }
      .next (emit s1 (.link n (.cap (ownCap s1 n))))
    else
      let s1 := bump s (Reg.LNK_TRAIN_FAIL_COUNT n)
      if po.retrain then
        .next (setPort s1 n { po.clear with st := .faulted, retrain := false, failedRetrains := po.failedRetrains + 1 })
      else .next (setPort s1 n { po.clear with st := .down })

/-- CAP_RX (R306). -/
def execCapRx (n : Nat) (c : Cap) (t : Nat) (s : State) : Host.Outcome State Fault Refusal :=
  if portSt s n ≠ .exchange then .next s
  else
    let reason := capCheck s n c
    let s1 := setPort s n { port s n with partnerMod := c.modId, partnerPort := c.port }
    if reason ≠ 0 then .next (emit (refusePort s1 n reason t) (.link n (.capRefuse reason)))
    else .next (readyWhenDone (emit (setPort s1 n { port s1 n with capPassed := true }) (.link n .capAck)) n)

/-- CAP_ACK_RX (R306). -/
def execCapAckRx (n : Nat) (s : State) : Host.Outcome State Fault Refusal :=
  if portSt s n ≠ .exchange then .next s else .next (readyWhenDone (setPort s n { port s n with ackRx := true }) n)

/-- CAP_REFUSE_RX (R306). -/
def execCapRefuseRx (n reason t : Nat) (s : State) : Host.Outcome State Fault Refusal :=
  if portSt s n ≠ .exchange then .next s else .next (refusePort s n reason t)

/-! ## Width (R308) -/

/-- A joined port takes the lanes of `mask`: ACTIVE or DEGRADED, FAULTED below two lanes, which reports no operation, as
no budget was exhausted (R310, R337). -/
def setWidth (s : State) (n mask t : Nat) : State :=
  if popcount mask 4 < 2 then portFault (setPort s n { port s n with laneOk := mask % 16 }) n false false t
  else
    let was := (port s n).st
    let recal := match (port s n).recal with
      | some (l, true) => mask % 16 + 2 ^ l == (port s n).laneOk
      | _ => false
    let st := if recal then was else joinedSt mask
    let s1 := setPort s n { port s n with st := st, laneOk := mask % 16, changing := true, changingTx := true }
    if st = .degraded ∧ was ≠ .degraded then raise s1 Reg.LNK_EVENT 2 .link false false t else s1

/-- The flits in flight across a width change replayed, against no budget. -/
def replayAll (s : State) (n : Nat) : State :=
  match (port s n).replay.head? with
  | some f => replayFrom s n f.seq
  | none => s

/-- A joined port asks for the lanes of `mask`. -/
def askWidth (s : State) (n mask : Nat) : State :=
  emit (setPort s n { port s n with widthReq := some (mask % 16) }) (.link n (.widthReq (mask % 16)))

/-- WIDTH_REQ_RX (R308): the flit stream pauses, the partner's lanes are taken, and WIDTH_ACK answers. -/
def execWidthReqRx (n mask t : Nat) (s : State) : Host.Outcome State Fault Refusal :=
  if (port s n).live && portPresent s n then
    .next (replayAll (setWidth (emit s (.link n (.widthAck (mask % 16)))) n mask t) n)
  else .next s

/-- WIDTH_ACK_RX (R308): a width change asked for completes. -/
def execWidthAckRx (n mask t : Nat) (s : State) : Host.Outcome State Fault Refusal :=
  if (port s n).live && portPresent s n && (port s n).widthReq == some (mask % 16) then
    .next (replayAll (setWidth (setPort s n { port s n with widthReq := none }) n mask t) n)
  else .next s

/-- LANE_SIGNAL_LOSS (R305, R308): one lane of a port loses signal. Joined, the lane is removed by a width change, and
with fewer than two lanes left the port is FAULTED. -/
def execLaneSignalLoss (n lane t : Nat) (s : State) : Host.Outcome State Fault Refusal :=
  let po := port s n
  let mask := sumNat ((indicesWhere 4 (fun i => bitAt (po.widthReq.getD po.laneOk) i && i != lane)).map (2 ^ ·))
  if !portPresent s n then .next s
  else if po.live then
    (if popcount mask 4 < 2 then .next (portFault (setPort s n { po with laneOk := mask }) n false false t)
      else .next (askWidth s n mask))
  else .next (setPort s n { po with laneOk := mask })

/-! ## Retraining (R305) -/

/-- A FAULTED port starts to retrain. -/
def retrainPort (s : State) (n : Nat) : State :=
  emit (setPort s n { (port s n).clear with st := .training, retrain := true }) (.link n .train)

/-- PORT_RETRAIN_TIMER (R305): a FAULTED port retrains at once and then every 100 ms, up to 8 failures in a row. -/
def execPortRetrainTimer (n : Nat) (s : State) : Host.Outcome State Fault Refusal :=
  if portSt s n = .faulted ∧ (port s n).failedRetrains < 8 then .next (retrainPort s n) else .next s

/-- PORT_RETRY (R305): a write of LNK_PORT_CTRL_n.RETRY starts the training of a port FAULTED after 8 failures. -/
def execPortRetry (n : Nat) (s : State) : Host.Outcome State Fault Refusal :=
  if portSt s n = .faulted ∧ 8 ≤ (port s n).failedRetrains ∧ (s.bridge.isolated && decide (8 ≤ n)) = false then
    .next (retrainPort (setPort s n { port s n with failedRetrains := 0 }) n)
  else .next s

/-! ## Notices -/

/-- LINK_FAULT_NOTICE_RX (R310, R312, R335): an operation of this module met a link fault elsewhere. -/
def execLinkFaultNoticeRx (tag t : Nat) (s : State) : Host.Outcome State Fault Refusal :=
  let ptype := if (streamOfTag s tag).isSome then 1 else if (transferOfTag s tag).isSome then 3 else 1
  let key := ledgerTag ptype tag
  let s1 := raise (bump s Reg.LNK_NOTICE_RX_COUNT) Reg.LNK_EVENT 8 .link false false t
  if s.faults.reported.contains key then .next s1
  else
    let s2 := { s1 with faults := { s1.faults with reported := key :: s1.faults.reported } }
    if s.faults.timedOut.contains key then .next (lateFault s2 key t)
    else .next (reapTransfers (faultOwn s2 ptype tag t) t)

/-! ## The bridge (R314–R318) -/

/-- BRIDGE_FAIL (R314, R315): the bridge fails; the packets it was sending (`tx`) and receiving (`rx`) are reported with
the bridge as the port, and cross-die traffic moves to a configured detour. -/
def execBridgeFail (tx rx : List Packet) (t : Nat) (s : State) : Host.Outcome State Fault Refusal :=
  if s.build = .l ∨ s.bridge.st = 1 then .next s
  else
    let s1 := { s with bridge := { s.bridge with st := 1, detour := detourReady s } }
    let s2 := raise (bump s1 Reg.LNK_BRIDGE_FAULT_COUNT) Reg.LNK_EVENT 5 .link true false t
    let s3 := tx.foldl (reportOp 0x10 false t) s2
    .next (reapTransfers (rx.foldl (reportOp 0x10 true t) s3) t)

/-- BRIDGE_RETRAIN (R318): a retrain of the failed bridge; a success waits for the next epoch edge. -/
def execBridgeRetrain (ok : Bool) (s : State) : Host.Outcome State Fault Refusal :=
  if s.bridge.st = 1 ∧ ok = true then .next { s with bridge := { s.bridge with st := 2 } } else .next s

end Sys2Proof.Machine
end

