-- ==== Sys2Proof/Machine/Fabric.lean ====
section
/-! DEFINITION. Packets on arrival, flows at their destination, modules down and up, and end-to-end commands (chapters 6
and 13). -/

namespace Sys2Proof.Machine

/-! ## Key rejects (R154, R155) -/

/-- A key-reject notice for an operation has been sent or received here (R311). -/
def noteReject (s : State) (g : Nat) : State := { s with faults := { s.faults with rejects := g :: s.faults.rejects } }

/-- This module's own operation completes with KEY_REJECT (R155): the collective its tag names, or the transfer. -/
def keyRejectOwn (s : State) (tag reason t : Nat) : State :=
  match streamOfTag s tag with
  | some i =>
    match spoke? s i with
    | some p => finishItem (closeTag (noteReject s tag) tag) p.op.item [(.keyReject, reason % 16)] none t
    | none => s
  | none =>
    match transferOfTag s tag with
    | some tr =>
      let s1 := endTransfer (noteReject s (ledgerTag 3 tag)) tr .keyReject (reason % 16)
      reapTransfers (setFab s1 { s1.fab with outFlows := s1.fab.outFlows.map (fun f =>
        if f.is tr.part tr.chan tr.dst then { f with rejected := true } else f) }) t
    | none => s

/-- A packet rejected at a point with a reason (R153, R154): discarded, counted and logged, and answered with a notice
unless it is a notice itself. -/
def rejectPacket (s : State) (point reason part : Nat) (p : Packet) (t : Nat) : State :=
  let s1 := packetReject s point reason part p.key p.src p.opTag t
  let notice := match p.msg with
    | .keyReject _ => true
    | _ => false
  if notice then s1
  else if p.src = modId s then keyRejectOwn s1 p.opTag reason t
  else
    let s2 := noteReject s1 (ledgerTag p.ptype p.opTag)
    if reachable s2 p.src then sendCtl (bump s2 Reg.PART_NOTICE_TX_COUNT) p.src p.opTag (.keyReject p.opTag) else s2

/-- KEY_REJECT_NOTICE_RX (R155). `reason` is the reason of Table 6.3 that the notice gives. -/
def execKeyRejectNoticeRx (tag reason t : Nat) (s : State) : Host.Outcome State Fault Refusal :=
  let s1 := raise (bump s Reg.PART_NOTICE_RX_COUNT) Reg.PART_EVENT 3 .fabric false false t
  .next (keyRejectOwn s1 tag reason t)

/-! ## Flows at the destination (R329, R331–R333) -/

/-- A flow that has delivered nothing. -/
def InFlow.new (key chan src : Nat) : InFlow :=
  { key := key, chan := chan, src := src, expect := 0, held := [], fences := [], direct := [], unackedCount := 0,
    nakSent := false, unsequenced := false }

/-- A flow is the one of a key, channel and source. -/
def InFlow.is (f : InFlow) (key chan src : Nat) : Bool := f.key == key && f.chan == chan && f.src == src

/-- The flow of a key, channel and source. -/
def inFlow (s : State) (key chan src : Nat) : InFlow :=
  (s.fab.inFlows.find? (fun f => f.is key chan src)).getD (InFlow.new key chan src)

/-- A flow replaced (or added). -/
def putInFlow (s : State) (f : InFlow) : State :=
  setFab s { s.fab with inFlows := f :: s.fab.inFlows.filter (fun g => !g.is f.key f.chan f.src) }

/-- Data delivered to the device. -/
def deliver (s : State) (p : Packet) : State := setFab s { s.fab with delivered := p :: s.fab.delivered }

/-- A cumulative acknowledgement of a flow (R329). -/
def ackInFlow (s : State) (f : InFlow) : State :=
  sendCtl (putInFlow s { f with unackedCount := 0 }) f.src 0 (.e2eAck f.chan f.key f.expect)

/-- The next packet in sequence delivered: an acknowledgement after 16 (R329). -/
def advance (s : State) (f : InFlow) : State :=
  let g := { f with expect := (f.expect + 1) % 2 ^ 32, unackedCount := f.unackedCount + 1, nakSent := false }
  if 16 ≤ g.unackedCount then ackInFlow s g else putInFlow s g

/-- Bytes of REORDER_OVF on an I-die (Table 10.2). -/
def ovfBytes (s : State) (h : Nat) : Nat :=
  sumNat ((s.fence.allocs.filter (fun a => a.2.cls == 4 + h && a.2.use == 3)).map (·.2.count))

/-- Reorder space of an I-die changed: its buffer or its overflow range, and the peaks of the tick. -/
def useReorder (s : State) (h : Nat) (ovf : Bool) (add sub : Nat) : State :=
  if ovf then
    let v := SMap.get s.fab.ovf 0 h + add - sub
    setFab s { s.fab with ovf := SMap.put s.fab.ovf h v, ovfPeak := SMap.upd s.fab.ovfPeak 0 h (max v) }
  else
    let v := SMap.get s.fab.rob 0 h + add - sub
    setFab s { s.fab with rob := SMap.put s.fab.rob h v, robPeak := SMap.upd s.fab.robPeak 0 h (max v) }

/-- Packets that the last delivery brought into sequence delivered in turn; `n` bounds them. -/
def drainFlow (key chan src : Nat) : Nat → State → State
  | 0, s => s
  | n + 1, s =>
    let f := inFlow s key chan src
    let h := homeDie s chan
    match f.held.find? (fun e => e.1.e2e == f.expect) with
    | some e =>
      let s1 := useReorder (deliver s e.1) h e.2 0 e.1.length
      drainFlow key chan src n (advance s1 { f with held := f.held.filter (fun x => x.1.e2e != e.1.e2e) })
    | none =>
      if f.direct.contains f.expect then
        drainFlow key chan src n (advance s { f with direct := f.direct.filter (· != f.expect) })
      else match f.fences.find? (fun p => p.e2e == f.expect) with
        | some p =>
          let s1 := setFab (deliver s p) { (deliver s p).fab with
            fenceUsed := SMap.upd (deliver s p).fab.fenceUsed 0 h (· - p.length) }
          drainFlow key chan src n
            (advance s1 { f with fences := f.fences.filter (fun x => x.e2e != p.e2e), unsequenced := false })
        | none => s

/-- A packet of a strict channel (R331). -/
def recvStrict (s : State) (p : Packet) : State :=
  let f := inFlow s p.key (bits p.opTag 16 4) p.src
  if p.e2e = f.expect then advance (deliver s p) f
  else if seqLater p.e2e f.expect then
    if f.nakSent then s
    else
      let s1 := sendCtl (bump s Reg.FAB_GAP_COUNT) p.src 0 (.e2eNak f.chan f.key f.expect)
      putInFlow s1 { f with nakSent := true }
  else ackInFlow s f

/-- A packet of a SPRAY channel (R332, R333). -/
def recvSpray (s : State) (p : Packet) (t : Nat) : State :=
  let f := inFlow s p.key (bits p.opTag 16 4) p.src
  let h := homeDie s f.chan
  let n := f.held.length + f.fences.length + f.direct.length
  let known := f.held.any (fun e => e.1.e2e == p.e2e) || f.fences.any (fun x => x.e2e == p.e2e) || f.direct.contains p.e2e
  if p.e2e = f.expect then
    drainFlow p.key f.chan p.src n
      (advance (deliver s p) { f with unsequenced := f.unsequenced && !p.fence })
  else if !seqLater p.e2e f.expect then ackInFlow s f
  else if known then s
  else if p.fence then
    if SMap.get s.fab.fenceUsed 0 h + p.length ≤ 65536 then
      putInFlow (setFab s { s.fab with fenceUsed := SMap.upd s.fab.fenceUsed 0 h (· + p.length) })
        { f with fences := f.fences ++ [p] }
    else raise (bump s Reg.FAB_FENCE_DROP_COUNT) Reg.FAB_EVENT 6 .fabric false false t
  else if SMap.get s.fab.rob 0 h + p.length ≤ 2097152 - 65536 then
    putInFlow (useReorder s h false p.length 0) { f with held := f.held ++ [(p, false)] }
  else if SMap.get s.fab.ovf 0 h + p.length ≤ ovfBytes s h then
    putInFlow (useReorder s h true p.length 0) { f with held := f.held ++ [(p, true)] }
  else
    let s1 := bump (deliver s p) Reg.FAB_ROB_DIRECT_COUNT
    let s2 := putInFlow s1 { f with direct := p.e2e :: f.direct, unsequenced := true }
    if f.unsequenced then s2 else raise s2 Reg.FAB_EVENT 5 .fabric false false t

/-- A terminating packet handed to what it addresses: channel data to its flow; a message is delivered, and takes effect
by the command of its own row. -/
def acceptPacket (s : State) (p : Packet) (t : Nat) : State :=
  if p.ptype = 3 then
    let m := (channelOf s (bits p.opTag 16 4)).mode
    if m = 1 ∨ m = 2 then recvStrict s p else if m = 3 then recvSpray s p t else s
  else deliver s p

/-! ## FLIT_RX (R299, R300, R301, R303) -/

/-- A packet whose last flit has been accepted: one for this module, held since its HEAD, takes effect now (R298). -/
def endArriving (s : State) (n : Nat) (t : Nat) : State :=
  match (port s n).arriving with
  | some p => acceptPacket (setPort s n { port s n with arriving := none }) p t
  | none => s

/-- The receive side of a port after an accepted flit: its packet holds one more flit of the buffer, or that flit has passed
on with the rest of a packet that is being forwarded or taken, and its credit is owed (R303). -/
def Port.takeFlit (po : Port) (f : Flit) : Port :=
  let po1 := { po with
    rxSeq := (po.rxSeq + 1) % 2048
    gap := false
    fault := none
    changing := false
    rxPartial := if f.ty = .idle then po.rxPartial else if f.last then none else f.pkt }
  match f.pkt with
  | none => po1
  | some p =>
    if f.ty = .head then { po1 with rxBuf := po.rxBuf ++ [(p, 1)] }
    else if po.rxBuf.any (fun e => e.1 == p) then
      { po1 with rxBuf := po.rxBuf.map (fun e => if e.1 == p then (e.1, e.2 + 1) else e) }
    else { po1 with owed := po.owed.set p.cls (po.owed.getD p.cls 0 + 1) }

/-- FLIT_RX (R299, R300, R301, R303): a sequenced flit arrives. It is accepted when its CRC is correct and its number is
the next expected one, and discarded otherwise; the effect of a packet is PACKET_ARRIVE's and of an ABORT ABORT_FLIT_RX's.
A discard in flight across a width change counts against no budget (R308). `fec` are the codewords corrected and not
correctable since the last flit. -/
def execFlitRx (n : Nat) (crcOk : Bool) (f : Flit) (fec : Nat × Nat) (t : Nat) (s : State) :
    Host.Outcome State Fault Refusal :=
  let st := portSt s n
  if !(st == .ready || st == .active || st == .degraded) then .next s
  else
    let s0 := bumpN (bumpN s (Reg.LNK_FEC_CORR_COUNT n) fec.1) (Reg.LNK_FEC_UNCORR_COUNT n) fec.2
    let po := port s0 n
    if crcOk && f.seq == po.rxSeq then
      let s1 := acceptReturns (setPort s0 n (po.takeFlit f)) n f
      if f.ty = .idle then .next s1
      else
        let s2 := sendIdle s1 n
        .next (if f.last && f.ty == .data then endArriving s2 n t else s2)
    else
      let s1 := bump s0 (Reg.LNK_CRC_ERR_COUNT n)
      let again := po.gap && f.seq == po.rxSeq
      if po.gap && !again then .next s1
      else if po.changing then
        .next (emit (setPort s1 n { port s1 n with gap := true }) (.link n (.nak po.rxSeq)))
      else
        let lf := failDelivery po.fault po.rxSeq (now s t)
        let s2 := setPort s1 n { po with gap := true, fault := some lf }
        if 4 ≤ lf.failures then .next (exhaust s2 n t) else .next (emit s2 (.link n (.nak po.rxSeq)))

/-! ## PACKET_ARRIVE (R153, R323, R327, R353) -/

/-- The I-die whose hub a terminating packet addresses: its stream's, or its channel's home (R332). -/
def targetDie (s : State) (p : Packet) : Nat :=
  if p.ptype = 3 then homeDie s (bits p.opTag 16 4) else bits p.opTag 0 5 / 16

/-- Check 6 of Table 6.3: the stream and group, or the staging range, that a terminating packet addresses are its
partition's. -/
def targetOk (s : State) (part : Nat) (p : Packet) : Bool :=
  if p.ptype = 1 ∨ p.ptype = 2 then collTargetOk s part p.opTag
  else if p.ptype = 3 then
    match p.msg with
    | .order _ => true
    | _ => s.fence.allocs.any (fun a => a.2.cls == 4 + targetDie s p && a.2.use == 2 && a.2.part == part &&
          (SMap.get? s.fence.failedClosed (256 + a.1)).isNone)
  else true

/-- The point of Table 6.6 at which checks 5 and 6 are made for a packet that came in by port `n`: the bridge for one that
crosses to the other I-die, the hub otherwise (log entry 77). -/
def targetPoint (s : State) (n : Nat) (p : Packet) : Nat :=
  if (p.ptype = 1 ∨ p.ptype = 2 ∨ p.ptype = 3) ∧ targetDie s p ≠ n / 8 then 0x10 else 0x11 + targetDie s p

/-- A port of the PORTS table is FOREIGN. -/
def isForeign (s : State) (n : Nat) : Bool :=
  match s.fab.routes.ports[n]? with
  | some e => e.foreign
  | none => false

/-- A packet may cross a FOREIGN port: strict channel data of a FOREIGN_OK channel, or its acknowledgements (R353). -/
def foreignOk (s : State) (p : Packet) : Bool :=
  let c := channelOf s (bits p.opTag 16 4)
  (p.ptype == 3 && p.foreign && c.foreignOk && (c.mode == 1 || c.mode == 2)) ||
    (match p.msg with
      | .e2eAck _ _ _ | .e2eNak _ _ _ => true
      | _ => false)

/-- A transit packet as this module sends it on: its hops lowered, and its VALIANT phase advanced at its intermediate. -/
def hopOn (s : State) (p : Packet) : Packet :=
  { p with ttl := p.ttl - 1, phase := p.phase || (p.mode == 2 && p.via == modId s) }

/-- A transit packet `p0` that came in by port `n` and is read as `p` is forwarded (R323, R327, R353). -/
def forward (s : State) (n : Nat) (p0 p : Packet) (t : Nat) : State :=
  if p.ttl = 0 then raise (bump s Reg.FAB_TTL_DROP_COUNT) Reg.FAB_EVENT 4 .fabric false false t
  else
    let q := hopOn s p
    match egressPort s q with
    | some e => if isForeign s e && !foreignOk s q then bump s Reg.FAB_UNREACH_COUNT
        else routeOut s (n / 8) { pkt := q, rx := some (n, p0) }
    | none => routeOut s (n / 8) { pkt := q, rx := some (n, p0) }

/-- A packet that came in by port `n` waits at some port to be forwarded. -/
def waitsOut (s : State) (n : Nat) (p : Packet) : Bool :=
  (List.range 16).any (fun m => (port s m).txWait.any (fun w => w.rx == some (n, p)))

/-- A packet for this module taken: at once when all of it is there, and with its last flit otherwise (R298). -/
def takeArriving (s : State) (n : Nat) (p0 p : Packet) (t : Nat) : State :=
  let po := port s n
  if po.rxPartial = some p0 then setPort s n { po with arriving := some p } else acceptPacket s p t

/-- What becomes of a packet at port `n` by the checks of Table 6.3, in order. -/
def arrive (s : State) (n : Nat) (p0 : Packet) (t : Nat) : State :=
  let p := if isForeign s n then { p0 with foreign := false } else p0
  let ends := p.dst == modId s && !p.foreign
  let crosses := !isForeign s n || foreignOk s p0
  if p.key = 0 then rejectPacket s n 1 0 p t
  else if (p.key == 0xFFFF) != (p.cls == 0) then rejectPacket s n 2 0 p t
  else if p.key == 0xFFFF then
    if !crosses then bump s Reg.FAB_UNREACH_COUNT
    else if ends then takeArriving s n p0 p t else forward s n p0 p t
  else match partOfKey s p.key with
    | none => rejectPacket s n 3 0 p t
    | some part =>
      if !wbit (rd s (Reg.PART_PORT_ALLOW n)) part then rejectPacket s n 4 part p t
      else if ends then
        if !partActive s part then rejectPacket s (targetPoint s n p) 5 part p t
        else if !targetOk s part p then rejectPacket s (targetPoint s n p) 6 part p t
        else if !crosses then bump s Reg.FAB_UNREACH_COUNT
        else takeArriving s n p0 p t
      else
        let denied := match egressPort s (hopOn s p) with
          | some e => !wbit (rd s (Reg.PART_PORT_ALLOW e)) part
          | none => false
        if denied then rejectPacket s n 7 part p t
        else if !crosses then bump s Reg.FAB_UNREACH_COUNT
        else forward s n p0 p t

/-- PACKET_ARRIVE (R153): a packet's HEAD arrives at port `n`: it is checked in the order of Table 6.3, and then
delivered, forwarded or discarded. Unless it waits to be forwarded it leaves the receive buffer (R303). -/
def execPacketArrive (n : Nat) (p : Packet) (t : Nat) (s : State) : Host.Outcome State Fault Refusal :=
  let st := portSt s n
  if !(st == .active || st == .degraded || (st == .ready && p.cls == 0)) then .next s
  else
    let s1 := arrive s n p t
    .next (if waitsOut s1 n p then s1 else passRx s1 n p)

/-! ## End to end (R329, R330, R334) -/

/-- E2E_ACK_RX (R330): an acknowledgement of a flow of key `key` on a channel to module `dst`. -/
def execE2eAckRx (key chan dst next t : Nat) (s : State) : Host.Outcome State Fault Refusal :=
  match partOfKey s key with
  | some p => .next (reapTransfers (ackFlow s p chan dst next) t)
  | none => .next s

/-- E2E_NAK_RX (R330): the origin resends from the oldest unacknowledged packet. -/
def execE2eNakRx (key chan dst t : Nat) (s : State) : Host.Outcome State Fault Refusal :=
  match partOfKey s key with
  | some p => match outFlow? s p chan dst with
    | some f => .next (resendFlow s f t)
    | none => .next s
  | none => .next s

/-- E2E_ACK_TIMER (R329): 1 µs after the oldest delivered packet not yet acknowledged. -/
def execE2eAckTimer (key chan src : Nat) (s : State) : Host.Outcome State Fault Refusal :=
  let f := inFlow s key chan src
  if f.unackedCount = 0 then .next s else .next (ackInFlow s f)

/-- E2E_TIMEOUT (R330, R313, R334). -/
def execE2eTimeout (key chan dst t : Nat) (s : State) : Host.Outcome State Fault Refusal :=
  match partOfKey s key with
  | some p => match outFlow? s p chan dst with
    | some f => .next (reapTransfers (flowTimeout s f t) t)
    | none => .next s
  | none => .next s

/-! ## Modules down and up (R339, R349–R351) -/

/-- NODE_DOWN_RX (R339, R340, R344): the first copy of a notice is forwarded once and acted on; a handshake with that
module in progress fails. -/
def execNodeDownRx (n m t : Nat) (s : State) : Host.Outcome State Fault Refusal :=
  let s1 := (List.range 16).foldl (fun s k =>
    let po := port s k
    if po.st == .ready && po.partnerMod == m then setPort s k { po with joinTx := none, joinRx := none } else s) s
  .next (reapTransfers (moduleDown s1 m (some n) t) t)

/-- The modules announced up are admitted, and routes and trees use them again, at t+S_m (R351). -/
def admitModules (s : State) : State :=
  s.fab.upNext.foldl (fun s m => setFab s { s.fab with
    nodeUp := s.fab.nodeUp ||| 2 ^ m
    down := s.fab.down.filter (· != m)
    severed := s.fab.severed && m != modId s }) (setFab s { s.fab with upNext := [] })

/-- t+S_m of the last epoch edge lies ahead. -/
def slotAhead (s : State) : Bool := atEpochEdge s && !s.clock.slotOpen

/-- A flow at its destination given up: the reorder space of the packets it held is free. -/
def dropInFlow (s : State) (f : InFlow) : State :=
  let h := homeDie s f.chan
  let s1 := f.held.foldl (fun s e => useReorder s h e.2 0 e.1.length) s
  let n := sumNat (f.fences.map (·.length))
  setFab s1 { s1.fab with
    fenceUsed := if n = 0 then s1.fab.fenceUsed else SMap.upd s1.fab.fenceUsed 0 h (· - n)
    inFlows := s1.fab.inFlows.filter (fun g => !g.is f.key f.chan f.src) }

/-- Flows to and from a module that joins or rejoins are numbered from 0 again (R328): every flow when it is this module. -/
def restartFlows (s : State) (m : Nat) : State :=
  let own := m == modId s
  let s1 := (s.fab.inFlows.filter (fun f => own || f.src == m)).foldl dropInFlow s
  setFab s1 { s1.fab with
    outFlows := s1.fab.outFlows.map (fun f => if own || f.dst == m then
      { f with next := f.unacked.length
               unacked := f.unacked.zipIdx.map (fun e => { e.1 with seq := e.2, pkt := { e.1.pkt with e2e := e.2 } }) } else f) }

/-- A module announced up (R351): admitted at t+S_m of this epoch edge, or at once when that instant has passed
(DEDUCED, log entry 71). The first announcement is flooded. -/
def moduleUp (s : State) (m : Nat) (from_ : Option Nat) (t : Nat) : State :=
  if s.fab.seenUp.contains m then s
  else
    let s1 := setFab s { s.fab with
      seenUp := m :: s.fab.seenUp
      seenDown := s.fab.seenDown.filter (· != m)
      upNext := m :: s.fab.upNext }
    let s1 := restartFlows s1 m
    let s2 := raise (flood s1 from_ (.nodeUp m)) Reg.FAB_EVENT 1 .fabric false false t
    if slotAhead s then s2 else admitModules s2

/-- NODE_UP_RX (R351). -/
def execNodeUpRx (n m t : Nat) (s : State) : Host.Outcome State Fault Refusal := .next (moduleUp s m (some n) t)

/-- A port joins (R307): ACTIVE or DEGRADED; its partner and this module are announced up. -/
def joinPort (s : State) (n t : Nat) : State :=
  let po := port s n
  let st := joinedSt po.laneOk
  let s1 := setPort s n { po with st := st, joinTx := none, joinRx := none }
  let s2 := if st = .degraded then raise s1 Reg.LNK_EVENT 2 .link false false t else s1
  if isForeign s n then s2 else moduleUp (moduleUp s2 (modId s) none t) po.partnerMod (some n) t

/-- JOIN_RX (R307, R349, R350): the partner's JOIN on a READY port within 2 µs of an epoch edge's strobe. -/
def execJoinRx (n m epoch crc t : Nat) (s : State) : Host.Outcome State Fault Refusal :=
  let po := port s n
  if portSt s n ≠ .ready ∨ m ≠ po.partnerMod ∨ atEpochEdge s = false ∨ 2000 < t then .next s
  else if crc ≠ s.fab.routes.crc then .next (raise s Reg.FAB_EVENT 8 .fabric true false t)
  else if epoch ≠ epochNum s s.clock.index ∨ po.joinTx ≠ some epoch then
    .next (setPort s n { po with joinRx := some (epoch, crc) })
  else .next (joinPort s n t)

/-- A port sends JOIN at an epoch edge's strobe: a READY one, and a live one of a module that is itself down (R349). -/
def joins (s : State) (n : Nat) : Bool :=
  portSt s n == .ready || (s.fab.down.contains (modId s) && (portSt s n == .active || portSt s n == .degraded))

/-- JOIN sent at an epoch edge's strobe (R349). -/
def sendJoins (s : State) : State :=
  ((List.range 16).filter (joins s)).foldl (fun s n =>
    let e := epochNum s s.clock.index
    let po := port s n
    let s1 := setPort s n { po with joinTx := some e, joinRx := none }
    toPort s1 n { pkt := ctlPacket s po.partnerMod 0 (.join (modId s) e s.fab.routes.crc), rx := none }) s

end Sys2Proof.Machine
end

