-- ==== Sys2Proof/Machine/Background.lean ====
section
/-! DEFINITION. The background chores: patrols, lane recalibration, the log and its wear, telemetry and the hardware
timers (chapter 17), and the sensors that chapter 18 lists (Table 18.8). -/

namespace Sys2Proof.Machine

/-- The background engine replaced. -/
def setBkg (s : State) (b : Background) : State := { s with bkg := b }

/-- A BKG event: BACKGROUND class; HBM_UE, CSRAM_UE, TABLE_UE, SECTOR_RETIRED and LOG_STOPPED assert ALERT_N (R455). -/
def bkgEvent (s : State) (bit t : Nat) : State :=
  raise s Reg.BKG_EVENT bit .background ([1, 3, 5, 8, 10].contains bit) false t

/-! ## Sensors (Table 18.8) -/

/-- The sensor IDs of a build. -/
def sensorIds (b : Build) : List Nat :=
  [0x01, 0x02] ++ (if b = .q then [] else [0x10, 0x11, 0x12, 0x13]) ++ [0x18] ++ (if b.idies = 2 then [0x19] else []) ++
    (List.range b.stacks).map (0x20 + ·) ++ [0x30, 0x31, 0x40] ++ (if b.idies = 2 then [0x41] else []) ++
    (if b = .q then [] else [0x50]) ++ [0x51, 0x60] ++ (if b = .q then [] else [0x61]) ++ [0x70]

/-- The sensors marked for logging. -/
def sensorLogged (id : Nat) : Bool := !(id == 0x02 || (decide (0x20 ≤ id) && decide (id < 0x2C)) || id == 0x61)

/-- A temperature register's reading in °C, rounded down, as 32-bit two's complement. -/
def tempReading (s : State) (off : Nat) : Nat :=
  (BitVec.ofInt 32 (signed (rdF s off 0 16) 16 / 16)).toNat

/-- The reading of a sensor. -/
def sensorReading (s : State) (id t : Nat) : Nat :=
  if id = 0x01 then rdF s Reg.PWR_TICK_MEAN_W 0 16
  else if id = 0x02 then s.power.ceiling
  else if id < 0x18 then tempReading s (Reg.PWR_TEMP_CDIE (id - 0x10))
  else if id < 0x20 then tempReading s (Reg.PWR_TEMP_IDIE (id - 0x18))
  else if id < 0x30 then tempReading s (Reg.PWR_TEMP_HBM (id - 0x20))
  else if id = 0x30 then s.tbu.quality.code
  else if id = 0x31 then boundAt s t
  else if id = 0x40 then (indicesWhere s.build.ports (fun n => (port s n).st == .active || (port s n).st == .degraded)).length
  else if id = 0x41 then (if s.bridge.isolated then 3 else s.bridge.st)
  else if id = 0x50 then (rd s Reg.BKG_HBM_CE_COUNT).toNat
  else if id = 0x51 then
    (sat32 (sumNat ([Reg.BKG_HBM_UE_COUNT, Reg.BKG_CSRAM_UE_COUNT, Reg.BKG_TABLE_UE_COUNT, Reg.HUB_SRAM_UE_COUNT 0,
      Reg.HUB_SRAM_UE_COUNT 1, Reg.SPK_CS_UE_COUNT 0, Reg.SPK_CS_UE_COUNT 1].map (fun o => (rd s o).toNat)))).toNat
  else if id = 0x60 then (rd s Reg.TICK_OVERRUN_COUNT).toNat
  else if id = 0x61 then (liveSlots s).length
  else if s.sup.held then 2 else if s.sup.restarting || !s.sup.ready then 1 else if s.sup.checkLost then 3 else 0

/-- A telemetry record added to the log buffer (R446). -/
def logTelemetry (s : State) (id t : Nat) : State :=
  if s.logBuf.length < 2048 then
    { s with
      logBuf := s.logBuf ++ [.telemetry id (sensorReading s id t) s.clock.index s.logSeq (timeOnly s t)]
      logSeq := s.logSeq + 1 }
  else bump (bkgEvent s 9 t) Reg.BKG_LOG_DROP_COUNT

/-! ## Patrols (R436, R439, R441) -/

/-- The chores that patrol on this build: 0 HBM3E, 1 core SRAM, 2 hub SRAM, 3 tables, 4 control store. -/
def choresOf (b : Build) : List Nat := if b = .q then [2, 3, 4] else [0, 1, 2, 3, 4]

/-- A number added to a list of marks that does not hold it. -/
def addMark (l : List Nat) (k : Nat) : List Nat := if l.contains k then l else k :: l

/-- A 64-byte granule of module memory poisoned (R440). -/
def markMem (s : State) (line : Nat) : State :=
  { s with mems := { s.mems with poisonMem := addMark s.mems.poisonMem line } }

/-- A 64-byte granule of core SRAM poisoned (R440). -/
def markCsram (s : State) (line : Nat) : State :=
  { s with mems := { s.mems with poisonCsram := addMark s.mems.poisonCsram line } }

/-- A 64-bit word of hub SRAM poisoned (R263). -/
def markHsram (s : State) (w : Nat) : State :=
  { s with mems := { s.mems with poisonHsram := addMark s.mems.poisonHsram w } }

/-- The packets that a flow holds in REORDER_OVF discarded, unacknowledged; they come again by resend (R332). -/
def dropOvf (s : State) (h : Nat) : State :=
  let n := SMap.get s.fab.ovf 0 h
  let s1 := setFab s { s.fab with inFlows := s.fab.inFlows.map (fun f =>
    if homeDie s f.chan = h then { f with held := f.held.filter (fun e => !e.2) } else f) }
  if n = 0 then s1 else useReorder s1 h true 0 n

/-- The staged packet that holds byte `k` of a partition's KV_STAGE range: they lie there in the order they were sent
(DESIGN CHOICE, log entry 78). -/
def stagedAt (k : Nat) : List (Transfer × Sent) → Option Transfer
  | [] => none
  | (tr, u) :: rest => if k < u.pkt.length then some tr else stagedAt (k - u.pkt.length) rest

/-- The user of a hub SRAM word with an uncorrectable error ends (R263): the collective of the stream whose buffer holds it,
the transfer staged there, or the packets held there. -/
def hsramUser (s : State) (w t : Nat) : State :=
  let h := w / 4194304
  let b := w % 4194304 * 8
  let streams := (s.hubs.spokes.map (·.1)).filter (fun i =>
    decide ((bufferWords s i).1 ≤ w) && decide (w < (bufferWords s i).2))
  let s1 := streams.foldl (fun s i => match spoke? s i with
    | some p => hubSramUe s p.op.item t
    | none => s) s
  match s.fence.allocs.find? (fun a => a.2.cls == 4 + h && decide (a.2.first ≤ b) && decide (b < a.2.first + a.2.count)) with
  | none => s1
  | some (_, a) =>
    if a.use = 3 then dropOvf s1 h
    else if a.use = 2 then
      match stagedAt (b - a.first) (stagedHere s1 h a.part) with
      | some tr => reapTransfers (endTransfer s1 tr .poisoned 5) t
      | none => s1
    else s1

/-- The bytes of a block of a control store as the store holds them. -/
def blockNow (s : State) (h blk : Nat) : List Byte :=
  let w := blockWords s h blk
  (List.range w.2).flatMap (fun k => leBytes 16 (SMap.get s.hubs.store.words 0 (h * 16384 + w.1 + k)))

/-- A reload of a control-store block that is neither BAD nor reloading already starts (R287, R290). -/
def startReload (s : State) (b : Nat) : State :=
  if (SMap.get? s.hubs.store.reloading b).isSome || wbit (rd s (Reg.SPK_CS_BAD (b / 256) (b % 256 / 32))) (b % 32) then s
  else { s with hubs := { s.hubs with store := { s.hubs.store with reloading := SMap.put s.hubs.store.reloading b 0 } } }

/-- A correctable or uncorrectable error that a patrol found, reported at `t`; at the end of a control-store block the scrub
compares its CRC (R290). -/
def patrolFinding (t : Nat) (s : State) (f : Finding) : State :=
  match f with
  | .hbm line ue =>
    if !ue then bkgEvent (bump s Reg.BKG_HBM_CE_COUNT) 0 t
    else
      let s1 := markMem s line
      let a := line * 64
      let s2 := if wbit (rd s1 Reg.BKG_HBM_UE_LOG_LO) 0 then s1
        else wr (wr s1 Reg.BKG_HBM_UE_LOG_LO (BitVec.ofNat 32 (a % 2 ^ 32 + 1))) Reg.BKG_HBM_UE_LOG_HI (BitVec.ofNat 32 (a / 2 ^ 32))
      bkgEvent (bump s2 Reg.BKG_HBM_UE_COUNT) 1 t
  | .csram line ue =>
    if !ue then bkgEvent (bump s Reg.BKG_CSRAM_CE_COUNT) 2 t
    else
      let s1 := markCsram s line
      let s2 := if wbit (rd s1 Reg.BKG_CSRAM_UE_LOG) 31 then s1
        else wr s1 Reg.BKG_CSRAM_UE_LOG (BitVec.ofNat 32 (line / 196608 % 64 + line % 196608 * 64 + 2 ^ 31))
      bkgEvent (bump s2 Reg.BKG_CSRAM_UE_COUNT) 3 t
  | .hsram w ue =>
    let h := w / 4194304
    if !ue then raise (bump s (Reg.HUB_SRAM_CE_COUNT h)) (Reg.HUB_EVENT h) 0 .fabric false false t
    else
      let s1 := markHsram s w
      hsramUser (raise (bump s1 (Reg.HUB_SRAM_UE_COUNT h)) (Reg.HUB_EVENT h) 1 .fabric false false t) w t
  | .table e ue =>
    if !ue then bkgEvent (bump s Reg.BKG_TABLE_CE_COUNT) 4 t
    else
      let s1 := bkgEvent (bump s Reg.BKG_TABLE_UE_COUNT) 5 t
      if e < 65536 then
        let s2 := if (SMap.get? s1.fence.failedClosed e).isSome then s1
          else { s1 with fence := { s1.fence with failedClosed := SMap.put s1.fence.failedClosed e 0 } }
        if e < 512 then raise s2 Reg.FENCE_EVENT 7 .fence true false t else s2
      else if e < 131072 then wr s1 (Reg.TLY_STREAM_W3 (e - 65536)) 0#32
      else if e < 196608 then endRequest s1 (e - 131072) .poisoned 5 t
      else if e < 262144 then { s1 with sync := { s1.sync with flags := s1.sync.flags.filter (· != e - 196608) } }
      else wr s1 (Reg.MSK_SLOT_STATE (e - 262144)) 0#32
  | .ctrl b ue =>
    let h := b / 256
    if !ue then raise (bump s (Reg.SPK_CS_CE_COUNT h)) (Reg.SPK_EVENT h) 2 .check false false t
    else
      startReload (raise (bump s (Reg.SPK_CS_UE_COUNT h)) (Reg.SPK_EVENT h) 3 .check false false t) b
  | .ctrlEnd b =>
    if (SMap.get? s.hubs.store.crcs b).getD (crc32c []) == crc32c (blockNow s (b / 256) (b % 256)) then s
    else startReload s b

/-! ## The slot and the carry-over window (R436, R437) -/

/-- Late work of the previous tick occupies a lane that `p` names (R39). -/
def lateOn (s : State) (p : Nat → Bool) : Bool :=
  s.sched.items.any (fun e => e.2.ph != .done && decide (e.2.seq < s.clock.seq) && e.2.lanes.any p)

/-- A patrol may go on in the carry-over window (R437): that of HBM3E while no item is late, those of core SRAM and hub SRAM
while no core, or no stream, holds late work. -/
def carries (s : State) (c : Nat) : Bool :=
  if c = 0 then !s.sched.items.any (fun e => e.2.ph != .done && decide (e.2.seq < s.clock.seq))
  else if c = 1 then !lateOn s (fun l => decide (l < 64)) else c == 2 && !lateOn s (fun l => decide (64 ≤ l))

/-- The patrol that a finding belongs to. -/
def Finding.chore : Finding → Nat
  | .hbm _ _ => 0
  | .csram _ _ => 1
  | .hsram _ _ => 2
  | .table _ _ => 3
  | .ctrl _ _ => 4
  | .ctrlEnd _ => 4

/-- What a patrol covers in `m` ns, and the size of its resource; the control store is counted in blocks, and the size of
the tables is left open by the spec. -/
def patrolAmount (s : State) (m c : Nat) : Nat × Nat :=
  if c = 0 then (50 * rdF s Reg.BKG_CFG 0 4 * m, 25769803776)
  else if c = 1 then (288 * m / 10, 12582912)
  else if c = 2 then (32 * m, 33554432)
  else if c = 3 then (if drawBool s then 1 else 0, 1)
  else (4, 256)

/-- The register of a patrol's last pass. -/
def passReg (c : Nat) : Nat :=
  if c = 0 then Reg.BKG_PASS_HBM else if c = 1 then Reg.BKG_PASS_CSRAM else if c = 2 then Reg.BKG_PASS_HSRAM
  else if c = 3 then Reg.BKG_PASS_TABLE else Reg.BKG_PASS_CS

/-- A patrol stops after `m` ns: its place moves on, and a complete pass is recorded. -/
def stopPatrol (m : Nat) (s : State) (c : Nat) : State :=
  let a := patrolAmount s m c
  let at_ := SMap.get s.bkg.place 0 c + a.1
  if at_ < a.2 then setBkg s { s.bkg with place := SMap.put s.bkg.place c at_ }
  else wr (setBkg s { s.bkg with place := SMap.put s.bkg.place c 0, ticks := SMap.put s.bkg.ticks c 0 }) (passReg c)
    (sat32 (SMap.get s.bkg.ticks 0 c))

/-- The running patrols stop (R436): at the slot's end, or in a carry-over window at `t`, no later than t+G. -/
def stopChores (s : State) (t : Nat) : State :=
  if s.bkg.running.isEmpty then s
  else
    let m := match s.bkg.carry with
      | some t0 => min t (graceNs s) - t0
      | none => maintNs s
    let s1 := s.bkg.running.foldl (stopPatrol m) s
    drawn (setBkg s1 { s1.bkg with running := [], carry := none })

/-- CHORE_START (R436, R437, R439, R446): at t+S_m+0.1 µs the chores go on where they stopped. What the patrols of the slot
find is the command's. At an epoch edge the telemetry records of the logged sensors are written. Before the slot, in the
carry-over window, patrols go on where no late work is. -/
def execChoreStart (found : List Finding) (t : Nat) (s : State) : Host.Outcome State Fault Refusal :=
  if !s.clock.slotOpen then
    let l := (choresOf s.build).filter (carries s)
    if !s.clock.running || !s.bkg.running.isEmpty || decide (graceNs s ≤ t) || l.isEmpty then .next s
    else
      .next ((found.filter (fun f => l.contains f.chore)).foldl (patrolFinding t)
        (setBkg s { s.bkg with running := l, carry := some t }))
  else if s.bkg.carry.isNone && !s.bkg.running.isEmpty then .next s
  else
    let l := choresOf s.build
    let s0 := stopChores s (graceNs s)
    let s1 := setBkg s0 { s0.bkg with
      running := l, pageInSlot := false
      pagesInEpoch := if atEpochEdge s then 0 else s.bkg.pagesInEpoch
      ticks := l.foldl (fun m c => SMap.upd m 0 c (· + 1)) s0.bkg.ticks }
    let s2 := found.foldl (patrolFinding t) s1
    let s3 := if atEpochEdge s then
        ((sensorIds s.build).filter sensorLogged).foldl (fun s id => logTelemetry s id t) s2
      else s2
    let s4 := if atEpochEdge s && decide (maintNs s < 22000) then
        (indicesWhere s.build.ports (portPresent s)).foldl (fun s _ => bump s Reg.BKG_RECAL_SKIP_COUNT)
          (wr s3 Reg.BKG_STATUS (setBitW (rd s3 Reg.BKG_STATUS) 0))
      else s3
    .next s4

/-- CHORE_STOP (R436, R437): at t+S_f−0.1 µs, or at `t` in the carry-over window, no new access is issued. -/
def execChoreStop (t : Nat) (s : State) : Host.Outcome State Fault Refusal := .next (stopChores s t)

/-! ## Lane recalibration (R442–R445) -/

/-- LANE_RECAL_START (R442, R443): in the slot of its epoch position port `n` asks for the width without the epoch's
lane; an out-of-service lane is adapted without that. -/
def execLaneRecalStart (n : Nat) (s : State) : Host.Outcome State Fault Refusal :=
  let po := port s n
  let lane := epochNum s s.clock.index % 4
  let w := popcount po.laneOk 4
  if !(s.clock.slotOpen && epochPos s s.clock.index == (2 + n) % epochLen s && portPresent s n &&
      (po.st == .active || po.st == .degraded) && decide (3 ≤ w) && decide (22000 ≤ maintNs s) && po.recal.isNone) then .next s
  else if bitAt po.laneOk lane then
    .next (askWidth (setPort s n { po with recal := some (lane, true) }) n (po.laneOk - 2 ^ lane))
  else .next (setPort s n { po with recal := some (lane, false) })

/-- LANE_RECAL_DONE (R444): an adapted lane is returned by WIDTH_REQ; one whose adaptation failed stays out and the port
is DEGRADED. -/
def execLaneRecalDone (n : Nat) (ok : Bool) (t : Nat) (s : State) : Host.Outcome State Fault Refusal :=
  let po := port s n
  match po.recal with
  | none => .next s
  | some (lane, removed) =>
    let s1 := setPort s n { po with recal := none }
    if ok then
      let s2 := bump s1 Reg.BKG_RECAL_DONE_COUNT
      let mask := if bitAt po.laneOk lane then po.laneOk else po.laneOk + 2 ^ lane
      .next (askWidth (if removed then s2 else bkgEvent s2 7 t) n mask)
    else
      let out := if bitAt po.laneOk lane then po.laneOk - 2 ^ lane else po.laneOk
      .next (setWidth (bkgEvent (bump s1 Reg.BKG_RECAL_FAIL_COUNT) 6 t) n out t)

/-! ## The log region (R446–R450) -/

/-- The flash address of a sector of the log region. -/
def sectorAddr (k : Nat) : Nat := 0x06100000 + k * 65536

/-- The log records' bytes (Table 17.4). -/
def LogRec.bytes (r : LogRec) : List Byte :=
  let b := match r with
    | .event e q => wordBytes e.time ++ leBytes 1 e.cls.code ++ leBytes 1 e.block ++ leBytes 1 e.bit ++ leBytes 1 0 ++
        leBytes 4 e.detail.toNat ++ leBytes 4 e.tick ++ leBytes 4 q
    | .telemetry id v k q tm => wordBytes tm ++ leBytes 1 10 ++ leBytes 1 id ++ leBytes 1 (id / 256) ++ leBytes 1 0 ++
        leBytes 4 v ++ leBytes 4 k ++ leBytes 4 q
  b ++ leBytes 4 (crc32c b)

/-- The header of an opened sector (Table 17.3). -/
def sectorHeader (seq erases : Nat) : List Byte :=
  let a := leBytes 4 0x47454C42 ++ leBytes 4 seq ++ leBytes 4 erases
  a ++ leBytes 1 0x7F ++ List.replicate 47 0xFF#8 ++ leBytes 4 (crc32c a)

/-- Sectors that may still be used. -/
def usableSectors (s : State) : Nat := 496 - s.bkg.retired.length

/-- The next `n` sectors in ring order after `k` that are not retired. -/
def sectorsAfter (s : State) (k n : Nat) : List Nat :=
  (((List.range 495).map (fun i => (k + 1 + i) % 496)).filter (fun j => !s.bkg.retired.contains j)).take n

/-- An erase started when one of the 2 sectors ahead of the open one is not erased (R447). -/
def startErase (s : State) : State :=
  match (sectorsAfter s (s.bkg.openSector.getD 495) 2).find? (fun j => !s.bkg.erased.contains j) with
  | some j => if s.bkg.flashOp.isNone then setBkg s { s.bkg with flashOp := some (.erase j) } else s
  | none => s

/-- The sector and page where the next records go, and the bytes before them: a fresh sector begins with its header. -/
def nextPageAt (s : State) : Option (Nat × Nat × List Byte) :=
  match s.bkg.openSector with
  | some k => if s.bkg.nextPage < 256 then some (k, s.bkg.nextPage, [])
    else (sectorsAfter s k 1).head?.bind (fun j => if s.bkg.erased.contains j then
      some (j, 0, sectorHeader (s.bkg.sectorSeq + 1) (SMap.get s.bkg.erases 0 j)) else none)
  | none => (sectorsAfter s 495 1).head?.bind (fun j => if s.bkg.erased.contains j then
      some (j, 0, sectorHeader (s.bkg.sectorSeq + 1) (SMap.get s.bkg.erases 0 j)) else none)

/-- Records that a page takes. -/
def pageRoom (page : Nat) : Nat := if page = 0 then 6 else 8

/-- LOG_PAGE_PROGRAM (R447, R449): in a maintenance slot one page of buffered records is programmed, a partial page only
at the epoch edge, within LOG_PAGES an epoch; otherwise an erase that is due is started. With fewer than 8 usable
sectors, or while a reload of a control store has the flash (R288, R448), nothing is started. -/
def execLogPageProgram (s : State) : Host.Outcome State Fault Refusal :=
  if s.bkg.running.isEmpty || s.bkg.carry.isSome || s.bkg.flashOp.isSome || decide (usableSectors s < 8) ||
      !s.hubs.store.reloading.isEmpty then .next s
  else match nextPageAt s with
    | none => .next (startErase s)
    | some (k, page, pre) =>
      let recs := s.logBuf.take (pageRoom page)
      let full := recs.length == pageRoom page
      if !s.bkg.pageInSlot && decide (s.bkg.pagesInEpoch < rdF s Reg.BKG_CFG 4 8) &&
          (full || (atEpochEdge s && !recs.isEmpty)) then
        .next (setBkg s { s.bkg with
          flashOp := some (.program (sectorAddr k + page * 256) (pre ++ recs.flatMap LogRec.bytes))
          pagesInEpoch := s.bkg.pagesInEpoch + 1, pageInSlot := true })
      else .next (startErase s)

/-- A sector retired (R449): marked in its header, counted and raised; below 8 usable sectors the log stops. -/
def retireSector (s : State) (k t : Nat) : State :=
  let s1 := { s with mems := { s.mems with flash := Mem.write 0xFF#8 s.mems.flash (sectorAddr k + 12) 0#8 } }
  let s2 := setBkg s1 { s1.bkg with
    retired := if s1.bkg.retired.contains k then s1.bkg.retired else k :: s1.bkg.retired
    erased := s1.bkg.erased.filter (· != k)
    openSector := if s1.bkg.openSector = some k then none else s1.bkg.openSector }
  let s3 := bkgEvent (bump (wr s2 Reg.BKG_LOG_USABLE (BitVec.ofNat 32 (usableSectors s2))) Reg.BKG_SECTOR_RETIRED_COUNT) 8 t
  if usableSectors s3 < 8 ∧ wbit (rd s3 Reg.BKG_STATUS) 1 = false then
    bkgEvent (wr s3 Reg.BKG_STATUS (setBitW (rd s3 Reg.BKG_STATUS) 1)) 10 t
  else s3

/-- A page program that verified: its records leave the buffer, and a sector filled before is marked full. -/
def programDone (s : State) (addr : Nat) (bs : List Byte) : State :=
  let k := (addr - 0x06100000) / 65536
  let page := (addr - 0x06100000) % 65536 / 256
  let n := (if page = 0 then bs.length - 64 else bs.length) / 32
  let fl := Mem.writeN 0xFF#8 s.mems.flash addr bs
  let fl1 := match s.bkg.openSector with
    | some o => if o = k then fl else Mem.write 0xFF#8 fl (sectorAddr o + 12) 0x3F#8
    | none => fl
  let s1 := { s with mems := { s.mems with flash := fl1 }, logBuf := s.logBuf.drop n }
  let s2 := setBkg s1 { s1.bkg with
    openSector := some k, nextPage := page + 1, flashOp := none
    erased := s1.bkg.erased.filter (· != k)
    sectorSeq := if page = 0 then s1.bkg.sectorSeq + 1 else s1.bkg.sectorSeq }
  wr s2 Reg.BKG_LOG_WPTR (BitVec.ofNat 32 (if page + 1 < 256 then addr / 256 * 256 + 256 else
    match (sectorsAfter s2 k 1).head? with
    | some j => sectorAddr j + 64
    | none => addr))

/-- FLASH_OP_COMPLETE (R447, R449): a page program or an erase ends; one that fails verification retires its sector.
A reload of a control store suspends it, and none ends meanwhile (R288, R448). -/
def execFlashOpComplete (ok : Bool) (t : Nat) (s : State) : Host.Outcome State Fault Refusal :=
  if !s.hubs.store.reloading.isEmpty then .next s else
  match s.bkg.flashOp with
  | none => .next s
  | some (.program a bs) =>
    if ok then .next (startErase (programDone s a bs))
    else .next (startErase (retireSector (setBkg s { s.bkg with flashOp := none }) ((a - 0x06100000) / 65536) t))
  | some (.erase k) =>
    let n := SMap.get s.bkg.erases 0 k + 1
    let s1 := setBkg s { s.bkg with flashOp := none, erases := SMap.put s.bkg.erases k n }
    if ok then
      let s2 := { s1 with mems := { s1.mems with flash := s1.mems.flash.filter (fun c =>
        decide (c.1 < sectorAddr k) || decide (sectorAddr (k + 1) ≤ c.1)) } }
      let s3 := setBkg s2 { s2.bkg with erased := k :: s2.bkg.erased.filter (· != k) }
      .next (if 100000 ≤ n then retireSector s3 k t else s3)
    else .next (retireSector s1 k t)

/-- The log taken up again at the microcode lock (R450): the open sector of highest SEQ, after its last good record, at
the next page boundary. With fewer than 8 usable sectors it has stopped (R449). -/
def recoverLog (s : State) : State :=
  let byte := fun a n => Mem.readN 0xFF#8 s.mems.flash a n
  let hdr := fun k => byte (sectorAddr k) 64
  let good := fun (h : List Byte) => leAt h 0 4 == 0x47454C42 && leAt h 0x3C 4 == crc32c (h.take 12)
  let st := fun (h : List Byte) => leAt h 12 1
  let known := (List.range 496).filter (fun k => s.mems.flash.any (fun c => c.1 / 65536 == sectorAddr k / 65536))
  let heads := known.map (fun k => (k, hdr k))
  let opens := heads.filter (fun e => good e.2 && st e.2 == 0x7F)
  let best := opens.foldl (fun a e => match a with
    | none => some (e.1, leAt e.2 4 4)
    | some (j, q) => if q < leAt e.2 4 4 then some (e.1, leAt e.2 4 4) else some (j, q)) (none : Option (Nat × Nat))
  let lastPage := fun k => maxNat (((List.range 2046).filter (fun r =>
      let rc := byte (sectorAddr k + 64 + 32 * r) 32
      leAt rc 28 4 == crc32c (rc.take 28))).map (fun r => (64 + 32 * r) / 256 + 1))
  let retired := (heads.filter (fun e => good e.2 && st e.2 == 0)).map (·.1)
  let s1 := setBkg s { s.bkg with
    openSector := best.map (·.1)
    nextPage := match best with
      | some (k, _) => max (lastPage k) 1
      | none => 0
    sectorSeq := maxNat ((heads.filter (fun e => good e.2)).map (fun e => leAt e.2 4 4))
    retired := retired
    erased := (List.range 496).filter (fun k => !known.contains k)
    erases := (heads.filter (fun e => good e.2)).foldl (fun m e => SMap.put m e.1 (leAt e.2 8 4)) [] }
  let ptr := match best with
    | some (k, _) => sectorAddr k + s1.bkg.nextPage * 256
    | none => sectorAddr 0 + 64
  let s2 := wr (wr s1 Reg.BKG_LOG_WPTR (BitVec.ofNat 32 ptr)) Reg.BKG_LOG_USABLE (BitVec.ofNat 32 (usableSectors s1))
  if usableSectors s1 < 8 then bkgEvent (wr s2 Reg.BKG_STATUS (setBitW (rd s2 Reg.BKG_STATUS) 1)) 10 0 else s2

/-! ## Telemetry and timers -/

/-- TELEMETRY_SAMPLE (R452): one sample of the sensors enters the ring of 64; when it is full the oldest is overwritten.
Whether supervisor firmware has emptied the ring is left open while it runs. -/
def execTelemetrySample (t : Nat) (s : State) : Host.Outcome State Fault Refusal :=
  let held := if s.sup.ready && drawBool s then 0 else s.bkg.held
  let idx := rdF s Reg.BKG_TELEM_IDX 0 6
  let sample := (sensorIds s.build).map (fun id => sensorReading s id t)
  let s1 := setBkg (drawn s) { s.bkg with ring := SMap.put s.bkg.ring idx sample, held := min (held + 1) 64 }
  let s2 := wr s1 Reg.BKG_TELEM_IDX (BitVec.ofNat 32 ((idx + 1) % 64))
  .next (if held < 64 then s2 else bkgEvent (bump s2 Reg.BKG_TELEM_OVF_COUNT) 11 t)

/-- The USE code of a hardware timer's allocation (R453): timers 0 to 15 of I-die 0, then those of I-die 1. -/
def timerUse (s : State) (k : Nat) : Option Nat := if k < 16 then useOf s 2 k else useOf s 3 (k - 16)

/-- HW_TIMER_EXPIRY (R453, R528): a running timer reaches COMPARE: its count starts anew, a COMPARE written meanwhile
takes effect, and a SUPERVISOR timer interrupts supervisor firmware. -/
def execHwTimerExpiry (k : Nat) (s : State) : Host.Outcome State Fault Refusal :=
  if !(wbit (rd s (Reg.BKG_TIMER_RUN k)) 0) || !decide (k < 32) then .next s
  else
    let s1 := setBkg s { s.bkg with timerNext := SMap.del s.bkg.timerNext k }
    .next (if timerUse s k = some 3 then { s1 with sup := { s1.sup with irq := true } } else s1)

end Sys2Proof.Machine
end

