-- ==== Sys2Proof/Machine/Crypto.lean ====
section
/-! DEFINITION. The algorithms that R103 names: SHA-384 (FIPS 180-4) and the verification of an ECDSA signature on P-384
(FIPS 186), as those standards give them (log entry 75). -/

namespace Sys2Proof.Machine

/-! ## SHA-384 -/

/-- The greatest number below `2 ^ n` more than `r` in steps of the bits below `n` whose `k`-th power does not exceed `x`. -/
def rootFrom (k x : Nat) : Nat → Nat → Nat
  | 0, r => r
  | n + 1, r => rootFrom k x n (if (r + 2 ^ n) ^ k ≤ x then r + 2 ^ n else r)

/-- The first 64 bits of the fractional part of the `k`-th root of a number below 2^12. -/
def rootFraction (k p : Nat) : Nat := rootFrom k (p * 2 ^ (64 * k)) 76 0 % 2 ^ 64

/-- The first eighty primes. -/
def primes80 : List Nat := (List.range 410).filter (fun n => decide (2 ≤ n) && (List.range 21).all (fun d =>
  decide (d < 2) || n == d || n % d != 0))

/-- A 64-bit word rotated right. -/
def rotr64 (n x : Nat) : Nat := (x >>> n ||| x <<< (64 - n)) % 2 ^ 64

/-- The small and the big sigma functions. -/
def shaSmall0 (x : Nat) : Nat := rotr64 1 x ^^^ rotr64 8 x ^^^ x >>> 7
def shaSmall1 (x : Nat) : Nat := rotr64 19 x ^^^ rotr64 61 x ^^^ x >>> 6
def shaBig0 (x : Nat) : Nat := rotr64 28 x ^^^ rotr64 34 x ^^^ rotr64 39 x
def shaBig1 (x : Nat) : Nat := rotr64 14 x ^^^ rotr64 18 x ^^^ rotr64 41 x

/-- `n` more words of the message schedule, newest first. -/
def shaSchedule : Nat → List Nat → List Nat
  | 0, w => w
  | n + 1, w =>
    shaSchedule n ((shaSmall1 (w.getD 1 0) + w.getD 6 0 + shaSmall0 (w.getD 14 0) + w.getD 15 0) % 2 ^ 64 :: w)

/-- One round; `kw` is the sum of the round's constant and its word of the schedule. -/
def shaRound (v : List Nat) (kw : Nat) : List Nat :=
  match v with
  | [a, b, c, d, e, f, g, h] =>
    let t1 := h + shaBig1 e + ((e &&& f) ^^^ ((2 ^ 64 - 1 - e) &&& g)) + kw
    let t2 := shaBig0 a + ((a &&& b) ^^^ (a &&& c) ^^^ (b &&& c))
    [(t1 + t2) % 2 ^ 64, a, b, c, (d + t1) % 2 ^ 64, e, f, g]
  | v => v

/-- The chaining value after one block of 128 bytes. -/
def shaBlock (ks : List Nat) (v : List Nat) (block : List Byte) : List Nat :=
  let w := (shaSchedule 64 ((List.range 16).map (fun i => beAt block (8 * i) 8)).reverse).reverse
  let r := (List.zipWith (· + ·) ks w).foldl shaRound v
  List.zipWith (fun x y => (x + y) % 2 ^ 64) v r

/-- A message with the padding of SHA-384: a 1 bit, zeros and the bit length in 16 bytes. -/
def shaPad (bs : List Byte) : List Byte :=
  bs ++ 0x80#8 :: List.replicate ((239 - bs.length % 128) % 128) 0#8 ++ (leBytes 16 (8 * bs.length)).reverse

/-- The SHA-384 digest of a message, 48 bytes. -/
def sha384 (bs : List Byte) : List Byte :=
  let p := shaPad bs
  let ks := primes80.map (rootFraction 3)
  let v0 := ((primes80.drop 8).take 8).map (rootFraction 2)
  let v := (List.range (p.length / 128)).foldl (fun v i => shaBlock ks v (slice p (128 * i) 128)) v0
  (v.take 6).flatMap (fun w => (leBytes 8 w).reverse)

/-! ## ECDSA on P-384 -/

/-- The prime of the field, the order of the base point, and the coefficient b of the curve y² = x³ − 3x + b. -/
def p384P : Nat := 2 ^ 384 - 2 ^ 128 - 2 ^ 96 + 2 ^ 32 - 1
def p384N : Nat :=
  0xffffffffffffffffffffffffffffffffffffffffffffffffc7634d81f4372ddf581a0db248b0a77aecec196accc52973
def p384B : Nat :=
  0xb3312fa7e23ee7e4988e056be3f82d19181d9c6efe8141120314088f5013875ac656398d8a2ed19d2a85c8edd3ec2aef

/-- The base point. -/
def p384G : Nat × Nat :=
  (0xaa87ca22be8b05378eb1c71ef320ad746e1d3b628ba79b9859f741e082542a385502f25dbf55296c3a545e3872760ab7,
   0x3617de4a96262c6f5d9e98bf9292dc29f8f41dbd289a147ce9da3113b5f0b8c00a60b1ce1d7e819d7a431d7c90ea0e5f)

/-- `a ^ e` modulo `m`, for an exponent of at most `n` bits. -/
def powMod (m a : Nat) : Nat → Nat → Nat
  | 0, _ => 1 % m
  | n + 1, e =>
    let h := powMod m a n (e / 2)
    if e % 2 = 1 then h * h % m * a % m else h * h % m

/-- The inverse modulo a prime of 384 bits. -/
def invMod (m a : Nat) : Nat := powMod m a 384 (m - 2)

/-- `a − b` modulo the field's prime. -/
def subP (a b : Nat) : Nat := (a + (p384P - b % p384P)) % p384P

/-- The sum of two points of the curve; none is the point at infinity. -/
def addPoint (x y : Option (Nat × Nat)) : Option (Nat × Nat) :=
  match x, y with
  | none, q => q
  | p, none => p
  | some (x1, y1), some (x2, y2) =>
    if x1 = x2 ∧ (y1 + y2) % p384P = 0 then none
    else
      let l := if x1 = x2 then (3 * x1 * x1 + (p384P - 3)) % p384P * invMod p384P (2 * y1 % p384P) % p384P
        else subP y2 y1 * invMod p384P (subP x2 x1) % p384P
      let x3 := subP (l * l) (x1 + x2)
      some (x3, subP (l * subP x1 x3) y1)

/-- `k` times a point, for a factor of at most `n` bits. -/
def mulPoint (p : Option (Nat × Nat)) : Nat → Nat → Option (Nat × Nat)
  | 0, _ => none
  | n + 1, k =>
    let h := mulPoint p n (k / 2)
    let d := addPoint h h
    if k % 2 = 1 then addPoint d p else d

/-- The signature (r, s) verifies for a digest of 48 bytes under the public key (x, y). -/
def ecdsaVerify (key : Nat × Nat) (digest : List Byte) (r s : Nat) : Bool :=
  let onCurve := decide (key.1 < p384P) && decide (key.2 < p384P) &&
    key.2 * key.2 % p384P == (key.1 * key.1 * key.1 + (p384P - 3) * key.1 + p384B) % p384P
  if onCurve && decide (0 < r) && decide (r < p384N) && decide (0 < s) && decide (s < p384N) then
    let w := invMod p384N s
    let u1 := beNat digest * w % p384N
    let u2 := r * w % p384N
    match addPoint (mulPoint (some p384G) 384 u1) (mulPoint (some key) 384 u2) with
    | some (x, _) => x % p384N == r
    | none => false
  else false

end Sys2Proof.Machine
end

