-- ==== Sys2Proof/Machine/Checks.lean ====
section
/-! DEFINITION. The descriptor checks of Table 7.6 with the operand rules of every opcode (R170, R204, R215, R218, R408,
R417, R430), used as an entry enters the cache and on the standing schedule at load. -/

namespace Sys2Proof.Machine

/-! ## Checks 2 to 5 -/

/-- Check 3: the opcode is available on this build and strap. -/
def opAvailable (s : State) (op : Nat) : Bool :=
  if op = 0 ∨ op = 3 ∨ op = 8 then true
  else if op ≤ 2 then s.build != .q
  else s.build != .q && !g1 s

/-- Check 4 in the operands: every byte and bit that Tables 7.4, 7.5, 9.4, 15.4 and 15.5 mark 0. -/
def opsZeroOk (s : State) (op : Nat) (o : List Byte) : Bool :=
  if op = 0 ∨ op = 8 then allZero o
  else if op = 1 then g1 s || (bits (leAt o 0x10 4) 16 16 == 0 && leAt o 0x14 12 == 0)
  else if op = 2 then bits (leAt o 0x14 4) 2 30 == 0 && leAt o 0x18 8 == 0
  else if op = 3 then
    let a := collArgs o
    bits a.cflags 4 4 == 0 && bits a.peer 5 3 == 0 && a.zero == 0 && a.doneZero == 0
  else if op = 4 then
    bits (leAt o 1 1) 3 5 == 0 && bits (leAt o 2 1) 3 5 == 0 && leAt o 0x16 2 == 0 && bits (leAt o 0x18 4) 18 13 == 0 &&
      leAt o 0x1C 4 == 0
  else
    !bitAt (leAt o 0 2) 15 && leAt o 2 6 == 0 && leAt o 0x11 3 == 0 &&
      (op == 6 || (leAt o 0x10 1 == 0 && leAt o 0x14 4 == 0)) &&
      ((op == 6 && leAt o 0x10 1 == 1) || leAt o 0x18 8 == 0)

/-- Check 5: LANES as Table 7.2 requires. -/
def lanesOk (s : State) (op lanes : Nat) : Bool :=
  if op = 1 then lanes != 0 && decide (lanes < 2 ^ s.build.cores)
  else if op = 2 then popcount lanes 64 == 1 && decide (lanes < 2 ^ s.build.cores)
  else if op = 3 then decide (lanes < numStreams s)
  else lanes == 0

/-- The lanes a descriptor occupies: core c is c, stream i is 64 + i. -/
def lanesOf (d : Desc) : List Nat :=
  if d.opcode = 1 ∨ d.opcode = 2 then indicesWhere 64 (bitAt d.lanes)
  else if d.opcode = 3 then [64 + d.lanes % 32] else []

/-! ## Check 6 (R150) -/

/-- The flags of a collective's rotation set. -/
def tileFlags (a : CollArgs) : List Nat := (List.range a.tileK).map (a.tileFlag + ·)

/-- The flags a collective names. -/
def namedFlags (a : CollArgs) : List Nat :=
  (if a.streamed || a.coll == 10 then tileFlags a else []) ++ (if a.doneValid then [a.doneFlag] else [])

/-- Every stream, flag and group named is owned by the partition. A GROUP that is not DEFINED and a flag whose home the
build lacks are not judged: they are DESC_INVALID (R87). -/
def namesOwned (s : State) (p : Nat) (d : Desc) : Bool :=
  if d.opcode = 3 then
    let a := collArgs d.ops
    let g := group s a.group
    streamOwner s (d.lanes % 32) == some p && (!g.defined || g.part == p) &&
      (namedFlags a).all (fun f => !flagPresent s f || flagOwner s f == some p)
  else true

/-! ## Checks 9 and 10 -/

/-- Check 9 (Tables 7.4 and 7.5). -/
def copyOk (op : Nat) (o : List Byte) : Bool :=
  if op = 1 then leAt o 0 8 % 64 == 0 && leAt o 8 8 % 64 == 0
  else if op = 2 then leAt o 0x10 4 != 0
  else true

/-- RED_FN, STREAMED and DYN_COUNT as Table 9.2 permits them for an operation. -/
def opPermits (a : CollArgs) : Bool :=
  let red := if a.coll ≤ 2 then decide (1 ≤ a.redFn) && decide (a.redFn ≤ 6) else a.redFn == 0
  let str := !a.streamed || a.coll ≤ 4 || a.coll == 8
  let dyn := !a.dyn || [0, 1, 3, 4, 7, 8, 9].contains a.coll
  red && str && dyn

/-- The format as Tables 9.5 and 9.6 permit it. -/
def fmtPermits (a : CollArgs) : Bool :=
  decide (a.fmt ≤ 7) && !((a.redFn == 4 || a.redFn == 5) && a.fmt ≤ 4) &&
    !(a.fmt == 7 && !(a.redFn == 0 || a.redFn == 4 || a.redFn == 5)) &&
    !(a.outAcc && (a.fmt == 5 || a.redFn == 0 || a.fmt == 7))

/-- The addresses that Table 9.2 requires to be 0 for a member of rank `r` (all for a node-only entry, R557). -/
def addrsOk (a : CollArgs) (rank : Option Nat) : Bool :=
  match rank with
  | none => a.src == 0 && a.dst == 0
  | some r =>
    let root := r == a.peer % 32
    !((a.coll == 1 || a.coll == 4) && !root && a.dst != 0) && !((a.coll == 5 || a.coll == 6 || a.coll == 10) && !root && a.src != 0) &&
      !(a.coll == 8 && a.dst != 0) && !(a.coll == 9 && a.src != 0) && !(a.coll == 10 && root && a.dst != 0)

/-- TILE_FLAGS, k and TILE_LEN (Table 9.4): TILE flags of one core when STREAMED or STREAM, 0 otherwise. -/
def tilesOk (s : State) (a : CollArgs) : Bool :=
  if a.streamed || a.coll == 10 then
    decide (1 ≤ a.tileK) && decide (1 ≤ a.tileLen) && decide (a.tileLen ≤ 16384) &&
      (tileFlags a).all (fun f => isCoreFlag f && flagCore f == flagCore a.tileFlag && flagUse s f == some 3)
  else a.tileFlag == 0 && a.tileK == 0 && a.tileLen == 0

/-- R218: a COLLECTIVE descriptor's operand rules (R213, R215, R229; and the absences of chapter 9 Under G1COMPAT), on a
stream that its group's trees use (R342), whose buffer holds at least one granule of each operand (R251). -/
def collOk (s : State) (d : Desc) : Bool :=
  let a := collArgs d.ops
  let g := group s a.group
  let n := g.size
  let st := d.lanes % 32
  let rank := rankOn s g st
  let peer := a.peer % 32
  let e := fmtBytes a.fmt
  g.defined && (namedFlags a).all (flagPresent s) && (groupStreams s g).contains st &&
    (g.nodeOnly || (groupMembers s g).contains (modId s)) && decide (a.coll ≤ (if g1 s then 9 else 10)) &&
    opPermits a && fmtPermits a && !(g1 s && a.redFn == 6) && (a.srcCore == a.streamed) &&
    (!a.srcCore || (decide (a.src < 2 ^ 24) && a.src % 64 == 0 && decide (a.src + a.count * e ≤ 12582912))) &&
    decide (peer < n) && !((a.coll == 8 || a.coll == 9) && rank == some peer) && addrsOk a rank &&
    (a.srcCore || a.src % 64 == 0) && a.dst % 64 == 0 && (!(a.coll == 8 || a.coll == 9) || n == 2) &&
    (if a.dyn then g.maxDyn != 0 && decide (a.count ≤ g.maxDyn) else a.count != 0) && tilesOk s a &&
    opSMax s g st a.fmt a.redFn != 0

/-- The operand rules of SERVE_SUBMIT (Table 15.4, R408, R417, R430; SAMPLE_K of Table 16.10 forbids HOST_SAMPLE where it is
0). -/
def submitOk (s : State) (p : Nat) (o : List Byte) : Bool :=
  let m := leAt o 0 1
  match (if m < 16 then model? s m else none) with
  | none => false
  | some md =>
    let fl := leAt o 2 1
    let len := leAt o 4 4
    let new := leAt o 0x10 4
    md.part == p && decide (1 ≤ len) && decide (len ≤ md.maxCtx) && leAt o 8 8 % 64 == 0 && decide (1 ≤ new) &&
      decide (new + len ≤ md.maxCtx) && md.place ≤ 1 && !(bitAt fl 1 && (md.place == 1 || md.sampleK == 0)) &&
      !(bitAt fl 2 && (md.draftModel == 0xFF || bitAt fl 1)) && adapterOk s (leAt o 0x14 2) p m && maskOk s (leAt o 3 1) p

/-- The operand rules of SERVE_CANCEL, SERVE_PAUSE and SERVE_RESUME (Table 15.5). -/
def controlOk (op : Nat) (o : List Byte) : Bool :=
  op != 6 || ((leAt o 0x10 1 == 1 || leAt o 0x10 1 == 2) && leAt o 0x14 4 != 0 && leAt o 0x18 8 % 4096 == 0)

/-- Check 10: the rules of the chapter that owns the opcode. -/
def ownerOk (s : State) (p : Nat) (d : Desc) : Bool :=
  if d.opcode = 3 then collOk s d
  else if d.opcode = 4 then submitOk s p d.ops
  else if d.opcode = 5 ∨ d.opcode = 6 ∨ d.opcode = 7 then controlOk d.opcode d.ops
  else true

/-! ## The ten checks in order (R170) -/

/-- The depth D of a queue; none where its LOG2_DEPTH is reserved. -/
def depthOf (s : State) (q : Nat) : Option Nat :=
  let l := rdF s (Reg.WQ_Q_CFG q) 0 4
  if 3 ≤ l ∧ l ≤ 12 then some (2 ^ l) else none

/-- Check 8 for the entry at index `i` of queue `q`. -/
def depOk (s : State) (q i : Nat) (d : Desc) : Bool :=
  if d.depValid then
    let dq := q / 8 * 8 + d.depQueue
    (match depthOf s dq with
      | some n => decide (d.depIndex < n)
      | none => false) && !(dq == q && d.depIndex == i)
  else true

/-- The first failing check of Table 7.6, with its status and DETAIL; `dep` is what check 8 finds. -/
def firstFail (s : State) (q : Nat) (d : Desc) (dep : Bool) : Option (Status × Nat) :=
  let p := q / 8
  let timed := d.opcode = 1 ∨ d.opcode = 2 ∨ d.opcode = 3
  if d.key ≠ keyOf s p then some (.keyReject, 0)
  else if 8 < d.opcode then some (.descInvalid, 1)
  else if !opAvailable s d.opcode then some (.descInvalid, 2)
  else if !(d.zeroOk && opsZeroOk s d.opcode d.ops) then some (.descInvalid, 3)
  else if !lanesOk s d.opcode d.lanes then some (.descInvalid, 4)
  else if !namesOwned s p d then some (.keyReject, 0)
  else if timed ∧ ¬(1 ≤ d.worst ∧ d.worst ≤ foreLen s) then some (.descInvalid, 5)
  else if ¬timed ∧ d.worst ≠ 0 then some (.descInvalid, 5)
  else if !dep then some (.descInvalid, 6)
  else if !copyOk d.opcode d.ops then some (.descInvalid, 7)
  else if !ownerOk s p d then some (.descInvalid, 8)
  else none

/-- The checks of the entry at index `i` of queue `q`. -/
def checkEntry (s : State) (q i : Nat) (d : Desc) : Option (Status × Nat) := firstFail s q d (depOk s q i d)

/-- The checks of a standing entry's descriptor (Table 7.10): TGT_ABS, TARGET_TICK, DEFER and DEP_QUEUE are 0, and
DEP_INDEX names another schedule entry. -/
def checkStanding (s : State) (n e : Nat) (z : Standing) : Option (Status × Nat) :=
  let d := z.desc
  let zero := !d.tgtAbs && d.target == 0 && d.defer == 0 && d.depQueue == 0
  firstFail s z.queue { d with zeroOk := d.zeroOk && zero }
    (!d.depValid || (decide (d.depIndex < n) && d.depIndex != e))

end Sys2Proof.Machine
end

