-- ==== Sys2Proof/Machine/Present.lean ====
section
/-! DEFINITION. Which registers a build and the G1COMPAT strap leave present (R87, Tables 20.1 and 21.3, and the sections
Under G1COMPAT of chapters 20 and 21), which of their bits are writable, and which values are reserved. -/

namespace Sys2Proof.Machine

/-- An offset lies in [`a`, `b`). -/
def within (off a b : Nat) : Bool := decide (a ≤ off) && decide (off < b)

/-- The registers of Table 21.3 that a build has. -/
def buildHas (b : Build) (off : Nat) : Bool :=
  let two := b.idies == 2
  let q := b == .q
  !(within off 0x500000 0x600000 && !two) &&
    !(within off 0x600100 0x600500 && decide (b.ports ≤ (off - 0x600100) / 64)) &&
    !((off == Reg.LNK_BRIDGE_STATUS || off == Reg.LNK_DETOUR_CFG || off == Reg.LNK_BRIDGE_FAULT_COUNT ||
        off == Reg.LNK_ISO_ITEM_COUNT) && !two) &&
    !(within off 0x800000 0xA00000 && q) && !(within off 0xA00300 0xA00400 && !two) &&
    !(within off 0xA00010 0xA0001C && q) && !(within off 0xA00020 0xA00030 && q) &&
    !(off == Reg.PWR_TEMP_IDIE 1 && !two) && !(within off 0xC00020 0xC00030 && q) &&
    !(within off 0xC00040 0xC00070 && decide (b.stacks ≤ (off - 0xC00040) / 4))

/-- The registers that stay present under G1COMPAT. -/
def g1Has (off : Nat) : Bool :=
  !(within off 0x201800 0x202000) && !(within off 0x208000 0x210000) && !(within off 0x2A0000 0x2C0000) &&
    !(within off (Reg.PART_KEY 4) (Reg.PART_KEY 8)) && !(within off (Reg.FENCE_EGRESS_CEIL 4) (Reg.FENCE_EGRESS_CEIL 8)) &&
    !(within off (Reg.FENCE_EGRESS_CAP 4) (Reg.FENCE_EGRESS_CAP 8)) && !(within off 0x1300A0 0x1300C0) &&
    !(within off 0x400180 0x400200) && !(within off 0x500100 0x500200) && !(within off 0x408200 0x408400) &&
    !(within off 0x508000 0x508400) && !(within off 0x800080 0x8000C0) && !(within off 0x900180 0x900200) &&
    !(within off 0x980140 0x980180)

/-- A register lies at the offset on this build and strap. -/
def regRow (s : State) (off : Nat) : Option RegRow :=
  if buildHas s.build off && (!g1 s || g1Has off) then RegMap.find off else none

/-- The bits of a register that a write reaches: under G1COMPAT the bits of partitions 4 to 7 take no writes, and ports
that the build lacks have no enable bit; word 1 of a RAMP automaton holds VALUE_BASE alone (Table 16.8). -/
def regMask (s : State) (off : Nat) (r : RegRow) : Nat :=
  if off = Reg.LNK_PORT_EN then 2 ^ s.build.ports - 1
  else if g1 s && (within off (Reg.PART_PORT_ALLOW 0) (Reg.PART_PORT_ALLOW 16) || off == Reg.FENCE_PART_INIT ||
      off == Reg.FENCE_PART_ACTIVE) then 15
  else if within off (Reg.MSK_AUTO_W1 0) (Reg.MSK_AUTO_W1 64) && off % 32 == 4 && wbit (rd s (off - 4)) 1 then 0x3FFFF
  else r.mask

/-- The value of an RWL register lies in the valid ranges of its fields. -/
def rangeOk (off : Nat) (v : Word) : Bool :=
  if off = Reg.TBU_CFG then fld v 8 2 != 3
  else if off = Reg.TBU_LIMITS then
    decide (100 ≤ fld v 12 20) && decide (fld v 12 20 ≤ 1000000) && decide (1 ≤ fld v 0 10) && decide (fld v 0 10 ≤ 1000)
  else if off = Reg.TICK_CFG then
    decide (5 ≤ fld v 0 11) && decide (fld v 0 11 ≤ 2000) && decide (fld v 16 7 ≤ 100) && decide (30 ≤ fld v 24 8) &&
      decide (fld v 24 8 ≤ 200)
  else if off = Reg.TICK_EPOCHCFG then fld v 0 16 != 0
  else if off = Reg.SUP_WDOG_CFG then decide (1 ≤ fld v 0 7) && decide (fld v 0 7 ≤ 64)
  else if off = Reg.HUB_SEGCFG 0 ∨ off = Reg.HUB_SEGCFG 1 then decide (1 ≤ fld v 0 9) && decide (fld v 0 9 ≤ 256)
  else if (within off 0x400100 0x400200 || within off 0x500100 0x500200) && off % 16 == 0 then decide (fld v 0 9 ≤ 256)
  else if (within off 0x400100 0x400200 || within off 0x500100 0x500200) && off % 16 == 8 then decide (fld v 0 14 ≤ 8192)
  else if off = Reg.TLY_CFG then fld v 16 16 != 0
  else if within off 0x800040 0x8000C0 && off % 16 == 8 then
    decide (fld v 0 13 ≤ 4096) && (fld v 0 13 == 0 || fld v 16 16 != 0)
  else if off = Reg.TLY_FWD_CFG 0 ∨ off = Reg.TLY_FWD_CFG 1 then decide (fld v 0 4 ≤ 8)
  else if off = Reg.BKG_CFG then
    decide (1 ≤ fld v 0 4) && decide (fld v 0 4 ≤ 12) && fld v 4 8 != 0 && fld v 12 8 != 0
  else if off = Reg.PWR_THERM_CFG then
    decide (60 ≤ fld v 0 8) && decide (fld v 0 8 ≤ 114) && decide (fld v 0 8 < fld v 8 8) && decide (fld v 8 8 ≤ 115) &&
      decide (60 ≤ fld v 16 8) && decide (fld v 16 8 ≤ 103) && decide (fld v 16 8 < fld v 24 8) &&
      decide (fld v 24 8 ≤ 104)
  else true

end Sys2Proof.Machine
end

