-- ==== Sys2Proof/Machine/Image.lean ====
section
/-! DEFINITION. The Korwyn image in flash (chapter 4): its header, manifest and section table, and how each section's
tables are loaded (chapters 4, 5, 6, 7, 9, 11, 13, 15, 16 and 18). The load checks are in LoadChecks.lean. -/

namespace Sys2Proof.Machine

/-! ## Flash -/

/-- Bytes of the flash; an erased byte reads 0xFF. -/
def flashRead (s : State) (a n : Nat) : List Byte := Mem.readN 0xFF#8 s.mems.flash a n

/-- A little-endian field of the flash. -/
def flashNat (s : State) (a n : Nat) : Nat := leNat (flashRead s a n)

/-- The flash written. -/
def flashWrite (s : State) (a : Nat) (bs : List Byte) : State :=
  { s with mems := { s.mems with flash := Mem.writeN 0xFF#8 s.mems.flash a bs } }

/-- The base of a slot (Table 4.3): 0 A, 1 B, 2 safe. -/
def slotBase (k : Nat) : Nat := if k = 0 then 0x100000 else if k = 1 then 0x2100000 else 0x4100000

/-! ## The directory (Table 4.4, R96, R98) -/

/-- A directory copy: its generation, and SEQ and FLAGS of slots A and B. -/
structure Directory where
  gen : Nat
  seqA : Nat
  flagsA : Nat
  seqB : Nat
  flagsB : Nat
  deriving DecidableEq, Repr

/-- The base of a directory copy. -/
def dirBase (c : Nat) : Nat := c * 0x10000

/-- A directory copy with a correct MAGIC and CRC. -/
def dirCopy (s : State) (c : Nat) : Option Directory :=
  let b := flashRead s (dirBase c) 64
  if leAt b 0 4 = 0x5249444B ∧ leAt b 0x3C 4 = crc32c (b.take 60) then
    some { gen := leAt b 4 4, seqA := leAt b 8 4, flagsA := leAt b 0x0C 4, seqB := leAt b 0x10 4, flagsB := leAt b 0x14 4 }
  else none

/-- The copy in use and its directory (R96): the correct copy of higher GENERATION; copy 0 of two equal ones (log entry
75). -/
def directory (s : State) : Option (Nat × Directory) :=
  match dirCopy s 0, dirCopy s 1 with
  | some a, some b => if a.gen < b.gen then some (1, b) else some (0, a)
  | some a, none => some (0, a)
  | none, some b => some (1, b)
  | none, none => none

/-- SEQ of a slot (0 A, 1 B). -/
def Directory.seq (d : Directory) (k : Nat) : Nat := if k = 0 then d.seqA else d.seqB

/-- FLAGS of a slot. -/
def Directory.flags (d : Directory) (k : Nat) : Nat := if k = 0 then d.flagsA else d.flagsB

/-- A slot's SEQ and FLAGS replaced. -/
def Directory.set (d : Directory) (k sq fl : Nat) : Directory :=
  if k = 0 then { d with seqA := sq, flagsA := fl } else { d with seqB := sq, flagsB := fl }

/-- A slot is eligible: PRESENT and not ATTEMPTED-but-unconfirmed. -/
def Directory.eligible (d : Directory) (k : Nat) : Bool :=
  bitAt (d.flags k) 0 && !(bitAt (d.flags k) 2 && !bitAt (d.flags k) 1)

/-- The bytes of a directory copy. -/
def Directory.bytes (d : Directory) : List Byte :=
  let b := leBytes 4 0x5249444B ++ leBytes 4 d.gen ++ leBytes 4 d.seqA ++ leBytes 4 d.flagsA ++ leBytes 4 d.seqB ++
    leBytes 4 d.flagsB ++ List.replicate 36 0#8
  b ++ leBytes 4 (crc32c b)

/-- The two-copy rewrite (R98): the directory is written to the copy not in use, with the next GENERATION. With no
correct copy there is an empty directory to begin from. -/
def rewriteDirectory (s : State) (f : Directory → Directory) : State :=
  match directory s with
  | some (c, d) => flashWrite s (dirBase (1 - c)) ({ f d with gen := (d.gen + 1) % 2 ^ 32 }).bytes
  | none => flashWrite s (dirBase 0) ({ f { gen := 0, seqA := 0, flagsA := 0, seqB := 0, flagsB := 0 } with gen := 1 }).bytes

/-! ## Header, manifest and sections (Tables 4.5, 4.6, 4.9) -/

/-- A section table entry. -/
structure Sect where
  ty : Nat
  flags : Nat
  zero : Nat
  off : Nat
  len : Nat
  mask : Nat
  deriving DecidableEq, Repr

/-- The header of the image at `base`. -/
def imageHeader (s : State) (base : Nat) : List Byte := flashRead s base 4096

/-- The section table of a header. -/
def sectTable (hdr : List Byte) : List Sect :=
  (List.range (min (leAt hdr 0x10 2) 64)).map (fun i =>
    let e := 0x40 + 16 * i
    { ty := leAt hdr e 1, flags := leAt hdr (e + 1) 1, zero := leAt hdr (e + 2) 2, off := leAt hdr (e + 4) 4,
      len := leAt hdr (e + 8) 4, mask := leAt hdr (e + 12) 4 })

/-- A section applies to this module (Table 4.6). -/
def Sect.applies (s : State) (x : Sect) : Bool := !bitAt x.flags 0 || bitAt x.mask (modId s)

/-- The sections of an image that apply to this module: type, flash address and length. -/
def imageSections (s : State) (base : Nat) : List (Nat × Nat × Nat) :=
  ((sectTable (imageHeader s base)).filter (Sect.applies s)).map (fun x => (x.ty, base + x.off, x.len))

/-- Address and length of the section of a type; an empty section at 0 where there is none. -/
def sect (l : List (Nat × Nat × Nat)) (ty : Nat) : Nat × Nat := ((l.find? (fun e => e.1 == ty)).map (·.2)).getD (0, 0)

/-! ## Clean tables -/

/-- The RWL registers at their reset values. -/
def clearRwl (s : State) : State :=
  let own := State.resetRegs s.build s.straps
  let kept := s.regs.filter (fun e => match RegMap.find e.1 with
    | some r => r.acc != .rwl
    | none => true)
  { s with regs :=
    (own.filter (fun e => (RegMap.find e.1).any (fun r => r.acc == .rwl))).foldl (fun m e => SMap.put m e.1 e.2) kept }

/-- The RWL registers at their reset values, and no table loaded: what an image is loaded over. -/
def clearTables (s : State) : State :=
  let s1 := clearRwl s
  { s1 with
    fence := { s1.fence with windows := [], allocs := [] }
    part := { s1.part with tenants := [] }
    hubs := { s1.hubs with groups := [], store := { words := [], crcs := [], dispatch := [], reloading := [], base := [],
                                                    wordsN := [], flashAt := [] } }
    fab := { s1.fab with routes := Routes.none }
    sched := { s1.sched with standing := [], fcNs := 0 }
    ledger := { s1.ledger with parts := [], models := [] } }

/-! ## Sections -/

/-- REGISTERS: 8-byte pairs of a BAR0 offset and a value. -/
def registerPairs (s : State) (x : Nat × Nat) : List (Nat × Word) :=
  (List.range (x.2 / 8)).map (fun i => (flashNat s (x.1 + 8 * i) 4, BitVec.ofNat 32 (flashNat s (x.1 + 8 * i + 4) 4)))

/-- The REGISTERS section loaded (R504). CADENCE_FORCED (R50): G1COMPAT and an image that holds another cadence. -/
def loadRegisters (s : State) (x : Nat × Nat) : State :=
  let s1 := (registerPairs s x).foldl (fun s e => wr s e.1 e.2) s
  { s1 with clock := { s1.clock with forced := g1 s1 && rdF s1 Reg.TICK_CFG 0 11 != 0xC8 } }

/-- An entry of the PARTITIONS section (Table 6.4). -/
def partEntry (s : State) (x : Nat × Nat) (p : Nat) : List Byte := flashRead s (x.1 + 16 + 16 * p) 16

/-- PARTITIONS loaded (R162). -/
def loadPartitions (s : State) (x : Nat × Nat) : State :=
  let e := partEntry s x
  let s1 := (List.range 8).foldl (fun s p =>
    wr s (Reg.PART_KEY p) (BitVec.ofNat 32 (leAt (e p) 2 2 + b2n (bitAt (leAt (e p) 0 1) 0) * 65536))) s
  let s2 := (List.range 16).foldl (fun s n => wr s (Reg.PART_PORT_ALLOW n)
    (BitVec.ofNat 32 (sumNat ((indicesWhere 8 (fun p => bitAt (leAt (e p) 4 4) n)).map (2 ^ ·))))) s1
  { s2 with part := { s2.part with
    tenants := (indicesWhere 8 (fun p => bitAt (leAt (e p) 0 1) 0)).map (fun p => (p, leAt (e p) 8 4)) } }

/-- The ALLOCATIONS entries (Table 4.10) with their reserved bytes. -/
def allocEntries (s : State) (x : Nat × Nat) : List (Alloc × Bool) :=
  (List.range (x.2 / 16)).map (fun i =>
    let b := flashRead s (x.1 + 16 * i) 16
    ({ cls := leAt b 0 1, use := leAt b 1 1, part := leAt b 2 1, first := leAt b 4 4, count := leAt b 8 4 },
      leAt b 3 1 == 0 && leAt b 12 4 == 0))

/-- ALLOCATIONS loaded. -/
def loadAllocs (s : State) (x : Nat × Nat) : State :=
  let l := (allocEntries s x).map (·.1)
  { s with fence := { s.fence with allocs := (List.range l.length).zip l } }

/-- An entry of the WINDOWS section (Table 18.6). -/
def windowEntry (s : State) (x : Nat × Nat) (w : Nat) : List Byte := flashRead s (x.1 + 16 + 32 * w) 32

/-- Entries of the WINDOWS section. -/
def windowCount (s : State) (x : Nat × Nat) : Nat := min (flashNat s (x.1 + 6) 2) 256

/-- WINDOWS loaded: the DEFINED windows. -/
def loadWindows (s : State) (x : Nat × Nat) : State :=
  let l := (List.range (windowCount s x)).filter (fun w => bitAt (leAt (windowEntry s x w) 0 1) 0)
  { s with fence := { s.fence with windows := l.map (fun w =>
    let b := windowEntry s x w
    let f := leAt b 0 1
    (w, { read := bitAt f 1, write := bitAt f 2, host := bitAt f 3, part := leAt b 1 1, base := leAt b 8 8, length := leAt b 16 8 })) } }

/-- A group entry (Table 9.11). -/
def parseGroup (b : List Byte) : Group :=
  let f := leAt b 0 1
  { raw := slice b 0 64, defined := bitAt f 0, lenient := bitAt f 1, nodeOnly := bitAt f 2, kind := leAt b 1 1, part := leAt b 2 1,
    stream := leAt b 3 1, size := leAt b 4 1, axis := leAt b 5 1, treeId := leAt b 6 2, stepTimeout := leAt b 8 2,
    maxDyn := leAt b 12 4, origin := [leAt b 16 1, leAt b 17 1, leAt b 18 1], extent := [leAt b 20 1, leAt b 21 1, leAt b 22 1],
    members := (List.range 32).map (fun r => leAt b (32 + r) 1) }

/-- Entries of the GROUPS section. -/
def groupCount (s : State) (x : Nat × Nat) : Nat := min (flashNat s (x.1 + 6) 2) 256

/-- GROUPS loaded. -/
def loadGroups (s : State) (x : Nat × Nat) : State :=
  { s with hubs := { s.hubs with
    groups := (List.range (groupCount s x)).map (fun g => (g, parseGroup (flashRead s (x.1 + 16 + 64 * g) 64))) } }

/-- A tree node (Table 13.7). -/
def parseNode (b : List Byte) : TreeNode :=
  { role := leAt b 0 1, parentMod := leAt b 1 1, parentHub := leAt b 2 1, r := leAt b 3 1,
    pos := (List.range 4).map (fun i => { kind := leAt b (8 + 4 * i) 1, mod := leAt b (9 + 4 * i) 1, hub := leAt b (10 + 4 * i) 1 }) }

/-- A tree entry. -/
def parseTree (b : List Byte) : Tree :=
  { defined := bitAt (leAt b 0 1) 0, rootMod := leAt b 1 1, rootHub := leAt b 2 1, chan := leAt b 3 1,
    node0 := parseNode (slice b 8 24), node1 := parseNode (slice b 32 24), alt := (List.range 32).map (fun f => leAt b (56 + f) 1) }

/-- A route entry: DOR_PORTS and MIN_PORTS. -/
def parseRoute (b : List Byte) (o : Nat) : Nat × Nat := (leAt b o 2, leAt b (o + 2) 2)

/-- The ROUTES section (Table 13.6). -/
def parseRoutes (s : State) (x : Nat × Nat) : Routes :=
  let b := flashRead s x.1 0x11D0
  let fo := leAt b 0x0B 1
  { topo := leAt b 6 1, dimX := leAt b 7 1, dimY := leAt b 8 1, dimZ := leAt b 9 1
    foreignRelay := if bitAt fo 7 then some (fo % 32) else none
    modules := (List.range 32).map (fun m =>
      let o := 0x10 + 4 * m
      { present := bitAt (leAt b o 1) 0, relay := bitAt (leAt b o 1) 1, x := leAt b (o + 1) 1, y := leAt b (o + 2) 1, z := leAt b (o + 3) 1 })
    ports := (List.range 16).map (fun n =>
      let o := 0x90 + 4 * n
      { expMod := leAt b o 1, expPort := leAt b (o + 1) 1, used := bitAt (leAt b (o + 2) 1) 0, foreign := bitAt (leAt b (o + 2) 1) 1 })
    channels := (List.range 16).map (fun c =>
      let o := 0xD0 + 8 * c
      { mode := leAt b o 1, foreignOk := bitAt (leAt b (o + 1) 1) 0, timeoutUs := leAt b (o + 2) 2, valiant := leAt b (o + 4) 4 })
    route := (List.range 32).map (fun d => parseRoute b (0x150 + 4 * d))
    failover := (List.range 1024).map (fun i => (i, parseRoute b (0x1D0 + 4 * i)))
    trees := (List.range (leAt b 0x0A 1)).map (fun t => parseTree (flashRead s (x.1 + 0x11D0 + 96 * t) 96))
    crc := crc32c (slice b 0x10 128) }

/-- ROUTES loaded. -/
def loadRoutes (s : State) (x : Nat × Nat) : State := { s with fab := { s.fab with routes := parseRoutes s x } }

/-- Bytes of an entry of the SCHEDULE section (80; 48 with the 32-byte descriptor of G1COMPAT). -/
def standingBytes (s : State) : Nat := if g1 s then 48 else 80

/-- An entry of the SCHEDULE section (Table 7.10). -/
def parseStanding (s : State) (b : List Byte) : Standing :=
  { period := leAt b 0 2, offset := leAt b 2 2, runNext := bitAt (leAt b 4 1) 0, reportOk := bitAt (leAt b 4 1) 1, queue := leAt b 5 1,
    start := leAt b 8 4, desc := parseFor s (slice b 16 (sqeBytes s)) }

/-- The raw entries of the SCHEDULE section. -/
def standingRaw (s : State) (x : Nat × Nat) : List (List Byte) :=
  (List.range (min (flashNat s (x.1 + 6) 2) 4096)).map (fun e => flashRead s (x.1 + 16 + standingBytes s * e) (standingBytes s))

/-- SCHEDULE loaded. -/
def loadSchedule (s : State) (x : Nat × Nat) : State :=
  { s with sched := { s.sched with standing := (standingRaw s x).map (parseStanding s), fcNs := flashNat s (x.1 + 8) 4 } }

/-- BASE, WORDS and DATA_OFF of a hub in the MICROCODE section (Table 11.8). -/
def ucodeHub (s : State) (x : Nat × Nat) (h : Nat) : Nat × Nat × Nat :=
  let a := x.1 + 0x10 + 16 * h
  (flashNat s a 4, flashNat s (a + 4) 4, flashNat s (a + 8) 4)

/-- MICROCODE loaded: the words and the dispatch tables of both hubs, and the CRC-32C of the data bytes loaded into each
block (R287). -/
def loadMicrocode (s : State) (x : Nat × Nat) : State :=
  let hubs := List.range 2
  let words := hubs.flatMap (fun h =>
    let u := ucodeHub s x h
    (List.range (min u.2.1 16384)).map (fun w => (h * 16384 + u.1 + w, flashNat s (x.1 + u.2.2 + 16 * w) 16)))
  let st : CtrlStore :=
    { words := words
      crcs := hubs.flatMap (fun h =>
        let u := ucodeHub s x h
        let last := u.1 + min u.2.1 16384
        ((List.range 256).filter (fun b => decide (u.1 < 64 * (b + 1)) && decide (64 * b < last))).map (fun b =>
          let lo := max u.1 (64 * b)
          (h * 256 + b, crc32c (flashRead s (x.1 + u.2.2 + 16 * (lo - u.1)) (16 * (min last (64 * (b + 1)) - lo))))))
      dispatch := hubs.flatMap (fun h => (List.range 128).map (fun i => (h * 128 + i, flashNat s (x.1 + 0x30 + 512 * h + 4 * i) 4)))
      reloading := []
      base := hubs.map (fun h => (h, (ucodeHub s x h).1))
      wordsN := hubs.map (fun h => (h, (ucodeHub s x h).2.1))
      flashAt := hubs.map (fun h => (h, x.1 + (ucodeHub s x h).2.2)) }
  let id := BitVec.ofNat 32 (flashNat s (x.1 + 8) 4)
  wr (wr { s with hubs := { s.hubs with store := st } } (Reg.SPK_UCODE_ID 0) id) (Reg.SPK_UCODE_ID 1) id

/-- SUPERVISOR_FW loaded (Table 5.6): code and data SRAM, the locked copy of DATA behind CODE (R144). -/
def loadFirmware (s : State) (x : Nat × Nat) : State :=
  let cl := flashNat s (x.1 + 8) 4
  let dl := flashNat s (x.1 + 0x0C) 4
  let s1 := { s with
    sup := { s.sup with entry := flashNat s (x.1 + 0x10) 4, codeLen := cl, dataLen := dl }
    mems := { s.mems with
      supCode := Mem.writeN 0#8 [] 0 (flashRead s (x.1 + 0x20) (cl + dl))
      supData := Mem.writeN 0#8 [] 0 (flashRead s (x.1 + 0x20 + cl) dl) } }
  wr s1 Reg.SUP_FW_VERSION (BitVec.ofNat 32 (flashNat s (x.1 + 4) 4))

/-- A partition entry of the LEDGER section (Table 15.9). -/
def parseLdgPart (b : List Byte) : LdgPart :=
  { slotFirst := leAt b 0 2, slotMax := leAt b 2 2, weights := (List.range 8).map (fun c => leAt b (4 + c) 1), pageLog2 := leAt b 12 1,
    kvBase := leAt b 16 8, kvPages := leAt b 24 4 }

/-- A model entry and its serving extension (Tables 15.10 and 16.10). -/
def parseModel (b e : List Byte) : Model :=
  { runNext := bitAt (leAt b 0 1) 1, multi := bitAt (leAt b 0 1) 2, part := leAt b 1 1, steps := leAt b 2 1, microsteps := leAt b 3 1,
    failLimit := leAt b 4 1, leadMod := leAt b 5 1, group := leAt b 6 1, cores := leAt b 8 8, maxCtx := leAt b 16 4, kvb := leAt b 20 4,
    d0 := leAt b 24 4, d1 := leAt b 28 4, d2 := leAt b 32 4, p0 := leAt b 36 4, p1 := leAt b 40 4, chunkMax := leAt b 44 2,
    slotMax := leAt b 46 2, reserve := leAt b 48 4, summaryBytes := leAt b 52 4, summaryTokens := leAt b 56 4, layout := leAt e 0 1,
    place := leAt e 1 1, peerModel := leAt e 2 1, peerMod := leAt e 3 1, draftModel := leAt e 4 1, draftLen := leAt e 5 1,
    kvChannel := leAt e 6 1 % 16, shipGroup := leAt e 7 1, stepStreams := leAt e 8 4, vocab := leAt e 12 4, sampleK := leAt e 16 2,
    shipLimit := leAt e 18 1, adapterBpr := leAt e 20 4, gatherBase := leAt e 24 8 }

/-- The entry and the extension of model `m`. -/
def modelBytes (s : State) (x : Nat × Nat) (m : Nat) : List Byte × List Byte :=
  (flashRead s (x.1 + 0x110 + 64 * m) 64, flashRead s (x.1 + 0x510 + 32 * m) 32)

/-- The DEFINED models of the LEDGER section. -/
def modelsOf (s : State) (x : Nat × Nat) : List Nat :=
  (List.range (min (flashNat s (x.1 + 6) 1) 16)).filter (fun m => bitAt (leAt (modelBytes s x m).1 0 1) 0)

/-- LEDGER loaded; the build without it has no section. -/
def loadLedger (s : State) (x : Nat × Nat) : State :=
  if x.2 = 0 then s
  else { s with ledger := { s.ledger with
    parts := (List.range 8).map (fun p => (p, parseLdgPart (flashRead s (x.1 + 0x10 + 32 * p) 32)))
    models := (modelsOf s x).map (fun m => (m, parseModel (modelBytes s x m).1 (modelBytes s x m).2)) } }

/-- BOOT_PARAMS loaded (Table 4.8). -/
def loadBootParams (s : State) (x : Nat × Nat) : State :=
  { s with boot := { s.boot with fwBudgetMs := flashNat s x.1 2, lockWindowMs := flashNat s (x.1 + 2) 1 } }

/-- Every section of an image loaded. -/
def loadImage (s : State) (l : List (Nat × Nat × Nat)) : State :=
  let s1 := loadBootParams (loadFirmware (loadRegisters (clearTables s) (sect l 2)) (sect l 1)) (sect l 0x0B)
  let s2 := loadWindows (loadAllocs (loadPartitions s1 (sect l 3)) (sect l 0x0A)) (sect l 4)
  let s3 := loadMicrocode (loadSchedule (loadRoutes (loadGroups s2 (sect l 5)) (sect l 6)) (sect l 7)) (sect l 8)
  loadLedger s3 (sect l 9)

end Sys2Proof.Machine
end

