-- ==== Sys2Proof/Machine/Timebase.lean ====
section
/-! DEFINITION. The Timebase Unit (chapter 2): sources, measurements, quality states, the bound, labels and the timing
outputs. -/

namespace Sys2Proof.Machine

/-! ## Helpers -/

/-- The Timebase Unit replaced. -/
def setTbu (s : State) (u : Tbu) : State := { s with tbu := u }

/-- PPS_IN enabled. -/
def ppsEn (s : State) : Bool := wbit (rd s Reg.TBU_CFG) 0

/-- The PTP profile: 0 disabled, 1 default, 2 power. -/
def ptpProfile (s : State) : Nat := rdF s Reg.TBU_CFG 8 2

/-- The step threshold in ns. -/
def stepThreshNs (s : State) : Nat := rdF s Reg.TBU_LIMITS 12 20 * 1000

/-- The untraceable limit in ns. -/
def untraceNs (s : State) : Nat := rdF s Reg.TBU_LIMITS 0 10 * 1000

/-- The highest-priority qualified source (Table 2.2); 0 for none. -/
def bestSource (s : State) : Nat :=
  if s.tbu.pps.qualified then (if s.tbu.ref10m then 1 else 2)
  else if s.tbu.ptp.qualified then (if ptpProfile s = 2 then 4 else 3)
  else 0

/-- The most recent offset measured against a source (R561). -/
def sourceOffset (s : State) (src : Nat) : Option Int :=
  if src = 1 ∨ src = 2 then s.tbu.pps.offset else if src = 3 ∨ src = 4 then s.tbu.ptp.offset else none

/-- ∫ c dt over the instants from `a` to `b` of a correction history, newest first (0.001 ppb × ns). -/
def corrIntegral : List (Nat × Int) → Nat → Nat → Int
  | [], _, _ => 0
  | (t0, c) :: rest, a, b =>
    if b ≤ a then 0
    else c * ((b - max a t0 : Nat) : Int) + corrIntegral rest a (min b t0)

/-- The frequency correction set at an instant. -/
def setCorr (s : State) (c : Int) (t : Nat) : State :=
  setTbu s { s.tbu with corr := c, corrHist := (now s t, c) :: s.tbu.corrHist }

/-- ±20 ppm in units of 0.001 ppb (R63). -/
def clampCorr (c : Int) : Int := max (-20000000) (min 20000000 c)

/-- The event bit of a quality state entered (Table 2.12). -/
def Quality.event : Quality → Nat
  | .locked => 0 | .freewheel => 1 | .reacquire => 2 | .untraceable => 3

/-- A quality state entered, with its TIME-class event (R65). -/
def enterQuality (s : State) (q : Quality) (t : Nat) : State :=
  raise (setTbu s { s.tbu with quality := q, lockCount := 0 }) Reg.TBU_EVENT q.event .time false false t

/-- SOURCE set; a change from one source to another raises SOURCE_SWITCH inside LOCKED (R65) and between 0x1 and 0x2
(R57). -/
def setSource (s : State) (src : Nat) (t : Nat) : State :=
  let old := s.tbu.source
  let s1 := setTbu s { s.tbu with source := src, holding := false }
  if old ≠ src ∧ old ≠ 0 ∧ src ≠ 0 ∧ (s.tbu.quality = .locked ∨ (old ≤ 2 ∧ src ≤ 2)) then raise s1 Reg.TBU_EVENT 4 .time false false t else s1

/-- The phase is slewed no further from `t` on: what the running tick has placed stays (R54, R69). -/
def stopSlew (s : State) (t : Nat) : State :=
  setTbu s { s.tbu with tickSlew := slewAt s t, slewPlaced := true, remaining := 0 }

/-- LOCKED entered: the instant starts its continuous time (R66), and the phase moves no more. -/
def enterLocked (s : State) (t : Nat) : State :=
  let s1 := stopSlew s t
  enterQuality (setTbu s1 { s1.tbu with lockedAt := now s t }) .locked t

/-- What is left to slew from the next tick edge on, in half ns (R68): twice the offset, less what the running tick's slew
still takes off after the instant of the measurement. -/
def slewFrom (s : State) (off : Int) (t : Nat) : State :=
  setTbu s { s.tbu with stepPending := false, remaining := 2 * off - (s.tbu.tickSlew - slewAt s t) }

/-- REACQUIRE's use of a measurement: slew at or below the step threshold (R68), a pending step above it (R69), a pending
step cancelled by a measurement at or below it (R71). -/
def reacquireWith (s : State) (off : Int) (t : Nat) : State :=
  if off.natAbs > stepThreshNs s then
    let s0 := stopSlew s t
    let s1 := setTbu s0 { s0.tbu with stepPending := true }
    if s.tbu.stepPending then s1 else raise s1 Reg.TBU_EVENT 5 .time false false t
  else slewFrom s off t

/-- The loop's time constant in s, by source code (R63). -/
def loopTau (src : Nat) : Nat := if src = 1 then 16 else if src = 2 then 64 else 128

/-- A measurement of the selected source (R63, R65): the frequency is steered, LOCKED is left above 100 ns, lock entry
is met at the 16th consecutive measurement within 50 ns, and in REACQUIRE the phase is slewed or a step set pending. A
PPS source reaches LOCKED only once a seconds count has been taken (R59). -/
def steer (s : State) (off : Int) (t : Nat) : State :=
  let c := clampCorr (Config.loopCorrection (loopTau s.tbu.source) off s.tbu.corr)
  let s0 := setTbu s { s.tbu with offset := off, lastOffset := off, measAt := now s t, measCorr := s.tbu.corr }
  let s1 := setCorr s0 c t
  match s.tbu.quality with
  | .locked =>
    if off.natAbs > 100 then reacquireWith (enterQuality s1 .reacquire t) off t else s1
  | .reacquire =>
    let n := if off.natAbs ≤ 50 then s.tbu.lockCount + 1 else 0
    let counted := setTbu s1 { s1.tbu with lockCount := min n 16 }
    if n ≥ 16 ∧ (s.tbu.source ≥ 3 ∨ s.tbu.secondsKnown = true) then enterLocked counted t
    else reacquireWith counted off t
  | _ => s1

/-- From t+1.0 µs of the epoch edge to which a step is committed nothing cancels it, and a measurement is used only after
it (R44, R71). -/
def stepHeld (s : State) (t : Nat) : Bool := stepCommitted s && decide (1000 ≤ t)

/-- A measurement of the selected source, held back while a step is committed (R71). -/
def measured (s : State) (off : Int) (t : Nat) : State :=
  if stepHeld s t then setTbu s { s.tbu with deferred := some off } else steer s off t

/-! ## The epoch record (R44, R515) -/

/-- The four registers of the epoch record. -/
def epochRecord (s : State) : List Word :=
  [rd s Reg.TICK_EPOCH_REC_0, rd s Reg.TICK_EPOCH_REC_1, rd s Reg.TICK_EPOCH_REC_2, rd s Reg.TICK_EPOCH_REC_3]

/-- The four registers of the epoch record replaced together (R515). -/
def setEpochRecord (s : State) (r : List Word) : State :=
  wr (wr (wr (wr s Reg.TICK_EPOCH_REC_0 (r.getD 0 0)) Reg.TICK_EPOCH_REC_1 (r.getD 1 0)) Reg.TICK_EPOCH_REC_2 (r.getD 2 0))
    Reg.TICK_EPOCH_REC_3 (r.getD 3 0)

/-- The pulses of EPOCH_OUT after the first (R76). -/
def laterPulses (q : Quality) : Nat :=
  match q with
  | .locked => 0
  | .freewheel => 1
  | .reacquire => 2
  | .untraceable => 3

/-- The epoch record latched at `t`, with its EPOCH_OUT pattern (R76). -/
def latchEpoch (s : State) (discont : Bool) (t : Nat) : State :=
  let n := if timingBall s 2 then laterPulses s.tbu.quality + 1 else 0
  let w2 := s.tbu.quality.code + s.tbu.source * 4 + b2n discont * 64 + b2n s.tbu.stepPending * 128
  let s1 := setEpochRecord { s with clock := { s.clock with discont := discont, recordBefore := epochRecord s, pulses := n } }
    [BitVec.ofNat 32 (epochNum s s.clock.index), BitVec.ofNat 32 s.clock.index, BitVec.ofNat 32 w2,
      BitVec.ofNat 32 (boundAt s t)]
  (List.range n).foldl (fun s i =>
    emit s (.pulse "EPOCH_OUT" (t + 40000 * i) (if i = 0 ∧ discont = true then 30000 else 10000))) s1

/-- What t+1.0 µs of an epoch edge decides: a pending step is committed to the edge, and the record then waits for t+S_m
(R46); otherwise the record is latched (R44). -/
def commitEdge (s : State) : State :=
  if s.tbu.stepPending then { s with clock := { s.clock with stepCommitted := true } } else latchEpoch s false 1000

/-- The emissions without the newest `n` pulses of EPOCH_OUT. -/
def withoutPulses : Nat → List Output → List Output
  | 0, l => l
  | _, [] => []
  | n + 1, .pulse pin a w :: l => if pin = "EPOCH_OUT" then withoutPulses n l else .pulse pin a w :: withoutPulses (n + 1) l
  | n, o :: l => o :: withoutPulses n l

/-- What an event before t+1.0 µs of an epoch edge still decides (R44, R71): TICK_EDGE has run ahead to t+1.0 µs, so its
decision is taken back and made on the state after the event. -/
def beforeLatch (s : State) (t : Nat) : State :=
  if atEpochEdge s && !s.clock.slotOpen && decide (t < 1000) then
    commitEdge (if s.clock.stepCommitted then { s with clock := { s.clock with stepCommitted := false } }
      else setEpochRecord { s with out := withoutPulses s.clock.pulses s.out } s.clock.recordBefore)
  else s

/-- Before the first tick, the timescale is set directly to a qualified source that carries a seconds count; the first
tick may be issued from then on when the configuration is locked (R110, R560). -/
def setTimescale (s : State) (off : Int) (t : Nat) : State :=
  let s1 := { s with
    clock := { s.clock with
      edge := s.clock.edge - off
      firstFrom := if s.boot.cfgLocked && s.clock.firstFrom.isNone then some (now s t) else s.clock.firstFrom }
    boot := { s.boot with waitSource := false }
    tbu := { s.tbu with offset := 0, lastOffset := off, remaining := 0, tickSlew := 0, everTraced := true
                        pps := { s.tbu.pps with offset := s.tbu.pps.offset.map (· - off) }
                        ptp := { s.tbu.ptp with offset := s.tbu.ptp.offset.map (· - off) } } }
  enterQuality s1 .reacquire t

/-- The measurement of a source last made, with the instant and the correction that R70 needs. -/
def heldMeasurement (s : State) (src : Nat) : Int × Nat × Int :=
  if src = 1 ∨ src = 2 then (s.tbu.pps.offset.getD 0, s.tbu.pps.measAt, s.tbu.pps.measCorr)
  else (s.tbu.ptp.offset.getD 0, s.tbu.ptp.measAt, s.tbu.ptp.measCorr)

/-- The most recent measurement of a source becomes the one held (R561, Table 2.4); a committed step keeps its own
(R44). -/
def holdMeasurement (s : State) (src t : Nat) : State :=
  let m := heldMeasurement s src
  if stepHeld s t then s
  else setTbu s { s.tbu with offset := m.1, lastOffset := m.1, measAt := m.2.1, measCorr := m.2.2 }

/-- The highest-priority qualified source that carries a seconds count (R110); 0 for none. -/
def countedSource (s : State) : Nat :=
  if s.tbu.secondsKnown then bestSource s
  else if s.tbu.ptp.qualified then (if ptpProfile s = 2 then 4 else 3) else 0

/-- A measured offset beyond the bound held since the entry into freewheel (R67). -/
def boundExceeded (s : State) (off : Int) (t : Nat) : Bool := s.tbu.everTraced && decide (off.natAbs > boundAt s t)

/-- What follows when a source has become qualified (R55, R65, R67, R110). `steers` says that its measurement is of this
instant and steers the loop: a PPS edge does, while a PTP source steers by its one-second means alone. -/
def sourceQualified (s : State) (steers : Bool) (t : Nat) : State :=
  let b := bestSource s
  if s.tbu.source = 0 then
    if s.clock.running then
      let off := (heldMeasurement s b).1
      let s1 := enterQuality (setSource (setTbu s { s.tbu with everTraced := true }) b t) .reacquire t
      let s2 := if boundExceeded s off t then
        raise (bump s1 Reg.TBU_BOUND_EXCEED_COUNT) Reg.TBU_EVENT 7 .time false false t else s1
      if steers then measured s2 off t else holdMeasurement s2 b t
    else
      let c := countedSource s
      if c = 0 then s
      else
        let s1 := setTimescale (setSource s c t) (heldMeasurement s c).1 t
        if c = b then s1
        else if rdF s Reg.TBU_CFG 24 8 = 0 then setSource s1 b t else setTbu s1 { s1.tbu with holding := true }
  else if b ≠ s.tbu.source ∧ b < 3 ∧ s.tbu.source ≥ 3 then
    if rdF s Reg.TBU_CFG 24 8 = 0 then setSource s b t else setTbu s { s.tbu with holding := true }
  else s

/-- The mean of the corrections applied over the last 64 s (R64). -/
def meanCorrection (s : State) (t : Nat) : Int :=
  let b := now s t
  let a := b - 64000000000
  if b = 0 then s.tbu.corr else freeDiv s (corrIntegral s.tbu.corrHist a b) (b - a)

/-- Freewheel entered as the last qualified source is lost (R64, R66): the phase moves no more, the correction is held at
its mean, and the bound starts from 100 ns or from the REACQUIRE bound; it is left at once for UNTRACEABLE where B0 exceeds
the limit. A step that is committed stays so (R44). -/
def enterFreewheel (s : State) (t : Nat) : State :=
  let wasLocked := s.tbu.quality == .locked
  let b0 := if wasLocked then 100 else s.tbu.offset.natAbs + 100
  let short := !wasLocked || decide (now s t - s.tbu.lockedAt < 1800000000000)
  let s0 := stopSlew (setCorr (drawn s) (meanCorrection s t) t) t
  let s1 := setTbu s0 { s0.tbu with
    source := 0, holding := false, fwEntry := now s t, fwB0 := b0, shortCurve := short
    stepPending := s.tbu.stepPending && stepHeld s t }
  let s2 := enterQuality s1 .freewheel t
  if b0 > untraceNs s then enterQuality s2 .untraceable t else s2

/-- The selected source is lost (Table 2.5): another qualified source takes over, its most recent measurement deciding in
LOCKED (R561) and being the one slewed in REACQUIRE; without one freewheel is entered at once. -/
def sourceLost (s : State) (t : Nat) : State :=
  let b := bestSource s
  if b = 0 then enterFreewheel s t
  else
    match s.tbu.quality, sourceOffset s b with
    | .locked, some o =>
      if o.natAbs > 100 then
        reacquireWith (enterQuality (holdMeasurement (setTbu s { s.tbu with source := b, holding := false }) b t) .reacquire t) o t
      else holdMeasurement (setSource s b t) b t
    | _, some o =>
      let s1 := holdMeasurement (setSource s b t) b t
      if s.tbu.stepPending = false ∧ o.natAbs ≤ stepThreshNs s then slewFrom s1 o t else s1
    | _, none => setSource s b t

/-! ## PPS_IN -/

/-- The second of reference time nearest to an instant. -/
def nearestSecond (ts : Int) : Int := (ts + 500000000) / 1000000000

/-- The reference instant of a PPS edge (R59): the second that PTP names while it is qualified, else the label's, else
the nearest second of the device's own count; the edge arrives PPS_DELAY later. -/
def ppsReference (s : State) (ts : Int) : Int :=
  let delay := signed (rdF s Reg.TBU_COMP 0 16) 16
  let sec : Int :=
    if s.tbu.ptp.qualified then nearestSecond (ts - delay - (s.tbu.ptp.offset.getD 0))
    else match s.tbu.label with
      | some l => (l : Int)
      | none => nearestSecond (ts - delay)
  sec * 1000000000 + delay

/-- An edge taken on the grid (R56, R59): it is measured; it counts toward qualification; a label
moves one second on at each edge and names the edge's second until PTP gives the count. -/
def ppsTaken (s : State) (t : Nat) : State :=
  let ts := scaleAt s t
  let off := ts - ppsReference s ts
  let n := min 4 (s.tbu.pps.count + 1)
  let qual := n ≥ 4
  let known := s.tbu.secondsKnown || (qual && (s.tbu.ptp.qualified || s.tbu.label.isSome))
  let s1 := setTbu s { s.tbu with
    pps := { count := n, last := some (now s t), qualified := qual, offset := some off, measAt := now s t,
             measCorr := s.tbu.corr }
    secondsKnown := known
    label := if qual && s.tbu.ptp.qualified then none else s.tbu.label.map (· + 1) }
  let s2 := if qual && (!s.tbu.pps.qualified || s.tbu.source == 0) then sourceQualified s1 true t
    else if qual && (s.tbu.source == 1 || s.tbu.source == 2) then measured s1 off t
    else s1
  beforeLatch s2 t

/-- PPS_IN_EDGE (R56): an edge of the on-time polarity, `t` ns after the tick edge. An edge off the 1 s ± 1 µs grid of
the last edge taken is ignored. -/
def execPpsInEdge (falling : Bool) (t : Nat) (s : State) : Host.Outcome State Fault Refusal :=
  if ppsEn s && (falling == wbit (rd s Reg.TBU_CFG) 7) then
    match s.tbu.pps.last with
    | none => .next (ppsTaken s t)
    | some l =>
      if l + 999999000 ≤ now s t ∧ now s t ≤ l + 1000001000 then .next (ppsTaken s t) else .next s
  else .next s

/-- PPS_IN_LOSS (R56): no edge came within 1 µs after the expected one. While qualifying the count starts again; a
qualified PPS_IN is lost, the selected source with it when it was PPS_IN, and the label whose seconds it counted. -/
def execPpsInLoss (t : Nat) (s : State) : Host.Outcome State Fault Refusal :=
  let s1 := setTbu s { s.tbu with pps := { s.tbu.pps with count := 0, last := none, qualified := false, offset := none },
                                  holding := false
                                  label := if s.tbu.pps.qualified then none else s.tbu.label }
  if s.tbu.source = 1 ∨ s.tbu.source = 2 then .next (beforeLatch (sourceLost s1 t) t) else .next s1

/-! ## REF10M_IN -/

/-- REF10M_QUALIFY (R57): source 0x2 changes to 0x1 at once. -/
def execRef10mQualify (t : Nat) (s : State) : Host.Outcome State Fault Refusal :=
  if wbit (rd s Reg.TBU_CFG) 1 then
    let s1 := setTbu s { s.tbu with ref10m := true }
    if s.tbu.source = 2 then .next (beforeLatch (setSource s1 1 t) t) else .next s1
  else .next s

/-- REF10M_LOSS (R57): source 0x1 changes to 0x2 without leaving the current state. -/
def execRef10mLoss (t : Nat) (s : State) : Host.Outcome State Fault Refusal :=
  let s1 := setTbu s { s.tbu with ref10m := false }
  if s.tbu.source = 1 then .next (beforeLatch (setSource s1 2 t) t) else .next s1

/-! ## PTP -/

/-- PTP qualifies when the grandmaster's Announce is good and three consecutive Syncs have arrived (R58). Its measurement
is then held for the bound; what steers the loop is the next one-second mean (R63). -/
def ptpCheck (s : State) (t : Nat) : State :=
  if !s.tbu.ptp.qualified && s.tbu.ptp.announceOk && decide (s.tbu.ptp.count ≥ 3) then
    beforeLatch (sourceQualified (setTbu s { s.tbu with ptp := { s.tbu.ptp with qualified := true } }) false t) t
  else s

/-- PTP_SYNC_RX (R58): a valid Sync of Sync interval number `interval` with the offset it measured; PTP_ASYM is taken
off as IEEE 1588 applies delayAsymmetry. -/
def execPtpSyncRx (interval : Nat) (rawOffset : Int) (t : Nat) (s : State) : Host.Outcome State Fault Refusal :=
  if ptpProfile s = 1 ∨ ptpProfile s = 2 then
    let p := s.tbu.ptp
    let off := rawOffset - signed (rdF s Reg.TBU_COMP 16 16) 16
    let n := match p.lastInterval with
      | none => 1
      | some l => if interval = l + 1 then min 3 (p.count + 1) else if interval = l then p.count else 1
    let s1 := setTbu s { s.tbu with ptp := { p with
      count := n, lastInterval := some interval, pendingOffsets := p.pendingOffsets ++ [off], offset := some off,
      measAt := now s t, measCorr := s.tbu.corr } }
    .next (ptpCheck s1 t)
  else .next s

/-- The consecutive Syncs that count in Sync interval `interval`: none where an interval has passed without a valid Sync
since the last one (R58). -/
def syncsInRow (p : Ptp) (interval : Nat) : Nat :=
  match p.lastInterval with
  | none => 0
  | some l => if interval ≤ l + 1 then p.count else 0

/-- PTP_ANNOUNCE_RX (R58, R62): the Announce of the selected grandmaster in the configured domain, which arrives in Sync
interval `interval`. -/
def execPtpAnnounceRx (interval domain : Nat) (traceable : Bool) (clockClass : Nat) (utc : Int) (leap61 leap59 : Bool)
    (t : Nat) (s : State) : Host.Outcome State Fault Refusal :=
  if (ptpProfile s = 1 ∨ ptpProfile s = 2) ∧ domain = rdF s Reg.TBU_CFG 16 8 then
    let s1 := setTbu s { s.tbu with ptp := { s.tbu.ptp with
      count := syncsInRow s.tbu.ptp interval
      announceOk := traceable && (clockClass == 6 || clockClass == 7), utc := utc, leap61 := leap61,
      leap59 := leap59 } }
    .next (ptpCheck s1 t)
  else .next s

/-- PTP_LOSS (R58): three Sync or three Announce intervals passed without a valid message. -/
def execPtpLoss (t : Nat) (s : State) : Host.Outcome State Fault Refusal :=
  let s1 := setTbu s { s.tbu with ptp := { s.tbu.ptp with
    announceOk := false, count := 0, lastInterval := none, qualified := false, pendingOffsets := [],
    offset := none } }
  if s.tbu.source = 3 ∨ s.tbu.source = 4 then .next (beforeLatch (sourceLost s1 t) t) else .next s1

/-- PTP_MEASUREMENT (R63): the one-second interval ends; its measurement is the mean of the offsets of its valid Syncs,
and an interval without one yields no measurement. -/
def execPtpMeasurement (t : Nat) (s : State) : Host.Outcome State Fault Refusal :=
  let l := s.tbu.ptp.pendingOffsets
  if l.isEmpty then .next s
  else
    let mean := freeDiv s (l.foldl (· + ·) 0) l.length
    let s1 := setTbu (drawn s) { s.tbu with ptp := { s.tbu.ptp with
      pendingOffsets := [], offset := some mean, measAt := now s t, measCorr := s.tbu.corr } }
    if s.tbu.ptp.qualified && decide (s.tbu.source ≥ 3) then .next (beforeLatch (measured s1 mean t) t) else .next s1

/-! ## The rest of the block -/

/-- REVERT_HOLD_OFF_EXPIRY (R55): the source of higher priority that stayed qualified replaces the selected one. -/
def execRevertHoldOffExpiry (t : Nat) (s : State) : Host.Outcome State Fault Refusal :=
  if s.tbu.holding then .next (beforeLatch (setSource s (bestSource s) t) t) else .next s

/-- UNTRACEABLE_ENTRY (R65): the freewheel bound exceeds the untraceable limit. -/
def execUntraceableEntry (t : Nat) (s : State) : Host.Outcome State Fault Refusal :=
  if s.tbu.quality = .freewheel ∧ boundAt s t > untraceNs s then .next (beforeLatch (enterQuality s .untraceable t) t)
  else .next s

/-- LABEL_SUBMIT (R59, R60): the write of TBU_LABEL_HI submits the label of the next PPS edge; it is ignored and counted
while PTP is qualified. -/
def execLabelSubmit (hi : Word) (s : State) : Host.Outcome State Fault Refusal :=
  if s.tbu.ptp.qualified then .next (bump s Reg.TBU_LABEL_IGNORED_COUNT)
  else .next (setTbu s { s.tbu with label := some ((rd s Reg.TBU_LABEL_LO).toNat + fld hi 0 16 * 2 ^ 32) })

/-- SNAP (R73, R510): the four words of the time record of one instant. -/
def execSnap (t : Nat) (s : State) : Host.Outcome State Fault Refusal :=
  .next (setTbu s { s.tbu with snap := timeRecord s t })

/-- PPS_OUT_RISE (R74): at a whole second of reported time PPS_OUT rises for 100 µs where its ball carries it, unless PPS_SQUELCH holds it low
while UNTRACEABLE. -/
def execPpsOutRise (t : Nat) (s : State) : Host.Outcome State Fault Refusal :=
  if timingBall s 0 = true ∧ scaleAt s t % 1000000000 = 0 ∧ ¬ (wbit (rd s Reg.TBU_CFG) 11 = true ∧ s.tbu.quality = .untraceable) then
    .next (emit s (.pulse "PPS_OUT" t 100000))
  else .next s

/-- LEAP_SECOND (R62): at the end of the UTC day the offset taken from PTP moves by the leap indicator; the timescale
does not move. -/
def execLeapSecond (s : State) : Host.Outcome State Fault Refusal :=
  if s.tbu.ptp.qualified then
    let p := s.tbu.ptp
    let d : Int := if p.leap61 then 1 else if p.leap59 then -1 else 0
    .next (setTbu s { s.tbu with ptp := { p with utc := p.utc + d, leap61 := false, leap59 := false } })
  else .next s

/-- The offset UTC_IN_FORCE (R62): the Announce's while PTP is qualified, TBU_UTC_OFFSET[15:0] otherwise. -/
def utcInForce (s : State) : Int :=
  if s.tbu.ptp.qualified then s.tbu.ptp.utc else signed (rdF s Reg.TBU_UTC_OFFSET 0 16) 16

/-- The slew of the tick that begins, in REACQUIRE (R68): the smaller of the remaining offset and σ. -/
def slewTick (s : State) : State :=
  if s.tbu.quality = .reacquire ∧ s.tbu.stepPending = false then
    let r := s.tbu.remaining
    let sg : Int := sigmaHalf s
    let d := if r ≥ 0 then min r sg else max r (-sg)
    setTbu s { s.tbu with remaining := r - d, tickSlew := d, slewPlaced := false }
  else setTbu s { s.tbu with tickSlew := 0, slewPlaced := false }

/-- The measurements made before a step, on the timescale after it: local time has moved by the step (log entry 73). -/
def acrossStep (u : Tbu) (step : Int) : Tbu :=
  { u with
    pps := { u.pps with offset := u.pps.offset.map (· + step) }
    ptp := { u.ptp with offset := u.ptp.offset.map (· + step), pendingOffsets := u.ptp.pendingOffsets.map (· + step) }
    deferred := u.deferred.map (· + step) }

/-- The step applied at t+S_m (R70): minus the latest offset and the phase gained since; it is rounded to whole ns as
log entry 5 says. The step is kept in TBU_LAST_STEP and the offset held becomes 0. -/
def applyStep (s : State) (t : Nat) : Int × State :=
  let gained := corrIntegral s.tbu.corrHist s.tbu.measAt (now s t)
    - s.tbu.measCorr * ((now s t - s.tbu.measAt : Nat) : Int)
  let step := -(s.tbu.offset + freeDiv s gained 1000000000000)
  let s1 := setTbu (drawn s) { acrossStep s.tbu step with
    lastStep := step, offset := 0, remaining := 0, stepPending := false, lockCount := 0 }
  (step, raise s1 Reg.TBU_EVENT 6 .time false false t)

/-- The measurement that a committed step held back is used after it, on the timescale after it (R71). -/
def useDeferred (s : State) (t : Nat) : State :=
  match s.tbu.deferred with
  | none => s
  | some off => steer (setTbu s { s.tbu with deferred := none }) off t

end Sys2Proof.Machine
end

