-- ==== Sys2Proof/Machine/Tally.lean ====
section
/-! DEFINITION. Measurement ingest and the Tally units (chapter 14). -/

namespace Sys2Proof.Machine

/-- The Tally replaced. -/
def setTally (s : State) (y : Tally) : State := { s with tally := y }

/-- A TLY event: INGEST class; LINK_DOWN and AREA_ERR also assert ALERT_N (R372). -/
def tlyEvent (s : State) (bit t : Nat) : State := raise s Reg.TLY_EVENT bit .ingest (bit == 9 || bit == 10) false t

/-! ## The datagram (R356) -/

/-- The UDP payload of an acceptable frame and whether it is of the native kind; none for NOT_MEAS. -/
def datagramOf (s : State) (n : Nat) (fr : List Byte) : Option (Bool × List Byte) :=
  let o := if beAt fr 12 2 = 0x8100 then 18 else 14
  let ip := fr.drop o
  let ihl := 4 * bits (leAt ip 0 1) 0 4
  let udp := ip.drop ihl
  let dst := beAt ip 16 4
  let port := beAt udp 2 2
  let len := beAt udp 4 2
  let cfg := rd s Reg.TLY_CFG
  let ports := rd s Reg.TLY_UDP_PORTS
  let ok := beAt fr (o - 2) 2 == 0x0800 && bits (leAt ip 0 1) 4 4 == 4 && decide (20 ≤ ihl) && leAt ip 9 1 == 17 &&
    bits (beAt ip 6 2) 0 14 == 0 && decide (8 ≤ len) && decide (len ≤ udp.length) &&
    (dst == (rd s (Reg.TLY_PORT_IP n)).toNat || (bits dst 28 4 == 14 && wbit cfg 2))
  if !ok then none
  else if port = fld ports 0 16 then some (false, slice udp 8 (len - 8))
  else if port = fld ports 16 16 then some (true, slice udp 8 (len - 8))
  else none

/-! ## Entries and data (R366–R368) -/

/-- A checked measurement: its protocol, identifier, alive value, frame time in ns, data bytes, and the length written
where no data is. -/
structure Meas where
  ofNative : Bool
  id : Nat
  alive : Nat
  time : Int
  data : List Byte
  len : Nat
  deriving DecidableEq, Repr

/-- The bank size of a partition's area, and ENTRY_MAX. -/
def areaBank (s : State) (p : Nat) : Nat := rdF s (Reg.TLY_AREA_CFG p) 0 13 * 4096
def areaEntries (s : State) (p : Nat) : Nat := rdF s (Reg.TLY_AREA_CFG p) 16 16

/-- The base of a partition's area. -/
def areaBase (s : State) (p : Nat) : Nat :=
  (rd s (Reg.TLY_AREA_BASE_LO p)).toNat / 4096 * 4096 + (rd s (Reg.TLY_AREA_BASE_HI p)).toNat * 2 ^ 32

/-- A partition has an area and it is not marked invalid. -/
def areaValid (s : State) (p : Nat) : Bool := areaBank s p != 0 && !wbit (rd s Reg.TLY_STATUS) p

/-- The address of the bank of tick index `k` (R367). -/
def bankAddr (s : State) (p k : Nat) : Nat := areaBase s p + k % 3 * areaBank s p

/-- The offset of a bank's data. -/
def dataStart (s : State) (p : Nat) : Nat := 64 * ceilDiv (64 + 32 * areaEntries s p) 64

/-- A write into a partition's area, checked by the Fence. -/
def areaWrite (s : State) (p a : Nat) (bs : List Byte) (t : Nat) : State :=
  if windowOk s p false true a bs.length then memWrite s a bs else fenceRefuse s .window p .pf0 a t

/-- Words 0–2 of the time record of an instant in ns. -/
def timeWords (ns : Int) : List Byte :=
  let n := ns.toNat
  leBytes 4 (n % 1000000000) ++ leBytes 4 (n / 1000000000) ++ leBytes 4 (n / 1000000000 / 2 ^ 32 % 65536)

/-- An entry of Table 14.5. -/
def entryBytes (i st flags off len missed alive : Nat) (time : Int) (arrival : Nat) : List Byte :=
  leBytes 2 i ++ leBytes 1 st ++ leBytes 1 flags ++ leBytes 4 off ++ leBytes 2 len ++ leBytes 2 missed ++ leBytes 2 alive ++
    leBytes 2 0 ++ timeWords time ++ leBytes 4 arrival

/-- Checks 9 and 10 after the stream state: an entry with status `st`, and data where `wants` it and the bank has room
(R368); no entry where ENTRY_MAX is reached. -/
def writeEntry (s : State) (port i p st : Nat) (m : Meas) (wants first : Bool) (missed t : Nat) : State :=
  let set := SMap.get s.tally.sets TallySet.init p
  let bank := bankAddr s p s.clock.setIndex
  let off := max set.dataNext (dataStart s p)
  if areaEntries s p ≤ set.entries then
    bump (setTally s { s.tally with sets := SMap.put s.tally.sets p { set with dropped := set.dropped + 1 } })
      Reg.TLY_DROPPED_COUNT
  else
    let fits := wants && decide (off + m.data.length ≤ areaBank s p)
    let st1 := if wants && !fits then 6 else st
    let flags := b2n first + 2 * b2n fits + 4 * port
    let bytes := entryBytes i st1 flags (if fits then off else 0) (if fits then m.data.length else m.len) missed m.alive m.time t
    let s1 := if fits then areaWrite s p (bank + off) m.data t else s
    let s2 := areaWrite s1 p (bank + 64 + 32 * set.entries) bytes t
    let s3 := setTally s2 { s2.tally with sets := SMap.put s2.tally.sets p { set with
      entries := set.entries + 1
      dataBytes := if fits then set.dataBytes + m.data.length else set.dataBytes
      dataNext := if fits then 64 * ceilDiv (off + m.data.length) 64 else set.dataNext
      bytes := set.bytes ++ bytes } }
    let s4 := wr s3 (Reg.TLY_STREAM_W3 i) (putFld (rd s3 (Reg.TLY_STREAM_W3 i)) 24 3 st1)
    if st1 = 6 then tlyEvent s4 7 t else s4

/-- The lowest-index VALID stream that matches (R362). -/
def streamOf (s : State) (port : Nat) (ofNative : Bool) (id : Nat) : Option Nat :=
  (s.regs.find? (fun e => decide (0x810000 ≤ e.1) && decide (e.1 < 0x830000) && e.1 % 16 == 0 && wbit e.2 0 &&
    wbit e.2 1 == ofNative && wbit e.2 (2 + port) && fld e.2 16 16 == id)).map (fun e => (e.1 - 0x810000) / 16)

/-- The alive counter's verdict (R364): status, FIRST and MISSED. -/
def aliveCheck (seen : Bool) (last alive : Nat) : Nat × Bool × Nat :=
  let d := (alive + 65536 - last) % 65536
  if !seen then (0, true, 0)
  else if d = 1 then (0, false, 0)
  else if d = 0 then (2, false, 0)
  else if d < 32768 then (1, false, d - 1)
  else (3, false, 0)

/-- Checks 6 to 10 of Table 14.4 on a checked measurement of stream `i`. -/
def judge (s : State) (port i : Nat) (m : Meas) (t : Nat) : State :=
  let w0 := rd s (Reg.TLY_STREAM_W0 i)
  let w1 := rd s (Reg.TLY_STREAM_W1 i)
  let w3 := rd s (Reg.TLY_STREAM_W3 i)
  let p := fld w0 4 3
  let stale := fld w1 0 16
  if !(partDefined s p && partActive s p && areaValid s p) then bump s Reg.TLY_INACTIVE_COUNT
  else if stale ≠ 0 ∧ m.time < s.clock.edge - (stale * 1000 : Nat) then
    writeEntry (tlyEvent (bump s Reg.TLY_STALE_COUNT) 4 t) port i p 4 m false false 0 t
  else if m.time > scaleAt s t + (rdF s Reg.TLY_CFG 16 16 * 1000 : Nat) then
    writeEntry (tlyEvent (bump s Reg.TLY_EARLY_COUNT) 5 t) port i p 5 m false false 0 t
  else
    let v := aliveCheck (wbit w3 16) (fld w3 0 16) m.alive
    if v.1 = 2 then writeEntry (tlyEvent (bump s Reg.TLY_REPEAT_COUNT) 3 t) port i p 2 m false false 0 t
    else if v.1 = 3 then writeEntry (bump s Reg.TLY_OLD_COUNT) port i p 3 m false false 0 t
    else
      let s1 := wr s (Reg.TLY_STREAM_W3 i) (setBitW (putFld w3 0 16 m.alive) 16)
      let s2 := if v.1 = 1 then tlyEvent (bumpN (bump s1 Reg.TLY_GAP_COUNT) Reg.TLY_MISSED_COUNT v.2.2) 2 t else s1
      writeEntry s2 port i p v.1 m true v.2.1 v.2.2 t

/-- Check 6: the stream, or UNKNOWN. -/
def matchStream (s : State) (port : Nat) (m : Meas) (t : Nat) : State :=
  match streamOf s port m.ofNative m.id with
  | some i => judge s port i m t
  | none => tlyEvent (bump s Reg.TLY_UNKNOWN_COUNT) 1 t

/-! ## Forwarding (R370) -/

/-- A frame forwarded to the ring of its port, or discarded as FWD_DROP. -/
def forwardFrame (s : State) (n : Nat) (fr : List Byte) (t : Nat) : State :=
  let cfg := rd s (Reg.TLY_FWD_CFG n)
  let p := fld cfg 4 3
  let slots := 2 ^ fld cfg 0 4
  let tail := rdF s (Reg.TLY_FWD_TAIL n) 0 8
  let used := SMap.get s.tally.fwdUsed 0 n
  let base := (rd s (Reg.TLY_FWD_BASE_LO n)).toNat / 16384 * 16384 + (rd s (Reg.TLY_FWD_BASE_HI n)).toNat * 2 ^ 32
  let addr := base + tail * 16384
  let bs := leBytes 4 (fr.length % 65536 + n * 65536) ++ wordBytes (timeOnly s t) ++ fr
  let drop := fun (s : State) => tlyEvent (bump s Reg.TLY_FWD_DROP_COUNT) 8 t
  if fld cfg 0 4 = 0 ∨ s.tally.fwdOff.contains n = true ∨ slots ≤ used ∨ partActive s p = false then drop s
  else if !windowOk s p true true addr bs.length then drop (fenceRefuse s .window p .pf0 addr t)
  else
    let s1 := hostWrite (bump s Reg.TLY_FWD_COUNT) p addr bs t
    wr (setTally s1 { s1.tally with fwdUsed := SMap.put s1.tally.fwdUsed n (used + 1) }) (Reg.TLY_FWD_TAIL n)
      (BitVec.ofNat 32 ((tail + 1) % slots))

/-! ## C37.118.2 (R357, R359, R363, R365) -/

/-- A frame that is MALFORMED or CORRUPT. -/
def malformed (s : State) : State := bump s Reg.TLY_MALFORMED_COUNT
def corrupt (s : State) (t : Nat) : State := tlyEvent (bump s Reg.TLY_CORRUPT_COUNT) 0 t

/-- The alive value of a data frame (R363). -/
def c37Alive (soc frac base rate : Nat) : Nat := ((soc * base + frac) * rate + base / 2) / base % 65536

/-- A data frame whose FRACSEC is not below the TIME_BASE of its stream: check 3 of Table 14.4 already looks at the entry it
matches, which carries TIME_BASE (R357, R363). -/
def fracBeyond (s : State) (n : Nat) (fr : List Byte) : Bool :=
  match streamOf s n false (beAt fr 4 2) with
  | some i => decide (rdF s (Reg.TLY_STREAM_W2 i) 0 24 ≤ beAt fr 11 3)
  | none => false

/-- A data frame that passed its check value (checks 6 on), with TIME_BASE and RATE of its stream. -/
def c37Data (s : State) (n : Nat) (fr : List Byte) (t : Nat) : State :=
  let soc := beAt fr 6 4
  let frac := beAt fr 11 3
  match streamOf s n false (beAt fr 4 2) with
  | none => tlyEvent (bump s Reg.TLY_UNKNOWN_COUNT) 1 t
  | some i =>
    let base := rdF s (Reg.TLY_STREAM_W2 i) 0 24
    judge s n i
      { ofNative := false, id := beAt fr 4 2, alive := c37Alive soc frac base (rdF s (Reg.TLY_STREAM_W1 i) 16 16)
        time := ((soc : Int) + utcInForce s) * 1000000000 + (frac * 1000000000 / base : Nat)
        data := fr, len := fr.length } t

/-- A C37.118.2 datagram. -/
def c37Frame (s : State) (n : Nat) (fr : List Byte) (t : Nat) : State :=
  let kind := bits (leAt fr 1 1) 4 3
  let ver := bits (leAt fr 1 1) 0 4
  if leAt fr 0 1 ≠ 0xAA ∨ ¬(ver = 1 ∨ ver = 2) ∨ beAt fr 2 2 ≠ fr.length ∨ fr.length < 16 ∨ 6 ≤ kind ∨
      (kind = 0 ∧ fracBeyond s n fr = true) then malformed s
  else if beAt fr (fr.length - 2) 2 ≠ crcCcitt (fr.take (fr.length - 2)) then corrupt s t
  else if kind = 0 then c37Data s n fr t
  else if kind = 4 then bump s Reg.TLY_CMD_DROP_COUNT
  else forwardFrame s n fr t

/-! ## Native blocks (R358–R361) -/

/-- No block in progress on a port. -/
def dropBlock (s : State) (n : Nat) : State := setTally s { s.tally with blocks := SMap.del s.tally.blocks n }

/-- The header rules of Table 14.3 for a segment with `off` payload bytes before it (R358). -/
def segmentOk (sg : List Byte) (off : Nat) : Bool :=
  let idx := bits (leAt sg 3 1) 0 4
  let last := bits (leAt sg 3 1) 4 4
  let bl := leAt sg 0x14 4
  let len := leAt sg 0x1C 2
  leAt sg 0 2 == 0x4B4D && leAt sg 2 1 == 1 && leAt sg 0x1E 2 == 0 && bits (leAt sg 0x10 4) 16 16 == 0 &&
    decide (1 ≤ bl) && decide (bl ≤ 65535) && decide (1 ≤ len) && decide (len ≤ 8936) && leAt sg 0x18 4 == off &&
    decide (idx ≤ last) && (if idx = last then off + len == bl else decide (off + len < bl)) &&
    sg.length == 32 + len + (if idx = last then 4 else 0)

/-- A segment is the next one expected of a block. -/
def isNext (b : TallyBlock) (sg : List Byte) : Bool :=
  bits (leAt sg 3 1) 0 4 == b.next && bits (leAt sg 3 1) 4 4 + 1 == b.count && leAt sg 4 2 == b.stream &&
    leAt sg 6 2 == b.alive && slice sg 8 12 == b.time && leAt sg 0x14 4 == b.blockLen

/-- A segment taken into a block, whose last segment completes it (checks 3 and 4). -/
def takeSegment (s : State) (n : Nat) (b : TallyBlock) (sg : List Byte) (t : Nat) : State :=
  if !segmentOk sg b.payload.length then malformed (dropBlock s n)
  else
    let len := leAt sg 0x1C 2
    let b1 := { b with next := b.next + 1, payload := b.payload ++ slice sg 32 len
                       crcOver := b.crcOver ++ slice sg 0 (32 + len) }
    if b1.next < b1.count then setTally s { s.tally with blocks := SMap.put s.tally.blocks n b1 }
    else if leAt sg (32 + len) 4 ≠ crc32c b1.crcOver then corrupt (dropBlock s n) t
    else
      matchStream (dropBlock s n) n
        { ofNative := true, id := b1.stream, alive := b1.alive
          time := ((leAt b1.time 4 4 + leAt b1.time 8 2 * 2 ^ 32 : Nat) : Int) * 1000000000 + (leAt b1.time 0 4 : Nat)
          data := b1.payload, len := b1.blockLen } t

/-- A segment with no block in progress: index 0 starts one, any other is ORPHAN (R360). -/
def freshSegment (s : State) (n : Nat) (sg : List Byte) (t : Nat) : State :=
  if bits (leAt sg 3 1) 0 4 ≠ 0 then bump s Reg.TLY_ORPHAN_COUNT
  else
    takeSegment s n
      { stream := leAt sg 4 2, alive := leAt sg 6 2, time := slice sg 8 12, blockLen := leAt sg 0x14 4
        count := bits (leAt sg 3 1) 4 4 + 1, next := 0, payload := [], crcOver := [], seq := s.clock.seq } sg t

/-- A native segment. -/
def nativeSegment (s : State) (n : Nat) (sg : List Byte) (t : Nat) : State :=
  match SMap.get? s.tally.blocks n with
  | some b =>
    if isNext b sg then takeSegment s n b sg t
    else freshSegment (tlyEvent (bump (dropBlock s n) Reg.TLY_INTERLEAVED_COUNT) 6 t) n sg t
  | none => freshSegment s n sg t

/-- INGEST_FRAME_RX (R356, R366): a frame's last byte arrives on port `n`. Before SERVICEABLE it is discarded (R112). -/
def execIngestFrameRx (n : Nat) (fr : List Byte) (t : Nat) (s : State) : Host.Outcome State Fault Refusal :=
  if ¬(n < 2) ∨ s.build = .q then .next s
  else if !s.boot.serviceable then .next (bump s Reg.HST_BOOT_INGEST_DROP)
  else if !wbit (rd s Reg.TLY_CFG) n then .next s
  else
    let s1 := bump s (if n = 0 then Reg.TLY_RX_0_COUNT else Reg.TLY_RX_1_COUNT)
    match datagramOf s n fr with
    | none => .next (bump s1 Reg.TLY_NOT_MEAS_COUNT)
    | some (ofNative, d) => .next (if ofNative then nativeSegment s1 n d t else c37Frame s1 n d t)

/-! ## The seal (R361, R369) -/

/-- The set descriptor of a partition (Table 14.6) for tick index `k`. -/
def setDescriptor (s : State) (p k t : Nat) : List Byte :=
  let set := SMap.get s.tally.sets TallySet.init p
  leBytes 4 0x5445534D ++ leBytes 2 1 ++ leBytes 1 p ++ leBytes 1 0 ++ leBytes 8 k ++ wordBytes (timeRecord s t) ++
    leBytes 4 set.entries ++ leBytes 4 set.dataBytes ++ leBytes 4 set.dropped ++ leBytes 4 (crc32c set.bytes) ++ leBytes 16 0

/-- The seal of the tick of index `k` at t+100 ns of the next: blocks begun two ticks ago are TRUNCATED, each defined
partition's descriptor is written to the bank that index `b` at its edge named (log entry 73), and the sets start anew. `s`
is the state of the new tick. -/
def sealSets (s : State) (k b : Nat) : State :=
  if s.build = .q then s
  else
    let old := SMap.keysWhere (fun _ (b : TallyBlock) => decide (b.seq + 2 ≤ s.clock.seq)) s.tally.blocks
    let s1 := old.foldl (fun s n => bump (dropBlock s n) Reg.TLY_TRUNCATED_COUNT) s
    let s2 := (List.range (numParts s)).foldl (fun s p =>
      if partDefined s p && areaValid s p then areaWrite s p (bankAddr s p b) (setDescriptor s p k 100) 100 else s) s1
    setTally s2 { s2.tally with sets := [] }

/-- R367 at the configuration lock: areas that break its rule are marked invalid. -/
def checkAreas (s : State) (t : Nat) : State :=
  (List.range (numParts s)).foldl (fun s p =>
    if areaBank s p = 0 then s
    else if windowOk s p false true (areaBase s p) (3 * areaBank s p) && decide (64 + 32 * areaEntries s p ≤ areaBank s p) then s
    else tlyEvent (wr s Reg.TLY_STATUS (setBitW (rd s Reg.TLY_STATUS) p)) 10 t) s

/-! ## Ports, streams and rings by register -/

/-- INGEST_LINK_DOWN (R372). -/
def execIngestLinkDown (n t : Nat) (s : State) : Host.Outcome State Fault Refusal :=
  if n < 2 ∧ s.build ≠ .q ∧ wbit (rd s Reg.TLY_STATUS) (9 + n) = true then
    .next (tlyEvent (wr s Reg.TLY_STATUS (putBitW (rd s Reg.TLY_STATUS) (9 + n) false)) 9 t)
  else .next s

/-- INGEST_LINK_UP (R356). -/
def execIngestLinkUp (n : Nat) (s : State) : Host.Outcome State Fault Refusal :=
  if n < 2 ∧ s.build ≠ .q then .next (wr s Reg.TLY_STATUS (setBitW (rd s Reg.TLY_STATUS) (9 + n))) else .next s

/-- A stream entry's words obey Table 14.9 and R371 beside the other entries: of two that would overlap, the higher one would
break the rule. -/
def streamOk (s : State) (i : Nat) (w0 w1 w2 : Word) : Bool :=
  !wbit w0 0 ||
    (fld w0 7 9 == 0 && fld w2 24 8 == 0 && partDefined s (fld w0 4 3) &&
      (if wbit w0 1 then fld w1 16 16 == 0 && fld w2 0 24 == 0 else fld w1 16 16 != 0 && fld w2 0 24 != 0) &&
      !(s.regs.any (fun e => decide (0x810000 ≤ e.1) && decide (e.1 < 0x830000) && e.1 != 0x810000 + 16 * i && e.1 % 16 == 0 && wbit e.2 0 &&
        wbit e.2 1 == wbit w0 1 && fld e.2 16 16 == fld w0 16 16 && (fld e.2 2 2 &&& fld w0 2 2) != 0)))

/-- TLY_STREAM_WRITE (R371) of word `w` (0 to 2) of stream entry `i`: before the configuration lock it takes effect unless it
would create a bad entry; after the configuration lock the Fence refuses it. -/
def execTlyStreamWrite (i w : Nat) (v : Word) (src : Requester) (t : Nat) (s : State) : Host.Outcome State Fault Refusal :=
  let off := Reg.TLY_STREAM_W0 i + 4 * w
  if ¬(i < 8192) ∨ 3 ≤ w ∨ s.build = .q then .next s
  else if s.boot.cfgLocked then .next (fenceRefuse s .lock 0 src off t)
  else
    let v1 := if w = 0 then v &&& 0xFFFF007F#32 else if w = 2 then v &&& 0x00FFFFFF#32 else v
    let word := fun k => if k = w then v1 else rd s (Reg.TLY_STREAM_W0 i + 4 * k)
    if streamOk s i (word 0) (word 1) (word 2) then .next (wr s off v1)
    else .next (wr s Reg.TLY_STATUS (setBitW (rd s Reg.TLY_STATUS) 8))

/-- TLY_FWD_HEAD_WRITE (R524): slots are released unless the head would pass the slots written. After an FLR the ring
writes again from this write on (R523). -/
def execTlyFwdHeadWrite (n : Nat) (v : Word) (s : State) : Host.Outcome State Fault Refusal :=
  if ¬(n < 2) ∨ s.build = .q then .next s
  else
    let slots := 2 ^ rdF s (Reg.TLY_FWD_CFG n) 0 4
    let head := rdF s (Reg.TLY_FWD_HEAD n) 0 8
    let used := SMap.get s.tally.fwdUsed 0 n
    let d := (fld v 0 8 + slots - head % slots) % slots
    let s1 := setTally s { s.tally with fwdOff := s.tally.fwdOff.filter (· != n) }
    if fld v 0 8 < slots ∧ d ≤ used then
      .next (wr (setTally s1 { s1.tally with fwdUsed := SMap.put s1.tally.fwdUsed n (used - d) }) (Reg.TLY_FWD_HEAD n)
        (v &&& 0xFF#32))
    else .next s1

end Sys2Proof.Machine
end

