-- ==== Sys2Proof/Machine/LoadChecks.lean ====
section
/-! DEFINITION. The load checks of Table 4.12 (R102 to R106 and the section rules of chapters 5 to 18). The checks of the
sections run on the state with the image's tables loaded over clean ones (`c` below); `l` is the image's list of
sections. -/

namespace Sys2Proof.Machine

/-! ## 0x04 and 0x06: the signature and the digests (R103) -/

/-- The manifest body of an image: every manifest byte before the signature. -/
def manifestBody (s : State) (base : Nat) (h : List Byte) : List Byte :=
  flashRead s (base + leAt h 0x14 4) (56 + 48 * leAt h 0x10 2)

/-- The image digest. -/
def imageDigest (s : State) (k : Nat) : List Byte := sha384 (manifestBody s (slotBase k) (imageHeader s (slotBase k)))

/-- The signature over the manifest body verifies with the public key `pub` (x then y), whose hash is the one fused in the
key slot (log entry 75). -/
def signatureOk (s : State) (k key : Nat) (pub : List Byte) : Bool :=
  let h := imageHeader s (slotBase k)
  let sg := flashRead s (slotBase k + leAt h 0x14 4 + 56 + 48 * leAt h 0x10 2) 96
  pub.length == 96 && sha384 pub == s.fuses.keyHashes.getD key [] &&
    ecdsaVerify (beAt pub 0 48, beAt pub 48 48) (imageDigest s k) (beAt sg 0 48) (beAt sg 48 48)

/-- The header and every section hash to the digests in the manifest. -/
def digestsOk (s : State) (k : Nat) : Bool :=
  let base := slotBase k
  let h := imageHeader s base
  let m := manifestBody s base h
  sha384 h == slice m 8 48 && ((List.range (leAt h 0x10 2)).zip (sectTable h)).all (fun e =>
    sha384 (flashRead s (base + e.2.off) e.2.len) == slice m (0x38 + 48 * e.1) 48)

/-! ## 0x03: the header -/

/-- A section table entry keeps Table 4.6. -/
def sectOk (x : Sect) : Bool :=
  bits x.flags 1 7 == 0 && x.zero == 0 && x.off % 4096 == 0 && decide (4096 ≤ x.off) &&
    (bitAt x.flags 0 || x.mask == 0xFFFFFFFF)

/-- The header keeps Table 4.5; `safe` says that the slot is the safe slot. -/
def headerOk (h : List Byte) (safe : Bool) : Bool :=
  let n := leAt h 0x10 2
  leAt h 0 4 == 0x4E57524B && leAt h 4 2 == 1 && bits (leAt h 6 2) 2 14 == 0 && bitAt (leAt h 6 2) 1 == safe &&
    leAt h 8 4 % 4096 == 0 && decide (leAt h 8 4 ≤ 33554432) && !bitAt (leAt h 0x0C 1) 0 && bits (leAt h 0x0C 1) 5 3 == 0 &&
    leAt h 0x0D 3 == 0 && decide (1 ≤ n) && decide (n ≤ 64) && leAt h 0x12 2 == 0 && leAt h 0x14 4 % 4096 == 0 &&
    leAt h 0x18 4 == 56 + 48 * n + 96 && decide (leAt h 0x14 4 + leAt h 0x18 4 ≤ leAt h 8 4) && leAt h 0x20 32 == 0 &&
    allZero (slice h (0x40 + 16 * n) (1024 - 16 * n)) && allZero (slice h 0x440 3008) && (sectTable h).all sectOk

/-! ## 0x09: the set of sections -/

/-- The section types that a build requires (Table 4.7). -/
def requiredTypes (b : Build) : List Nat := [1, 2, 3, 4, 5, 6, 7, 8, 0x0A, 0x0B] ++ (if b = .q then [] else [9])

/-- Every section lies in the image and has a known type that the build does not refuse, and each required type applies
exactly once (R101). -/
def sectionsOk (s : State) (h : List Byte) : Bool :=
  let t := sectTable h
  t.all (fun x => decide (1 ≤ x.ty) && decide (x.ty ≤ 0x0C) && decide (x.off + x.len ≤ leAt h 8 4) && !(s.build == .q && x.ty == 9)) &&
    (requiredTypes s.build).all (fun ty => (t.filter (fun x => x.ty == ty && x.applies s)).length == 1)

/-! ## 0x0A: field rules -/

/-- REGISTERS (R102, R505, R50, R78): RWL registers, each once, no reserved bit, every value in range. An offset absent
from the build is judged by check 0x0F. -/
def registersOk (c : State) (x : Nat × Nat) : Bool :=
  let l := registerPairs c x
  x.2 % 8 == 0 && (l.map (·.1)).eraseDups.length == l.length &&
    l.all (fun e => match RegMap.find e.1 with
      | some r => r.acc == .rwl && !within e.1 (Reg.PART_KEY 0) (Reg.PART_KEY 8) &&
          !within e.1 (Reg.PART_PORT_ALLOW 0) (Reg.PART_PORT_ALLOW 16) &&
          (e.2 &&& ~~~(BitVec.ofNat 32 r.mask)) == 0 && rangeOk e.1 e.2
      | none => false) &&
    (ppsEn c || ptpProfile c != 0 || wbit (rd c Reg.TBU_CFG) 10)

/-- BOOT_PARAMS (Table 4.8). -/
def bootParamsOk (c : State) (x : Nat × Nat) : Bool :=
  x.2 == 8 && decide (50 ≤ c.boot.fwBudgetMs) && decide (c.boot.fwBudgetMs ≤ 500) && decide (c.boot.lockWindowMs ≤ 100) &&
    flashNat c (x.1 + 3) 1 == 0 && flashNat c (x.1 + 4) 4 == 0

/-- SUPERVISOR_FW (Table 5.6, R144). -/
def firmwareOk (c : State) (x : Nat × Nat) : Bool :=
  let cl := c.sup.codeLen
  let dl := c.sup.dataLen
  flashNat c x.1 4 == 0x57465553 && cl % 4 == 0 && decide (4 ≤ cl) && decide (cl ≤ 2097152) && dl % 4 == 0 && decide (dl ≤ 1048576) &&
    decide (cl + dl ≤ 2097152) && c.sup.entry % 2 == 0 && decide (c.sup.entry < cl) && flashNat c (x.1 + 0x14) 12 == 0 &&
    x.2 == 0x20 + cl + dl

/-- PARTITIONS (Table 6.4, R147; entries 4 to 7 are all zero under G1COMPAT). -/
def partitionsOk (c : State) (x : Nat × Nat) : Bool :=
  let e := partEntry c x
  let defd := fun p => bitAt (leAt (e p) 0 1) 0
  let keys := (indicesWhere 8 defd).map (fun p => leAt (e p) 2 2)
  flashNat c x.1 4 == 0x54524150 && flashNat c (x.1 + 4) 2 == 1 && flashNat c (x.1 + 6) 10 == 0 && x.2 == 144 &&
    (List.range 8).all (fun p => bits (leAt (e p) 0 1) 1 7 == 0 && leAt (e p) 1 1 == 0 && leAt (e p) 12 4 == 0 &&
      (if defd p then decide (1 ≤ leAt (e p) 2 2) && decide (leAt (e p) 2 2 ≤ 0xFFFE) && decide (p < numParts c)
        else allZero (e p))) &&
    keys.eraseDups.length == keys.length

/-- WINDOWS (Table 18.6). -/
def windowsOk (c : State) (x : Nat × Nat) : Bool :=
  let n := flashNat c (x.1 + 6) 2
  flashNat c x.1 4 == 0x57444E57 && flashNat c (x.1 + 4) 2 == 1 && decide (n ≤ 256) && flashNat c (x.1 + 8) 8 == 0 &&
    x.2 == 16 + 32 * n && (List.range n).all (fun w =>
      let b := windowEntry c x w
      bits (leAt b 0 1) 4 4 == 0 && decide (leAt b 1 1 < 8) && leAt b 2 6 == 0 && leAt b 8 8 % 4096 == 0 && leAt b 16 8 % 4096 == 0 &&
        leAt b 24 8 == 0 && (!bitAt (leAt b 0 1) 0 || decide (4096 ≤ leAt b 16 8)) && decide (leAt b 8 8 + leAt b 16 8 ≤ 2 ^ 64))

/-- The dimensions of the topology (Table 13.2). -/
def dims (c : State) : List Nat := [c.fab.routes.dimX, c.fab.routes.dimY, c.fab.routes.dimZ]

/-- A position lies inside the topology. -/
def insideTopo (c : State) (p : List Nat) : Bool := (List.range 3).all (fun i => decide (p.getD i 0 < (dims c).getD i 0))

/-- A group entry keeps Table 9.11, R216, R241 and R557: no relay, which alone is a Q build (R322), is a member. -/
def groupOk (c : State) (g : Group) : Bool :=
  let raw := g.raw
  let anchored := g.nodeOnly && g.kind == 2
  let own := (groupMembers c g).filter (· == modId c)
  bits (leAt raw 0 1) 3 5 == 0 && leAt raw 10 2 == 0 && leAt raw 19 1 == 0 && leAt raw 23 9 == 0 &&
    (!g.defined ||
      (decide (1 ≤ g.kind) && decide (g.kind ≤ 3) && decide (1 ≤ g.size) && decide (g.size ≤ 32) &&
        (if g.kind = 2 then decide (g.axis ≤ 2) else g.axis == 0) &&
        decide (12 ≤ g.stepTimeout) && decide (g.stepTimeout ≤ 1000) && (treeAt c g.treeId).defined &&
        decide (g.treeId < c.fab.routes.trees.length) &&
        (if g.kind = 3 || anchored then insideTopo c g.origin else g.origin.all (· == 0)) &&
        (if g.kind = 3 then g.extent.all (1 ≤ ·) &&
            (List.range 3).all (fun i => decide (g.origin.getD i 0 + g.extent.getD i 0 ≤ (dims c).getD i 0))
          else g.extent.all (· == 0)) &&
        (if g.kind = 1 then (g.members.take g.size).all (· < 32) && (g.members.drop g.size).all (· == 0xFF)
          else g.members.all (· == 0xFF) && (groupMembers c g).length == g.size) &&
        (groupMembers c g).all (fun m => !(c.fab.routes.modules[m]?).any (·.relay)) &&
        (g.nodeOnly || (own.length == 1 && c.build != .q))))

/-- GROUPS. -/
def groupsOk (c : State) (x : Nat × Nat) : Bool :=
  let n := flashNat c (x.1 + 6) 2
  flashNat c x.1 4 == 0x50525347 && flashNat c (x.1 + 4) 2 == 1 && decide (n ≤ 256) && flashNat c (x.1 + 8) 8 == 0 &&
    x.2 == 16 + 64 * n && c.hubs.groups.all (fun e => groupOk c e.2)

/-- A route entry names only ports that are USED. -/
def routeOk (c : State) (r : Nat × Nat) : Bool :=
  (List.range 16).all (fun n => !(bitAt r.1 n || bitAt r.2 n) || (c.fab.routes.ports[n]?).any (·.used))

/-- A node of a DEFINED tree keeps Table 13.7: ROLE 3 and PARENT_MOD 0xFF belong to the order root, r positions are used, and
every module named is a MOD_ID. `root` says that the node is the tree's order root. -/
def nodeDefinedOk (b : List Byte) (root : Bool) : Bool :=
  leAt b 0 1 == 0 ||
    ((leAt b 1 1 == 0xFF) == root && (root || (decide (leAt b 1 1 < 32) && leAt b 0 1 != 3)) &&
      (!root || decide (3 ≤ leAt b 0 1)) &&
      (List.range 4).all (fun i => (leAt b (8 + 4 * i) 1 != 0) == decide (i < leAt b 3 1) && decide (leAt b (9 + 4 * i) 1 < 32)))

/-- A tree node keeps Table 13.7. -/
def nodeOk (b : List Byte) : Bool :=
  decide (leAt b 0 1 ≤ 4) && decide (leAt b 3 1 ≤ 4) && decide (leAt b 2 1 ≤ 1) && leAt b 4 4 == 0 &&
    (List.range 4).all (fun i => decide (leAt b (8 + 4 * i) 1 ≤ 2) && decide (leAt b (10 + 4 * i) 1 ≤ 1) && leAt b (11 + 4 * i) 1 == 0)

/-- A tree entry keeps Table 13.7 and names only DEFINED alternates (R354). -/
def treeOk (c : State) (b : List Byte) : Bool :=
  bits (leAt b 0 1) 1 7 == 0 && decide (leAt b 2 1 ≤ 1) && decide (leAt b 3 1 ≤ 15) && leAt b 4 4 == 0 && leAt b 88 8 == 0 &&
    nodeOk (slice b 8 24) && nodeOk (slice b 32 24) &&
    (!bitAt (leAt b 0 1) 0 || (decide (leAt b 1 1 < 32) &&
      nodeDefinedOk (slice b 8 24) (leAt b 1 1 == modId c && leAt b 2 1 == 0) &&
      nodeDefinedOk (slice b 32 24) (leAt b 1 1 == modId c && leAt b 2 1 == 1) &&
      (List.range 32).all (fun f => leAt b (56 + f) 1 == 0xFF || ((c.fab.routes.trees[leAt b (56 + f) 1]?).any (·.defined)))))

/-- The kinds of Table 13.2 with their dimensions. -/
def topoOk (r : Routes) : Bool :=
  let two := decide (2 ≤ r.dimX)
  (r.topo == 1 && two && decide (r.dimX ≤ 8) && r.dimY == 1 && r.dimZ == 1) ||
    (r.topo == 2 && two && decide (r.dimX ≤ 8) && decide (2 ≤ r.dimY) && decide (r.dimY ≤ 4) && r.dimZ == 1) ||
    (r.topo == 3 && two && decide (r.dimX ≤ 4) && decide (2 ≤ r.dimY) && decide (r.dimY ≤ 4) && r.dimZ == 2)

/-- ROUTES (Tables 13.1, 13.2, 13.6 and 13.7, R321, R322, R354). -/
def routesOk (c : State) (x : Nat × Nat) : Bool :=
  let r := c.fab.routes
  let b := flashRead c x.1 0x11D0
  let grid := r.dimX * r.dimY * r.dimZ
  leAt b 0 4 == 0x54554F52 && leAt b 4 2 == 1 && topoOk r && bits (leAt b 0x0B 1) 5 2 == 0 && leAt b 0x0C 4 == 0 &&
    x.2 == 0x11D0 + 96 * r.trees.length && decide (grid ≤ 32) &&
    (List.range 32).all (fun m =>
      let o := 0x10 + 4 * m
      let f := leAt b o 1
      let pos := [leAt b (o + 1) 1, leAt b (o + 2) 1, leAt b (o + 3) 1]
      bits f 2 6 == 0 && (!bitAt f 0 || (if m < grid then !bitAt f 1 && insideTopo c pos && modAt c (pos.getD 0 0) (pos.getD 1 0) (pos.getD 2 0) == m
        else bitAt f 1 && pos.all (· == 0)))) &&
    (List.range 16).all (fun n =>
      let o := 0x90 + 4 * n
      decide (leAt b o 1 < 32) && decide (leAt b (o + 1) 1 < 16) && bits (leAt b (o + 2) 1) 2 6 == 0 && leAt b (o + 3) 1 == 0) &&
    r.channels.all (fun k => decide (k.mode ≤ 3) && (k.mode == 0 || (decide (20 ≤ k.timeoutUs) && decide (k.timeoutUs ≤ 1000)))) &&
    (List.range 16).all (fun k => bits (leAt b (0xD1 + 8 * k) 1) 1 7 == 0) && leAt b (0x150 + 4 * modId c) 4 == 0 &&
    r.route.all (routeOk c) && r.failover.all (fun e => routeOk c e.2) &&
    (List.range r.trees.length).all (fun t => treeOk c (flashRead c (x.1 + 0x11D0 + 96 * t) 96))

/-- A queue is present. -/
def queuePresent (c : State) (q : Nat) : Bool := decide (q < numQueues c)

/-- SCHEDULE (Table 7.10, R190); an embedded descriptor has TGT_ABS, TARGET_TICK, DEFER and DEP_QUEUE zero. -/
def scheduleOk (c : State) (x : Nat × Nat) : Bool :=
  let n := flashNat c (x.1 + 6) 2
  flashNat c x.1 4 == 0x48435353 && flashNat c (x.1 + 4) 2 == 1 && decide (n ≤ 4096) && flashNat c (x.1 + 12) 4 == 0 &&
    decide (c.sched.fcNs ≤ foreLen c) && x.2 == 16 + standingBytes c * n &&
    (standingRaw c x).all (fun b =>
      let p := leAt b 0 2
      decide (1 ≤ p) && decide (p ≤ epochLen c) && decide (leAt b 2 2 < p) && bits (leAt b 4 1) 2 6 == 0 && queuePresent c (leAt b 5 1) &&
        leAt b 6 2 == 0 && leAt b 12 4 == 0) &&
    c.sched.standing.all (fun z => !z.desc.tgtAbs && z.desc.target == 0 && z.desc.defer == 0 && z.desc.depQueue == 0 &&
      (!z.desc.depValid || decide (z.desc.depIndex < n)))

/-- MICROCODE (Tables 11.8 and 11.9, R292): WORDS is 0 for an absent hub, and for hub 1 under G1COMPAT. -/
def microcodeOk (c : State) (x : Nat × Nat) : Bool :=
  flashNat c x.1 4 == 0x444F4355 && flashNat c (x.1 + 4) 2 == 1 && flashNat c (x.1 + 6) 2 == 0 && flashNat c (x.1 + 12) 4 == 0 &&
    (List.range 2).all (fun h =>
      let u := ucodeHub c x h
      let absent := h == 1 && (c.build.idies == 1 || g1 c)
      decide (u.2.1 ≤ 16384) && (!absent || u.2.1 == 0) && u.2.2 % 16 == 0 && flashNat c (x.1 + 0x1C + 16 * h) 4 == 0 &&
        decide (u.2.2 + 16 * u.2.1 ≤ x.2)) &&
    c.hubs.store.dispatch.all (fun e => bits e.2 26 6 == 0)

/-! ### The LEDGER section -/

/-- A model counted once at its longest context, in the time test of R381 (R386). -/
def oneSlotTime (md : Model) : Nat := stepTime md 1 (md.maxCtx + (if md.draftModel = 0xFF then 0 else 8))

/-- R373 and R386 for the pool of model `m`. -/
def poolOk (c : State) (m : Nat) (md : Model) : Bool :=
  let l := (poolOf c m).filterMap (model? c)
  l.all (fun y => y.part == md.part) && decide (400 + md.p0 + md.p1 ≤ md.reserve) &&
    decide (sumNat (l.map oneSlotTime) + maxNat (l.map (·.reserve)) ≤ foreLen c - c.sched.fcNs)

/-- A model entry and its extension keep Tables 15.10 and 16.10 and R433. -/
def modelOk (c : State) (x : Nat × Nat) (m : Nat) (md : Model) : Bool :=
  let b := modelBytes c x m
  let pg := (ldgPart c md.part).pageLog2
  let pair := md.place == 1 || md.place == 2
  let g := group c md.shipGroup
  bits (leAt b.1 0 1) 3 5 == 0 && decide (md.part < 8) && decide (1 ≤ md.steps) && decide (md.steps ≤ 8) && decide (1 ≤ md.microsteps) &&
    decide (1 ≤ md.failLimit) && decide (md.failLimit ≤ 15) && (md.multi || (md.leadMod == modId c && md.group == 0)) &&
    decide (md.leadMod < 32) && leAt b.1 7 1 == 0 && decide (1 ≤ md.kvb) && decide (md.kvb ≤ 2 ^ pg) && decide (1 ≤ md.chunkMax) &&
    decide (1 ≤ md.slotMax) && decide (md.slotMax ≤ 1024) && leAt b.1 60 4 == 0 &&
    (md.layout == 1 || md.layout == 2) && decide (md.place ≤ 3) && ((md.place == 1 || md.place == 3) || md.peerModel == 0xFF) &&
    (md.place == 1 || md.peerMod == 0xFF) &&
    (if md.draftModel = 0xFF then md.draftLen == 0 else decide (1 ≤ md.draftLen) && decide (md.draftLen ≤ 8)) &&
    bits (leAt b.2 6 1) 4 4 == 0 && (pair || md.shipGroup == 0) && decide (1 ≤ md.vocab) && decide (md.vocab ≤ 262144) &&
    decide (md.sampleK ≤ 1020) && (if pair then md.shipLimit != 0 else md.shipLimit == 0) && leAt b.2 19 1 == 0 &&
    md.gatherBase % 64 == 0 && (md.adapterBpr != 0 || md.gatherBase == 0) &&
    (md.place != 2 || (md.d0 == 0 && md.d1 == 0 && md.d2 == 0)) &&
    (!pair || (g.defined && g.kind == 1 && g.size == 2 && g.part == md.part)) &&
    (match model? c md.draftModel with
      | some d => d.place == 3 && d.peerModel == m && decide (md.draftModel < m) && d.steps == md.draftLen && md.steps == 1 &&
          (poolOf c m).contains md.draftModel
      | none => md.draftModel == 0xFF) &&
    (md.place != 3 || (match model? c md.peerModel with
      | some v => v.draftModel == m
      | none => false)) && poolOk c m md

/-- LEDGER (Table 15.9, R405, R433); no model under G1COMPAT. -/
def ledgerOk (c : State) (x : Nat × Nat) : Bool :=
  let n := flashNat c (x.1 + 6) 1
  let ranges := (c.ledger.parts.map (·.2)).filter (fun e => e.slotMax != 0)
  c.build == .q ||
    (flashNat c x.1 4 == 0x5247444C && flashNat c (x.1 + 4) 2 == 1 && decide (n ≤ 16) && (!g1 c || n == 0) &&
      flashNat c (x.1 + 7) 9 == 0 && decide (0x510 + 32 * n ≤ x.2) &&
      (List.range 8).all (fun p =>
        let e := ldgPart c p
        let b := flashRead c (x.1 + 0x10 + 32 * p) 32
        decide (e.slotMax ≤ 1024) && decide (e.slotFirst + e.slotMax ≤ 1024) && e.weights.all (1 ≤ ·) && decide (16 ≤ e.pageLog2) &&
          decide (e.pageLog2 ≤ 24) && leAt b 13 3 == 0 && e.kvBase % 2 ^ e.pageLog2 == 0 && leAt b 28 4 == 0) &&
      (List.range ranges.length).all (fun i => (List.range i).all (fun j => match ranges[i]?, ranges[j]? with
        | some a, some b => decide (a.slotFirst + a.slotMax ≤ b.slotFirst) || decide (b.slotFirst + b.slotMax ≤ a.slotFirst)
        | _, _ => true)) &&
      c.ledger.models.all (fun e => modelOk c x e.1 e.2))

/-- Every VALID stream entry of the Tally table that the image sets (R371). -/
def streamsOk (c : State) : Bool :=
  c.regs.all (fun e => !(within e.1 0x810000 0x830000 && e.1 % 16 == 0) ||
    streamOk c ((e.1 - 0x810000) / 16) e.2 (rd c (e.1 + 4)) (rd c (e.1 + 8)))

/-- Check 0x0A. -/
def fieldsOk (c : State) (l : List (Nat × Nat × Nat)) : Bool :=
  registersOk c (sect l 2) && bootParamsOk c (sect l 0x0B) && firmwareOk c (sect l 1) && partitionsOk c (sect l 3) &&
    windowsOk c (sect l 4) && groupsOk c (sect l 5) && routesOk c (sect l 6) && scheduleOk c (sect l 7) &&
    microcodeOk c (sect l 8) && ledgerOk c (sect l 9) && streamsOk c

/-! ## 0x0B: allocations (R105, R202, R242, R245, R246, R291, R453, R468, R535, R537) -/

/-- The size of a class's architectural range (Table 4.11). -/
def classRange (cls : Nat) : Nat :=
  if cls = 1 then 7 else if cls = 2 ∨ cls = 3 then 16 else if cls = 4 ∨ cls = 5 then 0x2000000 else if cls = 6 ∨ cls = 7 then 16384
  else if cls = 8 then 3072 else if cls = 9 then 1024 else if cls = 0x0A then 32 else if cls = 0x0B then 64
  else if cls = 0x0C then 2048 else 0

/-- The USE and PART of an entry, and the alignment of its range, as its class permits. -/
def useOk (a : Alloc) : Bool :=
  let dev := a.part == 0xFF
  let part := decide (a.part < 8)
  if a.cls = 1 then dev && ((a.use == 1 && decide (a.first + a.count ≤ 3)) || (decide (0x10 ≤ a.use) && decide (a.use ≤ 0x19)))
  else if a.cls = 2 then
    dev && decide (1 ≤ a.use) && decide (a.use ≤ 4) && (if a.first = 0 then a.use == 1 && a.count == 1 else a.use != 1)
  else if a.cls = 3 then dev && (a.use == 2 || a.use == 3)
  else if a.cls = 4 ∨ a.cls = 5 then
    a.first % 4096 == 0 && a.count % 4096 == 0 && (if a.use = 3 then dev else (a.use == 1 || a.use == 2) && part)
  else if a.cls = 6 ∨ a.cls = 7 then a.use == 1 && dev
  else if a.cls = 8 then decide (1 ≤ a.use) && decide (a.use ≤ 3) && part
  else if a.cls = 9 then (a.use == 1 || a.use == 2) && part
  else if a.cls = 0x0A then a.use == 1 && part
  else if a.cls = 0x0B then true
  else (a.use == 1 && part) || (a.use == 2 && dev && a.count == 2)

/-- Two entries of one class intersect. -/
def overlap (a b : Alloc) : Bool :=
  a.cls == b.cls && decide (a.first < b.first + b.count) && decide (b.first < a.first + a.count)

/-- Every pair of a list, in order of position. -/
def pairsOf {α : Type} : List α → List (α × α)
  | [] => []
  | x :: xs => xs.map (fun y => (x, y)) ++ pairsOf xs

/-- The buffer of stream `n` in bytes: base and size (R248). -/
def streamBuffer (c : State) (n : Nat) : Nat × Nat :=
  (4096 * rdF c (Reg.HUB_STRM_BASE (n / 16) (n % 16)) 0 13, 4096 * rdF c (Reg.HUB_STRM_SIZE (n / 16) (n % 16)) 0 14)

/-- Check 0x0B. -/
def allocsOk (c : State) (x : Nat × Nat) : Bool :=
  let raw := allocEntries c x
  let l := raw.map (·.1)
  let bufs := ((List.range (numStreams c)).map (fun n => (n / 16, streamBuffer c n))).filter (fun e => e.2.2 != 0)
  x.2 % 16 == 0 && raw.all (·.2) &&
    l.all (fun a => decide (1 ≤ a.cls) && decide (a.cls ≤ 0x0C) && decide (1 ≤ a.count) && decide (a.first + a.count ≤ classRange a.cls) && useOk a) &&
    (pairsOf l).all (fun e => !overlap e.1 e.2) && l.any (fun a => a.cls == 2 && a.first == 0 && a.use == 1) &&
    decide ((l.filter (fun a => a.cls == 0x0C && a.use == 2)).length ≤ 1) &&
    decide (sumNat ((l.filter (fun a => a.cls == 1 && decide (0x10 ≤ a.use))).map (·.count)) ≤
      sumNat ((l.filter (fun a => a.cls == 2 && a.use == 4)).map (·.count))) &&
    (pairsOf bufs).all (fun e => e.1.1 != e.2.1 || decide (e.1.2.1 + e.1.2.2 ≤ e.2.2.1) || decide (e.2.2.1 + e.2.2.2 ≤ e.1.2.1))

/-! ## 0x0C: ownership -/

/-- Partition `p` is DEFINED in the image. -/
def imageDefines (c : State) (p : Nat) : Bool := partDefined c p

/-- Windows of different partitions in one space do not intersect (R471). -/
def windowsDisjoint (c : State) : Bool :=
  (pairsOf (c.fence.windows.map (·.2))).all (fun e => e.1.part == e.2.part || e.1.host != e.2.host ||
    decide (e.1.base + e.1.length ≤ e.2.base) || decide (e.2.base + e.2.length ≤ e.1.base))

/-- The trees that a group can come to run on: its own, its tree's alternates, theirs, and so on (R344), within `n`
switches. -/
def treesFrom (c : State) : Nat → List Nat → List Nat
  | 0, l => l
  | n + 1, l =>
    let more := l.flatMap (fun t => (treeAt c t).alt.filter (fun a => a != 0xFF && !l.contains a))
    if more.isEmpty then l else treesFrom c n (l ++ more.eraseDups)

/-- A group's partition owns its stream and the streams of the nodes of its tree and of the alternates (Table 6.2, R342, R344,
R354). -/
def groupOwned (c : State) (g : Group) : Bool :=
  let own := fun n => streamOwner c n == some g.part
  !g.defined || (imageDefines c g.part && own g.stream &&
    (treesFrom c c.fab.routes.trees.length [g.treeId]).all (fun t => (List.range 2).all (fun h =>
      ((treeAt c t).node h).role == 0 || own (g.stream % 16 + 16 * h))))

/-- A model's streams, channel and gather area, and its partition's KV pool, lie in the partition's share (R405, R433). -/
def modelOwned (c : State) (md : Model) : Bool :=
  (indicesWhere 32 (bitAt md.stepStreams)).all (fun n => streamOwner c n == some md.part) &&
    (!(md.place == 1 || md.place == 2) || (c.fab.routes.channels[md.kvChannel]?).any (fun k => k.mode != 0)) &&
    (md.adapterBpr == 0 || windowOk c md.part false true md.gatherBase (16 * md.slotMax))

/-- Check 0x0C. -/
def ownersOk (c : State) : Bool :=
  let l := c.fence.allocs.map (·.2)
  l.all (fun a => a.part == 0xFF || imageDefines c a.part) &&
    l.all (fun a => a.cls != 0x0B || (List.range a.count).all (fun i => a.part == (a.first + i) / 8)) &&
    c.fence.windows.all (fun e => imageDefines c e.2.part) && windowsDisjoint c &&
    c.hubs.groups.all (fun e => groupOwned c e.2) &&
    c.sched.standing.all (fun z => queueOwned c z.queue && imageDefines c (z.queue / 8)) &&
    (List.range (numStreams c)).all (fun n =>
      let b := streamBuffer c n
      b.2 == 0 || l.any (fun a => a.cls == 4 + n / 16 && a.use == 1 && streamOwner c n == some a.part && decide (a.first ≤ b.1) &&
        decide (b.1 + b.2 ≤ a.first + a.count))) &&
    (indicesWhere 8 (fun p => wbit (rd c Reg.FENCE_PART_INIT) p)).all (imageDefines c) &&
    c.ledger.parts.all (fun e => e.2.kvPages == 0 ||
      (windowOk c e.1 false true e.2.kvBase (e.2.kvPages * 2 ^ e.2.pageLog2) &&
        windowOk c e.1 false false e.2.kvBase (e.2.kvPages * 2 ^ e.2.pageLog2))) &&
    c.ledger.models.all (fun e => modelOwned c e.2) &&
    (!g1 c || (l.all (fun a => !(a.cls == 5 && a.use == 1) && a.cls != 7) && c.fab.routes.trees.all (fun t => t.node1.role == 0)))

/-! ## 0x0D: microcode (R292) -/

/-- Check 0x0D: the loaded words and every VALID entry point lie in the hub's ROUTINES allocation. -/
def microcodeFits (c : State) : Bool :=
  let inside := fun h w => c.fence.allocs.any (fun a => a.2.cls == 6 + h && decide (a.2.first ≤ w) && decide (w < a.2.first + a.2.count))
  (List.range 2).all (fun h =>
    (List.range (SMap.get c.hubs.store.wordsN 0 h)).all (fun i => inside h (SMap.get c.hubs.store.base 0 h + i))) &&
    c.hubs.store.dispatch.all (fun e => !bitAt e.2 15 || inside (e.1 / 128) (bits e.2 0 14))

/-! ## 0x0E: the standing schedule (R190, R558) -/

/-- The planned finish of an entry: δ for COMPUTE and COPY, λ for COLLECTIVE. -/
def plannedFinish (z : Standing) : Nat :=
  z.start + z.desc.worst + (if z.desc.opcode = 1 ∨ z.desc.opcode = 2 then 400 else if z.desc.opcode = 3 then 1100 else 0)

/-- The end of an entry's phase. -/
def phaseEnd (c : State) (z : Standing) : Nat :=
  if (z.desc.opcode = 1 ∨ z.desc.opcode = 2) ∧ z.start < foreStart c + c.sched.fcNs then foreStart c + c.sched.fcNs else foreEnd c

/-- The entries of one lane in ascending PLANNED_START, each starting no earlier than the one before it ends. -/
def laneOk (prev : Nat) : List Standing → Bool
  | [] => true
  | z :: zs => decide (prev ≤ z.start) && laneOk (plannedFinish z) zs

/-- One epoch position keeps R558. -/
def positionOk (c : State) (pos : Nat) : Bool :=
  let l := (List.range c.sched.standing.length).zip c.sched.standing
  let here := l.filter (fun e => pos % e.2.period == e.2.offset)
  (List.range 96).all (fun lane => laneOk (foreStart c)
    (sortBy (fun a b => decide (a.start ≤ b.start)) ((here.map (·.2)).filter (fun z => (lanesOf z.desc).contains lane)))) &&
    here.all (fun e => (lanesOf e.2.desc).isEmpty || decide (plannedFinish e.2 ≤ phaseEnd c e.2)) &&
    here.all (fun e => (lanesOf e.2.desc).isEmpty || !e.2.desc.depValid || here.all (fun d => d.1 != e.2.desc.depIndex || decide (plannedFinish d.2 ≤ e.2.start)))

/-- Check 0x0E. -/
def standingOk (c : State) : Bool :=
  let n := c.sched.standing.length
  (List.range (epochLen c)).all (positionOk c) &&
    ((List.range n).zip c.sched.standing).all (fun e => (checkStanding c n e.1 e.2).isNone)

/-! ## 0x0F: what the build lacks (R87) -/

/-- The resources of an allocation entry are present on the build. -/
def allocPresent (c : State) (a : Alloc) : Bool :=
  let two := c.build.idies == 2
  let last := a.first + a.count
  if a.cls = 3 ∨ a.cls = 5 ∨ a.cls = 7 then two
  else if a.cls = 8 then c.build != .q
  else if a.cls = 9 then decide (last ≤ 512 * c.build.idies)
  else if a.cls = 0x0A then decide (last ≤ numStreams c)
  else if a.cls = 0x0B then decide (last ≤ numQueues c)
  else true

/-- Check 0x0F. -/
def presentOk (c : State) (l : List (Nat × Nat × Nat)) : Bool :=
  let ports := c.build.ports
  let absentPort := fun m => decide (2 ^ ports ≤ m)
  (registerPairs c (sect l 2)).all (fun e => (regRow c e.1).isSome) &&
    !absentPort (rd c Reg.LNK_PORT_EN).toNat &&
    (List.range 8).all (fun p => !absentPort (leAt (partEntry c (sect l 3) p) 4 4)) &&
    c.fence.windows.all (fun e => e.2.host || (c.build != .q && decide (e.2.base + e.2.length ≤ c.build.memBytes))) &&
    c.fence.allocs.all (fun e => allocPresent c e.2) &&
    c.hubs.groups.all (fun e => !e.2.defined || (decide (e.2.stream < numStreams c) &&
      (e.2.kind != 1 || (e.2.members.take e.2.size).all (fun m => (c.fab.routes.modules[m]?).any (·.present))))) &&
    ((List.range 16).zip c.fab.routes.ports).all (fun e => !e.2.used || decide (e.1 < ports)) &&
    c.fab.routes.trees.all (fun t => !t.defined || t.node1.role == 0 || c.build.idies == 2) &&
    (c.build != .q || (c.fab.routes.modules[modId c]?).any (·.relay)) &&
    c.ledger.models.all (fun e => decide (e.2.cores < 2 ^ c.build.cores))

/-! ## The checks in order (R106) -/

/-- The first load check, from 0x03 on, that the image of slot `k` fails; 0 when it passes. `pub` is the public key
presented with it (log entry 75). -/
def imageCode (s : State) (k : Nat) (pub : List Byte) : Nat :=
  let base := slotBase k
  if flashNat s base 4 ≠ 0x4E57524B then 3
  else
    let h := imageHeader s base
    if !headerOk h (k == 2) then 3
    else
      let m := flashRead s (base + leAt h 0x14 4) 8
      let key := leAt m 2 1
      if decide (3 < key) || bitAt s.fuses.revoked key || (k == 2 && key != 0) || leAt m 3 5 != 0 || !signatureOk s k key pub then 4
      else if leAt m 0 2 < s.fuses.minSvn then 5
      else if !digestsOk s k then 6
      else if !bitAt (leAt h 0x0C 1) s.build.code then 7
      else if bitAt (leAt h 6 2) 0 != g1 s then 8
      else if !sectionsOk s h then 9
      else
        let l := imageSections s base
        let c := loadImage s l
        if !fieldsOk c l then 0x0A
        else if !allocsOk c (sect l 0x0A) then 0x0B
        else if !ownersOk c then 0x0C
        else if !microcodeFits c then 0x0D
        else if !standingOk c then 0x0E
        else if !presentOk c l then 0x0F
        else 0

end Sys2Proof.Machine
end

