-- ==== Sys2Proof/Machine/Boot.lean ====
section
/-! DEFINITION. Module resets and the boot sequence (chapter 4, and the reset types of chapter 22). -/

namespace Sys2Proof.Machine

/-- The boot state replaced. -/
def setBoot (s : State) (b : Boot) : State := { s with boot := b }

/-- The straps latched. -/
def setStraps (s : State) (x : Straps) : State := { s with straps := x }

/-- The fuses replaced. -/
def setFuses (s : State) (x : Fuses) : State := { s with fuses := x }

/-! ## Module resets (Table 22.4, R546) -/

/-- A reset of the module is in force. -/
def heldInReset (s : State) : Bool := s.boot.inReset || s.boot.railHold || s.boot.thermalHold

/-- The causes of a reset that starts now: its own bit, and the causes of a reset that still holds (R546). -/
def resetCauses (s : State) (own : Nat) : Word :=
  setBitW (if heldInReset s then rd s Reg.PWR_RESET_CAUSE else 0#32) own

/-- Everything volatile cleared (Table 22.4): build, straps, fuses, flash and host memory stay; PERST_N and the waiting
commands are outside the module. ALERT_N is released. -/
def clearAll (s : State) (causes : Word) : State :=
  let f := State.fresh s.build s.straps s.fuses s.mems.flash s.mems.host
  let s1 := { f with
    host := { f.host with perstLow := s.host.perstLow }
    regs := SMap.put f.regs Reg.PWR_RESET_CAUSE causes
    out := s.out, free := s.free, pending := s.pending }
  if rd s Reg.HST_ALERT_STATUS = 0 then s1 else emit s1 (.level "ALERT_N" true)

/-- A module-level reset of cause bit `own` starts; the holds stay as they are. -/
def moduleReset (s : State) (own : Nat) : State :=
  let s1 := clearAll s (resetCauses s own)
  setBoot s1 { s1.boot with inReset := s.boot.inReset, railHold := s.boot.railHold, thermalHold := s.boot.thermalHold }

/-- POWER_ON (R544): V3P3_AUX enters its window; the main domain is held in reset until RESET_N rises. -/
def execPowerOn (s : State) : Host.Outcome State Fault Refusal :=
  let s1 := clearAll s 1#32
  .next (setBoot s1 { s1.boot with inReset := true })

/-- RESET_N_ASSERT (R544, R546): RESET_N low for `lowNs`. Less than 1 µs is ignored; from 1 ms it is a module reset,
which a protective hold absorbs; in between the spec gives no defined outcome. -/
def execResetNAssert (lowNs : Nat) (s : State) : Host.Outcome State Fault Refusal :=
  if lowNs < 1000 then .next s
  else if lowNs < 1000000 then .fault .resetPulseUndefined
  else
    let s1 := if heldInReset s then s else moduleReset s 1
    .next (setBoot s1 { s1.boot with inReset := true })

/-- RAIL_PROTECT_RESET (R540): a protective rail reset starts, or joins a reset in force. -/
def execRailProtectReset (s : State) : Host.Outcome State Fault Refusal :=
  let s1 := moduleReset s 3
  .next (setBoot s1 { s1.boot with railHold := true })

/-- THERMAL_TRIP (R554): a protective thermal reset starts, or joins a reset in force; THERMTRIP_N goes low. -/
def execThermalTrip (s : State) : Host.Outcome State Fault Refusal :=
  let s1 := moduleReset s 2
  .next (emit (setBoot s1 { s1.boot with thermalHold := true }) (.level "THERMTRIP_N" false))

/-! ## Slot choice (R96–R99) -/

/-- The check code of a slot in HST_BOOT_FAIL. -/
def setSlotCode (s : State) (k code : Nat) : State :=
  wr s Reg.HST_BOOT_FAIL (putFld (rd s Reg.HST_BOOT_FAIL) (8 * k) 8 code)

/-- BOOT_FAIL (R99): ALERT_N raises a CHECK-class event. -/
def bootFail (s : State) (t : Nat) : State := raiseIn (setPhase s 15) 0xB0 true t

/-- A flash read error counts for every slot (R95). -/
def flashDead (s : State) (t : Nat) : State :=
  bootFail (wr (setBoot s { s.boot with flashDead := true, trying := [] }) Reg.HST_BOOT_FAIL 0x101010#32) t

/-- The slots to try, in order (R97). -/
def slotOrder (s : State) : List Nat :=
  if s.straps.bootSel = 3 then [2]
  else match directory s with
    | none => [2]
    | some (_, d) =>
      let order := if s.straps.bootSel = 1 then [0, 1] else if s.straps.bootSel = 2 then [1, 0]
        else if d.seqA < d.seqB then [1, 0] else [0, 1]
      order.filter d.eligible ++ [2]

/-- The codes of slots that are not tried because the directory does not allow them (Table 4.12). -/
def directoryCodes (s : State) : State :=
  if s.straps.bootSel = 3 then s
  else match directory s with
    | none => setSlotCode (setSlotCode s 0 1) 1 1
    | some (_, d) => ([0, 1].filter (fun k => !d.eligible k)).foldl (fun s k => setSlotCode s k 2) s

/-- The next slot to try starts at the READ phase; one that is not CONFIRMED is marked ATTEMPTED first (R98, R99), which
CHECK_LOST refuses like every flash write to the directory (Table 5.2). With none left the device enters BOOT_FAIL. -/
def startSlot (s : State) (t : Nat) : State :=
  match s.boot.trying with
  | [] => bootFail s t
  | k :: rest =>
    let flags := ((directory s).map (fun d => d.2.flags k)).getD 0
    let sq := ((directory s).map (fun d => d.2.seq k)).getD 0
    let unconf := decide (k < 2) && !bitAt flags 1
    let s1 := if unconf && !bitAt flags 2 && !s.sup.checkLost then rewriteDirectory s (fun d => d.set k (d.seq k) (d.flags k + 4)) else s
    let s2 := setBoot s1 { s1.boot with slot := k, trying := rest, unconfirmed := unconf }
    setPhase (wr s2 Reg.HST_IMAGE_SEQ (BitVec.ofNat 32 (if k = 2 then 0 else sq))) 1

/-- A slot fails (R99): its code is recorded and the next slot starts; the fallback is a CHECK-class event. -/
def slotFail (s : State) (code t : Nat) : State :=
  let s1 := setSlotCode s s.boot.slot code
  let s2 := { s1 with
    boot := { s1.boot with fallback := s1.boot.fallback || !s1.boot.trying.isEmpty, fwReady := false }
    sup := { s1.sup with ready := false, started := false } }
  if s.boot.trying.isEmpty then bootFail s2 t else startSlot (raiseIn s2 0xB0 false t) t

/-! ## Reset release (R92–R97) -/

/-- Reset release: the straps are latched, the boot ROM starts, the flash is discovered and the first slot starts. -/
def releaseBoot (s : State) (g1 : Bool) (bootSel modId : Nat) (sfdpOk : Bool) (t : Nat) : State :=
  let causes := rd s Reg.PWR_RESET_CAUSE
  let s1 := clearAll (setStraps s { g1compat := g1, bootSel := bootSel % 4, modId := modId % 32 }) causes
  let s2 := setBoot s1 { s1.boot with hwDone := s1.build == .q }
  if !sfdpOk then flashDead s2 t
  else
    let s3 := directoryCodes s2
    startSlot (setBoot s3 { s3.boot with trying := slotOrder s3 }) t

/-- RESET_RELEASE (R92, R94–R98): RESET_N rises with the strap levels given; `sfdpOk` says that the flash has the xSPI
Profile 1.0 table and at least 1 Gb. During a protective hold the boot waits for its end (R546). -/
def execResetRelease (g1 : Bool) (bootSel modId : Nat) (sfdpOk : Bool) (t : Nat) (s : State) :
    Host.Outcome State Fault Refusal :=
  let s1 := setBoot s { s.boot with inReset := false }
  if s.boot.railHold || s.boot.thermalHold then .next s1
  else if s.boot.inReset || (s.boot.phase == 0 && s.boot.slot == 3) then .next (releaseBoot s1 g1 bootSel modId sfdpOk t)
  else .next s

/-- RAIL_HOLD_RELEASE (R540): both rails have been in window for 20 ms. The module boots when no other reset holds. -/
def execRailHoldRelease (g1 : Bool) (bootSel modId : Nat) (sfdpOk : Bool) (t : Nat) (s : State) :
    Host.Outcome State Fault Refusal :=
  if !s.boot.railHold then .next s
  else
    let s1 := setBoot s { s.boot with railHold := false }
    if heldInReset s1 then .next s1 else .next (releaseBoot s1 g1 bootSel modId sfdpOk t)

/-- THERMAL_HOLD_RELEASE (R554): THERMTRIP_N is released, and the module boots when no other reset holds. -/
def execThermalHoldRelease (g1 : Bool) (bootSel modId : Nat) (sfdpOk : Bool) (t : Nat) (s : State) :
    Host.Outcome State Fault Refusal :=
  if !s.boot.thermalHold then .next s
  else
    let s1 := emit (setBoot s { s.boot with thermalHold := false }) (.level "THERMTRIP_N" true)
    if heldInReset s1 then .next s1 else .next (releaseBoot s1 g1 bootSel modId sfdpOk t)

/-- FLASH_READ_TIMEOUT (R95): a read of the boot did not complete within 1 ms. -/
def execFlashReadTimeout (t : Nat) (s : State) : Host.Outcome State Fault Refusal :=
  if !heldInReset s && decide (s.boot.phase ≤ 4) && s.boot.slot != 3 then .next (flashDead s t) else .next s

/-! ## The image (R103, R107, Table 4.14) -/

/-- The manifest digest of the applying section of a type. -/
def manifestDigest (s : State) (k ty : Nat) : List Byte :=
  let h := imageHeader s (slotBase k)
  let i := ((sectTable h).findIdx? (fun x => x.ty == ty && x.applies s)).getD 0
  flashRead s (slotBase k + leAt h 0x14 4 + 0x38 + 48 * i) 48

/-- The measurement freeze: the image digest and measurements 2, 3 and 4. -/
def freezeMeasurements (s : State) (k : Nat) (digest : List Byte) : State :=
  let s1 := { s with host := { s.host with
    meas := [(2, slice digest 0 48), (3, manifestDigest s k 1), (4, manifestDigest s k 8)] } }
  (List.range 12).foldl (fun s i => wr s (Reg.HST_IMAGE_DIGEST i) (BitVec.ofNat 32 (leAt digest (4 * i) 4))) s1

/-- IMAGE_READ_COMPLETE (R103, R106, R107): the image has been read and hashed, and the public key presented. Checks 0x03 to 0x06 end the VERIFY phase, 0x07 to 0x0F the VALIDATE phase; the first failure fails the
slot. -/
def execImageReadComplete (pub : List Byte) (t : Nat) (s : State) : Host.Outcome State Fault Refusal :=
  if heldInReset s || s.boot.phase != 1 then .next s
  else
    let k := s.boot.slot
    let code := imageCode s k pub
    let s1 := setPhase s 2
    if 3 ≤ code ∧ code ≤ 6 then .next (slotFail s1 code t)
    else
      let h := imageHeader s (slotBase k)
      let svn := flashNat s (slotBase k + leAt h 0x14 4) 2
      let s2 := freezeMeasurements (setPhase s1 3) k (imageDigest s k)
      let s3 := wr s2 Reg.HST_SVN (BitVec.ofNat 32 (svn + s.fuses.minSvn % 65536 * 65536))
      if code ≠ 0 then .next (slotFail s3 code t)
      else .next (setPhase (setBoot s3 { s3.boot with
        sections := imageSections s (slotBase k), imageId := leAt h 0x1C 4 }) 4)

/-- The ports at the microcode lock: enabled ports wait for their bring-up; under the safe image every port stays in
HOLD (R100). -/
def portsAtLoad (s : State) : State :=
  let first := if s.boot.slot = 2 then PortState.hold else .down
  (List.range s.build.ports).foldl (fun s n =>
    setPort s n { port s n with st := if wbit (rd s Reg.LNK_PORT_EN) n then first else .disabled, begun := false }) s

/-- LOAD_COMPLETE (R107): tables and control stores are loaded, the microcode lock is taken, the log is taken up again
(R450), and supervisor firmware starts. -/
def execLoadComplete (s : State) : Host.Outcome State Fault Refusal :=
  if heldInReset s || s.boot.phase != 4 then .next s
  else
    let s1 := loadImage s s.boot.sections
    let s2 := setBoot s1 { s1.boot with ucodeLocked := true }
    let s3 := portsAtLoad (recoverLog s2)
    .next (setPhase { s3 with sup := { s3.sup with started := true } } 5)

/-- The configuration window opens once firmware is ready and the hardware is trained. -/
def openWindow (s : State) : State :=
  if s.boot.phase = 5 ∧ s.boot.fwReady = true ∧ s.boot.hwDone = true then setPhase s 6 else s

/-- HW_TRAINING_COMPLETE (R116): `failed` has a bit for each failed HBM3E site [11:0] and C-die [15:12]. -/
def execHwTrainingComplete (failed t : Nat) (s : State) : Host.Outcome State Fault Refusal :=
  if heldInReset s || s.boot.hwDone || s.boot.phase == 10 || s.boot.phase == 15 then .next s
  else if failed % 65536 = 0 then .next (openWindow (setBoot s { s.boot with hwDone := true }))
  else .next (raiseIn (setPhase (wr s Reg.HST_BOOT_HWFAIL (BitVec.ofNat 32 (failed % 65536))) 10) 0xB0 false t)

/-- FW_INIT_BUDGET_EXPIRY (R111, R142): at boot the slot fails with code 0x11; after a restart the restart has failed. -/
def execFwInitBudgetExpiry (t : Nat) (s : State) : Host.Outcome State Fault Refusal :=
  if s.boot.phase = 5 ∧ s.boot.fwReady = false then .next (slotFail s 0x11 t)
  else if s.sup.restarting = true ∧ s.sup.held = false then .next (restartFailed s t)
  else .next s

/-- SUP_READY (R516, R141–R143): a write of SUP_STATUS.READY. A 1 ends a restart, lets the watchdog count, and opens the
configuration window at boot; a 0 only clears READY. -/
def execSupReady (ready : Bool) (s : State) : Host.Outcome State Fault Refusal :=
  if s.sup.held || !s.boot.ucodeLocked then .next s
  else if !ready then .next { s with sup := { s.sup with ready := false } }
  else
    let s1 := { s with sup := { s.sup with
      ready := true, restarting := false, readySince := true, failed := 0, wdogOn := true
      wdog := if s.sup.wdogOn then s.sup.wdog else 0
      selfTestOff := if s.sup.selfTestOff = 0 then 0 else 2 } }
    if s.boot.phase = 5 then .next (openWindow (setBoot s1 { s1.boot with fwReady := true })) else .next s1

/-! ## The configuration lock (R107–R110, R517, R560) -/

/-- TBU_SEED in ns. -/
def seedNs (s : State) : Nat :=
  ((rd s Reg.TBU_SEED_LO).toNat + rdF s Reg.TBU_SEED_HI 0 16 * 2 ^ 32) * 1000000000

/-- What the first tick waits for, `t` ns after reset release (R110, R560): nothing when a qualified source with a
seconds count has set the timescale; nothing under FREEWHEEL_START, which sets it to TBU_SEED; a source otherwise. -/
def armFirstTick (s : State) (t : Nat) : State :=
  if s.tbu.source ≠ 0 then { s with clock := { s.clock with firstFrom := some (now s t) } }
  else if wbit (rd s Reg.TBU_CFG) 10 then
    { s with clock := { s.clock with firstFrom := some (now s t), edge := (seedNs s : Int) - (t : Int) } }
  else setBoot s { s.boot with waitSource := true }

/-- The configuration lock: RWL fields and tables are fixed, measurement 5 is taken, the partitions and the egress caps
of the image are copied, the measurement areas are checked and the ALARM balls follow their classes. The safe image
goes no further. -/
def configLock (s : State) (t : Nat) : State :=
  let m5 := Config.measurement5 (rd s Reg.HST_STRAP).toNat s.boot.slot (rdF s Reg.HST_SVN 0 16) s.boot.imageId
    (rd s Reg.HST_IDENT).toNat
  let s0 := setBoot s { s.boot with cfgLocked := true }
  let s1 := { s0 with
    host := { s0.host with meas := SMap.put s0.host.meas 5 m5 }
    fence := { s0.fence with caps := (List.range (numParts s)).map (fun p => (p, rd s (Reg.FENCE_EGRESS_CEIL p))) } }
  let s2 := (List.range (numParts s)).foldl (fun s p => wr s (Reg.FENCE_EGRESS_CAP p) (rd s (Reg.FENCE_EGRESS_CEIL p))) s1
  let s3 := checkAreas (wr s2 Reg.FENCE_PART_ACTIVE (rd s Reg.FENCE_PART_INIT)) t
  let s4 := (indicesWhere 10 (fun c => wbit (rd s3 Reg.HST_ALERT_STATUS) c)).foldl raiseAlarms s3
  if s.boot.slot = 2 then setPhase s4 9 else armFirstTick (setPhase s4 7) t

/-- CONFIG_LOCK (R108): HST_BOOT_CTRL.LOCK has effect only in HOST_WINDOW. -/
def execConfigLock (t : Nat) (s : State) : Host.Outcome State Fault Refusal :=
  if s.boot.phase = 6 then .next (configLock s t) else .next s

/-- LOCK_WINDOW_EXPIRY (R108). -/
def execLockWindowExpiry (t : Nat) (s : State) : Host.Outcome State Fault Refusal :=
  if s.boot.phase = 6 then .next (configLock s t) else .next s

/-- CONFIRM (R98, R104, Table 5.2): the booted slot is marked CONFIRMED, and the fused minimum rises to its SVN. It has
no effect before SERVICEABLE, on a confirmed or safe image, or under CHECK_LOST. -/
def execConfirm (s : State) : Host.Outcome State Fault Refusal :=
  if s.boot.serviceable && s.boot.unconfirmed && !s.sup.checkLost then
    let k := s.boot.slot
    let svn := rdF s Reg.HST_SVN 0 16
    let fused := max s.fuses.minSvn svn
    let s1 := rewriteDirectory s (fun d => d.set k (d.seq k) (if bitAt (d.flags k) 1 then d.flags k else d.flags k + 2))
    let s2 := setFuses s1 { s1.fuses with minSvn := fused }
    let s3 := setBoot s2 { s2.boot with unconfirmed := false }
    .next (wr s3 Reg.HST_SVN (BitVec.ofNat 32 (svn + fused % 65536 * 65536)))
  else .next s

end Sys2Proof.Machine
end

