-- ==== Sys2Proof/Machine/Power.lean ====
section
/-! DEFINITION. Power and temperature (chapter 22, Tables 21.12 and 21.13): the ceiling, the limiter, the readings of a
tick edge, rail faults and the ALARM balls. -/

namespace Sys2Proof.Machine

/-- The power block replaced. -/
def setPower (s : State) (p : Power) : State := { s with power := p }

/-- The peak input power of a build in W (Table 3.4). -/
def Build.peakW : Build → Nat
  | .l => 2233 | .n => 2431 | .m => 2553 | .q => 155

/-- The sum of R547 for a build in 0.01 W: the fixed power of the dies, the spin of the cores, the spoke waits, Aethil,
the hub ALUs and HBM3E at raw bandwidth. -/
def Build.gatedDraw : Build → Nat
  | .l => 4500 + 12000 + 10240 + 192 + 2432 + 192 + 11551
  | .n => 9000 + 12000 + 10240 + 384 + 4864 + 384 + 23101
  | .m => 9000 + 12000 + 10240 + 384 + 4864 + 384 + 34652
  | .q => 9000 + 384 + 4864 + 384

/-- RESERVE in W: that sum divided by 0.95, rounded up (R547). -/
def Build.reserveW (b : Build) : Nat := ceilDiv b.gatedDraw 95

/-- A PWR event: POWER class; THERM_CRIT, RAIL_FAULT and SENSOR_FAIL assert ALERT_N (R532). -/
def pwrEvent (s : State) (bit t : Nat) : State := raise s Reg.PWR_EVENT bit .power (decide (2 ≤ bit)) false t

/-- PWR_LIMIT_WRITE (R529): a ceiling from 1 W up to the envelope is accepted and is in force from the next tick edge;
any other is refused by the Fence under its power-ceiling bound. -/
def execPwrLimitWrite (v : Word) (src : Requester) (t : Nat) (s : State) : Host.Outcome State Fault Refusal :=
  let c := fld v 0 16
  if 1 ≤ c ∧ c ≤ s.build.envelope then .next (wr s Reg.PWR_LIMIT (BitVec.ofNat 32 c))
  else .next (fenceRefuse s .power 0 src Reg.PWR_LIMIT t)

/-- The ceiling of the limiter in this tick: min(CEILING, RESERVE) under CRIT (R553). -/
def limitW (s : State) : Nat :=
  if s.power.crit then min s.power.ceiling s.build.reserveW else s.power.ceiling

/-- The energy of an interval, `d` µJ as measured: at most RESERVE in a gated one and PEAK in any other (R547–R549). -/
def intervalUj (s : State) (d : Nat) : Nat := min d (if s.power.gated then s.build.reserveW else s.build.peakW)

/-- LIMITER_INTERVAL (R548, R550): the 1 µs interval `t` ns after the edge begins, and `drawn` µJ were drawn in the one
before it. It is ungated only when the energy so far, PEAK for it and RESERVE for the rest stay within the ceiling; one
that reaches beyond T is gated. The Q build gates nothing. -/
def execLimiterInterval (drawn t : Nat) (s : State) : Host.Outcome State Fault Refusal :=
  if !s.clock.running then .next s
  else
    let us := t / 1000
    let tus := tickNs s / 1000
    let d := if us = 0 then 0 else intervalUj s drawn
    let e := s.power.energy + d
    let fits := decide (us + 1 ≤ tus) &&
      decide (e + s.build.peakW + s.build.reserveW * (tus - us - 1) ≤ limitW s * tus)
    let gated := !fits && s.build != .q
    .next (setPower s { s.power with
      energy := e, peak := max s.power.peak d, gated := gated, acted := s.power.acted || gated })

/-! ## Temperatures (R531, R553) -/

/-- The temperature sensors of a build, with their registers: C-dies, I-dies and stacks (Table 18.8). -/
def tempSensors (b : Build) : List (Nat × Nat) :=
  (if b = .q then [] else (List.range 4).map (fun c => (0x10 + c, Reg.PWR_TEMP_CDIE c))) ++
    (List.range b.idies).map (fun i => (0x18 + i, Reg.PWR_TEMP_IDIE i)) ++
    (List.range b.stacks).map (fun k => (0x20 + k, Reg.PWR_TEMP_HBM k))

/-- One sensor's report: its register is replaced; a sensor that fails to report leaves its previous reading and raises
SENSOR_FAIL (R531). -/
def takeReading (l : List Reading) (t : Nat) (s : State) (e : Nat × Nat) : State :=
  match (l.find? (fun r => r.sensor == e.1)).bind (·.value) with
  | some v => wr s e.2 (BitVec.ofNat 32 (BitVec.ofInt 16 v).toNat)
  | none => pwrEvent s 4 t

/-- Some die junction (or, with `hbm`, some stack) reads at or above `deg` °C. -/
def anyAbove (s : State) (hbm : Bool) (deg : Nat) : Bool :=
  (tempSensors s.build).any (fun e => (decide (0x20 ≤ e.1)) == hbm &&
    decide ((16 * deg : Int) ≤ signed (rdF s e.2 0 16) 16))

/-- Some sensor stands at or above WARN or HBM_WARN. -/
def thermWarn (s : State) : Bool :=
  anyAbove s false (rdF s Reg.PWR_THERM_CFG 0 8) || anyAbove s true (rdF s Reg.PWR_THERM_CFG 16 8)

/-- Some sensor stands at or above CRIT or HBM_CRIT. -/
def thermCrit (s : State) : Bool :=
  anyAbove s false (rdF s Reg.PWR_THERM_CFG 8 8) || anyAbove s true (rdF s Reg.PWR_THERM_CFG 24 8)

/-- A condition of a tick edge counted and raised. -/
def pwrCount (s : State) (on : Bool) (reg bit t : Nat) : State := if on then pwrEvent (bump s reg) bit t else s

/-- The PWR block at a tick edge (R529, R531, R551, R553): the previous tick of `len` ns is reported, with the `drawn` µJ
of its last interval; the readings are replaced; the ceiling written before is in force. -/
def powerEdge (s : State) (readings : List Reading) (drawn len t : Nat) : State :=
  let drawn := intervalUj s drawn
  let e := s.power.energy + drawn
  let s1 := wr (wr (wr s Reg.PWR_TICK_ENERGY_UJ (sat32 e))
    Reg.PWR_TICK_MEAN_W (BitVec.ofNat 32 (min (ceilDiv (e * 1000) len) 65535)))
    Reg.PWR_PEAK_W (BitVec.ofNat 32 (min (max s.power.peak drawn) 65535))
  let s2 := pwrCount s1 s.power.acted Reg.PWR_LIMIT_TICK_COUNT 0 t
  let s3 := (tempSensors s.build).foldl (takeReading readings t) s2
  let s4 := pwrCount s3 (thermWarn s3) Reg.PWR_THERM_WARN_COUNT 1 t
  let s5 := pwrCount s4 (thermCrit s3) Reg.PWR_THERM_CRIT_COUNT 2 t
  let w := rd s5 Reg.PWR_STATUS
  let s6 := wr s5 Reg.PWR_STATUS (maskIn w
    (BitVec.ofNat 32 (b2n s.power.acted + 2 * b2n (thermWarn s3) + 4 * b2n (thermCrit s3))) 7#32)
  setPower s6 { s6.power with
    ceiling := rdF s6 Reg.PWR_LIMIT 0 16, crit := thermCrit s3, energy := 0, peak := 0, gated := false, acted := false }

/-- RAIL_FAULT (R539): a rail outside its operating window for more than 10 µs. The module keeps running. -/
def execRailFault (t : Nat) (s : State) : Host.Outcome State Fault Refusal :=
  .next (pwrEvent (wr s Reg.PWR_STATUS (setBitW (rd s Reg.PWR_STATUS) 3)) 3 t)

/-- ALARM_MIN_TIME_EXPIRY (R537): the 10 ms minimum of a ball ends; the ball then follows its class bit. -/
def execAlarmMinTimeExpiry (ball : Nat) (s : State) : Host.Outcome State Fault Refusal :=
  if SMap.get? s.power.balls ball = some true then
    let s1 := setPower s { s.power with balls := SMap.put s.power.balls ball false }
    match useOf s 1 ball with
    | some u => .next (if wbit (rd s Reg.HST_ALERT_STATUS) (u - 0x10) then s1 else dropAlarms s1 (u - 0x10))
    | none => .next s1
  else .next s

end Sys2Proof.Machine
end

