-- ==== Sys2Proof/Machine/Queues.lean ====
section
/-! DEFINITION. Work queues, the prefetch cache, doorbells, host reads, and the commands of the work-queue opcodes
(chapter 7). -/

namespace Sys2Proof.Machine

/-! ## The target tick (R167, R168) -/

/-- TICK_SEQ of the first tick whose overlay commit deadline (t−25 µs of its edge) falls after now. -/
def relTarget (s : State) (t : Nat) : Nat :=
  if !s.clock.running then 0 else if t + 25000 < s.clock.len then s.clock.seq + 1 else s.clock.seq + 2

/-- TICK_SEQ of the target tick of a descriptor. An absolute target less than 2^31 ticks ahead lies ahead; any other has
passed. -/
def targetOf (s : State) (d : Desc) (t : Nat) : Int :=
  let rel := relTarget s t
  if d.tgtAbs then
    let idx := s.clock.index + (rel - s.clock.seq)
    let ahead : Nat := (d.target + 2 ^ 32 - idx % 2 ^ 32) % 2 ^ 32
    if ahead < 2 ^ 31 then (rel : Int) + (ahead : Int) else (rel : Int) + (ahead : Int) - 4294967296
  else rel

/-- The last eligible tick of a cached entry. -/
def CacheSlot.last (c : CacheSlot) : Int := c.target + c.desc.defer

/-- The first eligible tick of a cached entry. -/
def CacheSlot.from_ (c : CacheSlot) : Int := max c.target c.first

/-- The tick `seq` is eligible. -/
def CacheSlot.eligible (c : CacheSlot) (seq : Nat) : Bool := decide (c.from_ ≤ seq) && decide ((seq : Int) ≤ c.last)

/-- DETAIL of NOT_ADMITTED: the number of eligible ticks (Table 7.9). -/
def CacheSlot.eligibleTicks (c : CacheSlot) : Nat := min (c.last - c.from_ + 1).toNat 16

/-! ## Entering the cache (R170, R174) -/

/-- The descriptor fetches of queue `q`. -/
def ReadUse.ofQueue (q : Nat) : ReadUse → Bool
  | .fetch j _ => j == q
  | _ => false

/-- The outstanding fetches of queue `q` made useless: their entries are fetched again. -/
def dropFetches (s : State) (q : Nat) : State :=
  let mine := ReadUse.ofQueue q
  { s with
    readWait := s.readWait.filter (fun r => !mine r.1)
    tags := SMap.mapV (fun _ t => match t.waiting with
      | some u => if mine u then { t with waiting := some .unused } else t
      | none => t) s.tags }

/-- A descriptor enters the cache of queue `q` (R170): it is checked, its target is fixed, a BARRIER keeps later entries
out, and a SERVE_CANCEL is taken at once (R378). A KEY_REJECT is a Fence refusal (R157). -/
def enterCache (s : State) (q i : Nat) (raw : List Byte) (t : Nat) : State :=
  let d := parseFor s raw
  let fail := checkEntry s q i d
  let qu := queue s q
  let pos := ((List.range 8).find? (fun k => !(qu.cache.any (fun c => c.pos == k)))).getD 0
  let c : CacheSlot := { index := i, pos := pos, desc := d, target := targetOf s d t, first := relTarget s t, fail := fail,
                         taken := false, steps := s.clock.steps }
  let later := qu.fetching.filter (· != i)
  let hold := d.opcode == 8
  let s1 := setQueue s q { qu with
    cache := qu.cache ++ [c]
    fetching := if hold then [] else later
    fetched := if hold then [] else SMap.del qu.fetched i
    toFetch := if hold then later ++ qu.toFetch else qu.toFetch }
  let s2 := if hold then dropFetches s1 q else s1
  match fail with
  | some (.keyReject, _) => fenceRefuse s2 .part (q / 8) .pf0 ((sqBase s q).1 + i * sqeBytes s) t
  | some _ => s2
  | none =>
    if d.opcode = 5 then
      let s3 := match controlTarget s2 q d with
        | some k => cancelSlot s2 k t
        | none => s2
      completeEntry s3 q i d .ok 0 false false false t
    else s2

/-- The descriptors that have arrived enter the cache in ring order (R174). -/
def enterReady (s : State) (q t : Nat) : State :=
  (List.range 8).foldl (fun s _ =>
    let qu := queue s q
    match qu.fetching with
    | [] => s
    | i :: _ => match SMap.get? qu.fetched i with
      | some raw => if barrierCached qu then s else enterCache s q i raw t
      | none => s) s

/-- A descriptor arrives. -/
def fetchArrived (s : State) (q i : Nat) (raw : List Byte) (t : Nat) : State :=
  let qu := queue s q
  if qu.fetching.contains i then enterReady (setQueue s q { qu with fetched := SMap.put qu.fetched i raw }) q t else s

/-- A descriptor fetch failed (R189): the entry completes with POISONED, and the queue enters FAULTED, where fetching
stops. A SHUTDOWN already written keeps its shutdown point (R181; log entry 52). -/
def fetchFailed (s : State) (q i code t : Nat) : State :=
  let qu := queue s q
  if qu.fetching.contains i then
    let d := unknownDesc s
    let s1 := setQueue (drawn s) q { qu with
      st := .faulted, stopDue := qu.stopDue || qu.st == .stopping
      fetching := [], fetched := [], toFetch := qu.fetching.filter (· != i) ++ qu.toFetch }
    let s2 := raise (dropFetches s1 q) Reg.WQ_EVENT 3 .serve false false t
    completeEntry s2 q i d .poisoned (code + 24) false false false t
  else s

/-- DESCRIPTOR_FETCH_COMPLETE (R174, R189): a fetch from a ring in module memory ends; an uncorrectable error faults the
queue. -/
def execDescriptorFetchComplete (q i : Nat) (ok : Bool) (t : Nat) (s : State) : Host.Outcome State Fault Refusal :=
  let b := sqBase s q
  let a := b.1 + i * sqeBytes s
  if b.2 then .next s
  else if ok && !memPoisoned s a (sqeBytes s) then .next (fetchArrived s q i (memRead s a (sqeBytes s)) t)
  else .next (fetchFailed s q i 5 t)

/-! ## Host reads (R186–R188) -/

/-- A read ended badly: its slot is skipped (R188), and what it was for fails. -/
def readFailed (s : State) (k : Nat) (u : ReadUse) (f : ReadFail) (t : Nat) : State :=
  let s1 := { s with tags := SMap.upd s.tags TagSlot.init k (fun x => { x with waiting := none, quarantined := true }) }
  match u with
  | .fetch q i => fetchFailed s1 q i f.code t
  | .copy i _ _ => finishItem s1 i [(.poisoned, f.code)] none t
  | .prompt j _ => endRequest s1 j .poisoned f.code t
  | .coldResume j _ _ => endRequest s1 j .poisoned f.code t
  | .hostReturn _ _ => s1
  | .unused => s1

/-- A copy's bytes written to its destination. -/
def copyWrite (s : State) (i dst : Nat) (bs : List Byte) (t : Nat) : State :=
  let it := item s i
  setItem (spaceWrite s (bitAt (leAt it.desc.ops 0x14 4) 1) it.part dst bs t) i { it with wrote := true }

/-- A read's data arrived. -/
def readArrived (s : State) (k : Nat) (u : ReadUse) (bs : List Byte) (t : Nat) : State :=
  let s1 := { s with tags := SMap.upd s.tags TagSlot.init k (fun x => { x with waiting := none }) }
  match u with
  | .fetch q i => fetchArrived s1 q i bs t
  | .copy i dst len => if itemLive s1 i then copyWrite s1 i dst (slice bs 0 len) t else s1
  | .prompt j off => promptPiece s1 j off bs t
  | .coldResume j dst len =>
    let x := slot s1 j
    setSlot (memWrite s1 dst (slice bs 0 len)) j { x with reads := x.reads - 1 }
  | .hostReturn _ j => takeReturn s1 j bs t
  | .unused => s1

/-- HOST_READ_COMPLETION (R186, R187): taken when its slot waits and its generation matches, dropped as late
otherwise. `fail` is how it ended badly. -/
def execHostReadCompletion (tag : Nat) (fail : Option ReadFail) (data : List Byte) (t : Nat) (s : State) :
    Host.Outcome State Fault Refusal :=
  let k := tag / 16
  let x := SMap.get s.tags TagSlot.init k
  match x.waiting with
  | some u =>
    if x.gen = tag % 16 then
      match fail with
      | some f => .next (issueWaiting (readFailed s k u f t))
      | none => .next (issueWaiting (readArrived s k u data t))
    else .next (raise (bump s Reg.WQ_LATE_CPL_COUNT) Reg.WQ_EVENT 2 .serve false false t)
  | none => .next (raise (bump s Reg.WQ_LATE_CPL_COUNT) Reg.WQ_EVENT 2 .serve false false t)

/-- COMPLETION_TIMEOUT (R186) of the read that slot `k` waits for. -/
def execCompletionTimeout (k t : Nat) (s : State) : Host.Outcome State Fault Refusal :=
  match (SMap.get s.tags TagSlot.init k).waiting with
  | some u => .next (issueWaiting (readFailed s k u .timeout t))
  | none => .next s

/-- TAG_QUARANTINE_END (R188). -/
def execTagQuarantineEnd (k : Nat) (s : State) : Host.Outcome State Fault Refusal :=
  if (SMap.get s.tags TagSlot.init k).quarantined then
    .next (issueWaiting { s with tags := SMap.upd s.tags TagSlot.init k (fun x => { x with quarantined := false }) })
  else .next s

/-! ## Enable, shutdown, reset, invalidate -/

/-- R165: what an ENABLE requires. -/
def enableOk (s : State) (q : Nat) : Bool :=
  let p := q / 8
  let sq := sqBase s q
  let cq := cqBase s q
  (match depthOf s q with
    | some d => windowOk s p sq.2 false sq.1 (d * sqeBytes s) && windowOk s p cq.2 true cq.1 (d * cqeBytes s)
    | none => false) &&
    queueOwned s q && (match allocOf s 0x0C (qVector s q) with
      | some a => a.use == 1 && a.part == p
      | none => false) && !(s.build == .q && !(sq.2 && cq.2))

/-- QUEUE_ENABLE (R165, R179, R562): a DISABLED queue becomes ENABLED, or CFG_ERR is set. -/
def execQueueEnable (q t : Nat) (s : State) : Host.Outcome State Fault Refusal :=
  let qu := queue s q
  if ¬(q < numQueues s) ∨ qu.st ≠ .disabled then .next s
  else if enableOk s q then
    let q1 := if qu.firstPass then
        { qu with tail := 0, cqWrite := 0, cqHead := 0, phase := true, unreleased := [], firstPass := false }
      else qu
    .next { setQueue s q { q1 with st := .enabled, cfgErr := false } with host := { s.host with pf0Off := false } }
  else .next (raise (setQueue s q { qu with cfgErr := true }) Reg.WQ_EVENT 4 .serve false false t)

/-- The entry at SQ index `i` of queue `q` runs. -/
def entryRuns (s : State) (q i : Nat) : Bool :=
  s.sched.items.any (fun e => e.2.ph == .running && e.2.src == .entry q i) ||
    s.ledger.slots.any (fun e => e.2.st != 0 && e.2.queue == q && e.2.index == i && e.2.order.isNone &&
      (chunkRuns s e.1 || ((run s e.2.model).running && (run s e.2.model).rows.contains e.1)))

/-- The descriptor of a posted entry: from its item, the accepted overlay, the cache, a fetch that arrived, or the
Ledger; none where the device never read it. -/
def descOf (s : State) (q i : Nat) : Option Desc :=
  let inCache := ((queue s q).cache.find? (fun c => c.index == i)).map (·.desc)
  let inItem := (s.sched.items.find? (fun e => e.2.ph != .done && e.2.src == .entry q i)).map (·.2.desc)
  let inOvl := (match s.sched.overlay with
    | some (_, l) => (l.find? (fun (x : Taken) => x.it.src == q && x.it.index == i && x.slot.isSome)).bind (fun (x : Taken) => x.slot.map (fun (c : CacheSlot) => c.desc))
    | none => none)
  let inLdg := s.ledger.slots.findSome? (fun e =>
    if e.2.st != 0 && e.2.queue == q && e.2.index == i && e.2.order.isNone then some e.2.desc
    else match e.2.pause, e.2.resume with
      | some (a, b, d, _), _ => if a == q && b == i then some d else none
      | _, some (a, b, d) => if a == q && b == i then some d else none
      | _, _ => none)
  (inCache.orElse (fun _ => inItem)).orElse (fun _ => inOvl.orElse (fun _ => inLdg.orElse (fun _ =>
    (SMap.get? (queue s q).fetched i).map (parseFor s))))

/-- The work items of queue `q`'s entries that are not done. -/
def itemsOfQueue (s : State) (q : Nat) : List Nat :=
  SMap.keysWhere (fun _ (it : Item) => it.ph != .done && (match it.src with
    | .entry j _ => j == q
    | _ => false)) s.sched.items

/-- Work items stopped together as the tick guard stops work, without records; then the next routine of each of their
streams is entered. -/
def stopItems (s : State) (l : List Nat) (t : Nat) : State :=
  let lanes := (l.flatMap (fun i => (item s i).lanes)).filter (fun x => decide (64 ≤ x))
  lanes.foldl (fun s x => enterLane s t (x - 64)) (l.foldl (fun s i => haltItem s i .aborted t) s)

/-- What stops with queue `q` outside the queue itself: its items, its place in the accepted overlay, its requests and
its control entries in hand. -/
def stopQueueWork (s : State) (q t : Nat) : State :=
  let s1 := stopItems s (itemsOfQueue s q) t
  let s2 := { s1 with sched := { s1.sched with overlay := s1.sched.overlay.map (fun o =>
    (o.1, o.2.filter (fun x => !(x.slot.isSome && x.it.src == q)))) } }
  let s3 := setLdg s2 { s2.ledger with slots := SMap.mapV (fun _ x =>
    { x with
      pause := if (match x.pause with
        | some (a, _, _, _) => a == q
        | none => false) then none else x.pause
      resume := if (match x.resume with
        | some (a, _, _) => a == q
        | none => false) then none else x.resume }) s2.ledger.slots }
  abandonReads (dropQueueRequests s3 q t) (ReadUse.ofQueue q)

/-- The per-queue registers. -/
def queueRegs (q : Nat) : List Nat :=
  [Reg.WQ_Q_SQ_BASE_LO q, Reg.WQ_Q_SQ_BASE_HI q, Reg.WQ_Q_CQ_BASE_LO q, Reg.WQ_Q_CQ_BASE_HI q, Reg.WQ_Q_CFG q]

/-- A queue whose ABORTED records are written is DISABLED after SHUTDOWN, and back at reset after RESET (R182, R184). -/
def finishStop (s : State) (q : Nat) : State :=
  let qu := queue s q
  if !qu.aborts.isEmpty then s
  else if qu.st == .resetting then zeroRegs (setQueue s q Queue.init) (queueRegs q)
  else if qu.st == .stopping then setQueue s q { qu with st := .disabled }
  else s

/-- The ABORTED record of a posted entry, as it will be written. -/
def abortRec (s : State) (q i t : Nat) : PendingRec :=
  let runs := entryRuns s q i
  { index := i, desc := (descOf s q i).getD (unknownDesc { s with free := s.free + i }), status := .aborted,
    detail := b2n runs, invalid := runs, time := timeOnly s t }

/-- The shutdown point (R181–R184): every entry posted and not completed is ABORTED, in ring order; nothing of the queue
runs or fetches any more. -/
def shutdownPoint (s : State) (q t : Nat) : State :=
  let recs := (queue s q).posted.map (fun i => abortRec s q i t)
  let s1 := stopQueueWork { s with free := s.free + 4096 } q t
  let qu := queue s1 q
  finishStop (setQueue s1 q { qu with
    st := if qu.stopDue then .stopping else qu.st, stopDue := false
    posted := [], toFetch := [], fetching := [], fetched := [], cache := []
    aborts := qu.aborts ++ recs
    done := recs.foldl (fun m r => SMap.put m r.index .aborted) qu.done }) q

/-- A SHUTDOWN waits for its shutdown point. -/
def Queue.stops (qu : Queue) : Bool := qu.st == .stopping || (qu.st == .faulted && qu.stopDue)

/-- QUEUE_SHUTDOWN (R181): the queue is STOPPING until the next admission gate. -/
def execQueueShutdown (q : Nat) (s : State) : Host.Outcome State Fault Refusal :=
  let qu := queue s q
  if q < numQueues s ∧ (qu.st = .enabled ∨ qu.st = .faulted) then .next (setQueue s q { qu with st := .stopping })
  else .next s

/-- QUEUE_RESET (R182): its write is the shutdown point. -/
def execQueueReset (q t : Nat) (s : State) : Host.Outcome State Fault Refusal :=
  let qu := queue s q
  if q < numQueues s ∧ qu.st ≠ .resetting then
    .next (shutdownPoint (setQueue s q { qu with st := .resetting, stopDue := false }) q t)
  else .next s

/-- ABORTED_RECORDS_WRITE (R183): the records that wait are written in ring order while the CQ has released space. -/
def execAbortedRecordsWrite (q t : Nat) (s : State) : Host.Outcome State Fault Refusal :=
  let l := (queue s q).aborts
  if l.isEmpty then .next s
  else
    .next (finishStop (l.foldl (fun s r =>
      let qu := queue s q
      if qu.unreleased.length < qDepth s q ∧ qu.aborts.head? = some r then
        writeAborted (setQueue s q { qu with aborts := qu.aborts.drop 1 }) q r t
      else s) s) q)

/-- QUEUE_INVALIDATE (R176): every cached entry not taken is discarded and fetched again in ring order. A write while the
action runs has no effect (chapter 0, Edge cases). -/
def execQueueInvalidate (q t : Nat) (s : State) : Host.Outcome State Fault Refusal :=
  let qu := queue s q
  if qu.invBusy then .next s
  else if q < numQueues s ∧ (qu.st = .enabled ∨ qu.st = .stopping) then
    let again := qu.posted.filter (fun i => qu.cache.any (fun c => c.index == i) || qu.fetching.contains i || qu.toFetch.contains i)
    .next (startFetch (dropFetches (setQueue s q { qu with
      invBusy := true, cache := [], fetching := [], fetched := [], toFetch := again }) q) q t)
  else if q < numQueues s ∧ qu.st = .faulted then
    .next (setQueue s q { qu with
      invBusy := true, cache := []
      toFetch := qu.posted.filter (fun i => qu.cache.any (fun c => c.index == i) || qu.toFetch.contains i) })
  else .next s

/-! ## Doorbells (R171–R173) -/

/-- The tick by which RETRY_AFTER counts (R114): the image's cadence once it is loaded, 5 ms before, 10 ms under G1COMPAT. -/
def retryTick (s : State) : Nat := if g1 s then 10000000 else if 5 ≤ s.boot.phase then tickNs s else 5000000

/-- RETRY_AFTER of HST_BOOT_STATUS (R114, R115): 0xFFFF without an estimate, as at reset; 0 once SERVICEABLE; while the
first tick waits for PPS to qualify, the time to the qualifying edge plus one tick, and once PPS is qualified the time to
the next edge where a label waits for it; otherwise the quotient of an estimated time that the spec leaves open (log
entry 56). -/
def retryAfter (s : State) (t : Nat) : Nat :=
  if s.boot.serviceable then 0
  else if s.boot.slot = 3 ∨ s.boot.slot = 2 ∨ s.boot.phase = 9 ∨ s.boot.phase = 10 ∨ s.boot.phase = 15 then 0xFFFF
  else if s.boot.phase = 7 ∧ s.boot.waitSource = true then
    let edges := if s.tbu.pps.qualified then (if s.tbu.label.isSome then 1 else 0)
      else if s.tbu.pps.count = 0 then 0 else 4 - s.tbu.pps.count
    match s.tbu.pps.last with
    | some l => if edges = 0 then 0xFFFF else min (ceilDiv (l + edges * 1000000000 - now s t) (tickNs s) + 1) 0xFFFE
    | none => 0xFFFF
  else min (ceilDiv (Config.freeNat s.free) (retryTick s)) 0xFFFE

/-- Ticks to the epoch edge at which FENCE_PART_ACTIVE next activates partition `p`; 0xFFFF with none pending (R172). -/
def activationTicks (s : State) (p : Nat) : Nat :=
  let n := epochLen s
  let edge := n - s.clock.index % n
  let want := rdF s Reg.FENCE_PART_ACTIVE 0 8
  let ticks := match s.fence.activeWrite with
    | some (old, _) => if bitAt old p then edge else if bitAt want p then edge + n else 0xFFFF
    | none => if bitAt want p then edge else 0xFFFF
  if partDefined s p && !s.sup.checkLost then min ticks 0xFFFF else 0xFFFF

/-- The outcome of a doorbell write in WQ_DB_STATUS; after SERVICEABLE, what is not accepted is counted (R172). -/
def doorbellResult (s : State) (q result retry : Nat) : State :=
  let s1 := setQueue s q { queue s q with dbResult := result, dbRetry := retry }
  if result ≠ 0 ∧ s.boot.serviceable = true then bump s1 Reg.WQ_DB_REFUSED_COUNT else s1

/-- A doorbell before SERVICEABLE (R113). -/
def doorbellEarly (s : State) (q t : Nat) : State :=
  bump (doorbellResult s q 0x0D (retryAfter s t)) Reg.HST_DOORBELL_EARLY_COUNT

/-- A doorbell write completes NOT_READY (R172): the result; none where it does not. -/
def notReady (s : State) (q t : Nat) : Option State :=
  if !s.boot.serviceable then some (doorbellEarly s q t)
  else if s.boot.phase = 9 ∨ (queue s q).st ≠ .enabled then some (doorbellResult s q 0x0D 0xFFFF)
  else if !partActive s (q / 8) then some (doorbellResult s q 0x0D (activationTicks s (q / 8)))
  else none

/-- A tail write's effect (R171, R172): the entries up to the new tail are posted and fetched. -/
def tailWrite (s : State) (q v t : Nat) : State :=
  let qu := queue s q
  let d := qDepth s q
  let n := (v + d - qu.tail) % d
  match notReady s q t with
  | some s' => s'
  | none =>
  if d ≤ v ∨ d - 1 < postedUnreleased qu + standingUnreleased qu + n then doorbellResult s q 0x0B 0
  else
    let l := (List.range n).map (fun k => (qu.tail + k) % d)
    startFetch (doorbellResult (setQueue s q { qu with tail := v, posted := qu.posted ++ l, toFetch := qu.toFetch ++ l }) q 0 0) q t

/-- A CQ head write's effect (R172, R173): records are released in order. ABORTED records that wait for released space
find it (chapter 7, Edge cases; log entry 52). -/
def headWrite (s : State) (q v t : Nat) : State :=
  let qu := queue s q
  let d := qDepth s q
  let n := (v + d - qu.cqHead) % d
  match (if qu.aborts.isEmpty then notReady s q t else none) with
  | some s' => s'
  | none =>
  if d ≤ v ∨ qu.unreleased.length < n then doorbellResult s q 0x0B 0
  else doorbellResult (setQueue s q { qu with cqHead := v, unreleased := qu.unreleased.drop n }) q 0 0

/-- DOORBELL_SQ_TAIL (R171, R176). -/
def execDoorbellSqTail (q : Nat) (v : Word) (t : Nat) (s : State) : Host.Outcome State Fault Refusal :=
  let qu := queue s q
  if ¬(q < numQueues s) then .next s
  else if qu.invBusy then .next (setQueue s q { qu with dbWaiting := qu.dbWaiting ++ [(false, fld v 0 12)] })
  else .next (tailWrite s q (fld v 0 12) t)

/-- DOORBELL_CQ_HEAD (R173). -/
def execDoorbellCqHead (q : Nat) (v : Word) (t : Nat) (s : State) : Host.Outcome State Fault Refusal :=
  let qu := queue s q
  if ¬(q < numQueues s) then .next s
  else if qu.invBusy then .next (setQueue s q { qu with dbWaiting := qu.dbWaiting ++ [(true, fld v 0 12)] })
  else .next (headWrite s q (fld v 0 12) t)

/-- INVALIDATE_COMPLETE (R176): INV_BUSY clears, and the doorbells written meanwhile take effect. -/
def execInvalidateComplete (q t : Nat) (s : State) : Host.Outcome State Fault Refusal :=
  let qu := queue s q
  if qu.invBusy then
    .next (qu.dbWaiting.foldl (fun s w => if w.1 then headWrite s q w.2 t else tailWrite s q w.2 t)
      (setQueue s q { qu with invBusy := false, dbWaiting := [] }))
  else .next s

/-! ## Descriptors as commands -/

/-- The descriptor of the oldest outstanding fetch of queue `q` arrives, when its opcode is `op`. -/
def descArrives (op q : Nat) (raw : List Byte) (t : Nat) (s : State) : Host.Outcome State Fault Refusal :=
  let qu := queue s q
  match qu.fetching.find? (fun i => (SMap.get? qu.fetched i).isNone) with
  | none => .next s
  | some i =>
    if leAt raw 0 1 ≠ op then .next s
    else
      let s1 := { s with tags := SMap.mapV (fun _ x =>
        if x.waiting = some (.fetch q i) then { x with waiting := none } else x) s.tags }
      .next (issueWaiting (fetchArrived s1 q i raw t))

/-- NOP (R170): a NOP descriptor arrives, is checked and cached; the admission gate of its target tick completes it. -/
def execNop (q : Nat) (raw : List Byte) (t : Nat) (s : State) : Host.Outcome State Fault Refusal := descArrives 0 q raw t s

/-- BARRIER (R170): a BARRIER descriptor arrives; it completes at the first gate with no earlier entry left. -/
def execBarrier (q : Nat) (raw : List Byte) (t : Nat) (s : State) : Host.Outcome State Fault Refusal :=
  descArrives 8 q raw t s

/-- SERVE_SUBMIT (R379): a request arrives and waits in the cache for LDG_ADMIT. -/
def execServeSubmit (q : Nat) (raw : List Byte) (t : Nat) (s : State) : Host.Outcome State Fault Refusal :=
  descArrives 4 q raw t s

/-- SERVE_CANCEL (R378): taken as it enters the cache. -/
def execServeCancel (q : Nat) (raw : List Byte) (t : Nat) (s : State) : Host.Outcome State Fault Refusal :=
  descArrives 5 q raw t s

/-- SERVE_PAUSE (R379, R400): taken at the gate of an eligible tick. -/
def execServePause (q : Nat) (raw : List Byte) (t : Nat) (s : State) : Host.Outcome State Fault Refusal :=
  descArrives 6 q raw t s

/-- SERVE_RESUME (R379, R404): taken at the gate of an eligible tick. -/
def execServeResume (q : Nat) (raw : List Byte) (t : Nat) (s : State) : Host.Outcome State Fault Refusal :=
  descArrives 7 q raw t s

/-! ## Work on cores -/

/-- An access of a kernel to module memory (R474): refused outside the windows of the core's partition, poisoned on a
marked granule, made otherwise. -/
def kernelAccess (i t : Nat) (a : State × Bool) (x : Bool × Nat × List Byte) : State × Bool :=
  let s := a.1
  if !a.2 then a
  else
    let it := item s i
    if !windowOk s it.part false x.1 x.2.1 x.2.2.length then
      (finishItem (fenceRefuse s .window it.part .pf0 x.2.1 t) i [(.windowViolation, if x.1 then 8 else 0)] (some it.wrote) t, false)
    else if x.1 then (setItem (memWrite s x.2.1 x.2.2) i { it with wrote := true }, true)
    else if memPoisoned s x.2.1 x.2.2.length then (finishItem s i [(.poisoned, 5)] none t, false)
    else (s, true)

/-- COMPUTE (R32, R474): the kernel object runs on the item's cores. What it does is the compiler's, so its accesses to
module memory are the command's: (write, address, bytes), in order. The kernel object's own address and its argument
block are checked first. In a gated interval no core issues an instruction (R547). -/
def execCompute (i : Nat) (accesses : List (Bool × Nat × List Byte)) (t : Nat) (s : State) :
    Host.Outcome State Fault Refusal :=
  let it := item s i
  if it.desc.opcode ≠ 1 ∨ it.ph ≠ .running ∨ s.power.gated = true then .next s
  else
    let code := leAt it.desc.ops 0 8
    let arg := leAt it.desc.ops 8 8
    let n := leAt it.desc.ops 0x10 2
    if !windowOk s it.part false false code 64 then
      .next (finishItem (fenceRefuse s .window it.part .pf0 code t) i [(.windowViolation, 16)] none t)
    else if n ≠ 0 ∧ windowOk s it.part false false arg n = false then
      .next (finishItem (fenceRefuse s .window it.part .pf0 arg t) i [(.windowViolation, 24)] none t)
    else if memPoisoned s code 64 then .next (finishItem s i [(.poisoned, 21)] none t)
    else if n ≠ 0 ∧ memPoisoned s arg n = true then .next (finishItem s i [(.poisoned, 29)] none t)
    else .next (accesses.foldl (kernelAccess i t) (s, true)).1

/-- Reads of work item `i` are outstanding or wait for a slot. -/
def itemReads (s : State) (i : Nat) : Bool :=
  s.tags.any (fun e => match e.2.waiting with
    | some u => ReadUse.ofItem i u
    | none => false) || s.readWait.any (fun r => ReadUse.ofItem i r.1)

/-- COPY (R473): both ranges are checked whole before the first access; then module memory is copied at once, and host
memory is read with tagged reads. Nothing of it happens in an interval that the limiter gates (R90). -/
def execCopy (i t : Nat) (s : State) : Host.Outcome State Fault Refusal :=
  let it := item s i
  if it.desc.opcode ≠ 2 ∨ it.ph ≠ .running ∨ it.wrote = true ∨ itemReads s i = true ∨ s.power.gated = true then .next s
  else
    let src := leAt it.desc.ops 0 8
    let dst := leAt it.desc.ops 8 8
    let n := leAt it.desc.ops 0x10 4
    let sp := leAt it.desc.ops 0x14 4
    if !windowOk s it.part (bitAt sp 0) false src n then
      .next (finishItem (fenceRefuse s .window it.part .pf0 src t) i [(.windowViolation, 0)] none t)
    else if !windowOk s it.part (bitAt sp 1) true dst n then
      .next (finishItem (fenceRefuse s .window it.part .pf0 dst t) i [(.windowViolation, 8)] none t)
    else if bitAt sp 0 then
      .next ((readPieces src n).foldl (fun s e => issueRead s (.copy i (dst + e.1) e.2) (src + e.1) e.2) s)
    else if memPoisoned s src n then .next (finishItem s i [(.poisoned, 5)] none t)
    else .next (copyWrite s i dst (memRead s src n) t)

end Sys2Proof.Machine
end

