-- ==== Sys2Proof/Machine/Cadence.lean ====
section
/-! DEFINITION. The cadence (chapter 1): the tick edge sequence of Table 1.4, the maintenance slot's opening, the tick
guard, the starts and ends of work items, and the commit of overlays (R511–R514). -/

namespace Sys2Proof.Machine

/-- The tick generator replaced. -/
def setClock (s : State) (c : Clock) : State := { s with clock := c }

/-- The schedule memory replaced. -/
def setSched (s : State) (x : Sched) : State := { s with sched := x }

/-! ## At the strobe: t+0 -/

/-- The egress of the previous tick reported, the counts at 0 again, and the caps written so far in force (R132, R133). -/
def egressEdge (s : State) : State :=
  let s1 := (List.range (numParts s)).foldl (fun s p =>
    wr (wr s (Reg.FENCE_EGRESS_USED_AETHIL p) (sat32 (SMap.get s.fence.usedAethil 0 p)))
      (Reg.FENCE_EGRESS_USED_PCIE p) (sat32 (SMap.get s.fence.usedPcie 0 p))) s
  { s1 with fence := { s1.fence with
    usedAethil := [], usedPcie := []
    caps := (List.range (numParts s)).map (fun p => (p, rd s (Reg.FENCE_EGRESS_CAP p))) } }

/-- EGRESS_RELEASE (R132): the writes and packets that the caps held go, oldest first, as far as the new tick's caps
allow; what does not fit stays held and is not counted again (Table 5.9). -/
def egressRelease (s : State) (t : Nat) : State :=
  let s1 := s.heldWrites.foldl (fun s w =>
    if s.host.pf0Off || pcieFits s w.1 w.2.2.length then hostWrite s w.1 w.2.1 w.2.2 t
    else { s with heldWrites := s.heldWrites ++ [w] }) { s with heldWrites := [] }
  s1.heldPackets.foldl (fun s e =>
    if aethilFits s e.1 (32 + e.2.2.length) then sendOwn s e.1 e.2.1 e.2.2 t
    else { s with heldPackets := s.heldPackets ++ [e] }) { s1 with heldPackets := [] }

/-- A peak of bytes in KiB; a part of a KiB is rounded by a free choice (log entry 5). -/
def kib (s : State) (n : Nat) : Nat := min (freeDiv s (n : Int) 1024).toNat 65535

/-- The peaks of the previous tick in their registers (Tables 10.9 and 13.8, R264); a new tick's peaks start at what is
held now. -/
def peaksEdge (s : State) : State :=
  let word := fun h => BitVec.ofNat 32 (kib s (SMap.get s.fab.robPeak 0 h) + kib s (SMap.get s.fab.ovfPeak 0 h) * 65536)
  let one := if s.build.idies = 2 then 1 else 0
  let s1 := wr (wr (drawn s) (Reg.FAB_ROB_PEAK 0) (word 0)) (Reg.FAB_ROB_PEAK 1) (word one)
  let s2 := (List.range s.build.idies).foldl (fun s h =>
    wr s (Reg.HUB_HELD_PEAK h) (BitVec.ofNat 32 (min (SMap.get s.hubs.heldPeak 0 h) 16383))) s1
  { s2 with
    fab := { s2.fab with robPeak := s2.fab.rob, ovfPeak := s2.fab.ovf }
    hubs := { s2.hubs with heldPeak := [(0, heldNow s 0), (1, heldNow s 1)] } }

/-- The spin time of the previous tick of `len` ns (R210): waits that go on are counted up to the edge and start again
there. -/
def spinEdge (s : State) (len : Nat) : State :=
  let part := fun core => sumNat ((s.sync.since.filter (fun e => decide (e.1 < 64) == core)).map (fun e => len - e.2))
  let s1 := wr s Reg.SYNC_SPIN_CORE_US (sat32 (ceilDiv (s.sync.spinCore + part true) 1000))
  let s2 := wr s1 Reg.SYNC_SPIN_SPOKE_US (sat32 (ceilDiv (s.sync.spinSpoke + part false) 1000))
  setSync s2 { s2.sync with since := SMap.mapV (fun _ _ => 0) s2.sync.since, spinCore := 0, spinSpoke := 0 }

/-- The bridge at a strobe: a failed bridge leaves I-die 1 ISOLATED from the next tick edge on (R316), and a retrained one
reunites the dies at an epoch edge (R318). -/
def bridgeEdge (s : State) (t : Nat) : State :=
  if s.bridge.st = 2 ∧ atEpochEdge s = true then
    raise { s with bridge := { st := 0, isolated := false, detour := false, standing1 := [] } } Reg.LNK_EVENT 7 .link false false t
  else if s.bridge.st ≠ 0 ∧ s.bridge.isolated = false then
    endCrossing (raise { s with bridge := { s.bridge with isolated := true, standing1 := s.sched.standing } } Reg.LNK_EVENT 6
      .link true false t) t
  else s

/-- The supervisor at a strobe: the watchdog counts it (R137, R143), and the hold on overlays ends at the first epoch edge
after READY (R141), as does the span without self-tests (Table 5.4). -/
def supEdge (s : State) : State :=
  { s with sup := { s.sup with
    wdog := if s.sup.wdogOn then s.sup.wdog + 1 else 0
    overlayHeld := s.sup.overlayHeld && !(s.sup.readySince && atEpochEdge s)
    selfTestOff := if s.sup.selfTestOff = 2 ∧ atEpochEdge s = true then 0 else s.sup.selfTestOff } }

/-- What the strobe does beside the clock: TICK_OUT (R75), the slew (R68), the reports of the previous tick, JOIN messages
at an epoch edge (R349), and the release of held egress. -/
def strobe (s : State) (readings : List Reading) (drawnUj prevLen : Nat) : State :=
  let s1 := slewTick (if timingBall s 1 then emit s (.pulse "TICK_OUT" 0 2000) else s)
  let s2 := supEdge { s1 with part := { s1.part with tickRejects := 0 } }
  let s3 := bridgeEdge (spinEdge (peaksEdge (egressEdge (ageLedger s2))) prevLen) 0
  let s4 := tickStalls (tickTtl (powerEdge s3 readings drawnUj prevLen 0)) 0
  egressRelease (if atEpochEdge s4 then sendJoins (renewVias s4) else s4) 0

/-! ## t+200 ns and t+500 ns -/

/-- MARK_LATE (R38): every item of the previous tick that has not completed is late and counted. -/
def markLate (s : State) : State :=
  let late := SMap.keysWhere (fun _ (it : Item) => it.ph != .done && decide (it.seq < s.clock.seq)) s.sched.items
  late.foldl (fun s i => bump (setItem s i { item s i with late := true }) Reg.TICK_LATE_COUNT) s

/-- SCHEDULE_BANK_SWAP (Table 1.4, R37, R513): at every edge the bank written becomes active and the window maps the one
retired; without an overlay accepted for this tick the standing schedule runs alone. -/
def bankSwap (s : State) : State :=
  setClock (setSched s { s.sched with active := s.sched.window, window := s.sched.active })
    { s.clock with bank := !s.clock.bank, standing := (s.sched.overlay.map (·.1)) != some s.clock.seq }

/-! ## t+1.0 µs of an epoch edge (R44, R515, R35) -/

/-- The epoch edge at t+1.0 µs: a pending step is committed to it or the record is latched, and a committed replacement of
the standing schedule takes effect. -/
def epochEdge (s : State) : State :=
  if !atEpochEdge s then s
  else
    let s1 := commitEdge s
    match s1.sched.standingNext with
    | some z => setSched s1 { s1.sched with standing := z, standingNext := none }
    | none => s1

/-! ## The admission gate: t+1.5 µs -/

/-- A lane of I-die 1's hub. -/
def onDie1 (lanes : List Nat) : Bool := lanes.any (fun l => decide (80 ≤ l))

/-- PARTITION_ACTIVATION (R131, R159, R518): the value of FENCE_PART_ACTIVE that this epoch edge applies. Under CHECK_LOST
nothing is activated (Table 5.2). The live requests of a partition that leaves end (R159). -/
def applyActivation (s : State) (t : Nat) : State :=
  if !atEpochEdge s then s
  else
    let now_ := rdF s Reg.FENCE_PART_ACTIVE 0 8
    let want := match s.fence.activeWrite with
      | some (old, q) => if q = s.clock.seq then old else now_
      | none => now_
    let on := indicesWhere 8 (fun p => bitAt want p && partDefined s p && (!s.sup.checkLost || partActive s p))
    let gone := indicesWhere 8 (fun p => partActive s p && !on.contains p)
    gone.foldl (fun s p => dropPartRequests s p t)
      { s with fence := { s.fence with inForce := sumNat (on.map (2 ^ ·)), activeWrite := none } }

/-- The cached entry at SQ index `i` of queue `q`, or the one the overlay of this tick has taken (true). -/
def gateSlot (s : State) (q i : Nat) : Option (CacheSlot × Bool) :=
  match (queue s q).cache.find? (fun c => c.index == i) with
  | some c => some (c, false)
  | none => match s.sched.overlay with
    | some (seq, l) => if seq = s.clock.seq then
        (l.findSome? (fun x => if x.it.src = q ∧ x.it.index = i then x.slot else none)).map (fun c => (c, true))
      else none
    | none => none

/-- The status other than OK with which an entry completes at this gate on its own account (R131, R168, R170, R317). -/
def gateFails (s : State) (q : Nat) (c : CacheSlot) (taken : Bool) : Option Status :=
  match c.fail with
  | some (st, _) => some st
  | none =>
    if taken then
      if !partActive s (q / 8) then some .keyReject
      else if !c.eligible s.clock.seq then some .notAdmitted
      else if s.bridge.isolated && onDie1 (lanesOf c.desc) then some .isolated else none
    else if c.desc.opcode != 8 && (decide (c.last < c.from_) || decide (c.last < s.clock.seq)) then some .notAdmitted
    else none

/-- The status that an entry of queue `q` inherits from its dependency (R169): the entry posted at that index, when it
completes at this gate, or the one most recently completed there. `n` bounds how many dependencies follow each other. -/
def inherits (s : State) : Nat → Nat → Desc → Option Status
  | 0, _, _ => none
  | n + 1, q, d =>
    let dq := q / 8 * 8 + d.depQueue
    if !d.depValid then none
    else if (queue s dq).posted.contains d.depIndex then
      match gateSlot s dq d.depIndex with
      | none => none
      | some (c, taken) =>
        match gateFails s dq c taken with
        | some st => inheritable st
        | none =>
          if taken || (c.desc.opcode != 8 && c.desc.opcode != 4 && c.eligible s.clock.seq) then inherits s n dq c.desc else none
    else (SMap.get? (queue s dq).done d.depIndex).bind inheritable

/-- The longest chain of dependencies that one gate can decide: every entry cached or taken. -/
def depChain : Nat := 1536

/-- An entry completes at the gate without having run: a collective of a DEFINED group that ends so, unless it ended well,
sends its withdraw notices (R232, R251). -/
def completeAtGate (s : State) (q i : Nat) (d : Desc) (st : Status) (detail : Nat) (inherited : Bool) (t : Nat) : State :=
  let s1 := completeEntry s q i d st detail false false inherited t
  let g := group s (collArgs d.ops).group
  if d.opcode = 3 ∧ g.defined = true ∧ (inheritable st).isSome then
    sendWithdraw s1 (collTag (d.lanes % 32) (collArgs d.ops).group s.clock.index (modId s)) g.treeId (groupMembers s g)
      (rankOn s g (d.lanes % 32))
  else s1

/-- An entry completes with the status of its dependency; its DETAIL is a free value, which the spec does not state. -/
def completeInherited (s : State) (q i : Nat) (d : Desc) (st : Status) (t : Nat) : State :=
  completeAtGate (drawn s) q i d st (Config.freeNat s.free % 2 ^ 32) true t

/-- One cached entry of queue `q` at the gate (R168, R170, Table 7.6, R379): failed, expired and NOP entries complete; a
PAUSE or RESUME is taken. DETAIL bit 8 marks a SUBMIT never admitted (Table 15.3). -/
def gateEntry (q t : Nat) (s : State) (c : CacheSlot) : State :=
  let seq := s.clock.seq
  let op := c.desc.opcode
  if !((queue s q).cache.any (fun z => z.index == c.index)) then s
  else match c.fail with
    | some (st, d) => completeAtGate s q c.index c.desc st d false t
    | none =>
      if op = 8 then s
      else if c.last < c.from_ ∨ c.last < seq then
        completeAtGate s q c.index c.desc .notAdmitted (c.eligibleTicks + (if op = 4 then 256 else 0)) false t
      else if !c.eligible seq || !(op == 0 || op == 4 || op == 6 || op == 7) then s
      else match inherits s depChain q c.desc with
        | some st => completeInherited s q c.index c.desc st t
        | none =>
          if op = 4 then s
          else if op = 0 then completeEntry s q c.index c.desc (qualifyTime s c.steps .ok) 0 false false false t
          else if op = 6 then takePause s q c t
          else takeResume s q c t

/-- BARRIERs complete when every earlier entry of their queue has completed (Table 7.6); `n` bounds how many follow each
other. -/
def gateBarriers (q t : Nat) (s : State) : Nat → State
  | 0 => s
  | n + 1 =>
    match (queue s q).cache with
    | c :: _ =>
      if c.desc.opcode = 8 ∧ c.fail = none ∧ (queue s q).posted.head? = some c.index then
        match inherits s depChain q c.desc with
        | some st => gateBarriers q t (completeInherited s q c.index c.desc st t) n
        | none => gateBarriers q t (completeEntry s q c.index c.desc (qualifyTime s c.steps .ok) 0 false false false t) n
      else s
    | [] => s

/-- A work item of the current tick handed to its lanes. -/
def addItem (s : State) (it : Item) : State :=
  setSched s { s.sched with
    items := SMap.put s.sched.items s.sched.nextItem { it with seq := s.clock.seq, tick := s.clock.index, ph := .waiting }
    nextItem := s.sched.nextItem + 1 }

/-- The Fence refuses an item of a partition that is not active (R131). -/
def refuseInactive (s : State) (p t : Nat) : State := fenceRefuse s .part p .supervisor 0x118000 t

/-- A taken entry released at the gate (R168, R169, R317): one of an inactive partition is refused, one taken for a tick
it may not enter is NOT_ADMITTED, one with a failed dependency inherits, one on an isolated stream is ISOLATED. -/
def releaseEntry (s : State) (it : OvlItem) (c : CacheSlot) (order t : Nat) : State :=
  let q := it.src
  let d := c.desc
  if !(queue s q).posted.contains c.index then s
  else if !partActive s (q / 8) then completeAtGate (refuseInactive s (q / 8) t) q c.index d .keyReject 0 false t
  else if !c.eligible s.clock.seq then completeAtGate s q c.index d .notAdmitted c.eligibleTicks false t
  else match inherits s depChain q d with
    | some st => completeInherited s q c.index d st t
    | none =>
      if s.bridge.isolated && onDie1 (lanesOf d) then completeAtGate s q c.index d .isolated 0 false t
      else addItem s { Item.zero with
        src := .entry q c.index, part := q / 8, queue := q, desc := d, lanes := lanesOf d, start := it.start,
        finish := it.finish, steps := c.steps, order := order }

/-- A step, chunk or summary of the overlay released to the lanes of its model (Table 20.7). -/
def releaseServe (s : State) (it : OvlItem) (order t : Nat) : State :=
  match model? s it.src with
  | none => s
  | some md =>
    if !partActive s md.part then refuseInactive s md.part t
    else
      let src := if it.kind = 2 then ItemSrc.step it.src it.index
        else if it.kind = 3 then ItemSrc.chunk it.src it.index it.tokens else ItemSrc.summary it.src it.index
      addItem s { Item.zero with
        src := src, part := md.part, queue := 8 * md.part, lanes := indicesWhere 64 (bitAt md.cores), start := it.start,
        finish := it.finish, steps := s.clock.steps, order := order }

/-- The accepted overlay of this tick, each item with its place (R514). -/
def overlayItems (s : State) : List (Taken × Nat) :=
  match s.sched.overlay with
  | some (q, l) => if q = s.clock.seq then l.zipIdx else []
  | none => []

/-- One posted entry of queue `q` at the gate: taken by the overlay, or cached. -/
def gatePosted (q t : Nat) (s : State) (i : Nat) : State :=
  match (overlayItems s).find? (fun e => e.1.it.src == q && e.1.it.index == i && e.1.slot.isSome) with
  | some (x, n) => match x.slot with
    | some c => releaseEntry s x.it c (4096 + n) t
    | none => s
  | none => match (queue s q).cache.find? (fun c => c.index == i) with
    | some c => gateEntry q t s c
    | none => s

/-- The steps, chunks and summaries of the accepted overlay released in item order, and the overlay done with (R514). -/
def releaseServes (s : State) (t : Nat) : State :=
  let l := (overlayItems s).filter (fun e => e.1.slot.isNone)
  let s1 := if (s.sched.overlay.map (·.1)) = some s.clock.seq then setSched s { s.sched with overlay := none } else s
  l.foldl (fun s e => releaseServe s e.1.it (4096 + e.2) t) s1

/-- The standing schedule that runs, each entry with its index, but for entries failed closed (R441): while ISOLATED, I-die 1
runs the one it holds (R316). -/
def standingInForce (s : State) : List (Standing × Nat) := (if s.bridge.isolated then
    s.sched.standing.zipIdx.filter (fun e => !onDie1 (lanesOf e.1.desc)) ++
      s.bridge.standing1.zipIdx.filter (fun e => onDie1 (lanesOf e.1.desc))
  else s.sched.standing.zipIdx).filter (fun e => !entryClosed s (4096 + e.2))

/-- The entries of a standing schedule that fall at this tick's epoch position, with their indices. -/
def standingHere (s : State) (l : List (Standing × Nat)) : List (Standing × Nat) :=
  l.filter (fun e => epochPos s s.clock.index % max e.1.period 1 == e.1.offset)

/-- The status that a standing entry inherits from the one its DEP names (R169): of the instance that falls in this tick
when it completes at this gate, of one that still runs none, of the one most recently completed otherwise. `n` bounds how
many dependencies follow each other. -/
def inheritsStanding (s : State) (here : List (Standing × Nat)) : Nat → Standing → Option Status
  | 0, _ => none
  | n + 1, z =>
    if !z.desc.depValid then none
    else match here.find? (fun e => e.2 == z.desc.depIndex) with
      | some (d, _) =>
        if !partActive s (d.queue / 8) then some .keyReject
        else inheritsStanding s here n d
      | none =>
        if s.sched.items.any (fun e => e.2.ph != .done && e.2.src == .standing z.desc.depIndex) then none
        else (SMap.get? s.sched.standingDone z.desc.depIndex).bind inheritable

/-- A standing entry completes at the gate: on an ISOLATED I-die it is counted and leaves no record (R316). -/
def gateStanding (s : State) (z : Standing) (n : Nat) (st : Status) (d : Nat) (inherited : Bool) (t : Nat) : State :=
  if s.bridge.isolated && onDie1 (lanesOf z.desc) then bump s Reg.LNK_ISO_ITEM_COUNT
  else completeStanding s z n st d false false inherited t

/-- The standing entries of this tick's epoch position released (R514, R190). One of an inactive partition is refused
(R131), one with a failed dependency inherits (R169), and a NOP or BARRIER completes here (Table 7.6; log entry 77). -/
def releaseStanding (s : State) (t : Nat) : State :=
  let here := standingHere s (standingInForce s)
  let fates := here.map (fun e => inheritsStanding s here (here.length + 1) e.1)
  (here.zip fates).foldl (fun s e' =>
    let e := e'.1
    let z := e.1
    if !partActive s (z.queue / 8) then
      gateStanding (refuseInactive s (z.queue / 8) t) z e.2 .keyReject 0 false t
    else match e'.2 with
    | some st => gateStanding (drawn s) z e.2 st (Config.freeNat s.free % 2 ^ 32) true t
    | none =>
    if z.desc.opcode = 0 ∨ z.desc.opcode = 8 then gateStanding s z e.2 .ok 0 false t
    else addItem s { Item.zero with
      src := .standing e.2, part := z.queue / 8, queue := z.queue, desc := z.desc, lanes := lanesOf z.desc, start := z.start,
      finish := plannedFinish z, runNext := z.runNext, reportOk := z.reportOk, steps := s.clock.steps, order := e.2 }) s

/-- ADMISSION_GATE (Table 7.11): shutdown points first; then the standing entries; then each queue's entries in ring order
(R178), those that complete here and those released; BARRIERs last. The Ledger takes its part (R413, R423). -/
def admissionGate (s : State) (t : Nat) : State :=
  let qs := List.range (numQueues s)
  let s1 := applyActivation s t
  let s2 := (qs.filter (fun q => (queue s1 q).stops)).foldl (fun s q => shutdownPoint s q t) s1
  let s3 := qs.foldl (fun s q => (queue s q).posted.foldl (gatePosted q t) s) (releaseStanding s2 t)
  let s4 := releaseServes s3 t
  let s5 := qs.foldl (fun s q => gateBarriers q t s 8) s4
  reapTransfers (gateLedger s5 t) t

/-! ## t+2.0 µs and t+3.0 µs -/

/-- Slot timers armed, routines entered (R265), and the Ledger's microstep counters at 0. -/
def armStreams (s : State) (t : Nat) : State :=
  let s1 := setLdg s { s.ledger with runs := SMap.mapV (fun _ r => { r with microstep := 0 }) s.ledger.runs }
  (List.range (numStreams s)).foldl (fun s i => enterLane s t i) s1

/-- TICK_INTERRUPT: to supervisor firmware; the moderated vectors of queues (R180) and the vectors of output rings
written since (Table 18.5). -/
def tickInterrupt (s : State) : State :=
  let s1 := emit { s with sup := { s.sup with irq := true } } .tickIrq
  let s2 := (indicesWhere (numQueues s) (fun q => (queue s q).irqPending)).foldl (fun s q =>
    signalVector (setQueue s q { queue s q with irqPending := false }) 0 (qVector s q)) s1
  let s3 := s2.ledger.wrote.foldl (fun s p => signalVector s 0 (rdF s (Reg.LDG_OUT_CFG p) 16 11)) s2
  setLdg s3 { s3.ledger with wrote := [] }

/-! ## The tick edge (R38) -/

/-- The edge sequence of Table 1.4 on a state whose clock stands at the new tick; `prev` is the tick index of the tick
that ended, of `prevLen` ns, with its index at its edge. -/
def edgeSequence (s : State) (readings : List Reading) (drawnUj prevLen : Nat) (prev : Option (Nat × Nat)) : State :=
  let s1 := strobe s readings drawnUj prevLen
  let s2 := match prev with
    | some k => sealSets s1 k.1 k.2
    | none => s1
  let s3 := epochEdge (bankSwap (markLate s2))
  tickInterrupt (armStreams (admissionGate s3 1500) 2000)

/-- The clock at the next tick (R21, R24, R26): the tick that ends has lasted its length and its slew (R68), and at an epoch
edge the new epoch has not begun with a step (R72). -/
def nextTick (s : State) : State :=
  let k := s.clock.index + 1
  let halves := ((2 * (s.clock.elapsed + s.clock.len) + s.clock.half : Nat) + s.tbu.tickSlew).toNat
  let s1 := setClock s { s.clock with
    seq := s.clock.seq + 1, index := k, edge := (k * tickNs s : Nat), elapsed := halves / 2, half := halves % 2
    len := tickNs s, slotOpen := false, setIndex := k, pulses := 0
    discont := s.clock.discont && k % epochLen s != 0 }
  setSched s1 { s.sched with items := s.sched.items.filter (fun e => e.2.ph != .done || e.2.seq == s.clock.seq) }

/-- TICK_EDGE (R38): `readings` are the sensors' reports (R531) and `drawnUj` the energy of the last interval of the tick
that ends. -/
def execTickEdge (readings : List Reading) (drawnUj : Nat) (s : State) : Host.Outcome State Fault Refusal :=
  if !s.clock.running then .next s
  else .next (edgeSequence (nextTick s) readings drawnUj s.clock.len (some (s.clock.index, s.clock.setIndex)))

/-- The clock at the first tick: the first grid point strictly after `from_` ns from reset release (R560). -/
def firstTick (s : State) (from_ : Nat) : State :=
  let ts := (s.clock.edge + from_).toNat
  let k := ts / tickNs s + 1
  let s1 := setClock s { s.clock with
    running := true, seq := 0, index := k, edge := (k * tickNs s : Nat), elapsed := from_ + (k * tickNs s - ts),
    len := tickNs s, firstFrom := none, setIndex := k }
  { s1 with fence := { s1.fence with
    inForce := sumNat ((indicesWhere 8 (fun p => wbit (rd s Reg.FENCE_PART_INIT) p && partDefined s p)).map (2 ^ ·)) } }

/-- The timescale was never traced: the first tick under FREEWHEEL_START makes the state UNTRACEABLE with its event
(Table 2.5). -/
def untracedStart (s : State) : State :=
  if s.tbu.quality = .untraceable ∧ s.tbu.everTraced = false then enterQuality s .untraceable 0 else s

/-- FIRST_TICK (R560, R109): the first tick runs the standing schedule alone, and SERVICEABLE is set at t+4.0 µs. -/
def execFirstTick (readings : List Reading) (s : State) : Host.Outcome State Fault Refusal :=
  match s.clock.running, s.clock.firstFrom with
  | false, some f =>
    let s1 := edgeSequence (untracedStart (firstTick s f)) readings 0 (tickNs s) none
    let s2 := wr s1 Reg.HST_BOOT_ELAPSED (sat32 (ceilDiv (s1.clock.elapsed + 4000) 1000))
    .next (setPhase (setBoot s2 { s2.boot with serviceable := true }) 8)
  | _, _ => .next s

/-! ## t+S_m -/

/-- TIME_STEP_APPLY (R44–R46, R70): the timescale is stepped; the tick ends at the first grid point g at or after E' + T,
takes index g / T − 1, and its record is latched now with the discontinuity flag. -/
def stepTick (s : State) (t : Nat) : State :=
  let r := applyStep s t
  let s1 := r.2
  let T : Int := tickNs s1
  let e := s1.clock.edge + r.1
  let g := (e + 2 * T - 1) / T
  let len := (g * T - e).toNat
  let s2 := setClock s1 { s1.clock with
    edge := e, index := (g - 1).toNat, len := len, stretch := len - tickNs s1, steps := s1.clock.steps + 1,
    stepCommitted := false }
  useDeferred (latchEpoch s2 true t) t

/-- MAINTENANCE_SLOT_OPEN (R28, R44, R203, R351): a committed step is applied; TICK_SCOPED and TILE flags are cleared with
no fault and no release; modules announced up are admitted. -/
def execMaintenanceSlotOpen (s : State) : Host.Outcome State Fault Refusal :=
  if !s.clock.running || s.clock.slotOpen then .next s
  else
    let t := slotStart s
    let s1 := if s.clock.stepCommitted then stepTick s t else s
    let s2 := setSync s1 { s1.sync with
      flags := s1.sync.flags.filter (fun f => !(flagUse s1 f == some 1 || flagUse s1 f == some 3)) }
    let s3 := admitModules s2
    .next (setClock s3 { s3.clock with slotOpen := true })

/-! ## t+G: the tick guard (R40–R42, R397) -/

/-- An item of the previous tick aborted by the tick guard. -/
def guardItem (t : Nat) (s : State) (i : Nat) : State := endWork s i [] none t

/-- The steps that R397 leaves out of this tick: they end without a record. -/
def skipSteps (s : State) : State :=
  let out : Item → Bool := fun it => match it.src with
    | .step m _ => it.ph == .waiting && it.seq == s.clock.seq && (run s m).skipSeq == some s.clock.seq
    | _ => false
  setSched s { s.sched with items := SMap.mapV (fun _ it => if out it then { it with ph := .done } else it) s.sched.items }

/-- The place of an item's record among those of its queue (R178): ring order of its entry. -/
def ringPlace (s : State) (i : Nat) : Nat :=
  match (item s i).src with
  | .entry q k => ((queue s q).posted.findIdx? (· == k)).getD 0
  | _ => 0

/-- GRACE_DEADLINE (R40): every item of the previous tick still there is aborted, the instances that follow periodic ones
without RUN_NEXT are skipped, and the lanes go on with this tick's work. -/
def execGraceDeadline (s : State) : Host.Outcome State Fault Refusal :=
  if !s.clock.running then .next s
  else
    let t := graceNs s
    let old := sortBy (fun i j => decide (ringPlace s i ≤ ringPlace s j))
      (SMap.keysWhere (fun _ (it : Item) => it.ph != .done && decide (it.seq < s.clock.seq)) s.sched.items)
    let s1 := skipSteps (old.foldl (guardItem t) s)
    .next ((List.range (numStreams s)).foldl (fun s i => enterLane s t i) s1)

/-! ## Starts and ends of items -/

/-- An item stands first on each of its lanes, and no lane is busy (R32). -/
def laneTurn (s : State) (i : Nat) : Bool :=
  !lanesBusy s (item s i) && (item s i).lanes.all (fun l => (laneQueue s l).head? == some i)

/-- ITEM_START (R32, R28): never before the planned start, later only behind the item before it on a lane. A
collective's stream then opens its slot, and a step takes its rows. -/
def execItemStart (i t : Nat) (s : State) : Host.Outcome State Fault Refusal :=
  let it := item s i
  let due := decide (it.seq < s.clock.seq) || (decide (it.start ≤ t) && decide (foreStart s ≤ t))
  if !itemLive s i || it.ph != .waiting || !due || !laneTurn s i then .next s
  else
    let s1 := setItem s i { it with ph := .running }
    match it.src with
    | .step m _ => .next (beginStep s1 i m t)
    | .chunk _ _ _ => .next s1
    | .summary _ _ => .next s1
    | _ => .next (if it.desc.opcode = 3 then beginArm s1 (it.desc.lanes % 32) t else s1)

/-- WORK_ITEM_COMPLETE (R178, R39, R41): a kernel or copy ends, its status is decided and its record written. One that
ends at its deadline is aborted instead. A copy ends once its reads are back, and a kernel not while a core of it stalls in
a flag wait (R198). -/
def execWorkItemComplete (i t : Nat) (s : State) : Host.Outcome State Fault Refusal :=
  let it := item s i
  let own := match it.src with
    | .entry _ _ => true
    | .standing _ => true
    | _ => false
  let ready := (it.desc.opcode == 1 && !it.lanes.any (coreWaits s)) || (it.desc.opcode == 2 && it.wrote && !itemReads s i)
  if !itemLive s i || it.ph != .running || !own || !ready then .next s
  else .next (finishItem s i [] none t)

/-! ## Overlays (R36, R37, R130, R141, R511–R513) -/

/-- Item `i` of the overlay window (Table 20.7). -/
def ovlItem (s : State) (i : Nat) : OvlItem :=
  let w := fun j => (SMap.get s.sched.window 0#32 (8 * i + j)).toNat
  { kind := bits (w 0) 0 8, src := bits (w 0) 8 8, index := bits (w 0) 16 16, start := w 1, finish := w 2, tokens := w 3,
    reservedOk := w 4 == 0 && w 5 == 0 && w 6 == 0 && w 7 == 0 }

/-- The cache slot an ENTRY item names: of a partition in force that owns the queue, checked and not taken. -/
def ovlEntry (s : State) (x : OvlItem) : Option CacheSlot :=
  if x.src < numQueues s ∧ x.index < 4096 ∧ queueOwned s x.src = true ∧ partActive s (x.src / 8) = true ∧ x.tokens = 0 then
    (queue s x.src).cache.find? (fun c => c.index == x.index && c.fail.isNone && !c.taken &&
      (c.desc.opcode == 1 || c.desc.opcode == 2 || c.desc.opcode == 3))
  else none

/-- A STEP, CHUNK or SUMMARY item names work of one active partition. -/
def ovlServeOk (s : State) (x : OvlItem) : Bool :=
  !g1 s && decide (x.src < 16) && (match model? s x.src with
    | none => false
    | some md => partActive s md.part &&
      (if x.kind = 2 then md.place != 2 && decide (x.index < md.steps) && x.tokens == 0
       else if x.kind = 3 then decide (x.index < 1024) && (slot s x.index).st == 1 && (slot s x.index).model == x.src
       else decide (x.index < 1024) && (slot s x.index).st == 3 && (slot s x.index).model == x.src && x.tokens == 0))

/-- An item passes the partition-crossing check (R130, R512); `before` are the items before it. -/
def ovlOk (s : State) (before : List OvlItem) (x : OvlItem) : Bool :=
  x.reservedOk && (if x.kind = 1 then
      (ovlEntry s x).isSome && !before.any (fun y => y.kind == 1 && y.src == x.src && y.index == x.index)
    else (x.kind == 2 || x.kind == 3 || x.kind == 4) && ovlServeOk s x)

/-- The times of an item keep R36. -/
def ovlTimeOk (s : State) (x : OvlItem) : Bool :=
  decide (foreStart s ≤ x.start) && decide (x.start ≤ x.finish) && decide (2 * x.finish + sigmaHalf s ≤ 2 * tickNs s)

/-- TICK_OVL_STATUS after a commit. -/
def ovlStatus (s : State) (item result : Nat) : State := setSched s { s.sched with ovlItem := item, ovlResult := result }

/-- The overlay of the next tick accepted: its entries are taken out of their caches (R174). -/
def acceptOverlay (s : State) (l : List OvlItem) (t : Nat) : State :=
  let taken := l.map (fun x => ({ it := x, slot := if x.kind = 1 then ovlEntry s x else none } : Taken))
  let s1 := setSched s { s.sched with overlay := some (s.clock.seq + 1, taken), ovlItem := 0, ovlResult := 1 }
  let s2 := (l.filter (fun x => x.kind == 1)).foldl (fun s x =>
    setQueue s x.src { queue s x.src with cache := (queue s x.src).cache.filter (fun c => c.index != x.index) }) s1
  ((l.filter (fun x => x.kind == 1)).map (·.src)).eraseDups.foldl (fun s q => startFetch s q t) s2

/-- The items of a commit checked: the Fence's check, then the times, then acceptance (Table 20.8a). -/
def checkOverlay (s : State) (n t : Nat) : State :=
  let l := (List.range n).map (ovlItem s)
  let bad := indicesWhere n (fun i => match l[i]? with
    | some x => !ovlOk s (l.take i) x
    | none => false)
  match bad with
  | i :: _ =>
    let x := ovlItem s i
    let p := if x.kind = 1 then x.src % 64 / 8 else match model? s x.src with
      | some md => md.part
      | none => 0
    ovlStatus (fenceRefuseN s .part bad.length p .supervisor (0x118000 + 32 * i) t) i 3
  | [] =>
    match indicesWhere n (fun i => !ovlTimeOk s (ovlItem s i)) with
    | i :: _ => ovlStatus (raise (bump s Reg.TICK_SCHED_REJECT_COUNT) Reg.TICK_EVENT 1 .serve false false t) i 4
    | [] => acceptOverlay s l t

/-- Overlays for the next tick are held after a supervisor-alone reset (R141). -/
def overlayHeldFor (s : State) : Bool :=
  s.sup.overlayHeld && !(s.sup.readySince && epochPos s (s.clock.index + 1) == 0)

/-- OVERLAY_COMMIT (R511): classified in the order of Table 20.8a. -/
def execOverlayCommit (t : Nat) (s : State) : Host.Outcome State Fault Refusal :=
  let target := (rd s Reg.TICK_OVL_TARGET_LO).toNat + (rd s Reg.TICK_OVL_TARGET_HI).toNat * 2 ^ 32
  let n := rdF s Reg.TICK_OVL_COUNT 0 11
  if !s.clock.running || target != s.clock.index + 1 then .next (ovlStatus s 0 6)
  else if (s.sched.overlay.map (·.1)) = some (s.clock.seq + 1) then .next (ovlStatus s 0 7)
  else if overlayHeldFor s then .next (ovlStatus (bump s Reg.SUP_OVERLAY_HELD_COUNT) 0 5)
  else if s.clock.len < t + 25000 then
    .next (ovlStatus (raise (bump s Reg.TICK_SCHED_LATE_COUNT) Reg.TICK_EVENT 0 .serve false false t) 0 2)
  else if 0x400 < n then .next (ovlStatus (fenceRefuse s .part 0 .supervisor 0x118000 t) 0x7FF 3)
  else .next (checkOverlay s n t)

end Sys2Proof.Machine
end

