-- ==== Sys2Proof/Machine/Clears.lean ====
section
/-! DEFINITION. The clears: the COUNT_CLR bits that zero the saturating counters of a block (R508, R522), and the bits that
clear its logs (chapters 1, 2, 5, 6, 7 to 18, 20 and 21). A block that the build lacks takes no write (R87). -/

namespace Sys2Proof.Machine

/-- `n` registers in a row from an offset. -/
def regSpan (off n : Nat) : List Nat := (List.range n).map (fun i => off + 4 * i)

/-- A register lies at an offset of BAR0 on this build and strap. -/
def present (s : State) (off : Nat) : Bool := (regRow s off).isSome

/-- The register lies on I-die 1: its hub block, the registers of ports 8 to 15 and its timers. -/
def onIdie1 (off : Nat) : Bool :=
  within off 0x500000 0x600000 || within off (Reg.LNK_PORT_STATUS 8) (Reg.LNK_PORT_STATUS 16) ||
    within off (Reg.BKG_TIMER_COMPARE 16) (Reg.BKG_TIMER_COMPARE 32)

/-- The register takes writes: while ISOLATED, I-die 1 takes none from I-die 0 (R316). -/
def takesWrite (s : State) (off : Nat) : Bool := present s off && !(s.bridge.isolated && onIdie1 off)

/-- TICK_COUNT_CLR (R51, Table 1.9): the five TICK counters. -/
def execTickCountClr (s : State) : Host.Outcome State Fault Refusal :=
  if takesWrite s Reg.TICK_CTRL then .next (zeroRegs s (regSpan Reg.TICK_LATE_COUNT 5)) else .next s

/-- TBU_COUNT_CLR (R79, Table 2.12): both TBU counters. -/
def execTbuCountClr (s : State) : Host.Outcome State Fault Refusal :=
  if takesWrite s Reg.TBU_CTRL then .next (zeroRegs s (regSpan Reg.TBU_BOUND_EXCEED_COUNT 2)) else .next s

/-- SUP_COUNT_CLR (R145, Table 5.8): the four SUP counters. -/
def execSupCountClr (s : State) : Host.Outcome State Fault Refusal :=
  if takesWrite s Reg.SUP_CTRL then .next (zeroRegs s (regSpan Reg.SUP_RESET_COUNT 4)) else .next s

/-- FENCE_COUNT_CLR (R145, Table 5.9): the six Fence counters. -/
def execFenceCountClr (s : State) : Host.Outcome State Fault Refusal :=
  if takesWrite s Reg.FENCE_CTRL then .next (zeroRegs s (regSpan Reg.FENCE_COUNT_PART 6)) else .next s

/-- FENCE_VLOG_CLR (R129, Table 5.9): both log registers and VLOG_OVF. -/
def execFenceVlogClr (s : State) : Host.Outcome State Fault Refusal :=
  let s1 := zeroRegs s [Reg.FENCE_VLOG_0, Reg.FENCE_VLOG_1]
  .next { s1 with fence := { s1.fence with vlogValid := false, vlogOvf := false } }

/-- PART_COUNT_CLR (R163, Table 6.7): the counters of 0x080 to 0x0CC. -/
def execPartCountClr (s : State) : Host.Outcome State Fault Refusal :=
  if takesWrite s Reg.PART_CTRL then .next (zeroRegs s (regSpan (Reg.PART_REJECT_PORT_COUNT 0) 20)) else .next s

/-- PART_LOG_CLR (R160, Table 6.7): both log registers and LOG_OVF. -/
def execPartLogClr (s : State) : Host.Outcome State Fault Refusal :=
  let s1 := zeroRegs s [Reg.PART_REJECT_LOG_0, Reg.PART_REJECT_LOG_1]
  .next { s1 with part := { s1.part with logOvf := false } }

/-- WQ_COUNT_CLR (R193, Table 7.13): the seven counters of 0x010 to 0x028. -/
def execWqCountClr (s : State) : Host.Outcome State Fault Refusal :=
  if takesWrite s Reg.WQ_CTRL then .next (zeroRegs s (regSpan Reg.WQ_LATE_CPL_COUNT 7)) else .next s

/-- SYNC_COUNT_CLR (R211, Table 8.7): the three SYNC counters; the spin registers stay. -/
def execSyncCountClr (s : State) : Host.Outcome State Fault Refusal :=
  if takesWrite s Reg.SYNC_CTRL then .next (zeroRegs s (regSpan Reg.SYNC_OVERFLOW_COUNT 3)) else .next s

/-- SYNC_FAULT_LOG_CLR (R205, Table 8.7): SYNC_FAULT_LOG and LOG_OVF. -/
def execSyncFaultLogClr (s : State) : Host.Outcome State Fault Refusal :=
  let s1 := zeroRegs s [Reg.SYNC_FAULT_LOG]
  .next { s1 with sync := { s1.sync with logOvf := false } }

/-- SYNC_AUDIT_WRAP_CLR (R209, Table 8.7): AUDIT_WRAP alone. -/
def execSyncAuditWrapClr (s : State) : Host.Outcome State Fault Refusal :=
  .next { s with sync := { s.sync with auditWrap := false } }

/-- HUB_COLL_COUNT_CLR (R243, Table 9.12): the five collective counters. -/
def execHubCollCountClr (s : State) : Host.Outcome State Fault Refusal :=
  if takesWrite s Reg.HUB_COLL_CTRL then .next (zeroRegs s (regSpan Reg.HUB_MEMBER_MISSING_COUNT 5)) else .next s

/-- HUB_COLL_LOG_CLR (R240, Table 9.12): both log registers and LOG_OVF. -/
def execHubCollLogClr (s : State) : Host.Outcome State Fault Refusal :=
  let s1 := zeroRegs s [Reg.HUB_COLL_LOG_0, Reg.HUB_COLL_LOG_1]
  .next { s1 with hubs := { s1.hubs with collOvf := false, collLogAt := none } }

/-- HUB_COUNT_CLR (R264, Table 10.9) of hub `h`: its SRAM and credit counters. -/
def execHubCountClr (h : Nat) (s : State) : Host.Outcome State Fault Refusal :=
  if h < 2 ∧ takesWrite s (Reg.HUB_CTRL h) = true then .next (zeroRegs s (regSpan (Reg.HUB_SRAM_CE_COUNT h) 3)) else .next s

/-- SPK_COUNT_CLR (R294, Table 11.13) of hub `h`: its control-store counters and every restart and lock-step-miss
counter. -/
def execSpkCountClr (h : Nat) (s : State) : Host.Outcome State Fault Refusal :=
  if h < 2 ∧ takesWrite s (Reg.SPK_CTRL h) = true then
    .next (zeroRegs s (regSpan (Reg.SPK_CS_CE_COUNT h) 4 ++
      (List.range 16).flatMap (fun i => [Reg.SPK_RESTART_COUNT h i, Reg.SPK_LS_MISS_COUNT h i])))
  else .next s

/-- SPK_LOG_CLR (R285, Table 11.13) of hub `h`: SPK_ILLEGAL_LOG. -/
def execSpkLogClr (h : Nat) (s : State) : Host.Outcome State Fault Refusal :=
  if h < 2 ∧ takesWrite s (Reg.SPK_LOG_CLR h) = true then .next (zeroRegs s [Reg.SPK_ILLEGAL_LOG h]) else .next s

/-- LNK_COUNT_CLR (R320, chapter 21): the global LNK counters and those of every port; an
ISOLATED I-die takes no write from I-die 0 (R316). -/
def execLnkCountClr (s : State) : Host.Outcome State Fault Refusal :=
  .next (zeroRegs s (regSpan Reg.LNK_CONSEQ_COUNT 4 ++ regSpan Reg.LNK_BRIDGE_FAULT_COUNT 2 ++
    ((List.range 16).filter (fun n => !(s.bridge.isolated && decide (8 ≤ n)))).flatMap (fun n =>
      regSpan (Reg.LNK_CRC_ERR_COUNT n) 6)))

/-- LNK_LOG_CLR (R310, Table 12.9): both fault log registers. -/
def execLnkLogClr (s : State) : Host.Outcome State Fault Refusal :=
  .next (zeroRegs s [Reg.LNK_FAULT_LOG_0, Reg.LNK_FAULT_LOG_1])

/-- FAB_COUNT_CLR (R355, Table 13.8): the eight FAB counters. -/
def execFabCountClr (s : State) : Host.Outcome State Fault Refusal :=
  if takesWrite s Reg.FAB_CTRL then .next (zeroRegs s (regSpan Reg.FAB_TTL_DROP_COUNT 8)) else .next s

/-- TLY_COUNT_CLR (R372, Table 14.8): the twenty TLY counters. -/
def execTlyCountClr (s : State) : Host.Outcome State Fault Refusal :=
  if takesWrite s Reg.TLY_CTRL then .next (zeroRegs s (regSpan Reg.TLY_RX_0_COUNT 20)) else .next s

/-- LDG_COUNT_CLR (R406, Table 15.11): the eight LDG counters. -/
def execLdgCountClr (s : State) : Host.Outcome State Fault Refusal :=
  if takesWrite s Reg.LDG_CTRL then .next (zeroRegs s (regSpan Reg.LDG_ADMIT_COUNT 8)) else .next s

/-- MSK_COUNT_CLR (R434, Table 16.11): the eight MSK counters. -/
def execMskCountClr (s : State) : Host.Outcome State Fault Refusal :=
  if takesWrite s Reg.MSK_CTRL then .next (zeroRegs s (regSpan Reg.MSK_HOST_LATE_COUNT 8)) else .next s

/-- BKG_COUNT_CLR (R455, Table 17.7): the twelve BKG counters. -/
def execBkgCountClr (s : State) : Host.Outcome State Fault Refusal :=
  if takesWrite s Reg.BKG_CTRL then .next (zeroRegs s (regSpan Reg.BKG_HBM_CE_COUNT 12)) else .next s

/-- BKG_LOG_CLR (R439, Table 17.7): both uncorrectable-error logs. -/
def execBkgLogClr (s : State) : Host.Outcome State Fault Refusal :=
  .next (zeroRegs s [Reg.BKG_HBM_UE_LOG_LO, Reg.BKG_HBM_UE_LOG_HI, Reg.BKG_CSRAM_UE_LOG])

/-- HST_COUNT_CLR (R487, Table 18.10): the three HST counters; the boot counters stay (R118). -/
def execHstCountClr (s : State) : Host.Outcome State Fault Refusal :=
  if takesWrite s Reg.HST_CTRL then .next (zeroRegs s (regSpan Reg.HST_BAD_ACCESS_COUNT 3)) else .next s

/-- PWR_COUNT_CLR (R532, Table 21.12): the three PWR counters. -/
def execPwrCountClr (s : State) : Host.Outcome State Fault Refusal :=
  if takesWrite s Reg.PWR_CTRL then .next (zeroRegs s (regSpan Reg.PWR_LIMIT_TICK_COUNT 3)) else .next s

end Sys2Proof.Machine
end

