-- ==== Sys2Proof/Machine/CollRun.lean ====
section
/-! DEFINITION. The collective operations of Table 9.2 (chapter 9), each with its data phase run whole on this member. -/

namespace Sys2Proof.Machine

/-! ## Results, computed whole (R212, R222, R223, R228, R238) -/

/-- The contribution of one rank to a reduction: accumulators of its source, identity where its MSUM mask bit is clear,
beyond its count, or when it does not contribute. -/
def contribution (o : CollOp) (src : Option (List Byte)) (cnt len : Nat) : List Nat :=
  let idn := identity o.fmt o.redFn
  match src with
  | none => List.replicate len idn
  | some bs =>
    let e := fmtBytes o.fmt
    let maskOff := ceilDiv (cnt * e) 64 * 64
    (List.range len).map (fun i =>
      if i ≥ cnt then idn
      else if o.redFn = 6 ∧ bitAt (leAt bs (maskOff + i / 8) 1) (i % 8) = false then idn
      else toAcc o.fmt (leAt bs (i * e) e))

/-- The reduction of the elements of every rank, in the order of R223 or R244. -/
def reduceRanks (pair : Bool) (o : CollOp) (vs : List (List Nat)) (len : Nat) : List Nat :=
  (List.range len).map (fun i => reduceInOrder pair o.fmt o.redFn (vs.map (fun v => v.getD i 0)))

/-- A reduced element list as destination bytes. -/
def resultBytes (o : CollOp) (vs : List Nat) : List Byte :=
  vs.flatMap (fun v => leBytes (outBytes o.fmt (bitAt o.cflags 0)) (fromAcc o.fmt (bitAt o.cflags 0) v))

/-- The source bytes of a rank that takes part: this member's from its memory or its tiles, another's as they came. -/
def rankSource (s : State) (o : CollOp) (others : List (Nat × List Byte)) (r n : Nat) : Option (List Byte) :=
  if !o.has r then none
  else if o.rank == some r then some (ownRaw s o 0 n)
  else some (slice ((SMap.get? others r).getD []) 0 n)

/-- Bytes of a slot or block: what came, or the poison pattern (R238). -/
def orPoison (bs : Option (List Byte)) (n : Nat) : List Byte := bs.getD (List.replicate n 0xFF#8)

/-- What this member writes: bytes at offsets of its destination. `others` holds what came from the other ranks. -/
def collWrites (s : State) (o : CollOp) (others : List (Nat × List Byte)) : List (Nat × List Byte) :=
  let n := o.members.length
  let e := fmtBytes o.fmt
  let me := o.rank.getD 255
  let base := if o.dyn then 128 else 0
  let head := if o.dyn then [(0, countHeader o)] else []
  let reduced := fun (_ : Unit) =>
    reduceRanks (g1 s) o ((List.range n).map (fun r =>
      contribution o (rankSource s o others r (sourceBytes o (o.cntOf r))) (o.cntOf r) o.most)) o.most
  let slotOff := fun r => if o.dyn then base + e * sumNat ((List.range r).map o.cntOf) else r * o.count * e
  let slots := (List.range n).map (fun r =>
    (slotOff r, orPoison (rankSource s o others r (o.cntOf r * e)) (o.cntOf r * e)))
  if o.coll = 0 then head ++ [(base, resultBytes o (reduced ()))]
  else if o.coll = 1 then head ++ [(base, resultBytes o (reduced ()))]
  else if o.coll = 2 then
    let sh := ceilDiv o.count n
    [(0, resultBytes o (((reduced ()).drop (me * sh)).take sh))]
  else if o.coll = 3 ∨ o.coll = 4 then head ++ slots
  else if o.coll = 5 then
    [(0, if me = o.peer then readSource s o (me * o.count * e) (o.count * e)
      else orPoison (rankSource s o others o.peer (o.count * e)) (o.count * e))]
  else if o.coll = 6 then
    (if me = o.peer ∧ o.dst = 0 then []
      else [(0, orPoison (rankSource s o others o.peer (o.count * e)) (o.count * e))])
  else if o.coll = 7 then
    head ++ (List.range n).map (fun r =>
      (slotOff r, if o.rank == some r then readSource s o (partOffset o me) (o.cntOf r * e)
        else orPoison (rankSource s o others r (o.cntOf r * e)) (o.cntOf r * e)))
  else if o.coll = 9 then
    head ++ (match rankSource s o others o.peer (o.cntOf o.peer * e) with
      | some bs => [(base, bs)]
      | none => [])
  else []

/-- The bytes of its own source that this member reads as a whole (0 where Table 9.2 gives it none). -/
def ownSpan (o : CollOp) : Nat :=
  let e := fmtBytes o.fmt
  let me := o.rank.getD 255
  if o.rank.isNone then 0
  else if o.coll = 5 then (if me = o.peer then o.members.length * o.count * e else 0)
  else if o.coll = 6 ∨ o.coll = 10 then (if me = o.peer then o.count * e else 0)
  else if o.coll = 7 then partOffset o o.members.length
  else if o.coll = 9 then 0
  else sourceBytes o o.count

/-! ## What this member sends -/

/-- The bytes of its source that this member sends to rank `r`: a root's slot or whole source, a block, or the source of a
SEND (Table 9.2). -/
def partFor (s : State) (o : CollOp) (r : Nat) : List Byte :=
  let e := fmtBytes o.fmt
  if o.coll = 5 ∨ o.coll = 7 then readSource s o (partOffset o r) (o.cntTo r * e) else ownRaw s o 0 (o.cntTo r * e)

/-- The ranks to which this member sends of its source: every other of a SCATTER, BROADCAST or ALL_TO_ALL, the peer of a
SEND. -/
def partRanks (o : CollOp) : List Nat :=
  let others := (List.range o.members.length).filter (fun r => some r != o.rank)
  if o.coll = 7 then others
  else if (o.coll = 5 ∨ o.coll = 6) ∧ o.rank = some o.peer then others
  else if o.coll = 8 then [o.peer] else []

/-- Segment `j` of bytes cut by the operation's segment size. -/
def segBytes (o : CollOp) (j : Nat) (bs : List Byte) : List Byte := (bs.drop (j * o.sGran * 4096)).take (o.sGran * 4096)

/-- The source of this member sent: its parts to the ranks they are for, and as a member that only sends and receives its
contribution to a reduction or gather up the tree (Tables 9.2 and 10.3). Combining hubs send by their routines. -/
def sendParts (s : State) (stream : Nat) (o : CollOp) (t : Nat) : State :=
  let segs := List.range o.segs
  let s1 := (partRanks o).foldl (fun s r =>
    let bs := partFor s o r
    segs.foldl (fun s j =>
      if (segBytes o j bs).isEmpty then s
      else sendSegment s stream (o.members.getD r 0, stream / 16) j o false (segBytes o j bs) t) s) s
  match opParent s o stream with
  | some d =>
    if o.coll ≤ 4 ∧ o.role = 1 then
      segs.foldl (fun s j => sendSegment s stream d j o false
        (upBytes o { seg := j, full := true, out := false, elems := ownElems s o j }) t) s1
    else s1
  | none => s1

/-! ## The data phase run whole -/

/-- The next tile of a STREAMED source taken (R230): its flag is cleared and its bytes are read from core SRAM. -/
def takeTile (s : State) (stream : Nat) (o : CollOp) : State :=
  let f := o.tileFlag + o.tiles % max o.tileK 1
  let off := o.tiles * o.tileLen
  let bs := readSource s o off (min o.tileLen (o.count * fmtBytes o.fmt - off))
  updOp (applyClear s f) stream (fun o => { o with tiles := o.tiles + 1, ownRead := o.ownRead ++ bs })

/-- The results of a collective written: this member's source is checked and read, the ranks' contributions combined or
gathered, and the results written (R212). A contribution of a member that is missing is late (R234). -/
def finishRun (s : State) (i stream : Nat) (o0 : CollOp) (others : List (Nat × List Byte)) (t : Nat) : State :=
  let it := item s i
  let late := others.filter (fun e => e.1 < o0.members.length && !o0.has e.1)
  let o := { o0 with blocks := (others.filter (fun e => o0.has e.1)).foldl (fun b e => b ||| 2 ^ (e.1 % 32)) o0.blocks }
  let s0 := late.foldl (fun s _ => lateContribution s t) (updOp s stream (fun x => { x with blocks := o.blocks }))
  let span := ownSpan o
  if o.rank.isNone then s0
  else if span ≠ 0 ∧ bitAt o.cflags 3 = false ∧ windowOk s it.part false false o.src span = false then
    finishItem (fenceRefuse s0 .window it.part .pf0 o.src t) i [(.windowViolation, 0)] none t
  else if span ≠ 0 ∧ o.streamed = false ∧ sourcePoisoned s o 0 span = true then finishItem s0 i [(.poisoned, 5)] none t
  else
    let s1 := sendParts s0 stream o t
    let ws := if o.receives then collWrites s o others else []
    let r := ws.foldl (fun (a : State × Bool) w =>
      if a.2 then writeResult a.1 stream it.part (o.dst + w.1) w.2 t else a) (s1, true)
    let s2 := setItem r.1 i { item r.1 i with wrote := (item r.1 i).wrote || (r.2 && !ws.isEmpty) }
    if r.2 then updOp s2 stream (fun o => { o with written := o.segs })
    else finishItem s2 i [(.windowViolation, 8)] none t

/-- A collective's data phase run whole, for a member or node. Of a STREAMED source each run takes the next tile whose flag
reads 1, and the last one completes the data phase (R230). `others` are the contributions of the other ranks as they came
over the fabric. A node reads and writes nothing. -/
def runCollective (s : State) (code i : Nat) (others : List (Nat × List Byte)) (t : Nat) : State :=
  let it := item s i
  let stream := it.desc.lanes % 32
  match spoke? s stream with
  | none => s
  | some p =>
    let o := p.op
    if o.item ≠ i ∨ o.coll ≠ code ∨ o.stage ≠ 3 ∨ it.ph ≠ .running then s
    else if o.streamed && o.rank.isSome && decide (o.tiles < o.tileCount) then
      let f := o.tileFlag + o.tiles % max o.tileK 1
      if !(flagOn s f && flagCheck s (64 + stream) f) then s
      else if sourcePoisoned s o (o.tiles * o.tileLen) o.tileLen then finishItem s i [(.poisoned, 5)] none t
      else
        let s1 := takeTile s stream o
        match spoke? s1 stream with
        | some q => if q.op.tileCount ≤ q.op.tiles then finishRun s1 i stream q.op others t else s1
        | none => s1
    else finishRun s i stream o others t

/-- ALL_REDUCE (R212). -/
def execAllReduce (i : Nat) (others : List (Nat × List Byte)) (t : Nat) (s : State) :
    Host.Outcome State Fault Refusal := .next (runCollective s 0 i others t)
/-- REDUCE (R212). -/
def execReduce (i : Nat) (others : List (Nat × List Byte)) (t : Nat) (s : State) :
    Host.Outcome State Fault Refusal := .next (runCollective s 1 i others t)
/-- REDUCE_SCATTER (R212). -/
def execReduceScatter (i : Nat) (others : List (Nat × List Byte)) (t : Nat) (s : State) :
    Host.Outcome State Fault Refusal := .next (runCollective s 2 i others t)
/-- ALL_GATHER (R212). -/
def execAllGather (i : Nat) (others : List (Nat × List Byte)) (t : Nat) (s : State) :
    Host.Outcome State Fault Refusal := .next (runCollective s 3 i others t)
/-- GATHER (R212). -/
def execGather (i : Nat) (others : List (Nat × List Byte)) (t : Nat) (s : State) :
    Host.Outcome State Fault Refusal := .next (runCollective s 4 i others t)
/-- SCATTER (R212): the root sends slot j of its source to rank j. -/
def execScatter (i : Nat) (others : List (Nat × List Byte)) (t : Nat) (s : State) :
    Host.Outcome State Fault Refusal := .next (runCollective s 5 i others t)
/-- BROADCAST (R212). -/
def execBroadcast (i : Nat) (others : List (Nat × List Byte)) (t : Nat) (s : State) :
    Host.Outcome State Fault Refusal := .next (runCollective s 6 i others t)
/-- ALL_TO_ALL (R212): block j of the source goes to rank j. -/
def execAllToAll (i : Nat) (others : List (Nat × List Byte)) (t : Nat) (s : State) :
    Host.Outcome State Fault Refusal := .next (runCollective s 7 i others t)
/-- SEND (R213): the source goes to the peer, and nothing is written on the sender. -/
def execSend (i : Nat) (t : Nat) (s : State) : Host.Outcome State Fault Refusal := .next (runCollective s 8 i [] t)
/-- RECV (R213). -/
def execRecv (i : Nat) (others : List (Nat × List Byte)) (t : Nat) (s : State) :
    Host.Outcome State Fault Refusal := .next (runCollective s 9 i others t)

/-- STREAM (R231): chunk `c` of a STREAM, taken in ascending order. The root reads it and sends it to every member; a
non-root member writes it and its spoke then SETs the chunk's flag, which may overflow (R205). -/
def execStream (i c : Nat) (data : List Byte) (t : Nat) (s : State) : Host.Outcome State Fault Refusal :=
  let it := item s i
  let stream := it.desc.lanes % 32
  match spoke? s stream with
  | none => .next s
  | some p =>
    let o := p.op
    let total := o.count * fmtBytes o.fmt
    let off := c * o.tileLen
    let len := min o.tileLen (total - off)
    let next := updOp s stream (fun o => { o with tiles := o.tiles + 1 })
    if o.item ≠ i ∨ o.coll ≠ 10 ∨ o.stage ≠ 3 ∨ it.ph ≠ .running ∨ len = 0 ∨ o.rank.isNone ∨ c ≠ o.tiles then .next s
    else if o.rank = some o.peer then
      if windowOk s it.part false false (o.src + off) len = false then
        .next (finishItem (fenceRefuse s .window it.part .pf0 o.src t) i [(.windowViolation, 0)] none t)
      else if memPoisoned s (o.src + off) len then .next (finishItem s i [(.poisoned, 5)] none t)
      else
        .next ((o.members.filter (· != modId s)).foldl (fun s m =>
          (List.range (ceilDiv len 4064)).foldl (fun s k =>
            sendColl s stream o 1 (m, stream / 16) (o.tag s stream) (off + k * 4064)
              (.segment (o.tag s stream) c false o.memb)
              (memRead s (o.src + off + k * 4064) (min 4064 (len - k * 4064))) t) s) next)
    else if !o.has o.peer then .next (lateContribution s t)
    else
      let r := writeResult next stream it.part (o.dst + off) (slice data 0 len) t
      if r.2 then
        .next (doSet (setItem r.1 i { item r.1 i with wrote := true }) (64 + stream) (o.tileFlag + c % max o.tileK 1) t)
      else .next (finishItem r.1 i [(.windowViolation, 8)] none t)

end Sys2Proof.Machine
end

