-- ==== Sys2Proof/Machine/Management.lean ====
section
/-! DEFINITION. The PCIe functions, MCTP, PLDM, SPDM and the log window (chapter 18, R523, R545). -/

namespace Sys2Proof.Machine

/-- The host interface replaced. -/
def setHost (s : State) (h : HostIf) : State := { s with host := h }

/-- A management answer. -/
def reply (s : State) (kind : String) (code : Nat) (data : List Byte) : State := emit s (.reply kind code data)

/-! ## Resets of the functions (R465, R466, R523) -/

/-- The MSI-X table of a function back at its reset state: every vector masked, nothing pending. -/
def resetMsix (s : State) (fn : Nat) : State :=
  { s with
    msixUnmasked := s.msixUnmasked.filter (fun v => v / 4096 != fn)
    msixPending := s.msixPending.filter (fun v => v / 4096 != fn)
    msixTable := s.msixTable.filter (fun e => e.1 / 65536 != fn) }

/-- Every live Ledger request ends as with ABORTED, without a record (R465). -/
def flrRequests (s : State) (t : Nat) : State :=
  (liveSlots s).foldl (fun s k =>
    let x := slot s k
    let s1 := setSlot s k { x with queue := 64, pause := none, resume := none }
    if x.st = 1 ∨ x.st = 2 ∨ x.st = 7 then endSoon s1 k .aborted 0 t else endRequest s1 k .aborted 0 t) s

/-- A queue back in its reset state, its work stopped, without ABORTED records (R465). -/
def flrQueue (s : State) (q t : Nat) : State :=
  zeroRegs (setQueue (stopQueueWork s q t) q Queue.init) (queueRegs q)

/-- The output and forward rings after an FLR of PF0 (R523). -/
def flrRings (s : State) : State :=
  let s1 := (List.range 8).foldl (fun s p => wr s (Reg.LDG_OUT_CFG p) (putBitW (rd s (Reg.LDG_OUT_CFG p)) 4 false)) s
  let s2 := zeroRegs s1 ((List.range 8).flatMap (fun p => [Reg.LDG_OUT_HEAD p, Reg.LDG_OUT_TAIL p]) ++
    (List.range 2).flatMap (fun n => [Reg.TLY_FWD_HEAD n, Reg.TLY_FWD_TAIL n]))
  { s2 with
    ledger := { s2.ledger with outUsed := [] }
    tally := { s2.tally with fwdUsed := [], fwdOff := [0, 1] } }

/-- What an FLR of PF0 does (R465, R523): no access to host memory from here on, queues at reset, requests ended, rings
disabled, reads dropped, MSI-X and the log window at reset. -/
def flrPf0 (s : State) (t : Nat) : State :=
  let s1 := setHost { s with heldWrites := [] } { s.host with pf0Off := true, logBusy := none }
  let s1 := flrRequests s1 t
  let s1 := stopItems s1 ((List.range (numQueues s)).flatMap (itemsOfQueue s1)) t
  let s2 := (List.range (numQueues s)).foldl (fun s q => flrQueue s q t) s1
  let s3 := abandonReads s2 (fun _ => true)
  resetMsix (flrRings (zeroRegs s3 [Reg.HST_LOG_ADDR, Reg.HST_LOG_STATUS])) 0

/-- FLR_PF0 (R465). -/
def execFlrPf0 (t : Nat) (s : State) : Host.Outcome State Fault Refusal := .next (flrPf0 s t)

/-- FLR_PF1 (R466): only PF1's configuration state, its MSI-X table here; MCTP reassembly holds no state of its own
(log entry 11). -/
def execFlrPf1 (s : State) : Host.Outcome State Fault Refusal := .next (resetMsix s 1)

/-! ## The link (R456, R464, R487, R545) -/

/-- PCIE_DOWN raised. -/
def pcieDown (s : State) (t : Nat) : State := raise s Reg.HST_EVENT 2 .check true false t

/-- PERST_N_ASSERT (R545, Table 22.4): both functions reset, the link down, IDE keys and ATS cache cleared. -/
def execPerstNAssert (t : Nat) (s : State) : Host.Outcome State Fault Refusal :=
  if s.host.perstLow then .next s
  else
    let s1 := resetMsix (flrPf0 s t) 1
    let s2 := setHost s1 { s1.host with
      perstLow := true, cfgReady := false, ats := [], atsInv := [], ideInsecure := false, ideKeySet := 0 }
    .next (pcieDown (wr s2 Reg.HST_PCIE_STATUS 0#32) t)

/-- PERST_N_DEASSERT (R545): the link may train again. -/
def execPerstNDeassert (s : State) : Host.Outcome State Fault Refusal :=
  .next (setHost s { s.host with perstLow := false })

/-- PCIE_LINK_UP (R456): the link trains at `rate` (1 to 6) and `width` lanes, in Flit Mode where both ends support it
(`flit`) and always at 64 GT/s, and configuration space is ready (R457); `ats` is the ATS enable that the host's configuration set (log entry 12). -/
def execPcieLinkUp (rate width : Nat) (flit ats : Bool) (s : State) : Host.Outcome State Fault Refusal :=
  if s.host.perstLow || rate == 0 || decide (6 < rate) || !([1, 2, 4, 8, 16].contains width) then .next s
  else
    let v := rate + width * 8 + b2n (flit || rate == 6) * 256 + b2n ats * 1024 + 2048
    .next (issueWaiting (wr (setHost s { s.host with cfgReady := true }) Reg.HST_PCIE_STATUS (BitVec.ofNat 32 v)))

/-- How the device answers a configuration request (R457): with Request Retry Status until configuration space is ready.
No row of the table sends one (log entry 79). -/
def configRetry (s : State) : Bool := !s.host.cfgReady

/-- PCIE_LINK_DOWN (R487): the link drops without PERST_N. Reads in flight end by completion timeout, and queues stay in
their states. -/
def execPcieLinkDown (t : Nat) (s : State) : Host.Outcome State Fault Refusal :=
  if wbit (rd s Reg.HST_PCIE_STATUS) 11 then .next (pcieDown (wr s Reg.HST_PCIE_STATUS 0#32) t) else .next s

/-- ATS_INVALIDATE_REQUEST (R462): translations of `count` pages from `page` are used no more. -/
def execAtsInvalidateRequest (page count : Nat) (s : State) : Host.Outcome State Fault Refusal :=
  .next (setHost s { s.host with
    ats := s.host.ats.filter (fun e => !(decide (page ≤ e.2) && decide (e.2 < page + count)))
    atsInv := s.host.atsInv ++ [page] })

/-- ATS_INVALIDATE_COMPLETE (R462): the Invalidate Completion of an open request is sent. -/
def execAtsInvalidateComplete (page : Nat) (s : State) : Host.Outcome State Fault Refusal :=
  if s.host.atsInv.contains page then
    .next (reply (setHost s { s.host with atsInv := s.host.atsInv.erase page }) "InvalidateCompletion" 0 (leBytes 8 page))
  else .next s

/-- IDE_INTEGRITY_FAIL (R464): the secure stream enters Insecure. -/
def execIdeIntegrityFail (t : Nat) (s : State) : Host.Outcome State Fault Refusal :=
  if wbit (rd s Reg.HST_PCIE_STATUS) 9 then
    let s1 := setHost (wr s Reg.HST_PCIE_STATUS (putBitW (rd s Reg.HST_PCIE_STATUS) 9 false)) { s.host with ideInsecure := true }
    .next (raise (bump s1 Reg.HST_IDE_FAIL_COUNT) Reg.HST_EVENT 1 .check true false t)
  else .next s

/-- IDE_KM_K_SET_GO (R463): in an SPDM session and with the link up, the stream runs on the key set `keySet`. -/
def execIdeKmKSetGo (keySet : Nat) (s : State) : Host.Outcome State Fault Refusal :=
  if s.host.spdmSession && wbit (rd s Reg.HST_PCIE_STATUS) 11 then
    .next (setHost (wr s Reg.HST_PCIE_STATUS (setBitW (rd s Reg.HST_PCIE_STATUS) 9))
      { s.host with ideInsecure := false, ideKeySet := keySet % 2 })
  else .next s

/-! ## MCTP (R475, R476)

Endpoints: 0 PF1 VDM, 1 I3C/SMBus 0, 2 I3C/SMBus 1 (absent with one I-die, Table 22.2). -/

/-- The endpoint is on this build. -/
def endpointPresent (s : State) (ep : Nat) : Bool := decide (ep < 2) || (ep == 2 && s.build.idies == 2)

/-- The endpoint's EID; 0 is unassigned. -/
def eidOf (s : State) (ep : Nat) : Nat := rdF s Reg.HST_MCTP_EID (8 * ep) 8

/-- SET_ENDPOINT_ID (R475). -/
def execSetEndpointId (ep eid : Nat) (s : State) : Host.Outcome State Fault Refusal :=
  if endpointPresent s ep then
    .next (reply (wr s Reg.HST_MCTP_EID (putFld (rd s Reg.HST_MCTP_EID) (8 * ep) 8 eid)) "SetEndpointID" 0 (leBytes 1 eid))
  else .next s

/-- I3C_ENTDAA (R475): an I3C/SMBus endpoint enters I3C mode. -/
def execI3cEntdaa (ep : Nat) (s : State) : Host.Outcome State Fault Refusal :=
  if endpointPresent s ep && ep != 0 && !s.host.i3cMode.contains ep then
    .next (setHost s { s.host with i3cMode := s.host.i3cMode ++ [ep] })
  else .next s

/-- A PLDM request at an endpoint: no answer without an EID, ERROR_NOT_READY at the I-die 0 endpoints while the
supervisor is restarting or held (R476), and what `f` does otherwise. -/
def pldm (s : State) (ep : Nat) (kind : String) (f : State → State) : State :=
  if !endpointPresent s ep || eidOf s ep == 0 then s
  else if ep != 2 && (s.sup.restarting || s.sup.held) then reply s kind 4 []
  else f s

/-! ## Sensors and events (R477, R478) -/

/-- The sensors an endpoint reports: the I-die 1 endpoint has I-die 1's junction, LNK_BRIDGE_STATUS and
LNK_ISO_ITEM_COUNT (sensor 0x42, an ID that the spec does not give, log entry 13). -/
def endpointSensors (s : State) (ep : Nat) : List Nat := if ep = 2 then [0x19, 0x41, 0x42] else sensorIds s.build

/-- GET_SENSOR_READING (R477): the reading, or the code for an unsupported sensor. -/
def execGetSensorReading (ep id t : Nat) (s : State) : Host.Outcome State Fault Refusal :=
  .next (pldm s ep "GetSensorReading" (fun s =>
    if (endpointSensors s ep).contains id then
      reply s "GetSensorReading" 0
        (leBytes 4 (if id = 0x42 then (rd s Reg.LNK_ISO_ITEM_COUNT).toNat else sensorReading s id t))
    else reply s "GetSensorReading" 0x80 []))

/-- Every held event sent, oldest first, to the receiver now set (R478; log entry 81). -/
def sendHeld (s : State) : State :=
  if s.pldmReceiver.isSome then { s with out := (s.pldmQ.map Output.pldmEvent).reverse ++ s.out, pldmQ := [] } else s

/-- SET_EVENT_RECEIVER (R478). -/
def execSetEventReceiver (ep : Nat) (receiver : Option Nat) (s : State) : Host.Outcome State Fault Refusal :=
  .next (pldm s ep "SetEventReceiver" (fun s =>
    if ep = 2 then reply s "SetEventReceiver" 5 [] else reply (sendHeld { s with pldmReceiver := receiver }) "SetEventReceiver" 0 []))

/-- The 24 bytes of an event (Table 18.9). -/
def EventRec.bytes (e : EventRec) : List Byte :=
  leBytes 1 e.cls.code ++ leBytes 1 e.block ++ leBytes 1 e.bit ++ leBytes 1 (b2n e.alert) ++ leBytes 4 e.detail.toNat ++
    leBytes 4 e.tick ++ wordBytes e.time

/-- POLL_FOR_PLATFORM_EVENT_MESSAGE (R478): the oldest held event, while no receiver is set. -/
def execPollForPlatformEventMessage (ep : Nat) (s : State) : Host.Outcome State Fault Refusal :=
  .next (pldm s ep "PollForPlatformEventMessage" (fun s =>
    if ep = 2 || s.pldmReceiver.isSome then reply s "PollForPlatformEventMessage" 0 []
    else match s.pldmQ with
      | e :: rest => reply { s with pldmQ := rest } "PollForPlatformEventMessage" 0 e.bytes
      | [] => reply s "PollForPlatformEventMessage" 0 []))

/-! ## Firmware update (R480–R483) -/

/-- The target slot of an update (R481): of A and B the one not booted; under the safe image, or with none booted, the
one of lower sequence, A when they are equal or both absent. -/
def updateTarget (s : State) : Nat :=
  if s.boot.slot = 0 then 1
  else if s.boot.slot = 1 then 0
  else match directory s with
    | none => 0
    | some (_, d) => if (bitAt d.flagsA 0 || bitAt d.flagsB 0) && decide (d.seqB < d.seqA) then 1 else 0

/-- TARGET of HST_UPDATE_STATUS. -/
def updateSlot (s : State) : Nat := rdF s Reg.HST_UPDATE_STATUS 0 2

/-- STATE of HST_UPDATE_STATUS. -/
def updateState (s : State) : Nat := rdF s Reg.HST_UPDATE_STATUS 2 4

/-- STATE and the check code set. -/
def setUpdate (s : State) (st code : Nat) : State :=
  wr s Reg.HST_UPDATE_STATUS (putFld (putFld (rd s Reg.HST_UPDATE_STATUS) 2 4 st) 8 8 code)

/-- The session ends. -/
def endUpdate (s : State) : State := setHost s { s.host with update := { s.host.update with active := false } }

/-- CHECK_LOST refuses a flash write: the session ends with the busy response and UPDATE_REFUSED (Table 5.2). -/
def updateRefused (s : State) (kind : String) (t : Nat) : State :=
  raise (reply (endUpdate (setUpdate s 4 0)) kind 0x86 []) Reg.HST_EVENT 4 .check false false t

/-- REQUEST_UPDATE (R480, R481): one session at a time; the target's flags are cleared by the two-copy rewrite. -/
def execRequestUpdate (ep len t : Nat) (s : State) : Host.Outcome State Fault Refusal :=
  .next (pldm s ep "RequestUpdate" (fun s =>
    if ep = 2 then reply s "RequestUpdate" 5 []
    else if s.host.update.active then reply s "RequestUpdate" 0x81 []
    else if s.sup.checkLost then updateRefused s "RequestUpdate" t
    else
      let k := updateTarget s
      let s1 := rewriteDirectory s (fun d => d.set k (d.seq k) 0)
      let s2 := wr s1 Reg.HST_UPDATE_STATUS (BitVec.ofNat 32 (k + 4))
      reply (setHost s2 { s2.host with update := { active := true, got := 0, len := len } }) "RequestUpdate" 0 []))

/-- FIRMWARE_DATA_RX (R480): a chunk of at most 1,024 bytes written to the target slot; with the last one the session
goes on to verifying. -/
def execFirmwareDataRx (data : List Byte) (t : Nat) (s : State) : Host.Outcome State Fault Refusal :=
  let u := s.host.update
  if !(u.active && updateState s == 1) then .next s
  else if s.sup.checkLost then .next (updateRefused s "RequestFirmwareData" t)
  else
    let bs := data.take (min 1024 (33554432 - u.got))
    let s1 := flashWrite s (slotBase (updateSlot s) + u.got) bs
    let s2 := setHost s1 { s1.host with update := { u with got := u.got + bs.length } }
    .next (if u.len ≤ u.got + bs.length then setUpdate s2 2 0 else s2)

/-- VERIFY_COMPLETE (R482): load checks 0x03 to 0x0F on the written image. -/
def execVerifyComplete (pub : List Byte) (t : Nat) (s : State) : Host.Outcome State Fault Refusal :=
  if !(s.host.update.active && updateState s == 2) then .next s
  else
    let code := imageCode s (updateSlot s) pub
    if code = 0 then .next (reply (setUpdate s 3 0) "VerifyComplete" 0 [])
    else .next (raise (reply (endUpdate (setUpdate s 4 code)) "VerifyComplete" 1 [])
      Reg.HST_EVENT 4 .check false false t)

/-- ACTIVATE_FIRMWARE (R483): the target's entry with the next sequence, PRESENT alone. -/
def execActivateFirmware (ep t : Nat) (s : State) : Host.Outcome State Fault Refusal :=
  .next (pldm s ep "ActivateFirmware" (fun s =>
    if !(s.host.update.active && updateState s == 3) then reply s "ActivateFirmware" 0x88 []
    else if s.sup.checkLost then updateRefused s "ActivateFirmware" t
    else
      let s1 := rewriteDirectory s (fun d => d.set (updateSlot s) ((max d.seqA d.seqB + 1) % 2 ^ 32) 1)
      raise (reply (endUpdate (setUpdate s1 5 0)) "ActivateFirmware" 0 []) Reg.HST_EVENT 3 .check false false t))

/-! ## SPDM (R484, R485) -/

/-- An SPDM requester is answered: over DOE on PF0 (endpoint 3) with the link up, or over an I-die 0 endpoint with an
EID. -/
def spdmAnswers (s : State) (ep : Nat) : Bool :=
  (ep == 3 && wbit (rd s Reg.HST_PCIE_STATUS) 11) || (decide (ep < 2) && eidOf s ep != 0)

/-- `n` free bytes: keys, nonces and signatures are not stated. -/
def freeBytes (s : State) (n : Nat) : List Byte := leBytes n (Config.freeNat s.free)

/-- A measurement's bytes; none where it is not reported. -/
def measurement (s : State) (i : Nat) : Option (List Byte) :=
  if i = 1 then some (leBytes 8 Config.bootRom)
  else if i = 6 then some (leBytes 8 (s.fuses.minSvn % 65536 + s.fuses.revoked % 16 * 65536))
  else if s.boot.phase = 15 then none
  else if 2 ≤ i ∧ i ≤ 5 then SMap.get? s.host.meas i
  else none

/-- SPDM_GET_MEASUREMENTS (R485): index 1 to 6, or 255 for all. Before the configuration lock, index 5 and all are
answered Busy. -/
def execSpdmGetMeasurements (ep index : Nat) (s : State) : Host.Outcome State Fault Refusal :=
  if !spdmAnswers s ep then .next s
  else if (index = 5 ∨ index = 255) ∧ s.boot.cfgLocked = false then .next (reply s "ERROR" 3 [])
  else if index = 255 then
    .next (reply (drawn s) "MEASUREMENTS" 0 (((List.range 7).filterMap (measurement s)).flatten ++ freeBytes s 96))
  else match measurement s index with
    | some b => .next (reply (drawn s) "MEASUREMENTS" 0 (b ++ freeBytes s 96))
    | none => .next (reply s "ERROR" 1 [])

/-- SPDM_KEY_EXCHANGE (R484, R476): a secure session, in every state. -/
def execSpdmKeyExchange (ep : Nat) (s : State) : Host.Outcome State Fault Refusal :=
  if !spdmAnswers s ep then .next s
  else .next (reply (setHost (drawn s) { s.host with spdmSession := true }) "KEY_EXCHANGE_RSP" 0 (freeBytes s 96))

/-- SPDM_CHALLENGE (R484): the signature of the identity in certificate slot 0. -/
def execSpdmChallenge (ep certSlot : Nat) (s : State) : Host.Outcome State Fault Refusal :=
  if !spdmAnswers s ep then .next s
  else if certSlot = 0 then .next (reply (drawn s) "CHALLENGE_AUTH" 0 (freeBytes s 96))
  else .next (reply s "ERROR" 1 [])

/-- SPDM_GET_CERTIFICATE (R484): the identity chain of slot 0, the only slot. -/
def execSpdmGetCertificate (ep certSlot : Nat) (s : State) : Host.Outcome State Fault Refusal :=
  if !spdmAnswers s ep then .next s
  else if certSlot = 0 then .next (reply s "CERTIFICATE" 0 Config.certificate)
  else .next (reply s "ERROR" 1 [])

/-! ## The log window (R486) -/

/-- LOG_READ (R486): a write of HST_LOG_ADDR; one while BUSY, or of an offset of 0x01F0_0000 or above, has no effect. -/
def execLogRead (v : Word) (s : State) : Host.Outcome State Fault Refusal :=
  let off := fld v 8 17 * 256
  if s.host.logBusy.isSome ∨ 0x1F00000 ≤ off then .next s
  else
    let s1 := wr (wr s Reg.HST_LOG_ADDR (BitVec.ofNat 32 off)) Reg.HST_LOG_STATUS 1#32
    .next (setHost s1 { s1.host with logBusy := some off })

/-- LOG_READ_COMPLETE (R486): the 256 bytes are in HST_LOG_DATA and BUSY clears. -/
def execLogReadComplete (s : State) : Host.Outcome State Fault Refusal :=
  match s.host.logBusy with
  | none => .next s
  | some off =>
    let s1 := (List.range 64).foldl (fun s i =>
      wr s (Reg.HST_LOG_DATA i) (BitVec.ofNat 32 (flashNat s (0x6100000 + off + 4 * i) 4))) s
    .next (setHost (wr s1 Reg.HST_LOG_STATUS 0#32) { s1.host with logBusy := none })

end Sys2Proof.Machine
end

