-- ==== Sys2Proof/Machine/Views.lean ====
section
/-! DEFINITION. What a read of a register returns (R13, R15, R87, R507, R510, R519, R526): the registers that are views of
other state, block by block, and the read as a whole. Only the latches of R507 change by a read. -/

namespace Sys2Proof.Machine

/-- A number as a register. -/
def w32 (n : Nat) : Word := BitVec.ofNat 32 n

/-- The 64-bit two's complement of a number. -/
def twos64 (x : Int) : Nat := (x % 2 ^ 64).toNat

/-- The low or high word of a 64-bit value. -/
def half (hi : Bool) (n : Nat) : Word := if hi then w32 (n / 2 ^ 32) else w32 n

/-! ## TBU (Tables 2.11 and 2.12) -/

/-- A freewheel bound is in use: in FREEWHEEL, and in UNTRACEABLE reached from it (R66). -/
def freewheels (s : State) : Bool := s.tbu.quality == .freewheel || (s.tbu.quality == .untraceable && s.tbu.everTraced)

/-- TBU_QUALITY; SHORT_CURVE reads 1 only while a freewheel bound is in use. -/
def tbuQuality (s : State) : Word :=
  w32 (s.tbu.quality.code + s.tbu.source * 4 + b2n s.tbu.stepPending * 64 + b2n (s.tbu.tickSlew != 0 && !s.tbu.slewPlaced) * 128 +
    b2n s.tbu.pps.qualified * 256 + b2n s.tbu.ref10m * 512 + b2n s.tbu.ptp.qualified * 1024 +
    b2n (s.tbu.shortCurve && freewheels s) * 2048)

/-- TBU_FW_ELAPSED: whole seconds since freewheel entry, 0 where no freewheel was entered. -/
def fwElapsed (s : State) (t : Nat) : Nat :=
  match s.tbu.quality with
  | .freewheel => (now s t - s.tbu.fwEntry) / 1000000000
  | .untraceable => if s.tbu.everTraced then (now s t - s.tbu.fwEntry) / 1000000000 else 0
  | _ => 0

/-- Views of the TBU block. -/
def viewTbu (s : State) (off t : Nat) : Option Word :=
  if off = Reg.TBU_QUALITY then some (tbuQuality s)
  else if off = Reg.TBU_BOUND_NS then some (w32 (boundAt s t))
  else if off = Reg.TBU_OFFSET_NS then some (satI32 s.tbu.lastOffset)
  else if off = Reg.TBU_FREQ_CORR then some (satI32 s.tbu.corr)
  else if within off (Reg.TBU_SNAP 0) (Reg.TBU_SNAP 4) then some (s.tbu.snap.getD ((off - Reg.TBU_SNAP 0) / 4) 0)
  else if off = Reg.TBU_FW_ELAPSED then some (sat32 (fwElapsed s t))
  else if off = Reg.TBU_UTC_OFFSET then
    some (w32 (rdF s Reg.TBU_UTC_OFFSET 0 16 + (utcInForce s % 65536).toNat * 65536))
  else if off = Reg.TBU_LAST_STEP_LO then some (half false (twos64 s.tbu.lastStep))
  else if off = Reg.TBU_LAST_STEP_HI then some (half true (twos64 s.tbu.lastStep))
  else none

/-! ## TICK (Tables 1.8, 1.9, 20.6) -/

/-- TICK_STATUS. -/
def tickStatus (s : State) : Word :=
  w32 (b2n s.clock.running + b2n s.clock.discont * 2 + b2n (g1 s && s.clock.forced) * 8 + b2n s.clock.standing * 16 + b2n s.clock.bank * 32 +
    (if s.clock.running then epochPos s s.clock.index % 65536 * 65536 else 0))

/-- The epoch number of the current tick. -/
def epochNow (s : State) : Nat := if s.clock.running then epochNum s s.clock.index else 0

/-- Views of the TICK block. -/
def viewTick (s : State) (off : Nat) : Option Word :=
  if off = Reg.TICK_CFG then some (putFld (rd s off) 0 11 (cadence s))
  else if off = Reg.TICK_STATUS then some (tickStatus s)
  else if off = Reg.TICK_SEQ_LO then some (half false s.clock.seq)
  else if off = Reg.TICK_SEQ_HI then some (half true s.clock.seq)
  else if off = Reg.TICK_INDEX_LO then some (half false s.clock.index)
  else if off = Reg.TICK_INDEX_HI then some (half true s.clock.index)
  else if off = Reg.TICK_EPOCH_LO then some (half false (epochNow s))
  else if off = Reg.TICK_EPOCH_HI then some (half true (epochNow s))
  else if off = Reg.TICK_STRETCH_NS then some (sat32 s.clock.stretch)
  else if off = Reg.TICK_OVL_STATUS then some (w32 (s.sched.ovlResult % 8 + s.sched.ovlItem % 2048 * 16))
  else if within off (Reg.TICK_OVL_WINDOW 0) (Reg.TICK_OVL_WINDOW 8192) then
    some (SMap.get s.sched.window 0#32 ((off - Reg.TICK_OVL_WINDOW 0) / 4))
  else none

/-! ## SUP, FENCE and PART (Tables 5.7, 5.9, 6.7) -/

/-- SUP_STATUS. -/
def supStatus (s : State) : Word :=
  w32 (b2n s.sup.ready + b2n s.sup.checkLost * 4 + b2n s.sup.restarting * 8 + b2n s.sup.held * 16 +
    b2n s.sup.overlayHeld * 32)

/-- Some entry of the Fence's own tables is failed closed. -/
def fenceTableBad (s : State) : Bool := s.fence.failedClosed.any (fun e => decide (e.1 < 1024))

/-- Views of the SUP, FENCE and PART blocks. -/
def viewGuard (s : State) (off : Nat) : Option Word :=
  if off = Reg.SUP_STATUS then some (supStatus s)
  else if off = Reg.FENCE_STATUS then
    some (w32 (b2n s.sup.checkLost + b2n s.fence.vlogOvf * 2 + b2n (fenceTableBad s) * 4))
  else if off = Reg.PART_STATUS then some (w32 (s.fence.inForce % 256 + b2n s.part.logOvf * 256))
  else none

/-! ## WQ (Tables 7.7, 7.12, 7.13) -/

/-- WQ_Q_STATUS of queue `q`. -/
def qStatus (s : State) (q : Nat) : Word :=
  let qu := queue s q
  w32 (qu.st.code + b2n qu.cfgErr * 8 + b2n qu.invBusy * 16 + qu.cache.length % 16 * 256 +
    qu.posted.headD qu.tail % 4096 * 65536)

/-- WQ_Q_INDEX of queue `q`. -/
def qIndex (s : State) (q : Nat) : Word :=
  let qu := queue s q
  w32 (qu.tail % 4096 + qu.cqWrite % 4096 * 65536 + b2n qu.phase * 2 ^ 28)

/-- The entry in cache slot `k` of queue `q`. -/
def cacheAt (s : State) (q k : Nat) : Option CacheSlot := (queue s q).cache.find? (fun c => c.pos == k)

/-- Half a WQ_Q_CACHE_IDX register: an index with its valid bit. -/
def cacheIdx (s : State) (q k : Nat) : Nat :=
  match cacheAt s q k with
  | some c => c.index % 4096 + 32768
  | none => 0

/-- A word of the WQ_CACHE window; an unoccupied slot reads 0. -/
def cacheWord (s : State) (i : Nat) : Word :=
  match cacheAt s (i / 128) (i / 16 % 8) with
  | some c => w32 (leAt c.desc.raw (4 * (i % 16)) 4)
  | none => 0

/-- The view of register `r` (0 to 15, in words) of queue `q`. -/
def viewQueue (s : State) (q r : Nat) : Option Word :=
  if r = 6 then some (qStatus s q)
  else if r = 7 then some (qIndex s q)
  else if r = 8 then some (w32 ((queue s q).cqHead % 4096))
  else if 9 ≤ r ∧ r ≤ 12 then some (w32 (cacheIdx s q (2 * (r - 9)) + cacheIdx s q (2 * (r - 9) + 1) * 65536))
  else none

/-- Views of the WQ block. -/
def viewWq (s : State) (off : Nat) : Option Word :=
  if off = Reg.WQ_STATUS then some (w32 (b2n s.boot.serviceable))
  else if off = Reg.WQ_TAG_QUARANTINED then some (w32 (SMap.keysWhere (fun _ (x : TagSlot) => x.quarantined) s.tags).length)
  else if within off (Reg.WQ_Q_SQ_BASE_LO 0) (Reg.WQ_Q_SQ_BASE_LO 64) then
    viewQueue s ((off - Reg.WQ_Q_SQ_BASE_LO 0) / 64) ((off - Reg.WQ_Q_SQ_BASE_LO 0) % 64 / 4)
  else if within off (Reg.WQ_CACHE 0) (Reg.WQ_CACHE 8192) then some (cacheWord s ((off - Reg.WQ_CACHE 0) / 4))
  else if within off (Reg.WQ_DB_SQ_TAIL 0) (Reg.WQ_DB_SQ_TAIL 64) && off % 4096 == 8 then
    let qu := queue s ((off - Reg.WQ_DB_SQ_TAIL 0) / 4096)
    some (w32 (qu.dbResult % 256 + qu.dbRetry % 65536 * 65536))
  else none

/-! ## SYNC (Tables 8.6, 8.7) -/

/-- Views of the SYNC block: the 32 flags of a SYNC_STATE register stand as in one cycle (R519). -/
def viewSync (s : State) (off : Nat) : Option Word :=
  if within off (Reg.SYNC_STATE 0) (Reg.SYNC_STATE 128) then
    let n := (off - Reg.SYNC_STATE 0) / 4
    some (w32 (sumNat ((indicesWhere 32 (fun b => flagOn s (32 * n + b))).map (2 ^ ·))))
  else if off = Reg.SYNC_STATUS then
    some (w32 (b2n s.sync.logOvf + b2n s.sync.auditWrap * 2 + s.sync.auditNext % 64 * 256))
  else if within off (Reg.SYNC_AUDIT 0) (Reg.SYNC_AUDIT 256) then
    let i := (off - Reg.SYNC_AUDIT 0) / 4
    some ((SMap.get s.sync.audit [] (i / 4)).getD (i % 4) 0)
  else none

/-! ## Hubs and spokes (Tables 10.8, 11.12, 21.4) -/

/-- HUB_STRM_STAT of a stream: its operation's s, ROLE and segments; between operations the segments of the last one. -/
def streamStat (s : State) (i : Nat) : Word :=
  match spoke? s i with
  | some p => w32 ((if 2 ≤ p.op.stage then p.op.sGran % 512 else 0) + p.op.role % 8 * 512 + p.op.written % 4096 * 65536)
  | none => rd s (Reg.HUB_STRM_STAT (i / 16) (i % 16))

/-- A word of the control store of hub `h`. -/
def storeWord (s : State) (h a : Nat) : Nat := SMap.get s.hubs.store.words 0 (h * 16384 + a)

/-- SPK_STATE of a stream's spoke. -/
def spokeState (s : State) (i : Nat) : Word :=
  match spoke? s i with
  | none => 0
  | some p =>
    let st := if p.restarting || p.stall.isSome then 3 else if p.waiting then 2 else 1
    let cond := if st = 2 then (microOf (storeWord s (i / 16) p.pc)).cond else 0
    w32 (st + b2n p.timing * 8 + b2n p.commit.isSome * 16 + p.pc % 16384 * 256 + cond * 2 ^ 22)

/-- SPK_CONT of a stream's spoke. -/
def spokeCont (s : State) (i : Nat) : Word :=
  match spoke? s i with
  | some p => match p.commit with
    | some c => w32 c.1
    | none => 0
  | none => 0

/-- A register of the control-store window (R526): the corrected data. A word of a block under reload or BAD may read as
uncorrectable, all ones; which words of it do, the spec leaves open (log entry 3). -/
def windowWord (s : State) (h i : Nat) : Word :=
  let blk := i / 4 / 64
  let open_ := (SMap.get? s.hubs.store.reloading (h * 256 + blk)).isSome || blockBad s h blk
  if open_ && drawBool s then 0xFFFFFFFF#32 else w32 (storeWord s h (i / 4) / 2 ^ (32 * (i % 4)))

/-- Views of the block of hub `h`, at an offset `o` inside it. -/
def viewHub (s : State) (h o : Nat) : Option Word :=
  if within o 0x100 0x200 && o % 16 == 12 then some (streamStat s (16 * h + (o - 0x100) / 16))
  else if h = 0 ∧ o = 0xE10 then some (w32 (b2n s.hubs.collOvf))
  else if within o 0x8000 0x8400 && o % 64 == 0 then some (spokeState s (16 * h + (o - 0x8000) / 64))
  else if within o 0x8000 0x8400 && o % 64 == 4 then some (spokeCont s (16 * h + (o - 0x8000) / 64))
  else if within o 0x10000 0x50000 then some (windowWord s h ((o - 0x10000) / 4))
  else none

/-! ## LNK and FAB (Tables 12.8, 12.9, 13.8) -/

/-- LNK_PORT_STATUS of port `n`. -/
def portStatus (s : State) (n : Nat) : Word :=
  let p := port s n
  w32 ((portSt s n).code + popcount p.laneOk 4 * 16 + p.laneOk % 16 * 256 + p.partnerMod % 32 * 4096 +
    p.partnerPort % 16 * 2 ^ 17 + p.refuse % 16 * 2 ^ 24)

/-- Views of the LNK and FAB blocks. -/
def viewLinks (s : State) (off : Nat) : Option Word :=
  if off = Reg.LNK_BRIDGE_STATUS then some (w32 (s.bridge.st % 4 + b2n s.bridge.isolated * 4 + b2n (s.bridge.detour && detourReady s) * 8))
  else if within off (Reg.LNK_PORT_STATUS 0) (Reg.LNK_PORT_STATUS 16) && off % 64 == 0 then
    some (portStatus s ((off - Reg.LNK_PORT_STATUS 0) / 64))
  else if off = Reg.FAB_STATUS then
    some (w32 (b2n (!s.fab.down.isEmpty) + s.fab.down.headD 0 % 32 * 2 + b2n s.fab.severed * 64))
  else if off = Reg.FAB_NODE_UP then some (w32 s.fab.nodeUp)
  else none

/-! ## LDG and MSK (Tables 15.11, 16.8, 16.11) -/

/-- A word of LDG_SLOT_k. -/
def slotWord (s : State) (k w : Nat) : Word :=
  let x := slot s k
  if x.st = 0 then 0
  else if w = 0 then w32 (x.st % 16 + x.model % 16 * 16 + x.cls % 8 * 256 + x.part % 8 * 2048)
  else if w = 1 then w32 (x.index % 4096 + x.queue % 64 * 4096)
  else if w = 2 then w32 x.emitted
  else w32 x.ttl

/-- Views of the LDG block. -/
def viewLdg (s : State) (off : Nat) : Option Word :=
  let p := (off - 0x900100) / 32
  let part := SMap.get? s.ledger.parts p
  if off = Reg.LDG_STATUS then some (w32 (b2n (!s.ledger.models.isEmpty)))
  else if within off 0x900100 0x900200 && off % 32 == 0x14 then
    some (w32 (match part with
      | some x => x.kvPages - (takenPages s p).length
      | none => 0))
  else if within off 0x900100 0x900200 && off % 32 == 0x18 then
    some (w32 ((liveSlots s).filter (fun k => (slot s k).part == p)).length)
  else if within off 0x900100 0x900200 && off % 32 == 0x1C then some (w32 (if part.isSome then outSlotBytes s p else 0))
  else if within off (Reg.LDG_SLOT 0) (Reg.LDG_SLOT 4096) then
    some (slotWord s ((off - Reg.LDG_SLOT 0) / 16) (off % 16 / 4))
  else none

/-- Views of the MSK block: USERS of automata and adapters. -/
def viewMsk (s : State) (off : Nat) : Option Word :=
  if within off (Reg.MSK_AUTO_W0 0) (Reg.MSK_AUTO_W0 64) && off % 32 == 4 && wbit (rd s (off - 4)) 1 then
    some (rd s off &&& 0x3FFFF#32)
  else if within off (Reg.MSK_AUTO_W0 0) (Reg.MSK_AUTO_W0 64) && off % 32 == 0 then
    some (putFld (rd s off) 16 11 (min (autoUsers s ((off - Reg.MSK_AUTO_W0 0) / 32)) 2047))
  else if within off (Reg.MSK_ADAPTER_W0 0) (Reg.MSK_ADAPTER_W0 512) && off % 16 == 4 then
    some (w32 (min (adapterUsers s ((off - Reg.MSK_ADAPTER_W0 0) / 16)) 2047))
  else none

/-! ## BKG and HST (Tables 17.7, 4.16) -/

/-- BKG_TIMER_COUNT: 0 while the timer has not run; the count of a running timer is left open (log entry 3). -/
def viewTimer (s : State) (off : Nat) : Option Word :=
  if within off (Reg.BKG_TIMER_COMPARE 0) (Reg.BKG_TIMER_COMPARE 32) && off % 16 == 4 then
    some (if wbit (rd s (off + 4)) 0 then Config.freeWord s.free else 0)
  else none

/-- HST_BOOT_STATUS. -/
def bootStatus (s : State) (t : Nat) : Word :=
  w32 (b2n s.boot.unconfirmed * 16 + b2n s.boot.fallback * 32 + b2n s.boot.waitSource * 64 + b2n s.boot.serviceable * 128 +
    b2n s.boot.ucodeLocked * 256 + b2n s.boot.cfgLocked * 512 + s.boot.slot % 4 * 1024 + s.boot.phase % 16 * 4096 +
    retryAfter s t % 65536 * 65536)

/-! ## The read -/

/-- The view of an offset; none for a register that is stored as such. -/
def viewOf (s : State) (off t : Nat) : Option Word :=
  if off < 0x110000 then viewTbu s off t
  else if off < 0x120000 then viewTick s off
  else if off < 0x200000 then viewGuard s off
  else if off < 0x300000 then viewWq s off
  else if off < 0x400000 then viewSync s off
  else if off < 0x600000 then viewHub s (off / 0x100000 - 4) (off % 0x100000)
  else if off < 0x800000 then viewLinks s off
  else if off < 0x900000 then none
  else if off < 0x980000 then viewLdg s off
  else if off < 0xA00000 then viewMsk s off
  else if off < 0xB00000 then viewTimer s off
  else if off = Reg.HST_BOOT_STATUS then some (bootStatus s t)
  else none

/-- The value of a register, whoever reads it: 0 where none lies (R15, R87), 0 for a W1S or WO register (R13). -/
def regValue (s : State) (off t : Nat) : Word :=
  match regRow s off with
  | none => 0
  | some r => match r.acc with
    | .w1s => 0
    | .wo => 0
    | _ => (viewOf s off t).getD (rd s off)

/-- The HI register of a read-only 64-bit pair, by its LO register (R507). -/
def pairHi (off : Nat) : Option Nat :=
  if off = Reg.TICK_SEQ_LO ∨ off = Reg.TICK_INDEX_LO ∨ off = Reg.TICK_EPOCH_LO ∨ off = Reg.TBU_LAST_STEP_LO then
    some (off + 4)
  else none

/-- The latch of a requester for a HI register. -/
def latchKey (src : Requester) (hi : Nat) : Nat :=
  hi + (match src with
    | .pf0 => 0
    | .supervisor => 2 ^ 24)

/-- What a 32-bit read returns to a requester: the HI register of a pair reads from the requester's latch, 0 before any
read of its LO register (R507). -/
def readReg (s : State) (src : Requester) (off t : Nat) : Word :=
  if (pairHi (off - 4)).isSome ∧ 4 ≤ off then SMap.get s.latches 0#32 (latchKey src off) else regValue s off t

/-- PAIR_LO_READ (R507): a read of `off` by `src`, of 32 bits or (`wide`) of 64, returns its value. A read of the LO
register of a pair, or a 64-bit read of it, loads the requester's latch with the HI half of the same instant. An unaligned
read is a refused access and returns all ones (R12, R460, R556). -/
def execPairLoRead (off : Nat) (wide : Bool) (src : Requester) (t : Nat) (s : State) : Host.Outcome State Fault Refusal :=
  if off % (if wide then 8 else 4) ≠ 0 then
    .next (emit (badAccess s t) (.value (if wide then 2 ^ 64 - 1 else 2 ^ 32 - 1)))
  else
  let lo := readReg s src off t
  let hi := match pairHi off with
    | some h => regValue s h t
    | none => readReg s src (off + 4) t
  let s1 := match pairHi off with
    | some h => { s with latches := SMap.put s.latches (latchKey src h) hi }
    | none => s
  .next (emit s1 (.value (if wide then lo.toNat + hi.toNat * 2 ^ 32 else lo.toNat)))

end Sys2Proof.Machine
end

