-- ==== Sys2Proof/Machine/RegisterWrite.lean ====
section
/-! DEFINITION. A write to a register (R13–R15, R506, R521): who may write it, what the Fence refuses (Table 5.3), and what
the write does. A register whose write is a command of its own is handed to that command's meaning. -/

namespace Sys2Proof.Machine

/-- One effect after another. -/
def andThen (o : Host.Outcome State Fault Refusal) (f : State → Host.Outcome State Fault Refusal) :
    Host.Outcome State Fault Refusal :=
  match o with
  | .next s => f s
  | .fault e => .fault e
  | .refused r => .refused r

/-- An effect that a W1S bit starts. -/
def onBit (v : Word) (i : Nat) (f : State → Host.Outcome State Fault Refusal) (s : State) :
    Host.Outcome State Fault Refusal :=
  if wbit v i then f s else .next s

/-! ## The Fence's filters (Table 5.3, R135, R293) -/

/-- The registers of the TBU block that take writes after the configuration lock (R135). -/
def tbuOpen (off : Nat) : Bool :=
  off == Reg.TBU_LABEL_LO || off == Reg.TBU_LABEL_HI || off == Reg.TBU_UTC_OFFSET || off == Reg.TBU_SNAP_CTRL ||
    off == Reg.TBU_EVENT || off == Reg.TBU_CTRL

/-- The offset lies in a control-store window (R293). -/
def inWindow (off : Nat) : Bool := within off 0x410000 0x450000 || within off 0x510000 0x550000

/-- The bound that a register write breaks, the first in the order of Table 5.3. The control store of a hub that the build
lacks takes no write and breaks none (R15, R87). -/
def brokenBound (s : State) (off : Nat) : Option Bound :=
  if within off 0x100000 0x110000 && s.boot.cfgLocked && !tbuOpen off then some .time
  else if (off == Reg.TICK_CFG || off == Reg.TICK_EPOCHCFG) && s.boot.cfgLocked then some .tickGuard
  else if inWindow off && s.boot.ucodeLocked && buildHas s.build off then some .ucode
  else match regRow s off with
    | some r => if r.acc = .rwl ∧ s.boot.cfgLocked = true then some .lock else none
    | none => none

/-! ## Plain effects of the access codes (Table 0.4) -/

/-- A plain RW or RWL register: the bits of its mask take the value, the reserved bits stay 0 (R14). -/
def plainWrite (s : State) (off mask : Nat) (v : Word) : State := wr s off (maskIn (rd s off) v (w32 mask))

/-- A W1C register: the bits written 1 clear. -/
def clearBits (s : State) (off mask : Nat) (v : Word) : State := wr s off (rd s off &&& ~~~(v &&& w32 mask))

/-- HST_ALERT_STATUS cleared (R479, R537): the ALARM balls of the classes that clear are released, and ALERT_N goes high
when no bit is left. -/
def clearAlerts (s : State) (v : Word) : State :=
  let was := rd s Reg.HST_ALERT_STATUS
  let s1 := clearBits s Reg.HST_ALERT_STATUS 0x3FF v
  let gone := indicesWhere 10 (fun c => wbit was c && wbit v c)
  let s2 := gone.foldl dropAlarms s1
  if was ≠ 0 ∧ rd s2 Reg.HST_ALERT_STATUS = 0 then emit s2 (.level "ALERT_N" true) else s2

/-! ## Registers with a rule of their own -/

/-- The overlay window, COUNT and TARGET take no write from an accepted commit until the bank swap (R513). -/
def overlayOpen (s : State) : Bool := s.sched.overlay.isNone

/-- A write in the TICK block. -/
def writeTick (off : Nat) (v : Word) (t : Nat) (s : State) : Option (Host.Outcome State Fault Refusal) :=
  if off = Reg.TICK_CTRL then some (onBit v 0 execTickCountClr s)
  else if off = Reg.TICK_OVL_CTRL then some (onBit v 0 (execOverlayCommit t) s)
  else if (off == Reg.TICK_OVL_COUNT || off == Reg.TICK_OVL_TARGET_LO || off == Reg.TICK_OVL_TARGET_HI) && !overlayOpen s then
    some (.next s)
  else if within off (Reg.TICK_OVL_WINDOW 0) (Reg.TICK_OVL_WINDOW 8192) then
    some (.next (if overlayOpen s then setSched s { s.sched with
      window := SMap.put s.sched.window ((off - Reg.TICK_OVL_WINDOW 0) / 4) v } else s))
  else none

/-- A write in the SUP, FENCE or PART block. -/
def writeGuard (off : Nat) (v : Word) (t : Nat) (s : State) : Option (Host.Outcome State Fault Refusal) :=
  if off = Reg.SUP_STATUS then some (execSupReady (wbit v 0) s)
  else if off = Reg.SUP_WDOG_KICK then some (execWatchdogKick v s)
  else if off = Reg.SUP_CTRL then some (andThen (onBit v 0 execSupCountClr s) (onBit v 1 execSupRelease))
  else if off = Reg.FENCE_PART_ACTIVE then some (execFencePartActiveWrite v t s)
  else if within off (Reg.FENCE_EGRESS_CAP 0) (Reg.FENCE_EGRESS_CAP 8) then
    some (execEgressCapWrite ((off - Reg.FENCE_EGRESS_CAP 0) / 4) v t s)
  else if off = Reg.FENCE_VLOG_CLR then some (onBit v 0 execFenceVlogClr s)
  else if off = Reg.FENCE_CTRL then some (onBit v 0 execFenceCountClr s)
  else if off = Reg.PART_LOG_CLR then some (onBit v 0 execPartLogClr s)
  else if off = Reg.PART_CTRL then some (onBit v 0 execPartCountClr s)
  else none

/-- A write to a base or configuration register of queue `q` (R192, R562): it has effect only while the queue is
DISABLED, and then the indices return to 0 and the next ENABLE begins a first pass. -/
def writeQueueCfg (q off mask : Nat) (v : Word) (s : State) : State :=
  let qu := queue s q
  if qu.st = .disabled then
    plainWrite (setQueue s q { qu with tail := 0, cqWrite := 0, cqHead := 0, unreleased := [], firstPass := true }) off mask v
  else s

/-- A write in the WQ block. The bits of one WQ_Q_CTRL write act in bit order (log entry 16). -/
def writeWq (off mask : Nat) (v : Word) (t : Nat) (s : State) : Option (Host.Outcome State Fault Refusal) :=
  let q := (off - Reg.WQ_Q_SQ_BASE_LO 0) / 64
  let d := (off - Reg.WQ_DB_SQ_TAIL 0) / 4096
  if off = Reg.WQ_CTRL then some (onBit v 0 execWqCountClr s)
  else if within off (Reg.WQ_Q_SQ_BASE_LO 0) (Reg.WQ_Q_SQ_BASE_LO 64) then
    if off % 64 = 20 then
      some (andThen (andThen (andThen (onBit v 0 (execQueueEnable q t) s) (onBit v 1 (execQueueShutdown q)))
        (onBit v 2 (execQueueReset q t))) (onBit v 3 (execQueueInvalidate q t)))
    else if off % 64 ≤ 16 then some (.next (writeQueueCfg q off mask v s))
    else none
  else if within off (Reg.WQ_DB_SQ_TAIL 0) (Reg.WQ_DB_SQ_TAIL 64) && off % 4096 == 0 then some (execDoorbellSqTail d v t s)
  else if within off (Reg.WQ_DB_SQ_TAIL 0) (Reg.WQ_DB_SQ_TAIL 64) && off % 4096 == 4 then some (execDoorbellCqHead d v t s)
  else none

/-- A write in the SYNC block: the manual operation (R208, R209) and the clears. -/
def writeSync (off : Nat) (v : Word) (src : Requester) (t : Nat) (s : State) : Option (Host.Outcome State Fault Refusal) :=
  if off = Reg.SYNC_DBG_OP then
    if fld v 12 2 = 1 then some (execManualSet (fld v 0 12) (fld v 16 3) src t s)
    else if fld v 12 2 = 2 then some (execManualClear (fld v 0 12) (fld v 16 3) src t s)
    else some (.next s)
  else if off = Reg.SYNC_LOG_CLR then some (andThen (onBit v 0 execSyncFaultLogClr s) (onBit v 1 execSyncAuditWrapClr))
  else if off = Reg.SYNC_CTRL then some (onBit v 0 execSyncCountClr s)
  else none

/-- A write in the block of hub `h`. -/
def writeHub (h off : Nat) (v : Word) (s : State) : Option (Host.Outcome State Fault Refusal) :=
  if off = Reg.HUB_COLL_LOG_CLR then some (onBit v 0 execHubCollLogClr s)
  else if off = Reg.HUB_COLL_CTRL then some (onBit v 0 execHubCollCountClr s)
  else if off = Reg.HUB_CTRL h then some (onBit v 0 (execHubCountClr h) s)
  else if off = Reg.SPK_LOG_CLR h then some (onBit v 0 (execSpkLogClr h) s)
  else if off = Reg.SPK_CTRL h then some (onBit v 0 (execSpkCountClr h) s)
  else none

/-- A write in the LNK or FAB block. -/
def writeLinks (off : Nat) (v : Word) (s : State) : Option (Host.Outcome State Fault Refusal) :=
  if off = Reg.LNK_LOG_CLR then some (onBit v 0 execLnkLogClr s)
  else if off = Reg.LNK_CTRL then some (onBit v 0 execLnkCountClr s)
  else if within off (Reg.LNK_PORT_STATUS 0) (Reg.LNK_PORT_STATUS 16) && off % 64 == 4 then
    some (onBit v 0 (execPortRetry ((off - Reg.LNK_PORT_STATUS 0) / 64)) s)
  else if off = Reg.FAB_CTRL then some (onBit v 0 execFabCountClr s)
  else none

/-- A write in the TLY block. -/
def writeTly (off : Nat) (v : Word) (src : Requester) (t : Nat) (s : State) : Option (Host.Outcome State Fault Refusal) :=
  if off = Reg.TLY_CTRL then some (onBit v 0 execTlyCountClr s)
  else if off = Reg.TLY_FWD_HEAD 0 then some (execTlyFwdHeadWrite 0 v s)
  else if off = Reg.TLY_FWD_HEAD 1 then some (execTlyFwdHeadWrite 1 v s)
  else if 0x810000 ≤ off ∧ off % 16 < 12 then some (execTlyStreamWrite ((off - 0x810000) / 16) (off % 16 / 4) v src t s)
  else none

/-- A write in the LDG block: the ring base only while the ring is disabled (R527). -/
def writeLdg (off : Nat) (v : Word) (t : Nat) (s : State) : Option (Host.Outcome State Fault Refusal) :=
  let p := (off - 0x900100) / 32
  let ring := within off 0x900100 0x900200
  if off = Reg.LDG_ADMIT then some (execLdgAdmit v t s)
  else if off = Reg.LDG_ORDER_ADMIT then some (execLdgOrderAdmit v t s)
  else if off = Reg.LDG_CTRL then some (onBit v 0 execLdgCountClr s)
  else if ring && off % 32 == 8 then some (execOutputRingEnable p v s)
  else if ring && off % 32 == 0x10 then some (execLdgOutHeadWrite p v s)
  else if ring && decide (off % 32 ≤ 4) && wbit (rd s (Reg.LDG_OUT_CFG p)) 4 then some (.next s)
  else none

/-- A write in the MSK block: automata are writable only while not VALID (Table 16.8). -/
def writeMsk (off : Nat) (v : Word) (t : Nat) (s : State) : Option (Host.Outcome State Fault Refusal) :=
  if off = Reg.MSK_AUTO_CTRL then
    if fld v 6 2 = 1 then some (execAutoLoad (fld v 0 6) t s)
    else if fld v 6 2 = 2 then some (execAutoUnload (fld v 0 6) t s)
    else some (.next s)
  else if off = Reg.MSK_CTRL then some (onBit v 0 execMskCountClr s)
  else if within off (Reg.MSK_AUTO_W0 0) (Reg.MSK_AUTO_W0 64) && autoValid s ((off - Reg.MSK_AUTO_W0 0) / 32) then some (.next s)
  else if within off (Reg.MSK_ADAPTER_W0 0) (Reg.MSK_ADAPTER_W0 512) && off % 16 == 0 then
    some (execAdapterRegister ((off - Reg.MSK_ADAPTER_W0 0) / 16) v t s)
  else none

/-- A write to COMPARE or RUN of hardware timer `k` (R521, R528): supervisor firmware alone writes timers allocated
SUPERVISOR; no other timer takes a write. COMPARE written while RUN is 1 reads back at once and takes effect at
the next expiry; until then the one before stays in force. -/
def writeTimer (k off : Nat) (v : Word) (src : Requester) (t : Nat) (s : State) : State :=
  if timerUse s k ≠ some 3 then s
  else match src with
    | .pf0 => badAccess s t
    | .supervisor =>
      if off % 16 = 8 then wr s off (v &&& 1#32)
      else if wbit (rd s (Reg.BKG_TIMER_RUN k)) 0 && (SMap.get? s.bkg.timerNext k).isNone then
        wr (setBkg s { s.bkg with timerNext := SMap.put s.bkg.timerNext k (rd s off) }) off v
      else wr s off v

/-- A write in the BKG block. -/
def writeBkg (off : Nat) (v : Word) (src : Requester) (t : Nat) (s : State) : Option (Host.Outcome State Fault Refusal) :=
  if off = Reg.BKG_LOG_CLR then some (onBit v 0 execBkgLogClr s)
  else if off = Reg.BKG_CTRL then some (onBit v 0 execBkgCountClr s)
  else if within off (Reg.BKG_TIMER_COMPARE 0) (Reg.BKG_TIMER_COMPARE 32) && (off % 16 == 0 || off % 16 == 8) then
    some (.next (writeTimer ((off - Reg.BKG_TIMER_COMPARE 0) / 16) off v src t s))
  else none

/-- A write in the HST or PWR block. -/
def writeHst (off : Nat) (v : Word) (src : Requester) (t : Nat) (s : State) : Option (Host.Outcome State Fault Refusal) :=
  if off = Reg.HST_CTRL then some (onBit v 0 execHstCountClr s)
  else if off = Reg.HST_ALERT_STATUS then some (.next (clearAlerts s v))
  else if off = Reg.HST_LOG_ADDR then some (execLogRead v s)
  else if off = Reg.HST_BOOT_CTRL then some (andThen (onBit v 0 (execConfigLock t) s) (onBit v 1 execConfirm))
  else if off = Reg.PWR_LIMIT then some (execPwrLimitWrite v src t s)
  else if off = Reg.PWR_CTRL then some (onBit v 0 execPwrCountClr s)
  else none

/-- The effect of a write whose register has a rule of its own; none for a plain register. -/
def ownWrite (off mask : Nat) (v : Word) (src : Requester) (t : Nat) (s : State) :
    Option (Host.Outcome State Fault Refusal) :=
  if off = Reg.TBU_LABEL_HI then some (execLabelSubmit v s)
  else if off = Reg.TBU_SNAP_CTRL then some (onBit v 0 (execSnap t) s)
  else if off = Reg.TBU_CTRL then some (onBit v 0 execTbuCountClr s)
  else if off < 0x110000 then none
  else if off < 0x120000 then writeTick off v t s
  else if off < 0x200000 then writeGuard off v t s
  else if off < 0x300000 then writeWq off mask v t s
  else if off < 0x400000 then writeSync off v src t s
  else if off < 0x600000 then writeHub (off / 0x100000 - 4) off v s
  else if off < 0x800000 then writeLinks off v s
  else if off < 0x900000 then writeTly off v src t s
  else if off < 0x980000 then writeLdg off v t s
  else if off < 0xA00000 then writeMsk off v t s
  else if off < 0xB00000 then writeBkg off v src t s
  else writeHst off v src t s

/-- What an accepted write does: its own rule, or its access code (Table 0.4). A write to an RO register has no effect;
the only WO register without a rule of its own, TBU_LABEL_LO, keeps the value for the label. -/
def takeWrite (off : Nat) (r : RegRow) (v : Word) (src : Requester) (t : Nat) (s : State) :
    Host.Outcome State Fault Refusal :=
  let mask := regMask s off r
  match ownWrite off mask v src t s with
  | some o => o
  | none => match r.acc with
    | .ro => .next s
    | .w1s => .next s
    | .w1c => .next (clearBits s off mask v)
    | .rw => .next (plainWrite s off mask v)
    | .rwl => .next (plainWrite s off mask v)
    | .wo => .next (plainWrite s off mask v)

/-- A 32-bit write to BAR0: a PF0 write to a supervisor-only register is a refused access (R506, R521); then the Fence
decides (R128); a register of an ISOLATED I-die takes none (R316); an offset without a register takes none (R15). -/
def writeBar (off : Nat) (v : Word) (src : Requester) (t : Nat) (s : State) : Host.Outcome State Fault Refusal :=
  let only := match regRow s off with
    | some r => r.sup
    | none => false
  if only = true ∧ src = .pf0 then .next (badAccess s t)
  else match brokenBound s off with
    | some b => .next (fenceRefuse s b 0 src off t)
    | none => match regRow s off with
      | none => .next s
      | some r => if takesWrite s off then takeWrite off r v src t s else .next s

/-! ## The MSI-X tables (R469) -/

/-- A write to a word of the MSI-X table of function `fn` (PF0 has 2,048 vectors, PF1 two): the mask bit of a vector is
bit 0 of its fourth word, and a vector unmasked with its pending bit set issues its message (log entry 14). -/
def writeMsix (fn off : Nat) (v : Word) (s : State) : State :=
  let vec := off / 16
  let key := 4096 * fn + vec
  if 2 ≤ fn ∨ (if fn = 0 then 2048 else 2) ≤ vec then s
  else
    let s1 := { s with msixTable := SMap.put s.msixTable (65536 * fn + off) v }
    if off % 16 ≠ 12 then s1
    else if wbit v 0 then { s1 with msixUnmasked := s1.msixUnmasked.filter (· != key) }
    else
      let s2 := { s1 with msixUnmasked := if s1.msixUnmasked.contains key then s1.msixUnmasked else key :: s1.msixUnmasked }
      if s2.msixPending.contains key then
        emit { s2 with msixPending := s2.msixPending.filter (· != key) } (.msix fn vec)
      else s2

/-- REGISTER_WRITE (R13): a write of 32 bits, or of 64 with `hi` for the register above (R12), by `src` at `t` ns after
the tick edge. An unaligned write is a refused access (R460). -/
def execRegisterWrite (space : RegSpace) (off : Nat) (v : Word) (hi : Option Word) (src : Requester) (t : Nat) (s : State) :
    Host.Outcome State Fault Refusal :=
  if off % 4 ≠ 0 ∨ (hi.isSome = true ∧ off % 8 ≠ 0) then .next (badAccess s t)
  else match space with
    | .msix fn =>
      .next (match hi with
        | none => writeMsix fn off v s
        | some w => writeMsix fn (off + 4) w (writeMsix fn off v s))
    | .bar0 => match hi with
      | none => writeBar off v src t s
      | some w => andThen (writeBar off v src t s) (writeBar (off + 4) w src t)

end Sys2Proof.Machine
end

