-- ==== Sys2Proof/Machine/Dispatch.lean ====
section
/-! DEFINITION. The dispatch: one arm per command, each one call of the command's meaning. -/

namespace Sys2Proof.Machine

/-- The effect of a command on everything but the queue of waiting commands. -/
def exec (i : Instr) (s : State) : Host.Outcome State Fault Refusal :=
  match i with
  | .tickEdge readings drawnUj => Sys2Proof.Machine.execTickEdge readings drawnUj s
  | .firstTick readings => Sys2Proof.Machine.execFirstTick readings s
  | .maintenanceSlotOpen => Sys2Proof.Machine.execMaintenanceSlotOpen s
  | .graceDeadline => Sys2Proof.Machine.execGraceDeadline s
  | .itemStart idx t => Sys2Proof.Machine.execItemStart idx t s
  | .workItemComplete idx t => Sys2Proof.Machine.execWorkItemComplete idx t s
  | .overlayCommit t => Sys2Proof.Machine.execOverlayCommit t s
  | .registerWrite space off v hi src t => Sys2Proof.Machine.execRegisterWrite space off v hi src t s
  | .barRefusedAccess read bytes t => Sys2Proof.Machine.execBarRefusedAccess read bytes t s
  | .supervisorBusError addr t => Sys2Proof.Machine.execSupervisorBusError addr t s
  | .ppsInEdge falling t => Sys2Proof.Machine.execPpsInEdge falling t s
  | .ppsInLoss t => Sys2Proof.Machine.execPpsInLoss t s
  | .ref10mQualify t => Sys2Proof.Machine.execRef10mQualify t s
  | .ref10mLoss t => Sys2Proof.Machine.execRef10mLoss t s
  | .ptpSyncRx interval rawOffset t => Sys2Proof.Machine.execPtpSyncRx interval rawOffset t s
  | .ptpAnnounceRx interval domain traceable clockClass utc leap61 leap59 t => Sys2Proof.Machine.execPtpAnnounceRx interval domain traceable clockClass utc leap61 leap59 t s
  | .ptpLoss t => Sys2Proof.Machine.execPtpLoss t s
  | .ptpMeasurement t => Sys2Proof.Machine.execPtpMeasurement t s
  | .revertHoldOffExpiry t => Sys2Proof.Machine.execRevertHoldOffExpiry t s
  | .untraceableEntry t => Sys2Proof.Machine.execUntraceableEntry t s
  | .labelSubmit hi => Sys2Proof.Machine.execLabelSubmit hi s
  | .snap t => Sys2Proof.Machine.execSnap t s
  | .ppsOutRise t => Sys2Proof.Machine.execPpsOutRise t s
  | .powerOn => Sys2Proof.Machine.execPowerOn s
  | .resetNAssert lowNs => Sys2Proof.Machine.execResetNAssert lowNs s
  | .resetRelease g1 bootSel modId sfdpOk t => Sys2Proof.Machine.execResetRelease g1 bootSel modId sfdpOk t s
  | .flashReadTimeout t => Sys2Proof.Machine.execFlashReadTimeout t s
  | .imageReadComplete pub t => Sys2Proof.Machine.execImageReadComplete pub t s
  | .loadComplete => Sys2Proof.Machine.execLoadComplete s
  | .hwTrainingComplete failed t => Sys2Proof.Machine.execHwTrainingComplete failed t s
  | .fwInitBudgetExpiry t => Sys2Proof.Machine.execFwInitBudgetExpiry t s
  | .portBringupStart n => Sys2Proof.Machine.execPortBringupStart n s
  | .supReady ready => Sys2Proof.Machine.execSupReady ready s
  | .configLock t => Sys2Proof.Machine.execConfigLock t s
  | .lockWindowExpiry t => Sys2Proof.Machine.execLockWindowExpiry t s
  | .confirm => Sys2Proof.Machine.execConfirm s
  | .comparatorMismatch t => Sys2Proof.Machine.execComparatorMismatch t s
  | .delayParityError t => Sys2Proof.Machine.execDelayParityError t s
  | .comparatorSelfTest lane parityMissed t => Sys2Proof.Machine.execComparatorSelfTest lane parityMissed t s
  | .watchdogFire mismatch t => Sys2Proof.Machine.execWatchdogFire mismatch t s
  | .watchdogKick v => Sys2Proof.Machine.execWatchdogKick v s
  | .supervisorEntry => Sys2Proof.Machine.execSupervisorEntry s
  | .supRelease => Sys2Proof.Machine.execSupRelease s
  | .fencePartActiveWrite v t => Sys2Proof.Machine.execFencePartActiveWrite v t s
  | .egressCapWrite p v t => Sys2Proof.Machine.execEgressCapWrite p v t s
  | .tableReloadComplete entry passed => Sys2Proof.Machine.execTableReloadComplete entry passed s
  | .packetArrive n p0 t => Sys2Proof.Machine.execPacketArrive n p0 t s
  | .keyRejectNoticeRx tag reason t => Sys2Proof.Machine.execKeyRejectNoticeRx tag reason t s
  | .queueEnable q t => Sys2Proof.Machine.execQueueEnable q t s
  | .queueShutdown q => Sys2Proof.Machine.execQueueShutdown q s
  | .queueReset q t => Sys2Proof.Machine.execQueueReset q t s
  | .queueInvalidate q t => Sys2Proof.Machine.execQueueInvalidate q t s
  | .invalidateComplete q t => Sys2Proof.Machine.execInvalidateComplete q t s
  | .abortedRecordsWrite q t => Sys2Proof.Machine.execAbortedRecordsWrite q t s
  | .doorbellSqTail q v t => Sys2Proof.Machine.execDoorbellSqTail q v t s
  | .doorbellCqHead q v t => Sys2Proof.Machine.execDoorbellCqHead q v t s
  | .nop q raw t => Sys2Proof.Machine.execNop q raw t s
  | .compute idx accesses t => Sys2Proof.Machine.execCompute idx accesses t s
  | .copy idx t => Sys2Proof.Machine.execCopy idx t s
  | .barrier q raw t => Sys2Proof.Machine.execBarrier q raw t s
  | .allReduce idx others t => Sys2Proof.Machine.execAllReduce idx others t s
  | .reduce idx others t => Sys2Proof.Machine.execReduce idx others t s
  | .reduceScatter idx others t => Sys2Proof.Machine.execReduceScatter idx others t s
  | .allGather idx others t => Sys2Proof.Machine.execAllGather idx others t s
  | .gather idx others t => Sys2Proof.Machine.execGather idx others t s
  | .scatter idx others t => Sys2Proof.Machine.execScatter idx others t s
  | .broadcast idx others t => Sys2Proof.Machine.execBroadcast idx others t s
  | .allToAll idx others t => Sys2Proof.Machine.execAllToAll idx others t s
  | .send idx t => Sys2Proof.Machine.execSend idx t s
  | .recv idx others t => Sys2Proof.Machine.execRecv idx others t s
  | .stream idx c data t => Sys2Proof.Machine.execStream idx c data t s
  | .serveSubmit q raw t => Sys2Proof.Machine.execServeSubmit q raw t s
  | .serveCancel q raw t => Sys2Proof.Machine.execServeCancel q raw t s
  | .servePause q raw t => Sys2Proof.Machine.execServePause q raw t s
  | .serveResume q raw t => Sys2Proof.Machine.execServeResume q raw t s
  | .hostReadCompletion tag fail data t => Sys2Proof.Machine.execHostReadCompletion tag fail data t s
  | .completionTimeout k t => Sys2Proof.Machine.execCompletionTimeout k t s
  | .tagQuarantineEnd k => Sys2Proof.Machine.execTagQuarantineEnd k s
  | .flagSet issuer flag t => Sys2Proof.Machine.execFlagSet issuer flag t s
  | .flagClear issuer flag t => Sys2Proof.Machine.execFlagClear issuer flag t s
  | .flagWait issuer flag t => Sys2Proof.Machine.execFlagWait issuer flag t s
  | .flagWaitClr issuer flag t => Sys2Proof.Machine.execFlagWaitClr issuer flag t s
  | .tileSet core flag t => Sys2Proof.Machine.execTileSet core flag t s
  | .waiterRelease issuer t => Sys2Proof.Machine.execWaiterRelease issuer t s
  | .manualSet flag part src t => Sys2Proof.Machine.execManualSet flag part src t s
  | .manualClear flag part src t => Sys2Proof.Machine.execManualClear flag part src t s
  | .armMessageRx stream a t => Sys2Proof.Machine.execArmMessageRx stream a t s
  | .armStepTimeout stream t => Sys2Proof.Machine.execArmStepTimeout stream t s
  | .sealRx stream bitmap sGran counts reSeal t => Sys2Proof.Machine.execSealRx stream bitmap sGran counts reSeal t s
  | .dataPhaseStart stream t => Sys2Proof.Machine.execDataPhaseStart stream t s
  | .segmentRx stream pos src seg inAcc data result t => Sys2Proof.Machine.execSegmentRx stream pos src seg inAcc data result t s
  | .segmentCreditRx stream dir peer seg => Sys2Proof.Machine.execSegmentCreditRx stream dir peer seg s
  | .withdrawNoticeRx stream rank src t => Sys2Proof.Machine.execWithdrawNoticeRx stream rank src t s
  | .dataStepTimeout stream rank t => Sys2Proof.Machine.execDataStepTimeout stream rank t s
  | .reArmRx stream rank lowest t => Sys2Proof.Machine.execReArmRx stream rank lowest t s
  | .treeResume stream j0 t => Sys2Proof.Machine.execTreeResume stream j0 t s
  | .microNop idx ecc t => Sys2Proof.Machine.execMicroNop idx ecc t s
  | .microLdi idx ecc t => Sys2Proof.Machine.execMicroLdi idx ecc t s
  | .microLdctx idx ecc t => Sys2Proof.Machine.execMicroLdctx idx ecc t s
  | .microAdd idx ecc t => Sys2Proof.Machine.execMicroAdd idx ecc t s
  | .microSub idx ecc t => Sys2Proof.Machine.execMicroSub idx ecc t s
  | .microAnd idx ecc t => Sys2Proof.Machine.execMicroAnd idx ecc t s
  | .microOr idx ecc t => Sys2Proof.Machine.execMicroOr idx ecc t s
  | .microShl idx ecc t => Sys2Proof.Machine.execMicroShl idx ecc t s
  | .microShr idx ecc t => Sys2Proof.Machine.execMicroShr idx ecc t s
  | .microGrant idx ecc t => Sys2Proof.Machine.execMicroGrant idx ecc t s
  | .microRead idx ecc t => Sys2Proof.Machine.execMicroRead idx ecc t s
  | .microComb idx ecc t => Sys2Proof.Machine.execMicroComb idx ecc t s
  | .microFill idx ecc t => Sys2Proof.Machine.execMicroFill idx ecc t s
  | .microSend idx ecc t => Sys2Proof.Machine.execMicroSend idx ecc t s
  | .microWrite idx ecc t => Sys2Proof.Machine.execMicroWrite idx ecc t s
  | .microSetf idx ecc t => Sys2Proof.Machine.execMicroSetf idx ecc t s
  | .microClrf idx ecc t => Sys2Proof.Machine.execMicroClrf idx ecc t s
  | .microEnd idx ecc t => Sys2Proof.Machine.execMicroEnd idx ecc t s
  | .engineOpComplete stream k t => Sys2Proof.Machine.execEngineOpComplete stream k t s
  | .waitConditionTrue idx t => Sys2Proof.Machine.execWaitConditionTrue idx t s
  | .spokeRestart idx => Sys2Proof.Machine.execSpokeRestart idx s
  | .csBlockReloadComplete h blk flashOk t => Sys2Proof.Machine.execCsBlockReloadComplete h blk flashOk t s
  | .flitRx n crcOk f fec t => Sys2Proof.Machine.execFlitRx n crcOk f fec t s
  | .nakRx n q t => Sys2Proof.Machine.execNakRx n q t s
  | .ackTimerExpiry n t => Sys2Proof.Machine.execAckTimerExpiry n t s
  | .replayBudgetExpiry n t => Sys2Proof.Machine.execReplayBudgetExpiry n t s
  | .faultRx n t => Sys2Proof.Machine.execFaultRx n t s
  | .abortFlitRx n p t => Sys2Proof.Machine.execAbortFlitRx n p t s
  | .signalLoss n lost t => Sys2Proof.Machine.execSignalLoss n lost t s
  | .trainingFrameRx n => Sys2Proof.Machine.execTrainingFrameRx n s
  | .holdRx n => Sys2Proof.Machine.execHoldRx n s
  | .holdRetry n => Sys2Proof.Machine.execHoldRetry n s
  | .bringupComplete n mask => Sys2Proof.Machine.execBringupComplete n mask s
  | .capRx n c t => Sys2Proof.Machine.execCapRx n c t s
  | .capAckRx n => Sys2Proof.Machine.execCapAckRx n s
  | .capRefuseRx n reason t => Sys2Proof.Machine.execCapRefuseRx n reason t s
  | .widthReqRx n mask t => Sys2Proof.Machine.execWidthReqRx n mask t s
  | .widthAckRx n mask t => Sys2Proof.Machine.execWidthAckRx n mask t s
  | .portRetrainTimer n => Sys2Proof.Machine.execPortRetrainTimer n s
  | .portRetry n => Sys2Proof.Machine.execPortRetry n s
  | .linkFaultNoticeRx tag t => Sys2Proof.Machine.execLinkFaultNoticeRx tag t s
  | .bridgeFail tx rx t => Sys2Proof.Machine.execBridgeFail tx rx t s
  | .bridgeRetrain ok => Sys2Proof.Machine.execBridgeRetrain ok s
  | .nodeDownRx n m t => Sys2Proof.Machine.execNodeDownRx n m t s
  | .nodeUpRx n m t => Sys2Proof.Machine.execNodeUpRx n m t s
  | .joinRx n m epoch crc t => Sys2Proof.Machine.execJoinRx n m epoch crc t s
  | .e2eAckRx key chan dst next t => Sys2Proof.Machine.execE2eAckRx key chan dst next t s
  | .e2eNakRx key chan dst t => Sys2Proof.Machine.execE2eNakRx key chan dst t s
  | .e2eAckTimer key chan src => Sys2Proof.Machine.execE2eAckTimer key chan src s
  | .e2eTimeout key chan dst t => Sys2Proof.Machine.execE2eTimeout key chan dst t s
  | .ingestFrameRx n fr t => Sys2Proof.Machine.execIngestFrameRx n fr t s
  | .ingestLinkDown n t => Sys2Proof.Machine.execIngestLinkDown n t s
  | .tlyStreamWrite idx w v src t => Sys2Proof.Machine.execTlyStreamWrite idx w v src t s
  | .tlyFwdHeadWrite n v => Sys2Proof.Machine.execTlyFwdHeadWrite n v s
  | .ldgAdmit v t => Sys2Proof.Machine.execLdgAdmit v t s
  | .ldgOrderAdmit v t => Sys2Proof.Machine.execLdgOrderAdmit v t s
  | .outputRingEnable p v => Sys2Proof.Machine.execOutputRingEnable p v s
  | .ldgOutHeadWrite p v => Sys2Proof.Machine.execLdgOutHeadWrite p v s
  | .microstepBoundary m => Sys2Proof.Machine.execMicrostepBoundary m s
  | .decodeStepEnd idx rows t => Sys2Proof.Machine.execDecodeStepEnd idx rows t s
  | .prefillChunkEnd idx logits t => Sys2Proof.Machine.execPrefillChunkEnd idx logits t s
  | .slotUpdateRx m k st masked step microstep t => Sys2Proof.Machine.execSlotUpdateRx m k st masked step microstep t s
  | .pauseTtlExpiry k t => Sys2Proof.Machine.execPauseTtlExpiry k t s
  | .coldPauseComplete k t => Sys2Proof.Machine.execColdPauseComplete k t s
  | .summaryStoreComplete idx t => Sys2Proof.Machine.execSummaryStoreComplete idx t s
  | .coldResumeComplete k fail t => Sys2Proof.Machine.execColdResumeComplete k fail t s
  | .orderRx bytes src key t => Sys2Proof.Machine.execOrderRx bytes src key t s
  | .orderRefuseNoticeRx k reason t => Sys2Proof.Machine.execOrderRefuseNoticeRx k reason t s
  | .orderQueueTimeout m t => Sys2Proof.Machine.execOrderQueueTimeout m t s
  | .kvShipComplete k pages token autoSt t => Sys2Proof.Machine.execKvShipComplete k pages token autoSt t s
  | .kvShipTimeout k t => Sys2Proof.Machine.execKvShipTimeout k t s
  | .orderWithdrawRx src decSlot => Sys2Proof.Machine.execOrderWithdrawRx src decSlot s
  | .autoLoad n t => Sys2Proof.Machine.execAutoLoad n t s
  | .autoUnload n t => Sys2Proof.Machine.execAutoUnload n t s
  | .autoValidationDone t => Sys2Proof.Machine.execAutoValidationDone t s
  | .adapterRegister a v t => Sys2Proof.Machine.execAdapterRegister a v t s
  | .choreStart found t => Sys2Proof.Machine.execChoreStart found t s
  | .choreStop t => Sys2Proof.Machine.execChoreStop t s
  | .laneRecalStart n => Sys2Proof.Machine.execLaneRecalStart n s
  | .laneRecalDone n ok t => Sys2Proof.Machine.execLaneRecalDone n ok t s
  | .logPageProgram => Sys2Proof.Machine.execLogPageProgram s
  | .flashOpComplete ok t => Sys2Proof.Machine.execFlashOpComplete ok t s
  | .telemetrySample t => Sys2Proof.Machine.execTelemetrySample t s
  | .hwTimerExpiry k => Sys2Proof.Machine.execHwTimerExpiry k s
  | .flrPf0 t => Sys2Proof.Machine.execFlrPf0 t s
  | .flrPf1 => Sys2Proof.Machine.execFlrPf1 s
  | .perstNAssert t => Sys2Proof.Machine.execPerstNAssert t s
  | .perstNDeassert => Sys2Proof.Machine.execPerstNDeassert s
  | .atsInvalidateRequest page count => Sys2Proof.Machine.execAtsInvalidateRequest page count s
  | .atsInvalidateComplete page => Sys2Proof.Machine.execAtsInvalidateComplete page s
  | .ideIntegrityFail t => Sys2Proof.Machine.execIdeIntegrityFail t s
  | .ideKmKSetGo keySet => Sys2Proof.Machine.execIdeKmKSetGo keySet s
  | .setEndpointId ep eid => Sys2Proof.Machine.execSetEndpointId ep eid s
  | .getSensorReading ep id t => Sys2Proof.Machine.execGetSensorReading ep id t s
  | .setEventReceiver ep receiver => Sys2Proof.Machine.execSetEventReceiver ep receiver s
  | .pollForPlatformEventMessage ep => Sys2Proof.Machine.execPollForPlatformEventMessage ep s
  | .requestUpdate ep len t => Sys2Proof.Machine.execRequestUpdate ep len t s
  | .firmwareDataRx data t => Sys2Proof.Machine.execFirmwareDataRx data t s
  | .verifyComplete pub t => Sys2Proof.Machine.execVerifyComplete pub t s
  | .activateFirmware ep t => Sys2Proof.Machine.execActivateFirmware ep t s
  | .spdmGetMeasurements ep index => Sys2Proof.Machine.execSpdmGetMeasurements ep index s
  | .spdmKeyExchange ep => Sys2Proof.Machine.execSpdmKeyExchange ep s
  | .spdmChallenge ep certSlot => Sys2Proof.Machine.execSpdmChallenge ep certSlot s
  | .spdmGetCertificate ep certSlot => Sys2Proof.Machine.execSpdmGetCertificate ep certSlot s
  | .logRead v => Sys2Proof.Machine.execLogRead v s
  | .logReadComplete => Sys2Proof.Machine.execLogReadComplete s
  | .pwrLimitWrite v src t => Sys2Proof.Machine.execPwrLimitWrite v src t s
  | .limiterInterval drawn t => Sys2Proof.Machine.execLimiterInterval drawn t s
  | .railFault t => Sys2Proof.Machine.execRailFault t s
  | .railProtectReset => Sys2Proof.Machine.execRailProtectReset s
  | .railHoldRelease g1 bootSel modId sfdpOk t => Sys2Proof.Machine.execRailHoldRelease g1 bootSel modId sfdpOk t s
  | .thermalTrip => Sys2Proof.Machine.execThermalTrip s
  | .thermalHoldRelease g1 bootSel modId sfdpOk t => Sys2Proof.Machine.execThermalHoldRelease g1 bootSel modId sfdpOk t s
  | .alarmMinTimeExpiry ball => Sys2Proof.Machine.execAlarmMinTimeExpiry ball s
  | .tickCountClr => Sys2Proof.Machine.execTickCountClr s
  | .tbuCountClr => Sys2Proof.Machine.execTbuCountClr s
  | .supCountClr => Sys2Proof.Machine.execSupCountClr s
  | .fenceCountClr => Sys2Proof.Machine.execFenceCountClr s
  | .fenceVlogClr => Sys2Proof.Machine.execFenceVlogClr s
  | .partCountClr => Sys2Proof.Machine.execPartCountClr s
  | .partLogClr => Sys2Proof.Machine.execPartLogClr s
  | .wqCountClr => Sys2Proof.Machine.execWqCountClr s
  | .syncCountClr => Sys2Proof.Machine.execSyncCountClr s
  | .syncFaultLogClr => Sys2Proof.Machine.execSyncFaultLogClr s
  | .syncAuditWrapClr => Sys2Proof.Machine.execSyncAuditWrapClr s
  | .hubCollCountClr => Sys2Proof.Machine.execHubCollCountClr s
  | .hubCollLogClr => Sys2Proof.Machine.execHubCollLogClr s
  | .hubCountClr h => Sys2Proof.Machine.execHubCountClr h s
  | .spkCountClr h => Sys2Proof.Machine.execSpkCountClr h s
  | .spkLogClr h => Sys2Proof.Machine.execSpkLogClr h s
  | .lnkCountClr => Sys2Proof.Machine.execLnkCountClr s
  | .lnkLogClr => Sys2Proof.Machine.execLnkLogClr s
  | .fabCountClr => Sys2Proof.Machine.execFabCountClr s
  | .tlyCountClr => Sys2Proof.Machine.execTlyCountClr s
  | .ldgCountClr => Sys2Proof.Machine.execLdgCountClr s
  | .mskCountClr => Sys2Proof.Machine.execMskCountClr s
  | .bkgCountClr => Sys2Proof.Machine.execBkgCountClr s
  | .bkgLogClr => Sys2Proof.Machine.execBkgLogClr s
  | .hstCountClr => Sys2Proof.Machine.execHstCountClr s
  | .pwrCountClr => Sys2Proof.Machine.execPwrCountClr s
  | .signalDetect n => Sys2Proof.Machine.execSignalDetect n s
  | .laneSignalLoss n lane t => Sys2Proof.Machine.execLaneSignalLoss n lane t s
  | .ingestLinkUp n => Sys2Proof.Machine.execIngestLinkUp n s
  | .pcieLinkUp rate width flit ats => Sys2Proof.Machine.execPcieLinkUp rate width flit ats s
  | .pcieLinkDown t => Sys2Proof.Machine.execPcieLinkDown t s
  | .pairLoRead off wide src t => Sys2Proof.Machine.execPairLoRead off wide src t s
  | .descriptorFetchComplete q idx ok t => Sys2Proof.Machine.execDescriptorFetchComplete q idx ok t s
  | .leapSecond => Sys2Proof.Machine.execLeapSecond s
  | .i3cEntdaa ep => Sys2Proof.Machine.execI3cEntdaa ep s

end Sys2Proof.Machine
end

