-- ==== Sys2Proof/Machine/Places.lean ====
section
/-! DEFINITION. The places of the state: the parts that the frame statements speak of, the fields of State, its byte
memories and the registers of BAR0 by name, and what it says that a place stays the same. -/

namespace Sys2Proof.Machine

/-- A place: a field of State, a memory of it, or a register or row of registers, named as the RegMap names them; `anyRegister`
stands for every register. -/
inductive Place where
  | build | straps | boot | fuses | clock | tbu | latches | sched | queues | tags | nextSlot | readWait | sup | fence
  | heldWrites | heldPackets | part | sync | ports | bridge | fab | faults | hubs | tally | ledger | bkg | host
  | power | logBuf | logSeq | pldmQ | pldmReceiver | msixUnmasked | msixPending | msixTable | out | free | pending
  | moduleMemory | hostMemory | coreSram | hubSram | flashMemory | supData | supCode | poisonMem | poisonCsram
  | poisonHsram | TBU_CFG | TBU_LIMITS | TBU_COMP | TBU_QUALITY | TBU_BOUND_NS | TBU_OFFSET_NS | TBU_FREQ_CORR
  | TBU_SNAP_CTRL | TBU_SNAP | TBU_FW_ELAPSED | TBU_UTC_OFFSET | TBU_LABEL_LO | TBU_LABEL_HI | TBU_SEED_LO
  | TBU_SEED_HI | TBU_LAST_STEP_LO | TBU_LAST_STEP_HI | TBU_EVENT | TBU_BOUND_EXCEED_COUNT | TBU_LABEL_IGNORED_COUNT
  | TBU_CTRL | TICK_CFG | TICK_EPOCHCFG | TICK_STATUS | TICK_SEQ_LO | TICK_SEQ_HI | TICK_INDEX_LO | TICK_INDEX_HI
  | TICK_EPOCH_LO | TICK_EPOCH_HI | TICK_STRETCH_NS | TICK_LATE_COUNT | TICK_OVERRUN_COUNT | TICK_SKIP_COUNT
  | TICK_SCHED_LATE_COUNT | TICK_SCHED_REJECT_COUNT | TICK_CTRL | TICK_EVENT | TICK_OVL_CTRL | TICK_OVL_COUNT
  | TICK_OVL_TARGET_LO | TICK_OVL_TARGET_HI | TICK_OVL_STATUS | TICK_EPOCH_REC_0 | TICK_EPOCH_REC_1
  | TICK_EPOCH_REC_2 | TICK_EPOCH_REC_3 | TICK_OVL_WINDOW | SUP_STATUS | SUP_WDOG_CFG | SUP_WDOG_KICK
  | SUP_RESET_CAUSE | SUP_CHECK_STATUS | SUP_FW_VERSION | SUP_RESET_COUNT | SUP_MISMATCH_COUNT | SUP_KICK_BAD_COUNT
  | SUP_OVERLAY_HELD_COUNT | SUP_CTRL | FENCE_STATUS | FENCE_EVENT | FENCE_VLOG_0 | FENCE_VLOG_1 | FENCE_VLOG_CLR
  | FENCE_PART_ACTIVE | FENCE_EGRESS_FLOOR | FENCE_PART_INIT | FENCE_EGRESS_CEIL | FENCE_EGRESS_CAP
  | FENCE_EGRESS_USED_AETHIL | FENCE_EGRESS_USED_PCIE | FENCE_COUNT_PART | FENCE_COUNT_TIME | FENCE_COUNT_UCODE
  | FENCE_COUNT_WINDOW | FENCE_COUNT_LOCK | FENCE_COUNT_EGRESS | FENCE_CTRL | PART_KEY | PART_CFG | PART_STATUS
  | PART_EVENT | PART_REJECT_LOG_0 | PART_REJECT_LOG_1 | PART_LOG_CLR | PART_PORT_ALLOW | PART_REJECT_PORT_COUNT
  | PART_REJECT_HUB_COUNT | PART_REJECT_SYNC_COUNT | PART_NOTICE_TX_COUNT | PART_NOTICE_RX_COUNT | PART_CTRL
  | WQ_STATUS | WQ_EVENT | WQ_LATE_CPL_COUNT | WQ_DESC_INVALID_COUNT | WQ_NOT_ADMITTED_COUNT | WQ_ABORTED_COUNT
  | WQ_POISONED_COUNT | WQ_DB_REFUSED_COUNT | WQ_STANDING_UNREPORTED_COUNT | WQ_TAG_QUARANTINED | WQ_CTRL
  | WQ_Q_SQ_BASE_LO | WQ_Q_SQ_BASE_HI | WQ_Q_CQ_BASE_LO | WQ_Q_CQ_BASE_HI | WQ_Q_CFG | WQ_Q_CTRL | WQ_Q_STATUS
  | WQ_Q_INDEX | WQ_Q_CQ_HEAD | WQ_Q_CACHE_IDX_0 | WQ_Q_CACHE_IDX_1 | WQ_Q_CACHE_IDX_2 | WQ_Q_CACHE_IDX_3 | WQ_CACHE
  | WQ_DB_SQ_TAIL | WQ_DB_CQ_HEAD | WQ_DB_STATUS | SYNC_STATE | SYNC_DBG_OP | SYNC_STATUS | SYNC_EVENT
  | SYNC_FAULT_LOG | SYNC_LOG_CLR | SYNC_OVERFLOW_COUNT | SYNC_UNDERFLOW_COUNT | SYNC_DBG_COUNT | SYNC_SPIN_CORE_US
  | SYNC_SPIN_SPOKE_US | SYNC_CTRL | SYNC_AUDIT | HUB_COLL_EVENT | HUB_COLL_LOG_0 | HUB_COLL_LOG_1 | HUB_COLL_LOG_CLR
  | HUB_COLL_STATUS | HUB_MEMBER_MISSING_COUNT | HUB_SIG_MISMATCH_COUNT | HUB_LATE_CONTRIB_COUNT
  | HUB_WITHDRAW_TX_COUNT | HUB_WITHDRAW_RX_COUNT | HUB_COLL_CTRL | LNK_PORT_EN | LNK_EVENT | LNK_FAULT_LOG_0
  | LNK_FAULT_LOG_1 | LNK_LOG_CLR | LNK_CONSEQ_COUNT | LNK_FAULT_OP_COUNT | LNK_NOTICE_TX_COUNT | LNK_NOTICE_RX_COUNT
  | LNK_BRIDGE_STATUS | LNK_DETOUR_CFG | LNK_BRIDGE_FAULT_COUNT | LNK_ISO_ITEM_COUNT | LNK_CTRL | LNK_PORT_STATUS
  | LNK_PORT_CTRL | LNK_CRC_ERR_COUNT | LNK_REPLAY_COUNT | LNK_EXHAUST_COUNT | LNK_FEC_CORR_COUNT
  | LNK_FEC_UNCORR_COUNT | LNK_TRAIN_FAIL_COUNT | FAB_STATUS | FAB_NODE_UP | FAB_EVENT | FAB_ROB_PEAK
  | FAB_TTL_DROP_COUNT | FAB_E2E_RESEND_COUNT | FAB_GAP_COUNT | FAB_ROB_DIRECT_COUNT | FAB_FENCE_DROP_COUNT
  | FAB_TREE_SWITCH_COUNT | FAB_UNREACH_COUNT | FAB_NODE_DOWN_COUNT | FAB_CTRL | TLY_CFG | TLY_UDP_PORTS
  | TLY_PORT_IP | TLY_STATUS | TLY_EVENT | TLY_AREA_BASE_LO | TLY_AREA_BASE_HI | TLY_AREA_CFG | TLY_FWD_BASE_LO
  | TLY_FWD_BASE_HI | TLY_FWD_CFG | TLY_FWD_TAIL | TLY_FWD_HEAD | TLY_RX_0_COUNT | TLY_RX_1_COUNT
  | TLY_NOT_MEAS_COUNT | TLY_MALFORMED_COUNT | TLY_CORRUPT_COUNT | TLY_CMD_DROP_COUNT | TLY_FWD_COUNT
  | TLY_FWD_DROP_COUNT | TLY_UNKNOWN_COUNT | TLY_INACTIVE_COUNT | TLY_INTERLEAVED_COUNT | TLY_ORPHAN_COUNT
  | TLY_TRUNCATED_COUNT | TLY_STALE_COUNT | TLY_EARLY_COUNT | TLY_REPEAT_COUNT | TLY_OLD_COUNT | TLY_GAP_COUNT
  | TLY_MISSED_COUNT | TLY_DROPPED_COUNT | TLY_CTRL | TLY_STREAM_W0 | TLY_STREAM_W1 | TLY_STREAM_W2 | TLY_STREAM_W3
  | LDG_STATUS | LDG_EVENT | LDG_ADMIT | LDG_ADMIT_RESULT | LDG_REFUSE_LOG | LDG_ADMIT_COUNT | LDG_REFUSE_COUNT
  | LDG_CANCEL_COUNT | LDG_EXPIRE_COUNT | LDG_OUT_DROP_COUNT | LDG_STEP_FAIL_COUNT | LDG_UPDATE_LATE_COUNT
  | LDG_STALL_TICKS_COUNT | LDG_CTRL | LDG_ORDER_ADMIT | LDG_ORDER_RESULT | LDG_OUT_BASE_LO | LDG_OUT_BASE_HI
  | LDG_OUT_CFG | LDG_OUT_TAIL | LDG_OUT_HEAD | LDG_KV_FREE | LDG_SLOTS_LIVE | LDG_OUT_SLOT_BYTES | LDG_SLOT
  | MSK_EVENT | MSK_AUTO_CTRL | MSK_AUTO_STATUS | MSK_HOST_LATE_COUNT | MSK_HOST_REFUSE_COUNT | MSK_MASK_END_COUNT
  | MSK_SPEC_ROUNDS_COUNT | MSK_SPEC_ACCEPT_COUNT | MSK_ADAPTER_REFUSE_COUNT | MSK_SHIP_FAIL_COUNT
  | MSK_ORDER_REFUSE_COUNT | MSK_CTRL | MSK_SAMPLE_BASE_LO | MSK_SAMPLE_BASE_HI | MSK_RETURN_BASE_LO
  | MSK_RETURN_BASE_HI | MSK_AUTO_W0 | MSK_AUTO_W1 | MSK_AUTO_W2 | MSK_AUTO_W3 | MSK_AUTO_W4 | MSK_AUTO_W5
  | MSK_AUTO_W6 | MSK_AUTO_W7 | MSK_ADAPTER_W0 | MSK_ADAPTER_W1 | MSK_ADAPTER_W2 | MSK_ADAPTER_W3 | MSK_SLOT_STATE
  | BKG_CFG | BKG_STATUS | BKG_EVENT | BKG_HBM_UE_LOG_LO | BKG_HBM_UE_LOG_HI | BKG_CSRAM_UE_LOG | BKG_LOG_CLR
  | BKG_HBM_CE_COUNT | BKG_HBM_UE_COUNT | BKG_CSRAM_CE_COUNT | BKG_CSRAM_UE_COUNT | BKG_TABLE_CE_COUNT
  | BKG_TABLE_UE_COUNT | BKG_RECAL_DONE_COUNT | BKG_RECAL_FAIL_COUNT | BKG_RECAL_SKIP_COUNT | BKG_LOG_DROP_COUNT
  | BKG_TELEM_OVF_COUNT | BKG_SECTOR_RETIRED_COUNT | BKG_PASS_HBM | BKG_PASS_CSRAM | BKG_PASS_HSRAM | BKG_PASS_CS
  | BKG_PASS_TABLE | BKG_LOG_WPTR | BKG_LOG_USABLE | BKG_TELEM_IDX | BKG_CTRL | BKG_TIMER_COMPARE | BKG_TIMER_COUNT
  | BKG_TIMER_RUN | HST_IDENT | HST_PCIE_STATUS | HST_EVENT | HST_ALERT_STATUS | HST_BAD_ACCESS_COUNT
  | HST_IDE_FAIL_COUNT | HST_PLDM_EVENT_DROP_COUNT | HST_UPDATE_STATUS | HST_MCTP_EID | HST_CTRL | HST_LOG_ADDR
  | HST_LOG_STATUS | HST_STRAP | HST_BOOT_STATUS | HST_BOOT_CTRL | HST_BOOT_FAIL | HST_IMAGE_SEQ | HST_BOOT_ELAPSED
  | HST_DOORBELL_EARLY_COUNT | HST_BOOT_INGEST_DROP | HST_BOOT_HWFAIL | HST_SVN | HST_IMAGE_DIGEST | HST_LOG_DATA
  | PWR_LIMIT | PWR_STATUS | PWR_EVENT | PWR_THERM_CFG | PWR_TICK_MEAN_W | PWR_TICK_ENERGY_UJ | PWR_PEAK_W
  | PWR_RESET_CAUSE | PWR_TEMP_CDIE | PWR_TEMP_IDIE | PWR_TEMP_HBM | PWR_LIMIT_TICK_COUNT | PWR_THERM_WARN_COUNT
  | PWR_THERM_CRIT_COUNT | PWR_CTRL | HUB_SEGCFG | HUB_EVENT | HUB_SRAM_CE_COUNT | HUB_SRAM_UE_COUNT
  | HUB_CREDIT_VIOL_COUNT | HUB_HELD_PEAK | HUB_CTRL | HUB_STRM_CFG | HUB_STRM_BASE | HUB_STRM_SIZE | HUB_STRM_STAT
  | SPK_STATE | SPK_CONT | SPK_RESTART_COUNT | SPK_LAST_CAUSE | SPK_LS_MISS_COUNT | SPK_EVENT | SPK_UCODE_ID
  | SPK_ILLEGAL_LOG | SPK_LOG_CLR | SPK_CS_CE_COUNT | SPK_CS_UE_COUNT | SPK_RELOAD_COUNT | SPK_ILLEGAL_COUNT
  | SPK_CS_BAD | SPK_CTRL | SPK_CS_WINDOW | anyRegister
  deriving DecidableEq, Repr

/-- A field or a memory of the state stays as it was; a register place says nothing here. A byte memory stays as it was
when every byte of it reads as before. -/
def Place.same (s s' : State) : Place → Prop
  | .build => s'.build = s.build
  | .straps => s'.straps = s.straps
  | .boot => s'.boot = s.boot
  | .fuses => s'.fuses = s.fuses
  | .clock => s'.clock = s.clock
  | .tbu => s'.tbu = s.tbu
  | .latches => s'.latches = s.latches
  | .sched => s'.sched = s.sched
  | .queues => s'.queues = s.queues
  | .tags => s'.tags = s.tags
  | .nextSlot => s'.nextSlot = s.nextSlot
  | .readWait => s'.readWait = s.readWait
  | .sup => s'.sup = s.sup
  | .fence => s'.fence = s.fence
  | .heldWrites => s'.heldWrites = s.heldWrites
  | .heldPackets => s'.heldPackets = s.heldPackets
  | .part => s'.part = s.part
  | .sync => s'.sync = s.sync
  | .ports => s'.ports = s.ports
  | .bridge => s'.bridge = s.bridge
  | .fab => s'.fab = s.fab
  | .faults => s'.faults = s.faults
  | .hubs => s'.hubs = s.hubs
  | .tally => s'.tally = s.tally
  | .ledger => s'.ledger = s.ledger
  | .bkg => s'.bkg = s.bkg
  | .host => s'.host = s.host
  | .power => s'.power = s.power
  | .logBuf => s'.logBuf = s.logBuf
  | .logSeq => s'.logSeq = s.logSeq
  | .pldmQ => s'.pldmQ = s.pldmQ
  | .pldmReceiver => s'.pldmReceiver = s.pldmReceiver
  | .msixUnmasked => s'.msixUnmasked = s.msixUnmasked
  | .msixPending => s'.msixPending = s.msixPending
  | .msixTable => s'.msixTable = s.msixTable
  | .out => s'.out = s.out
  | .free => s'.free = s.free
  | .pending => s'.pending = s.pending
  | .moduleMemory => ∀ a, Mem.read 0#8 s'.mems.mem a = Mem.read 0#8 s.mems.mem a
  | .hostMemory => ∀ a, Mem.read 0#8 s'.mems.host a = Mem.read 0#8 s.mems.host a
  | .coreSram => ∀ a, Mem.read 0#8 s'.mems.csram a = Mem.read 0#8 s.mems.csram a
  | .hubSram => ∀ a, Mem.read 0#8 s'.mems.hsram a = Mem.read 0#8 s.mems.hsram a
  | .flashMemory => ∀ a, Mem.read 0xFF#8 s'.mems.flash a = Mem.read 0xFF#8 s.mems.flash a
  | .supData => ∀ a, Mem.read 0#8 s'.mems.supData a = Mem.read 0#8 s.mems.supData a
  | .supCode => ∀ a, Mem.read 0#8 s'.mems.supCode a = Mem.read 0#8 s.mems.supCode a
  | .poisonMem => s'.mems.poisonMem = s.mems.poisonMem
  | .poisonCsram => s'.mems.poisonCsram = s.mems.poisonCsram
  | .poisonHsram => s'.mems.poisonHsram = s.mems.poisonHsram
  | _ => True

/-- The registers of a place: the register at `a` is the one the place names, or one of its row. -/
def Place.covers (a : Nat) : Place → Prop
  | .TBU_CFG => a = Reg.TBU_CFG
  | .TBU_LIMITS => a = Reg.TBU_LIMITS
  | .TBU_COMP => a = Reg.TBU_COMP
  | .TBU_QUALITY => a = Reg.TBU_QUALITY
  | .TBU_BOUND_NS => a = Reg.TBU_BOUND_NS
  | .TBU_OFFSET_NS => a = Reg.TBU_OFFSET_NS
  | .TBU_FREQ_CORR => a = Reg.TBU_FREQ_CORR
  | .TBU_SNAP_CTRL => a = Reg.TBU_SNAP_CTRL
  | .TBU_SNAP => ∃ i, a = Reg.TBU_SNAP i
  | .TBU_FW_ELAPSED => a = Reg.TBU_FW_ELAPSED
  | .TBU_UTC_OFFSET => a = Reg.TBU_UTC_OFFSET
  | .TBU_LABEL_LO => a = Reg.TBU_LABEL_LO
  | .TBU_LABEL_HI => a = Reg.TBU_LABEL_HI
  | .TBU_SEED_LO => a = Reg.TBU_SEED_LO
  | .TBU_SEED_HI => a = Reg.TBU_SEED_HI
  | .TBU_LAST_STEP_LO => a = Reg.TBU_LAST_STEP_LO
  | .TBU_LAST_STEP_HI => a = Reg.TBU_LAST_STEP_HI
  | .TBU_EVENT => a = Reg.TBU_EVENT
  | .TBU_BOUND_EXCEED_COUNT => a = Reg.TBU_BOUND_EXCEED_COUNT
  | .TBU_LABEL_IGNORED_COUNT => a = Reg.TBU_LABEL_IGNORED_COUNT
  | .TBU_CTRL => a = Reg.TBU_CTRL
  | .TICK_CFG => a = Reg.TICK_CFG
  | .TICK_EPOCHCFG => a = Reg.TICK_EPOCHCFG
  | .TICK_STATUS => a = Reg.TICK_STATUS
  | .TICK_SEQ_LO => a = Reg.TICK_SEQ_LO
  | .TICK_SEQ_HI => a = Reg.TICK_SEQ_HI
  | .TICK_INDEX_LO => a = Reg.TICK_INDEX_LO
  | .TICK_INDEX_HI => a = Reg.TICK_INDEX_HI
  | .TICK_EPOCH_LO => a = Reg.TICK_EPOCH_LO
  | .TICK_EPOCH_HI => a = Reg.TICK_EPOCH_HI
  | .TICK_STRETCH_NS => a = Reg.TICK_STRETCH_NS
  | .TICK_LATE_COUNT => a = Reg.TICK_LATE_COUNT
  | .TICK_OVERRUN_COUNT => a = Reg.TICK_OVERRUN_COUNT
  | .TICK_SKIP_COUNT => a = Reg.TICK_SKIP_COUNT
  | .TICK_SCHED_LATE_COUNT => a = Reg.TICK_SCHED_LATE_COUNT
  | .TICK_SCHED_REJECT_COUNT => a = Reg.TICK_SCHED_REJECT_COUNT
  | .TICK_CTRL => a = Reg.TICK_CTRL
  | .TICK_EVENT => a = Reg.TICK_EVENT
  | .TICK_OVL_CTRL => a = Reg.TICK_OVL_CTRL
  | .TICK_OVL_COUNT => a = Reg.TICK_OVL_COUNT
  | .TICK_OVL_TARGET_LO => a = Reg.TICK_OVL_TARGET_LO
  | .TICK_OVL_TARGET_HI => a = Reg.TICK_OVL_TARGET_HI
  | .TICK_OVL_STATUS => a = Reg.TICK_OVL_STATUS
  | .TICK_EPOCH_REC_0 => a = Reg.TICK_EPOCH_REC_0
  | .TICK_EPOCH_REC_1 => a = Reg.TICK_EPOCH_REC_1
  | .TICK_EPOCH_REC_2 => a = Reg.TICK_EPOCH_REC_2
  | .TICK_EPOCH_REC_3 => a = Reg.TICK_EPOCH_REC_3
  | .TICK_OVL_WINDOW => ∃ i, a = Reg.TICK_OVL_WINDOW i
  | .SUP_STATUS => a = Reg.SUP_STATUS
  | .SUP_WDOG_CFG => a = Reg.SUP_WDOG_CFG
  | .SUP_WDOG_KICK => a = Reg.SUP_WDOG_KICK
  | .SUP_RESET_CAUSE => a = Reg.SUP_RESET_CAUSE
  | .SUP_CHECK_STATUS => a = Reg.SUP_CHECK_STATUS
  | .SUP_FW_VERSION => a = Reg.SUP_FW_VERSION
  | .SUP_RESET_COUNT => a = Reg.SUP_RESET_COUNT
  | .SUP_MISMATCH_COUNT => a = Reg.SUP_MISMATCH_COUNT
  | .SUP_KICK_BAD_COUNT => a = Reg.SUP_KICK_BAD_COUNT
  | .SUP_OVERLAY_HELD_COUNT => a = Reg.SUP_OVERLAY_HELD_COUNT
  | .SUP_CTRL => a = Reg.SUP_CTRL
  | .FENCE_STATUS => a = Reg.FENCE_STATUS
  | .FENCE_EVENT => a = Reg.FENCE_EVENT
  | .FENCE_VLOG_0 => a = Reg.FENCE_VLOG_0
  | .FENCE_VLOG_1 => a = Reg.FENCE_VLOG_1
  | .FENCE_VLOG_CLR => a = Reg.FENCE_VLOG_CLR
  | .FENCE_PART_ACTIVE => a = Reg.FENCE_PART_ACTIVE
  | .FENCE_EGRESS_FLOOR => a = Reg.FENCE_EGRESS_FLOOR
  | .FENCE_PART_INIT => a = Reg.FENCE_PART_INIT
  | .FENCE_EGRESS_CEIL => ∃ i, a = Reg.FENCE_EGRESS_CEIL i
  | .FENCE_EGRESS_CAP => ∃ i, a = Reg.FENCE_EGRESS_CAP i
  | .FENCE_EGRESS_USED_AETHIL => ∃ i, a = Reg.FENCE_EGRESS_USED_AETHIL i
  | .FENCE_EGRESS_USED_PCIE => ∃ i, a = Reg.FENCE_EGRESS_USED_PCIE i
  | .FENCE_COUNT_PART => a = Reg.FENCE_COUNT_PART
  | .FENCE_COUNT_TIME => a = Reg.FENCE_COUNT_TIME
  | .FENCE_COUNT_UCODE => a = Reg.FENCE_COUNT_UCODE
  | .FENCE_COUNT_WINDOW => a = Reg.FENCE_COUNT_WINDOW
  | .FENCE_COUNT_LOCK => a = Reg.FENCE_COUNT_LOCK
  | .FENCE_COUNT_EGRESS => a = Reg.FENCE_COUNT_EGRESS
  | .FENCE_CTRL => a = Reg.FENCE_CTRL
  | .PART_KEY => ∃ i, a = Reg.PART_KEY i
  | .PART_CFG => a = Reg.PART_CFG
  | .PART_STATUS => a = Reg.PART_STATUS
  | .PART_EVENT => a = Reg.PART_EVENT
  | .PART_REJECT_LOG_0 => a = Reg.PART_REJECT_LOG_0
  | .PART_REJECT_LOG_1 => a = Reg.PART_REJECT_LOG_1
  | .PART_LOG_CLR => a = Reg.PART_LOG_CLR
  | .PART_PORT_ALLOW => ∃ i, a = Reg.PART_PORT_ALLOW i
  | .PART_REJECT_PORT_COUNT => ∃ i, a = Reg.PART_REJECT_PORT_COUNT i
  | .PART_REJECT_HUB_COUNT => a = Reg.PART_REJECT_HUB_COUNT
  | .PART_REJECT_SYNC_COUNT => a = Reg.PART_REJECT_SYNC_COUNT
  | .PART_NOTICE_TX_COUNT => a = Reg.PART_NOTICE_TX_COUNT
  | .PART_NOTICE_RX_COUNT => a = Reg.PART_NOTICE_RX_COUNT
  | .PART_CTRL => a = Reg.PART_CTRL
  | .WQ_STATUS => a = Reg.WQ_STATUS
  | .WQ_EVENT => a = Reg.WQ_EVENT
  | .WQ_LATE_CPL_COUNT => a = Reg.WQ_LATE_CPL_COUNT
  | .WQ_DESC_INVALID_COUNT => a = Reg.WQ_DESC_INVALID_COUNT
  | .WQ_NOT_ADMITTED_COUNT => a = Reg.WQ_NOT_ADMITTED_COUNT
  | .WQ_ABORTED_COUNT => a = Reg.WQ_ABORTED_COUNT
  | .WQ_POISONED_COUNT => a = Reg.WQ_POISONED_COUNT
  | .WQ_DB_REFUSED_COUNT => a = Reg.WQ_DB_REFUSED_COUNT
  | .WQ_STANDING_UNREPORTED_COUNT => a = Reg.WQ_STANDING_UNREPORTED_COUNT
  | .WQ_TAG_QUARANTINED => a = Reg.WQ_TAG_QUARANTINED
  | .WQ_CTRL => a = Reg.WQ_CTRL
  | .WQ_Q_SQ_BASE_LO => ∃ i, a = Reg.WQ_Q_SQ_BASE_LO i
  | .WQ_Q_SQ_BASE_HI => ∃ i, a = Reg.WQ_Q_SQ_BASE_HI i
  | .WQ_Q_CQ_BASE_LO => ∃ i, a = Reg.WQ_Q_CQ_BASE_LO i
  | .WQ_Q_CQ_BASE_HI => ∃ i, a = Reg.WQ_Q_CQ_BASE_HI i
  | .WQ_Q_CFG => ∃ i, a = Reg.WQ_Q_CFG i
  | .WQ_Q_CTRL => ∃ i, a = Reg.WQ_Q_CTRL i
  | .WQ_Q_STATUS => ∃ i, a = Reg.WQ_Q_STATUS i
  | .WQ_Q_INDEX => ∃ i, a = Reg.WQ_Q_INDEX i
  | .WQ_Q_CQ_HEAD => ∃ i, a = Reg.WQ_Q_CQ_HEAD i
  | .WQ_Q_CACHE_IDX_0 => ∃ i, a = Reg.WQ_Q_CACHE_IDX_0 i
  | .WQ_Q_CACHE_IDX_1 => ∃ i, a = Reg.WQ_Q_CACHE_IDX_1 i
  | .WQ_Q_CACHE_IDX_2 => ∃ i, a = Reg.WQ_Q_CACHE_IDX_2 i
  | .WQ_Q_CACHE_IDX_3 => ∃ i, a = Reg.WQ_Q_CACHE_IDX_3 i
  | .WQ_CACHE => ∃ i, a = Reg.WQ_CACHE i
  | .WQ_DB_SQ_TAIL => ∃ i, a = Reg.WQ_DB_SQ_TAIL i
  | .WQ_DB_CQ_HEAD => ∃ i, a = Reg.WQ_DB_CQ_HEAD i
  | .WQ_DB_STATUS => ∃ i, a = Reg.WQ_DB_STATUS i
  | .SYNC_STATE => ∃ i, a = Reg.SYNC_STATE i
  | .SYNC_DBG_OP => a = Reg.SYNC_DBG_OP
  | .SYNC_STATUS => a = Reg.SYNC_STATUS
  | .SYNC_EVENT => a = Reg.SYNC_EVENT
  | .SYNC_FAULT_LOG => a = Reg.SYNC_FAULT_LOG
  | .SYNC_LOG_CLR => a = Reg.SYNC_LOG_CLR
  | .SYNC_OVERFLOW_COUNT => a = Reg.SYNC_OVERFLOW_COUNT
  | .SYNC_UNDERFLOW_COUNT => a = Reg.SYNC_UNDERFLOW_COUNT
  | .SYNC_DBG_COUNT => a = Reg.SYNC_DBG_COUNT
  | .SYNC_SPIN_CORE_US => a = Reg.SYNC_SPIN_CORE_US
  | .SYNC_SPIN_SPOKE_US => a = Reg.SYNC_SPIN_SPOKE_US
  | .SYNC_CTRL => a = Reg.SYNC_CTRL
  | .SYNC_AUDIT => ∃ i, a = Reg.SYNC_AUDIT i
  | .HUB_COLL_EVENT => a = Reg.HUB_COLL_EVENT
  | .HUB_COLL_LOG_0 => a = Reg.HUB_COLL_LOG_0
  | .HUB_COLL_LOG_1 => a = Reg.HUB_COLL_LOG_1
  | .HUB_COLL_LOG_CLR => a = Reg.HUB_COLL_LOG_CLR
  | .HUB_COLL_STATUS => a = Reg.HUB_COLL_STATUS
  | .HUB_MEMBER_MISSING_COUNT => a = Reg.HUB_MEMBER_MISSING_COUNT
  | .HUB_SIG_MISMATCH_COUNT => a = Reg.HUB_SIG_MISMATCH_COUNT
  | .HUB_LATE_CONTRIB_COUNT => a = Reg.HUB_LATE_CONTRIB_COUNT
  | .HUB_WITHDRAW_TX_COUNT => a = Reg.HUB_WITHDRAW_TX_COUNT
  | .HUB_WITHDRAW_RX_COUNT => a = Reg.HUB_WITHDRAW_RX_COUNT
  | .HUB_COLL_CTRL => a = Reg.HUB_COLL_CTRL
  | .LNK_PORT_EN => a = Reg.LNK_PORT_EN
  | .LNK_EVENT => a = Reg.LNK_EVENT
  | .LNK_FAULT_LOG_0 => a = Reg.LNK_FAULT_LOG_0
  | .LNK_FAULT_LOG_1 => a = Reg.LNK_FAULT_LOG_1
  | .LNK_LOG_CLR => a = Reg.LNK_LOG_CLR
  | .LNK_CONSEQ_COUNT => a = Reg.LNK_CONSEQ_COUNT
  | .LNK_FAULT_OP_COUNT => a = Reg.LNK_FAULT_OP_COUNT
  | .LNK_NOTICE_TX_COUNT => a = Reg.LNK_NOTICE_TX_COUNT
  | .LNK_NOTICE_RX_COUNT => a = Reg.LNK_NOTICE_RX_COUNT
  | .LNK_BRIDGE_STATUS => a = Reg.LNK_BRIDGE_STATUS
  | .LNK_DETOUR_CFG => a = Reg.LNK_DETOUR_CFG
  | .LNK_BRIDGE_FAULT_COUNT => a = Reg.LNK_BRIDGE_FAULT_COUNT
  | .LNK_ISO_ITEM_COUNT => a = Reg.LNK_ISO_ITEM_COUNT
  | .LNK_CTRL => a = Reg.LNK_CTRL
  | .LNK_PORT_STATUS => ∃ i, a = Reg.LNK_PORT_STATUS i
  | .LNK_PORT_CTRL => ∃ i, a = Reg.LNK_PORT_CTRL i
  | .LNK_CRC_ERR_COUNT => ∃ i, a = Reg.LNK_CRC_ERR_COUNT i
  | .LNK_REPLAY_COUNT => ∃ i, a = Reg.LNK_REPLAY_COUNT i
  | .LNK_EXHAUST_COUNT => ∃ i, a = Reg.LNK_EXHAUST_COUNT i
  | .LNK_FEC_CORR_COUNT => ∃ i, a = Reg.LNK_FEC_CORR_COUNT i
  | .LNK_FEC_UNCORR_COUNT => ∃ i, a = Reg.LNK_FEC_UNCORR_COUNT i
  | .LNK_TRAIN_FAIL_COUNT => ∃ i, a = Reg.LNK_TRAIN_FAIL_COUNT i
  | .FAB_STATUS => a = Reg.FAB_STATUS
  | .FAB_NODE_UP => a = Reg.FAB_NODE_UP
  | .FAB_EVENT => a = Reg.FAB_EVENT
  | .FAB_ROB_PEAK => ∃ i, a = Reg.FAB_ROB_PEAK i
  | .FAB_TTL_DROP_COUNT => a = Reg.FAB_TTL_DROP_COUNT
  | .FAB_E2E_RESEND_COUNT => a = Reg.FAB_E2E_RESEND_COUNT
  | .FAB_GAP_COUNT => a = Reg.FAB_GAP_COUNT
  | .FAB_ROB_DIRECT_COUNT => a = Reg.FAB_ROB_DIRECT_COUNT
  | .FAB_FENCE_DROP_COUNT => a = Reg.FAB_FENCE_DROP_COUNT
  | .FAB_TREE_SWITCH_COUNT => a = Reg.FAB_TREE_SWITCH_COUNT
  | .FAB_UNREACH_COUNT => a = Reg.FAB_UNREACH_COUNT
  | .FAB_NODE_DOWN_COUNT => a = Reg.FAB_NODE_DOWN_COUNT
  | .FAB_CTRL => a = Reg.FAB_CTRL
  | .TLY_CFG => a = Reg.TLY_CFG
  | .TLY_UDP_PORTS => a = Reg.TLY_UDP_PORTS
  | .TLY_PORT_IP => ∃ i, a = Reg.TLY_PORT_IP i
  | .TLY_STATUS => a = Reg.TLY_STATUS
  | .TLY_EVENT => a = Reg.TLY_EVENT
  | .TLY_AREA_BASE_LO => ∃ i, a = Reg.TLY_AREA_BASE_LO i
  | .TLY_AREA_BASE_HI => ∃ i, a = Reg.TLY_AREA_BASE_HI i
  | .TLY_AREA_CFG => ∃ i, a = Reg.TLY_AREA_CFG i
  | .TLY_FWD_BASE_LO => ∃ i, a = Reg.TLY_FWD_BASE_LO i
  | .TLY_FWD_BASE_HI => ∃ i, a = Reg.TLY_FWD_BASE_HI i
  | .TLY_FWD_CFG => ∃ i, a = Reg.TLY_FWD_CFG i
  | .TLY_FWD_TAIL => ∃ i, a = Reg.TLY_FWD_TAIL i
  | .TLY_FWD_HEAD => ∃ i, a = Reg.TLY_FWD_HEAD i
  | .TLY_RX_0_COUNT => a = Reg.TLY_RX_0_COUNT
  | .TLY_RX_1_COUNT => a = Reg.TLY_RX_1_COUNT
  | .TLY_NOT_MEAS_COUNT => a = Reg.TLY_NOT_MEAS_COUNT
  | .TLY_MALFORMED_COUNT => a = Reg.TLY_MALFORMED_COUNT
  | .TLY_CORRUPT_COUNT => a = Reg.TLY_CORRUPT_COUNT
  | .TLY_CMD_DROP_COUNT => a = Reg.TLY_CMD_DROP_COUNT
  | .TLY_FWD_COUNT => a = Reg.TLY_FWD_COUNT
  | .TLY_FWD_DROP_COUNT => a = Reg.TLY_FWD_DROP_COUNT
  | .TLY_UNKNOWN_COUNT => a = Reg.TLY_UNKNOWN_COUNT
  | .TLY_INACTIVE_COUNT => a = Reg.TLY_INACTIVE_COUNT
  | .TLY_INTERLEAVED_COUNT => a = Reg.TLY_INTERLEAVED_COUNT
  | .TLY_ORPHAN_COUNT => a = Reg.TLY_ORPHAN_COUNT
  | .TLY_TRUNCATED_COUNT => a = Reg.TLY_TRUNCATED_COUNT
  | .TLY_STALE_COUNT => a = Reg.TLY_STALE_COUNT
  | .TLY_EARLY_COUNT => a = Reg.TLY_EARLY_COUNT
  | .TLY_REPEAT_COUNT => a = Reg.TLY_REPEAT_COUNT
  | .TLY_OLD_COUNT => a = Reg.TLY_OLD_COUNT
  | .TLY_GAP_COUNT => a = Reg.TLY_GAP_COUNT
  | .TLY_MISSED_COUNT => a = Reg.TLY_MISSED_COUNT
  | .TLY_DROPPED_COUNT => a = Reg.TLY_DROPPED_COUNT
  | .TLY_CTRL => a = Reg.TLY_CTRL
  | .TLY_STREAM_W0 => ∃ i, a = Reg.TLY_STREAM_W0 i
  | .TLY_STREAM_W1 => ∃ i, a = Reg.TLY_STREAM_W1 i
  | .TLY_STREAM_W2 => ∃ i, a = Reg.TLY_STREAM_W2 i
  | .TLY_STREAM_W3 => ∃ i, a = Reg.TLY_STREAM_W3 i
  | .LDG_STATUS => a = Reg.LDG_STATUS
  | .LDG_EVENT => a = Reg.LDG_EVENT
  | .LDG_ADMIT => a = Reg.LDG_ADMIT
  | .LDG_ADMIT_RESULT => a = Reg.LDG_ADMIT_RESULT
  | .LDG_REFUSE_LOG => a = Reg.LDG_REFUSE_LOG
  | .LDG_ADMIT_COUNT => a = Reg.LDG_ADMIT_COUNT
  | .LDG_REFUSE_COUNT => a = Reg.LDG_REFUSE_COUNT
  | .LDG_CANCEL_COUNT => a = Reg.LDG_CANCEL_COUNT
  | .LDG_EXPIRE_COUNT => a = Reg.LDG_EXPIRE_COUNT
  | .LDG_OUT_DROP_COUNT => a = Reg.LDG_OUT_DROP_COUNT
  | .LDG_STEP_FAIL_COUNT => a = Reg.LDG_STEP_FAIL_COUNT
  | .LDG_UPDATE_LATE_COUNT => a = Reg.LDG_UPDATE_LATE_COUNT
  | .LDG_STALL_TICKS_COUNT => a = Reg.LDG_STALL_TICKS_COUNT
  | .LDG_CTRL => a = Reg.LDG_CTRL
  | .LDG_ORDER_ADMIT => a = Reg.LDG_ORDER_ADMIT
  | .LDG_ORDER_RESULT => a = Reg.LDG_ORDER_RESULT
  | .LDG_OUT_BASE_LO => ∃ i, a = Reg.LDG_OUT_BASE_LO i
  | .LDG_OUT_BASE_HI => ∃ i, a = Reg.LDG_OUT_BASE_HI i
  | .LDG_OUT_CFG => ∃ i, a = Reg.LDG_OUT_CFG i
  | .LDG_OUT_TAIL => ∃ i, a = Reg.LDG_OUT_TAIL i
  | .LDG_OUT_HEAD => ∃ i, a = Reg.LDG_OUT_HEAD i
  | .LDG_KV_FREE => ∃ i, a = Reg.LDG_KV_FREE i
  | .LDG_SLOTS_LIVE => ∃ i, a = Reg.LDG_SLOTS_LIVE i
  | .LDG_OUT_SLOT_BYTES => ∃ i, a = Reg.LDG_OUT_SLOT_BYTES i
  | .LDG_SLOT => ∃ i, a = Reg.LDG_SLOT i
  | .MSK_EVENT => a = Reg.MSK_EVENT
  | .MSK_AUTO_CTRL => a = Reg.MSK_AUTO_CTRL
  | .MSK_AUTO_STATUS => a = Reg.MSK_AUTO_STATUS
  | .MSK_HOST_LATE_COUNT => a = Reg.MSK_HOST_LATE_COUNT
  | .MSK_HOST_REFUSE_COUNT => a = Reg.MSK_HOST_REFUSE_COUNT
  | .MSK_MASK_END_COUNT => a = Reg.MSK_MASK_END_COUNT
  | .MSK_SPEC_ROUNDS_COUNT => a = Reg.MSK_SPEC_ROUNDS_COUNT
  | .MSK_SPEC_ACCEPT_COUNT => a = Reg.MSK_SPEC_ACCEPT_COUNT
  | .MSK_ADAPTER_REFUSE_COUNT => a = Reg.MSK_ADAPTER_REFUSE_COUNT
  | .MSK_SHIP_FAIL_COUNT => a = Reg.MSK_SHIP_FAIL_COUNT
  | .MSK_ORDER_REFUSE_COUNT => a = Reg.MSK_ORDER_REFUSE_COUNT
  | .MSK_CTRL => a = Reg.MSK_CTRL
  | .MSK_SAMPLE_BASE_LO => ∃ i, a = Reg.MSK_SAMPLE_BASE_LO i
  | .MSK_SAMPLE_BASE_HI => ∃ i, a = Reg.MSK_SAMPLE_BASE_HI i
  | .MSK_RETURN_BASE_LO => ∃ i, a = Reg.MSK_RETURN_BASE_LO i
  | .MSK_RETURN_BASE_HI => ∃ i, a = Reg.MSK_RETURN_BASE_HI i
  | .MSK_AUTO_W0 => ∃ i, a = Reg.MSK_AUTO_W0 i
  | .MSK_AUTO_W1 => ∃ i, a = Reg.MSK_AUTO_W1 i
  | .MSK_AUTO_W2 => ∃ i, a = Reg.MSK_AUTO_W2 i
  | .MSK_AUTO_W3 => ∃ i, a = Reg.MSK_AUTO_W3 i
  | .MSK_AUTO_W4 => ∃ i, a = Reg.MSK_AUTO_W4 i
  | .MSK_AUTO_W5 => ∃ i, a = Reg.MSK_AUTO_W5 i
  | .MSK_AUTO_W6 => ∃ i, a = Reg.MSK_AUTO_W6 i
  | .MSK_AUTO_W7 => ∃ i, a = Reg.MSK_AUTO_W7 i
  | .MSK_ADAPTER_W0 => ∃ i, a = Reg.MSK_ADAPTER_W0 i
  | .MSK_ADAPTER_W1 => ∃ i, a = Reg.MSK_ADAPTER_W1 i
  | .MSK_ADAPTER_W2 => ∃ i, a = Reg.MSK_ADAPTER_W2 i
  | .MSK_ADAPTER_W3 => ∃ i, a = Reg.MSK_ADAPTER_W3 i
  | .MSK_SLOT_STATE => ∃ i, a = Reg.MSK_SLOT_STATE i
  | .BKG_CFG => a = Reg.BKG_CFG
  | .BKG_STATUS => a = Reg.BKG_STATUS
  | .BKG_EVENT => a = Reg.BKG_EVENT
  | .BKG_HBM_UE_LOG_LO => a = Reg.BKG_HBM_UE_LOG_LO
  | .BKG_HBM_UE_LOG_HI => a = Reg.BKG_HBM_UE_LOG_HI
  | .BKG_CSRAM_UE_LOG => a = Reg.BKG_CSRAM_UE_LOG
  | .BKG_LOG_CLR => a = Reg.BKG_LOG_CLR
  | .BKG_HBM_CE_COUNT => a = Reg.BKG_HBM_CE_COUNT
  | .BKG_HBM_UE_COUNT => a = Reg.BKG_HBM_UE_COUNT
  | .BKG_CSRAM_CE_COUNT => a = Reg.BKG_CSRAM_CE_COUNT
  | .BKG_CSRAM_UE_COUNT => a = Reg.BKG_CSRAM_UE_COUNT
  | .BKG_TABLE_CE_COUNT => a = Reg.BKG_TABLE_CE_COUNT
  | .BKG_TABLE_UE_COUNT => a = Reg.BKG_TABLE_UE_COUNT
  | .BKG_RECAL_DONE_COUNT => a = Reg.BKG_RECAL_DONE_COUNT
  | .BKG_RECAL_FAIL_COUNT => a = Reg.BKG_RECAL_FAIL_COUNT
  | .BKG_RECAL_SKIP_COUNT => a = Reg.BKG_RECAL_SKIP_COUNT
  | .BKG_LOG_DROP_COUNT => a = Reg.BKG_LOG_DROP_COUNT
  | .BKG_TELEM_OVF_COUNT => a = Reg.BKG_TELEM_OVF_COUNT
  | .BKG_SECTOR_RETIRED_COUNT => a = Reg.BKG_SECTOR_RETIRED_COUNT
  | .BKG_PASS_HBM => a = Reg.BKG_PASS_HBM
  | .BKG_PASS_CSRAM => a = Reg.BKG_PASS_CSRAM
  | .BKG_PASS_HSRAM => a = Reg.BKG_PASS_HSRAM
  | .BKG_PASS_CS => a = Reg.BKG_PASS_CS
  | .BKG_PASS_TABLE => a = Reg.BKG_PASS_TABLE
  | .BKG_LOG_WPTR => a = Reg.BKG_LOG_WPTR
  | .BKG_LOG_USABLE => a = Reg.BKG_LOG_USABLE
  | .BKG_TELEM_IDX => a = Reg.BKG_TELEM_IDX
  | .BKG_CTRL => a = Reg.BKG_CTRL
  | .BKG_TIMER_COMPARE => ∃ i, a = Reg.BKG_TIMER_COMPARE i
  | .BKG_TIMER_COUNT => ∃ i, a = Reg.BKG_TIMER_COUNT i
  | .BKG_TIMER_RUN => ∃ i, a = Reg.BKG_TIMER_RUN i
  | .HST_IDENT => a = Reg.HST_IDENT
  | .HST_PCIE_STATUS => a = Reg.HST_PCIE_STATUS
  | .HST_EVENT => a = Reg.HST_EVENT
  | .HST_ALERT_STATUS => a = Reg.HST_ALERT_STATUS
  | .HST_BAD_ACCESS_COUNT => a = Reg.HST_BAD_ACCESS_COUNT
  | .HST_IDE_FAIL_COUNT => a = Reg.HST_IDE_FAIL_COUNT
  | .HST_PLDM_EVENT_DROP_COUNT => a = Reg.HST_PLDM_EVENT_DROP_COUNT
  | .HST_UPDATE_STATUS => a = Reg.HST_UPDATE_STATUS
  | .HST_MCTP_EID => a = Reg.HST_MCTP_EID
  | .HST_CTRL => a = Reg.HST_CTRL
  | .HST_LOG_ADDR => a = Reg.HST_LOG_ADDR
  | .HST_LOG_STATUS => a = Reg.HST_LOG_STATUS
  | .HST_STRAP => a = Reg.HST_STRAP
  | .HST_BOOT_STATUS => a = Reg.HST_BOOT_STATUS
  | .HST_BOOT_CTRL => a = Reg.HST_BOOT_CTRL
  | .HST_BOOT_FAIL => a = Reg.HST_BOOT_FAIL
  | .HST_IMAGE_SEQ => a = Reg.HST_IMAGE_SEQ
  | .HST_BOOT_ELAPSED => a = Reg.HST_BOOT_ELAPSED
  | .HST_DOORBELL_EARLY_COUNT => a = Reg.HST_DOORBELL_EARLY_COUNT
  | .HST_BOOT_INGEST_DROP => a = Reg.HST_BOOT_INGEST_DROP
  | .HST_BOOT_HWFAIL => a = Reg.HST_BOOT_HWFAIL
  | .HST_SVN => a = Reg.HST_SVN
  | .HST_IMAGE_DIGEST => ∃ i, a = Reg.HST_IMAGE_DIGEST i
  | .HST_LOG_DATA => ∃ i, a = Reg.HST_LOG_DATA i
  | .PWR_LIMIT => a = Reg.PWR_LIMIT
  | .PWR_STATUS => a = Reg.PWR_STATUS
  | .PWR_EVENT => a = Reg.PWR_EVENT
  | .PWR_THERM_CFG => a = Reg.PWR_THERM_CFG
  | .PWR_TICK_MEAN_W => a = Reg.PWR_TICK_MEAN_W
  | .PWR_TICK_ENERGY_UJ => a = Reg.PWR_TICK_ENERGY_UJ
  | .PWR_PEAK_W => a = Reg.PWR_PEAK_W
  | .PWR_RESET_CAUSE => a = Reg.PWR_RESET_CAUSE
  | .PWR_TEMP_CDIE => ∃ i, a = Reg.PWR_TEMP_CDIE i
  | .PWR_TEMP_IDIE => ∃ i, a = Reg.PWR_TEMP_IDIE i
  | .PWR_TEMP_HBM => ∃ i, a = Reg.PWR_TEMP_HBM i
  | .PWR_LIMIT_TICK_COUNT => a = Reg.PWR_LIMIT_TICK_COUNT
  | .PWR_THERM_WARN_COUNT => a = Reg.PWR_THERM_WARN_COUNT
  | .PWR_THERM_CRIT_COUNT => a = Reg.PWR_THERM_CRIT_COUNT
  | .PWR_CTRL => a = Reg.PWR_CTRL
  | .HUB_SEGCFG => ∃ i, a = Reg.HUB_SEGCFG i
  | .HUB_EVENT => ∃ i, a = Reg.HUB_EVENT i
  | .HUB_SRAM_CE_COUNT => ∃ i, a = Reg.HUB_SRAM_CE_COUNT i
  | .HUB_SRAM_UE_COUNT => ∃ i, a = Reg.HUB_SRAM_UE_COUNT i
  | .HUB_CREDIT_VIOL_COUNT => ∃ i, a = Reg.HUB_CREDIT_VIOL_COUNT i
  | .HUB_HELD_PEAK => ∃ i, a = Reg.HUB_HELD_PEAK i
  | .HUB_CTRL => ∃ i, a = Reg.HUB_CTRL i
  | .HUB_STRM_CFG => ∃ i j, a = Reg.HUB_STRM_CFG i j
  | .HUB_STRM_BASE => ∃ i j, a = Reg.HUB_STRM_BASE i j
  | .HUB_STRM_SIZE => ∃ i j, a = Reg.HUB_STRM_SIZE i j
  | .HUB_STRM_STAT => ∃ i j, a = Reg.HUB_STRM_STAT i j
  | .SPK_STATE => ∃ i j, a = Reg.SPK_STATE i j
  | .SPK_CONT => ∃ i j, a = Reg.SPK_CONT i j
  | .SPK_RESTART_COUNT => ∃ i j, a = Reg.SPK_RESTART_COUNT i j
  | .SPK_LAST_CAUSE => ∃ i j, a = Reg.SPK_LAST_CAUSE i j
  | .SPK_LS_MISS_COUNT => ∃ i j, a = Reg.SPK_LS_MISS_COUNT i j
  | .SPK_EVENT => ∃ i, a = Reg.SPK_EVENT i
  | .SPK_UCODE_ID => ∃ i, a = Reg.SPK_UCODE_ID i
  | .SPK_ILLEGAL_LOG => ∃ i, a = Reg.SPK_ILLEGAL_LOG i
  | .SPK_LOG_CLR => ∃ i, a = Reg.SPK_LOG_CLR i
  | .SPK_CS_CE_COUNT => ∃ i, a = Reg.SPK_CS_CE_COUNT i
  | .SPK_CS_UE_COUNT => ∃ i, a = Reg.SPK_CS_UE_COUNT i
  | .SPK_RELOAD_COUNT => ∃ i, a = Reg.SPK_RELOAD_COUNT i
  | .SPK_ILLEGAL_COUNT => ∃ i, a = Reg.SPK_ILLEGAL_COUNT i
  | .SPK_CS_BAD => ∃ i j, a = Reg.SPK_CS_BAD i j
  | .SPK_CTRL => ∃ i, a = Reg.SPK_CTRL i
  | .SPK_CS_WINDOW => ∃ i j, a = Reg.SPK_CS_WINDOW i j
  | .anyRegister => True
  | _ => False

/-- Nothing but the places of the list differs between two states: every other field, every byte of every other memory
and every other register is as before. -/
def ChangesOnly (l : List Place) (s s' : State) : Prop :=
  (∀ q, q ∉ l → q.same s s') ∧ (∀ a, (∀ q ∈ l, ¬ q.covers a) → rd s' a = rd s a)

end Sys2Proof.Machine
end

