-- ==== Sys2Proof/Machine/Changes.lean ====
section
/-! DEFINITION. For every command, the places of the state it may change: its frame. -/

namespace Sys2Proof.Machine

/-- What raising an event may change: the log and PLDM queues, ALERT_N and its balls, MSI-X, and the registers of a
dropped log record or PLDM event. -/
def eventPlaces : List Place := [
  .power, .logBuf, .logSeq, .pldmQ, .msixPending, .out, .BKG_EVENT, .BKG_LOG_DROP_COUNT, .HST_EVENT,
  .HST_ALERT_STATUS, .HST_PLDM_EVENT_DROP_COUNT]

/-- What a Fence refusal may change: its log, counters and event. -/
def refusalPlaces : List Place := eventPlaces ++ [
  .fence, .FENCE_EVENT, .FENCE_VLOG_0, .FENCE_VLOG_1, .FENCE_COUNT_PART, .FENCE_COUNT_TIME, .FENCE_COUNT_UCODE,
  .FENCE_COUNT_WINDOW, .FENCE_COUNT_LOCK, .FENCE_COUNT_EGRESS]

/-- What a write to host memory may change: the memory, the egress account, the held writes, the translations cached. -/
def hostWritePlaces : List Place := refusalPlaces ++ [
  .heldWrites, .host, .hostMemory]

/-- What the end of a queue entry may change: the record it writes, the queue and the fetches that go on. -/
def entryEndPlaces : List Place := hostWritePlaces ++ [
  .queues, .tags, .nextSlot, .readWait, .free, .moduleMemory, .poisonMem, .WQ_EVENT, .WQ_DESC_INVALID_COUNT,
  .WQ_NOT_ADMITTED_COUNT, .WQ_ABORTED_COUNT, .WQ_POISONED_COUNT]

/-- What the end of an item may change: the item and its queue, the record it writes, what depends on it, the collective and
the flows it had, its request, and the routine that is entered after it. -/
def itemEndPlaces : List Place := entryEndPlaces ++ [
  .sched, .sync, .ports, .fab, .hubs, .ledger, .poisonHsram, .TICK_OVERRUN_COUNT, .TICK_SKIP_COUNT,
  .WQ_STANDING_UNREPORTED_COUNT, .SYNC_EVENT, .SYNC_FAULT_LOG, .SYNC_OVERFLOW_COUNT, .SYNC_UNDERFLOW_COUNT,
  .HUB_WITHDRAW_TX_COUNT, .LNK_ISO_ITEM_COUNT, .FAB_UNREACH_COUNT, .LDG_EVENT, .LDG_STEP_FAIL_COUNT,
  .HUB_STRM_STAT, .SPK_RESTART_COUNT, .SPK_LAST_CAUSE, .SPK_EVENT]

/-- What a microword may change: a spoke goes on, stalls, ends its routine or its item. -/
def wordPlaces : List Place := itemEndPlaces ++ [
  .part, .PART_EVENT, .PART_REJECT_LOG_0, .PART_REJECT_LOG_1, .PART_REJECT_SYNC_COUNT, .SPK_LS_MISS_COUNT,
  .SPK_ILLEGAL_LOG, .SPK_CS_CE_COUNT, .SPK_CS_UE_COUNT, .SPK_ILLEGAL_COUNT]

/-- What the loss of a link's traffic may change: the operations that lose it end, their members are left out. -/
def linkFaultPlaces : List Place := itemEndPlaces ++ [
  .heldPackets, .part, .faults, .PART_EVENT, .PART_REJECT_LOG_0, .PART_REJECT_LOG_1, .PART_REJECT_PORT_COUNT,
  .PART_REJECT_HUB_COUNT, .HUB_COLL_EVENT, .HUB_COLL_LOG_0, .HUB_COLL_LOG_1, .HUB_MEMBER_MISSING_COUNT, .LNK_EVENT,
  .LNK_FAULT_LOG_0, .LNK_FAULT_LOG_1, .LNK_CONSEQ_COUNT, .LNK_FAULT_OP_COUNT, .LNK_NOTICE_TX_COUNT,
  .FAB_E2E_RESEND_COUNT, .MSK_EVENT, .MSK_SHIP_FAIL_COUNT]

/-- What a module reset may change: everything but the build, the straps, the fuses, the flash and host memory. -/
def resetPlaces : List Place := [
  .boot, .clock, .tbu, .latches, .sched, .queues, .tags, .nextSlot, .readWait, .sup, .fence, .heldWrites,
  .heldPackets, .part, .sync, .ports, .bridge, .fab, .faults, .hubs, .tally, .ledger, .bkg, .host, .power, .logBuf,
  .logSeq, .pldmQ, .pldmReceiver, .msixUnmasked, .msixPending, .msixTable, .out, .free, .pending, .moduleMemory,
  .coreSram, .hubSram, .supData, .supCode, .poisonMem, .poisonCsram, .poisonHsram, .anyRegister]

/-- The places a command may change. -/
def changes : Instr → List Place
  | .tickEdge _ _ => itemEndPlaces ++ [
      .clock, .tbu, .sup, .heldPackets, .part, .bridge, .faults, .tally, .TICK_LATE_COUNT, .TICK_EPOCH_REC_0,
      .TICK_EPOCH_REC_1, .TICK_EPOCH_REC_2, .TICK_EPOCH_REC_3, .FENCE_EGRESS_USED_AETHIL, .FENCE_EGRESS_USED_PCIE,
      .WQ_Q_SQ_BASE_LO, .WQ_Q_SQ_BASE_HI, .WQ_Q_CQ_BASE_LO, .WQ_Q_CQ_BASE_HI, .WQ_Q_CFG, .SYNC_SPIN_CORE_US,
      .SYNC_SPIN_SPOKE_US, .LNK_EVENT, .FAB_ROB_PEAK, .TLY_TRUNCATED_COUNT, .LDG_STALL_TICKS_COUNT, .MSK_EVENT,
      .MSK_SHIP_FAIL_COUNT, .PWR_STATUS, .PWR_EVENT, .PWR_TICK_MEAN_W, .PWR_TICK_ENERGY_UJ, .PWR_PEAK_W,
      .PWR_TEMP_CDIE, .PWR_TEMP_IDIE, .PWR_TEMP_HBM, .PWR_LIMIT_TICK_COUNT, .PWR_THERM_WARN_COUNT,
      .PWR_THERM_CRIT_COUNT, .HUB_HELD_PEAK]
  | .firstTick _ => itemEndPlaces ++ [
      .boot, .clock, .tbu, .sup, .heldPackets, .part, .bridge, .faults, .tally, .TBU_EVENT, .TICK_LATE_COUNT,
      .TICK_EPOCH_REC_0, .TICK_EPOCH_REC_1, .TICK_EPOCH_REC_2, .TICK_EPOCH_REC_3, .FENCE_EGRESS_USED_AETHIL,
      .FENCE_EGRESS_USED_PCIE, .WQ_Q_SQ_BASE_LO, .WQ_Q_SQ_BASE_HI, .WQ_Q_CQ_BASE_LO, .WQ_Q_CQ_BASE_HI, .WQ_Q_CFG,
      .SYNC_SPIN_CORE_US, .SYNC_SPIN_SPOKE_US, .LNK_EVENT, .FAB_ROB_PEAK, .TLY_TRUNCATED_COUNT,
      .LDG_STALL_TICKS_COUNT, .MSK_EVENT, .MSK_SHIP_FAIL_COUNT, .HST_BOOT_ELAPSED, .PWR_STATUS, .PWR_EVENT,
      .PWR_TICK_MEAN_W, .PWR_TICK_ENERGY_UJ, .PWR_PEAK_W, .PWR_TEMP_CDIE, .PWR_TEMP_IDIE, .PWR_TEMP_HBM,
      .PWR_LIMIT_TICK_COUNT, .PWR_THERM_WARN_COUNT, .PWR_THERM_CRIT_COUNT, .HUB_HELD_PEAK]
  | .maintenanceSlotOpen => eventPlaces ++ [
      .clock, .tbu, .sync, .fab, .free, .TBU_EVENT, .TICK_EPOCH_REC_0, .TICK_EPOCH_REC_1, .TICK_EPOCH_REC_2,
      .TICK_EPOCH_REC_3]
  | .graceDeadline => itemEndPlaces
  | .itemStart _ _ => itemEndPlaces ++ [
      .heldPackets, .part, .coreSram, .PART_EVENT, .PART_REJECT_LOG_0, .PART_REJECT_LOG_1, .PART_REJECT_PORT_COUNT,
      .PART_REJECT_HUB_COUNT, .HUB_COLL_EVENT, .HUB_COLL_LOG_0, .HUB_COLL_LOG_1, .HUB_MEMBER_MISSING_COUNT,
      .MSK_EVENT, .MSK_HOST_LATE_COUNT]
  | .workItemComplete _ _ => itemEndPlaces
  | .overlayCommit _ => entryEndPlaces ++ [
      .sched, .TICK_SCHED_LATE_COUNT, .TICK_SCHED_REJECT_COUNT, .TICK_EVENT, .SUP_OVERLAY_HELD_COUNT]
  | .registerWrite _ _ _ _ _ _ => [
      .boot, .fuses, .clock, .tbu, .sched, .queues, .tags, .nextSlot, .readWait, .sup, .fence, .heldWrites,
      .heldPackets, .part, .sync, .ports, .fab, .faults, .hubs, .tally, .ledger, .bkg, .host, .power, .logBuf,
      .logSeq, .pldmQ, .msixUnmasked, .msixPending, .msixTable, .out, .free, .moduleMemory, .hostMemory,
      .flashMemory, .supData, .poisonMem, .poisonHsram, .anyRegister]
  | .barRefusedAccess _ _ _ => eventPlaces ++ [.HST_BAD_ACCESS_COUNT]
  | .supervisorBusError _ _ => refusalPlaces
  | .ppsInEdge _ _ => eventPlaces ++ [
      .boot, .clock, .tbu, .TBU_EVENT, .TBU_BOUND_EXCEED_COUNT, .TICK_EPOCH_REC_0, .TICK_EPOCH_REC_1,
      .TICK_EPOCH_REC_2, .TICK_EPOCH_REC_3]
  | .ppsInLoss _ => eventPlaces ++ [
      .clock, .tbu, .free, .TBU_EVENT, .TICK_EPOCH_REC_0, .TICK_EPOCH_REC_1, .TICK_EPOCH_REC_2, .TICK_EPOCH_REC_3]
  | .ref10mQualify _ => eventPlaces ++ [
      .clock, .tbu, .TBU_EVENT, .TICK_EPOCH_REC_0, .TICK_EPOCH_REC_1, .TICK_EPOCH_REC_2, .TICK_EPOCH_REC_3]
  | .ref10mLoss _ => eventPlaces ++ [
      .clock, .tbu, .TBU_EVENT, .TICK_EPOCH_REC_0, .TICK_EPOCH_REC_1, .TICK_EPOCH_REC_2, .TICK_EPOCH_REC_3]
  | .ptpSyncRx _ _ _ => eventPlaces ++ [
      .boot, .clock, .tbu, .TBU_EVENT, .TBU_BOUND_EXCEED_COUNT, .TICK_EPOCH_REC_0, .TICK_EPOCH_REC_1,
      .TICK_EPOCH_REC_2, .TICK_EPOCH_REC_3]
  | .ptpAnnounceRx _ _ _ _ _ _ _ _ => eventPlaces ++ [
      .boot, .clock, .tbu, .TBU_EVENT, .TBU_BOUND_EXCEED_COUNT, .TICK_EPOCH_REC_0, .TICK_EPOCH_REC_1,
      .TICK_EPOCH_REC_2, .TICK_EPOCH_REC_3]
  | .ptpLoss _ => eventPlaces ++ [
      .clock, .tbu, .free, .TBU_EVENT, .TICK_EPOCH_REC_0, .TICK_EPOCH_REC_1, .TICK_EPOCH_REC_2, .TICK_EPOCH_REC_3]
  | .ptpMeasurement _ => eventPlaces ++ [
      .clock, .tbu, .free, .TBU_EVENT, .TICK_EPOCH_REC_0, .TICK_EPOCH_REC_1, .TICK_EPOCH_REC_2, .TICK_EPOCH_REC_3]
  | .revertHoldOffExpiry _ => eventPlaces ++ [
      .clock, .tbu, .TBU_EVENT, .TICK_EPOCH_REC_0, .TICK_EPOCH_REC_1, .TICK_EPOCH_REC_2, .TICK_EPOCH_REC_3]
  | .untraceableEntry _ => eventPlaces ++ [
      .clock, .tbu, .TBU_EVENT, .TICK_EPOCH_REC_0, .TICK_EPOCH_REC_1, .TICK_EPOCH_REC_2, .TICK_EPOCH_REC_3]
  | .labelSubmit _ => [.tbu, .TBU_LABEL_IGNORED_COUNT]
  | .snap _ => [.tbu]
  | .ppsOutRise _ => [.out]
  | .powerOn => resetPlaces
  | .resetNAssert _ => resetPlaces
  | .resetRelease _ _ _ _ _ => resetPlaces ++ [.straps, .flashMemory]
  | .flashReadTimeout _ => eventPlaces ++ [.boot, .free, .HST_BOOT_FAIL]
  | .imageReadComplete _ _ => eventPlaces ++ [
      .boot, .sup, .host, .free, .flashMemory, .HST_BOOT_FAIL, .HST_IMAGE_SEQ, .HST_SVN, .HST_IMAGE_DIGEST]
  | .loadComplete => [
      .boot, .clock, .sched, .sup, .fence, .part, .ports, .fab, .hubs, .ledger, .bkg, .power, .logBuf, .logSeq,
      .pldmQ, .msixPending, .out, .supData, .supCode, .anyRegister]
  | .hwTrainingComplete _ _ => eventPlaces ++ [.boot, .free, .HST_BOOT_HWFAIL]
  | .fwInitBudgetExpiry _ => eventPlaces ++ [
      .boot, .sup, .free, .flashMemory, .supData, .SUP_RESET_CAUSE, .SUP_RESET_COUNT, .HST_BOOT_FAIL,
      .HST_IMAGE_SEQ]
  | .portBringupStart _ => [.ports, .out]
  | .supReady _ => [.boot, .sup, .msixPending, .out]
  | .configLock _ => eventPlaces ++ [
      .boot, .clock, .fence, .host, .FENCE_PART_ACTIVE, .FENCE_EGRESS_CAP, .TLY_STATUS, .TLY_EVENT]
  | .lockWindowExpiry _ => eventPlaces ++ [
      .boot, .clock, .fence, .host, .FENCE_PART_ACTIVE, .FENCE_EGRESS_CAP, .TLY_STATUS, .TLY_EVENT]
  | .confirm => [.boot, .fuses, .flashMemory, .HST_SVN]
  | .comparatorMismatch _ => eventPlaces ++ [
      .sup, .free, .supData, .SUP_RESET_CAUSE, .SUP_RESET_COUNT, .SUP_MISMATCH_COUNT]
  | .delayParityError _ => eventPlaces ++ [.sup, .free, .SUP_CHECK_STATUS]
  | .comparatorSelfTest _ _ _ => eventPlaces ++ [.sup, .free, .SUP_CHECK_STATUS]
  | .watchdogFire _ _ => eventPlaces ++ [
      .sup, .free, .supData, .SUP_RESET_CAUSE, .SUP_RESET_COUNT, .SUP_MISMATCH_COUNT]
  | .watchdogKick _ => [.sup, .SUP_KICK_BAD_COUNT]
  | .supervisorEntry => [.sup]
  | .supRelease => [.sup, .supData, .SUP_RESET_CAUSE, .SUP_RESET_COUNT]
  | .fencePartActiveWrite _ _ => refusalPlaces ++ [.FENCE_PART_ACTIVE]
  | .egressCapWrite _ _ _ => refusalPlaces ++ [.FENCE_EGRESS_CAP]
  | .tableReloadComplete _ _ => [.fence]
  | .packetArrive _ _ _ => itemEndPlaces ++ [
      .heldPackets, .part, .faults, .PART_EVENT, .PART_REJECT_LOG_0, .PART_REJECT_LOG_1, .PART_REJECT_PORT_COUNT,
      .PART_REJECT_HUB_COUNT, .PART_NOTICE_TX_COUNT, .FAB_EVENT, .FAB_TTL_DROP_COUNT, .FAB_GAP_COUNT,
      .FAB_ROB_DIRECT_COUNT, .FAB_FENCE_DROP_COUNT, .MSK_EVENT, .MSK_SHIP_FAIL_COUNT]
  | .keyRejectNoticeRx _ _ _ => itemEndPlaces ++ [
      .heldPackets, .faults, .PART_EVENT, .PART_NOTICE_RX_COUNT, .MSK_EVENT, .MSK_SHIP_FAIL_COUNT]
  | .queueEnable _ _ => eventPlaces ++ [.queues, .host, .WQ_EVENT]
  | .queueShutdown _ => [.queues]
  | .queueReset _ _ => entryEndPlaces ++ [
      .sched, .sync, .ports, .fab, .hubs, .ledger, .poisonHsram, .TICK_OVERRUN_COUNT,
      .WQ_STANDING_UNREPORTED_COUNT, .WQ_Q_SQ_BASE_LO, .WQ_Q_SQ_BASE_HI, .WQ_Q_CQ_BASE_LO, .WQ_Q_CQ_BASE_HI,
      .WQ_Q_CFG, .SYNC_EVENT, .SYNC_FAULT_LOG, .SYNC_OVERFLOW_COUNT, .SYNC_UNDERFLOW_COUNT, .HUB_WITHDRAW_TX_COUNT,
      .LNK_ISO_ITEM_COUNT, .FAB_UNREACH_COUNT, .LDG_EVENT, .LDG_STEP_FAIL_COUNT, .HUB_STRM_STAT,
      .SPK_RESTART_COUNT, .SPK_LAST_CAUSE, .SPK_EVENT]
  | .queueInvalidate _ _ => entryEndPlaces
  | .invalidateComplete _ _ => entryEndPlaces ++ [.WQ_DB_REFUSED_COUNT, .HST_DOORBELL_EARLY_COUNT]
  | .abortedRecordsWrite _ _ => hostWritePlaces ++ [
      .queues, .moduleMemory, .poisonMem, .WQ_EVENT, .WQ_DESC_INVALID_COUNT, .WQ_NOT_ADMITTED_COUNT,
      .WQ_ABORTED_COUNT, .WQ_POISONED_COUNT, .WQ_Q_SQ_BASE_LO, .WQ_Q_SQ_BASE_HI, .WQ_Q_CQ_BASE_LO,
      .WQ_Q_CQ_BASE_HI, .WQ_Q_CFG]
  | .doorbellSqTail _ _ _ => entryEndPlaces ++ [.WQ_DB_REFUSED_COUNT, .HST_DOORBELL_EARLY_COUNT]
  | .doorbellCqHead _ _ _ => [.queues, .WQ_DB_REFUSED_COUNT, .HST_DOORBELL_EARLY_COUNT]
  | .nop _ _ _ => entryEndPlaces ++ [
      .ports, .fab, .hubs, .ledger, .FAB_UNREACH_COUNT, .LDG_CANCEL_COUNT, .SPK_RESTART_COUNT, .SPK_LAST_CAUSE,
      .SPK_EVENT]
  | .compute _ _ _ => itemEndPlaces
  | .copy _ _ => itemEndPlaces
  | .barrier _ _ _ => entryEndPlaces ++ [
      .ports, .fab, .hubs, .ledger, .FAB_UNREACH_COUNT, .LDG_CANCEL_COUNT, .SPK_RESTART_COUNT, .SPK_LAST_CAUSE,
      .SPK_EVENT]
  | .allReduce _ _ _ => itemEndPlaces ++ [
      .heldPackets, .part, .PART_EVENT, .PART_REJECT_LOG_0, .PART_REJECT_LOG_1, .PART_REJECT_PORT_COUNT,
      .PART_REJECT_HUB_COUNT, .HUB_COLL_EVENT, .HUB_LATE_CONTRIB_COUNT]
  | .reduce _ _ _ => itemEndPlaces ++ [
      .heldPackets, .part, .PART_EVENT, .PART_REJECT_LOG_0, .PART_REJECT_LOG_1, .PART_REJECT_PORT_COUNT,
      .PART_REJECT_HUB_COUNT, .HUB_COLL_EVENT, .HUB_LATE_CONTRIB_COUNT]
  | .reduceScatter _ _ _ => itemEndPlaces ++ [
      .heldPackets, .part, .PART_EVENT, .PART_REJECT_LOG_0, .PART_REJECT_LOG_1, .PART_REJECT_PORT_COUNT,
      .PART_REJECT_HUB_COUNT, .HUB_COLL_EVENT, .HUB_LATE_CONTRIB_COUNT]
  | .allGather _ _ _ => itemEndPlaces ++ [
      .heldPackets, .part, .PART_EVENT, .PART_REJECT_LOG_0, .PART_REJECT_LOG_1, .PART_REJECT_PORT_COUNT,
      .PART_REJECT_HUB_COUNT, .HUB_COLL_EVENT, .HUB_LATE_CONTRIB_COUNT]
  | .gather _ _ _ => itemEndPlaces ++ [
      .heldPackets, .part, .PART_EVENT, .PART_REJECT_LOG_0, .PART_REJECT_LOG_1, .PART_REJECT_PORT_COUNT,
      .PART_REJECT_HUB_COUNT, .HUB_COLL_EVENT, .HUB_LATE_CONTRIB_COUNT]
  | .scatter _ _ _ => itemEndPlaces ++ [
      .heldPackets, .part, .PART_EVENT, .PART_REJECT_LOG_0, .PART_REJECT_LOG_1, .PART_REJECT_PORT_COUNT,
      .PART_REJECT_HUB_COUNT, .HUB_COLL_EVENT, .HUB_LATE_CONTRIB_COUNT]
  | .broadcast _ _ _ => itemEndPlaces ++ [
      .heldPackets, .part, .PART_EVENT, .PART_REJECT_LOG_0, .PART_REJECT_LOG_1, .PART_REJECT_PORT_COUNT,
      .PART_REJECT_HUB_COUNT, .HUB_COLL_EVENT, .HUB_LATE_CONTRIB_COUNT]
  | .allToAll _ _ _ => itemEndPlaces ++ [
      .heldPackets, .part, .PART_EVENT, .PART_REJECT_LOG_0, .PART_REJECT_LOG_1, .PART_REJECT_PORT_COUNT,
      .PART_REJECT_HUB_COUNT, .HUB_COLL_EVENT, .HUB_LATE_CONTRIB_COUNT]
  | .send _ _ => itemEndPlaces ++ [
      .heldPackets, .part, .PART_EVENT, .PART_REJECT_LOG_0, .PART_REJECT_LOG_1, .PART_REJECT_PORT_COUNT,
      .PART_REJECT_HUB_COUNT, .HUB_COLL_EVENT, .HUB_LATE_CONTRIB_COUNT]
  | .recv _ _ _ => itemEndPlaces ++ [
      .heldPackets, .part, .PART_EVENT, .PART_REJECT_LOG_0, .PART_REJECT_LOG_1, .PART_REJECT_PORT_COUNT,
      .PART_REJECT_HUB_COUNT, .HUB_COLL_EVENT, .HUB_LATE_CONTRIB_COUNT]
  | .stream _ _ _ _ => itemEndPlaces ++ [
      .heldPackets, .part, .PART_EVENT, .PART_REJECT_LOG_0, .PART_REJECT_LOG_1, .PART_REJECT_PORT_COUNT,
      .PART_REJECT_HUB_COUNT, .PART_REJECT_SYNC_COUNT, .HUB_COLL_EVENT, .HUB_LATE_CONTRIB_COUNT]
  | .serveSubmit _ _ _ => entryEndPlaces ++ [
      .ports, .fab, .hubs, .ledger, .FAB_UNREACH_COUNT, .LDG_CANCEL_COUNT, .SPK_RESTART_COUNT, .SPK_LAST_CAUSE,
      .SPK_EVENT]
  | .serveCancel _ _ _ => entryEndPlaces ++ [
      .ports, .fab, .hubs, .ledger, .FAB_UNREACH_COUNT, .LDG_CANCEL_COUNT, .SPK_RESTART_COUNT, .SPK_LAST_CAUSE,
      .SPK_EVENT]
  | .servePause _ _ _ => entryEndPlaces ++ [
      .ports, .fab, .hubs, .ledger, .FAB_UNREACH_COUNT, .LDG_CANCEL_COUNT, .SPK_RESTART_COUNT, .SPK_LAST_CAUSE,
      .SPK_EVENT]
  | .serveResume _ _ _ => entryEndPlaces ++ [
      .ports, .fab, .hubs, .ledger, .FAB_UNREACH_COUNT, .LDG_CANCEL_COUNT, .SPK_RESTART_COUNT, .SPK_LAST_CAUSE,
      .SPK_EVENT]
  | .hostReadCompletion _ _ _ _ => itemEndPlaces ++ [
      .heldPackets, .faults, .WQ_LATE_CPL_COUNT, .LDG_CANCEL_COUNT, .MSK_EVENT, .MSK_HOST_REFUSE_COUNT,
      .MSK_SHIP_FAIL_COUNT, .MSK_SLOT_STATE]
  | .completionTimeout _ _ => itemEndPlaces
  | .tagQuarantineEnd _ => [.tags, .nextSlot, .readWait, .host, .out]
  | .flagSet _ _ _ => itemEndPlaces ++ [
      .part, .PART_EVENT, .PART_REJECT_LOG_0, .PART_REJECT_LOG_1, .PART_REJECT_SYNC_COUNT]
  | .flagClear _ _ _ => itemEndPlaces ++ [
      .part, .PART_EVENT, .PART_REJECT_LOG_0, .PART_REJECT_LOG_1, .PART_REJECT_SYNC_COUNT]
  | .flagWait _ _ _ => itemEndPlaces ++ [
      .part, .PART_EVENT, .PART_REJECT_LOG_0, .PART_REJECT_LOG_1, .PART_REJECT_SYNC_COUNT]
  | .flagWaitClr _ _ _ => itemEndPlaces ++ [
      .part, .PART_EVENT, .PART_REJECT_LOG_0, .PART_REJECT_LOG_1, .PART_REJECT_SYNC_COUNT]
  | .tileSet _ _ _ => itemEndPlaces ++ [
      .part, .PART_EVENT, .PART_REJECT_LOG_0, .PART_REJECT_LOG_1, .PART_REJECT_SYNC_COUNT]
  | .waiterRelease _ _ => [.sync, .hubs]
  | .manualSet _ _ _ _ => refusalPlaces ++ [.sync, .SYNC_EVENT, .SYNC_DBG_COUNT]
  | .manualClear _ _ _ _ => refusalPlaces ++ [.sync, .SYNC_EVENT, .SYNC_DBG_COUNT]
  | .armMessageRx _ _ _ => refusalPlaces ++ [
      .heldPackets, .part, .ports, .fab, .hubs, .PART_EVENT, .PART_REJECT_LOG_0, .PART_REJECT_LOG_1,
      .PART_REJECT_PORT_COUNT, .PART_REJECT_HUB_COUNT, .HUB_COLL_EVENT, .HUB_COLL_LOG_0, .HUB_COLL_LOG_1,
      .HUB_MEMBER_MISSING_COUNT, .HUB_SIG_MISMATCH_COUNT, .FAB_UNREACH_COUNT, .SPK_RESTART_COUNT, .SPK_LAST_CAUSE,
      .SPK_EVENT]
  | .armStepTimeout _ _ => refusalPlaces ++ [
      .heldPackets, .part, .ports, .fab, .faults, .hubs, .PART_EVENT, .PART_REJECT_LOG_0, .PART_REJECT_LOG_1,
      .PART_REJECT_PORT_COUNT, .PART_REJECT_HUB_COUNT, .HUB_COLL_EVENT, .HUB_COLL_LOG_0, .HUB_COLL_LOG_1,
      .HUB_MEMBER_MISSING_COUNT, .LNK_EVENT, .LNK_CONSEQ_COUNT, .FAB_UNREACH_COUNT, .SPK_RESTART_COUNT,
      .SPK_LAST_CAUSE, .SPK_EVENT]
  | .sealRx _ _ _ _ _ _ => itemEndPlaces ++ [
      .heldPackets, .part, .PART_EVENT, .PART_REJECT_LOG_0, .PART_REJECT_LOG_1, .PART_REJECT_PORT_COUNT,
      .PART_REJECT_HUB_COUNT]
  | .dataPhaseStart _ _ => itemEndPlaces
  | .segmentRx _ _ _ _ _ _ _ _ => itemEndPlaces ++ [
      .HUB_COLL_EVENT, .HUB_LATE_CONTRIB_COUNT, .HUB_EVENT, .HUB_CREDIT_VIOL_COUNT]
  | .segmentCreditRx _ _ _ _ => [.hubs]
  | .withdrawNoticeRx _ _ _ _ => itemEndPlaces ++ [
      .heldPackets, .part, .PART_EVENT, .PART_REJECT_LOG_0, .PART_REJECT_LOG_1, .PART_REJECT_PORT_COUNT,
      .PART_REJECT_HUB_COUNT, .HUB_COLL_EVENT, .HUB_COLL_LOG_0, .HUB_COLL_LOG_1, .HUB_MEMBER_MISSING_COUNT,
      .HUB_WITHDRAW_RX_COUNT, .FAB_EVENT, .FAB_TREE_SWITCH_COUNT]
  | .dataStepTimeout _ _ _ => eventPlaces ++ [
      .sync, .faults, .hubs, .HUB_COLL_EVENT, .HUB_COLL_LOG_0, .HUB_COLL_LOG_1, .HUB_MEMBER_MISSING_COUNT,
      .LNK_EVENT, .LNK_CONSEQ_COUNT, .SPK_RESTART_COUNT, .SPK_LAST_CAUSE, .SPK_EVENT]
  | .reArmRx _ _ _ _ => refusalPlaces ++ [
      .heldPackets, .part, .ports, .fab, .hubs, .PART_EVENT, .PART_REJECT_LOG_0, .PART_REJECT_LOG_1,
      .PART_REJECT_PORT_COUNT, .PART_REJECT_HUB_COUNT, .FAB_UNREACH_COUNT, .SPK_RESTART_COUNT, .SPK_LAST_CAUSE,
      .SPK_EVENT]
  | .treeResume _ _ _ => refusalPlaces ++ [
      .heldPackets, .part, .sync, .ports, .fab, .hubs, .PART_EVENT, .PART_REJECT_LOG_0, .PART_REJECT_LOG_1,
      .PART_REJECT_PORT_COUNT, .PART_REJECT_HUB_COUNT, .HUB_COLL_EVENT, .HUB_COLL_LOG_0, .HUB_COLL_LOG_1,
      .HUB_MEMBER_MISSING_COUNT, .FAB_UNREACH_COUNT, .SPK_RESTART_COUNT, .SPK_LAST_CAUSE, .SPK_EVENT]
  | .microNop _ _ _ => wordPlaces
  | .microLdi _ _ _ => wordPlaces
  | .microLdctx _ _ _ => wordPlaces
  | .microAdd _ _ _ => wordPlaces
  | .microSub _ _ _ => wordPlaces
  | .microAnd _ _ _ => wordPlaces
  | .microOr _ _ _ => wordPlaces
  | .microShl _ _ _ => wordPlaces
  | .microShr _ _ _ => wordPlaces
  | .microGrant _ _ _ => wordPlaces
  | .microRead _ _ _ => wordPlaces
  | .microComb _ _ _ => wordPlaces
  | .microFill _ _ _ => wordPlaces
  | .microSend _ _ _ => wordPlaces
  | .microWrite _ _ _ => wordPlaces
  | .microSetf _ _ _ => wordPlaces
  | .microClrf _ _ _ => wordPlaces
  | .microEnd _ _ _ => wordPlaces
  | .engineOpComplete _ _ _ => itemEndPlaces ++ [
      .heldPackets, .part, .PART_EVENT, .PART_REJECT_LOG_0, .PART_REJECT_LOG_1, .PART_REJECT_PORT_COUNT,
      .PART_REJECT_HUB_COUNT]
  | .waitConditionTrue _ _ => itemEndPlaces ++ [
      .part, .PART_EVENT, .PART_REJECT_LOG_0, .PART_REJECT_LOG_1, .PART_REJECT_SYNC_COUNT]
  | .spokeRestart _ => [.hubs]
  | .csBlockReloadComplete _ _ _ _ => itemEndPlaces ++ [.SPK_RELOAD_COUNT, .SPK_CS_BAD]
  | .flitRx _ _ _ _ _ => linkFaultPlaces ++ [
      .LNK_CRC_ERR_COUNT, .LNK_EXHAUST_COUNT, .LNK_FEC_CORR_COUNT, .LNK_FEC_UNCORR_COUNT, .FAB_EVENT,
      .FAB_GAP_COUNT, .FAB_ROB_DIRECT_COUNT, .FAB_FENCE_DROP_COUNT, .FAB_TREE_SWITCH_COUNT, .FAB_NODE_DOWN_COUNT]
  | .nakRx _ _ _ => linkFaultPlaces ++ [
      .LNK_REPLAY_COUNT, .LNK_EXHAUST_COUNT, .FAB_EVENT, .FAB_TREE_SWITCH_COUNT, .FAB_NODE_DOWN_COUNT]
  | .ackTimerExpiry _ _ => linkFaultPlaces ++ [
      .LNK_REPLAY_COUNT, .LNK_EXHAUST_COUNT, .FAB_EVENT, .FAB_TREE_SWITCH_COUNT, .FAB_NODE_DOWN_COUNT]
  | .replayBudgetExpiry _ _ => linkFaultPlaces ++ [
      .LNK_EXHAUST_COUNT, .FAB_EVENT, .FAB_TREE_SWITCH_COUNT, .FAB_NODE_DOWN_COUNT]
  | .faultRx _ _ => linkFaultPlaces ++ [
      .LNK_EXHAUST_COUNT, .FAB_EVENT, .FAB_TREE_SWITCH_COUNT, .FAB_NODE_DOWN_COUNT]
  | .abortFlitRx _ _ _ => linkFaultPlaces
  | .signalLoss _ _ _ => linkFaultPlaces ++ [.FAB_EVENT, .FAB_TREE_SWITCH_COUNT, .FAB_NODE_DOWN_COUNT]
  | .trainingFrameRx _ => [.ports, .out]
  | .holdRx _ => [.ports]
  | .holdRetry _ => [.out]
  | .bringupComplete _ _ => [.ports, .out, .LNK_TRAIN_FAIL_COUNT]
  | .capRx _ _ _ => eventPlaces ++ [.ports, .LNK_EVENT]
  | .capAckRx _ => [.ports]
  | .capRefuseRx _ _ _ => eventPlaces ++ [.ports, .LNK_EVENT]
  | .widthReqRx _ _ _ => linkFaultPlaces ++ [
      .LNK_REPLAY_COUNT, .FAB_EVENT, .FAB_TREE_SWITCH_COUNT, .FAB_NODE_DOWN_COUNT]
  | .widthAckRx _ _ _ => linkFaultPlaces ++ [
      .LNK_REPLAY_COUNT, .FAB_EVENT, .FAB_TREE_SWITCH_COUNT, .FAB_NODE_DOWN_COUNT]
  | .portRetrainTimer _ => [.ports, .out]
  | .portRetry _ => [.ports, .out]
  | .linkFaultNoticeRx _ _ => itemEndPlaces ++ [
      .heldPackets, .faults, .HUB_COLL_LOG_0, .LNK_EVENT, .LNK_CONSEQ_COUNT, .LNK_NOTICE_RX_COUNT,
      .FAB_E2E_RESEND_COUNT, .MSK_EVENT, .MSK_SHIP_FAIL_COUNT]
  | .bridgeFail _ _ _ => linkFaultPlaces ++ [.bridge, .LNK_BRIDGE_FAULT_COUNT]
  | .bridgeRetrain _ => [.bridge]
  | .nodeDownRx _ _ _ => itemEndPlaces ++ [
      .heldPackets, .part, .PART_EVENT, .PART_REJECT_LOG_0, .PART_REJECT_LOG_1, .PART_REJECT_PORT_COUNT,
      .PART_REJECT_HUB_COUNT, .HUB_COLL_EVENT, .HUB_COLL_LOG_0, .HUB_COLL_LOG_1, .HUB_MEMBER_MISSING_COUNT,
      .FAB_EVENT, .FAB_TREE_SWITCH_COUNT, .FAB_NODE_DOWN_COUNT, .MSK_EVENT, .MSK_SHIP_FAIL_COUNT]
  | .nodeUpRx _ _ _ => eventPlaces ++ [
      .ports, .fab, .hubs, .FAB_EVENT, .SPK_RESTART_COUNT, .SPK_LAST_CAUSE, .SPK_EVENT]
  | .joinRx _ _ _ _ _ => eventPlaces ++ [
      .ports, .fab, .hubs, .LNK_EVENT, .FAB_EVENT, .SPK_RESTART_COUNT, .SPK_LAST_CAUSE, .SPK_EVENT]
  | .e2eAckRx _ _ _ _ _ => entryEndPlaces ++ [
      .heldPackets, .ports, .fab, .hubs, .ledger, .FAB_UNREACH_COUNT, .MSK_EVENT, .MSK_SHIP_FAIL_COUNT,
      .SPK_RESTART_COUNT, .SPK_LAST_CAUSE, .SPK_EVENT]
  | .e2eNakRx _ _ _ _ => refusalPlaces ++ [
      .heldPackets, .ports, .fab, .hubs, .FAB_E2E_RESEND_COUNT, .FAB_UNREACH_COUNT, .SPK_RESTART_COUNT,
      .SPK_LAST_CAUSE, .SPK_EVENT]
  | .e2eAckTimer _ _ _ => eventPlaces ++ [
      .ports, .fab, .hubs, .FAB_UNREACH_COUNT, .SPK_RESTART_COUNT, .SPK_LAST_CAUSE, .SPK_EVENT]
  | .e2eTimeout _ _ _ _ => entryEndPlaces ++ [
      .heldPackets, .ports, .fab, .faults, .hubs, .ledger, .LNK_EVENT, .LNK_CONSEQ_COUNT, .FAB_EVENT,
      .FAB_E2E_RESEND_COUNT, .FAB_UNREACH_COUNT, .MSK_EVENT, .MSK_SHIP_FAIL_COUNT, .SPK_RESTART_COUNT,
      .SPK_LAST_CAUSE, .SPK_EVENT]
  | .ingestFrameRx _ _ _ => hostWritePlaces ++ [
      .tally, .moduleMemory, .poisonMem, .TLY_EVENT, .TLY_FWD_TAIL, .TLY_RX_0_COUNT, .TLY_RX_1_COUNT,
      .TLY_NOT_MEAS_COUNT, .TLY_MALFORMED_COUNT, .TLY_CORRUPT_COUNT, .TLY_CMD_DROP_COUNT, .TLY_FWD_COUNT,
      .TLY_FWD_DROP_COUNT, .TLY_UNKNOWN_COUNT, .TLY_INACTIVE_COUNT, .TLY_INTERLEAVED_COUNT, .TLY_ORPHAN_COUNT,
      .TLY_STALE_COUNT, .TLY_EARLY_COUNT, .TLY_REPEAT_COUNT, .TLY_OLD_COUNT, .TLY_GAP_COUNT, .TLY_MISSED_COUNT,
      .TLY_DROPPED_COUNT, .TLY_STREAM_W3, .HST_BOOT_INGEST_DROP]
  | .ingestLinkDown _ _ => eventPlaces ++ [.TLY_STATUS, .TLY_EVENT]
  | .tlyStreamWrite _ _ _ _ _ => refusalPlaces ++ [.TLY_STATUS, .TLY_STREAM_W0, .TLY_STREAM_W1, .TLY_STREAM_W2]
  | .tlyFwdHeadWrite _ _ => [.tally, .TLY_FWD_HEAD]
  | .ldgAdmit _ _ => entryEndPlaces ++ [
      .heldPackets, .ports, .fab, .faults, .hubs, .ledger, .FAB_UNREACH_COUNT, .LDG_EVENT, .LDG_ADMIT_RESULT,
      .LDG_REFUSE_LOG, .LDG_ADMIT_COUNT, .LDG_REFUSE_COUNT, .MSK_EVENT, .MSK_SHIP_FAIL_COUNT, .MSK_SLOT_STATE,
      .SPK_RESTART_COUNT, .SPK_LAST_CAUSE, .SPK_EVENT]
  | .ldgOrderAdmit _ _ => eventPlaces ++ [
      .ledger, .LDG_EVENT, .LDG_REFUSE_LOG, .LDG_REFUSE_COUNT, .LDG_ORDER_RESULT, .MSK_SLOT_STATE]
  | .outputRingEnable _ _ => [.LDG_OUT_CFG]
  | .ldgOutHeadWrite _ _ => [.ledger, .LDG_OUT_HEAD]
  | .microstepBoundary _ => [.ledger, .moduleMemory, .coreSram, .poisonMem]
  | .decodeStepEnd _ _ _ => itemEndPlaces ++ [
      .LDG_OUT_DROP_COUNT, .LDG_OUT_TAIL, .MSK_EVENT, .MSK_MASK_END_COUNT, .MSK_SPEC_ROUNDS_COUNT,
      .MSK_SPEC_ACCEPT_COUNT, .MSK_SLOT_STATE]
  | .prefillChunkEnd _ _ _ => itemEndPlaces ++ [
      .heldPackets, .faults, .LDG_OUT_DROP_COUNT, .LDG_OUT_TAIL, .MSK_EVENT, .MSK_MASK_END_COUNT,
      .MSK_SPEC_ROUNDS_COUNT, .MSK_SPEC_ACCEPT_COUNT, .MSK_SHIP_FAIL_COUNT, .MSK_SLOT_STATE]
  | .slotUpdateRx _ _ _ _ _ _ _ => eventPlaces ++ [.ledger, .LDG_EVENT, .LDG_UPDATE_LATE_COUNT]
  | .pauseTtlExpiry _ _ => entryEndPlaces ++ [
      .ports, .fab, .hubs, .ledger, .FAB_UNREACH_COUNT, .LDG_EVENT, .LDG_EXPIRE_COUNT, .SPK_RESTART_COUNT,
      .SPK_LAST_CAUSE, .SPK_EVENT]
  | .coldPauseComplete _ _ => entryEndPlaces ++ [
      .ports, .fab, .hubs, .ledger, .FAB_UNREACH_COUNT, .SPK_RESTART_COUNT, .SPK_LAST_CAUSE, .SPK_EVENT]
  | .summaryStoreComplete _ _ => itemEndPlaces
  | .coldResumeComplete _ _ _ => entryEndPlaces ++ [
      .ports, .fab, .hubs, .ledger, .FAB_UNREACH_COUNT, .SPK_RESTART_COUNT, .SPK_LAST_CAUSE, .SPK_EVENT]
  | .orderRx _ _ _ _ => eventPlaces ++ [
      .ports, .fab, .hubs, .ledger, .FAB_UNREACH_COUNT, .MSK_EVENT, .MSK_ORDER_REFUSE_COUNT, .SPK_RESTART_COUNT,
      .SPK_LAST_CAUSE, .SPK_EVENT]
  | .orderRefuseNoticeRx _ _ _ => entryEndPlaces ++ [
      .ports, .fab, .hubs, .ledger, .FAB_UNREACH_COUNT, .MSK_EVENT, .MSK_SHIP_FAIL_COUNT, .SPK_RESTART_COUNT,
      .SPK_LAST_CAUSE, .SPK_EVENT]
  | .orderQueueTimeout _ _ => eventPlaces ++ [
      .ports, .fab, .hubs, .ledger, .FAB_UNREACH_COUNT, .MSK_EVENT, .MSK_ORDER_REFUSE_COUNT, .SPK_RESTART_COUNT,
      .SPK_LAST_CAUSE, .SPK_EVENT]
  | .kvShipComplete _ _ _ _ _ => entryEndPlaces ++ [
      .ports, .fab, .hubs, .ledger, .FAB_UNREACH_COUNT, .LDG_EVENT, .LDG_OUT_DROP_COUNT, .LDG_OUT_TAIL, .MSK_EVENT,
      .MSK_MASK_END_COUNT, .MSK_SLOT_STATE, .SPK_RESTART_COUNT, .SPK_LAST_CAUSE, .SPK_EVENT]
  | .kvShipTimeout _ _ => entryEndPlaces ++ [
      .ports, .fab, .hubs, .ledger, .FAB_UNREACH_COUNT, .MSK_EVENT, .MSK_SHIP_FAIL_COUNT, .SPK_RESTART_COUNT,
      .SPK_LAST_CAUSE, .SPK_EVENT]
  | .orderWithdrawRx _ _ => eventPlaces ++ [
      .ports, .fab, .hubs, .ledger, .FAB_UNREACH_COUNT, .SPK_RESTART_COUNT, .SPK_LAST_CAUSE, .SPK_EVENT]
  | .autoLoad _ _ => eventPlaces ++ [.MSK_EVENT, .MSK_AUTO_STATUS]
  | .autoUnload _ _ => eventPlaces ++ [.MSK_EVENT, .MSK_AUTO_STATUS, .MSK_AUTO_W0]
  | .autoValidationDone _ => eventPlaces ++ [.MSK_EVENT, .MSK_AUTO_STATUS, .MSK_AUTO_W0]
  | .adapterRegister _ _ _ => eventPlaces ++ [.MSK_EVENT, .MSK_ADAPTER_REFUSE_COUNT, .MSK_ADAPTER_W0]
  | .choreStart _ _ => itemEndPlaces ++ [
      .heldPackets, .bkg, .poisonCsram, .TLY_STREAM_W3, .MSK_EVENT, .MSK_SHIP_FAIL_COUNT, .MSK_SLOT_STATE,
      .BKG_STATUS, .BKG_HBM_UE_LOG_LO, .BKG_HBM_UE_LOG_HI, .BKG_CSRAM_UE_LOG, .BKG_HBM_CE_COUNT, .BKG_HBM_UE_COUNT,
      .BKG_CSRAM_CE_COUNT, .BKG_CSRAM_UE_COUNT, .BKG_TABLE_CE_COUNT, .BKG_TABLE_UE_COUNT, .BKG_RECAL_SKIP_COUNT,
      .BKG_PASS_HBM, .BKG_PASS_CSRAM, .BKG_PASS_HSRAM, .BKG_PASS_CS, .BKG_PASS_TABLE, .HUB_EVENT,
      .HUB_SRAM_CE_COUNT, .HUB_SRAM_UE_COUNT, .SPK_CS_CE_COUNT, .SPK_CS_UE_COUNT]
  | .choreStop _ => [
      .bkg, .free, .BKG_PASS_HBM, .BKG_PASS_CSRAM, .BKG_PASS_HSRAM, .BKG_PASS_CS, .BKG_PASS_TABLE]
  | .laneRecalStart _ => [.ports, .out]
  | .laneRecalDone _ _ _ => linkFaultPlaces ++ [
      .FAB_EVENT, .FAB_TREE_SWITCH_COUNT, .FAB_NODE_DOWN_COUNT, .BKG_RECAL_DONE_COUNT, .BKG_RECAL_FAIL_COUNT]
  | .logPageProgram => [.bkg]
  | .flashOpComplete _ _ => eventPlaces ++ [
      .bkg, .flashMemory, .BKG_STATUS, .BKG_SECTOR_RETIRED_COUNT, .BKG_LOG_WPTR, .BKG_LOG_USABLE]
  | .telemetrySample _ => eventPlaces ++ [.bkg, .free, .BKG_TELEM_OVF_COUNT, .BKG_TELEM_IDX]
  | .hwTimerExpiry _ => [.sup, .bkg]
  | .flrPf0 _ => entryEndPlaces ++ [
      .sched, .sync, .ports, .fab, .hubs, .tally, .ledger, .msixUnmasked, .msixTable, .poisonHsram,
      .TICK_OVERRUN_COUNT, .WQ_STANDING_UNREPORTED_COUNT, .WQ_Q_SQ_BASE_LO, .WQ_Q_SQ_BASE_HI, .WQ_Q_CQ_BASE_LO,
      .WQ_Q_CQ_BASE_HI, .WQ_Q_CFG, .SYNC_EVENT, .SYNC_FAULT_LOG, .SYNC_OVERFLOW_COUNT, .SYNC_UNDERFLOW_COUNT,
      .HUB_WITHDRAW_TX_COUNT, .LNK_ISO_ITEM_COUNT, .FAB_UNREACH_COUNT, .TLY_FWD_TAIL, .TLY_FWD_HEAD, .LDG_EVENT,
      .LDG_STEP_FAIL_COUNT, .LDG_OUT_CFG, .LDG_OUT_TAIL, .LDG_OUT_HEAD, .HST_LOG_ADDR, .HST_LOG_STATUS,
      .HUB_STRM_STAT, .SPK_RESTART_COUNT, .SPK_LAST_CAUSE, .SPK_EVENT]
  | .flrPf1 => [.msixUnmasked, .msixPending, .msixTable]
  | .perstNAssert _ => entryEndPlaces ++ [
      .sched, .sync, .ports, .fab, .hubs, .tally, .ledger, .msixUnmasked, .msixTable, .poisonHsram,
      .TICK_OVERRUN_COUNT, .WQ_STANDING_UNREPORTED_COUNT, .WQ_Q_SQ_BASE_LO, .WQ_Q_SQ_BASE_HI, .WQ_Q_CQ_BASE_LO,
      .WQ_Q_CQ_BASE_HI, .WQ_Q_CFG, .SYNC_EVENT, .SYNC_FAULT_LOG, .SYNC_OVERFLOW_COUNT, .SYNC_UNDERFLOW_COUNT,
      .HUB_WITHDRAW_TX_COUNT, .LNK_ISO_ITEM_COUNT, .FAB_UNREACH_COUNT, .TLY_FWD_TAIL, .TLY_FWD_HEAD, .LDG_EVENT,
      .LDG_STEP_FAIL_COUNT, .LDG_OUT_CFG, .LDG_OUT_TAIL, .LDG_OUT_HEAD, .HST_PCIE_STATUS, .HST_LOG_ADDR,
      .HST_LOG_STATUS, .HUB_STRM_STAT, .SPK_RESTART_COUNT, .SPK_LAST_CAUSE, .SPK_EVENT]
  | .perstNDeassert => [.host]
  | .atsInvalidateRequest _ _ => [.host]
  | .atsInvalidateComplete _ => [.host, .out]
  | .ideIntegrityFail _ => eventPlaces ++ [.host, .HST_PCIE_STATUS, .HST_IDE_FAIL_COUNT]
  | .ideKmKSetGo _ => [.host, .HST_PCIE_STATUS]
  | .setEndpointId _ _ => [.out, .HST_MCTP_EID]
  | .getSensorReading _ _ _ => [.out]
  | .setEventReceiver _ _ => [.pldmQ, .pldmReceiver, .out]
  | .pollForPlatformEventMessage _ => [.pldmQ, .out]
  | .requestUpdate _ _ _ => eventPlaces ++ [.host, .flashMemory, .HST_UPDATE_STATUS]
  | .firmwareDataRx _ _ => eventPlaces ++ [.host, .flashMemory, .HST_UPDATE_STATUS]
  | .verifyComplete _ _ => eventPlaces ++ [.host, .HST_UPDATE_STATUS]
  | .activateFirmware _ _ => eventPlaces ++ [.host, .flashMemory, .HST_UPDATE_STATUS]
  | .spdmGetMeasurements _ _ => [.out, .free]
  | .spdmKeyExchange _ => [.host, .out, .free]
  | .spdmChallenge _ _ => [.out, .free]
  | .spdmGetCertificate _ _ => [.out]
  | .logRead _ => [.host, .HST_LOG_ADDR, .HST_LOG_STATUS]
  | .logReadComplete => [.host, .HST_LOG_STATUS, .HST_LOG_DATA]
  | .pwrLimitWrite _ _ _ => refusalPlaces ++ [.PWR_LIMIT]
  | .limiterInterval _ _ => [.power]
  | .railFault _ => eventPlaces ++ [.PWR_STATUS, .PWR_EVENT]
  | .railProtectReset => resetPlaces
  | .railHoldRelease _ _ _ _ _ => resetPlaces ++ [.straps, .flashMemory]
  | .thermalTrip => resetPlaces
  | .thermalHoldRelease _ _ _ _ _ => resetPlaces ++ [.straps, .flashMemory]
  | .alarmMinTimeExpiry _ => [.power, .out]
  | .tickCountClr => [
      .TICK_LATE_COUNT, .TICK_OVERRUN_COUNT, .TICK_SKIP_COUNT, .TICK_SCHED_LATE_COUNT, .TICK_SCHED_REJECT_COUNT]
  | .tbuCountClr => [.TBU_BOUND_EXCEED_COUNT, .TBU_LABEL_IGNORED_COUNT]
  | .supCountClr => [.SUP_RESET_COUNT, .SUP_MISMATCH_COUNT, .SUP_KICK_BAD_COUNT, .SUP_OVERLAY_HELD_COUNT]
  | .fenceCountClr => [
      .FENCE_COUNT_PART, .FENCE_COUNT_TIME, .FENCE_COUNT_UCODE, .FENCE_COUNT_WINDOW, .FENCE_COUNT_LOCK,
      .FENCE_COUNT_EGRESS]
  | .fenceVlogClr => [.fence, .FENCE_VLOG_0, .FENCE_VLOG_1]
  | .partCountClr => [
      .PART_REJECT_PORT_COUNT, .PART_REJECT_HUB_COUNT, .PART_REJECT_SYNC_COUNT, .PART_NOTICE_TX_COUNT,
      .PART_NOTICE_RX_COUNT]
  | .partLogClr => [.part, .PART_REJECT_LOG_0, .PART_REJECT_LOG_1]
  | .wqCountClr => [
      .WQ_LATE_CPL_COUNT, .WQ_DESC_INVALID_COUNT, .WQ_NOT_ADMITTED_COUNT, .WQ_ABORTED_COUNT, .WQ_POISONED_COUNT,
      .WQ_DB_REFUSED_COUNT, .WQ_STANDING_UNREPORTED_COUNT]
  | .syncCountClr => [.SYNC_OVERFLOW_COUNT, .SYNC_UNDERFLOW_COUNT, .SYNC_DBG_COUNT]
  | .syncFaultLogClr => [.sync, .SYNC_FAULT_LOG]
  | .syncAuditWrapClr => [.sync]
  | .hubCollCountClr => [
      .HUB_MEMBER_MISSING_COUNT, .HUB_SIG_MISMATCH_COUNT, .HUB_LATE_CONTRIB_COUNT, .HUB_WITHDRAW_TX_COUNT,
      .HUB_WITHDRAW_RX_COUNT]
  | .hubCollLogClr => [.hubs, .HUB_COLL_LOG_0, .HUB_COLL_LOG_1]
  | .hubCountClr _ => [.HUB_SRAM_CE_COUNT, .HUB_SRAM_UE_COUNT, .HUB_CREDIT_VIOL_COUNT]
  | .spkCountClr _ => [
      .SPK_RESTART_COUNT, .SPK_LS_MISS_COUNT, .SPK_CS_CE_COUNT, .SPK_CS_UE_COUNT, .SPK_RELOAD_COUNT,
      .SPK_ILLEGAL_COUNT]
  | .spkLogClr _ => [.SPK_ILLEGAL_LOG]
  | .lnkCountClr => [
      .LNK_CONSEQ_COUNT, .LNK_FAULT_OP_COUNT, .LNK_NOTICE_TX_COUNT, .LNK_NOTICE_RX_COUNT, .LNK_BRIDGE_FAULT_COUNT,
      .LNK_ISO_ITEM_COUNT, .LNK_CRC_ERR_COUNT, .LNK_REPLAY_COUNT, .LNK_EXHAUST_COUNT, .LNK_FEC_CORR_COUNT,
      .LNK_FEC_UNCORR_COUNT, .LNK_TRAIN_FAIL_COUNT]
  | .lnkLogClr => [.LNK_FAULT_LOG_0, .LNK_FAULT_LOG_1]
  | .fabCountClr => [
      .FAB_TTL_DROP_COUNT, .FAB_E2E_RESEND_COUNT, .FAB_GAP_COUNT, .FAB_ROB_DIRECT_COUNT, .FAB_FENCE_DROP_COUNT,
      .FAB_TREE_SWITCH_COUNT, .FAB_UNREACH_COUNT, .FAB_NODE_DOWN_COUNT]
  | .tlyCountClr => [
      .TLY_RX_0_COUNT, .TLY_RX_1_COUNT, .TLY_NOT_MEAS_COUNT, .TLY_MALFORMED_COUNT, .TLY_CORRUPT_COUNT,
      .TLY_CMD_DROP_COUNT, .TLY_FWD_COUNT, .TLY_FWD_DROP_COUNT, .TLY_UNKNOWN_COUNT, .TLY_INACTIVE_COUNT,
      .TLY_INTERLEAVED_COUNT, .TLY_ORPHAN_COUNT, .TLY_TRUNCATED_COUNT, .TLY_STALE_COUNT, .TLY_EARLY_COUNT,
      .TLY_REPEAT_COUNT, .TLY_OLD_COUNT, .TLY_GAP_COUNT, .TLY_MISSED_COUNT, .TLY_DROPPED_COUNT]
  | .ldgCountClr => [
      .LDG_ADMIT_COUNT, .LDG_REFUSE_COUNT, .LDG_CANCEL_COUNT, .LDG_EXPIRE_COUNT, .LDG_OUT_DROP_COUNT,
      .LDG_STEP_FAIL_COUNT, .LDG_UPDATE_LATE_COUNT, .LDG_STALL_TICKS_COUNT]
  | .mskCountClr => [
      .MSK_HOST_LATE_COUNT, .MSK_HOST_REFUSE_COUNT, .MSK_MASK_END_COUNT, .MSK_SPEC_ROUNDS_COUNT,
      .MSK_SPEC_ACCEPT_COUNT, .MSK_ADAPTER_REFUSE_COUNT, .MSK_SHIP_FAIL_COUNT, .MSK_ORDER_REFUSE_COUNT]
  | .bkgCountClr => [
      .BKG_HBM_CE_COUNT, .BKG_HBM_UE_COUNT, .BKG_CSRAM_CE_COUNT, .BKG_CSRAM_UE_COUNT, .BKG_TABLE_CE_COUNT,
      .BKG_TABLE_UE_COUNT, .BKG_RECAL_DONE_COUNT, .BKG_RECAL_FAIL_COUNT, .BKG_RECAL_SKIP_COUNT,
      .BKG_LOG_DROP_COUNT, .BKG_TELEM_OVF_COUNT, .BKG_SECTOR_RETIRED_COUNT]
  | .bkgLogClr => [.BKG_HBM_UE_LOG_LO, .BKG_HBM_UE_LOG_HI, .BKG_CSRAM_UE_LOG]
  | .hstCountClr => [.HST_BAD_ACCESS_COUNT, .HST_IDE_FAIL_COUNT, .HST_PLDM_EVENT_DROP_COUNT]
  | .pwrCountClr => [.PWR_LIMIT_TICK_COUNT, .PWR_THERM_WARN_COUNT, .PWR_THERM_CRIT_COUNT]
  | .signalDetect _ => [.ports, .out]
  | .laneSignalLoss _ _ _ => linkFaultPlaces ++ [.FAB_EVENT, .FAB_TREE_SWITCH_COUNT, .FAB_NODE_DOWN_COUNT]
  | .ingestLinkUp _ => [.TLY_STATUS]
  | .pcieLinkUp _ _ _ _ => [.tags, .nextSlot, .readWait, .host, .out, .HST_PCIE_STATUS]
  | .pcieLinkDown _ => eventPlaces ++ [.HST_PCIE_STATUS]
  | .pairLoRead _ _ _ _ => eventPlaces ++ [.latches, .HST_BAD_ACCESS_COUNT]
  | .descriptorFetchComplete _ _ _ _ => entryEndPlaces ++ [
      .ports, .fab, .hubs, .ledger, .FAB_UNREACH_COUNT, .LDG_CANCEL_COUNT, .SPK_RESTART_COUNT, .SPK_LAST_CAUSE,
      .SPK_EVENT]
  | .leapSecond => [.tbu]
  | .i3cEntdaa _ => [.host]

end Sys2Proof.Machine
end

