-- ==== Sys2Proof/Safety.lean ====
section
/-! DEFINITION. What the claims call good and the terms they use: the canonical form of the state's memories, the order of
the lock points, a command that takes effect, and what counters, events, refusals, resets, items and requests do. -/

namespace Sys2Proof

open Sys2Proof.Machine

/-- The lock points stand in their order (R107): the configuration lock after the microcode lock, SERVICEABLE and the
first tick after the configuration lock. -/
def LocksOrdered (s : State) : Prop :=
  (s.boot.cfgLocked = true → s.boot.ucodeLocked = true) ∧ (s.boot.serviceable = true → s.boot.cfgLocked = true) ∧
    (s.clock.running = true → s.boot.cfgLocked = true)

/-- The memories and the register map hold their canonical form. -/
def MemoriesWf (s : State) : Prop :=
  Mem.wf 0#8 s.mems.mem = true ∧ Mem.wf 0#8 s.mems.host = true ∧ Mem.wf 0#8 s.mems.csram = true ∧
    Mem.wf 0#8 s.mems.hsram = true ∧ Mem.wf 0xFF#8 s.mems.flash = true ∧ Mem.wf 0#8 s.mems.supData = true ∧
    Mem.wf 0#8 s.mems.supCode = true ∧ SMap.sorted s.regs = true

/-- The command takes effect on `s`: it answers a next state, and `P` holds of that state. -/
def Gives (c : Instr) (s : State) (P : State → Prop) : Prop := ∃ s', exec c s = .next s' ∧ P s'

/-! ## The terms of the claims -/

/-- A counter register goes up by `n` and saturates at 0xFFFF_FFFF. -/
def CountsUp (s s' : State) (reg n : Nat) : Prop := (rd s' reg).toNat = min ((rd s reg).toNat + n) (2 ^ 32 - 1)

/-- An event bit is set in its register, whose other bits keep their value. -/
def SetsBit (s s' : State) (reg bit : Nat) : Prop := rd s' reg = setBitW (rd s reg) bit

/-- One refusal of the Fence under a bound (R129): its counter goes up by one and its event bit is set. -/
def FenceRefused (s s' : State) (b : Bound) : Prop := CountsUp s s' b.counter 1 ∧ SetsBit s s' Reg.FENCE_EVENT b.bit

/-- Every register reads as before. -/
def SameRegs (s s' : State) : Prop := ∀ a, rd s' a = rd s a

/-- A supervisor-alone reset with its causes (R139, R140): the cores and the data SRAM are as at their start, the causes are
recorded, the reset is counted, and the machinery outside the pair is as it was. -/
def SupRestarted (s s' : State) (causes : Nat) : Prop :=
  s'.sup.ready = false ∧ s'.sup.wdog = 0 ∧ s'.sup.wdogOn = false ∧ s'.sup.started = false ∧ s'.sup.irq = false ∧
  s'.sup.overlayHeld = true ∧ s'.sup.checkLost = s.sup.checkLost ∧
  s'.mems.supData = Mem.writeN 0#8 [] 0 (Mem.readN 0#8 s.mems.supCode s.sup.codeLen s.sup.dataLen) ∧
  rd s' Reg.SUP_RESET_CAUSE = BitVec.ofNat 32 causes ∧ CountsUp s s' Reg.SUP_RESET_COUNT 1 ∧
  s'.clock = s.clock ∧ s'.tbu = s.tbu ∧ s'.sched = s.sched ∧ s'.queues = s.queues ∧ s'.fence = s.fence ∧
  s'.sync = s.sync ∧ s'.ports = s.ports ∧ s'.bridge = s.bridge ∧ s'.fab = s.fab ∧ s'.hubs = s.hubs ∧
  s'.tally = s.tally ∧ s'.ledger = s.ledger ∧ s'.bkg = s.bkg ∧ s'.boot = s.boot ∧ s'.mems.mem = s.mems.mem

/-- A store of `bs` at `a`: the bytes stored read back, and every other byte reads as before. -/
def Stores (d : Byte) (m m' : Mem) (a : Nat) (bs : List Byte) : Prop :=
  Mem.readN d m' a bs.length = bs ∧ ∀ x, x < a ∨ a + bs.length ≤ x → Mem.read d m' x = Mem.read d m x

/-- A work item ends at `t`: it is done, and when it is a queue entry that runs on cores alone, with no ground of its own
for another status, its entry's status is `st`, or TICK_OVERRUN at its deadline unless `st` ranks higher (R41). -/
def Ends (s s' : State) (i : Nat) (st : Status) (t : Nat) : Prop :=
  (item s' i).ph = .done ∧ ∀ q k, (item s i).src = .entry q k → (item s i).grounds = [] → (item s i).desc.opcode ≠ 3 →
    (∀ l, l ∈ (item s i).lanes → l < 64) → k ∉ (queue s q).toFetch →
    SMap.get? (queue s' q).done k = some (if atDeadline s (item s i) t = true ∧ 2 ≤ st.rank then .tickOverrun else st)

/-- Every descriptor of `l` lies in a window that its queue may read (R472). -/
def FetchesAllowed (s : State) (q : Nat) (l : List Nat) : Prop :=
  ∀ i, i ∈ l → windowOk s (q / 8) (sqBase s q).2 false ((sqBase s q).1 + i * sqeBytes s) (sqeBytes s) = true

/-- The command of a whole collective by its operation code (Table 9.2); SEND has nothing from other ranks. -/
def collCommand (code i : Nat) (others : List (Nat × List Byte)) (t : Nat) : Instr :=
  match code with
  | 0 => .allReduce i others t
  | 1 => .reduce i others t
  | 2 => .reduceScatter i others t
  | 3 => .allGather i others t
  | 4 => .gather i others t
  | 5 => .scatter i others t
  | 6 => .broadcast i others t
  | 7 => .allToAll i others t
  | 8 => .send i t
  | _ => .recv i others t

/-- Work item `i` is a running collective of operation `o` in its data phase on its stream, on a member of the group. -/
def InDataPhase (s : State) (i : Nat) (p : Spoke) : Prop :=
  spoke? s ((item s i).desc.lanes % 32) = some p ∧ p.op.item = i ∧ p.op.stage = 3 ∧ (item s i).ph = .running ∧
  p.op.rank.isSome = true

/-- The operation with the blocks of the other ranks that take part marked as arrived (R234, R236). -/
def withBlocks (o : CollOp) (others : List (Nat × List Byte)) : CollOp :=
  { o with blocks := (others.filter (fun e => o.has e.1)).foldl (fun b e => b ||| 2 ^ (e.1 % 32)) o.blocks }

/-- No spoke holds a claim (R275), so nothing is preempted. -/
def NoClaims (s : State) : Prop := ∀ x, x ∈ s.hubs.spokes → x.2.claim = false

/-- The spoke of a stream is there with the operation `o`, and its routine stands where it stood. -/
def KeepsOp (s s' : State) (i : Nat) (o : CollOp) : Prop :=
  ∃ p q, spoke? s i = some p ∧ spoke? s' i = some q ∧ q.op = o ∧ q.pc = p.pc ∧ q.gp = p.gp

/-- The command of a microword by its OP (Table 11.3). -/
def microCommand (op i ecc t : Nat) : Instr :=
  match op with
  | 0x00 => .microNop i ecc t
  | 0x01 => .microLdi i ecc t
  | 0x02 => .microLdctx i ecc t
  | 0x03 => .microAdd i ecc t
  | 0x04 => .microSub i ecc t
  | 0x05 => .microAnd i ecc t
  | 0x06 => .microOr i ecc t
  | 0x07 => .microShl i ecc t
  | 0x08 => .microShr i ecc t
  | 0x10 => .microGrant i ecc t
  | 0x11 => .microRead i ecc t
  | 0x12 => .microComb i ecc t
  | 0x13 => .microFill i ecc t
  | 0x14 => .microSend i ecc t
  | 0x15 => .microWrite i ecc t
  | 0x20 => .microSetf i ecc t
  | 0x21 => .microClrf i ecc t
  | _ => .microEnd i ecc t

/-- Spoke `i` stands at word `m` of its routine, in its own store, and neither waits, restarts nor reloads. -/
def AtWord (s : State) (i : Nat) (p : Spoke) (m : Micro) : Prop :=
  spoke? s i = some p ∧ p.restarting = false ∧ p.waiting = false ∧ p.stall = none ∧
  inRoutines s (i / 16) p.pc = true ∧ blockBad s (i / 16) (p.pc / 64) = false ∧
  SMap.get? s.hubs.store.reloading (i / 16 * 256 + p.pc / 64) = none ∧
  m = microOf (SMap.get s.hubs.store.words 0 (i / 16 * 16384 + p.pc))

/-- The word that follows (R268): the next one, or NEXT when BR says so of the value tested. -/
def nextWord (p : Spoke) (m : Micro) (tested : Nat) : Nat :=
  if m.br = 1 ∨ (m.br = 2 ∧ tested = 0) ∨ (m.br = 3 ∧ tested ≠ 0) then m.next else (p.pc + 1) % 2 ^ 14

/-- The lanes of a port, or those it has asked for, without one of them. -/
def lanesWithout (s : State) (n lane : Nat) : Nat :=
  sumNat ((indicesWhere 4 (fun i => bitAt ((port s n).widthReq.getD (port s n).laneOk) i && i != lane)).map (2 ^ ·))

/-- No transfer has ended or waits for room in the staging range. -/
def NothingToReap (s : State) : Prop := ∀ x, x ∈ s.fab.transfers → x.status = none ∧ x.waiting = []

/-- The command meets port `n` in a condition that faults it (R301, R302, R305, R337): an expired or exhausted replay
budget, the partner's FAULT, a lost signal while joined, or fewer than two lanes left. -/
def MeetsFault (s : State) (n q lane t : Nat) (lost : Bool) (c : Instr) : Prop :=
  c = .replayBudgetExpiry n t ∧ portPresent s n = true ∧
      ((port s n).fault.isSome = true ∨ (port s n).txFault.isSome = true) ∨
    c = .faultRx n t ∧ (portSt s n = .ready ∨ portSt s n = .active ∨ portSt s n = .degraded) ∨
    c = .signalLoss n lost t ∧ (portSt s n = .active ∨ portSt s n = .degraded) ∨
    c = .nakRx n q t ∧ portSt s n ≠ .disabled ∧ (port s n).changingTx = false ∧ (port s n).replay.any (fun f => f.seq == q) = true ∧
      4 ≤ (failDelivery (port s n).txFault q (now s t)).failures ∨
    c = .laneSignalLoss n lane t ∧ portPresent s n = true ∧ (port s n).live = true ∧
      popcount (lanesWithout s n lane) 4 < 2

/-- The request of slot `k` ends (R376): its slot is free, its pages are back in the pool, and its SUBMIT, unless the slot
belongs to an order or the entry waits to be fetched once more, has status `st`. -/
def RequestEnds (s s' : State) (k : Nat) (st : Status) : Prop :=
  (slot s' k).st = 0 ∧ (∀ i, i ∈ (slot s k).pages → i ∉ takenPages s' (slot s k).part) ∧
  ((slot s k).order = none → (slot s k).queue < 64 → (slot s k).index ∉ (queue s (slot s k).queue).toFetch →
    SMap.get? (queue s' (slot s k).queue).done (slot s k).index = some st)

/-- Work item `i` runs on cores alone for the source `src`, with no ground for a failure and before its deadline. -/
def RunsClean (s : State) (i : Nat) (src : ItemSrc) (t : Nat) : Prop :=
  (item s i).src = src ∧ atDeadline s (item s i) t = false ∧ (item s i).ph = .running ∧ (item s i).grounds = [] ∧ (item s i).desc.opcode ≠ 3 ∧
  ∀ l, l ∈ (item s i).lanes → l < 64

/-- The clears: each command with the control register that must be on the build (R87) and the registers that it zeroes. -/
def clearCommands : List (Instr × Nat × List Nat) :=
  [(.tickCountClr, Reg.TICK_CTRL, regSpan Reg.TICK_LATE_COUNT 5),
   (.tbuCountClr, Reg.TBU_CTRL, regSpan Reg.TBU_BOUND_EXCEED_COUNT 2),
   (.supCountClr, Reg.SUP_CTRL, regSpan Reg.SUP_RESET_COUNT 4),
   (.fenceCountClr, Reg.FENCE_CTRL, regSpan Reg.FENCE_COUNT_PART 6),
   (.fenceVlogClr, Reg.FENCE_CTRL, [Reg.FENCE_VLOG_0, Reg.FENCE_VLOG_1]),
   (.partCountClr, Reg.PART_CTRL, regSpan (Reg.PART_REJECT_PORT_COUNT 0) 20),
   (.partLogClr, Reg.PART_CTRL, [Reg.PART_REJECT_LOG_0, Reg.PART_REJECT_LOG_1]),
   (.wqCountClr, Reg.WQ_CTRL, regSpan Reg.WQ_LATE_CPL_COUNT 7),
   (.syncCountClr, Reg.SYNC_CTRL, regSpan Reg.SYNC_OVERFLOW_COUNT 3),
   (.syncFaultLogClr, Reg.SYNC_CTRL, [Reg.SYNC_FAULT_LOG]),
   (.syncAuditWrapClr, Reg.SYNC_CTRL, []),
   (.hubCollCountClr, Reg.HUB_COLL_CTRL, regSpan Reg.HUB_MEMBER_MISSING_COUNT 5),
   (.hubCollLogClr, Reg.HUB_COLL_CTRL, [Reg.HUB_COLL_LOG_0, Reg.HUB_COLL_LOG_1]),
   (.fabCountClr, Reg.FAB_CTRL, regSpan Reg.FAB_TTL_DROP_COUNT 8),
   (.tlyCountClr, Reg.TLY_CTRL, regSpan Reg.TLY_RX_0_COUNT 20),
   (.ldgCountClr, Reg.LDG_CTRL, regSpan Reg.LDG_ADMIT_COUNT 8),
   (.mskCountClr, Reg.MSK_CTRL, regSpan Reg.MSK_HOST_LATE_COUNT 8)] ++
  [(.bkgCountClr, Reg.BKG_CTRL, regSpan Reg.BKG_HBM_CE_COUNT 12),
   (.bkgLogClr, Reg.BKG_CTRL, [Reg.BKG_HBM_UE_LOG_LO, Reg.BKG_HBM_UE_LOG_HI, Reg.BKG_CSRAM_UE_LOG]),
   (.hstCountClr, Reg.HST_CTRL, regSpan Reg.HST_BAD_ACCESS_COUNT 3),
   (.pwrCountClr, Reg.PWR_CTRL, regSpan Reg.PWR_LIMIT_TICK_COUNT 3),
   (.lnkLogClr, Reg.LNK_CTRL, [Reg.LNK_FAULT_LOG_0, Reg.LNK_FAULT_LOG_1]),
   (.lnkCountClr, Reg.LNK_CTRL, regSpan Reg.LNK_CONSEQ_COUNT 4 ++ regSpan Reg.LNK_BRIDGE_FAULT_COUNT 2 ++
     (List.range 16).flatMap (fun n => regSpan (Reg.LNK_CRC_ERR_COUNT n) 6))] ++
  [0, 1].flatMap (fun h =>
    [(.hubCountClr h, Reg.HUB_CTRL h, regSpan (Reg.HUB_SRAM_CE_COUNT h) 3),
     (.spkLogClr h, Reg.SPK_LOG_CLR h, [Reg.SPK_ILLEGAL_LOG h]),
     (.spkCountClr h, Reg.SPK_CTRL h, regSpan (Reg.SPK_CS_CE_COUNT h) 4 ++
       (List.range 16).flatMap (fun i => [Reg.SPK_RESTART_COUNT h i, Reg.SPK_LS_MISS_COUNT h i]))])

/-- The lock points stand in their order, and what leads to them does too (R107, R108, R560): the configuration lock after
the microcode lock, SERVICEABLE, the first tick and the instant it waits for after the configuration lock, and FW_INIT and
HOST_WINDOW after the microcode lock. -/
def LockPointsInOrder (s : State) : Prop :=
  LocksOrdered s ∧ (s.clock.firstFrom.isSome = true → s.boot.cfgLocked = true) ∧
  (s.boot.phase = 5 ∨ s.boot.phase = 6 → s.boot.ucodeLocked = true)

/-- The command is a reset of the module or the release of one (Table 22.4). -/
def isModuleReset : Instr → Bool
  | .powerOn | .resetNAssert _ | .resetRelease _ _ _ _ _ | .railProtectReset | .railHoldRelease _ _ _ _ _ | .thermalTrip
  | .thermalHoldRelease _ _ _ _ _ => true
  | _ => false

/-- The tick index that an overlay commit names. -/
def ovlTarget (s : State) : Nat := (rd s Reg.TICK_OVL_TARGET_LO).toNat + (rd s Reg.TICK_OVL_TARGET_HI).toNat * 2 ^ 32

/-- Everything volatile is as `State.fresh` gives it for this module's build, straps, fuses, flash and host memory, but for
the causes of the reset, which PWR_RESET_CAUSE holds. -/
def Cleared (s s' : State) (causes : Word) : Prop :=
  (∀ q, q ∉ [Place.boot, .host, .out, .free, .pending] →
    q.same (State.fresh s.build s.straps s.fuses s.mems.flash s.mems.host) s') ∧
  (∀ a, a ≠ Reg.PWR_RESET_CAUSE →
    rd s' a = rd (State.fresh s.build s.straps s.fuses s.mems.flash s.mems.host) a) ∧
  rd s' Reg.PWR_RESET_CAUSE = causes ∧
  s'.boot.cfgLocked = false ∧ s'.boot.ucodeLocked = false ∧ s'.boot.serviceable = false ∧ s'.boot.phase = 0

end Sys2Proof
end

