-- ==== Sys2Proof/Certificates/Slice0/Obligations.lean ====
section
/-! DEFINITION. The statements for the provers: per family of commands what each does, and what every step keeps. -/

open Sys2Proof Sys2Proof.Machine

/-- A step takes the command at the front of the queue and runs it on the state with the queue's rest; on an empty queue the
block idles (the model's choice, log entry 17); and since the opcode table gives no row bits, no word spells a command. -/
def Obligations.AStepRunsTheFrontCommand : Prop :=
  (∀ (c : Instr) (rest : List Instr) (s : State),
    step { s with pending := c :: rest } = exec c { s with pending := rest }) ∧
  (∀ s : State, s.pending = [] → step s = .next s) ∧
  (∀ (nbits w : Nat) (s : State), decodeTableWord nbits w = none ∧ s.withFetchWord nbits w = s)

/-- After reset: the memories are canonical and the lock points in order; nothing is locked, no tick runs, the queue of
commands is empty, the ports hold, no queue, flag, waiter, work item, slot or flow is in use and every memory lists nothing;
the straps and the build are the model's choice (log entry 1), whose values HST_STRAP, HST_IDENT, LNK_PORT_EN and PWR_LIMIT
show; PWR_RESET_CAUSE says power-on (log entry 15), and every other register holds the reset value of its row in chapters 20
and 21, TICK_CFG, TICK_EPOCHCFG, TBU_CFG, TBU_LIMITS, SUP_WDOG_CFG and PART_CFG among them. -/
def Obligations.ResetLeavesACleanModule : Prop :=
  MemoriesWf State.reset ∧ LockPointsInOrder State.reset ∧ State.reset.boot.ucodeLocked = false ∧
  State.reset.boot.phase = 0 ∧ State.reset.clock.running = false ∧ State.reset.pending = [] ∧
  State.reset.mems.mem = [] ∧ State.reset.mems.csram = [] ∧ State.reset.mems.hsram = [] ∧ State.reset.mems.flash = [] ∧
  (∀ q, queue State.reset q = Queue.init) ∧ (∀ n, port State.reset n = Port.init) ∧ (∀ n, n < 16 → portSt State.reset n = .hold) ∧
  (∀ f, flagOn State.reset f = false ∧ waitsOn State.reset f = []) ∧ State.reset.sched.items = [] ∧
  (∀ k, (slot State.reset k).st = 0) ∧ State.reset.fab.outFlows = [] ∧ State.reset.fab.inFlows = [] ∧
  State.reset.sup.ready = false ∧ State.reset.bridge.st = 0 ∧
  rd State.reset Reg.HST_STRAP = 0 ∧ rd State.reset Reg.HST_IDENT = 0x01000882#32 ∧
  rd State.reset Reg.LNK_PORT_EN = 0xFFFF#32 ∧ rd State.reset Reg.PWR_LIMIT = BitVec.ofNat 32 State.reset.build.envelope ∧
  rd State.reset Reg.PWR_RESET_CAUSE = 1 ∧ rd State.reset Reg.TICK_CFG = 0x32140064#32 ∧
  rd State.reset Reg.TICK_EPOCHCFG = 0x320#32 ∧ rd State.reset Reg.TBU_CFG = 0x3C000000#32 ∧
  rd State.reset Reg.TBU_LIMITS = 0x0271000A#32 ∧ rd State.reset Reg.SUP_WDOG_CFG = 4 ∧
  rd State.reset Reg.PART_CFG = 0x10#32 ∧
  ∀ a, a ≠ Reg.HST_STRAP → a ≠ Reg.HST_IDENT → a ≠ Reg.LNK_PORT_EN → a ≠ Reg.PWR_LIMIT → a ≠ Reg.PWR_RESET_CAUSE →
    rd State.reset a = RegMap.resetOf a

/-- No command touches the queue: a step that answers a next state leaves exactly the rest of it, in its order. -/
def Obligations.AStepTakesOneCommand : Prop :=
  ∀ (s s' : State) (c : Instr) (rest : List Instr), s.pending = c :: rest → step s = .next s' → s'.pending = rest

/-- The frame of every command: a next state differs from the state before only in the places that the command's entry of
`changes` names. Every other field, every byte of every other memory and every other register of BAR0 is as before. -/
def Obligations.EveryCommandKeepsItsFrame : Prop :=
  ∀ (c : Instr) (s s' : State), exec c s = .next s' → ChangesOnly (changes c) s s'

/-- The memories and the register map keep their canonical form: addresses strictly rising, and nothing listed that an
unlisted address reads as. -/
def Obligations.StepsKeepTheMemoriesCanonical : Prop :=
  ∀ s s' : State, MemoriesWf s → step s = .next s' → MemoriesWf s'

/-- R107, R108, R560: every step keeps the lock points in their order. -/
def Obligations.StepsKeepTheLockPointsInOrder : Prop :=
  ∀ s s' : State, LockPointsInOrder s → step s = .next s' → LockPointsInOrder s'

/-- R107: no lock point is undone, and no tick is taken back, but by a reset of the module. -/
def Obligations.LockPointsAreNotUndone : Prop :=
  ∀ (c : Instr) (s s' : State), isModuleReset c = false → exec c s = .next s' →
    (s.boot.ucodeLocked = true → s'.boot.ucodeLocked = true) ∧ (s.boot.cfgLocked = true → s'.boot.cfgLocked = true) ∧
    (s.boot.serviceable = true → s'.boot.serviceable = true) ∧ (s.clock.running = true → s'.clock.running = true) ∧
    (s.clock.running = true → s.clock.seq ≤ s'.clock.seq ∧ s'.clock.seq ≤ s.clock.seq + 1)

/-- R544: every command completes in every state, with every operand, but for a RESET_N pulse from 1 µs up to 1 ms, which has
no defined outcome: that step stops. -/
def Obligations.OnlyAnUndefinedResetPulseStops : Prop :=
  (∀ (c : Instr) (s : State), (∀ n, c = .resetNAssert n → n < 1000 ∨ 1000000 ≤ n) → ∃ s', exec c s = .next s') ∧
  (∀ (n : Nat) (s : State), 1000 ≤ n → n < 1000000 → exec (.resetNAssert n) s = .fault .resetPulseUndefined)

/-- R92: the straps are sampled at reset release, and no other command, whoever sends it, changes the sampled values. -/
def Obligations.StrapsAreSampledAtReleaseOnly : Prop :=
  (∀ (s : State) (g : Bool) (sel m t : Nat) (ok : Bool) (c : Instr),
    c = .resetRelease g sel m ok t ∧ s.boot.inReset = true ∧ s.boot.railHold = false ∧ s.boot.thermalHold = false ∨
      c = .railHoldRelease g sel m ok t ∧ s.boot.inReset = false ∧ s.boot.railHold = true ∧ s.boot.thermalHold = false ∨
      c = .thermalHoldRelease g sel m ok t ∧ s.boot.inReset = false ∧ s.boot.railHold = false ∧
        s.boot.thermalHold = true →
    Gives c s (fun s' => s'.straps = { g1compat := g, bootSel := sel % 4, modId := m % 32 })) ∧
  (∀ (c : Instr) (s s' : State), (∀ g sel m ok t, c ≠ .resetRelease g sel m ok t ∧ c ≠ .railHoldRelease g sel m ok t ∧
      c ≠ .thermalHoldRelease g sel m ok t) → exec c s = .next s' → s'.straps = s.straps)

/-- R103, R104: the fused minimum never falls and no key comes back; only a CONFIRM raises the minimum, and no command but a
write of a register or CONFIRM touches the fuses. The build never changes. -/
def Obligations.FusesOnlyRise : Prop :=
  ∀ (c : Instr) (s s' : State), exec c s = .next s' →
    s.fuses.minSvn ≤ s'.fuses.minSvn ∧ s'.fuses.revoked = s.fuses.revoked ∧ s'.build = s.build ∧
    (c ≠ .confirm → (∀ sp off v hi src t, c ≠ .registerWrite sp off v hi src t) → s'.fuses = s.fuses)

/-- R107, Table 4.13: the window, allocation, group and route tables and the models of the LEDGER section are loaded at the
end of the load and cleared by a reset of the module; no other command changes them. -/
def Obligations.TablesChangeOnlyAtLoad : Prop :=
  ∀ (c : Instr) (s s' : State), isModuleReset c = false → c ≠ .loadComplete → exec c s = .next s' →
    s'.fence.windows = s.fence.windows ∧ s'.fence.allocs = s.fence.allocs ∧ s'.hubs.groups = s.hubs.groups ∧
    s'.fab.routes = s.fab.routes ∧ s'.ledger.parts = s.ledger.parts ∧ s'.ledger.models = s.ledger.models

/-- R56, R57: an edge of PPS_IN that falls on the grid of the last edge taken (or finds none) is taken and counted, the
fourth in a row qualifies PPS_IN, and any other edge is ignored; the loss of PPS_IN ends its qualification. REF10M_IN
qualified changes source 0x2 to 0x1 and its loss changes 0x1 to 0x2, in the same quality state and with SOURCE_SWITCH.

R58, R62, R63: a valid Sync of a new interval counts up to three when it follows the last one and starts again at one
otherwise; an Announce of the configured domain gives the UTC offset and the leap indicators, and leaves a count of 0 after
an interval without a Sync; the loss of PTP ends its qualification and its count; and a one-second interval closes with the
mean of the offsets of its Syncs. A profile that is off takes neither message, and an Announce of another domain is not
taken.

R55, R60, R62, R65, R73, R74: the end of the revert hold-off selects the best qualified source; a freewheel bound above the
untraceable limit enters UNTRACEABLE; a label is kept, or ignored and counted while PTP is qualified; a snapshot takes the
four words of one instant; PPS_OUT rises at a whole second for 100 µs where its ball carries it, and stays low while
squelched; and the leap second moves the UTC offset taken from PTP alone. -/
def Obligations.TheTimebaseFollowsItsSources : Prop :=
  (∀ (s : State) (falling : Bool) (t : Nat),
     (ppsEn s = true → falling = wbit (rd s Reg.TBU_CFG) 7 →
       (∀ l, s.tbu.pps.last = some l → l + 999999000 ≤ now s t ∧ now s t ≤ l + 1000001000) →
       Gives (.ppsInEdge falling t) s (fun s' =>
         s'.tbu.pps.count = min 4 (s.tbu.pps.count + 1) ∧ s'.tbu.pps.last = some (now s t) ∧
         (s'.tbu.pps.qualified = true ↔ 3 ≤ s.tbu.pps.count))) ∧
     (ppsEn s = true → falling = wbit (rd s Reg.TBU_CFG) 7 →
       (∃ l, s.tbu.pps.last = some l ∧ ¬(l + 999999000 ≤ now s t ∧ now s t ≤ l + 1000001000)) →
       Gives (.ppsInEdge falling t) s (fun s' => s' = s)) ∧
     Gives (.ppsInLoss t) s (fun s' =>
       s'.tbu.pps.count = 0 ∧ s'.tbu.pps.qualified = false ∧ s'.tbu.pps.last = none ∧ s'.tbu.ptp = s.tbu.ptp) ∧
     (wbit (rd s Reg.TBU_CFG) 1 = true → Gives (.ref10mQualify t) s (fun s' =>
       s'.tbu.ref10m = true ∧ s'.tbu.source = (if s.tbu.source = 2 then 1 else s.tbu.source) ∧
       s'.tbu.quality = s.tbu.quality ∧
       rd s' Reg.TBU_EVENT = (if s.tbu.source = 2 then setBitW (rd s Reg.TBU_EVENT) 4 else rd s Reg.TBU_EVENT))) ∧
     Gives (.ref10mLoss t) s (fun s' =>
       s'.tbu.ref10m = false ∧ s'.tbu.source = (if s.tbu.source = 1 then 2 else s.tbu.source) ∧
       s'.tbu.quality = s.tbu.quality ∧
       rd s' Reg.TBU_EVENT = (if s.tbu.source = 1 then setBitW (rd s Reg.TBU_EVENT) 4 else rd s Reg.TBU_EVENT))) ∧
  (∀ (s : State) (t : Nat),
     (ptpProfile s = 1 ∨ ptpProfile s = 2 → ∀ (n : Nat) (raw : Int), Gives (.ptpSyncRx n raw t) s (fun s' =>
       s'.tbu.ptp.lastInterval = some n ∧
       (∀ l, s.tbu.ptp.lastInterval = some l → n = l + 1 → s'.tbu.ptp.count = min 3 (s.tbu.ptp.count + 1)) ∧
       (s.tbu.ptp.lastInterval = some n → s'.tbu.ptp.count = s.tbu.ptp.count) ∧
       (s.tbu.ptp.lastInterval ≠ some n → (∀ l, s.tbu.ptp.lastInterval = some l → n ≠ l + 1) →
         s'.tbu.ptp.count = 1))) ∧
     (ptpProfile s = 1 ∨ ptpProfile s = 2 → ∀ (n d : Nat) (tr : Bool) (cc : Nat) (utc : Int) (l61 l59 : Bool),
       d = rdF s Reg.TBU_CFG 16 8 → Gives (.ptpAnnounceRx n d tr cc utc l61 l59 t) s (fun s' =>
         s'.tbu.ptp.count = syncsInRow s.tbu.ptp n ∧ s'.tbu.ptp.utc = utc ∧ s'.tbu.ptp.leap61 = l61 ∧ s'.tbu.ptp.leap59 = l59 ∧
         (s'.tbu.ptp.announceOk = true ↔ tr = true ∧ (cc = 6 ∨ cc = 7)))) ∧
     (∀ (n d : Nat) (tr : Bool) (cc : Nat) (utc : Int) (l61 l59 : Bool),
       ¬(ptpProfile s = 1 ∨ ptpProfile s = 2) ∨ d ≠ rdF s Reg.TBU_CFG 16 8 →
       Gives (.ptpAnnounceRx n d tr cc utc l61 l59 t) s (fun s' => s' = s)) ∧
     (¬(ptpProfile s = 1 ∨ ptpProfile s = 2) → ∀ (n : Nat) (raw : Int), Gives (.ptpSyncRx n raw t) s (fun s' => s' = s)) ∧
     Gives (.ptpLoss t) s (fun s' =>
       s'.tbu.ptp.qualified = false ∧ s'.tbu.ptp.count = 0 ∧ s'.tbu.ptp.announceOk = false ∧ s'.tbu.pps = s.tbu.pps) ∧
     (s.tbu.ptp.pendingOffsets ≠ [] → Gives (.ptpMeasurement t) s (fun s' =>
       s'.tbu.ptp.pendingOffsets = [] ∧
       (∀ m : Int, s.tbu.ptp.pendingOffsets.foldl (· + ·) 0 = m * s.tbu.ptp.pendingOffsets.length →
         s'.tbu.ptp.offset = some m)))) ∧
  (∀ (s : State) (t : Nat),
     (s.tbu.holding = true → Gives (.revertHoldOffExpiry t) s (fun s' =>
       s'.tbu.source = bestSource s ∧ s'.tbu.holding = false ∧ s'.tbu.quality = s.tbu.quality)) ∧
     (s.tbu.holding = false → Gives (.revertHoldOffExpiry t) s (fun s' => s' = s)) ∧
     (s.tbu.quality = .freewheel → untraceNs s < boundAt s t → Gives (.untraceableEntry t) s (fun s' =>
       s'.tbu.quality = .untraceable ∧ s'.tbu.source = s.tbu.source ∧
       rd s' Reg.TBU_EVENT = setBitW (rd s Reg.TBU_EVENT) 3)) ∧
     (∀ hi : Word, s.tbu.ptp.qualified = false → Gives (.labelSubmit hi) s (fun s' =>
       s'.tbu.label = some ((rd s Reg.TBU_LABEL_LO).toNat + hi.toNat % 65536 * 2 ^ 32) ∧ (∀ a, rd s' a = rd s a))) ∧
     (∀ hi : Word, s.tbu.ptp.qualified = true → Gives (.labelSubmit hi) s (fun s' =>
       s'.tbu = s.tbu ∧
       (rd s' Reg.TBU_LABEL_IGNORED_COUNT).toNat = min ((rd s Reg.TBU_LABEL_IGNORED_COUNT).toNat + 1) (2 ^ 32 - 1) ∧
       (∀ a, a ≠ Reg.TBU_LABEL_IGNORED_COUNT → rd s' a = rd s a))) ∧
     Gives (.snap t) s (fun s' => s'.tbu.snap = timeRecordAt s (scaleAt s t) (boundAt s t) ∧ (∀ a, rd s' a = rd s a)) ∧
     (timingBall s 0 = true → scaleAt s t % 1000000000 = 0 →
       ¬(wbit (rd s Reg.TBU_CFG) 11 = true ∧ s.tbu.quality = .untraceable) → Gives (.ppsOutRise t) s (fun s' =>
         s'.out = .pulse "PPS_OUT" t 100000 :: s.out ∧ s'.tbu = s.tbu)) ∧
     (wbit (rd s Reg.TBU_CFG) 11 = true → s.tbu.quality = .untraceable → Gives (.ppsOutRise t) s (fun s' => s' = s)) ∧
     (s.tbu.ptp.qualified = true → Gives .leapSecond s (fun s' =>
       s'.tbu.ptp.utc = s.tbu.ptp.utc + (if s.tbu.ptp.leap61 then 1 else if s.tbu.ptp.leap59 then -1 else 0) ∧
       s'.tbu.ptp.leap61 = false ∧ s'.tbu.ptp.leap59 = false ∧ s'.clock = s.clock)))

/-- R12 to R15, R128, R129, R460, R506, R556: what one aligned 32-bit write to BAR0 does. The Fence refuses a write that
breaks a bound, which counts in that bound's counter and sets its event bit; a PF0 write to a supervisor-only register is a
refused access, counted; an offset without a register takes none; a plain RW or RWL register takes the bits of its mask and
every other register stays. An unaligned write, and a narrow, unaligned or poisoned access, is counted and has no effect.

R119, R507: a supervisor access outside its three regions returns a bus error and counts as a partition-crossing violation. A
read of the LO register of a pair returns its value, and the HI half of that same instant is what the same requester's next
read of the HI register returns, however late; the other requester's latches stay. An unaligned read is counted and returns
all ones. -/
def Obligations.RegistersAreWrittenAndRead : Prop :=
  (∀ (s : State) (off : Nat) (v : Word) (src : Requester) (t : Nat),
     (∀ r, off % 4 = 0 → regRow s off = some r → (r.sup = true → src = .supervisor) → brokenBound s off = none →
       takesWrite s off = true → ownWrite off (regMask s off r) v src t s = none → (r.acc = .rw ∨ r.acc = .rwl) →
       Gives (.registerWrite .bar0 off v none src t) s (fun s' =>
         rd s' off = maskIn (rd s off) v (w32 (regMask s off r)) ∧ (∀ a, a ≠ off → rd s' a = rd s a) ∧
         s'.mems = s.mems ∧ s'.fence = s.fence ∧ s'.boot = s.boot ∧ s'.out = s.out)) ∧
     (∀ r b, off % 4 = 0 → regRow s off = some r → (r.sup = true → src = .supervisor) → brokenBound s off = some b →
       Gives (.registerWrite .bar0 off v none src t) s (fun s' =>
         (rd s' b.counter).toNat = min ((rd s b.counter).toNat + 1) (2 ^ 32 - 1) ∧
         rd s' Reg.FENCE_EVENT = setBitW (rd s Reg.FENCE_EVENT) b.bit ∧
         (∀ a, a ∉ [Reg.FENCE_EVENT, Reg.FENCE_VLOG_0, Reg.FENCE_VLOG_1, b.counter, Reg.BKG_EVENT,
             Reg.BKG_LOG_DROP_COUNT, Reg.HST_EVENT, Reg.HST_ALERT_STATUS, Reg.HST_PLDM_EVENT_DROP_COUNT] →
           rd s' a = rd s a) ∧ s'.mems = s.mems ∧ s'.boot = s.boot)) ∧
     (∀ r, off % 4 = 0 → regRow s off = some r → r.sup = true → src = .pf0 →
       Gives (.registerWrite .bar0 off v none src t) s (fun s' =>
         (rd s' Reg.HST_BAD_ACCESS_COUNT).toNat = min ((rd s Reg.HST_BAD_ACCESS_COUNT).toNat + 1) (2 ^ 32 - 1) ∧
         s'.mems = s.mems ∧ s'.sup = s.sup)) ∧
     (off % 4 = 0 → regRow s off = none → brokenBound s off = none →
       Gives (.registerWrite .bar0 off v none src t) s (fun s' => s' = s)) ∧
     (off % 4 ≠ 0 → ∀ (sp : RegSpace) (hi : Option Word), Gives (.registerWrite sp off v hi src t) s (fun s' =>
       (rd s' Reg.HST_BAD_ACCESS_COUNT).toNat = min ((rd s Reg.HST_BAD_ACCESS_COUNT).toNat + 1) (2 ^ 32 - 1) ∧
       s'.mems = s.mems)) ∧
     (∀ bytes, Gives (.barRefusedAccess true bytes t) s (fun s' =>
       (rd s' Reg.HST_BAD_ACCESS_COUNT).toNat = min ((rd s Reg.HST_BAD_ACCESS_COUNT).toNat + 1) (2 ^ 32 - 1) ∧
       s'.out.head? = some (.value (2 ^ (8 * bytes) - 1)) ∧ s'.mems = s.mems)) ∧
     (∀ bytes, Gives (.barRefusedAccess false bytes t) s (fun s' =>
       (rd s' Reg.HST_BAD_ACCESS_COUNT).toNat = min ((rd s Reg.HST_BAD_ACCESS_COUNT).toNat + 1) (2 ^ 32 - 1) ∧
       s'.mems = s.mems))) ∧
  (∀ (s : State) (t : Nat),
     (∀ addr, Gives (.supervisorBusError addr t) s (fun s' =>
       s'.out.head? = some .busError ∧
       (rd s' Reg.FENCE_COUNT_PART).toNat = min ((rd s Reg.FENCE_COUNT_PART).toNat + 1) (2 ^ 32 - 1) ∧
       rd s' Reg.FENCE_EVENT = setBitW (rd s Reg.FENCE_EVENT) 0 ∧ s'.mems = s.mems)) ∧
     (∀ off src, off % 4 = 0 → pairHi off = none → Gives (.pairLoRead off false src t) s (fun s' =>
       s'.out = .value (readReg s src off t).toNat :: s.out ∧ s'.latches = s.latches ∧ s'.regs = s.regs)) ∧
     (∀ off src wide, off % (if wide then 8 else 4) ≠ 0 → Gives (.pairLoRead off wide src t) s (fun s' =>
       CountsUp s s' Reg.HST_BAD_ACCESS_COUNT 1 ∧ s'.out.head? = some (.value (if wide then 2 ^ 64 - 1 else 2 ^ 32 - 1)) ∧
       s'.latches = s.latches ∧ s'.mems = s.mems)) ∧
     (∀ off hi src wide, off % (if wide then 8 else 4) = 0 → pairHi off = some hi → Gives (.pairLoRead off wide src t) s (fun s' =>
       s'.out = .value (if wide then (readReg s src off t).toNat + (regValue s hi t).toNat * 2 ^ 32
         else (readReg s src off t).toNat) :: s.out ∧
       (∀ t', readReg s' src hi t' = regValue s hi t) ∧
       (∀ src', src' ≠ src → ∀ k t', pairHi (k - 4) = some k → readReg s' src' k t' = readReg s src' k t') ∧
       s'.regs = s.regs)))

/-- R23, R24, R38, R560: at a tick edge TICK_SEQ and the tick index go up by one, the new edge stands at the grid point of
the new index and the elapsed time grows by the length of the tick that ended and its slew, in half nanoseconds; the banks
swap at every edge, and without an overlay accepted for this tick the standing schedule runs alone. Before the first tick
nothing happens.

R109, R560: the first tick takes TICK_SEQ 0 and the index of the first grid point strictly after the instant from which it
may be issued; SERVICEABLE is set and its phase reported. Nothing happens once ticks run, or before that instant is known. -/
def Obligations.TicksBegin : Prop :=
  (∀ (s : State) (l : List Reading) (uj : Nat),
     (s.clock.running = true → Gives (.tickEdge l uj) s (fun s' =>
       s'.clock.seq = s.clock.seq + 1 ∧ s'.clock.index = s.clock.index + 1 ∧ s'.clock.running = true ∧
       s'.clock.edge = ((s.clock.index + 1) * tickNs s : Nat) ∧ s'.clock.len = tickNs s ∧
       2 * s'.clock.elapsed + s'.clock.half =
         ((2 * (s.clock.elapsed + s.clock.len) + s.clock.half : Nat) + s.tbu.tickSlew).toNat ∧
       s'.clock.slotOpen = false ∧ s'.clock.steps = s.clock.steps ∧ s'.clock.bank = !s.clock.bank ∧
       (s'.clock.standing = true ↔ s.sched.overlay.map (·.1) ≠ some (s.clock.seq + 1)))) ∧
     (s.clock.running = false → Gives (.tickEdge l uj) s (fun s' => s' = s))) ∧
  (∀ (s : State) (l : List Reading),
     (∀ f, s.clock.running = false → s.clock.firstFrom = some f → Gives (.firstTick l) s (fun s' =>
       s'.clock.running = true ∧ s'.clock.seq = 0 ∧
       s'.clock.index = (s.clock.edge + f).toNat / tickNs s + 1 ∧ s'.boot.serviceable = true ∧ s'.boot.phase = 8)) ∧
     (s.clock.running = true ∨ s.clock.firstFrom = none → Gives (.firstTick l) s (fun s' => s' = s)))

/-- R203, R351, R44: at t+S_m the TICK_SCOPED and TILE flags that are set are cleared, the others stay as they are, and a
step committed to this epoch edge is applied and counted; the slot opens once a tick.

R40, R41, R51, R491: at t+G every item of the previous tick that has not completed is aborted; each is counted in
TICK_OVERRUN_COUNT, unless a cause that ranks higher (ABORTED) decides its status; no item of it is left. -/
def Obligations.MaintenanceAndGraceAct : Prop :=
  (∀ s : State,
     (s.clock.running = true → s.clock.slotOpen = false → Gives .maintenanceSlotOpen s (fun s' =>
       s'.clock.slotOpen = true ∧ s'.clock.seq = s.clock.seq ∧
       (∀ f, f ∈ s'.sync.flags ↔ f ∈ s.sync.flags ∧ flagUse s f ≠ some 1 ∧ flagUse s f ≠ some 3) ∧
       s'.clock.steps = s.clock.steps + (if s.clock.stepCommitted then 1 else 0) ∧
       (s.clock.stepCommitted = true → s'.clock.stepCommitted = false ∧
         (s.tbu.deferred = none → s'.tbu.stepPending = false)))) ∧
     (s.clock.running = false ∨ s.clock.slotOpen = true → Gives .maintenanceSlotOpen s (fun s' => s' = s))) ∧
  (∀ s : State,
     (s.clock.running = true → Gives .graceDeadline s (fun s' =>
       (∀ i, (item s i).seq < s.clock.seq → SMap.get? s.sched.items i ≠ none → (item s' i).ph = .done) ∧
       (∃ l : List Nat, l.Nodup ∧ CountsUp s s' Reg.TICK_OVERRUN_COUNT l.length ∧
         ∀ i, i ∈ l ↔ SMap.get? s.sched.items i ≠ none ∧ (item s i).ph ≠ .done ∧ (item s i).seq < s.clock.seq ∧
           (item s i).grounds.all (fun g => g.1 != .aborted) = true) ∧
       s'.clock = s.clock)) ∧
     (s.clock.running = false → Gives .graceDeadline s (fun s' => s' = s)))

/-- R28, R32, R178: a kernel or copy item that waits starts at its planned time in the foreground, when it stands first on
lanes that are free, and nothing else changes. R41, R198: a kernel that ends is done, whatever its record says, and is
counted as overrun when it ends at its deadline; while one of its cores stalls in a flag wait it does not end. -/
def Obligations.ItemsStartAndComplete : Prop :=
  ∀ (s : State) (i t : Nat), itemLive s i = true →
    ((item s i).ph = .waiting → laneTurn s i = true → (item s i).start ≤ t → foreStart s ≤ t →
      (∀ m k, (item s i).src ≠ .step m k) → (item s i).desc.opcode ≠ 3 →
      Gives (.itemStart i t) s (fun s' =>
        item s' i = { item s i with ph := .running } ∧ (∀ j, j ≠ i → item s' j = item s j) ∧
        s'.regs = s.regs ∧ s'.mems = s.mems ∧ s'.queues = s.queues ∧ s'.out = s.out)) ∧
    ((item s i).ph = .waiting → laneTurn s i = true → (item s i).seq = s.clock.seq → t < (item s i).start →
      Gives (.itemStart i t) s (fun s' => s' = s)) ∧
    ((item s i).ph = .running → (item s i).desc.opcode = 1 → (∃ q k, (item s i).src = .entry q k) →
      (∀ l, l ∈ (item s i).lanes → l < 64) →
      ((item s i).lanes.any (coreWaits s) = false → Gives (.workItemComplete i t) s (fun s' =>
        (item s' i).ph = .done ∧ (∀ j, item s' j = item s j ∨ item s' j = { item s j with ph := .done }) ∧
        rd s' Reg.TICK_OVERRUN_COUNT = (if (item s i).seq < s.clock.seq ∧ graceNs s ≤ t ∧
            (item s i).grounds.all (fun g => g.1 != .aborted) = true
          then addSat (rd s Reg.TICK_OVERRUN_COUNT) 1 else rd s Reg.TICK_OVERRUN_COUNT))) ∧
      ((item s i).lanes.any (coreWaits s) = true → Gives (.workItemComplete i t) s (fun s' => s' = s)))

/-- R36, R37, R141, R511, R512: an overlay commit is classified in the order of Table 20.8a: not the next tick (6), one
already accepted (7), held after a supervisor-alone reset (5, counted), later than 25 µs before the edge (2, counted, with
its event), more than 1,024 items (3, a Fence refusal); and when every item passes the Fence's check and keeps its times, the
overlay is accepted (1) for the next tick, and no register changes unless a fetch that a freed cache slot admits is
refused. -/
def Obligations.OverlayCommitIsClassified : Prop :=
  ∀ (s : State) (t : Nat),
    (s.clock.running = false ∨ ovlTarget s ≠ s.clock.index + 1 → Gives (.overlayCommit t) s (fun s' =>
      s'.sched.ovlResult = 6 ∧ s'.sched.overlay = s.sched.overlay ∧ (∀ a, rd s' a = rd s a) ∧ s'.queues = s.queues)) ∧
    (s.clock.running = true → ovlTarget s = s.clock.index + 1 →
      (s.sched.overlay.map (·.1) = some (s.clock.seq + 1) → Gives (.overlayCommit t) s (fun s' =>
        s'.sched.ovlResult = 7 ∧ s'.sched.overlay = s.sched.overlay ∧ (∀ a, rd s' a = rd s a) ∧ s'.queues = s.queues)) ∧
      (s.sched.overlay.map (·.1) ≠ some (s.clock.seq + 1) →
        (overlayHeldFor s = true → Gives (.overlayCommit t) s (fun s' =>
          s'.sched.ovlResult = 5 ∧ s'.sched.overlay = s.sched.overlay ∧
          (rd s' Reg.SUP_OVERLAY_HELD_COUNT).toNat = min ((rd s Reg.SUP_OVERLAY_HELD_COUNT).toNat + 1) (2 ^ 32 - 1))) ∧
        (overlayHeldFor s = false → s.clock.len < t + 25000 → Gives (.overlayCommit t) s (fun s' =>
          s'.sched.ovlResult = 2 ∧ s'.sched.overlay = s.sched.overlay ∧
          (rd s' Reg.TICK_SCHED_LATE_COUNT).toNat = min ((rd s Reg.TICK_SCHED_LATE_COUNT).toNat + 1) (2 ^ 32 - 1) ∧
          rd s' Reg.TICK_EVENT = setBitW (rd s Reg.TICK_EVENT) 0)) ∧
        (overlayHeldFor s = false → t + 25000 ≤ s.clock.len → 1024 < rdF s Reg.TICK_OVL_COUNT 0 11 →
          Gives (.overlayCommit t) s (fun s' =>
            s'.sched.ovlResult = 3 ∧ s'.sched.ovlItem = 0x7FF ∧ s'.sched.overlay = s.sched.overlay ∧
            (rd s' Reg.FENCE_COUNT_PART).toNat = min ((rd s Reg.FENCE_COUNT_PART).toNat + 1) (2 ^ 32 - 1))) ∧
        (overlayHeldFor s = false → t + 25000 ≤ s.clock.len → rdF s Reg.TICK_OVL_COUNT 0 11 ≤ 1024 →
          (∀ i, i < rdF s Reg.TICK_OVL_COUNT 0 11 →
            ovlOk s (((List.range (rdF s Reg.TICK_OVL_COUNT 0 11)).map (ovlItem s)).take i) (ovlItem s i) = true ∧
            ovlTimeOk s (ovlItem s i) = true) →
          Gives (.overlayCommit t) s (fun s' =>
            s'.sched.ovlResult = 1 ∧ s'.sched.overlay.map (·.1) = some (s.clock.seq + 1) ∧
            s'.sched.overlay.map (fun o => o.2.map (·.it)) =
              some ((List.range (rdF s Reg.TICK_OVL_COUNT 0 11)).map (ovlItem s)) ∧
            s'.clock = s.clock ∧ s'.sync = s.sync ∧
            ((∀ q, (queue s q).toFetch = []) → SameRegs s s')))))

/-- R540, R544, R546, R554: POWER_ON, RESET_N_ASSERT, RAIL_PROTECT_RESET and THERMAL_TRIP complete: each clears everything
volatile and records its cause, with the causes of a reset that still holds; a protective reset holds the module and
THERMTRIP_N falls with the thermal one; RESET_N low for less than 1 µs is ignored, low for 1 ms or more it holds the module
in reset, and a protective hold absorbs it.

R92, R95, R97, R99, R546: when the last reset that holds is released, the straps are latched from the balls and the boot
starts over from a clear module: with a good flash at the first slot of the order, in the READ phase; without one in
BOOT_FAIL with code 0x10 for every slot. While another reset holds, nothing starts. -/
def Obligations.ModuleResetsClearAndRestart : Prop :=
  (∀ s : State,
     Gives .powerOn s (fun s' => Cleared s s' 1#32 ∧ s'.boot.inReset = true) ∧
     (∀ n, n < 1000 → Gives (.resetNAssert n) s (fun s' => s' = s)) ∧
     (∀ n, 1000000 ≤ n → heldInReset s = false → Gives (.resetNAssert n) s (fun s' =>
       Cleared s s' 2#32 ∧ s'.boot.inReset = true)) ∧
     (∀ n, 1000000 ≤ n → heldInReset s = true → Gives (.resetNAssert n) s (fun s' =>
       s'.boot = { s.boot with inReset := true } ∧ s'.regs = s.regs ∧ s'.mems = s.mems)) ∧
     Gives .railProtectReset s (fun s' => Cleared s s' (resetCauses s 3) ∧ s'.boot.railHold = true ∧
       s'.boot.inReset = s.boot.inReset ∧ s'.boot.thermalHold = s.boot.thermalHold) ∧
     Gives .thermalTrip s (fun s' => Cleared s s' (resetCauses s 2) ∧ s'.boot.thermalHold = true ∧
       s'.boot.inReset = s.boot.inReset ∧ s'.boot.railHold = s.boot.railHold ∧
       s'.out.head? = some (.level "THERMTRIP_N" false))) ∧
  (∀ (s : State) (g : Bool) (sel m : Nat) (ok : Bool) (t : Nat) (c : Instr),
     (c = .resetRelease g sel m ok t ∧ s.boot.inReset = true ∧ s.boot.railHold = false ∧ s.boot.thermalHold = false ∨
       c = .railHoldRelease g sel m ok t ∧ s.boot.inReset = false ∧ s.boot.railHold = true ∧ s.boot.thermalHold = false ∨
       c = .thermalHoldRelease g sel m ok t ∧ s.boot.inReset = false ∧ s.boot.railHold = false ∧
         s.boot.thermalHold = true →
       Gives c s (fun s' =>
         s'.straps = { g1compat := g, bootSel := sel % 4, modId := m % 32 } ∧ heldInReset s' = false ∧
         s'.boot.cfgLocked = false ∧ s'.boot.serviceable = false ∧ s'.clock.running = false ∧
         (ok = false → s'.boot.phase = 15 ∧ rd s' Reg.HST_BOOT_FAIL = 0x101010#32 ∧ s'.mems.flash = s.mems.flash) ∧
         (ok = true → s'.boot.phase = 1 ∧
           (slotOrder (setStraps s { g1compat := g, bootSel := sel % 4, modId := m % 32 })).head? =
             some s'.boot.slot))) ∧
     (c = .resetRelease g sel m ok t ∧ (s.boot.railHold = true ∨ s.boot.thermalHold = true) →
       Gives c s (fun s' => s'.boot = { s.boot with inReset := false } ∧ s'.straps = s.straps ∧ s'.regs = s.regs)) ∧
     (c = .railHoldRelease g sel m ok t ∧ s.boot.railHold = true ∧ (s.boot.inReset = true ∨ s.boot.thermalHold = true) →
       Gives c s (fun s' => s'.boot = { s.boot with railHold := false } ∧ s'.straps = s.straps ∧ s'.regs = s.regs)) ∧
     (c = .thermalHoldRelease g sel m ok t ∧ s.boot.thermalHold = true ∧
         (s.boot.inReset = true ∨ s.boot.railHold = true) →
       Gives c s (fun s' => s'.boot = { s.boot with thermalHold := false } ∧ s'.straps = s.straps ∧ s'.regs = s.regs ∧
         s'.out = .level "THERMTRIP_N" true :: s.out)))

/-- R95, R99, R103, R107: a flash read that times out during the boot fails every slot with code 0x10; an image that passes
the load checks brings the boot to the LOAD phase with its digest and SVN shown, and one that fails records its code, and the
next slot starts, or BOOT_FAIL where none is left; the end of the load takes the microcode lock, starts the supervisor and
brings every port to where it waits for its bring-up.

R110, R111, R116, R142, R516: the configuration window opens when the hardware is trained and the firmware is ready,
whichever comes last; a training failure leaves the device in HW_FAIL with the failed sites; firmware that spends its budget
fails its slot with code 0x11 at boot; a READY of 1 ends a restart and starts the watchdog, and a 0 clears READY only. -/
def Obligations.ImageTrainingAndReadyDecideTheBoot : Prop :=
  (∀ (s : State) (pub : List Byte) (t : Nat),
     (heldInReset s = false → s.boot.phase ≤ 4 → s.boot.slot ≠ 3 → Gives (.flashReadTimeout t) s (fun s' =>
       s'.boot.phase = 15 ∧ s'.boot.trying = [] ∧ rd s' Reg.HST_BOOT_FAIL = 0x101010#32)) ∧
     (heldInReset s = true ∨ 4 < s.boot.phase ∨ s.boot.slot = 3 → Gives (.flashReadTimeout t) s (fun s' => s' = s)) ∧
     (heldInReset s = false → s.boot.phase = 1 →
       (imageCode s s.boot.slot pub = 0 → Gives (.imageReadComplete pub t) s (fun s' =>
         s'.boot.phase = 4 ∧ s'.boot.slot = s.boot.slot ∧ s'.boot.sections = imageSections s (slotBase s.boot.slot) ∧
         (∀ i, i < 12 → rd s' (Reg.HST_IMAGE_DIGEST i) = BitVec.ofNat 32 (leAt (imageDigest s s.boot.slot) (4 * i) 4)) ∧
         rd s' Reg.HST_BOOT_FAIL = rd s Reg.HST_BOOT_FAIL ∧ s'.mems = s.mems)) ∧
       (imageCode s s.boot.slot pub ≠ 0 → Gives (.imageReadComplete pub t) s (fun s' =>
         rd s' Reg.HST_BOOT_FAIL = putFld (rd s Reg.HST_BOOT_FAIL) (8 * s.boot.slot) 8 (imageCode s s.boot.slot pub) ∧
         (s.boot.trying = [] → s'.boot.phase = 15 ∧ s'.boot.slot = s.boot.slot ∧ s'.mems = s.mems) ∧
         (∀ k rest, s.boot.trying = k :: rest → s'.boot.phase = 1 ∧ s'.boot.slot = k ∧ s'.boot.trying = rest ∧
           s'.boot.fallback = true)))) ∧
     (heldInReset s = true ∨ s.boot.phase ≠ 1 → Gives (.imageReadComplete pub t) s (fun s' => s' = s)) ∧
     (heldInReset s = false → s.boot.phase = 4 → Gives .loadComplete s (fun s' =>
       s'.boot.ucodeLocked = true ∧ s'.boot.cfgLocked = s.boot.cfgLocked ∧ s'.sup.started = true ∧ s'.boot.phase = 5 ∧
       (∀ n, n < s.build.ports → (port s' n).st =
         (if wbit (rd s' Reg.LNK_PORT_EN) n = false then .disabled else if s.boot.slot = 2 then .hold else .down)))) ∧
     (heldInReset s = true ∨ s.boot.phase ≠ 4 → Gives .loadComplete s (fun s' => s' = s))) ∧
  (∀ (s : State) (failed t : Nat),
     (heldInReset s = false → s.boot.hwDone = false → s.boot.phase ≠ 10 → s.boot.phase ≠ 15 →
       (failed % 65536 = 0 → Gives (.hwTrainingComplete failed t) s (fun s' =>
         s'.boot.hwDone = true ∧ (∀ a, rd s' a = rd s a) ∧
         s'.boot.phase = (if s.boot.phase = 5 ∧ s.boot.fwReady = true then 6 else s.boot.phase))) ∧
       (failed % 65536 ≠ 0 → Gives (.hwTrainingComplete failed t) s (fun s' =>
         s'.boot.phase = 10 ∧ s'.boot.hwDone = false ∧ (rd s' Reg.HST_BOOT_HWFAIL).toNat = failed % 65536))) ∧
     (s.boot.phase = 5 → s.boot.fwReady = false → Gives (.fwInitBudgetExpiry t) s (fun s' =>
       rd s' Reg.HST_BOOT_FAIL = putFld (rd s Reg.HST_BOOT_FAIL) (8 * s.boot.slot) 8 0x11 ∧ s'.sup.started = false ∧
       (s.boot.trying = [] → s'.boot.phase = 15) ∧
       (∀ k rest, s.boot.trying = k :: rest → s'.boot.phase = 1 ∧ s'.boot.slot = k ∧ s'.boot.trying = rest))) ∧
     (s.boot.phase ≠ 5 → s.sup.restarting = false → Gives (.fwInitBudgetExpiry t) s (fun s' => s' = s)) ∧
     (s.sup.held = false → s.boot.ucodeLocked = true →
       Gives (.supReady true) s (fun s' =>
         s'.sup.ready = true ∧ s'.sup.restarting = false ∧ s'.sup.wdogOn = true ∧ s'.sup.failed = 0 ∧
         s'.sup.wdog = (if s.sup.wdogOn = true then s.sup.wdog else 0) ∧ (∀ a, rd s' a = rd s a) ∧
         s'.boot.phase = (if s.boot.phase = 5 ∧ s.boot.hwDone = true then 6 else s.boot.phase)) ∧
       Gives (.supReady false) s (fun s' => s'.sup = { s.sup with ready := false } ∧ s'.boot = s.boot ∧
         (∀ a, rd s' a = rd s a))) ∧
     (s.sup.held = true ∨ s.boot.ucodeLocked = false → ∀ r, Gives (.supReady r) s (fun s' => s' = s)))

/-- R100, R107, R108, R110, R560: in HOST_WINDOW the lock write and the end of the window both take the configuration lock:
the egress caps are the ceilings and the partitions of FENCE_PART_INIT become active, and the device waits for its first tick
(the safe image does not); outside HOST_WINDOW they do nothing. -/
def Obligations.TheConfigurationLockIsTaken : Prop :=
  ∀ (s : State) (t : Nat) (c : Instr), c = .configLock t ∨ c = .lockWindowExpiry t →
    (s.boot.phase = 6 → Gives c s (fun s' =>
      s'.boot.cfgLocked = true ∧ s'.boot.serviceable = s.boot.serviceable ∧ s'.clock.running = s.clock.running ∧
      s'.boot.phase = (if s.boot.slot = 2 then 9 else 7) ∧ s'.mems = s.mems ∧
      (∀ p, p < numParts s → rd s' (Reg.FENCE_EGRESS_CAP p) = rd s (Reg.FENCE_EGRESS_CEIL p)) ∧
      rd s' Reg.FENCE_PART_ACTIVE = rd s Reg.FENCE_PART_INIT ∧
      (s.boot.slot = 2 → s'.clock = s.clock) ∧
      (s.boot.slot ≠ 2 → s.tbu.source ≠ 0 → s'.clock.firstFrom = some (now s t)) ∧
      (s.boot.slot ≠ 2 → s.tbu.source = 0 → wbit (rd s Reg.TBU_CFG) 10 = true → s'.clock.firstFrom = some (now s t)) ∧
      (s.boot.slot ≠ 2 → s.tbu.source = 0 → wbit (rd s Reg.TBU_CFG) 10 = false →
        s'.boot.waitSource = true ∧ s'.clock = s.clock))) ∧
    (s.boot.phase ≠ 6 → Gives c s (fun s' => s' = s))

/-- R98, R104: CONFIRM marks the booted slot confirmed, and raises the fused minimum SVN to the image's; before SERVICEABLE,
on a confirmed or safe image, or under CHECK_LOST it does nothing. -/
def Obligations.ConfirmRaisesTheMinimum : Prop :=
  ∀ s : State,
    (s.boot.serviceable = true → s.boot.unconfirmed = true → s.sup.checkLost = false → Gives .confirm s (fun s' =>
      s'.boot = { s.boot with unconfirmed := false } ∧
      s'.fuses.minSvn = max s.fuses.minSvn (rdF s Reg.HST_SVN 0 16) ∧
      rdF s' Reg.HST_SVN 0 16 = rdF s Reg.HST_SVN 0 16 ∧
      rdF s' Reg.HST_SVN 16 16 = max s.fuses.minSvn (rdF s Reg.HST_SVN 0 16) % 65536 ∧
      (∀ a, a ≠ Reg.HST_SVN → rd s' a = rd s a) ∧ s'.clock = s.clock ∧ s'.mems.mem = s.mems.mem)) ∧
    (s.boot.serviceable = false ∨ s.boot.unconfirmed = false ∨ s.sup.checkLost = true → Gives .confirm s (fun s' => s' = s))

/-- R122, R137, R139, R140, R142, R143: a comparator mismatch, a watchdog fire, a restart that spends its budget and the
release of a held supervisor each make one supervisor-alone reset with its cause; the third failed restart in a row holds the
supervisor. Under CHECK_LOST the comparator is ignored; a watchdog below its limit does not fire.

R123, R124, R125, R138, R139: a delay-register parity error and a failed self-test declare CHECK_LOST without resetting the
supervisor, and a self-test that passes is recorded; a kick with the low bits of TICK_SEQ returns the count to 0 and any
other is counted as bad; the main core starts at its entry. -/
def Obligations.TheSupervisorIsWatched : Prop :=
  (∀ (s : State) (t : Nat) (mm : Bool),
     (s.sup.checkLost = false → Gives (.comparatorMismatch t) s (fun s' =>
       SupRestarted s s' 2 ∧ s'.sup.restarting = true ∧ CountsUp s s' Reg.SUP_MISMATCH_COUNT 1)) ∧
     (s.sup.checkLost = true → Gives (.comparatorMismatch t) s (fun s' => s' = s)) ∧
     (s.sup.wdogOn = true → s.sup.held = false → rdF s Reg.SUP_WDOG_CFG 0 7 ≤ s.sup.wdog →
       Gives (.watchdogFire mm t) s (fun s' =>
         SupRestarted s s' (if mm = true ∧ s.sup.checkLost = false then 3 else 1) ∧ s'.sup.restarting = true)) ∧
     (s.sup.wdogOn = false ∨ s.sup.held = true ∨ s.sup.wdog < rdF s Reg.SUP_WDOG_CFG 0 7 →
       Gives (.watchdogFire mm t) s (fun s' => s' = s)) ∧
     (s.boot.phase ≠ 5 → s.sup.restarting = true → s.sup.held = false → Gives (.fwInitBudgetExpiry t) s (fun s' =>
       SupRestarted s s' 4 ∧ s'.sup.failed = s.sup.failed + 1 ∧
       (s'.sup.held = true ↔ 2 ≤ s.sup.failed) ∧ (s'.sup.restarting = true ↔ s.sup.failed < 2))) ∧
     (s.sup.held = true → Gives .supRelease s (fun s' =>
       SupRestarted s s' 8 ∧ s'.sup.held = false ∧ s'.sup.restarting = true ∧ s'.sup.failed = s.sup.failed)) ∧
     (s.sup.held = false → Gives .supRelease s (fun s' => s' = s))) ∧
  (∀ (s : State) (lane : Option Nat) (pm : Bool) (v : Word) (t : Nat),
     (s.sup.checkLost = false → Gives (.delayParityError t) s (fun s' =>
       s'.sup = { s.sup with checkLost := true, checkerHalted := true } ∧ SetsBit s s' Reg.SUP_CHECK_STATUS 1)) ∧
     (s.sup.checkLost = true → Gives (.delayParityError t) s (fun s' => s' = s)) ∧
     (s.sup.checkLost = false → s.sup.held = false → s.sup.selfTestOff = 0 → s.clock.running = true →
       epochPos s s.clock.index = 1 ∨ epochLen s = 1 →
       (lane = none → pm = false → Gives (.comparatorSelfTest lane pm t) s (fun s' =>
         s'.sup = s.sup ∧ SetsBit s s' Reg.SUP_CHECK_STATUS 0)) ∧
       (lane ≠ none ∨ pm = true → Gives (.comparatorSelfTest lane pm t) s (fun s' =>
         s'.sup = { s.sup with checkLost := true, checkerHalted := true } ∧
         wbit (rd s' Reg.SUP_CHECK_STATUS) 0 = false))) ∧
     (s.sup.checkLost = true ∨ s.sup.held = true ∨ s.sup.selfTestOff ≠ 0 ∨ s.clock.running = false →
       Gives (.comparatorSelfTest lane pm t) s (fun s' => s' = s)) ∧
     (s.clock.running = true → fld v 0 16 = s.clock.seq % 65536 → Gives (.watchdogKick v) s (fun s' =>
       s' = { s with sup := { s.sup with wdog := 0 } })) ∧
     (s.clock.running = false ∨ fld v 0 16 ≠ s.clock.seq % 65536 → Gives (.watchdogKick v) s (fun s' =>
       s'.sup = s.sup ∧ CountsUp s s' Reg.SUP_KICK_BAD_COUNT 1)) ∧
     (s.boot.ucodeLocked = true → s.sup.held = false → s.sup.started = false → Gives .supervisorEntry s (fun s' =>
       s' = { s with sup := { s.sup with started := true } })) ∧
     (s.boot.ucodeLocked = false ∨ s.sup.held = true ∨ s.sup.started = true → Gives .supervisorEntry s (fun s' => s' = s)))

/-- R129, R131, R133, R441, R448, R518: FENCE_PART_ACTIVE takes the value written for the partitions of the build, but for
those that CHECK_LOST keeps out, each of which is one refusal; an egress cap at or below its ceiling in both fields is taken,
and one above it in either is refused whole; a failed-closed table entry opens again when its reload passes, is retried once,
and then stays closed. -/
def Obligations.FenceRegistersAndReloads : Prop :=
  ∀ (s : State) (v : Word) (t p e : Nat),
    (s.sup.checkLost = false → Gives (.fencePartActiveWrite v t) s (fun s' =>
      (∀ q, q < 8 → wbit (rd s' Reg.FENCE_PART_ACTIVE) q = (wbit v q && decide (q < numParts s))) ∧
      (∀ a, a ≠ Reg.FENCE_PART_ACTIVE → rd s' a = rd s a) ∧ s'.fence.windows = s.fence.windows)) ∧
    (s.sup.checkLost = true → Gives (.fencePartActiveWrite v t) s (fun s' =>
      (∀ q, q < 8 → wbit (rd s' Reg.FENCE_PART_ACTIVE) q = (wbit v q && decide (q < numParts s) && partActive s q)) ∧
      CountsUp s s' Reg.FENCE_COUNT_LOCK
        ((List.range 8).countP (fun q => wbit v q && decide (q < numParts s) && !partActive s q)))) ∧
    (p < numParts s → fld v 16 16 ≤ rdF s (Reg.FENCE_EGRESS_CEIL p) 16 16 →
      fld v 0 16 ≤ rdF s (Reg.FENCE_EGRESS_CEIL p) 0 16 → Gives (.egressCapWrite p v t) s (fun s' =>
        rd s' (Reg.FENCE_EGRESS_CAP p) = v ∧ (∀ a, a ≠ Reg.FENCE_EGRESS_CAP p → rd s' a = rd s a) ∧
        s'.fence = s.fence)) ∧
    (p < numParts s → rdF s (Reg.FENCE_EGRESS_CEIL p) 16 16 < fld v 16 16 ∨
      rdF s (Reg.FENCE_EGRESS_CEIL p) 0 16 < fld v 0 16 → Gives (.egressCapWrite p v t) s (fun s' =>
        FenceRefused s s' .egress ∧ rd s' (Reg.FENCE_EGRESS_CAP p) = rd s (Reg.FENCE_EGRESS_CAP p))) ∧
    (∀ n, SMap.get? s.fence.failedClosed e = some n → n < 2 →
      Gives (.tableReloadComplete e true) s (fun s' =>
        s'.fence = { s.fence with failedClosed := SMap.del s.fence.failedClosed e } ∧ SameRegs s s') ∧
      Gives (.tableReloadComplete e false) s (fun s' =>
        s'.fence = { s.fence with failedClosed := SMap.put s.fence.failedClosed e (n + 1) } ∧ SameRegs s s')) ∧
    (SMap.get? s.fence.failedClosed e = none ∨ (∃ n, SMap.get? s.fence.failedClosed e = some n ∧ 2 ≤ n) →
      ∀ b, Gives (.tableReloadComplete e b) s (fun s' => s' = s))

/-- R165, R179, R181, R182, R184, R562: ENABLE moves a DISABLED queue to ENABLED when its configuration, ownership, vector
and windows are valid, and sets CFG_ERR otherwise; SHUTDOWN moves an ENABLED or FAULTED queue to STOPPING; RESET aborts every
posted entry in ring order, empties the cache, and brings a queue with nothing to abort back to reset; none of them acts in
another state of the queue.

R173, R183, R184: ABORTED records are written in ring order as far as the completion queue has released space; when all are
written a STOPPING queue is DISABLED and a RESETTING one is back at reset; with no space nothing is written. -/
def Obligations.QueuesStopWithTheirRecords : Prop :=
  (∀ (s : State) (q t : Nat),
     (q < numQueues s → (queue s q).st = .disabled →
       (enableOk s q = true → Gives (.queueEnable q t) s (fun s' =>
         (queue s' q).st = .enabled ∧ (queue s' q).cfgErr = false ∧ (queue s' q).firstPass = false ∧
         ((queue s q).firstPass = true → (queue s' q).tail = 0 ∧ (queue s' q).cqWrite = 0 ∧ (queue s' q).cqHead = 0 ∧
           (queue s' q).phase = true ∧ (queue s' q).unreleased = []) ∧
         ((queue s q).firstPass = false → queue s' q = { queue s q with st := .enabled, cfgErr := false }) ∧
         SameRegs s s' ∧ ∀ r, r ≠ q → queue s' r = queue s r)) ∧
       (enableOk s q = false → Gives (.queueEnable q t) s (fun s' =>
         queue s' q = { queue s q with cfgErr := true } ∧ SetsBit s s' Reg.WQ_EVENT 4 ∧
         ∀ r, r ≠ q → queue s' r = queue s r))) ∧
     (numQueues s ≤ q ∨ (queue s q).st ≠ .disabled → Gives (.queueEnable q t) s (fun s' => s' = s)) ∧
     (q < numQueues s → (queue s q).st = .enabled ∨ (queue s q).st = .faulted → Gives (.queueShutdown q) s (fun s' =>
       queue s' q = { queue s q with st := .stopping } ∧ SameRegs s s' ∧ s'.sched = s.sched ∧
       ∀ r, r ≠ q → queue s' r = queue s r)) ∧
     (numQueues s ≤ q ∨ ((queue s q).st ≠ .enabled ∧ (queue s q).st ≠ .faulted) →
       Gives (.queueShutdown q) s (fun s' => s' = s)) ∧
     (q < numQueues s → (queue s q).st ≠ .resetting →
       ((queue s q).posted = [] → (queue s q).aborts = [] → Gives (.queueReset q t) s (fun s' =>
         queue s' q = Queue.init ∧ ∀ a, a ∈ queueRegs q → rd s' a = 0#32)) ∧
       ((queue s q).posted ≠ [] → Gives (.queueReset q t) s (fun s' =>
         (queue s' q).st = .resetting ∧ (queue s' q).posted = [] ∧ (queue s' q).cache = [] ∧
         (queue s' q).fetching = [] ∧ (queue s' q).toFetch = [] ∧
         (queue s' q).aborts.map (·.index) = (queue s q).aborts.map (·.index) ++ (queue s q).posted ∧
         ∀ i, i ∈ (queue s q).posted → SMap.get? (queue s' q).done i = some .aborted))) ∧
     (numQueues s ≤ q ∨ (queue s q).st = .resetting → Gives (.queueReset q t) s (fun s' => s' = s))) ∧
  (∀ (s : State) (q t : Nat),
     ((queue s q).aborts = [] → Gives (.abortedRecordsWrite q t) s (fun s' => s' = s)) ∧
     ((queue s q).aborts ≠ [] → qDepth s q ≤ (queue s q).unreleased.length → Gives (.abortedRecordsWrite q t) s (fun s' =>
       s' = s)) ∧
     ((queue s q).aborts ≠ [] → ∀ m, m = min (queue s q).aborts.length (qDepth s q - (queue s q).unreleased.length) →
       0 < m → Gives (.abortedRecordsWrite q t) s (fun s' =>
         CountsUp s s' Reg.WQ_ABORTED_COUNT m ∧
         ((queue s q).st ≠ .resetting ∨ m < (queue s q).aborts.length →
           (queue s' q).aborts = (queue s q).aborts.drop m ∧
           (queue s' q).unreleased = (queue s q).unreleased ++ List.replicate m false ∧
           (queue s' q).st = (if (queue s q).st = .stopping ∧ m = (queue s q).aborts.length then .disabled
             else (queue s q).st)) ∧
         ((queue s q).st = .resetting → m = (queue s q).aborts.length →
           queue s' q = Queue.init ∧ ∀ a, a ∈ queueRegs q → rd s' a = 0#32))))

/-- R176: an invalidate sets INV_BUSY and discards every cached entry not taken, which is fetched again in ring order from
the oldest, in the windows of its partition; its end clears INV_BUSY, and a doorbell written meanwhile takes effect then. An
invalidate while INV_BUSY is set has no effect.

R113, R171, R172, R173: a tail doorbell on an ENABLED queue of an active partition posts the entries up to the new tail in
ring order, when they fit the depth; it is refused with DESC_INVALID when they do not or the value is beyond the ring, and
answered NOT_READY before SERVICEABLE, on a queue that is not ENABLED or whose partition is inactive. A head doorbell is
answered NOT_READY in the same cases, unless ABORTED records wait for space (log entry 52); it releases the records up to the
new head, oldest first, and no more than are written. While INV_BUSY both wait.

R170, R174, R186, R187, R378: a descriptor that arrives in its turn enters the cache with its checks' outcome, its target
tick and its first tick; a SERVE_CANCEL that passes its checks completes OK at once; a descriptor of another opcode, or one
nothing waits for, is not taken. R189: a fetch from module memory that meets an uncorrectable error faults the queue and
completes the entry with POISONED; a SHUTDOWN already written keeps its shutdown point (log entry 52). -/
def Obligations.EntriesAreFetchedAndAnswered : Prop :=
  (∀ (s : State) (q t : Nat),
     (q < numQueues s → (queue s q).invBusy = false → (queue s q).st = .enabled ∨ (queue s q).st = .stopping →
       FetchesAllowed s q (queue s q).posted → Gives (.queueInvalidate q t) s (fun s' =>
         (queue s' q).invBusy = true ∧ (queue s' q).cache = [] ∧ (queue s' q).fetched = [] ∧
         (queue s' q).posted = (queue s q).posted ∧
         (queue s' q).fetching ++ (queue s' q).toFetch = (queue s q).posted.filter (fun i =>
           (queue s q).cache.any (fun c => c.index == i) || (queue s q).fetching.contains i ||
             (queue s q).toFetch.contains i) ∧
         (queue s' q).fetching.length = min 8 ((queue s q).posted.filter (fun i =>
           (queue s q).cache.any (fun c => c.index == i) || (queue s q).fetching.contains i ||
             (queue s q).toFetch.contains i)).length ∧ SameRegs s s')) ∧
     (q < numQueues s → (queue s q).invBusy = false → (queue s q).st = .faulted → Gives (.queueInvalidate q t) s (fun s' =>
       (queue s' q).invBusy = true ∧ (queue s' q).cache = [] ∧ (queue s' q).st = .faulted ∧
       (queue s' q).fetching = (queue s q).fetching ∧ SameRegs s s')) ∧
     (numQueues s ≤ q ∨ (queue s q).invBusy = true ∨
         ((queue s q).st ≠ .enabled ∧ (queue s q).st ≠ .stopping ∧ (queue s q).st ≠ .faulted) →
       Gives (.queueInvalidate q t) s (fun s' => s' = s)) ∧
     ((queue s q).invBusy = true → Gives (.invalidateComplete q t) s (fun s' =>
       (queue s' q).invBusy = false ∧ (queue s' q).dbWaiting = [] ∧
       ((queue s q).dbWaiting = [] → queue s' q = { queue s q with invBusy := false } ∧ SameRegs s s') ∧
       (∀ v, (queue s q).dbWaiting = [(false, v)] →
         s' = tailWrite (setQueue s q { queue s q with invBusy := false, dbWaiting := [] }) q v t) ∧
       (∀ v, (queue s q).dbWaiting = [(true, v)] →
         s' = headWrite (setQueue s q { queue s q with invBusy := false, dbWaiting := [] }) q v t))) ∧
     ((queue s q).invBusy = false → Gives (.invalidateComplete q t) s (fun s' => s' = s))) ∧
  (∀ (s : State) (q t : Nat) (v : Word), (numQueues s ≤ q → ∀ c, c = .doorbellSqTail q v t ∨ c = .doorbellCqHead q v t →
       Gives c s (fun s' => s' = s)) ∧ (q < numQueues s →
     ((queue s q).invBusy = true →
       Gives (.doorbellSqTail q v t) s (fun s' => queue s' q =
         { queue s q with dbWaiting := (queue s q).dbWaiting ++ [(false, fld v 0 12)] } ∧ SameRegs s s') ∧
       Gives (.doorbellCqHead q v t) s (fun s' => queue s' q =
         { queue s q with dbWaiting := (queue s q).dbWaiting ++ [(true, fld v 0 12)] } ∧ SameRegs s s')) ∧
     ((queue s q).invBusy = false → s.boot.serviceable = false →
       ∀ c, c = .doorbellSqTail q v t ∨ (c = .doorbellCqHead q v t ∧ (queue s q).aborts = []) →
       Gives c s (fun s' => queue s' q = { queue s q with dbResult := 0x0D, dbRetry := retryAfter s t } ∧
         CountsUp s s' Reg.HST_DOORBELL_EARLY_COUNT 1)) ∧
     ((queue s q).invBusy = false → s.boot.serviceable = true →
       (s.boot.phase = 9 ∨ (queue s q).st ≠ .enabled →
         ∀ c, c = .doorbellSqTail q v t ∨ (c = .doorbellCqHead q v t ∧ (queue s q).aborts = []) → Gives c s (fun s' =>
         queue s' q = { queue s q with dbResult := 0x0D, dbRetry := 0xFFFF } ∧
         CountsUp s s' Reg.WQ_DB_REFUSED_COUNT 1)) ∧
       (s.boot.phase ≠ 9 → (queue s q).st = .enabled → partActive s (q / 8) = false →
         ∀ c, c = .doorbellSqTail q v t ∨ (c = .doorbellCqHead q v t ∧ (queue s q).aborts = []) → Gives c s (fun s' =>
           queue s' q = { queue s q with dbResult := 0x0D, dbRetry := activationTicks s (q / 8) } ∧
           CountsUp s s' Reg.WQ_DB_REFUSED_COUNT 1)) ∧
       (s.boot.phase ≠ 9 → (queue s q).st = .enabled → partActive s (q / 8) = true →
         (qDepth s q ≤ fld v 0 12 ∨ qDepth s q - 1 < postedUnreleased (queue s q) + standingUnreleased (queue s q) +
             (fld v 0 12 + qDepth s q - (queue s q).tail) % qDepth s q →
           Gives (.doorbellSqTail q v t) s (fun s' =>
             queue s' q = { queue s q with dbResult := 0x0B, dbRetry := 0 } ∧
             CountsUp s s' Reg.WQ_DB_REFUSED_COUNT 1)) ∧
         (fld v 0 12 < qDepth s q → postedUnreleased (queue s q) + standingUnreleased (queue s q) +
             (fld v 0 12 + qDepth s q - (queue s q).tail) % qDepth s q ≤ qDepth s q - 1 →
           FetchesAllowed s q ((queue s q).toFetch ++ (List.range ((fld v 0 12 + qDepth s q - (queue s q).tail) %
             qDepth s q)).map (fun k => ((queue s q).tail + k) % qDepth s q)) →
           Gives (.doorbellSqTail q v t) s (fun s' =>
             (queue s' q).tail = fld v 0 12 ∧ (queue s' q).dbResult = 0 ∧ (queue s' q).dbRetry = 0 ∧
             (queue s' q).posted = (queue s q).posted ++ (List.range ((fld v 0 12 + qDepth s q - (queue s q).tail) %
               qDepth s q)).map (fun k => ((queue s q).tail + k) % qDepth s q) ∧ SameRegs s s'))) ∧
       ((queue s q).aborts ≠ [] ∨ (s.boot.phase ≠ 9 ∧ (queue s q).st = .enabled ∧ partActive s (q / 8) = true) →
         qDepth s q ≤ fld v 0 12 ∨
           (queue s q).unreleased.length < (fld v 0 12 + qDepth s q - (queue s q).cqHead) % qDepth s q →
         Gives (.doorbellCqHead q v t) s (fun s' =>
           queue s' q = { queue s q with dbResult := 0x0B, dbRetry := 0 } ∧
           CountsUp s s' Reg.WQ_DB_REFUSED_COUNT 1)) ∧
       ((queue s q).aborts ≠ [] ∨ (s.boot.phase ≠ 9 ∧ (queue s q).st = .enabled ∧ partActive s (q / 8) = true) →
         fld v 0 12 < qDepth s q →
           (fld v 0 12 + qDepth s q - (queue s q).cqHead) % qDepth s q ≤ (queue s q).unreleased.length →
         Gives (.doorbellCqHead q v t) s (fun s' =>
           queue s' q = { queue s q with
             cqHead := fld v 0 12, dbResult := 0, dbRetry := 0
             unreleased := (queue s q).unreleased.drop ((fld v 0 12 + qDepth s q - (queue s q).cqHead) % qDepth s q) } ∧
           SameRegs s s'))))) ∧
  (∀ (s : State) (q i t : Nat) (raw : List Byte) (rest : List Nat),
     (queue s q).fetching = i :: rest → (queue s q).fetched = [] → barrierCached (queue s q) = false →
     (∀ (op : Nat) (c : Instr), ((op, c) ∈ [(0, Instr.nop q raw t), (8, .barrier q raw t), (4, .serveSubmit q raw t),
         (5, .serveCancel q raw t), (6, .servePause q raw t), (7, .serveResume q raw t)]) →
       (leAt raw 0 1 = op →
         (op ≠ 5 ∨ checkEntry s q i (parseFor s raw) ≠ none → Gives c s (fun s' =>
           (∃ x, x ∈ (queue s' q).cache ∧ x.index = i ∧ x.desc = parseFor s raw ∧ x.taken = false ∧
             x.target = targetOf s (parseFor s raw) t ∧ x.first = relTarget s t ∧
             x.fail = checkEntry s q i (parseFor s raw)) ∧
           (queue s' q).posted = (queue s q).posted)) ∧
         (op = 5 → checkEntry s q i (parseFor s raw) = none → i ∉ (queue s q).toFetch → Gives c s (fun s' =>
           SMap.get? (queue s' q).done i = some .ok ∧ i ∉ (queue s' q).posted))) ∧
       (leAt raw 0 1 ≠ op → Gives c s (fun s' => s' = s))) ∧
     ((sqBase s q).2 = false → memPoisoned s ((sqBase s q).1 + i * sqeBytes s) (sqeBytes s) = false →
       (parseFor s (memRead s ((sqBase s q).1 + i * sqeBytes s) (sqeBytes s))).opcode ≠ 5 →
       Gives (.descriptorFetchComplete q i true t) s (fun s' =>
         ∃ x, x ∈ (queue s' q).cache ∧ x.index = i ∧
           x.desc = parseFor s (memRead s ((sqBase s q).1 + i * sqeBytes s) (sqeBytes s)) ∧ x.taken = false)) ∧
     ((sqBase s q).2 = false → ∀ ok, ok = false ∨ memPoisoned s ((sqBase s q).1 + i * sqeBytes s) (sqeBytes s) = true →
       Gives (.descriptorFetchComplete q i ok t) s (fun s' =>
       (queue s' q).st = .faulted ∧ ((queue s' q).stops = true ↔ (queue s q).st = .stopping ∨ (queue s q).stopDue = true) ∧
       SMap.get? (queue s' q).done i = some .poisoned ∧ i ∉ (queue s' q).posted ∧
       CountsUp s s' Reg.WQ_POISONED_COUNT 1 ∧ wbit (rd s' Reg.WQ_EVENT) 3 = true)) ∧
     ((sqBase s q).2 = true → ∀ ok, Gives (.descriptorFetchComplete q i ok t) s (fun s' => s' = s)))

/-- R186, R187, R188, R189: a read completion whose slot does not wait, or whose generation differs, is counted as late and
dropped; one that a copy waits for is written to its destination; one that ends badly, or times out, ends the copy with
POISONED or faults the queue that fetched, and its slot is skipped until its quarantine ends. -/
def Obligations.HostReadsReturnToTheirSlots : Prop :=
  ∀ (s : State) (tag k t : Nat) (fail : Option ReadFail) (data : List Byte),
    ((SMap.get s.tags TagSlot.init (tag / 16)).waiting = none ∨
        (SMap.get s.tags TagSlot.init (tag / 16)).gen ≠ tag % 16 →
      Gives (.hostReadCompletion tag fail data t) s (fun s' =>
        CountsUp s s' Reg.WQ_LATE_CPL_COUNT 1 ∧ SetsBit s s' Reg.WQ_EVENT 2 ∧ s'.tags = s.tags ∧ s'.mems = s.mems ∧
        s'.queues = s.queues)) ∧
    (∀ i dst len, (SMap.get s.tags TagSlot.init (tag / 16)).waiting = some (.copy i dst len) →
      (SMap.get s.tags TagSlot.init (tag / 16)).gen = tag % 16 → itemLive s i = true →
      (bitAt (leAt (item s i).desc.ops 0x14 4) 1 = false → Gives (.hostReadCompletion tag none data t) s (fun s' =>
        Stores 0#8 s.mems.mem s'.mems.mem dst (slice data 0 len) ∧ item s' i = { item s i with wrote := true } ∧
        s'.mems.host = s.mems.host ∧
        (s.readWait = [] → (SMap.get s'.tags TagSlot.init (tag / 16)).waiting = none))) ∧
      (∀ f, Gives (.hostReadCompletion tag (some f) data t) s (fun s' =>
        Ends s s' i .poisoned t ∧ (SMap.get s'.tags TagSlot.init (tag / 16)).quarantined = true ∧
        (SMap.get s'.tags TagSlot.init (tag / 16)).waiting = none))) ∧
    (∀ q i rest f, (SMap.get s.tags TagSlot.init (tag / 16)).waiting = some (.fetch q i) →
      (SMap.get s.tags TagSlot.init (tag / 16)).gen = tag % 16 → (queue s q).fetching = i :: rest →
      Gives (.hostReadCompletion tag (some f) data t) s (fun s' =>
        (queue s' q).st = .faulted ∧
        SMap.get? (queue s' q).done i = some .poisoned ∧ i ∉ (queue s' q).posted)) ∧
    (∀ i dst len, (SMap.get s.tags TagSlot.init k).waiting = some (.copy i dst len) → itemLive s i = true →
      Gives (.completionTimeout k t) s (fun s' =>
        Ends s s' i .poisoned t ∧ (SMap.get s'.tags TagSlot.init k).quarantined = true ∧
        (SMap.get s'.tags TagSlot.init k).waiting = none)) ∧
    ((SMap.get s.tags TagSlot.init k).waiting = none → Gives (.completionTimeout k t) s (fun s' => s' = s)) ∧
    ((SMap.get s.tags TagSlot.init k).quarantined = true → Gives (.tagQuarantineEnd k) s (fun s' =>
      (SMap.get s'.tags TagSlot.init k).quarantined = false ∧ s'.mems = s.mems ∧ s'.queues = s.queues ∧ SameRegs s s')) ∧
    ((SMap.get s.tags TagSlot.init k).quarantined = false → Gives (.tagQuarantineEnd k) s (fun s' => s' = s))

/-- R32, R440, R472, R474: a kernel's code and argument block are checked before it runs; each of its writes is made when a
window of its partition allows it, and a write or read outside ends the item with WINDOW_VIOLATION, a read of a poisoned
granule with POISONED; a kernel that makes no access leaves the state as it is. R90, R547: in an interval that the power
limiter gates neither a kernel nor a copy acts.

R440, R472, R473: a copy is checked whole before its first access: a source or destination outside the windows ends it with
WINDOW_VIOLATION and a poisoned source with POISONED; a copy within module memory makes its destination equal to what the
source held; a copy to host memory within the cap writes the same bytes there; a copy from host memory issues reads and
writes nothing yet. -/
def Obligations.AccessesAndCopiesAreChecked : Prop :=
  (∀ (s : State) (i t : Nat) (acc : List (Bool × Nat × List Byte)),
     ((item s i).desc.opcode ≠ 1 ∨ (item s i).ph ≠ .running ∨ s.power.gated = true →
       Gives (.compute i acc t) s (fun s' => s' = s)) ∧
     ((item s i).desc.opcode = 1 → (item s i).ph = .running → s.power.gated = false →
       (windowOk s (item s i).part false false (leAt (item s i).desc.ops 0 8) 64 = false →
         Gives (.compute i acc t) s (fun s' => Ends s s' i .windowViolation t)) ∧
       (windowOk s (item s i).part false false (leAt (item s i).desc.ops 0 8) 64 = true →
         leAt (item s i).desc.ops 0x10 2 = 0 ∨
           windowOk s (item s i).part false false (leAt (item s i).desc.ops 8 8) (leAt (item s i).desc.ops 0x10 2) = true →
         (memPoisoned s (leAt (item s i).desc.ops 0 8) 64 = true → Gives (.compute i acc t) s (fun s' =>
           Ends s s' i .poisoned t)) ∧
         (memPoisoned s (leAt (item s i).desc.ops 0 8) 64 = false →
           (leAt (item s i).desc.ops 0x10 2 ≠ 0 →
             memPoisoned s (leAt (item s i).desc.ops 8 8) (leAt (item s i).desc.ops 0x10 2) = true →
             Gives (.compute i acc t) s (fun s' => Ends s s' i .poisoned t)) ∧
           (leAt (item s i).desc.ops 0x10 2 = 0 ∨
             memPoisoned s (leAt (item s i).desc.ops 8 8) (leAt (item s i).desc.ops 0x10 2) = false →
           Gives (.compute i [] t) s (fun s' => s' = s) ∧
           (∀ a bs rest, windowOk s (item s i).part false true a bs.length = true →
             Gives (.compute i [(true, a, bs)] t) s (fun s' => Stores 0#8 s.mems.mem s'.mems.mem a bs ∧
               item s' i = { item s i with wrote := true } ∧ s'.mems.host = s.mems.host ∧ SameRegs s s') ∧
             exec (.compute i ((true, a, bs) :: rest) t) s =
               exec (.compute i rest t) (setItem (memWrite s a bs) i { item s i with wrote := true })) ∧
           (∀ w a bs rest, windowOk s (item s i).part false w a bs.length = false →
             Gives (.compute i ((w, a, bs) :: rest) t) s (fun s' => Ends s s' i .windowViolation t)) ∧
           (∀ a bs rest, windowOk s (item s i).part false false a bs.length = true →
             (memPoisoned s a bs.length = true →
               Gives (.compute i ((false, a, bs) :: rest) t) s (fun s' => Ends s s' i .poisoned t)) ∧
             (memPoisoned s a bs.length = false →
               exec (.compute i ((false, a, bs) :: rest) t) s = exec (.compute i rest t) s))))) ∧
       (windowOk s (item s i).part false false (leAt (item s i).desc.ops 0 8) 64 = true →
         leAt (item s i).desc.ops 0x10 2 ≠ 0 →
         windowOk s (item s i).part false false (leAt (item s i).desc.ops 8 8) (leAt (item s i).desc.ops 0x10 2) = false →
         Gives (.compute i acc t) s (fun s' => Ends s s' i .windowViolation t)))) ∧
  (∀ (s : State) (i t src dst n sp : Nat),
     src = leAt (item s i).desc.ops 0 8 → dst = leAt (item s i).desc.ops 8 8 → n = leAt (item s i).desc.ops 0x10 4 →
     sp = leAt (item s i).desc.ops 0x14 4 →
     ((item s i).desc.opcode ≠ 2 ∨ (item s i).ph ≠ .running ∨ (item s i).wrote = true ∨ itemReads s i = true ∨
         s.power.gated = true → Gives (.copy i t) s (fun s' => s' = s)) ∧
     ((item s i).desc.opcode = 2 → (item s i).ph = .running → (item s i).wrote = false → itemReads s i = false →
       s.power.gated = false →
       (windowOk s (item s i).part (bitAt sp 0) false src n = false → Gives (.copy i t) s (fun s' =>
         Ends s s' i .windowViolation t)) ∧
       (windowOk s (item s i).part (bitAt sp 0) false src n = true →
         (windowOk s (item s i).part (bitAt sp 1) true dst n = false → Gives (.copy i t) s (fun s' =>
           Ends s s' i .windowViolation t)) ∧
         (windowOk s (item s i).part (bitAt sp 1) true dst n = true →
           (bitAt sp 0 = true → Gives (.copy i t) s (fun s' => s'.mems = s.mems ∧ s'.sched = s.sched ∧ SameRegs s s' ∧
             (0 < n → itemReads s' i = true))) ∧
           (bitAt sp 0 = false → memPoisoned s src n = true → Gives (.copy i t) s (fun s' => Ends s s' i .poisoned t)) ∧
           (bitAt sp 0 = false → memPoisoned s src n = false → bitAt sp 1 = false → Gives (.copy i t) s (fun s' =>
             Stores 0#8 s.mems.mem s'.mems.mem dst (memRead s src n) ∧ s'.mems.host = s.mems.host ∧
             item s' i = { item s i with wrote := true } ∧ SameRegs s s')) ∧
           (bitAt sp 0 = false → memPoisoned s src n = false → bitAt sp 1 = true → s.host.pf0Off = false →
             pcieFits s (item s i).part n = true → Gives (.copy i t) s (fun s' =>
             Stores 0#8 s.mems.host s'.mems.host dst (memRead s src n) ∧ s'.mems.mem = s.mems.mem ∧
             item s' i = { item s i with wrote := true } ∧ SameRegs s s'))))))

/-- R156, R197, R198, R200, R204, R205: at its home, a SET of a flag that reads 0 sets it and releases every WAIT, and the
WAIT_CLR of lowest issuer takes it back to 0; a SET of a flag that reads 1 overflows, a CLEAR of one that reads 0 underflows,
and each ends its issuer's item with SYNC_FAULT; a WAIT or WAIT_CLR is released at once on a flag that reads 1 and pends
otherwise; an issuer of another partition ends with KEY_REJECT; a tile SET acts as a SET on a TILE flag and ends its item
with DESC_INVALID on any other. R198: a core that stalls in a flag wait issues no other. -/
def Obligations.FlagOperationsActAtTheirHome : Prop :=
  ∀ (s : State) (u f t : Nat), flagIsolated s u f = false →
    (flagCheck s u f = true → ∀ c, c = .flagSet u f t ∨ (c = .tileSet u f t ∧ flagUse s f = some 3) →
      (flagOn s f = false → Gives c s (fun s' =>
        (∀ g, flagOn s' g = (if g = f then (lowestClr (waitsOn s f)).isNone else flagOn s g)) ∧
        waitsOn s' f = (waitsOn s f).filter (fun w => w.clr && some w != lowestClr (waitsOn s f)) ∧
        s'.sync.releases.map (·.issuer) = s.sync.releases.map (·.issuer) ++
          ((waitsOn s f).filter (fun w => !w.clr || some w == lowestClr (waitsOn s f))).map (·.issuer) ∧
        SameRegs s s')) ∧
      (flagOn s f = true →
        (g1 s = true ∨ itemOfIssuer s u = none → Gives c s (fun s' =>
          CountsUp s s' Reg.SYNC_OVERFLOW_COUNT 1 ∧ SetsBit s s' Reg.SYNC_EVENT 0 ∧ s'.sync.flags = s.sync.flags ∧
          s'.sync.releases = s.sync.releases)) ∧
        (∀ i, g1 s = false → itemOfIssuer s u = some i → itemLive s i = true → Gives c s (fun s' =>
          Ends s s' i .syncFault t)))) ∧
    (flagCheck s u f = true →
      (flagOn s f = true → Gives (.flagClear u f t) s (fun s' =>
        (∀ g, flagOn s' g = (flagOn s g && g != f)) ∧ s'.sync.waiters = s.sync.waiters ∧ SameRegs s s')) ∧
      (flagOn s f = false → itemOfIssuer s u = none → Gives (.flagClear u f t) s (fun s' =>
        CountsUp s s' Reg.SYNC_UNDERFLOW_COUNT 1 ∧ SetsBit s s' Reg.SYNC_EVENT 1 ∧ s'.sync.flags = s.sync.flags)) ∧
      (∀ i, flagOn s f = false → itemOfIssuer s u = some i → itemLive s i = true → Gives (.flagClear u f t) s (fun s' =>
        Ends s s' i .syncFault t)) ∧
      (flagOn s f = true → coreWaits s u = false → Gives (.flagWait u f t) s (fun s' =>
        s'.sync.flags = s.sync.flags ∧ s'.sync.waiters = s.sync.waiters ∧
        s'.sync.releases.map (·.issuer) = s.sync.releases.map (·.issuer) ++ [u] ∧ SameRegs s s')) ∧
      (flagOn s f = true → coreWaits s u = false → Gives (.flagWaitClr u f t) s (fun s' =>
        (∀ g, flagOn s' g = (flagOn s g && g != f)) ∧ s'.sync.waiters = s.sync.waiters ∧
        s'.sync.releases.map (·.issuer) = s.sync.releases.map (·.issuer) ++ [u] ∧ SameRegs s s')) ∧
      (flagOn s f = false → coreWaits s u = false → ∀ clr c, (c, clr) = (Instr.flagWait u f t, false) ∨ (c, clr) = (Instr.flagWaitClr u f t, true) →
        Gives c s (fun s' => s'.sync.flags = s.sync.flags ∧ s'.sync.releases = s.sync.releases ∧
          waitsOn s' f = waitsOn s f ++ [{ issuer := u, clr := clr, item := itemOfIssuer s u }] ∧
          (∀ g, g ≠ f → waitsOn s' g = waitsOn s g) ∧ SameRegs s s'))) ∧
    (coreWaits s u = true → ∀ c, c = .flagWait u f t ∨ c = .flagWaitClr u f t → Gives c s (fun s' => s' = s)) ∧
    (flagCheck s u f = false → ∀ c, c = .flagSet u f t ∨ c = .flagClear u f t ∨
        (c = .flagWait u f t ∨ c = .flagWaitClr u f t) ∧ coreWaits s u = false ∨ (c = .tileSet u f t ∧ flagUse s f = some 3) →
      (itemOfIssuer s u = none → Gives c s (fun s' =>
        CountsUp s s' Reg.PART_REJECT_SYNC_COUNT 1 ∧ s'.sync = s.sync ∧ wbit (rd s' Reg.PART_EVENT) 2 = true)) ∧
      (∀ i, itemOfIssuer s u = some i → itemLive s i = true → Gives c s (fun s' => Ends s s' i .keyReject t))) ∧
    (flagUse s f ≠ some 3 →
      (itemOfIssuer s u = none → Gives (.tileSet u f t) s (fun s' => s'.sync = s.sync)) ∧
      (∀ i, itemOfIssuer s u = some i → itemLive s i = true → Gives (.tileSet u f t) s (fun s' =>
        Ends s s' i .descInvalid t)))

/-- R201, R210: a release that reaches a core takes it off its way and ends the core's spin, whose time is added; one that
reaches a spoke stalled on its flag lets the spoke go on; with none on its way nothing happens.

R207, R208, R209: a manual SET or CLEAR through SYNC_DBG_OP acts on a flag of the partition it names, is audited with its
outcome in the next record of the ring and counted, and is never a fault; one that would change nothing leaves the flags as
they are, and one on another partition's flag is a Fence refusal and not performed. -/
def Obligations.ReleasesAndManualOperations : Prop :=
  (∀ (s : State) (u t : Nat),
     (s.sync.releases.find? (fun r => r.issuer == u) = none → Gives (.waiterRelease u t) s (fun s' => s' = s)) ∧
     (∀ r, s.sync.releases.find? (fun r => r.issuer == u) = some r →
       (u < 64 → Gives (.waiterRelease u t) s (fun s' =>
         s'.sync.releases = s.sync.releases.erase r ∧ s'.sync.flags = s.sync.flags ∧
         s'.sync.waiters = s.sync.waiters ∧ SMap.get? s'.sync.since u = none ∧
         s'.sync.spinCore = s.sync.spinCore + (match SMap.get? s.sync.since u with
           | some t0 => t - t0
           | none => 0) ∧
         s'.hubs = s.hubs ∧ SameRegs s s')) ∧
       (∀ p, 64 ≤ u → spoke? s (u - 64) = some p → p.waiting = true → p.flagWait.isSome = true →
         Gives (.waiterRelease u t) s (fun s' =>
           s'.sync.releases = s.sync.releases.erase r ∧ s'.sync.flags = s.sync.flags ∧
           spoke? s' (u - 64) = some { p with released := true } ∧ SameRegs s s')))) ∧
  (∀ (s : State) (f p t : Nat) (src : Requester) (set : Bool) (c : Instr),
     (c, set) = (.manualSet f p src t, true) ∨ (c, set) = (.manualClear f p src t, false) →
     Gives c s (fun s' =>
       CountsUp s s' Reg.SYNC_DBG_COUNT 1 ∧ SetsBit s s' Reg.SYNC_EVENT 2 ∧
       s'.sync.auditNext = (s.sync.auditNext + 1) % 64 ∧
       s'.sync.auditWrap = (s.sync.auditWrap || (SMap.get? s.sync.audit s.sync.auditNext).isSome) ∧
       (∃ w, SMap.get? s'.sync.audit s.sync.auditNext = some (w :: timeOnly s t) ∧
         fld w 0 12 = f % 4096 ∧ wbit w 12 = set ∧ fld w 13 3 = p % 8 ∧ wbit w 16 = decide (src = .pf0) ∧
         wbit w 17 = flagOn s f ∧
         fld w 18 2 = (if flagOwner s f = some p ∧ p < numParts s then (if flagOn s f = set then 1 else 0) else 2)) ∧
       (flagOwner s f = some p → p < numParts s →
         (flagOn s f = set → s'.sync.flags = s.sync.flags ∧ s'.sync.waiters = s.sync.waiters) ∧
         (flagOn s f = false → set = true → ∀ g,
           flagOn s' g = (if g = f then (lowestClr (waitsOn s f)).isNone else flagOn s g)) ∧
         (flagOn s f = true → set = false → ∀ g, flagOn s' g = (flagOn s g && g != f))) ∧
       (flagOwner s f ≠ some p ∨ numParts s ≤ p → s'.sync.flags = s.sync.flags ∧ s'.sync.waiters = s.sync.waiters ∧
         CountsUp s s' Reg.FENCE_COUNT_PART 1)))

/-- R212, R213, R222, R472: a collective whose source and destinations lie in windows of its partition writes exactly its
results, at the offsets of its operation, and counts every segment as written; a SEND and the ranks that receive nothing
write nothing. A source outside the windows ends the item with nothing written, and so does a poisoned one; a result outside
them ends it too. R234: what comes of a rank that is missing is late and counted. R215, R230: of a STREAMED source each tile
is taken once its flag has released, which clears the flag. -/
def Obligations.CollectivesWriteTheirResults : Prop :=
  ∀ (s : State) (code i t st : Nat) (others xs : List (Nat × List Byte)) (p : Spoke) (o : CollOp),
    code < 10 → InDataPhase s i p → p.op.coll = code → st = (item s i).desc.lanes % 32 →
    xs = (if code = 8 then [] else others) → o = withBlocks p.op xs →
    (p.op.streamed = false →
      (ownSpan o = 0 ∨ bitAt o.cflags 3 = true ∨ windowOk s (item s i).part false false o.src (ownSpan o) = true →
        (ownSpan o = 0 ∨ sourcePoisoned s o 0 (ownSpan o) = false →
          ((∀ w, w ∈ collWrites s o xs → w.2 ≠ [] →
              windowOk s (item s i).part false true (o.dst + w.1) w.2.length = true) →
            Gives (collCommand code i others t) s (fun s' =>
              s'.mems.mem = (if o.receives then collWrites s o xs else []).foldl
                (fun m w => Mem.writeN 0#8 m (o.dst + w.1) w.2) s.mems.mem ∧
              (∃ q, spoke? s' st = some q ∧ q.op.written = o.segs) ∧
              (item s' i).ph = .running ∧ s'.mems.host = s.mems.host ∧
              CountsUp s s' Reg.HUB_LATE_CONTRIB_COUNT
                (xs.countP (fun e => decide (e.1 < o.members.length) && !o.has e.1)) ∧
              (xs.any (fun e => decide (e.1 < o.members.length) && !o.has e.1) = false → partRanks o = [] →
                4 < o.coll ∨ o.role ≠ 1 → SameRegs s s') ∧
              (o.receives = false → s'.mems = s.mems) ∧
              (code = 8 → s'.mems = s.mems) ∧
              (code = 1 → o.rank ≠ some o.peer → s'.mems = s.mems) ∧
              (code = 4 → o.rank ≠ some o.peer → s'.mems = s.mems) ∧
              (code = 0 → o.receives = true → bitAt o.cflags 1 = false → ∃ bs, collWrites s o xs = [(0, bs)] ∧
                Stores 0#8 s.mems.mem s'.mems.mem o.dst bs) ∧
              (code = 6 → o.receives = true → o.rank ≠ some o.peer → o.has o.peer = true →
                Stores 0#8 s.mems.mem s'.mems.mem o.dst
                  (slice ((SMap.get? others o.peer).getD []) 0 (o.count * fmtBytes o.fmt))))) ∧
          (∀ w, o.receives = true → w ∈ collWrites s o xs → w.2 ≠ [] →
            windowOk s (item s i).part false true (o.dst + w.1) w.2.length = false →
            Gives (collCommand code i others t) s (fun s' => (item s' i).ph = .done))) ∧
        (ownSpan o ≠ 0 → sourcePoisoned s o 0 (ownSpan o) = true → Gives (collCommand code i others t) s (fun s' =>
          (item s' i).ph = .done ∧ s'.mems.mem = s.mems.mem))) ∧
      (ownSpan o ≠ 0 → bitAt o.cflags 3 = false → windowOk s (item s i).part false false o.src (ownSpan o) = false →
        Gives (collCommand code i others t) s (fun s' => (item s' i).ph = .done))) ∧
    (∀ f, p.op.streamed = true → p.op.tiles < p.op.tileCount → f = p.op.tileFlag + p.op.tiles % max p.op.tileK 1 →
      (flagOn s f = false ∨ flagCheck s (64 + st) f = false → Gives (collCommand code i others t) s (fun s' => s' = s)) ∧
      (flagOn s f = true → flagCheck s (64 + st) f = true →
        sourcePoisoned s p.op (p.op.tiles * p.op.tileLen) p.op.tileLen = false → p.op.tiles + 1 < p.op.tileCount →
        Gives (collCommand code i others t) s (fun s' =>
          (∀ g, flagOn s' g = (flagOn s g && g != f)) ∧ s'.mems = s.mems ∧ SameRegs s s' ∧
          ∃ q, spoke? s' st = some q ∧ q.op.tiles = p.op.tiles + 1 ∧
            q.op.ownRead = p.op.ownRead ++ readSource s p.op (p.op.tiles * p.op.tileLen)
              (min p.op.tileLen (p.op.count * fmtBytes p.op.fmt - p.op.tiles * p.op.tileLen)))))

/-- R205, R231, R472: a chunk of a STREAM that reaches a member is written at its place and sets the chunk's flag, whose
waiters are released; at the root it is read and sent, and the root's memory stays as it is; a chunk outside the
destination's windows ends the item. Chunks are taken in ascending order, and one from a root that is missing is late.

R226, R227, R258, R280: at the order root an arm message of the group's signature is recorded, and the last one forms the
seal of the members that armed; one of another signature leaves its member out and is counted; a node's arm gives its largest
segment alone (R250); the step timeout seals with those that armed. The seal received is held; a member it leaves out ends
with MEMBER_FAULT; a re-seal leaves members out as lost; and the data phase begins only with the seal held, with the count
header of an operation with DYN_COUNT written where this member receives (R228). -/
def Obligations.StreamsAndTheArmRound : Prop :=
  (∀ (s : State) (i c t len f : Nat) (data : List Byte) (p : Spoke),
     InDataPhase s i p → p.op.coll = 10 →
     (c ≠ p.op.tiles → Gives (.stream i c data t) s (fun s' => s' = s)) ∧
     (c = p.op.tiles → len = min p.op.tileLen (p.op.count * fmtBytes p.op.fmt - c * p.op.tileLen) → len ≠ 0 →
     f = p.op.tileFlag + c % max p.op.tileK 1 →
     (p.op.rank ≠ some p.op.peer → p.op.has p.op.peer = false → Gives (.stream i c data t) s (fun s' =>
       CountsUp s s' Reg.HUB_LATE_CONTRIB_COUNT 1 ∧ s'.mems = s.mems ∧ s'.sync = s.sync)) ∧
     (p.op.rank ≠ some p.op.peer → p.op.has p.op.peer = true →
       (windowOk s (item s i).part false true (p.op.dst + c * p.op.tileLen) len = true → s.bridge.st = 0 →
         flagOwner s f = some (item s i).part → flagOn s f = false → Gives (.stream i c data t) s (fun s' =>
           Stores 0#8 s.mems.mem s'.mems.mem (p.op.dst + c * p.op.tileLen) (slice data 0 len) ∧
           (∀ g, flagOn s' g = (if g = f then (lowestClr (waitsOn s f)).isNone else flagOn s g)) ∧ SameRegs s s')) ∧
       (windowOk s (item s i).part false true (p.op.dst + c * p.op.tileLen) len = false →
         Gives (.stream i c data t) s (fun s' => (item s' i).ph = .done))) ∧
     (p.op.rank = some p.op.peer →
       windowOk s (item s i).part false false (p.op.src + c * p.op.tileLen) len = true →
       memPoisoned s (p.op.src + c * p.op.tileLen) len = false →
       Gives (.stream i c data t) s (fun s' => s'.mems = s.mems ∧ s'.sync = s.sync ∧ s'.sched = s.sched)))) ∧
  (∀ (s : State) (st t : Nat) (a : ArmMsg) (p : Spoke) (bm g : Nat) (cs : List Nat), spoke? s st = some p →
     (isRoot s p.op.tree (st / 16) = true → p.op.stage = 1 → a.rank < 32 → SMap.get? p.op.arms a.rank = none →
       a.signature = groupSignature s (group s p.op.group) →
       (∀ o, o = { p.op with
           arms := SMap.put p.op.arms a.rank { good := true, counts := a.counts }, sGran := min p.op.sGran a.sGran } →
         (allArmed o = false → Gives (.armMessageRx st a t) s (fun s' =>
           spoke? s' st = some { p with op := o } ∧ SameRegs s s')) ∧
         (allArmed o = true → Gives (.armMessageRx st a t) s (fun s' =>
           ∃ q, spoke? s' st = some q ∧ q.op.stage = 2 ∧ q.op.lost = 0 ∧ ∀ r, r < 32 →
             (bitAt q.op.sealed r = true ↔ ∃ x, SMap.get? o.arms r = some x ∧ x.good = true))))) ∧
     (isRoot s p.op.tree (st / 16) = true → p.op.stage = 1 → a.rank < 32 → SMap.get? p.op.arms a.rank = none →
       a.signature ≠ groupSignature s (group s p.op.group) → Gives (.armMessageRx st a t) s (fun s' =>
         CountsUp s s' Reg.HUB_SIG_MISMATCH_COUNT 1 ∧
         ∃ q, spoke? s' st = some q ∧ SMap.get? q.op.arms a.rank = some { good := false, counts := [] })) ∧
     (isRoot s p.op.tree (st / 16) = true → 2 ≤ p.op.stage ∨ (a.rank < 32 ∧ SMap.get? p.op.arms a.rank ≠ none) →
       Gives (.armMessageRx st a t) s (fun s' => s' = s)) ∧
     (isRoot s p.op.tree (st / 16) = true → p.op.stage < 2 → 32 ≤ a.rank → Gives (.armMessageRx st a t) s (fun s' =>
       spoke? s' st = some { p with op := { p.op with sGran := min p.op.sGran a.sGran } } ∧ SameRegs s s')) ∧
     (isRoot s p.op.tree (st / 16) = false → Gives (.armMessageRx st a t) s (fun s' =>
       (NoClaims s → spoke? s' st = some p) ∧ s'.mems = s.mems ∧ (opParent s p.op st = none → s' = s))) ∧
     (p.op.stage = 1 → isRoot s p.op.tree (st / 16) = true → Gives (.armStepTimeout st t) s (fun s' =>
       ∃ q, spoke? s' st = some q ∧ q.op.stage = 2 ∧ q.op.lost = 0 ∧ ∀ r, r < 32 →
         (bitAt q.op.sealed r = true ↔ ∃ x, SMap.get? p.op.arms r = some x ∧ x.good = true))) ∧
     (p.op.stage ≠ 1 ∨ isRoot s p.op.tree (st / 16) = false → Gives (.armStepTimeout st t) s (fun s' => s' = s)) ∧
     (p.op.stage = 1 → p.op.rank = none ∨ (∃ r, p.op.rank = some r ∧ bitAt bm r = true) →
       Gives (.sealRx st bm g cs none t) s (fun s' => KeepsOp s s' st (p.op.withSeal bm g cs))) ∧
     (∀ r, p.op.stage = 1 → p.op.rank = some r → bitAt bm r = false → Gives (.sealRx st bm g cs none t) s (fun s' =>
       (item s' p.op.item).ph = .done)) ∧
     (p.op.stage ≠ 1 → Gives (.sealRx st bm g cs none t) s (fun s' => KeepsOp s s' st p.op)) ∧
     (∀ j, p.op.switching = true → Gives (.sealRx st bm g cs (some j) t) s (fun s' =>
       KeepsOp s s' st { p.op with lost := p.op.without bm })) ∧
     (p.op.stage = 2 → p.op.switching = false →
       (p.op.dyn = false ∨ p.op.receives = false → Gives (.dataPhaseStart st t) s (fun s' =>
         spoke? s' st = some { p with op := { p.op with stage := 3 } } ∧ SameRegs s s' ∧ s'.mems = s.mems)) ∧
       (p.op.dyn = true → p.op.receives = true →
         windowOk s (item s p.op.item).part false true p.op.dst 128 = true → Gives (.dataPhaseStart st t) s (fun s' =>
           Stores 0#8 s.mems.mem s'.mems.mem p.op.dst (countHeader p.op) ∧ SameRegs s s' ∧
           ∃ q, spoke? s' st = some q ∧ q.op.stage = 3))) ∧
     (p.op.stage ≠ 2 ∨ p.op.switching = true → Gives (.dataPhaseStart st t) s (fun s' => s' = s)))

/-- R232, R233, R240, R277, R311: a withdraw notice and a data step timeout lose a sealed member once: its bit is cleared,
and the routine restarts with cause 1, which is counted; a consequential timeout is only counted in LNK_CONSEQ_COUNT; a
STREAMED step has no step timeout. R235, R344: the withdrawal of a node moves the operation to the alternate tree of the
node's module.

R345, R346: a re-arm message reaches the order root of the alternate tree with the lowest unwritten segment of its member;
when the data phase resumes, slots and credits of the segments from the resume segment on are taken as never seen, and the
routine restarts with cause 2. -/
def Obligations.LostMembersAndTreeSwitches : Prop :=
  (∀ (s : State) (st r src t : Nat) (p : Spoke), spoke? s st = some p → st < 32 → r < 32 →
     (bitAt p.op.sealed r = true → bitAt p.op.lost r = false → 2 ≤ p.op.stage →
       Gives (.withdrawNoticeRx st r src t) s (fun s' =>
         (∃ q, spoke? s' st = some q ∧ q.op.lost = p.op.lost ||| 2 ^ r ∧ q.restarting = true ∧ q.op.sealed = p.op.sealed) ∧
         CountsUp s s' Reg.HUB_WITHDRAW_RX_COUNT 1 ∧ s'.mems = s.mems) ∧
       (p.op.streamed = false →
         (consequential s (memberTag st p.op (p.op.members.getD r 0)) (p.op.members.getD r 0) = false →
           Gives (.dataStepTimeout st r t) s (fun s' =>
             (∃ q, spoke? s' st = some q ∧ q.op.lost = p.op.lost ||| 2 ^ r ∧ q.restarting = true) ∧
             CountsUp s s' (Reg.SPK_RESTART_COUNT (st / 16) (st % 16)) 1 ∧
             (rd s' (Reg.SPK_LAST_CAUSE (st / 16) (st % 16))).toNat = 1)) ∧
         (consequential s (memberTag st p.op (p.op.members.getD r 0)) (p.op.members.getD r 0) = true →
           Gives (.dataStepTimeout st r t) s (fun s' =>
             CountsUp s s' Reg.LNK_CONSEQ_COUNT 1 ∧ SetsBit s s' Reg.LNK_EVENT 4 ∧ spoke? s' st = some p)))) ∧
     (p.op.stage < 2 ∨ p.op.streamed = true →
       Gives (.dataStepTimeout st r t) s (fun s' => s' = s)) ∧
     (∀ n a, 32 ≤ n → a = (treeAt s p.op.tree).alt.getD src 255 → Gives (.withdrawNoticeRx st n src t) s (fun s' =>
       CountsUp s s' Reg.HUB_WITHDRAW_RX_COUNT 1 ∧ wbit (rd s' Reg.HUB_COLL_EVENT) 3 = true ∧ s'.mems = s.mems ∧
       (a = p.op.tree ∨ (a = 255 ∧ treeUses s p.op.tree src = false) → s'.hubs = s.hubs) ∧
       (a ≠ 255 → a ≠ p.op.tree → 2 ≤ p.op.stage → CountsUp s s' Reg.FAB_TREE_SWITCH_COUNT 1 ∧
         ∃ q, spoke? s' st = some q ∧ q.op.tree = a ∧ q.op.switching = true ∧ q.op.lost = p.op.lost)))) ∧
  (∀ (s : State) (st r low j t : Nat) (p : Spoke), spoke? s st = some p → st < 32 →
     (isRoot s p.op.tree (st / 16) = true → 32 ≤ r → Gives (.reArmRx st r low t) s (fun s' => s' = s)) ∧
     (isRoot s p.op.tree (st / 16) = true → r < 32 → Gives (.reArmRx st r low t) s (fun s' =>
       spoke? s' st = some { p with op := { p.op with reArms := SMap.put p.op.reArms r low } } ∧ SameRegs s s')) ∧
     (isRoot s p.op.tree (st / 16) = false → Gives (.reArmRx st r low t) s (fun s' =>
       KeepsOp s s' st p.op ∧ (opParent s p.op st = none → s' = s))) ∧
     (p.op.switching = true → isRoot s p.op.tree (st / 16) = false → Gives (.treeResume st j t) s (fun s' =>
       ∃ q, spoke? s' st = some q ∧ q.op = p.op.resumeAt j p.op.memb ∧ q.op.stage = 3 ∧ q.op.switching = false ∧
         q.restarting = true ∧ (NoClaims s → CountsUp s s' (Reg.SPK_RESTART_COUNT (st / 16) (st % 16)) 1) ∧
         (rd s' (Reg.SPK_LAST_CAUSE (st / 16) (st % 16))).toNat = 2)) ∧
     (p.op.switching = true → isRoot s p.op.tree (st / 16) = true → Gives (.treeResume st j t) s (fun s' =>
       ∃ q, spoke? s' st = some q ∧ q.op.stage = 3 ∧ q.op.switching = false ∧ q.restarting = true ∧
         (∀ e, e ∈ p.op.reArms → q.op.written ≤ e.2))) ∧
     (p.op.switching = false → Gives (.treeResume st j t) s (fun s' => s' = s)))

/-- R268, R269, R271: a legal word whose condition holds executes: LDI takes its immediate, LDCTX a context field, ADD, SUB,
AND, OR, SHL and SHR their 64-bit result of two registers or a register and the immediate, into DST alone; NOP writes no
register; the successor follows BR, and a commit takes the successor and the registers as a snapshot. Nothing outside the
spoke changes.

R253, R254, R268, R282: an engine word (GRANT, READ, COMB, FILL, SEND, WRITE) whose condition holds issues its operation to
the engines, of the segment in SRCA, and writes no register; a SETF or CLRF acts at the home of the flag CARG names when the
item's partition owns it; END ends the item. -/
def Obligations.MicrowordsIssueTheirEffect : Prop :=
  (∀ (s : State) (i t : Nat) (p : Spoke) (m : Micro) (a b : Nat),
     AtWord s i p m → m.legal (g1 s) p.dataSeen = true → condFlag p m = none → condTrue s i p m = true →
     a = p.gp.getD m.srcA 0 → b = (if m.isel then m.imm else p.gp.getD m.srcB 0) →
     (m.op = 0 → Gives (.microNop i 0 t) s (fun s' => ∃ q, spoke? s' i = some q ∧ q.gp = p.gp ∧ q.pc = nextWord p m a ∧
       q.commit = (if m.commit then some (nextWord p m a, p.gp) else p.commit) ∧ q.op = p.op ∧ SameRegs s s' ∧
       s'.mems = s.mems ∧ s'.sync.flags = s.sync.flags ∧ s'.sync.waiters = s.sync.waiters)) ∧
     (∀ v, (m.op, v) ∈ [(1, m.imm), (2, ctxField s p.op (m.imm % 256)), (3, (a + b) % 2 ^ 64),
         (4, (a + 2 ^ 64 - b) % 2 ^ 64), (5, a &&& b), (6, a ||| b), (7, a * 2 ^ (b % 64) % 2 ^ 64), (8, a / 2 ^ (b % 64))] →
       Gives (microCommand m.op i 0 t) s (fun s' => ∃ q, spoke? s' i = some q ∧ q.gp = p.gp.set m.dst v ∧
         q.pc = nextWord p m v ∧ q.commit = (if m.commit then some (nextWord p m v, p.gp.set m.dst v) else p.commit) ∧
         q.op = p.op ∧ SameRegs s s' ∧ s'.mems = s.mems ∧ s'.sync.flags = s.sync.flags ∧
         s'.sync.waiters = s.sync.waiters))) ∧
  (∀ (s : State) (i t : Nat) (p : Spoke) (m : Micro), i < 32 →
     AtWord s i p m → m.legal (g1 s) p.dataSeen = true → condFlag p m = none → condTrue s i p m = true →
     (m.op ∈ [0x10, 0x11, 0x12, 0x13, 0x14, 0x15] → Gives (microCommand m.op i 0 t) s (fun s' =>
       ∃ q e, spoke? s' i = some q ∧ q.op.engine = p.op.engine ++ [e] ∧ e.op = m.op ∧ e.seg = p.gp.getD m.srcA 0 ∧
         q.gp = p.gp ∧ q.pc = nextWord p m (p.gp.getD m.srcA 0) ∧ (m.op ≠ 0x12 ∨ (NoClaims s ∧ bitAt p.entry 14 = false) →
           SameRegs s s') ∧ s'.mems = s.mems)) ∧
     (s.bridge.st = 0 → flagOwner s m.carg = some (item s p.op.item).part →
       (m.op = 0x20 → flagOn s m.carg = false → Gives (.microSetf i 0 t) s (fun s' =>
         (∀ g, flagOn s' g = (if g = m.carg then (lowestClr (waitsOn s m.carg)).isNone else flagOn s g)) ∧
         SameRegs s s' ∧ ∃ q, spoke? s' i = some q ∧ q.gp = p.gp ∧ q.pc = nextWord p m (p.gp.getD m.srcA 0))) ∧
       (m.op = 0x21 → flagOn s m.carg = true → Gives (.microClrf i 0 t) s (fun s' =>
         (∀ g, flagOn s' g = (flagOn s g && g != m.carg)) ∧
         SameRegs s s' ∧ ∃ q, spoke? s' i = some q ∧ q.gp = p.gp ∧ q.pc = nextWord p m (p.gp.getD m.srcA 0)))) ∧
     (m.op = 0x30 → Gives (.microEnd i 0 t) s (fun s' => (item s' p.op.item).ph = .done)))

/-- R210, R272, R274, R284, R285, R287: at a word whose condition is false the spoke stalls, its wait begins, and nothing
else is done; a stall in lock-step timing is counted as a miss; an illegal word of any OP ends the item and is counted; a
correctable error is counted, an uncorrectable one stalls the spoke until its block is reloaded; a word of another OP is not
this command's.

R272, R273, R279: a stalled spoke executes its word when its condition is true, and a flag wait when its release has arrived;
six cycles after a restart cause the routine resumes at its last commit with the registers of the snapshot, or at its entry
with every register 0. -/
def Obligations.SpokesStallStopAndResume : Prop :=
  (∀ (s : State) (i t op : Nat) (p : Spoke) (m : Micro), i < 32 →
     op ∈ [0x00, 0x01, 0x02, 0x03, 0x04, 0x05, 0x06, 0x07, 0x08, 0x10, 0x11, 0x12, 0x13, 0x14, 0x15, 0x20, 0x21, 0x30] →
     AtWord s i p m →
     (m.legal (g1 s) p.dataSeen = true → condFlag p m = none → condTrue s i p m = false → m.op = op →
       (p.timing = false → op ≠ 0x12 ∨ NoClaims s → Gives (microCommand op i 0 t) s (fun s' =>
         spoke? s' i = some { p with waiting := true, flagWait := none, released := false } ∧ SameRegs s s' ∧
         s'.mems = s.mems ∧ s'.sync = { s.sync with since := SMap.put s.sync.since (64 + i) t })) ∧
       (p.timing = true → Gives (microCommand op i 0 t) s (fun s' =>
         CountsUp s s' (Reg.SPK_LS_MISS_COUNT (i / 16) (i % 16)) 1 ∧
         ∃ q, spoke? s' i = some q ∧ q.waiting = true ∧ q.timing = false ∧ q.claim = false ∧ q.waitOnly = true ∧
           q.pc = p.pc ∧ q.gp = p.gp))) ∧
     (m.legal (g1 s) p.dataSeen = false → Gives (microCommand op i 0 t) s (fun s' =>
       (item s' p.op.item).ph = .done ∧ CountsUp s s' (Reg.SPK_ILLEGAL_COUNT (i / 16)) 1 ∧
       (wbit (rd s (Reg.SPK_ILLEGAL_LOG (i / 16))) 31 = true →
         rd s' (Reg.SPK_ILLEGAL_LOG (i / 16)) = rd s (Reg.SPK_ILLEGAL_LOG (i / 16))) ∧
       (wbit (rd s (Reg.SPK_ILLEGAL_LOG (i / 16))) 31 = false →
         rd s' (Reg.SPK_ILLEGAL_LOG (i / 16)) = BitVec.ofNat 32 (p.pc + i * 2 ^ 14 + 2 ^ 31)))) ∧
     (m.legal (g1 s) p.dataSeen = true → m.op ≠ op →
       Gives (microCommand op i 0 t) s (fun s' => s' = s) ∧
       (p.timing = false → Gives (microCommand op i 1 t) s (fun s' => spoke? s' i = some p ∧
         CountsUp s s' (Reg.SPK_CS_CE_COUNT (i / 16)) 1 ∧ SetsBit s s' (Reg.SPK_EVENT (i / 16)) 2))) ∧
     Gives (microCommand op i 2 t) s (fun s' => CountsUp s s' (Reg.SPK_CS_UE_COUNT (i / 16)) 1 ∧
       spoke? s' i = some { p with stall := some (i / 16 * 256 + p.pc / 64, true) } ∧
       SMap.get? s'.hubs.store.reloading (i / 16 * 256 + p.pc / 64) = some 0)) ∧
  (∀ (s : State) (i t : Nat) (p : Spoke) (m : Micro), spoke? s i = some p →
     m = microOf (SMap.get s.hubs.store.words 0 (i / 16 * 16384 + p.pc)) →
     (p.waiting = true → p.restarting = false → p.stall = none →
       p.flagWait.isSome = true ∧ p.released = true ∨ p.flagWait = none ∧ condTrue s i p m = true → m.op = 0 →
       Gives (.waitConditionTrue i t) s (fun s' => ∃ q, spoke? s' i = some q ∧ q.waiting = false ∧ q.flagWait = none ∧
         q.pc = nextWord p m (p.gp.getD m.srcA 0) ∧ q.gp = p.gp ∧
         q.timing = (p.timing || (m.cond == 4 && !p.dataSeen && bitAt p.entry 14 && !p.waitOnly)))) ∧
     (p.waiting = false ∨ p.restarting = true ∨ (p.flagWait.isSome = true ∧ p.released = false) ∨
         (p.flagWait = none ∧ condTrue s i p m = false) → Gives (.waitConditionTrue i t) s (fun s' => s' = s)) ∧
     (∀ pc gp, p.restarting = true → p.commit = some (pc, gp) → Gives (.spokeRestart i) s (fun s' =>
       spoke? s' i = some { p with restarting := false, pc := pc, gp := gp } ∧ SameRegs s s')) ∧
     (p.restarting = true → p.commit = none → Gives (.spokeRestart i) s (fun s' =>
       spoke? s' i = some { p with restarting := false, pc := bits p.entry 0 14, gp := List.replicate 16 0 } ∧
       SameRegs s s')) ∧
     (p.restarting = false → Gives (.spokeRestart i) s (fun s' => s' = s)))

/-- R215, R224, R230, R238, R253, R254, R472: an engine operation that no earlier one blocks finishes: a READ puts the
member's own elements of the segment into its slot, of a STREAMED source once its tiles have released, and a FILL the
identity or poison; a COMB puts the fold of the accumulator and the operand, or with FIRST the operand, once the operand is
there and the ALU serves the stream (R257); a GRANT gives the credits it names once the segments before the last are closed;
a SEND takes the slot once the receiver's credit is there; a WRITE stores the slot's bytes at the segment's place in the
destination where this member receives. A READ or WRITE outside the windows ends the item. -/
def Obligations.EngineOperationsFinish : Prop :=
  ∀ (s : State) (st k t : Nat) (p : Spoke) (e : EngOp), spoke? s st = some p → p.op.engine[k]? = some e →
    (engineBlocked (p.op.engine.take k) e = true → Gives (.engineOpComplete st k t) s (fun s' => s' = s)) ∧
    (engineBlocked (p.op.engine.take k) e = false →
      (e.op = 0x11 → (p.op.streamed = true ∧
          ∃ x, x ∈ ownSpans p.op e.seg ∧ x.2 ≠ 0 ∧ p.op.released (x.1 + x.2) = false) →
        Gives (.engineOpComplete st k t) s (fun s' => KeepsOp s s' st p.op ∧ s'.mems = s.mems)) ∧
      (e.op = 0x11 →
        (p.op.streamed = false ∨ ∀ x, x ∈ ownSpans p.op e.seg → x.2 ≠ 0 → p.op.released (x.1 + x.2) = true) →
        ((∀ x, x ∈ ownSpans p.op e.seg → x.2 ≠ 0 → (bitAt p.op.cflags 3 = true ∨
            windowOk s (item s p.op.item).part false false (p.op.src + x.1) x.2 = true) ∧
            sourcePoisoned s p.op x.1 x.2 = false) →
          Gives (.engineOpComplete st k t) s (fun s' => ∃ q, spoke? s' st = some q ∧
            q.op.engine = p.op.engine.eraseIdx k ∧ SMap.get? q.op.slots e.slot =
              some { seg := e.seg, full := true, out := false, elems := ownElems s p.op e.seg } ∧
            (∀ x, x ≠ e.slot → SMap.get? q.op.slots x = SMap.get? p.op.slots x) ∧ s'.mems = s.mems ∧
            (NoClaims s → SameRegs s s'))) ∧
        ((∃ x, x ∈ ownSpans p.op e.seg ∧ x.2 ≠ 0 ∧ bitAt p.op.cflags 3 = false ∧
            windowOk s (item s p.op.item).part false false (p.op.src + x.1) x.2 = false) →
          Gives (.engineOpComplete st k t) s (fun s' => (item s' p.op.item).ph = .done))) ∧
      (e.op = 0x13 → Gives (.engineOpComplete st k t) s (fun s' => ∃ q, spoke? s' st = some q ∧
        q.op.engine = p.op.engine.eraseIdx k ∧ SMap.get? q.op.slots e.slot =
          some ⟨e.seg, true, false, List.replicate (p.op.span e.seg).2
            (if e.arg = 1 then 2 ^ (8 * fmtBytes p.op.fmt) - 1 else identity p.op.fmt p.op.redFn), false⟩ ∧
        s'.mems = s.mems ∧ (NoClaims s → SameRegs s s'))) ∧
      (∀ b, e.op = 0x12 → slotElems s p.op st e.arg e.seg = some b → aluPick s (st / 16) = some st →
        Gives (.engineOpComplete st k t) s (fun s' => s'.mems = s.mems ∧ ∃ q, spoke? s' st = some q ∧
          q.op.engine = p.op.engine.eraseIdx k ∧ ∃ x, SMap.get? q.op.slots e.slot = some x ∧ x.seg = e.seg ∧
            x.full = true ∧ x.out = b.out ∧ (e.aux = 1 ∨ p.op.reduces = false → x.elems = b.elems) ∧
            (e.aux ≠ 1 → p.op.reduces = true → x.elems = (List.range (p.op.span e.seg).2).map (fun n =>
              combine p.op.fmt p.op.redFn
                ((((SMap.get? p.op.slots e.slot).map (·.elems)).getD []).getD n p.op.filler)
                (b.elems.getD n p.op.filler))))) ∧
      (e.op = 0x12 → slotElems s p.op st e.arg e.seg = none ∨ aluPick s (st / 16) ≠ some st →
        Gives (.engineOpComplete st k t) s (fun s' => KeepsOp s s' st p.op ∧ s'.mems = s.mems)) ∧
      (e.op = 0x10 → e.arg % 16 = 0 → Gives (.engineOpComplete st k t) s (fun s' => ∃ q, spoke? s' st = some q ∧
        q.op.engine = p.op.engine.eraseIdx k ∧ q.op.granted = p.op.granted)) ∧
      (∀ x, e.op = 0x10 → x < 4 → bitAt e.arg x = true → e.seg < p.op.segs →
        (∃ ps, ((treeAt s p.op.tree).node (st / 16)).pos[x]? = some ps ∧ ps.kind = 2) →
        ((∀ y j, y < 4 → bitAt e.arg y = true → j < e.seg - 1 → openAt s p.op st y j = false) →
          Gives (.engineOpComplete st k t) s (fun s' => ∃ q, spoke? s' st = some q ∧
            q.op.engine = p.op.engine.eraseIdx k ∧ (x, e.seg) ∈ q.op.granted)) ∧
        (∀ j, j < e.seg - 1 → openAt s p.op st x j = true → Gives (.engineOpComplete st k t) s (fun s' =>
          KeepsOp s s' st p.op ∧ s'.mems = s.mems))) ∧
      (∀ b, e.op = 0x14 → slotElems s p.op st e.slot e.seg = some b →
        (e.arg ≠ 1 → (creditKey e.arg e.aux, e.seg) ∉ p.op.held → Gives (.engineOpComplete st k t) s (fun s' =>
          KeepsOp s s' st p.op ∧ s'.mems = s.mems)) ∧
        (e.arg = 1 ∨ (creditKey e.arg e.aux, e.seg) ∈ p.op.held → claimFree s st (st / 16) 17 = true →
          Gives (.engineOpComplete st k t) s (fun s' => s'.mems = s.mems ∧ ∃ q, spoke? s' st = some q ∧
            q.op.engine = p.op.engine.eraseIdx k ∧ (creditKey e.arg e.aux, e.seg) ∉ q.op.held ∧
            SMap.get? q.op.slots e.slot = some { b with combined := true }))) ∧
      (∀ b bs, e.op = 0x15 → slotElems s p.op st e.slot e.seg = some b →
        (p.op.receives = false → Gives (.engineOpComplete st k t) s (fun s' => s'.mems = s.mems ∧
          ∃ q, spoke? s' st = some q ∧ q.op.engine = p.op.engine.eraseIdx k)) ∧
        (p.op.receives = true → bs = writeBytes s st p.op e.seg b → bs ≠ [] →
          (windowOk s (item s p.op.item).part false true (p.op.dst + writeOffset p.op e.seg (e.aux % 32)) bs.length = true →
            Gives (.engineOpComplete st k t) s (fun s' =>
              Stores 0#8 s.mems.mem s'.mems.mem (p.op.dst + writeOffset p.op e.seg (e.aux % 32)) bs ∧
              (NoClaims s → SameRegs s s') ∧
              ∃ q, spoke? s' st = some q ∧ q.op.written = (if p.op.written = e.seg then e.seg + 1 else p.op.written))) ∧
          (windowOk s (item s p.op.item).part false true (p.op.dst + writeOffset p.op e.seg (e.aux % 32)) bs.length = false →
            Gives (.engineOpComplete st k t) s (fun s' => (item s' p.op.item).ph = .done)))))

/-- R234, R253, R254: a segment of a member with a credit for its position is held in its slot until its turn; one without a
credit is discarded and counted, one of a member that is out of the seal, or with no operation in progress, is late and
counted; a credit received is held for its direction, its peer and its segment, once.

R288, R290: a reload of a control-store block whose data matches the block's CRC rewrites the block; a failed one is tried
once more, and a second failure marks the block BAD. -/
def Obligations.SegmentsAndStoreBlocks : Prop :=
  (∀ (s : State) (st pos src seg dir peer t : Nat) (acc : Bool) (data : List Byte), st < 32 →
     (spoke? s st = none → Gives (.segmentRx st pos src seg acc data none t) s (fun s' =>
       CountsUp s s' Reg.HUB_LATE_CONTRIB_COUNT 1 ∧ SetsBit s s' Reg.HUB_COLL_EVENT 2 ∧ s'.hubs = s.hubs) ∧
       Gives (.segmentCreditRx st dir peer seg) s (fun s' => s' = s)) ∧
     (∀ p, spoke? s st = some p →
       (∀ r, pos ≠ 4 → p.op.members.findIdx? (· == src) = some r → 2 ≤ p.op.stage →
         bitAt p.op.sealed r = false ∨ bitAt p.op.lost r = true →
         Gives (.segmentRx st pos src seg acc data none t) s (fun s' =>
           CountsUp s s' Reg.HUB_LATE_CONTRIB_COUNT 1 ∧ s'.hubs = s.hubs)) ∧
       (∀ r, pos < 4 → p.op.members.findIdx? (· == src) = some r → bitAt p.op.sealed r = true →
         bitAt p.op.lost r = false →
         ((pos, seg) ∉ p.op.granted → Gives (.segmentRx st pos src seg acc data none t) s (fun s' =>
           CountsUp s s' (Reg.HUB_CREDIT_VIOL_COUNT (st / 16)) 1 ∧ SetsBit s s' (Reg.HUB_EVENT (st / 16)) 2 ∧
           s'.hubs = s.hubs)) ∧
         ((pos, seg) ∈ p.op.granted →
           Gives (.segmentRx st pos src seg acc data none t) s (fun s' => ∃ q, spoke? s' st = some q ∧
             SMap.get? q.op.slots (seg % 2 * 8 + pos) =
               some { seg := seg, full := true, out := false, elems := rxElems p.op pos seg acc data } ∧
             (∀ x, x ≠ seg % 2 * 8 + pos → SMap.get? q.op.slots x = SMap.get? p.op.slots x) ∧
             q.op.sealed = p.op.sealed ∧ q.op.lost = p.op.lost ∧ (NoClaims s → SameRegs s s') ∧ s'.mems = s.mems))) ∧
       Gives (.segmentCreditRx st dir peer seg) s (fun s' => ∃ q, spoke? s' st = some q ∧
         (∀ x, x ∈ q.op.held ↔ x = (creditKey dir peer, seg) ∨ x ∈ p.op.held) ∧ SameRegs s s'))) ∧
  (∀ (s : State) (h b t n : Nat) (ok : Bool), h < 2 → b < 256 →
     (SMap.get? s.hubs.store.reloading (h * 256 + b) = none → Gives (.csBlockReloadComplete h b ok t) s (fun s' => s' = s)) ∧
     (SMap.get? s.hubs.store.reloading (h * 256 + b) = some n →
       (∀ x, x ∈ s.hubs.spokes → x.2.stall = none) →
       (ok = true → (SMap.get? s.hubs.store.crcs (h * 256 + b)).getD (crc32c []) = crc32c (blockFlash s h b) →
         Gives (.csBlockReloadComplete h b ok t) s (fun s' =>
           CountsUp s s' (Reg.SPK_RELOAD_COUNT h) 1 ∧ SetsBit s s' (Reg.SPK_EVENT h) 4 ∧
           SMap.get? s'.hubs.store.reloading (h * 256 + b) = none ∧
           s'.hubs.store.words = putWords s.hubs.store.words h (blockWords s h b).1 (blockFlash s h b) (blockWords s h b).2)) ∧
       (ok = false ∨ (SMap.get? s.hubs.store.crcs (h * 256 + b)).getD (crc32c []) ≠ crc32c (blockFlash s h b) →
         (n = 0 → Gives (.csBlockReloadComplete h b ok t) s (fun s' =>
           SMap.get? s'.hubs.store.reloading (h * 256 + b) = some 1 ∧ s'.hubs.store.words = s.hubs.store.words ∧
           SameRegs s s')) ∧
         (n ≠ 0 → Gives (.csBlockReloadComplete h b ok t) s (fun s' =>
           SMap.get? s'.hubs.store.reloading (h * 256 + b) = none ∧ s'.hubs.store.words = s.hubs.store.words ∧
           SetsBit s s' (Reg.SPK_CS_BAD h (b / 32)) (b % 32) ∧ blockBad s' h b = true)))))

/-- R299, R300: on a port whose flits are sequenced, a flit with a correct CRC and the expected number is accepted, and the
number expected next goes up by one, modulo 2048; any other is discarded and counted, and only the first of a gap is answered
with a NAK of the number expected. -/
def Obligations.FlitsAreAcceptedInSequence : Prop :=
  ∀ (s : State) (n t : Nat) (ok : Bool) (f : Flit) (fec : Nat × Nat), n < s.build.ports →
    (portSt s n = .ready ∨ portSt s n = .active ∨ portSt s n = .degraded →
      (ok = true → f.seq = (port s n).rxSeq → Gives (.flitRx n ok f fec t) s (fun s' =>
        (port s' n).rxSeq = ((port s n).rxSeq + 1) % 2048 ∧ (port s' n).gap = false ∧ (port s' n).fault = none ∧
        rd s' (Reg.LNK_CRC_ERR_COUNT n) = rd s (Reg.LNK_CRC_ERR_COUNT n) ∧
        CountsUp s s' (Reg.LNK_FEC_CORR_COUNT n) fec.1)) ∧
      (ok = false ∨ f.seq ≠ (port s n).rxSeq → (port s n).gap = false ∨ f.seq = (port s n).rxSeq →
        (port s n).changing = true ∨ (failDelivery (port s n).fault (port s n).rxSeq (now s t)).failures < 4 →
        Gives (.flitRx n ok f fec t) s (fun s' =>
          (port s' n).rxSeq = (port s n).rxSeq ∧ (port s' n).gap = true ∧
          (port s' n).fault = (if (port s n).changing = true then (port s n).fault
            else some (failDelivery (port s n).fault (port s n).rxSeq (now s t))) ∧
          CountsUp s s' (Reg.LNK_CRC_ERR_COUNT n) 1 ∧
          s'.out = .link n (.nak (port s n).rxSeq) :: s.out ∧ ∀ m, m ≠ n → port s' m = port s m)) ∧
      (f.seq ≠ (port s n).rxSeq → (port s n).gap = true → Gives (.flitRx n ok f fec t) s (fun s' =>
        port s' n = port s n ∧ CountsUp s s' (Reg.LNK_CRC_ERR_COUNT n) 1 ∧ s'.out = s.out))) ∧
    (portSt s n ≠ .ready → portSt s n ≠ .active → portSt s n ≠ .degraded →
      Gives (.flitRx n ok f fec t) s (fun s' => s' = s))

/-- R300, R301: a NAK of a flit still kept, and an acknowledgement timer that expires, replay every kept flit from the one
named or the oldest on, in order, and count one replay; a NAK of a flit no longer kept does nothing. -/
def Obligations.NaksAndTimersReplay : Prop :=
  ∀ (s : State) (n q t : Nat), n < s.build.ports →
    ((port s n).replay.any (fun f => f.seq == q) = true → portSt s n ≠ .disabled →
      (port s n).changingTx = true ∨ (failDelivery (port s n).txFault q (now s t)).failures < 4 →
      Gives (.nakRx n q t) s (fun s' =>
        port s' n = (if (port s n).changingTx = true then port s n
          else { port s n with txFault := some (failDelivery (port s n).txFault q (now s t)) }) ∧
        CountsUp s s' (Reg.LNK_REPLAY_COUNT n) 1 ∧
        s'.out = (((port s n).replay.dropWhile (fun f => f.seq != q)).map (fun f => .link n (.flit f))).reverse ++ s.out ∧
        ∀ m, m ≠ n → port s' m = port s m)) ∧
    ((port s n).replay.any (fun f => f.seq == q) = false ∨ portSt s n = .disabled →
      Gives (.nakRx n q t) s (fun s' => s' = s)) ∧
    (∀ f rest, (port s n).replay = f :: rest →
      (port s n).changingTx = true ∨ (failDelivery (port s n).txFault f.seq (now s t)).failures < 4 →
      Gives (.ackTimerExpiry n t) s (fun s' =>
        (port s' n).replay = (port s n).replay ∧ CountsUp s s' (Reg.LNK_REPLAY_COUNT n) 1 ∧
        s'.out = ((f :: rest).map (fun x => .link n (.flit x))).reverse ++ s.out)) ∧
    ((port s n).replay = [] → Gives (.ackTimerExpiry n t) s (fun s' => s' = s))

/-- R301, R302, R305, R310, R337: a port whose replay budget is exhausted, by time, by a fourth failed delivery or by its
partner's FAULT, whose signal is lost while joined, or that is left with fewer than two lanes, is FAULTED and keeps no flit,
and PORT_FAULT is raised; an exhausted budget is counted. Before joining, a loss of signal takes it to DOWN. (The state of a
port that had flits to report is the claim of AFaultedPortIsFaulted.) -/
def Obligations.PortsFault : Prop :=
  ∀ (s : State) (n q lane t : Nat) (lost : Bool) (c : Instr), n < s.build.ports →
    (MeetsFault s n q lane t lost c → (port s n).replay = [] → (port s n).rxPartial = none → (port s n).txWait = [] →
      (∀ e, s.fab.routes.ports[n]? = some e → e.used = false ∧ e.foreign = false) → NothingToReap s →
      s.bridge.isolated = false → Gives c s (fun s' => (port s' n).st = .faulted ∧ (port s' n).replay = [] ∧ (port s' n).rxSeq = 0 ∧
        (port s' n).txSeq = 0 ∧ wbit (rd s' Reg.LNK_EVENT) 0 = true ∧ ∀ m, m ≠ n → port s' m = port s m)) ∧
    (MeetsFault s n q lane t lost c → c = .replayBudgetExpiry n t ∨ c = .nakRx n q t → Gives c s (fun s' =>
      CountsUp s s' (Reg.LNK_EXHAUST_COUNT n) 1 ∧ s'.boot = s.boot ∧ s'.clock = s.clock)) ∧
    (portSt s n = .training ∨ portSt s n = .exchange ∨ portSt s n = .ready → Gives (.signalLoss n lost t) s (fun s' =>
      (port s' n).st = .down ∧ (port s' n).replay = [] ∧ (port s' n).rxSeq = 0 ∧ (port s' n).txSeq = 0 ∧
      SameRegs s s' ∧ ∀ m, m ≠ n → port s' m = port s m)) ∧
    (portPresent s n = false → (Gives (.replayBudgetExpiry n t) s (fun s' => s' = s)) ∧
      Gives (.faultRx n t) s (fun s' => s' = s) ∧ Gives (.signalLoss n lost t) s (fun s' => s' = s) ∧
      Gives (.laneSignalLoss n lane t) s (fun s' => s' = s)) ∧
    ((port s n).live = true → portPresent s n = true →
      2 ≤ popcount (lanesWithout s n lane) 4 → Gives (.laneSignalLoss n lane t) s (fun s' =>
        (port s' n).st = (port s n).st ∧ (port s' n).widthReq = some (lanesWithout s n lane % 16) ∧ SameRegs s s'))

/-- R301, R302, R305, R337: whatever the port had to report, reroute or flood, a port that faults is in FAULTED
afterwards. -/
def Obligations.AFaultedPortIsFaulted : Prop :=
  ∀ (s : State) (n q lane t : Nat) (lost : Bool) (c : Instr), n < s.build.ports → MeetsFault s n q lane t lost c →
    Gives c s (fun s' => (port s' n).st = .faulted)

/-- R100, R304, R305: after the microcode lock a DOWN port starts bring-up at its time, and from then on, when it is DOWN
again, on signal and on a partner's training frame; before the lock, and on a port that the safe image keeps in HOLD, a
training frame is answered with HOLD and no bring-up starts; HOLD keeps the port in training and its request is repeated;
training that ends with two or more lanes starts the capability exchange with cleared sequence numbers and full credits, and
with fewer is counted as failed; a FAULTED port retrains until eight failures in a row, and then on a RETRY write. -/
def Obligations.PortsComeUp : Prop :=
  ∀ (s : State) (n mask : Nat), n < s.build.ports →
    (s.boot.ucodeLocked = true → ∀ c,
      portSt s n = .down ∧ (c = .portBringupStart n ∨
        (port s n).begun = true ∧ (c = .signalDetect n ∨ c = .trainingFrameRx n)) →
      Gives c s (fun s' => (port s' n).st = .training ∧ (port s' n).retrain = false ∧ (port s' n).replay = [] ∧
        s'.out = .link n .train :: s.out ∧ SameRegs s s' ∧ ∀ m, m ≠ n → port s' m = port s m)) ∧
    (s.boot.ucodeLocked = false ∨ portSt s n = .hold →
      Gives (.portBringupStart n) s (fun s' => s' = s) ∧ Gives (.signalDetect n) s (fun s' => s' = s) ∧
      (portSt s n ≠ .disabled → Gives (.trainingFrameRx n) s (fun s' =>
        s' = { s with out := .link n .hold :: s.out }))) ∧
    ((port s n).begun = false → Gives (.signalDetect n) s (fun s' => s' = s)) ∧
    (portSt s n = .training ∨ portSt s n = .down ∧ (port s n).begun = true → Gives (.holdRx n) s (fun s' =>
      port s' n = { port s n with st := .training } ∧ SameRegs s s' ∧ s'.out = s.out)) ∧
    (portSt s n = .training → Gives (.holdRetry n) s (fun s' => s' = { s with out := .link n .train :: s.out })) ∧
    (portSt s n ≠ .training → Gives (.holdRetry n) s (fun s' => s' = s) ∧
      Gives (.bringupComplete n mask) s (fun s' => s' = s)) ∧
    (portSt s n = .training → 2 ≤ popcount mask 4 → Gives (.bringupComplete n mask) s (fun s' =>
      (port s' n).st = .exchange ∧ (port s' n).laneOk = mask % 16 ∧ (port s' n).credits = [32, 1024, 512] ∧
      (port s' n).txSeq = 0 ∧ (port s' n).rxSeq = 0 ∧ (port s' n).capPassed = false ∧ SameRegs s s')) ∧
    (portSt s n = .training → popcount mask 4 < 2 → Gives (.bringupComplete n mask) s (fun s' =>
      CountsUp s s' (Reg.LNK_TRAIN_FAIL_COUNT n) 1 ∧
      (port s' n).st = (if (port s n).retrain = true then .faulted else .down) ∧
      (port s' n).failedRetrains = (port s n).failedRetrains + (if (port s n).retrain = true then 1 else 0))) ∧
    (portSt s n = .faulted → (port s n).failedRetrains < 8 → Gives (.portRetrainTimer n) s (fun s' =>
      (port s' n).st = .training ∧ (port s' n).retrain = true ∧
      (port s' n).failedRetrains = (port s n).failedRetrains ∧ s'.out = .link n .train :: s.out)) ∧
    (portSt s n ≠ .faulted ∨ 8 ≤ (port s n).failedRetrains → Gives (.portRetrainTimer n) s (fun s' => s' = s)) ∧
    (portSt s n = .faulted → 8 ≤ (port s n).failedRetrains → s.bridge.isolated = false → Gives (.portRetry n) s (fun s' =>
      (port s' n).st = .training ∧ (port s' n).retrain = true ∧ (port s' n).failedRetrains = 0)) ∧
    (portSt s n ≠ .faulted ∨ (port s n).failedRetrains < 8 → Gives (.portRetry n) s (fun s' => s' = s))

/-- R306, R308: in EXCHANGE a partner's CAP that passes every check is acknowledged, and with the partner's own
acknowledgement makes the port READY; one that fails, and a refusal received, make it REFUSED with the reason; a width change
takes the lanes asked for, and the port is ACTIVE with four lanes and DEGRADED with two or three. -/
def Obligations.ExchangeAndWidthSettle : Prop :=
  ∀ (s : State) (n reason mask t : Nat) (cp : Cap) (p : Packet), n < s.build.ports →
    (portSt s n = .exchange →
      (capCheck s n cp = 0 → Gives (.capRx n cp t) s (fun s' =>
        (port s' n).st = (if (port s n).ackRx = true then .ready else .exchange) ∧ (port s' n).capPassed = true ∧
        (port s' n).partnerMod = cp.modId ∧ (port s' n).partnerPort = cp.port ∧
        s'.out = .link n .capAck :: s.out ∧ SameRegs s s')) ∧
      (capCheck s n cp ≠ 0 → Gives (.capRx n cp t) s (fun s' =>
        (port s' n).st = .refused ∧ (port s' n).refuse = capCheck s n cp ∧ SetsBit s s' Reg.LNK_EVENT 1 ∧
        s'.out.head? = some (.link n (.capRefuse (capCheck s n cp))))) ∧
      Gives (.capAckRx n) s (fun s' =>
        (port s' n).st = (if (port s n).capPassed = true then .ready else .exchange) ∧ (port s' n).ackRx = true ∧
        SameRegs s s') ∧
      Gives (.capRefuseRx n reason t) s (fun s' =>
        (port s' n).st = .refused ∧ (port s' n).refuse = reason ∧ SetsBit s s' Reg.LNK_EVENT 1)) ∧
    (portSt s n ≠ .exchange → ∀ c, c = .capRx n cp t ∨ c = .capAckRx n ∨ c = .capRefuseRx n reason t →
      Gives c s (fun s' => s' = s)) ∧
    ((port s n).live = true → portPresent s n = true → (port s n).recal = none → 2 ≤ popcount mask 4 → ∀ c,
      c = .widthReqRx n mask t ∨ (c = .widthAckRx n mask t ∧ (port s n).widthReq = some (mask % 16)) →
      Gives c s (fun s' => (port s' n).laneOk = mask % 16 ∧ (port s' n).replay = (port s n).replay ∧
        (port s' n).st = (if popcount mask 4 = 4 then .active else .degraded))) ∧
    ((port s n).widthReq ≠ some (mask % 16) → Gives (.widthAckRx n mask t) s (fun s' => s' = s)) ∧
    (portSt s n = .active ∨ portSt s n = .degraded → p.key = 0xFFFF ∨
        s.faults.reported.contains (ledgerTag p.ptype p.opTag) = true → NothingToReap s →
      Gives (.abortFlitRx n p t) s (fun s' => (port s' n).rxPartial = none ∧ (port s' n).st = (port s n).st ∧
        s'.faults = s.faults ∧ rd s' Reg.LNK_FAULT_OP_COUNT = rd s Reg.LNK_FAULT_OP_COUNT)) ∧
    (portSt s n = .active ∨ portSt s n = .degraded → p.key ≠ 0xFFFF →
        s.faults.reported.contains (ledgerTag p.ptype p.opTag) = false → Gives (.abortFlitRx n p t) s (fun s' =>
      CountsUp s s' Reg.LNK_FAULT_OP_COUNT 1 ∧ s'.boot = s.boot ∧ s'.clock = s.clock)) ∧
    (portSt s n ≠ .active → portSt s n ≠ .degraded → Gives (.abortFlitRx n p t) s (fun s' => s' = s))

/-- R152, R153, R154, R160: on a joined port of the domain, a packet with key 0, a packet whose class and key disagree about
device control, a packet of no partition here, one whose partition may not use the port it came by or would leave by, one
that ends here for an inactive partition, and one whose stream, group or staging range is not its partition's are each
discarded, counted and raised at the point of the check, and logged when the log is empty, and another module's is answered
by one notice where it can be reached; a packet at a port that carries none is not looked at. (The point of checks 5 and 6,
the hub or the bridge, is the model's reading, log entry 77.) -/
def Obligations.ArrivingPacketsAreRejected : Prop :=
  ∀ (s : State) (n t reason part point : Nat) (p : Packet), n < s.build.ports →
    (portSt s n ≠ .active → portSt s n ≠ .degraded → portSt s n ≠ .ready → Gives (.packetArrive n p t) s (fun s' => s' = s)) ∧
    (portSt s n = .active ∨ portSt s n = .degraded → isForeign s n = false → p.src ≠ modId s →
      (reason = 1 ∧ part = 0 ∧ point = n ∧ p.key = 0 ∨
        reason = 2 ∧ part = 0 ∧ point = n ∧ (p.key ≠ 0 ∧ p.key ≠ 0xFFFF ∧ p.cls = 0 ∨ p.key = 0xFFFF ∧ p.cls ≠ 0) ∨
        p.key ≠ 0 ∧ p.key ≠ 0xFFFF ∧ p.cls ≠ 0 ∧
          (reason = 3 ∧ part = 0 ∧ point = n ∧ partOfKey s p.key = none ∨
            partOfKey s p.key = some part ∧
              (reason = 4 ∧ point = n ∧ wbit (rd s (Reg.PART_PORT_ALLOW n)) part = false ∨
                wbit (rd s (Reg.PART_PORT_ALLOW n)) part = true ∧
                  (p.dst = modId s ∧ p.foreign = false ∧ point = targetPoint s n p ∧
                      (reason = 5 ∧ partActive s part = false ∨
                        reason = 6 ∧ partActive s part = true ∧ targetOk s part p = false) ∨
                    (p.dst ≠ modId s ∨ p.foreign = true) ∧ reason = 7 ∧ point = n ∧
                      ∃ e, egressPort s (hopOn s p) = some e ∧ wbit (rd s (Reg.PART_PORT_ALLOW e)) part = false)))) →
      Gives (.packetArrive n p t) s (fun s' =>
        CountsUp s s' (if 16 ≤ point then Reg.PART_REJECT_HUB_COUNT else Reg.PART_REJECT_PORT_COUNT n) 1 ∧
        wbit (rd s' Reg.PART_EVENT) (if 16 ≤ point then 1 else 0) = true ∧
        s'.part.tickRejects = s.part.tickRejects + 1 ∧
        (wbit (rd s Reg.PART_REJECT_LOG_0) 15 = false → rd s' Reg.PART_REJECT_LOG_0 = rejectLog0 p.key part point reason ∧
          rd s' Reg.PART_REJECT_LOG_1 = BitVec.ofNat 32 (p.src % 32 + p.opTag % 65536 * 65536)) ∧
        (wbit (rd s Reg.PART_REJECT_LOG_0) 15 = true → rd s' Reg.PART_REJECT_LOG_0 = rd s Reg.PART_REJECT_LOG_0 ∧
          s'.part.logOvf = true) ∧
        CountsUp s s' Reg.PART_NOTICE_TX_COUNT (match p.msg with
          | .keyReject _ => 0
          | _ => if reachable s p.src = true then 1 else 0) ∧
        s'.fab.delivered = s.fab.delivered ∧ s'.fab.inFlows = s.fab.inFlows ∧ s'.sync = s.sync ∧
        s'.mems.mem = s.mems.mem))

/-- R153, R323, R327, R331, R353: on a joined port of the domain, a packet of an active partition that may use the port and
the stream, group or range it addresses, and a device control packet, are delivered when they end here and all of them is
there, and held for their last flit otherwise (R298); the next number of a strict channel is delivered and expected no more,
a later one is discarded with one NAK for the gap, and an earlier one is discarded; a transit packet with no hops left is
discarded and counted, one with no route is discarded, and counted when its next hop is a module that is down, and any other
waits at its egress port or is sent there, and is handed to no other. -/
def Obligations.PassingPacketsAreDeliveredOrForwarded : Prop :=
  ∀ (s : State) (n t : Nat) (p : Packet), n < s.build.ports → portSt s n = .active ∨ portSt s n = .degraded →
    isForeign s n = false →
    (p.dst = modId s → p.foreign = false → p.ptype ≠ 3 →
      (p.key = 0xFFFF ∧ p.cls = 0 ∨ ∃ part, p.key ≠ 0 ∧ p.key ≠ 0xFFFF ∧ p.cls ≠ 0 ∧ partOfKey s p.key = some part ∧
        wbit (rd s (Reg.PART_PORT_ALLOW n)) part = true ∧ partActive s part = true ∧ targetOk s part p = true) →
      ((port s n).rxPartial ≠ some p → Gives (.packetArrive n p t) s (fun s' =>
        s'.fab = { s.fab with delivered := p :: s.fab.delivered } ∧ SameRegs s s' ∧ s'.mems = s.mems ∧
        ∀ m, m ≠ n → port s' m = port s m)) ∧
      ((port s n).rxPartial = some p → Gives (.packetArrive n p t) s (fun s' =>
        (port s' n).arriving = some p ∧ s'.fab = s.fab ∧ SameRegs s s' ∧ s'.mems = s.mems ∧
        ∀ m, m ≠ n → port s' m = port s m))) ∧
    (∀ part, p.key ≠ 0 → p.key ≠ 0xFFFF → p.cls ≠ 0 → partOfKey s p.key = some part →
      wbit (rd s (Reg.PART_PORT_ALLOW n)) part = true →
      (p.dst = modId s → p.foreign = false → p.ptype = 3 → partActive s part = true → targetOk s part p = true →
        (port s n).rxPartial ≠ some p →
        ((channelOf s (bits p.opTag 16 4)).mode = 1 ∨ (channelOf s (bits p.opTag 16 4)).mode = 2) →
        (p.e2e = (inFlow s p.key (bits p.opTag 16 4) p.src).expect → Gives (.packetArrive n p t) s (fun s' =>
          s'.fab.delivered = p :: s.fab.delivered ∧
          (inFlow s' p.key (bits p.opTag 16 4) p.src).expect = (p.e2e + 1) % 2 ^ 32 ∧
          (inFlow s' p.key (bits p.opTag 16 4) p.src).nakSent = false)) ∧
        (seqLater p.e2e (inFlow s p.key (bits p.opTag 16 4) p.src).expect = true →
          ((inFlow s p.key (bits p.opTag 16 4) p.src).nakSent = true → Gives (.packetArrive n p t) s (fun s' =>
            s'.fab = s.fab ∧ SameRegs s s')) ∧
          ((inFlow s p.key (bits p.opTag 16 4) p.src).nakSent = false → Gives (.packetArrive n p t) s (fun s' =>
            CountsUp s s' Reg.FAB_GAP_COUNT 1 ∧ s'.fab.delivered = s.fab.delivered ∧
            (inFlow s' p.key (bits p.opTag 16 4) p.src).nakSent = true))) ∧
        (seqLater (inFlow s p.key (bits p.opTag 16 4) p.src).expect p.e2e = true →
          p.e2e < 2 ^ 32 → (inFlow s p.key (bits p.opTag 16 4) p.src).expect < 2 ^ 32 →
          Gives (.packetArrive n p t) s (fun s' => s'.fab.delivered = s.fab.delivered ∧
            (inFlow s' p.key (bits p.opTag 16 4) p.src).unackedCount = 0))) ∧
      (p.dst ≠ modId s → (∀ e, egressPort s (hopOn s p) = some e → wbit (rd s (Reg.PART_PORT_ALLOW e)) part = true) →
        (p.ttl = 0 → Gives (.packetArrive n p t) s (fun s' =>
          CountsUp s s' Reg.FAB_TTL_DROP_COUNT 1 ∧ SetsBit s s' Reg.FAB_EVENT 4 ∧ s'.fab = s.fab ∧
          ∀ m, m ≠ n → port s' m = port s m)) ∧
        (∀ q, 0 < p.ttl → q = { p with ttl := p.ttl - 1, phase := p.phase || (p.mode == 2 && p.via == modId s) } →
          (egressPort s q = none → Gives (.packetArrive n p t) s (fun s' =>
            (if deadHop s q then CountsUp s s' Reg.FAB_UNREACH_COUNT 1 else SameRegs s s') ∧
              s'.fab = s.fab ∧ ∀ m, m ≠ n → port s' m = port s m)) ∧
          (∀ e, egressPort s q = some e → isForeign s e = false → hopDown s e = false → s.bridge.st = 0 ∨ e / 8 = n / 8 →
            Gives (.packetArrive n p t) s (fun s' => (NoClaims s → SameRegs s s') ∧
              s'.fab.delivered = s.fab.delivered ∧ (port s' e).st = (port s e).st ∧
              ({ pkt := q, rx := some (n, p) } ∈ (port s' e).txWait ∨ .packet e q ∈ s'.out) ∧
              ∀ m, m ≠ e → (port s' m).st = (port s m).st ∧ (port s' m).txWait = (port s m).txWait ∧
                (port s' m).replay = (port s m).replay ∧ (port s' m).txSeq = (port s m).txSeq)))))

/-- R155, R310, R311, R313, R330, R334: a key-reject notice is counted, raised, and ends its operation; an end-to-end
acknowledgement releases the packets it covers, a NAK has every unacknowledged packet of the flow sent again, the timer of a
delivered packet acknowledges it, and a timeout resends until the third, which ends the flow's transfers; the timeout of a
flow whose transfer a key reject ended is counted as consequential, once. -/
def Obligations.EndToEndCommandsAct : Prop :=
  ∀ (s : State) (key chan dst next tag reason part t : Nat),
    (streamOfTag s tag = none → transferOfTag s tag = none → Gives (.keyRejectNoticeRx tag reason t) s (fun s' =>
      CountsUp s s' Reg.PART_NOTICE_RX_COUNT 1 ∧ SetsBit s s' Reg.PART_EVENT 3 ∧ s'.fab = s.fab ∧ s'.hubs = s.hubs)) ∧
    (∀ i p, streamOfTag s tag = some i → spoke? s i = some p → itemLive s p.op.item = true →
      Gives (.keyRejectNoticeRx tag reason t) s (fun s' =>
        CountsUp s s' Reg.PART_NOTICE_RX_COUNT 1 ∧ Ends s s' p.op.item .keyReject t)) ∧
    (partOfKey s key = some part → NothingToReap s → ∀ f,
      outFlow? s part chan dst = some f →
        ((∀ u, u ∈ f.unacked → seqLater next u.seq = false) → openTransfers s part chan dst = [] →
          Gives (.e2eAckRx key chan dst next t) s (fun s' => outFlow? s' part chan dst =
            some { f with reported := f.reported && !f.unacked.isEmpty })) ∧
        ((∃ u, u ∈ f.unacked ∧ seqLater next u.seq = true) → openTransfers s part chan dst = [] →
          Gives (.e2eAckRx key chan dst next t) s (fun s' => ∃ g, outFlow? s' part chan dst = some g ∧
            g.unacked = f.unacked.filter (fun u => !seqLater next u.seq) ∧ g.timeouts = 0 ∧ g.next = f.next)) ∧
        Gives (.e2eNakRx key chan dst t) s (fun s' =>
          CountsUp s s' Reg.FAB_E2E_RESEND_COUNT f.unacked.length ∧ outFlow? s' part chan dst = some f) ∧
        (f.unacked ≠ [] → f.timeouts < 2 → Gives (.e2eTimeout key chan dst t) s (fun s' =>
          CountsUp s s' Reg.FAB_E2E_RESEND_COUNT f.unacked.length ∧
          outFlow? s' part chan dst = some { f with timeouts := f.timeouts + 1 })) ∧
        (f.unacked ≠ [] → 2 ≤ f.timeouts → openTransfers s part chan dst = [] →
          Gives (.e2eTimeout key chan dst t) s (fun s' =>
            SetsBit s s' Reg.FAB_EVENT 7 ∧
            outFlow? s' part chan dst = some { f with timeouts := 0, unacked := [], reported := false } ∧
            CountsUp s s' Reg.LNK_CONSEQ_COUNT (if f.reported = true then 1 else 0))) ∧
        (f.unacked = [] → f.rejected = true → Gives (.e2eTimeout key chan dst t) s (fun s' =>
          CountsUp s s' Reg.LNK_CONSEQ_COUNT 1 ∧ outFlow? s' part chan dst = some { f with rejected := false })) ∧
        (f.unacked = [] → f.rejected = false → Gives (.e2eTimeout key chan dst t) s (fun s' =>
          s'.fab = s.fab ∧ SameRegs s s'))) ∧
    (partOfKey s key = none → ∀ c, c = .e2eAckRx key chan dst next t ∨ c = .e2eNakRx key chan dst t ∨
        c = .e2eTimeout key chan dst t → Gives c s (fun s' => s' = s)) ∧
    Gives (.e2eAckTimer key chan dst) s (fun s' => (inFlow s' key chan dst).unackedCount = 0 ∧
      (inFlow s' key chan dst).expect = (inFlow s key chan dst).expect ∧ s'.fab.delivered = s.fab.delivered)

/-- R310, R311, R312, R314, R318: a link-fault notice is counted and raised; the first for an operation ends its collective
with LINK_FAULT, one for an operation already reported does nothing more, and one for an operation whose timeout already
acted is counted as consequential and ends nothing, only the recorded cause of that timeout becoming LINK_FAULT; the bridge
fails once, counted and raised, and traffic takes the detour when a pair can be used; a retrain that succeeds waits for the
next epoch edge. -/
def Obligations.FaultNoticesAndTheBridge : Prop :=
  ∀ (s : State) (tag t : Nat) (tx rx : List Packet) (ok : Bool),
    (s.faults.reported.contains (ledgerTag (if streamOfTag s tag = none ∧ (transferOfTag s tag).isSome = true then 3 else 1)
        tag) = true → Gives (.linkFaultNoticeRx tag t) s (fun s' =>
      CountsUp s s' Reg.LNK_NOTICE_RX_COUNT 1 ∧ SetsBit s s' Reg.LNK_EVENT 8 ∧ s'.hubs = s.hubs ∧ s'.fab = s.fab ∧
      s'.faults = s.faults)) ∧
    (∀ i p, streamOfTag s tag = some i → s.faults.reported.contains tag = false →
      (s.faults.timedOut.contains tag = true → Gives (.linkFaultNoticeRx tag t) s (fun s' =>
        CountsUp s s' Reg.LNK_NOTICE_RX_COUNT 1 ∧ CountsUp s s' Reg.LNK_CONSEQ_COUNT 1 ∧ s'.hubs = s.hubs ∧
        s'.queues = s.queues ∧ s'.faults.reported = tag :: s.faults.reported ∧
        (loggedTimeout s tag = true → fld (rd s' Reg.HUB_COLL_LOG_0) 18 3 = 3) ∧
        (loggedTimeout s tag = false → rd s' Reg.HUB_COLL_LOG_0 = rd s Reg.HUB_COLL_LOG_0))) ∧
      (s.faults.timedOut.contains tag = false → spoke? s i = some p → itemLive s p.op.item = true →
        (∀ x, x ∈ s.fab.transfers → x.status = none) → Gives (.linkFaultNoticeRx tag t) s (fun s' =>
          CountsUp s s' Reg.LNK_NOTICE_RX_COUNT 1 ∧ Ends s s' p.op.item .linkFault t))) ∧
    (s.build ≠ .l → s.bridge.st ≠ 1 → Gives (.bridgeFail tx rx t) s (fun s' =>
      s'.bridge = { s.bridge with st := 1, detour := detourReady s } ∧ CountsUp s s' Reg.LNK_BRIDGE_FAULT_COUNT 1 ∧
      s'.boot = s.boot ∧ s'.clock = s.clock)) ∧
    (∀ p, s.build ≠ .l → s.bridge.st ≠ 1 → p.key ≠ 0xFFFF →
      s.faults.reported.contains (ledgerTag p.ptype p.opTag) = false → Gives (.bridgeFail [p] [] t) s (fun s' =>
        CountsUp s s' Reg.LNK_FAULT_OP_COUNT 1 ∧ (wbit (rd s Reg.LNK_FAULT_LOG_0) 31 = false →
          rd s' Reg.LNK_FAULT_LOG_0 = 0x80000010#32 ∧ rd s' Reg.LNK_FAULT_LOG_1 = BitVec.ofNat 32 p.opTag))) ∧
    (s.build = .l ∨ s.bridge.st = 1 → Gives (.bridgeFail tx rx t) s (fun s' => s' = s)) ∧
    Gives (.bridgeRetrain ok) s (fun s' =>
      s' = { s with bridge := { s.bridge with st := if s.bridge.st = 1 ∧ ok = true then 2 else s.bridge.st } })

/-- R307, R339, R341, R349, R350, R351: the first notice that a module is down counts and raises it, and takes it from the
modules up to those routed around, and this module's own severs it; later copies change nothing. The first announcement that
a module is up is remembered, raised and admitted at t+S_m of the epoch edge, or at once when that instant has passed (the
model's reading, log entry 71). A JOIN of the partner on a READY port in the 2 µs after an epoch edge joins the port when
both ends sent the epoch and the tables agree; a different table is raised and the port stays READY; any other JOIN is kept
or passed over. -/
def Obligations.ModulesLeaveAndJoin : Prop :=
  ∀ (s : State) (n m epoch crc t : Nat),
    (s.fab.seenDown.contains m = false → Gives (.nodeDownRx n m t) s (fun s' => CountsUp s s' Reg.FAB_NODE_DOWN_COUNT 1)) ∧
    (s.fab.seenDown.contains m = false → s.fab.transfers = [] → s.hubs.spokes = [] →
      Gives (.nodeDownRx n m t) s (fun s' =>
        SetsBit s s' Reg.FAB_EVENT 0 ∧ s'.fab.seenDown = m :: s.fab.seenDown ∧ bitAt s'.fab.nodeUp m = false ∧
        s'.fab.down.contains m = true ∧ (m = modId s → s'.fab.severed = true) ∧
        (m ≠ modId s → s'.fab.severed = s.fab.severed))) ∧
    (s.fab.seenDown.contains m = true → NothingToReap s → Gives (.nodeDownRx n m t) s (fun s' =>
      s'.fab = s.fab ∧ SameRegs s s' ∧ ∀ k, (port s' k).st = (port s k).st)) ∧
    (s.fab.seenUp.contains m = false → Gives (.nodeUpRx n m t) s (fun s' =>
      s'.fab.seenUp = m :: s.fab.seenUp ∧ SetsBit s s' Reg.FAB_EVENT 1 ∧ (∀ k, (port s' k).st = (port s k).st) ∧
      (slotAhead s = true → s'.fab.upNext = m :: s.fab.upNext ∧ s'.fab.nodeUp = s.fab.nodeUp) ∧
      (slotAhead s = false → s'.fab.upNext = [] ∧ bitAt s'.fab.nodeUp m = true ∧ s'.fab.down.contains m = false ∧
        (m = modId s → s'.fab.severed = false)))) ∧
    (s.fab.seenUp.contains m = true → Gives (.nodeUpRx n m t) s (fun s' => s' = s)) ∧
    (portSt s n ≠ .ready ∨ m ≠ (port s n).partnerMod ∨ atEpochEdge s = false ∨ 2000 < t →
      Gives (.joinRx n m epoch crc t) s (fun s' => s' = s)) ∧
    (portSt s n = .ready → m = (port s n).partnerMod → atEpochEdge s = true → t ≤ 2000 →
      (crc ≠ s.fab.routes.crc → Gives (.joinRx n m epoch crc t) s (fun s' =>
        SetsBit s s' Reg.FAB_EVENT 8 ∧ s'.ports = s.ports ∧ s'.fab = s.fab)) ∧
      (crc = s.fab.routes.crc → (epoch ≠ epochNum s s.clock.index ∨ (port s n).joinTx ≠ some epoch) →
        Gives (.joinRx n m epoch crc t) s (fun s' =>
          port s' n = { port s n with joinRx := some (epoch, crc) } ∧ SameRegs s s')) ∧
      (crc = s.fab.routes.crc → epoch = epochNum s s.clock.index → (port s n).joinTx = some epoch → n < s.build.ports →
        Gives (.joinRx n m epoch crc t) s (fun s' =>
          (port s' n).st = (if popcount (port s n).laneOk 4 = 4 then .active else .degraded) ∧
          (port s' n).joinTx = none ∧ (isForeign s n = false →
            s'.fab.seenUp.contains m = true ∧ s'.fab.seenUp.contains (modId s) = true ∧
            (s.fab.seenUp.contains m = false → ∀ f, f ∈ s'.fab.inFlows → f.src ≠ m)) ∧
          (isForeign s n = true → s'.fab = s.fab))))

/-- R112, R356, R357, R359, R362, R363, R366: before SERVICEABLE a frame is dropped and counted as such; a frame on an
enabled port is counted, and one that is no measurement, a C37.118.2 datagram of bad form, of bad check value or of a
command, and a data frame of no stream or of an inactive partition, are each discarded, each with its own counter and, where
it has one, its event; the two ports otherwise ignore a frame, as the builds without them do.

R356, R370, R371, R372, R524: a link that goes down clears its bit once and raises it, and one that comes up sets it; a
stream entry is written before the configuration lock where the entry is good, refused in TLY_STATUS where it is not, and
refused by the Fence after the lock; a head write gives slots of the forward ring back, unless it would pass them; other
ports and builds without the ports take none of these. -/
def Obligations.FramesAreScreenedAndPortsKept : Prop :=
  (∀ (s s1 : State) (n t : Nat) (fr d : List Byte), n < 2 → s.build ≠ .q →
     (s.boot.serviceable = false → Gives (.ingestFrameRx n fr t) s (fun s' =>
       CountsUp s s' Reg.HST_BOOT_INGEST_DROP 1 ∧ s'.tally = s.tally ∧ s'.mems = s.mems)) ∧
     (s.boot.serviceable = true → wbit (rd s Reg.TLY_CFG) n = false → Gives (.ingestFrameRx n fr t) s (fun s' => s' = s)) ∧
     (s.boot.serviceable = true → wbit (rd s Reg.TLY_CFG) n = true →
       s1 = bump s (if n = 0 then Reg.TLY_RX_0_COUNT else Reg.TLY_RX_1_COUNT) →
       Gives (.ingestFrameRx n fr t) s (fun s' =>
         CountsUp s s' (if n = 0 then Reg.TLY_RX_0_COUNT else Reg.TLY_RX_1_COUNT) 1) ∧
       (datagramOf s n fr = none → Gives (.ingestFrameRx n fr t) s (fun s' =>
         CountsUp s s' Reg.TLY_NOT_MEAS_COUNT 1 ∧ s'.tally = s.tally ∧ s'.mems = s.mems)) ∧
       (datagramOf s n fr = some (false, d) →
         (leAt d 0 1 ≠ 0xAA ∨ (bits (leAt d 1 1) 0 4 ≠ 1 ∧ bits (leAt d 1 1) 0 4 ≠ 2) ∨ beAt d 2 2 ≠ d.length →
           Gives (.ingestFrameRx n fr t) s (fun s' =>
             CountsUp s s' Reg.TLY_MALFORMED_COUNT 1 ∧ s'.tally = s.tally ∧ s'.mems = s.mems)) ∧
         (bits (leAt d 1 1) 4 3 = 0 → fracBeyond s1 n d = true → Gives (.ingestFrameRx n fr t) s (fun s' =>
           CountsUp s s' Reg.TLY_MALFORMED_COUNT 1 ∧ s'.tally = s.tally ∧ s'.mems = s.mems)) ∧
         (leAt d 0 1 = 0xAA → (bits (leAt d 1 1) 0 4 = 1 ∨ bits (leAt d 1 1) 0 4 = 2) → beAt d 2 2 = d.length →
           16 ≤ d.length → bits (leAt d 1 1) 4 3 < 6 → (bits (leAt d 1 1) 4 3 = 0 → fracBeyond s1 n d = false) →
           (beAt d (d.length - 2) 2 ≠ crcCcitt (d.take (d.length - 2)) → Gives (.ingestFrameRx n fr t) s (fun s' =>
             CountsUp s s' Reg.TLY_CORRUPT_COUNT 1 ∧ SetsBit s s' Reg.TLY_EVENT 0 ∧ s'.tally = s.tally ∧
             s'.mems = s.mems)) ∧
           (beAt d (d.length - 2) 2 = crcCcitt (d.take (d.length - 2)) →
             (bits (leAt d 1 1) 4 3 = 4 → Gives (.ingestFrameRx n fr t) s (fun s' =>
               CountsUp s s' Reg.TLY_CMD_DROP_COUNT 1 ∧ s'.tally = s.tally ∧ s'.mems = s.mems)) ∧
             (bits (leAt d 1 1) 4 3 = 0 → streamOf s1 n false (beAt d 4 2) = none →
               Gives (.ingestFrameRx n fr t) s (fun s' =>
                 CountsUp s s' Reg.TLY_UNKNOWN_COUNT 1 ∧ SetsBit s s' Reg.TLY_EVENT 1 ∧ s'.mems = s.mems)) ∧
             (∀ i, bits (leAt d 1 1) 4 3 = 0 → streamOf s1 n false (beAt d 4 2) = some i →
               (partActive s (rdF s (Reg.TLY_STREAM_W0 i) 4 3) = false →
                 Gives (.ingestFrameRx n fr t) s (fun s' =>
                   CountsUp s s' Reg.TLY_INACTIVE_COUNT 1 ∧ s'.mems = s.mems)) ∧
               (∀ m : Meas, m.ofNative = false → m.id = beAt d 4 2 →
                 m.data = d → m.len = d.length →
                 m.alive = ((beAt d 6 4 * rdF s (Reg.TLY_STREAM_W2 i) 0 24 + beAt d 11 3) * rdF s (Reg.TLY_STREAM_W1 i) 16 16 +
                   rdF s (Reg.TLY_STREAM_W2 i) 0 24 / 2) / rdF s (Reg.TLY_STREAM_W2 i) 0 24 % 65536 →
                 m.time = ((beAt d 6 4 : Int) + utcInForce s) * 1000000000 +
                   (beAt d 11 3 * 1000000000 / rdF s (Reg.TLY_STREAM_W2 i) 0 24 : Nat) →
                 Gives (.ingestFrameRx n fr t) s (fun s' => s' = judge s1 n i m t)))))))) ∧
  (∀ (s : State) (n i w t : Nat) (v : Word) (src : Requester),
     (n < 2 → s.build ≠ .q →
       (wbit (rd s Reg.TLY_STATUS) (9 + n) = true → Gives (.ingestLinkDown n t) s (fun s' =>
         rd s' Reg.TLY_STATUS = putBitW (rd s Reg.TLY_STATUS) (9 + n) false ∧ SetsBit s s' Reg.TLY_EVENT 9 ∧
         s'.tally = s.tally)) ∧
       (wbit (rd s Reg.TLY_STATUS) (9 + n) = false → Gives (.ingestLinkDown n t) s (fun s' => s' = s)) ∧
       Gives (.ingestLinkUp n) s (fun s' => SetsBit s s' Reg.TLY_STATUS (9 + n) ∧
         ∀ a, a ≠ Reg.TLY_STATUS → rd s' a = rd s a) ∧
       (∀ slots d, slots = 2 ^ rdF s (Reg.TLY_FWD_CFG n) 0 4 →
         d = (fld v 0 8 + slots - rdF s (Reg.TLY_FWD_HEAD n) 0 8 % slots) % slots →
         (fld v 0 8 < slots → d ≤ SMap.get s.tally.fwdUsed 0 n → Gives (.tlyFwdHeadWrite n v) s (fun s' =>
           rd s' (Reg.TLY_FWD_HEAD n) = v &&& 0xFF#32 ∧ SMap.get s'.tally.fwdUsed 0 n = SMap.get s.tally.fwdUsed 0 n - d ∧
           s'.tally.fwdOff.contains n = false)) ∧
         (slots ≤ fld v 0 8 ∨ SMap.get s.tally.fwdUsed 0 n < d → Gives (.tlyFwdHeadWrite n v) s (fun s' =>
           SameRegs s s' ∧ s'.tally.fwdUsed = s.tally.fwdUsed ∧ s'.tally.fwdOff.contains n = false)))) ∧
     (i < 8192 → w < 3 → s.build ≠ .q →
       (s.boot.cfgLocked = true → Gives (.tlyStreamWrite i w v src t) s (fun s' =>
         FenceRefused s s' .lock ∧ rd s' (Reg.TLY_STREAM_W0 i + 4 * w) = rd s (Reg.TLY_STREAM_W0 i + 4 * w))) ∧
       (∀ v1 w0 w1 w2, s.boot.cfgLocked = false →
         v1 = (if w = 0 then v &&& 0xFFFF007F#32 else if w = 2 then v &&& 0x00FFFFFF#32 else v) →
         w0 = (if w = 0 then v1 else rd s (Reg.TLY_STREAM_W0 i)) →
         w1 = (if w = 1 then v1 else rd s (Reg.TLY_STREAM_W0 i + 4)) →
         w2 = (if w = 2 then v1 else rd s (Reg.TLY_STREAM_W0 i + 8)) →
         (streamOk s i w0 w1 w2 = true → Gives (.tlyStreamWrite i w v src t) s (fun s' =>
           rd s' (Reg.TLY_STREAM_W0 i + 4 * w) = v1 ∧
           ∀ a, a ≠ Reg.TLY_STREAM_W0 i + 4 * w → rd s' a = rd s a)) ∧
         (streamOk s i w0 w1 w2 = false → Gives (.tlyStreamWrite i w v src t) s (fun s' =>
           SetsBit s s' Reg.TLY_STATUS 8 ∧ ∀ a, a ≠ Reg.TLY_STATUS → rd s' a = rd s a)))) ∧
     (2 ≤ n ∨ s.build = .q → Gives (.ingestLinkDown n t) s (fun s' => s' = s) ∧ Gives (.ingestLinkUp n) s (fun s' => s' = s) ∧
       Gives (.tlyFwdHeadWrite n v) s (fun s' => s' = s)) ∧
     (8192 ≤ i ∨ 3 ≤ w ∨ s.build = .q → Gives (.tlyStreamWrite i w v src t) s (fun s' => s' = s)))

/-- R358, R360, R364, R366, R368: a native segment of bad form ends its block as MALFORMED, one that starts nothing is an
ORPHAN, and a good first segment of several begins a block; a measurement of an active stream in time is judged by its alive
counter: the same value again is a REPEAT and an older one is OLD, which change nothing of the stream, and a first, next or
later one sets the stream's last alive value; each makes an entry of the set, and where the entries are used up it is counted
as dropped. -/
def Obligations.MeasurementsAreJudged : Prop :=
  ∀ (s : State) (n i p t : Nat) (fr d : List Byte) (m : Meas), n < 2 →
    (s.build ≠ .q → s.boot.serviceable = true → wbit (rd s Reg.TLY_CFG) n = true → datagramOf s n fr = some (true, d) →
      SMap.get? s.tally.blocks n = none →
      (bits (leAt d 3 1) 0 4 ≠ 0 → Gives (.ingestFrameRx n fr t) s (fun s' =>
        CountsUp s s' Reg.TLY_ORPHAN_COUNT 1 ∧ s'.tally = s.tally ∧ s'.mems = s.mems)) ∧
      (bits (leAt d 3 1) 0 4 = 0 → segmentOk d 0 = false → Gives (.ingestFrameRx n fr t) s (fun s' =>
        CountsUp s s' Reg.TLY_MALFORMED_COUNT 1 ∧ SMap.get? s'.tally.blocks n = none ∧ s'.mems = s.mems)) ∧
      (bits (leAt d 3 1) 0 4 = 0 → segmentOk d 0 = true → 0 < bits (leAt d 3 1) 4 4 →
        Gives (.ingestFrameRx n fr t) s (fun s' => s'.mems = s.mems ∧ ∃ b, SMap.get? s'.tally.blocks n = some b ∧
          b.next = 1 ∧ b.count = bits (leAt d 3 1) 4 4 + 1 ∧ b.payload = slice d 32 (leAt d 0x1C 2)))) ∧
    (i < 8192 → p = rdF s (Reg.TLY_STREAM_W0 i) 4 3 → partDefined s p = true → partActive s p = true → areaValid s p = true →
      rdF s (Reg.TLY_STREAM_W1 i) 0 16 = 0 → m.time ≤ scaleAt s t + (rdF s Reg.TLY_CFG 16 16 * 1000 : Nat) → m.alive < 65536 →
      ∀ seen last, seen = wbit (rd s (Reg.TLY_STREAM_W3 i)) 16 → last = rdF s (Reg.TLY_STREAM_W3 i) 0 16 →
      (seen = true → m.alive = last → ∀ s', s' = judge s n i m t →
        CountsUp s s' Reg.TLY_REPEAT_COUNT 1 ∧ rdF s' (Reg.TLY_STREAM_W3 i) 0 17 = rdF s (Reg.TLY_STREAM_W3 i) 0 17) ∧
      (seen = true → 32768 ≤ (m.alive + 65536 - last) % 65536 → ∀ s', s' = judge s n i m t →
        CountsUp s s' Reg.TLY_OLD_COUNT 1 ∧ rdF s' (Reg.TLY_STREAM_W3 i) 0 17 = rdF s (Reg.TLY_STREAM_W3 i) 0 17) ∧
      (seen = false ∨ (m.alive ≠ last ∧ (m.alive + 65536 - last) % 65536 < 32768) → ∀ s', s' = judge s n i m t →
        rdF s' (Reg.TLY_STREAM_W3 i) 0 16 = m.alive ∧ wbit (rd s' (Reg.TLY_STREAM_W3 i)) 16 = true ∧
        CountsUp s s' Reg.TLY_GAP_COUNT (if seen = true ∧ (m.alive + 65536 - last) % 65536 ≠ 1 then 1 else 0)) ∧
      (∀ s', s' = judge s n i m t →
        ((SMap.get s.tally.sets TallySet.init p).entries < areaEntries s p →
          (SMap.get s'.tally.sets TallySet.init p).entries = (SMap.get s.tally.sets TallySet.init p).entries + 1) ∧
        (areaEntries s p ≤ (SMap.get s.tally.sets TallySet.init p).entries →
          (SMap.get s'.tally.sets TallySet.init p).dropped = (SMap.get s.tally.sets TallySet.init p).dropped + 1 ∧
          CountsUp s s' Reg.TLY_DROPPED_COUNT 1 ∧ s'.mems = s.mems)))

/-- R374, R380, R395, R410, R524, R527: a write of LDG_ADMIT claims the lowest free slot and the lowest free pages for the
cached SUBMIT it names, together, or neither with the reason, counted and raised (a SUBMIT whose dependency failed is not
taken, log entry 77); the admission of an order does the same for the oldest order of a PREFILL model; an output ring is
enabled only on a good span and a vector of its own; a head write gives ring slots back unless it would pass them. -/
def Obligations.TheLedgerAdmits : Prop :=
  ∀ (s : State) (v : Word) (t p : Nat),
    ((queue s (fld v 12 6)).cache.find?
        (fun c => c.index == fld v 0 12 && c.desc.opcode == 4 && c.fail.isNone && !c.taken &&
          !depFailed s (fld v 12 6) c.desc) = none →
      Gives (.ldgAdmit v t) s (fun s' => rd s' Reg.LDG_ADMIT_RESULT = 0x80000C00#32 ∧
        CountsUp s s' Reg.LDG_REFUSE_COUNT 1 ∧ SetsBit s s' Reg.LDG_EVENT 0 ∧ s'.ledger = s.ledger ∧
        s'.queues = s.queues)) ∧
    (∀ c x, (queue s (fld v 12 6)).cache.find?
        (fun c => c.index == fld v 0 12 && c.desc.opcode == 4 && c.fail.isNone && !c.taken &&
          !depFailed s (fld v 12 6) c.desc) = some c →
      x = slotOfSubmit s (fld v 12 6) (fld v 0 12) c.steps c.desc (fld v 12 6 / 8) →
      (partActive s (fld v 12 6 / 8) = false → Gives (.ldgAdmit v t) s (fun s' =>
        rd s' Reg.LDG_ADMIT_RESULT = 0x80001000#32 ∧ CountsUp s s' Reg.LDG_REFUSE_COUNT 1 ∧
        SetsBit s s' Reg.LDG_EVENT 0 ∧ s'.ledger = s.ledger)) ∧
      (∀ md code, partActive s (fld v 12 6 / 8) = true → model? s x.model = some md →
        (code = 5 ∧ md.slotMax ≤ (slotsOf s x.model).length ∨
          (slotsOf s x.model).length < md.slotMax ∧
            (code = 1 ∧ freeSlotIn s md.part = none ∨ code = 2 ∧ (freeSlotIn s md.part).isSome = true ∧
              freePages s md.part (pagesFor s md x.ctx) = none)) →
        Gives (.ldgAdmit v t) s (fun s' => rd s' Reg.LDG_ADMIT_RESULT = BitVec.ofNat 32 (code * 1024 + 2 ^ 31) ∧
          rd s' Reg.LDG_REFUSE_LOG = (if code = 2 then 2#32 else 1#32) ∧
          CountsUp s s' Reg.LDG_REFUSE_COUNT 1 ∧ SetsBit s s' Reg.LDG_EVENT 0 ∧ s'.ledger = s.ledger)) ∧
      (∀ md k l, partActive s (fld v 12 6 / 8) = true → model? s x.model = some md →
        (slotsOf s x.model).length < md.slotMax → freeSlotIn s md.part = some k →
        freePages s md.part (pagesFor s md x.ctx) = some l →
        Gives (.ldgAdmit v t) s (fun s' =>
          rd s' Reg.LDG_ADMIT_RESULT = BitVec.ofNat 32 (k % 1024 + 2 ^ 31) ∧ CountsUp s s' Reg.LDG_ADMIT_COUNT 1 ∧
          (x.promptHost = true → windowOk s x.part true false x.promptAddr (4 * x.promptLen) = true →
            slot s' k = { x with pages := l } ∧ takenPages s' x.part = l ++ takenPages s x.part ∧
            (∀ j, j ≠ k → slot s' j = slot s j))))) ∧
    (∀ md, model? s (fld v 0 4) = some md → md.place = 2 →
      ((run s (fld v 0 4)).orders = [] → Gives (.ldgOrderAdmit v t) s (fun s' =>
        rd s' Reg.LDG_ORDER_RESULT = 0x80000C00#32 ∧ s'.ledger = s.ledger)) ∧
      (∀ o rest k l, (run s (fld v 0 4)).orders = o :: rest →
        (slotsOf s (fld v 0 4)).length < md.slotMax → freeSlotIn s md.part = some k →
        freePages s md.part (pagesFor s md (leAt o.bytes 0x0C 4)) = some l → Gives (.ldgOrderAdmit v t) s (fun s' =>
          rd s' Reg.LDG_ORDER_RESULT = BitVec.ofNat 32 (k % 1024 + 2 ^ 31) ∧
          rd s' (Reg.MSK_SLOT_STATE k) = BitVec.ofNat 32 (leAt o.bytes 0x24 4) ∧
          slot s' k = { slotOfOrder s (fld v 0 4) md.part o with pages := l } ∧
          takenPages s' md.part = l ++ takenPages s md.part ∧ (run s' (fld v 0 4)).orders = rest))) ∧
    ((∀ md, model? s (fld v 0 4) = some md → md.place ≠ 2) → Gives (.ldgOrderAdmit v t) s (fun s' =>
      rd s' Reg.LDG_ORDER_RESULT = 0x80001000#32 ∧ s'.ledger = s.ledger)) ∧
    (wbit (rd s (Reg.LDG_OUT_CFG p)) 4 = true → Gives (.outputRingEnable p v) s (fun s' =>
      rd s' (Reg.LDG_OUT_CFG p) = putBitW (rd s (Reg.LDG_OUT_CFG p)) 4 (wbit v 4))) ∧
    (wbit (rd s (Reg.LDG_OUT_CFG p)) 4 = false → wbit v 4 = true → Gives (.outputRingEnable p v) s (fun s' =>
      wbit (rd s' (Reg.LDG_OUT_CFG p)) 4 = (decide (2 ≤ fld v 0 4) && decide (fld v 0 4 ≤ 12) &&
        windowOk s p true true (outBase s p) (2 ^ fld v 0 4 * outSlotBytes s p) &&
        ownerOf s 0x0C (fld v 16 11) == some p) ∧ ∀ a, a ≠ Reg.LDG_OUT_CFG p → rd s' a = rd s a)) ∧
    (∀ d, d = (fld v 0 12 + outSlots s p - rdF s (Reg.LDG_OUT_HEAD p) 0 12 % outSlots s p) % outSlots s p →
      (fld v 0 12 < outSlots s p → d ≤ SMap.get s.ledger.outUsed 0 p → Gives (.ldgOutHeadWrite p v) s (fun s' =>
        rd s' (Reg.LDG_OUT_HEAD p) = v &&& 0xFFF#32 ∧
        SMap.get s'.ledger.outUsed 0 p = SMap.get s.ledger.outUsed 0 p - d)) ∧
      (outSlots s p ≤ fld v 0 12 ∨ SMap.get s.ledger.outUsed 0 p < d → Gives (.ldgOutHeadWrite p v) s (fun s' => s' = s)))

/-- R384, R387, R391, R392, R393, R394, R420: a running step counts its microsteps and takes the updates due at them; an
update is kept for its step and microstep, and a late one is counted; a step that ends well is over, with its item done and,
except a draft step, on the module that leads the model its batch in the next ring slot or, without a free one, discarded and
counted; the one row of such a step emits the token selected, and its automaton takes it; a prefill chunk charges its class
by fair queueing, and on the lead lowers what is left of the prompt, and the one that completes it writes a batch, or on a
PREFILL model starts the ship of its pages. -/
def Obligations.StepsAndChunksEnd : Prop :=
  ∀ (s s1 : State) (i m k n st step microstep t : Nat) (masked : Bool) (rows : List (Nat × List (List Nat)))
    (logits : List Nat),
    (model? s m = none ∨ (run s m).running = false → Gives (.microstepBoundary m) s (fun s' => s' = s)) ∧
    ((model? s m).isSome = true → (run s m).running = true → Gives (.microstepBoundary m) s (fun s' =>
      (run s' m).microstep = (run s m).microstep + 1 ∧ (run s' m).running = true ∧
      (run s' m).updates = (run s m).updates.filter (fun u => !(decide (u.step < (run s m).stepNo) ||
        (u.step == (run s m).stepNo && decide (u.microstep ≤ (run s m).microstep + 1)))))) ∧
    Gives (.slotUpdateRx m k st masked step microstep t) s (fun s' =>
      (run s' m).updates = (run s m).updates ++
        [{ slot := k, st := st, masked := masked, step := step, microstep := microstep }] ∧
      (step < (run s m).stepNo ∨ (step = (run s m).stepNo ∧ (run s m).running = true ∧
          microstep ≤ (run s m).microstep) →
        CountsUp s s' Reg.LDG_UPDATE_LATE_COUNT 1 ∧ SetsBit s s' Reg.LDG_EVENT 4) ∧
      ((run s m).stepNo < step ∨ (step = (run s m).stepNo ∧ (run s m).microstep < microstep) → SameRegs s s')) ∧
    ((∀ j p, (item s i).src ≠ .step j p) → Gives (.decodeStepEnd i rows t) s (fun s' => s' = s)) ∧
    (∀ md, RunsClean s i (.step m n) t → model? s m = some md → (run s m).running = true →
      Gives (.decodeStepEnd i rows t) s (fun s' =>
        (item s' i).ph = .done ∧ (run s' m).running = false ∧ (run s' m).rows = [] ∧
        (run s' m).stepNo = (run s m).stepNo + 1 ∧
        (run s' m).stepSeq =
          (if md.place = 3 ∨ leads s md = false then (run s m).stepSeq else ((run s m).stepSeq + 1) % 65536) ∧
        (md.place ≠ 3 → leads s md = true → md.part < 8 → (run s' m).fails = 0 ∧
          (wbit (rd s (Reg.LDG_OUT_CFG md.part)) 4 = true →
            SMap.get s.ledger.outUsed 0 md.part < outSlots s md.part →
            rd s' (Reg.LDG_OUT_TAIL md.part) =
              BitVec.ofNat 32 ((rdF s (Reg.LDG_OUT_TAIL md.part) 0 12 + 1) % outSlots s md.part) ∧
            SMap.get s'.ledger.outUsed 0 md.part = SMap.get s.ledger.outUsed 0 md.part + 1) ∧
          (wbit (rd s (Reg.LDG_OUT_CFG md.part)) 4 = false ∨ outSlots s md.part ≤ SMap.get s.ledger.outUsed 0 md.part →
            CountsUp s s' Reg.LDG_OUT_DROP_COUNT 1 ∧ SetsBit s s' Reg.LDG_EVENT 1 ∧ (run s' m).gap = true)))) ∧
    (∀ md x l v, RunsClean s i (.step m n) t → model? s m = some md → (run s m).running = true → md.place ≠ 3 →
      leads s md = true → k < 1024 →
      (run s m).rows = [k] → rows = [(k, [l])] → x = slot s k → x.st = 2 → x.masked = false → x.model = m →
      x.hostSample = false → x.draft = [] → x.ending = none → x.pause = none → s1 = finishItem s i [] none t →
      selectToken s1 md x.maskN (rd s (Reg.MSK_SLOT_STATE k)).toNat x.stop l = some v → x.stop ≠ some v →
      x.emitted + 1 < x.maxNew → x.promptLen + x.emitted + 1 < md.maxCtx → Gives (.decodeStepEnd i rows t) s (fun s' =>
        (slot s' k).emitted = x.emitted + 1 ∧ (slot s' k).st = 2 ∧
        rd s' (Reg.MSK_SLOT_STATE k) =
          BitVec.ofNat 32 (autoNext s1 x.maskN (rd s (Reg.MSK_SLOT_STATE k)).toNat x.stop v))) ∧
    ((∀ j p q, (item s i).src ≠ .chunk j p q) → Gives (.prefillChunkEnd i logits t) s (fun s' => s' = s)) ∧
    (∀ md q x, RunsClean s i (.chunk m k q) t → model? s m = some md → x = slot s k →
      Gives (.prefillChunkEnd i logits t) s (fun s' =>
        (item s' i).ph = .done ∧ (run s' m).fails = 0 ∧
        (run s' m).vtime = max (run s m).vtime ((run s m).finish.getD x.cls 0) % 2 ^ 64 ∧
        (x.model = m → x.st ≠ 0 → leads s md = false → slot s' k = x) ∧
        (x.model = m → x.st ≠ 0 → leads s md = true → x.ending = none → q < x.todo → (slot s' k).todo = x.todo - q) ∧
        (x.model = m → x.st = 1 → leads s md = true → x.ending = none → x.todo = q → x.summary = true → x.pause = none →
          (slot s' k).st = 2 ∧ (slot s' k).resume = none) ∧
        (x.model = m → x.st = 1 → leads s md = true → x.ending = none → x.todo = q → x.summary = false →
          (md.place = 2 → x.order.isSome = true → s'.fab.nextTransfer = s.fab.nextTransfer + 1) ∧
          (md.place ≠ 2 → (run s' m).stepSeq = ((run s m).stepSeq + 1) % 65536))))

/-- R49, R376, R400, R401, R402, R403, R404: the last page of a cold pause written, or the summary stored, gives the pages
back and completes the PAUSE, with OK or, across a time step, TIME_DISCONTINUITY; a read failure of a cold resume, a poisoned
page and an expired time to live end the request with their status; the last page of a cold resume read back puts the slot in
DECODE and completes the RESUME. -/
def Obligations.PausesAndResumesEnd : Prop :=
  ∀ (s : State) (i k t : Nat) (f : ReadFail) (x : Slot), x = slot s k →
    ((x.st = 4 ∨ x.st = 5) → x.ttlOn = true → x.ttl = 0 → x.pause = none → x.resume = none →
      Gives (.pauseTtlExpiry k t) s (fun s' => RequestEnds s s' k .cancelled ∧ CountsUp s s' Reg.LDG_EXPIRE_COUNT 1 ∧
        SetsBit s s' Reg.LDG_EVENT 3)) ∧
    ((x.st ≠ 4 ∧ x.st ≠ 5) ∨ x.ttlOn = false ∨ x.ttl ≠ 0 → Gives (.pauseTtlExpiry k t) s (fun s' => s' = s)) ∧
    (∀ q j d size, x.pause = some (q, j, d, 1) → x.st = 3 → size = 2 ^ (ldgPart s x.part).pageLog2 →
      (x.pages.any (fun pg => memPoisoned s (pageAddr s x.part pg) size) = true → x.resume = none →
        Gives (.coldPauseComplete k t) s (fun s' => RequestEnds s s' k .poisoned)) ∧
      (x.pages.any (fun pg => memPoisoned s (pageAddr s x.part pg) size) = false →
        (∀ e, e < x.pages.length → windowOk s x.part true true (x.hostAddr + e * size) size = true) →
        Gives (.coldPauseComplete k t) s (fun s' =>
          (slot s' k).st = 4 ∧ (slot s' k).pages = [] ∧ (slot s' k).pause = none ∧ (slot s' k).ttlOn = false ∧
          (∀ pg, pg ∈ x.pages → pg ∉ takenPages s' x.part) ∧
          (j ∉ (queue s q).toFetch → SMap.get? (queue s' q).done j = some (qualifyTime s x.controlSteps .ok)))) ∧
      (x.pages.any (fun pg => memPoisoned s (pageAddr s x.part pg) size) = false → x.pages ≠ [] →
        windowOk s x.part true true x.hostAddr size = false → Gives (.coldPauseComplete k t) s (fun s' =>
          (slot s' k).st = x.pausedFrom ∧ (slot s' k).pause = none ∧
          (slot s' k).pages = x.pages ∧
          (j ∉ (queue s q).toFetch → SMap.get? (queue s' q).done j = some .windowViolation)))) ∧
    ((x.st ≠ 3 ∨ x.pause = none) → Gives (.coldPauseComplete k t) s (fun s' => s' = s)) ∧
    (∀ m md q j d mode, RunsClean s i (.summary m k) t → model? s m = some md → x.pause = some (q, j, d, mode) →
      Gives (.summaryStoreComplete i t) s (fun s' =>
        (slot s' k).st = 5 ∧ (slot s' k).pause = none ∧
        (slot s' k).pages = x.pages.take (ceilDiv md.summaryBytes (2 ^ (ldgPart s md.part).pageLog2)) ∧
        (j ∉ (queue s q).toFetch → SMap.get? (queue s' q).done j = some (qualifyTime s x.controlSteps .ok)))) ∧
    ((∀ m j, (item s i).src ≠ .summary m j) → Gives (.summaryStoreComplete i t) s (fun s' => s' = s)) ∧
    (x.st = 6 → x.pause = none →
      (x.resume = none → Gives (.coldResumeComplete k (some f) t) s (fun s' => RequestEnds s s' k .poisoned)) ∧
      (x.reads = 0 → Gives (.coldResumeComplete k none t) s (fun s' =>
        (slot s' k).st = 2 ∧ (slot s' k).resume = none ∧ (slot s' k).pages = x.pages ∧
        (∀ q j d, x.resume = some (q, j, d) → j ∉ (queue s q).toFetch →
          SMap.get? (queue s' q).done j = some (qualifyTime s x.controlSteps .ok)))) ∧
      (x.reads ≠ 0 → Gives (.coldResumeComplete k none t) s (fun s' => s' = s))) ∧
    (x.st ≠ 6 → Gives (.coldResumeComplete k (some f) t) s (fun s' => s' = s))

/-- R410, R411, R413, R414, R415: an order is queued when every check of its model passes and fewer than 64 wait, and refused
with a count and a notice otherwise; a refusal received ends the request with NOT_ADMITTED; the oldest order that has waited
SHIP_LIMIT ticks is refused; a withdraw drops the order and frees its slot unless a chunk of it runs; the last page of a ship
shows its first token and readies the slot; a ship not finished in time is counted and ends its request with LINK_FAULT.
(That the notice of the prefill lead also tells of a failure there, with its status, is the model's reading, log entry
80.) -/
def Obligations.OrdersAndShips : Prop :=
  ∀ (s : State) (bytes pages : List Byte) (src key k m decSlot v autoSt reason t : Nat) (x : Slot), x = slot s k →
    (∀ md p, m = leAt bytes 5 1 → model? s m = some md → partOfKey s key = some p →
      (md.place = 2 → md.part = p → (run s m).orders.length < 64 → leAt bytes 0x10 4 = md.kvb →
        leAt bytes 0x14 1 = (ldgPart s p).pageLog2 → adapterOk s (leAt bytes 0x0A 2) p m = true →
        maskOk s (leAt bytes 9 1) p = true → Gives (.orderRx bytes src key t) s (fun s' =>
          (run s' m).orders = (run s m).orders ++ [{ bytes := bytes, seq := s.clock.seq, src := src }] ∧ SameRegs s s')) ∧
      (md.place ≠ 2 ∨ md.part ≠ p ∨ 64 ≤ (run s m).orders.length ∨ leAt bytes 0x10 4 ≠ md.kvb ∨
          leAt bytes 0x14 1 ≠ (ldgPart s p).pageLog2 ∨ adapterOk s (leAt bytes 0x0A 2) p m = false ∨
          maskOk s (leAt bytes 9 1) p = false → Gives (.orderRx bytes src key t) s (fun s' =>
        CountsUp s s' Reg.MSK_ORDER_REFUSE_COUNT 1 ∧ SetsBit s s' Reg.MSK_EVENT 6 ∧ s'.ledger = s.ledger))) ∧
    (∀ md, model? s x.model = some md →
      (x.st = 1 → x.order = none → md.place = 1 → x.pause = none → x.resume = none →
        Gives (.orderRefuseNoticeRx k 0 t) s (fun s' => RequestEnds s s' k .notAdmitted) ∧
        (reason ≠ 0 → Gives (.orderRefuseNoticeRx k reason t) s (fun s' => CountsUp s s' Reg.MSK_SHIP_FAIL_COUNT 1 ∧
          RequestEnds s s' k (qualifyTime s x.steps (Status.ofCode (reason % 256)))))) ∧
      (x.st ≠ 1 ∨ x.order.isSome = true ∨ md.place ≠ 1 →
        Gives (.orderRefuseNoticeRx k reason t) s (fun s' => s' = s))) ∧
    (∀ md o rest, model? s m = some md → (run s m).orders = o :: rest →
      (o.seq + md.shipLimit ≤ s.clock.seq → Gives (.orderQueueTimeout m t) s (fun s' =>
        (run s' m).orders = rest ∧ CountsUp s s' Reg.MSK_ORDER_REFUSE_COUNT 1)) ∧
      (s.clock.seq < o.seq + md.shipLimit → Gives (.orderQueueTimeout m t) s (fun s' => s' = s))) ∧
    Gives (.orderWithdrawRx src decSlot) s (fun s' =>
      (run s' m).orders = (run s m).orders.filter (fun o => !(o.src == src && leAt o.bytes 6 2 == decSlot)) ∧
      (∀ o, x.order = some o → o.src = src → leAt o.bytes 6 2 = decSlot → chunkRuns s k = false →
        (slot s' k).st = 0) ∧
      (x.order = none → slot s' k = x) ∧ (NoClaims s → ∀ a, a ≠ Reg.FAB_UNREACH_COUNT → rd s' a = rd s a)) ∧
    (∀ md, model? s x.model = some md → x.st = 1 → md.place = 1 → x.shipped = false → x.order = none →
      k < 1024 → Gives (.kvShipComplete k pages (some v) autoSt t) s (fun s' =>
        rd s' (Reg.MSK_SLOT_STATE k) = BitVec.ofNat 32 autoSt ∧
        (run s' x.model).stepSeq = ((run s x.model).stepSeq + 1) % 65536 ∧
        (x.stop ≠ some v → x.emitted + 1 < x.maxNew → x.promptLen + x.emitted + 1 < md.maxCtx → x.ending = none →
          (slot s' k).emitted = x.emitted + 1 ∧ (slot s' k).shipped = true ∧ (slot s' k).todo = 0))) ∧
    (∀ md, model? s x.model = some md → x.pause = none → x.resume = none →
      (x.st = 1 → x.order = none → md.place = 1 → x.shipped = false → Gives (.kvShipTimeout k t) s (fun s' =>
        CountsUp s s' Reg.MSK_SHIP_FAIL_COUNT 1 ∧ SetsBit s s' Reg.MSK_EVENT 5 ∧ RequestEnds s s' k .linkFault)) ∧
      (∀ q, x.st ≠ 0 → x.order.isSome = true → x.shipSeq = some q →
        (q + md.shipLimit ≤ s.clock.seq → Gives (.kvShipTimeout k t) s (fun s' =>
          RequestEnds s s' k .linkFault ∧ rd s' Reg.MSK_SHIP_FAIL_COUNT = rd s Reg.MSK_SHIP_FAIL_COUNT)) ∧
        (s.clock.seq < q + md.shipLimit → x.st ≠ 1 ∨ md.place ≠ 1 → Gives (.kvShipTimeout k t) s (fun s' => s' = s))) ∧
      (x.order = none → x.st ≠ 1 → Gives (.kvShipTimeout k t) s (fun s' => s' = s)))

/-- R416, R429: AUTO_LOAD, AUTO_UNLOAD, AUTO_VALIDATION_DONE and ADAPTER_REGISTER complete: a load starts a validation unless
one is in progress, an unload clears VALID when no user is left and is refused with result 1 otherwise, a validation that
ends reports its result and sets VALID exactly when every condition held, and an adapter is registered when nobody uses it
and its entry is good, and refused otherwise; each refusal raises its event; under G1COMPAT the writes have no effect but
their event. -/
def Obligations.AutomataAndAdapters : Prop :=
  ∀ (s : State) (n a t : Nat) (v : Word),
    (g1 s = true →
      Gives (.autoLoad n t) s (fun s' => SetsBit s s' Reg.MSK_EVENT 0 ∧ rd s' Reg.MSK_AUTO_STATUS = rd s Reg.MSK_AUTO_STATUS) ∧
      Gives (.autoUnload n t) s (fun s' => SetsBit s s' Reg.MSK_EVENT 0 ∧
        rd s' (Reg.MSK_AUTO_W0 (n % 64)) = rd s (Reg.MSK_AUTO_W0 (n % 64))) ∧
      Gives (.adapterRegister a v t) s (fun s' => SetsBit s s' Reg.MSK_EVENT 1 ∧
        rd s' (Reg.MSK_ADAPTER_W0 a) = rd s (Reg.MSK_ADAPTER_W0 a))) ∧
    (g1 s = false →
      (wbit (rd s Reg.MSK_AUTO_STATUS) 6 = true → Gives (.autoLoad n t) s (fun s' => s' = s) ∧
        Gives (.autoUnload n t) s (fun s' => s' = s)) ∧
      (wbit (rd s Reg.MSK_AUTO_STATUS) 6 = false →
        Gives (.autoLoad n t) s (fun s' => fld (rd s' Reg.MSK_AUTO_STATUS) 0 6 = n % 64 ∧
          wbit (rd s' Reg.MSK_AUTO_STATUS) 6 = true ∧ wbit (rd s' Reg.MSK_AUTO_STATUS) 31 = false ∧
          ∀ r, r ≠ Reg.MSK_AUTO_STATUS → rd s' r = rd s r) ∧
        (autoUsers s (n % 64) = 0 → Gives (.autoUnload n t) s (fun s' =>
          wbit (rd s' (Reg.MSK_AUTO_W0 (n % 64))) 0 = false ∧
          rd s' Reg.MSK_AUTO_STATUS = BitVec.ofNat 32 (n % 64 + 2 ^ 31))) ∧
        (autoUsers s (n % 64) ≠ 0 → Gives (.autoUnload n t) s (fun s' =>
          rd s' (Reg.MSK_AUTO_W0 (n % 64)) = rd s (Reg.MSK_AUTO_W0 (n % 64)) ∧
          rd s' Reg.MSK_AUTO_STATUS = BitVec.ofNat 32 (n % 64 + 256 + 2 ^ 31) ∧ SetsBit s s' Reg.MSK_EVENT 0)))) ∧
    (wbit (rd s Reg.MSK_AUTO_STATUS) 6 = false → Gives (.autoValidationDone t) s (fun s' => s' = s)) ∧
    (∀ k c, k = fld (rd s Reg.MSK_AUTO_STATUS) 0 6 → c = autoCheck s k → wbit (rd s Reg.MSK_AUTO_STATUS) 6 = true →
      Gives (.autoValidationDone t) s (fun s' =>
        rd s' Reg.MSK_AUTO_STATUS = BitVec.ofNat 32 (k + c * 256 + 2 ^ 31) ∧
        (c = 0 → wbit (rd s' (Reg.MSK_AUTO_W0 k)) 0 = true ∧ rd s' Reg.MSK_EVENT = rd s Reg.MSK_EVENT) ∧
        (c ≠ 0 → rd s' (Reg.MSK_AUTO_W0 k) = rd s (Reg.MSK_AUTO_W0 k) ∧ SetsBit s s' Reg.MSK_EVENT 0))) ∧
    (∀ bpr, g1 s = false → bpr = (match model? s (fld v 4 4) with
        | some m => if m.part = fld v 1 3 then m.adapterBpr else 0
        | none => 0) →
      (adapterUsers s a = 0 → (wbit v 0 = true → 1 ≤ fld v 8 7 ∧ fld v 8 7 ≤ 64 ∧ bpr ≠ 0 ∧
          windowOk s (fld v 1 3) false false ((rd s (Reg.MSK_ADAPTER_W2 a)).toNat +
            (rd s (Reg.MSK_ADAPTER_W3 a)).toNat * 2 ^ 32) (fld v 8 7 * bpr) = true) →
        Gives (.adapterRegister a v t) s (fun s' => rd s' (Reg.MSK_ADAPTER_W0 a) = v &&& 0x7FFF#32 ∧
          ∀ r, r ≠ Reg.MSK_ADAPTER_W0 a → rd s' r = rd s r)) ∧
      (adapterUsers s a ≠ 0 ∨ (wbit v 0 = true ∧ (fld v 8 7 = 0 ∨ 64 < fld v 8 7 ∨ bpr = 0 ∨
          windowOk s (fld v 1 3) false false ((rd s (Reg.MSK_ADAPTER_W2 a)).toNat +
            (rd s (Reg.MSK_ADAPTER_W3 a)).toNat * 2 ^ 32) (fld v 8 7 * bpr) = false)) →
        Gives (.adapterRegister a v t) s (fun s' => CountsUp s s' Reg.MSK_ADAPTER_REFUSE_COUNT 1 ∧
          SetsBit s s' Reg.MSK_EVENT 1 ∧ rd s' (Reg.MSK_ADAPTER_W0 a) = rd s (Reg.MSK_ADAPTER_W0 a))))

/-- R436, R437, R439, R440, R442, R443, R444, R447, R449, R452, R453: the chores run in an open maintenance slot and stop at
its end, and before the slot the patrols of resources without late work go on in the carry-over window; an uncorrectable
memory error that a patrol finds is counted, logged when the log is empty, raised, and its granule poisoned; a lane is taken
out for recalibration and given back, or left out when its adaptation failed; one page of the log is programmed in a slot,
and a program or an erase that fails retires its sector, but none of these goes on while a block of a control store is
reloaded; a telemetry sample enters the ring; at the expiry of a hardware timer the COMPARE written meanwhile, which its
register shows, comes into force, and a SUPERVISOR timer interrupts. (Which resources carry over is the model's reading, log
entry 79.) -/
def Obligations.BackgroundChores : Prop :=
  ∀ (s : State) (n t line : Nat) (found : List Finding) (ok : Bool),
    (s.clock.slotOpen = true → s.bkg.carry = none → s.bkg.running ≠ [] →
      Gives (.choreStart found t) s (fun s' => s' = s)) ∧
    (∀ l, s.clock.slotOpen = false → l = (choresOf s.build).filter (carries s) →
      (s.clock.running = true → s.bkg.running = [] → t < graceNs s → l ≠ [] → Gives (.choreStart found t) s (fun s' =>
        s'.bkg.running = l ∧ s'.bkg.carry = some t ∧ (found = [] → s'.mems = s.mems ∧ SameRegs s s'))) ∧
      (s.clock.running = false ∨ s.bkg.running ≠ [] ∨ graceNs s ≤ t ∨ l = [] →
        Gives (.choreStart found t) s (fun s' => s' = s))) ∧
    (s.clock.slotOpen = true → s.bkg.running = [] ∨ s.bkg.carry.isSome = true → Gives (.choreStart found t) s (fun s' =>
      s'.bkg.running = choresOf s.build ∧ s'.bkg.pageInSlot = false ∧
      s'.bkg.pagesInEpoch = (if atEpochEdge s = true then 0 else s.bkg.pagesInEpoch))) ∧
    (s.clock.slotOpen = true → s.bkg.running = [] → atEpochEdge s = false → Gives (.choreStart [.hbm line true] t) s (fun s' =>
      CountsUp s s' Reg.BKG_HBM_UE_COUNT 1 ∧ wbit (rd s' Reg.BKG_EVENT) 1 = true ∧ s'.mems.poisonMem.contains line = true ∧
      s'.mems.mem = s.mems.mem ∧
      (wbit (rd s Reg.BKG_HBM_UE_LOG_LO) 0 = false →
        rd s' Reg.BKG_HBM_UE_LOG_LO = BitVec.ofNat 32 (line * 64 % 2 ^ 32 + 1) ∧
        rd s' Reg.BKG_HBM_UE_LOG_HI = BitVec.ofNat 32 (line * 64 / 2 ^ 32)))) ∧
    (s.bkg.running = [] → Gives (.choreStop t) s (fun s' => s' = s)) ∧
    (s.bkg.running ≠ [] → Gives (.choreStop t) s (fun s' =>
      s'.bkg.running = [] ∧ s'.bkg.carry = none ∧ s'.mems = s.mems ∧ s'.logBuf = s.logBuf)) ∧
    (∀ lane, lane = epochNum s s.clock.index % 4 →
      (s.clock.slotOpen = true → epochPos s s.clock.index = (2 + n) % epochLen s → portPresent s n = true →
        portSt s n = .active ∨ portSt s n = .degraded → 3 ≤ popcount (port s n).laneOk 4 → 22000 ≤ maintNs s →
        (port s n).recal = none → Gives (.laneRecalStart n) s (fun s' =>
          (port s' n).recal = some (lane, bitAt (port s n).laneOk lane) ∧ (port s' n).laneOk = (port s n).laneOk ∧
          (bitAt (port s n).laneOk lane = true → (port s' n).widthReq = some (((port s n).laneOk - 2 ^ lane) % 16)) ∧
          SameRegs s s' ∧ ∀ m, m ≠ n → port s' m = port s m)) ∧
      (s.clock.slotOpen = false ∨ popcount (port s n).laneOk 4 < 3 ∨ maintNs s < 22000 →
        Gives (.laneRecalStart n) s (fun s' => s' = s))) ∧
    ((port s n).recal = none → Gives (.laneRecalDone n ok t) s (fun s' => s' = s)) ∧
    (∀ lane removed, (port s n).recal = some (lane, removed) →
      Gives (.laneRecalDone n ok t) s (fun s' =>
        (ok = true → (port s' n).recal = none) ∧
        (∀ out, out = (if bitAt (port s n).laneOk lane then (port s n).laneOk - 2 ^ lane else (port s n).laneOk) →
          ok = false → 2 ≤ popcount out 4 → (port s' n).recal = none ∧ (port s' n).laneOk = out % 16) ∧
        CountsUp s s' Reg.BKG_RECAL_DONE_COUNT (if ok = true then 1 else 0) ∧
        CountsUp s s' Reg.BKG_RECAL_FAIL_COUNT (if ok = true then 0 else 1))) ∧
    (s.bkg.running = [] ∨ s.bkg.carry.isSome = true ∨ s.bkg.flashOp.isSome = true ∨ 488 < s.bkg.retired.length ∨
        s.hubs.store.reloading ≠ [] →
      Gives .logPageProgram s (fun s' => s' = s)) ∧
    (∀ k, s.bkg.running ≠ [] → s.bkg.carry = none → s.hubs.store.reloading = [] → s.bkg.flashOp = none → s.bkg.retired.length ≤ 488 → s.bkg.openSector = some k →
      0 < s.bkg.nextPage → s.bkg.nextPage < 256 → s.bkg.pageInSlot = false →
      s.bkg.pagesInEpoch < rdF s Reg.BKG_CFG 4 8 → 8 ≤ s.logBuf.length → Gives .logPageProgram s (fun s' =>
        s'.bkg.flashOp = some (.program (0x06100000 + k * 65536 + s.bkg.nextPage * 256)
          ((s.logBuf.take 8).flatMap LogRec.bytes)) ∧
        s'.bkg.pagesInEpoch = s.bkg.pagesInEpoch + 1 ∧ s'.bkg.pageInSlot = true ∧ s'.mems = s.mems ∧ s'.logBuf = s.logBuf)) ∧
    (s.bkg.flashOp = none ∨ s.hubs.store.reloading ≠ [] → Gives (.flashOpComplete ok t) s (fun s' => s' = s)) ∧
    (∀ a bs, s.hubs.store.reloading = [] → s.bkg.flashOp = some (.program a bs) →
      Gives (.flashOpComplete true t) s (fun s' =>
        s'.bkg.openSector = some ((a - 0x06100000) / 65536) ∧ s'.bkg.nextPage = (a - 0x06100000) % 65536 / 256 + 1 ∧
        s'.mems.mem = s.mems.mem) ∧
      (s.bkg.retired.contains ((a - 0x06100000) / 65536) = false → Gives (.flashOpComplete false t) s (fun s' =>
        s'.bkg.retired = (a - 0x06100000) / 65536 :: s.bkg.retired ∧ CountsUp s s' Reg.BKG_SECTOR_RETIRED_COUNT 1 ∧
        wbit (rd s' Reg.BKG_EVENT) 8 = true))) ∧
    (∀ k, s.hubs.store.reloading = [] → s.bkg.flashOp = some (.erase k) → Gives (.flashOpComplete true t) s (fun s' =>
      SMap.get s'.bkg.erases 0 k = SMap.get s.bkg.erases 0 k + 1 ∧ s'.bkg.flashOp = none ∧
      (SMap.get s.bkg.erases 0 k + 1 < 100000 → s'.bkg.erased.contains k = true ∧
        ∀ x, 0x06100000 + k * 65536 ≤ x → x < 0x06100000 + (k + 1) * 65536 → Mem.read 0xFF#8 s'.mems.flash x = 0xFF#8))) ∧
    Gives (.telemetrySample t) s (fun s' =>
      SMap.get? s'.bkg.ring (rdF s Reg.BKG_TELEM_IDX 0 6) = some ((sensorIds s.build).map (fun id => sensorReading s id t)) ∧
      rd s' Reg.BKG_TELEM_IDX = BitVec.ofNat 32 ((rdF s Reg.BKG_TELEM_IDX 0 6 + 1) % 64)) ∧
    (n < 32 → wbit (rd s (Reg.BKG_TIMER_RUN n)) 0 = true → Gives (.hwTimerExpiry n) s (fun s' =>
      SMap.get? s'.bkg.timerNext n = none ∧ SameRegs s s' ∧
      s'.sup.irq = (s.sup.irq || timerUse s n == some 3))) ∧
    (wbit (rd s (Reg.BKG_TIMER_RUN n)) 0 = false ∨ 32 ≤ n → Gives (.hwTimerExpiry n) s (fun s' => s' = s))

/-- R456, R457, R462, R463, R464, R465, R466, R487, R523, R545: a reset of PF0 stops its accesses, puts every queue and its
registers back, disables the output rings and drops its MSI-X state, and one of PF1 only PF1's MSI-X state; PERST_N low does
both, drops the link, the translations and the keys, once, and high lets the link train; from then until the link has trained
a configuration request is answered with Request Retry Status; a link that trains shows its rate, width and mode, and one
that drops is raised once; translations that an invalidation names are used no more, and its completion answers; an integrity
failure makes the stream insecure, counted and raised, and a key set in an SPDM session makes it secure again. -/
def Obligations.FunctionsAndLinkReset : Prop :=
  ∀ (s : State) (t q p fn v rate width page count keySet : Nat) (flit ats : Bool),
    Gives (.flrPf0 t) s (fun s' =>
      (s.sched.items = [] → s.ledger.slots = [] → s'.host.pf0Off = true ∧ s'.host.logBusy = none ∧ s'.heldWrites = [] ∧
        (q < numQueues s → queue s' q = Queue.init ∧ ∀ r, r ∈ queueRegs q → rd s' r = 0)) ∧
      s'.readWait = [] ∧
      (p < 8 → wbit (rd s' (Reg.LDG_OUT_CFG p)) 4 = false ∧ rd s' (Reg.LDG_OUT_HEAD p) = 0 ∧
        rd s' (Reg.LDG_OUT_TAIL p) = 0) ∧
      s'.ledger.outUsed = [] ∧ s'.tally.fwdOff = [0, 1] ∧ rd s' Reg.HST_LOG_STATUS = 0 ∧
      (v / 4096 = 0 → s'.msixUnmasked.contains v = false ∧ s'.msixPending.contains v = false) ∧
      s'.clock = s.clock ∧ s'.boot = s.boot ∧ s'.fuses = s.fuses) ∧
    Gives .flrPf1 s (fun s' =>
      (v / 4096 = fn → (fn = 1 → s'.msixUnmasked.contains v = false ∧ s'.msixPending.contains v = false) ∧
        (fn ≠ 1 → s'.msixUnmasked.contains v = s.msixUnmasked.contains v ∧
          s'.msixPending.contains v = s.msixPending.contains v)) ∧
      s'.queues = s.queues ∧ s'.host = s.host ∧ SameRegs s s') ∧
    (s.host.perstLow = false → Gives (.perstNAssert t) s (fun s' =>
      s'.host.perstLow = true ∧ s'.host.ats = [] ∧ s'.host.atsInv = [] ∧
      s'.host.ideKeySet = 0 ∧ rd s' Reg.HST_PCIE_STATUS = 0 ∧ wbit (rd s' Reg.HST_EVENT) 2 = true ∧
      configRetry s' = true ∧ (s.sched.items = [] → s.ledger.slots = [] → s'.host.pf0Off = true ∧
        (q < numQueues s → queue s' q = Queue.init)) ∧ s'.clock = s.clock ∧ s'.boot = s.boot)) ∧
    (s.host.perstLow = true → Gives (.perstNAssert t) s (fun s' => s' = s)) ∧
    Gives .perstNDeassert s (fun s' => s' = { s with host := { s.host with perstLow := false } }) ∧
    (s.host.perstLow = false → 1 ≤ rate → rate ≤ 6 → (width = 1 ∨ width = 2 ∨ width = 4 ∨ width = 8 ∨ width = 16) →
      Gives (.pcieLinkUp rate width flit ats) s (fun s' =>
        fld (rd s' Reg.HST_PCIE_STATUS) 0 3 = rate ∧ fld (rd s' Reg.HST_PCIE_STATUS) 3 5 = width ∧
        wbit (rd s' Reg.HST_PCIE_STATUS) 8 = (flit || rate == 6) ∧ wbit (rd s' Reg.HST_PCIE_STATUS) 11 = true ∧
        wbit (rd s' Reg.HST_PCIE_STATUS) 10 = ats ∧ wbit (rd s' Reg.HST_PCIE_STATUS) 9 = false ∧
        configRetry s' = false)) ∧
    (s.host.perstLow = true ∨ rate = 0 ∨ 6 < rate → Gives (.pcieLinkUp rate width flit ats) s (fun s' => s' = s)) ∧
    (wbit (rd s Reg.HST_PCIE_STATUS) 11 = true → Gives (.pcieLinkDown t) s (fun s' =>
      rd s' Reg.HST_PCIE_STATUS = 0 ∧ wbit (rd s' Reg.HST_EVENT) 2 = true ∧ s'.queues = s.queues)) ∧
    (wbit (rd s Reg.HST_PCIE_STATUS) 11 = false → Gives (.pcieLinkDown t) s (fun s' => s' = s)) ∧
    Gives (.atsInvalidateRequest page count) s (fun s' =>
      (∀ e, e ∈ s'.host.ats ↔ e ∈ s.host.ats ∧ ¬ (page ≤ e.2 ∧ e.2 < page + count)) ∧
      s'.host.atsInv = s.host.atsInv ++ [page] ∧ SameRegs s s') ∧
    (s.host.atsInv.contains page = true → Gives (.atsInvalidateComplete page) s (fun s' =>
      s'.host.atsInv = s.host.atsInv.erase page ∧ s'.host.ats = s.host.ats ∧
      s'.out = .reply "InvalidateCompletion" 0 (leBytes 8 page) :: s.out)) ∧
    (s.host.atsInv.contains page = false → Gives (.atsInvalidateComplete page) s (fun s' => s' = s)) ∧
    (wbit (rd s Reg.HST_PCIE_STATUS) 9 = true → Gives (.ideIntegrityFail t) s (fun s' =>
      wbit (rd s' Reg.HST_PCIE_STATUS) 9 = false ∧ s'.host.ideInsecure = true ∧
      CountsUp s s' Reg.HST_IDE_FAIL_COUNT 1 ∧ wbit (rd s' Reg.HST_EVENT) 1 = true)) ∧
    (wbit (rd s Reg.HST_PCIE_STATUS) 9 = false → Gives (.ideIntegrityFail t) s (fun s' => s' = s)) ∧
    (s.host.spdmSession = true → wbit (rd s Reg.HST_PCIE_STATUS) 11 = true → Gives (.ideKmKSetGo keySet) s (fun s' =>
      SetsBit s s' Reg.HST_PCIE_STATUS 9 ∧ s'.host.ideInsecure = false ∧ s'.host.ideKeySet = keySet % 2)) ∧
    (s.host.spdmSession = false ∨ wbit (rd s Reg.HST_PCIE_STATUS) 11 = false → Gives (.ideKmKSetGo keySet) s (fun s' =>
      s' = s))

/-- R475, R476, R477, R478: an endpoint of the build takes its EID and enters I3C mode; without an EID it answers no PLDM
request, and the I-die 0 endpoints answer ERROR_NOT_READY while the supervisor restarts or is held; otherwise a reading, the
event receiver and the oldest held event are answered, and the events held so far are sent to the receiver that is set.

R484, R485, R486: with an EID, or over DOE with the link up, SPDM opens a session, answers a challenge and the certificate of
slot 0, and reports a measurement that exists, except that index 5 and all of them are answered Busy before the configuration
lock; a write of HST_LOG_ADDR starts the read of 256 bytes of the log region, and its completion shows them. -/
def Obligations.ManagementAndAttestationAnswer : Prop :=
  (∀ (s : State) (ep eid id t : Nat) (receiver : Option Nat),
     (endpointPresent s ep = true →
       Gives (.setEndpointId ep eid) s (fun s' => eidOf s' ep = eid % 256 ∧
         (∀ e, e ≠ ep → e < 3 → eidOf s' e = eidOf s e) ∧ ∀ a, a ≠ Reg.HST_MCTP_EID → rd s' a = rd s a) ∧
       (ep ≠ 0 → s.host.i3cMode.contains ep = false → Gives (.i3cEntdaa ep) s (fun s' =>
         s' = { s with host := { s.host with i3cMode := s.host.i3cMode ++ [ep] } })) ∧
       (eidOf s ep ≠ 0 → (ep ≠ 2 → s.sup.restarting = false ∧ s.sup.held = false) →
         (id ∈ endpointSensors s ep → id ≠ 0x42 → Gives (.getSensorReading ep id t) s (fun s' =>
           s'.out = .reply "GetSensorReading" 0 (leBytes 4 (sensorReading s id t)) :: s.out ∧ SameRegs s s')) ∧
         (id ∉ endpointSensors s ep → Gives (.getSensorReading ep id t) s (fun s' =>
           s' = { s with out := .reply "GetSensorReading" 0x80 [] :: s.out })) ∧
         (ep ≠ 2 → receiver = none → Gives (.setEventReceiver ep receiver) s (fun s' =>
           s' = { s with pldmReceiver := none, out := .reply "SetEventReceiver" 0 [] :: s.out })) ∧
         (ep ≠ 2 → receiver.isSome = true → Gives (.setEventReceiver ep receiver) s (fun s' =>
           s' = { s with pldmReceiver := receiver, pldmQ := []
                         out := .reply "SetEventReceiver" 0 [] :: ((s.pldmQ.map .pldmEvent).reverse ++ s.out) })) ∧
         (∀ e rest, ep ≠ 2 → s.pldmReceiver = none → s.pldmQ = e :: rest →
           Gives (.pollForPlatformEventMessage ep) s (fun s' =>
             s' = { s with pldmQ := rest, out := .reply "PollForPlatformEventMessage" 0 e.bytes :: s.out })) ∧
         (s.pldmQ = [] → Gives (.pollForPlatformEventMessage ep) s (fun s' =>
           s' = { s with out := .reply "PollForPlatformEventMessage" 0 [] :: s.out })))) ∧
     (endpointPresent s ep = false → Gives (.setEndpointId ep eid) s (fun s' => s' = s) ∧
       Gives (.i3cEntdaa ep) s (fun s' => s' = s)) ∧
     (endpointPresent s ep = false ∨ eidOf s ep = 0 → ∀ c, c = .getSensorReading ep id t ∨ c = .setEventReceiver ep receiver ∨
         c = .pollForPlatformEventMessage ep ∨ c = .requestUpdate ep id t ∨ c = .activateFirmware ep t →
       Gives c s (fun s' => s' = s)) ∧
     (endpointPresent s ep = true → eidOf s ep ≠ 0 → ep ≠ 2 → s.sup.restarting = true ∨ s.sup.held = true →
       Gives (.getSensorReading ep id t) s (fun s' => s' = { s with out := .reply "GetSensorReading" 4 [] :: s.out }) ∧
       Gives (.setEventReceiver ep receiver) s (fun s' => s' = { s with out := .reply "SetEventReceiver" 4 [] :: s.out }))) ∧
  (∀ (s : State) (ep index certSlot i : Nat) (b : List Byte) (v : Word),
     (spdmAnswers s ep = true →
       Gives (.spdmKeyExchange ep) s (fun s' => s'.host = { s.host with spdmSession := true } ∧ SameRegs s s') ∧
       (certSlot = 0 → Gives (.spdmChallenge ep certSlot) s (fun s' => s'.host = s.host ∧
         ∃ d, s'.out = .reply "CHALLENGE_AUTH" 0 d :: s.out)) ∧
       (certSlot = 0 → Gives (.spdmGetCertificate ep certSlot) s (fun s' =>
         s' = { s with out := .reply "CERTIFICATE" 0 Config.certificate :: s.out })) ∧
       (index = 5 ∨ index = 255 → s.boot.cfgLocked = false → Gives (.spdmGetMeasurements ep index) s (fun s' =>
         s' = { s with out := .reply "ERROR" 3 [] :: s.out })) ∧
       (measurement s index = some b → index < 255 → (index = 5 → s.boot.cfgLocked = true) →
         Gives (.spdmGetMeasurements ep index) s (fun s' => s'.host = s.host ∧ SameRegs s s' ∧
           ∃ d, s'.out = .reply "MEASUREMENTS" 0 (b ++ d) :: s.out))) ∧
     (spdmAnswers s ep = false → ∀ c, c = .spdmKeyExchange ep ∨ c = .spdmChallenge ep certSlot ∨
       c = .spdmGetCertificate ep certSlot ∨ c = .spdmGetMeasurements ep index → Gives c s (fun s' => s' = s)) ∧
     (s.host.logBusy = none → fld v 8 17 * 256 < 0x1F00000 → Gives (.logRead v) s (fun s' =>
       s'.host.logBusy = some (fld v 8 17 * 256) ∧ rd s' Reg.HST_LOG_STATUS = 1#32 ∧
       rd s' Reg.HST_LOG_ADDR = BitVec.ofNat 32 (fld v 8 17 * 256) ∧ s'.mems = s.mems)) ∧
     (s.host.logBusy.isSome = true ∨ 0x1F00000 ≤ fld v 8 17 * 256 → Gives (.logRead v) s (fun s' => s' = s)) ∧
     (s.host.logBusy = none → Gives .logReadComplete s (fun s' => s' = s)) ∧
     (∀ off, s.host.logBusy = some off → i < 64 → Gives .logReadComplete s (fun s' =>
       s'.host.logBusy = none ∧ rd s' Reg.HST_LOG_STATUS = 0 ∧ s'.mems = s.mems ∧
       rd s' (Reg.HST_LOG_DATA i) = BitVec.ofNat 32 (flashNat s (0x6100000 + off + 4 * i) 4))))

/-- R480, R481, R482, R483: a session is opened on the slot that was not booted, whose directory entry is cleared; each chunk
goes to flash after the ones before it, and the last starts the verification, which passes with code 0 and fails with its
code, raised; an activation gives the verified slot the next sequence, and the fuses and the other slot stay as they are.
(The reply codes are the model's choice, log entry 25.) -/
def Obligations.FirmwareIsUpdated : Prop :=
  ∀ (s : State) (ep len t : Nat) (data pub : List Byte),
    (endpointPresent s ep = true → ep ≠ 2 → eidOf s ep ≠ 0 → s.sup.restarting = false → s.sup.held = false →
      (s.host.update.active = false → s.sup.checkLost = false → Gives (.requestUpdate ep len t) s (fun s' =>
        s'.host.update = { active := true, got := 0, len := len } ∧ updateSlot s' = updateTarget s ∧ updateState s' = 1 ∧
        s'.mems.flash = (rewriteDirectory s (fun d => d.set (updateTarget s) (d.seq (updateTarget s)) 0)).mems.flash ∧
        (s.boot.slot = 0 → updateTarget s = 1) ∧ (s.boot.slot = 1 → updateTarget s = 0))) ∧
      (s.host.update.active = true → Gives (.requestUpdate ep len t) s (fun s' =>
        s'.host.update = s.host.update ∧ s'.mems = s.mems ∧ SameRegs s s')) ∧
      (s.host.update.active = true → updateState s = 3 → s.sup.checkLost = false →
        Gives (.activateFirmware ep t) s (fun s' =>
          updateState s' = 5 ∧ s'.host.update.active = false ∧ wbit (rd s' Reg.HST_EVENT) 3 = true ∧ s'.fuses = s.fuses ∧
          s'.mems.flash = (rewriteDirectory s
            (fun d => d.set (updateSlot s) ((max d.seqA d.seqB + 1) % 2 ^ 32) 1)).mems.flash)) ∧
      (s.host.update.active = false ∨ updateState s ≠ 3 → Gives (.activateFirmware ep t) s (fun s' =>
        s'.mems = s.mems ∧ SameRegs s s'))) ∧
    (s.host.update.active = true → updateState s = 1 → s.sup.checkLost = false → s.host.update.got + 1024 ≤ 33554432 →
      data.length ≤ 1024 → Gives (.firmwareDataRx data t) s (fun s' =>
        Mem.readN 0xFF#8 s'.mems.flash (slotBase (updateSlot s) + s.host.update.got) data.length = data ∧
        (∀ a, a < slotBase (updateSlot s) + s.host.update.got ∨
            slotBase (updateSlot s) + s.host.update.got + data.length ≤ a →
          Mem.read 0xFF#8 s'.mems.flash a = Mem.read 0xFF#8 s.mems.flash a) ∧
        s'.host.update = { s.host.update with got := s.host.update.got + data.length } ∧
        updateState s' = (if s.host.update.len ≤ s.host.update.got + data.length then 2 else 1))) ∧
    (s.host.update.active = false ∨ updateState s ≠ 1 → Gives (.firmwareDataRx data t) s (fun s' => s' = s)) ∧
    (∀ code, code = imageCode s (updateSlot s) pub →
      s.host.update.active = true → updateState s = 2 → code < 256 →
      Gives (.verifyComplete pub t) s (fun s' =>
        updateState s' = (if code = 0 then 3 else 4) ∧ s'.host.update.active = (code == 0) ∧
        fld (rd s' Reg.HST_UPDATE_STATUS) 8 8 = code ∧ s'.mems = s.mems ∧
        (code ≠ 0 → wbit (rd s' Reg.HST_EVENT) 4 = true))) ∧
    (s.host.update.active = false ∨ updateState s ≠ 2 → Gives (.verifyComplete pub t) s (fun s' => s' = s))

/-- R529, R537, R539, R548, R550: a ceiling from 1 W to the envelope is accepted and any other refused by the Fence; an
interval of the limiter is ungated exactly when the energy drawn, the peak for it and the reserve for the rest stay within
the ceiling, which the Q build never gates, and a gated interval draws at most RESERVE and any other PEAK; a rail fault is
shown and raised; at the end of its minimum time an ALARM ball follows its class. -/
def Obligations.PowerIsLimited : Prop :=
  ∀ (s : State) (v : Word) (src : Requester) (drawn t us tus e ball u : Nat),
    (1 ≤ fld v 0 16 → fld v 0 16 ≤ s.build.envelope → Gives (.pwrLimitWrite v src t) s (fun s' =>
      rd s' Reg.PWR_LIMIT = BitVec.ofNat 32 (fld v 0 16) ∧ s'.power = s.power ∧ ∀ a, a ≠ Reg.PWR_LIMIT → rd s' a = rd s a)) ∧
    (fld v 0 16 = 0 ∨ s.build.envelope < fld v 0 16 → Gives (.pwrLimitWrite v src t) s (fun s' =>
      FenceRefused s s' .power ∧ rd s' Reg.PWR_LIMIT = rd s Reg.PWR_LIMIT)) ∧
    (s.clock.running = false → Gives (.limiterInterval drawn t) s (fun s' => s' = s)) ∧
    (s.clock.running = true → us = t / 1000 → tus = tickNs s / 1000 → e = s.power.energy + (if us = 0 then 0 else intervalUj s drawn) →
      Gives (.limiterInterval drawn t) s (fun s' =>
        s'.power.energy = e ∧ s'.power.acted = (s.power.acted || s'.power.gated) ∧ SameRegs s s' ∧
        (s'.power.gated = false ↔ s.build = .q ∨ (us + 1 ≤ tus ∧
          e + s.build.peakW + s.build.reserveW * (tus - us - 1) ≤ limitW s * tus)))) ∧
    Gives (.railFault t) s (fun s' => SetsBit s s' Reg.PWR_STATUS 3 ∧ wbit (rd s' Reg.PWR_EVENT) 3 = true ∧
      s'.boot = s.boot ∧ s'.clock = s.clock) ∧
    (SMap.get? s.power.balls ball ≠ some true → Gives (.alarmMinTimeExpiry ball) s (fun s' => s' = s)) ∧
    (SMap.get? s.power.balls ball = some true → useOf s 1 ball = some u → Gives (.alarmMinTimeExpiry ball) s (fun s' =>
      (wbit (rd s Reg.HST_ALERT_STATUS) (u - 0x10) = true → SMap.get? s'.power.balls ball = some false ∧ s'.out = s.out) ∧
      (wbit (rd s Reg.HST_ALERT_STATUS) (u - 0x10) = false → ball ∈ alarmBalls s (u - 0x10) →
        SMap.get? s'.power.balls ball = none)))

/-- R51, R79, R118, R129, R145, R160, R163, R193, R205, R209, R211, R240, R243, R264, R285, R294, R310, R320, R355, R372,
R406, R434, R439, R455, R487, R508, R522, R532 and Tables 1.9 to 21.12: each COUNT_CLR zeroes the saturating counters of its
block where the build has it, each log clear zeroes its log and lets the next entry in, and neither changes another register,
a register of an I-die 1 that is ISOLATED (R316), a memory, the clock or a queue. -/
def Obligations.ClearsZeroTheirRegisters : Prop :=
  ∀ (s : State) (c : Instr) (ctrl : Nat) (regs : List Nat), (c, ctrl, regs) ∈ clearCommands →
    takesWrite s ctrl = true → Gives c s (fun s' =>
      (∀ a, a ∈ regs → (s.bridge.isolated && onIdie1 a) = false → rd s' a = 0) ∧
      (∀ a, a ∉ regs ∨ (s.bridge.isolated && onIdie1 a) = true → rd s' a = rd s a) ∧
      s'.mems = s.mems ∧ s'.clock = s.clock ∧ s'.queues = s.queues ∧
      (c = .fenceVlogClr → s'.fence.vlogValid = false ∧ s'.fence.vlogOvf = false) ∧
      (c = .partLogClr → s'.part.logOvf = false) ∧ (c = .syncFaultLogClr → s'.sync.logOvf = false) ∧
      (c = .syncAuditWrapClr → s'.sync.auditWrap = false) ∧ (c = .hubCollLogClr → s'.hubs.collOvf = false))
end

