-- ==== Sys2Proof/Laws/Maps.lean ====
section
/-! SUPPORT. The laws of sparse maps and memories: what is read after a write, and that every operation keeps the
canonical form. -/

namespace Sys2Proof.Machine

variable {α : Type}

/-! ## Sparse maps -/

@[simp] theorem SMap.get?_nil (k : Nat) : SMap.get? ([] : SMap α) k = none := rfl

theorem SMap.get?_cons (k' : Nat) (v : α) (m : SMap α) (k : Nat) :
    SMap.get? ((k', v) :: m) k = if k = k' then some v else SMap.get? m k := rfl

theorem SMap.get?_put (m : SMap α) (k : Nat) (v : α) (j : Nat) :
    SMap.get? (SMap.put m k v) j = if j = k then some v else SMap.get? m j := by
  induction m with
  | nil => simp [SMap.put, SMap.get?]
  | cons e m ih =>
    obtain ⟨k', v'⟩ := e
    unfold SMap.put
    split
    · simp only [SMap.get?_cons]
    · split
      · subst_vars
        simp only [SMap.get?_cons]
        split <;> rfl
      · simp only [SMap.get?_cons, ih]
        split
        · subst_vars
          rw [if_neg (by omega)]
        · rfl

@[simp] theorem SMap.get?_put_same (m : SMap α) (k : Nat) (v : α) : SMap.get? (SMap.put m k v) k = some v := by
  simp [SMap.get?_put]

theorem SMap.get?_put_other (m : SMap α) {k j : Nat} (v : α) (h : j ≠ k) :
    SMap.get? (SMap.put m k v) j = SMap.get? m j := by simp [SMap.get?_put, h]

theorem SMap.get_put (m : SMap α) (d : α) (k : Nat) (v : α) (j : Nat) :
    SMap.get (SMap.put m k v) d j = if j = k then v else SMap.get m d j := by
  simp only [SMap.get, SMap.get?_put]
  split <;> rfl

@[simp] theorem SMap.get_put_same (m : SMap α) (d : α) (k : Nat) (v : α) : SMap.get (SMap.put m k v) d k = v := by
  simp [SMap.get_put]

theorem SMap.get_put_other (m : SMap α) (d : α) {k j : Nat} (v : α) (h : j ≠ k) :
    SMap.get (SMap.put m k v) d j = SMap.get m d j := by simp [SMap.get_put, h]

theorem SMap.get?_del (m : SMap α) (k j : Nat) :
    SMap.get? (SMap.del m k) j = if j = k then none else SMap.get? m j := by
  induction m with
  | nil => simp [SMap.del]
  | cons e m ih =>
    obtain ⟨k', v'⟩ := e
    simp only [SMap.del, List.filter_cons] at ih ⊢
    by_cases h : k' = k
    · subst h
      simp only [bne_self_eq_false, Bool.false_eq_true, if_false, ih, SMap.get?_cons]
      split <;> simp_all
    · simp only [bne_iff_ne, ne_eq, h, not_false_eq_true, if_true, SMap.get?_cons, ih]
      split
      · subst_vars
        rw [if_neg h]
      · rfl

@[simp] theorem SMap.get?_del_same (m : SMap α) (k : Nat) : SMap.get? (SMap.del m k) k = none := by
  simp [SMap.get?_del]

theorem SMap.get?_del_other (m : SMap α) {k j : Nat} (h : j ≠ k) :
    SMap.get? (SMap.del m k) j = SMap.get? m j := by simp [SMap.get?_del, h]

/-! ## Rising keys -/

/-- Rising keys, said of every later key. -/
theorem SMap.sorted_iff (m : SMap α) : SMap.sorted m = true ↔ m.Pairwise (fun a b => a.1 < b.1) := by
  induction m with
  | nil => simp [SMap.sorted]
  | cons a m ih =>
    cases m with
    | nil => simp [SMap.sorted]
    | cons b m =>
      simp only [SMap.sorted, Bool.and_eq_true, decide_eq_true_eq, ih, List.pairwise_cons]
      constructor
      · rintro ⟨h, hb, hm⟩
        refine ⟨?_, hb, hm⟩
        intro c hc
        rcases List.mem_cons.1 hc with rfl | hc
        · exact h
        · exact Nat.lt_trans h (hb c hc)
      · rintro ⟨ha, hb, hm⟩
        exact ⟨ha b (List.mem_cons_self ..), hb, hm⟩

theorem SMap.mem_put {m : SMap α} {k : Nat} {v : α} {e : Nat × α} (h : e ∈ SMap.put m k v) : e = (k, v) ∨ e ∈ m := by
  induction m with
  | nil => simpa [SMap.put] using h
  | cons a m ih =>
    obtain ⟨k', v'⟩ := a
    unfold SMap.put at h
    split at h
    · simpa using h
    · split at h
      · rcases List.mem_cons.1 h with h | h
        · exact .inl h
        · exact .inr (List.mem_cons_of_mem _ h)
      · rcases List.mem_cons.1 h with h | h
        · exact .inr (h ▸ List.mem_cons_self ..)
        · exact (ih h).imp id (List.mem_cons_of_mem _)

theorem SMap.sorted_put {m : SMap α} (k : Nat) (v : α) (h : SMap.sorted m = true) :
    SMap.sorted (SMap.put m k v) = true := by
  rw [SMap.sorted_iff] at h ⊢
  induction m with
  | nil => simp [SMap.put]
  | cons a m ih =>
    obtain ⟨k', v'⟩ := a
    have ⟨ha, hm⟩ := List.pairwise_cons.1 h
    unfold SMap.put
    split
    · refine List.pairwise_cons.2 ⟨?_, h⟩
      intro c hc
      rcases List.mem_cons.1 hc with rfl | hc
      · assumption
      · exact Nat.lt_trans ‹k < k'› (ha c hc)
    · split
      · subst_vars
        exact List.pairwise_cons.2 ⟨ha, hm⟩
      · refine List.pairwise_cons.2 ⟨?_, ih hm⟩
        intro c hc
        rcases SMap.mem_put hc with rfl | hc
        · show k' < k
          omega
        · exact ha c hc

theorem SMap.sorted_filter {m : SMap α} (f : Nat × α → Bool) (h : SMap.sorted m = true) :
    SMap.sorted (m.filter f : SMap α) = true := by
  rw [SMap.sorted_iff] at h ⊢
  exact h.filter f

theorem SMap.sorted_del {m : SMap α} (k : Nat) (h : SMap.sorted m = true) : SMap.sorted (SMap.del m k) = true :=
  SMap.sorted_filter _ h

theorem SMap.sorted_foldl_put {β : Type} (l : List β) (f : β → Nat) (g : β → α) {m : SMap α} (h : SMap.sorted m = true) :
    SMap.sorted (l.foldl (fun r x => SMap.put r (f x) (g x)) m) = true := by
  induction l generalizing m with
  | nil => exact h
  | cons x l ih => exact ih (SMap.sorted_put _ _ h)

theorem SMap.get_foldl_put_other {β : Type} (l : List β) (f : β → Nat) (g : β → α) (m : SMap α) (d : α) {k : Nat}
    (h : ∀ x ∈ l, f x ≠ k) : SMap.get (l.foldl (fun r x => SMap.put r (f x) (g x)) m) d k = SMap.get m d k := by
  induction l generalizing m with
  | nil => rfl
  | cons x l ih =>
    rw [List.foldl_cons, ih _ (fun y hy => h y (List.mem_cons_of_mem _ hy)),
      SMap.get_put_other _ _ _ (Ne.symm (h x (List.mem_cons_self ..)))]

/-! ## Memories -/

theorem Mem.read_write_same (d : Byte) (m : Mem) (a : Nat) (b : Byte) : Mem.read d (Mem.write d m a b) a = b := by
  unfold Mem.read Mem.write
  split
  · simp [SMap.get, *]
  · simp

theorem Mem.read_write_other (d : Byte) (m : Mem) {a x : Nat} (b : Byte) (h : x ≠ a) :
    Mem.read d (Mem.write d m a b) x = Mem.read d m x := by
  unfold Mem.read Mem.write
  split
  · simp [SMap.get, SMap.get?_del_other m h]
  · simp [SMap.get_put_other m d b h]

theorem Mem.wf_write {d : Byte} {m : Mem} (a : Nat) (b : Byte) (h : Mem.wf d m = true) :
    Mem.wf d (Mem.write d m a b) = true := by
  unfold Mem.wf at h ⊢
  rw [Bool.and_eq_true, List.all_eq_true] at h ⊢
  unfold Mem.write
  split
  · refine ⟨SMap.sorted_del _ h.1, ?_⟩
    intro c hc
    exact h.2 c ((List.mem_filter.1 hc).1)
  · refine ⟨SMap.sorted_put _ _ h.1, ?_⟩
    intro c hc
    rcases SMap.mem_put hc with rfl | hc
    · simpa using ‹¬b = d›
    · exact h.2 c hc

theorem Mem.wf_writeN {d : Byte} (bs : List Byte) {m : Mem} (a : Nat) (h : Mem.wf d m = true) :
    Mem.wf d (Mem.writeN d m a bs) = true := by
  induction bs generalizing m a with
  | nil => exact h
  | cons b bs ih => exact ih _ (Mem.wf_write _ _ h)

theorem Mem.wf_filter {d : Byte} {m : Mem} (f : Host.Cell → Bool) (h : Mem.wf d m = true) :
    Mem.wf d (m.filter f) = true := by
  unfold Mem.wf at h ⊢
  rw [Bool.and_eq_true, List.all_eq_true] at h ⊢
  exact ⟨SMap.sorted_filter f h.1, fun c hc => h.2 c ((List.mem_filter.1 hc).1)⟩

/-- A byte outside the written span reads as before. -/
theorem Mem.read_writeN_other {d : Byte} (bs : List Byte) (m : Mem) (a : Nat) {x : Nat} (h : x < a ∨ a + bs.length ≤ x) :
    Mem.read d (Mem.writeN d m a bs) x = Mem.read d m x := by
  induction bs generalizing m a with
  | nil => rfl
  | cons b bs ih =>
    simp only [List.length_cons] at h
    rw [Mem.writeN, ih _ _ (by omega), Mem.read_write_other _ _ _ (by omega)]

theorem Mem.readN_length (d : Byte) (m : Mem) (a n : Nat) : (Mem.readN d m a n).length = n := by
  induction n generalizing a with
  | zero => rfl
  | succ n ih => simp [Mem.readN, ih]

theorem Mem.readN_congr {d : Byte} {m m' : Mem} (a n : Nat) (h : ∀ x, a ≤ x → x < a + n → Mem.read d m x = Mem.read d m' x) :
    Mem.readN d m a n = Mem.readN d m' a n := by
  induction n generalizing a with
  | zero => rfl
  | succ n ih =>
    rw [Mem.readN, Mem.readN, h a (Nat.le_refl _) (by omega), ih (a + 1) (fun x h1 h2 => h x (by omega) (by omega))]

/-- What was written is read back. -/
theorem Mem.readN_writeN {d : Byte} (bs : List Byte) (m : Mem) (a : Nat) :
    Mem.readN d (Mem.writeN d m a bs) a bs.length = bs := by
  induction bs generalizing m a with
  | nil => rfl
  | cons b bs ih =>
    rw [List.length_cons, Mem.readN, Mem.writeN, ih, Mem.read_writeN_other _ _ _ (by omega), Mem.read_write_same]

end Sys2Proof.Machine
end

