-- ==== Sys2Proof/Laws/Within.lean ====
section
/-! SUPPORT. Which places of the state an operation may change. A set of places is a mask, one bit a place in the order of
`Place`; `Within T s0 s` says that a state `s` reached from `s0` differs from it only in the places of `T`. The files
Within<X>.lean hold one lemma per operation of Machine/<X>.lean, each with the mask of the places it may change. -/

namespace Sys2Proof.Machine

/-- The mask has the place with index `i`. -/
def Has (T i : Nat) : Prop := T.testBit i = true

theorem has_of {m T i : Nat} (h : m ||| T = T) (hi : m.testBit i = true) : Has T i := by
  unfold Has
  rw [← h, Nat.testBit_or, hi, Bool.true_or]

theorem sub_of {m n T : Nat} (h : m ||| n = n) (h' : n ||| T = T) : m ||| T = T := by
  rw [← h', ← Nat.or_assoc, h]

/-- The mask lets the register at `a` change. -/
def Allowed (T a : Nat) : Prop := ∃ q : Place, Has T q.ctorIdx ∧ q.covers a

theorem allowed_of {T a : Nat} (q : Place) (h : Has T q.ctorIdx) (hc : q.covers a) : Allowed T a := ⟨q, h, hc⟩

theorem allowed_TBU_CFG {T : Nat} (h : Has T 48) : Allowed T (Reg.TBU_CFG) := ⟨.TBU_CFG, h, rfl⟩
theorem allowed_TBU_LIMITS {T : Nat} (h : Has T 49) : Allowed T (Reg.TBU_LIMITS) := ⟨.TBU_LIMITS, h, rfl⟩
theorem allowed_TBU_COMP {T : Nat} (h : Has T 50) : Allowed T (Reg.TBU_COMP) := ⟨.TBU_COMP, h, rfl⟩
theorem allowed_TBU_QUALITY {T : Nat} (h : Has T 51) : Allowed T (Reg.TBU_QUALITY) := ⟨.TBU_QUALITY, h, rfl⟩
theorem allowed_TBU_BOUND_NS {T : Nat} (h : Has T 52) : Allowed T (Reg.TBU_BOUND_NS) := ⟨.TBU_BOUND_NS, h, rfl⟩
theorem allowed_TBU_OFFSET_NS {T : Nat} (h : Has T 53) : Allowed T (Reg.TBU_OFFSET_NS) := ⟨.TBU_OFFSET_NS, h, rfl⟩
theorem allowed_TBU_FREQ_CORR {T : Nat} (h : Has T 54) : Allowed T (Reg.TBU_FREQ_CORR) := ⟨.TBU_FREQ_CORR, h, rfl⟩
theorem allowed_TBU_SNAP_CTRL {T : Nat} (h : Has T 55) : Allowed T (Reg.TBU_SNAP_CTRL) := ⟨.TBU_SNAP_CTRL, h, rfl⟩
theorem allowed_TBU_SNAP {T : Nat} (i : Nat) (h : Has T 56) : Allowed T (Reg.TBU_SNAP i) := ⟨.TBU_SNAP, h, i, rfl⟩
theorem allowed_TBU_FW_ELAPSED {T : Nat} (h : Has T 57) : Allowed T (Reg.TBU_FW_ELAPSED) := ⟨.TBU_FW_ELAPSED, h, rfl⟩
theorem allowed_TBU_UTC_OFFSET {T : Nat} (h : Has T 58) : Allowed T (Reg.TBU_UTC_OFFSET) := ⟨.TBU_UTC_OFFSET, h, rfl⟩
theorem allowed_TBU_LABEL_LO {T : Nat} (h : Has T 59) : Allowed T (Reg.TBU_LABEL_LO) := ⟨.TBU_LABEL_LO, h, rfl⟩
theorem allowed_TBU_LABEL_HI {T : Nat} (h : Has T 60) : Allowed T (Reg.TBU_LABEL_HI) := ⟨.TBU_LABEL_HI, h, rfl⟩
theorem allowed_TBU_SEED_LO {T : Nat} (h : Has T 61) : Allowed T (Reg.TBU_SEED_LO) := ⟨.TBU_SEED_LO, h, rfl⟩
theorem allowed_TBU_SEED_HI {T : Nat} (h : Has T 62) : Allowed T (Reg.TBU_SEED_HI) := ⟨.TBU_SEED_HI, h, rfl⟩
theorem allowed_TBU_LAST_STEP_LO {T : Nat} (h : Has T 63) : Allowed T (Reg.TBU_LAST_STEP_LO) := ⟨.TBU_LAST_STEP_LO, h, rfl⟩
theorem allowed_TBU_LAST_STEP_HI {T : Nat} (h : Has T 64) : Allowed T (Reg.TBU_LAST_STEP_HI) := ⟨.TBU_LAST_STEP_HI, h, rfl⟩
theorem allowed_TBU_EVENT {T : Nat} (h : Has T 65) : Allowed T (Reg.TBU_EVENT) := ⟨.TBU_EVENT, h, rfl⟩
theorem allowed_TBU_BOUND_EXCEED_COUNT {T : Nat} (h : Has T 66) : Allowed T (Reg.TBU_BOUND_EXCEED_COUNT) := ⟨.TBU_BOUND_EXCEED_COUNT, h, rfl⟩
theorem allowed_TBU_LABEL_IGNORED_COUNT {T : Nat} (h : Has T 67) : Allowed T (Reg.TBU_LABEL_IGNORED_COUNT) := ⟨.TBU_LABEL_IGNORED_COUNT, h, rfl⟩
theorem allowed_TBU_CTRL {T : Nat} (h : Has T 68) : Allowed T (Reg.TBU_CTRL) := ⟨.TBU_CTRL, h, rfl⟩
theorem allowed_TICK_CFG {T : Nat} (h : Has T 69) : Allowed T (Reg.TICK_CFG) := ⟨.TICK_CFG, h, rfl⟩
theorem allowed_TICK_EPOCHCFG {T : Nat} (h : Has T 70) : Allowed T (Reg.TICK_EPOCHCFG) := ⟨.TICK_EPOCHCFG, h, rfl⟩
theorem allowed_TICK_STATUS {T : Nat} (h : Has T 71) : Allowed T (Reg.TICK_STATUS) := ⟨.TICK_STATUS, h, rfl⟩
theorem allowed_TICK_SEQ_LO {T : Nat} (h : Has T 72) : Allowed T (Reg.TICK_SEQ_LO) := ⟨.TICK_SEQ_LO, h, rfl⟩
theorem allowed_TICK_SEQ_HI {T : Nat} (h : Has T 73) : Allowed T (Reg.TICK_SEQ_HI) := ⟨.TICK_SEQ_HI, h, rfl⟩
theorem allowed_TICK_INDEX_LO {T : Nat} (h : Has T 74) : Allowed T (Reg.TICK_INDEX_LO) := ⟨.TICK_INDEX_LO, h, rfl⟩
theorem allowed_TICK_INDEX_HI {T : Nat} (h : Has T 75) : Allowed T (Reg.TICK_INDEX_HI) := ⟨.TICK_INDEX_HI, h, rfl⟩
theorem allowed_TICK_EPOCH_LO {T : Nat} (h : Has T 76) : Allowed T (Reg.TICK_EPOCH_LO) := ⟨.TICK_EPOCH_LO, h, rfl⟩
theorem allowed_TICK_EPOCH_HI {T : Nat} (h : Has T 77) : Allowed T (Reg.TICK_EPOCH_HI) := ⟨.TICK_EPOCH_HI, h, rfl⟩
theorem allowed_TICK_STRETCH_NS {T : Nat} (h : Has T 78) : Allowed T (Reg.TICK_STRETCH_NS) := ⟨.TICK_STRETCH_NS, h, rfl⟩
theorem allowed_TICK_LATE_COUNT {T : Nat} (h : Has T 79) : Allowed T (Reg.TICK_LATE_COUNT) := ⟨.TICK_LATE_COUNT, h, rfl⟩
theorem allowed_TICK_OVERRUN_COUNT {T : Nat} (h : Has T 80) : Allowed T (Reg.TICK_OVERRUN_COUNT) := ⟨.TICK_OVERRUN_COUNT, h, rfl⟩
theorem allowed_TICK_SKIP_COUNT {T : Nat} (h : Has T 81) : Allowed T (Reg.TICK_SKIP_COUNT) := ⟨.TICK_SKIP_COUNT, h, rfl⟩
theorem allowed_TICK_SCHED_LATE_COUNT {T : Nat} (h : Has T 82) : Allowed T (Reg.TICK_SCHED_LATE_COUNT) := ⟨.TICK_SCHED_LATE_COUNT, h, rfl⟩
theorem allowed_TICK_SCHED_REJECT_COUNT {T : Nat} (h : Has T 83) : Allowed T (Reg.TICK_SCHED_REJECT_COUNT) := ⟨.TICK_SCHED_REJECT_COUNT, h, rfl⟩
theorem allowed_TICK_CTRL {T : Nat} (h : Has T 84) : Allowed T (Reg.TICK_CTRL) := ⟨.TICK_CTRL, h, rfl⟩
theorem allowed_TICK_EVENT {T : Nat} (h : Has T 85) : Allowed T (Reg.TICK_EVENT) := ⟨.TICK_EVENT, h, rfl⟩
theorem allowed_TICK_OVL_CTRL {T : Nat} (h : Has T 86) : Allowed T (Reg.TICK_OVL_CTRL) := ⟨.TICK_OVL_CTRL, h, rfl⟩
theorem allowed_TICK_OVL_COUNT {T : Nat} (h : Has T 87) : Allowed T (Reg.TICK_OVL_COUNT) := ⟨.TICK_OVL_COUNT, h, rfl⟩
theorem allowed_TICK_OVL_TARGET_LO {T : Nat} (h : Has T 88) : Allowed T (Reg.TICK_OVL_TARGET_LO) := ⟨.TICK_OVL_TARGET_LO, h, rfl⟩
theorem allowed_TICK_OVL_TARGET_HI {T : Nat} (h : Has T 89) : Allowed T (Reg.TICK_OVL_TARGET_HI) := ⟨.TICK_OVL_TARGET_HI, h, rfl⟩
theorem allowed_TICK_OVL_STATUS {T : Nat} (h : Has T 90) : Allowed T (Reg.TICK_OVL_STATUS) := ⟨.TICK_OVL_STATUS, h, rfl⟩
theorem allowed_TICK_EPOCH_REC_0 {T : Nat} (h : Has T 91) : Allowed T (Reg.TICK_EPOCH_REC_0) := ⟨.TICK_EPOCH_REC_0, h, rfl⟩
theorem allowed_TICK_EPOCH_REC_1 {T : Nat} (h : Has T 92) : Allowed T (Reg.TICK_EPOCH_REC_1) := ⟨.TICK_EPOCH_REC_1, h, rfl⟩
theorem allowed_TICK_EPOCH_REC_2 {T : Nat} (h : Has T 93) : Allowed T (Reg.TICK_EPOCH_REC_2) := ⟨.TICK_EPOCH_REC_2, h, rfl⟩
theorem allowed_TICK_EPOCH_REC_3 {T : Nat} (h : Has T 94) : Allowed T (Reg.TICK_EPOCH_REC_3) := ⟨.TICK_EPOCH_REC_3, h, rfl⟩
theorem allowed_TICK_OVL_WINDOW {T : Nat} (i : Nat) (h : Has T 95) : Allowed T (Reg.TICK_OVL_WINDOW i) := ⟨.TICK_OVL_WINDOW, h, i, rfl⟩
theorem allowed_SUP_STATUS {T : Nat} (h : Has T 96) : Allowed T (Reg.SUP_STATUS) := ⟨.SUP_STATUS, h, rfl⟩
theorem allowed_SUP_WDOG_CFG {T : Nat} (h : Has T 97) : Allowed T (Reg.SUP_WDOG_CFG) := ⟨.SUP_WDOG_CFG, h, rfl⟩
theorem allowed_SUP_WDOG_KICK {T : Nat} (h : Has T 98) : Allowed T (Reg.SUP_WDOG_KICK) := ⟨.SUP_WDOG_KICK, h, rfl⟩
theorem allowed_SUP_RESET_CAUSE {T : Nat} (h : Has T 99) : Allowed T (Reg.SUP_RESET_CAUSE) := ⟨.SUP_RESET_CAUSE, h, rfl⟩
theorem allowed_SUP_CHECK_STATUS {T : Nat} (h : Has T 100) : Allowed T (Reg.SUP_CHECK_STATUS) := ⟨.SUP_CHECK_STATUS, h, rfl⟩
theorem allowed_SUP_FW_VERSION {T : Nat} (h : Has T 101) : Allowed T (Reg.SUP_FW_VERSION) := ⟨.SUP_FW_VERSION, h, rfl⟩
theorem allowed_SUP_RESET_COUNT {T : Nat} (h : Has T 102) : Allowed T (Reg.SUP_RESET_COUNT) := ⟨.SUP_RESET_COUNT, h, rfl⟩
theorem allowed_SUP_MISMATCH_COUNT {T : Nat} (h : Has T 103) : Allowed T (Reg.SUP_MISMATCH_COUNT) := ⟨.SUP_MISMATCH_COUNT, h, rfl⟩
theorem allowed_SUP_KICK_BAD_COUNT {T : Nat} (h : Has T 104) : Allowed T (Reg.SUP_KICK_BAD_COUNT) := ⟨.SUP_KICK_BAD_COUNT, h, rfl⟩
theorem allowed_SUP_OVERLAY_HELD_COUNT {T : Nat} (h : Has T 105) : Allowed T (Reg.SUP_OVERLAY_HELD_COUNT) := ⟨.SUP_OVERLAY_HELD_COUNT, h, rfl⟩
theorem allowed_SUP_CTRL {T : Nat} (h : Has T 106) : Allowed T (Reg.SUP_CTRL) := ⟨.SUP_CTRL, h, rfl⟩
theorem allowed_FENCE_STATUS {T : Nat} (h : Has T 107) : Allowed T (Reg.FENCE_STATUS) := ⟨.FENCE_STATUS, h, rfl⟩
theorem allowed_FENCE_EVENT {T : Nat} (h : Has T 108) : Allowed T (Reg.FENCE_EVENT) := ⟨.FENCE_EVENT, h, rfl⟩
theorem allowed_FENCE_VLOG_0 {T : Nat} (h : Has T 109) : Allowed T (Reg.FENCE_VLOG_0) := ⟨.FENCE_VLOG_0, h, rfl⟩
theorem allowed_FENCE_VLOG_1 {T : Nat} (h : Has T 110) : Allowed T (Reg.FENCE_VLOG_1) := ⟨.FENCE_VLOG_1, h, rfl⟩
theorem allowed_FENCE_VLOG_CLR {T : Nat} (h : Has T 111) : Allowed T (Reg.FENCE_VLOG_CLR) := ⟨.FENCE_VLOG_CLR, h, rfl⟩
theorem allowed_FENCE_PART_ACTIVE {T : Nat} (h : Has T 112) : Allowed T (Reg.FENCE_PART_ACTIVE) := ⟨.FENCE_PART_ACTIVE, h, rfl⟩
theorem allowed_FENCE_EGRESS_FLOOR {T : Nat} (h : Has T 113) : Allowed T (Reg.FENCE_EGRESS_FLOOR) := ⟨.FENCE_EGRESS_FLOOR, h, rfl⟩
theorem allowed_FENCE_PART_INIT {T : Nat} (h : Has T 114) : Allowed T (Reg.FENCE_PART_INIT) := ⟨.FENCE_PART_INIT, h, rfl⟩
theorem allowed_FENCE_EGRESS_CEIL {T : Nat} (i : Nat) (h : Has T 115) : Allowed T (Reg.FENCE_EGRESS_CEIL i) := ⟨.FENCE_EGRESS_CEIL, h, i, rfl⟩
theorem allowed_FENCE_EGRESS_CAP {T : Nat} (i : Nat) (h : Has T 116) : Allowed T (Reg.FENCE_EGRESS_CAP i) := ⟨.FENCE_EGRESS_CAP, h, i, rfl⟩
theorem allowed_FENCE_EGRESS_USED_AETHIL {T : Nat} (i : Nat) (h : Has T 117) : Allowed T (Reg.FENCE_EGRESS_USED_AETHIL i) := ⟨.FENCE_EGRESS_USED_AETHIL, h, i, rfl⟩
theorem allowed_FENCE_EGRESS_USED_PCIE {T : Nat} (i : Nat) (h : Has T 118) : Allowed T (Reg.FENCE_EGRESS_USED_PCIE i) := ⟨.FENCE_EGRESS_USED_PCIE, h, i, rfl⟩
theorem allowed_FENCE_COUNT_PART {T : Nat} (h : Has T 119) : Allowed T (Reg.FENCE_COUNT_PART) := ⟨.FENCE_COUNT_PART, h, rfl⟩
theorem allowed_FENCE_COUNT_TIME {T : Nat} (h : Has T 120) : Allowed T (Reg.FENCE_COUNT_TIME) := ⟨.FENCE_COUNT_TIME, h, rfl⟩
theorem allowed_FENCE_COUNT_UCODE {T : Nat} (h : Has T 121) : Allowed T (Reg.FENCE_COUNT_UCODE) := ⟨.FENCE_COUNT_UCODE, h, rfl⟩
theorem allowed_FENCE_COUNT_WINDOW {T : Nat} (h : Has T 122) : Allowed T (Reg.FENCE_COUNT_WINDOW) := ⟨.FENCE_COUNT_WINDOW, h, rfl⟩
theorem allowed_FENCE_COUNT_LOCK {T : Nat} (h : Has T 123) : Allowed T (Reg.FENCE_COUNT_LOCK) := ⟨.FENCE_COUNT_LOCK, h, rfl⟩
theorem allowed_FENCE_COUNT_EGRESS {T : Nat} (h : Has T 124) : Allowed T (Reg.FENCE_COUNT_EGRESS) := ⟨.FENCE_COUNT_EGRESS, h, rfl⟩
theorem allowed_FENCE_CTRL {T : Nat} (h : Has T 125) : Allowed T (Reg.FENCE_CTRL) := ⟨.FENCE_CTRL, h, rfl⟩
theorem allowed_PART_KEY {T : Nat} (i : Nat) (h : Has T 126) : Allowed T (Reg.PART_KEY i) := ⟨.PART_KEY, h, i, rfl⟩
theorem allowed_PART_CFG {T : Nat} (h : Has T 127) : Allowed T (Reg.PART_CFG) := ⟨.PART_CFG, h, rfl⟩
theorem allowed_PART_STATUS {T : Nat} (h : Has T 128) : Allowed T (Reg.PART_STATUS) := ⟨.PART_STATUS, h, rfl⟩
theorem allowed_PART_EVENT {T : Nat} (h : Has T 129) : Allowed T (Reg.PART_EVENT) := ⟨.PART_EVENT, h, rfl⟩
theorem allowed_PART_REJECT_LOG_0 {T : Nat} (h : Has T 130) : Allowed T (Reg.PART_REJECT_LOG_0) := ⟨.PART_REJECT_LOG_0, h, rfl⟩
theorem allowed_PART_REJECT_LOG_1 {T : Nat} (h : Has T 131) : Allowed T (Reg.PART_REJECT_LOG_1) := ⟨.PART_REJECT_LOG_1, h, rfl⟩
theorem allowed_PART_LOG_CLR {T : Nat} (h : Has T 132) : Allowed T (Reg.PART_LOG_CLR) := ⟨.PART_LOG_CLR, h, rfl⟩
theorem allowed_PART_PORT_ALLOW {T : Nat} (i : Nat) (h : Has T 133) : Allowed T (Reg.PART_PORT_ALLOW i) := ⟨.PART_PORT_ALLOW, h, i, rfl⟩
theorem allowed_PART_REJECT_PORT_COUNT {T : Nat} (i : Nat) (h : Has T 134) : Allowed T (Reg.PART_REJECT_PORT_COUNT i) := ⟨.PART_REJECT_PORT_COUNT, h, i, rfl⟩
theorem allowed_PART_REJECT_HUB_COUNT {T : Nat} (h : Has T 135) : Allowed T (Reg.PART_REJECT_HUB_COUNT) := ⟨.PART_REJECT_HUB_COUNT, h, rfl⟩
theorem allowed_PART_REJECT_SYNC_COUNT {T : Nat} (h : Has T 136) : Allowed T (Reg.PART_REJECT_SYNC_COUNT) := ⟨.PART_REJECT_SYNC_COUNT, h, rfl⟩
theorem allowed_PART_NOTICE_TX_COUNT {T : Nat} (h : Has T 137) : Allowed T (Reg.PART_NOTICE_TX_COUNT) := ⟨.PART_NOTICE_TX_COUNT, h, rfl⟩
theorem allowed_PART_NOTICE_RX_COUNT {T : Nat} (h : Has T 138) : Allowed T (Reg.PART_NOTICE_RX_COUNT) := ⟨.PART_NOTICE_RX_COUNT, h, rfl⟩
theorem allowed_PART_CTRL {T : Nat} (h : Has T 139) : Allowed T (Reg.PART_CTRL) := ⟨.PART_CTRL, h, rfl⟩
theorem allowed_WQ_STATUS {T : Nat} (h : Has T 140) : Allowed T (Reg.WQ_STATUS) := ⟨.WQ_STATUS, h, rfl⟩
theorem allowed_WQ_EVENT {T : Nat} (h : Has T 141) : Allowed T (Reg.WQ_EVENT) := ⟨.WQ_EVENT, h, rfl⟩
theorem allowed_WQ_LATE_CPL_COUNT {T : Nat} (h : Has T 142) : Allowed T (Reg.WQ_LATE_CPL_COUNT) := ⟨.WQ_LATE_CPL_COUNT, h, rfl⟩
theorem allowed_WQ_DESC_INVALID_COUNT {T : Nat} (h : Has T 143) : Allowed T (Reg.WQ_DESC_INVALID_COUNT) := ⟨.WQ_DESC_INVALID_COUNT, h, rfl⟩
theorem allowed_WQ_NOT_ADMITTED_COUNT {T : Nat} (h : Has T 144) : Allowed T (Reg.WQ_NOT_ADMITTED_COUNT) := ⟨.WQ_NOT_ADMITTED_COUNT, h, rfl⟩
theorem allowed_WQ_ABORTED_COUNT {T : Nat} (h : Has T 145) : Allowed T (Reg.WQ_ABORTED_COUNT) := ⟨.WQ_ABORTED_COUNT, h, rfl⟩
theorem allowed_WQ_POISONED_COUNT {T : Nat} (h : Has T 146) : Allowed T (Reg.WQ_POISONED_COUNT) := ⟨.WQ_POISONED_COUNT, h, rfl⟩
theorem allowed_WQ_DB_REFUSED_COUNT {T : Nat} (h : Has T 147) : Allowed T (Reg.WQ_DB_REFUSED_COUNT) := ⟨.WQ_DB_REFUSED_COUNT, h, rfl⟩
theorem allowed_WQ_STANDING_UNREPORTED_COUNT {T : Nat} (h : Has T 148) : Allowed T (Reg.WQ_STANDING_UNREPORTED_COUNT) := ⟨.WQ_STANDING_UNREPORTED_COUNT, h, rfl⟩
theorem allowed_WQ_TAG_QUARANTINED {T : Nat} (h : Has T 149) : Allowed T (Reg.WQ_TAG_QUARANTINED) := ⟨.WQ_TAG_QUARANTINED, h, rfl⟩
theorem allowed_WQ_CTRL {T : Nat} (h : Has T 150) : Allowed T (Reg.WQ_CTRL) := ⟨.WQ_CTRL, h, rfl⟩
theorem allowed_WQ_Q_SQ_BASE_LO {T : Nat} (i : Nat) (h : Has T 151) : Allowed T (Reg.WQ_Q_SQ_BASE_LO i) := ⟨.WQ_Q_SQ_BASE_LO, h, i, rfl⟩
theorem allowed_WQ_Q_SQ_BASE_HI {T : Nat} (i : Nat) (h : Has T 152) : Allowed T (Reg.WQ_Q_SQ_BASE_HI i) := ⟨.WQ_Q_SQ_BASE_HI, h, i, rfl⟩
theorem allowed_WQ_Q_CQ_BASE_LO {T : Nat} (i : Nat) (h : Has T 153) : Allowed T (Reg.WQ_Q_CQ_BASE_LO i) := ⟨.WQ_Q_CQ_BASE_LO, h, i, rfl⟩
theorem allowed_WQ_Q_CQ_BASE_HI {T : Nat} (i : Nat) (h : Has T 154) : Allowed T (Reg.WQ_Q_CQ_BASE_HI i) := ⟨.WQ_Q_CQ_BASE_HI, h, i, rfl⟩
theorem allowed_WQ_Q_CFG {T : Nat} (i : Nat) (h : Has T 155) : Allowed T (Reg.WQ_Q_CFG i) := ⟨.WQ_Q_CFG, h, i, rfl⟩
theorem allowed_WQ_Q_CTRL {T : Nat} (i : Nat) (h : Has T 156) : Allowed T (Reg.WQ_Q_CTRL i) := ⟨.WQ_Q_CTRL, h, i, rfl⟩
theorem allowed_WQ_Q_STATUS {T : Nat} (i : Nat) (h : Has T 157) : Allowed T (Reg.WQ_Q_STATUS i) := ⟨.WQ_Q_STATUS, h, i, rfl⟩
theorem allowed_WQ_Q_INDEX {T : Nat} (i : Nat) (h : Has T 158) : Allowed T (Reg.WQ_Q_INDEX i) := ⟨.WQ_Q_INDEX, h, i, rfl⟩
theorem allowed_WQ_Q_CQ_HEAD {T : Nat} (i : Nat) (h : Has T 159) : Allowed T (Reg.WQ_Q_CQ_HEAD i) := ⟨.WQ_Q_CQ_HEAD, h, i, rfl⟩
theorem allowed_WQ_Q_CACHE_IDX_0 {T : Nat} (i : Nat) (h : Has T 160) : Allowed T (Reg.WQ_Q_CACHE_IDX_0 i) := ⟨.WQ_Q_CACHE_IDX_0, h, i, rfl⟩
theorem allowed_WQ_Q_CACHE_IDX_1 {T : Nat} (i : Nat) (h : Has T 161) : Allowed T (Reg.WQ_Q_CACHE_IDX_1 i) := ⟨.WQ_Q_CACHE_IDX_1, h, i, rfl⟩
theorem allowed_WQ_Q_CACHE_IDX_2 {T : Nat} (i : Nat) (h : Has T 162) : Allowed T (Reg.WQ_Q_CACHE_IDX_2 i) := ⟨.WQ_Q_CACHE_IDX_2, h, i, rfl⟩
theorem allowed_WQ_Q_CACHE_IDX_3 {T : Nat} (i : Nat) (h : Has T 163) : Allowed T (Reg.WQ_Q_CACHE_IDX_3 i) := ⟨.WQ_Q_CACHE_IDX_3, h, i, rfl⟩
theorem allowed_WQ_CACHE {T : Nat} (i : Nat) (h : Has T 164) : Allowed T (Reg.WQ_CACHE i) := ⟨.WQ_CACHE, h, i, rfl⟩
theorem allowed_WQ_DB_SQ_TAIL {T : Nat} (i : Nat) (h : Has T 165) : Allowed T (Reg.WQ_DB_SQ_TAIL i) := ⟨.WQ_DB_SQ_TAIL, h, i, rfl⟩
theorem allowed_WQ_DB_CQ_HEAD {T : Nat} (i : Nat) (h : Has T 166) : Allowed T (Reg.WQ_DB_CQ_HEAD i) := ⟨.WQ_DB_CQ_HEAD, h, i, rfl⟩
theorem allowed_WQ_DB_STATUS {T : Nat} (i : Nat) (h : Has T 167) : Allowed T (Reg.WQ_DB_STATUS i) := ⟨.WQ_DB_STATUS, h, i, rfl⟩
theorem allowed_SYNC_STATE {T : Nat} (i : Nat) (h : Has T 168) : Allowed T (Reg.SYNC_STATE i) := ⟨.SYNC_STATE, h, i, rfl⟩
theorem allowed_SYNC_DBG_OP {T : Nat} (h : Has T 169) : Allowed T (Reg.SYNC_DBG_OP) := ⟨.SYNC_DBG_OP, h, rfl⟩
theorem allowed_SYNC_STATUS {T : Nat} (h : Has T 170) : Allowed T (Reg.SYNC_STATUS) := ⟨.SYNC_STATUS, h, rfl⟩
theorem allowed_SYNC_EVENT {T : Nat} (h : Has T 171) : Allowed T (Reg.SYNC_EVENT) := ⟨.SYNC_EVENT, h, rfl⟩
theorem allowed_SYNC_FAULT_LOG {T : Nat} (h : Has T 172) : Allowed T (Reg.SYNC_FAULT_LOG) := ⟨.SYNC_FAULT_LOG, h, rfl⟩
theorem allowed_SYNC_LOG_CLR {T : Nat} (h : Has T 173) : Allowed T (Reg.SYNC_LOG_CLR) := ⟨.SYNC_LOG_CLR, h, rfl⟩
theorem allowed_SYNC_OVERFLOW_COUNT {T : Nat} (h : Has T 174) : Allowed T (Reg.SYNC_OVERFLOW_COUNT) := ⟨.SYNC_OVERFLOW_COUNT, h, rfl⟩
theorem allowed_SYNC_UNDERFLOW_COUNT {T : Nat} (h : Has T 175) : Allowed T (Reg.SYNC_UNDERFLOW_COUNT) := ⟨.SYNC_UNDERFLOW_COUNT, h, rfl⟩
theorem allowed_SYNC_DBG_COUNT {T : Nat} (h : Has T 176) : Allowed T (Reg.SYNC_DBG_COUNT) := ⟨.SYNC_DBG_COUNT, h, rfl⟩
theorem allowed_SYNC_SPIN_CORE_US {T : Nat} (h : Has T 177) : Allowed T (Reg.SYNC_SPIN_CORE_US) := ⟨.SYNC_SPIN_CORE_US, h, rfl⟩
theorem allowed_SYNC_SPIN_SPOKE_US {T : Nat} (h : Has T 178) : Allowed T (Reg.SYNC_SPIN_SPOKE_US) := ⟨.SYNC_SPIN_SPOKE_US, h, rfl⟩
theorem allowed_SYNC_CTRL {T : Nat} (h : Has T 179) : Allowed T (Reg.SYNC_CTRL) := ⟨.SYNC_CTRL, h, rfl⟩
theorem allowed_SYNC_AUDIT {T : Nat} (i : Nat) (h : Has T 180) : Allowed T (Reg.SYNC_AUDIT i) := ⟨.SYNC_AUDIT, h, i, rfl⟩
theorem allowed_HUB_COLL_EVENT {T : Nat} (h : Has T 181) : Allowed T (Reg.HUB_COLL_EVENT) := ⟨.HUB_COLL_EVENT, h, rfl⟩
theorem allowed_HUB_COLL_LOG_0 {T : Nat} (h : Has T 182) : Allowed T (Reg.HUB_COLL_LOG_0) := ⟨.HUB_COLL_LOG_0, h, rfl⟩
theorem allowed_HUB_COLL_LOG_1 {T : Nat} (h : Has T 183) : Allowed T (Reg.HUB_COLL_LOG_1) := ⟨.HUB_COLL_LOG_1, h, rfl⟩
theorem allowed_HUB_COLL_LOG_CLR {T : Nat} (h : Has T 184) : Allowed T (Reg.HUB_COLL_LOG_CLR) := ⟨.HUB_COLL_LOG_CLR, h, rfl⟩
theorem allowed_HUB_COLL_STATUS {T : Nat} (h : Has T 185) : Allowed T (Reg.HUB_COLL_STATUS) := ⟨.HUB_COLL_STATUS, h, rfl⟩
theorem allowed_HUB_MEMBER_MISSING_COUNT {T : Nat} (h : Has T 186) : Allowed T (Reg.HUB_MEMBER_MISSING_COUNT) := ⟨.HUB_MEMBER_MISSING_COUNT, h, rfl⟩
theorem allowed_HUB_SIG_MISMATCH_COUNT {T : Nat} (h : Has T 187) : Allowed T (Reg.HUB_SIG_MISMATCH_COUNT) := ⟨.HUB_SIG_MISMATCH_COUNT, h, rfl⟩
theorem allowed_HUB_LATE_CONTRIB_COUNT {T : Nat} (h : Has T 188) : Allowed T (Reg.HUB_LATE_CONTRIB_COUNT) := ⟨.HUB_LATE_CONTRIB_COUNT, h, rfl⟩
theorem allowed_HUB_WITHDRAW_TX_COUNT {T : Nat} (h : Has T 189) : Allowed T (Reg.HUB_WITHDRAW_TX_COUNT) := ⟨.HUB_WITHDRAW_TX_COUNT, h, rfl⟩
theorem allowed_HUB_WITHDRAW_RX_COUNT {T : Nat} (h : Has T 190) : Allowed T (Reg.HUB_WITHDRAW_RX_COUNT) := ⟨.HUB_WITHDRAW_RX_COUNT, h, rfl⟩
theorem allowed_HUB_COLL_CTRL {T : Nat} (h : Has T 191) : Allowed T (Reg.HUB_COLL_CTRL) := ⟨.HUB_COLL_CTRL, h, rfl⟩
theorem allowed_LNK_PORT_EN {T : Nat} (h : Has T 192) : Allowed T (Reg.LNK_PORT_EN) := ⟨.LNK_PORT_EN, h, rfl⟩
theorem allowed_LNK_EVENT {T : Nat} (h : Has T 193) : Allowed T (Reg.LNK_EVENT) := ⟨.LNK_EVENT, h, rfl⟩
theorem allowed_LNK_FAULT_LOG_0 {T : Nat} (h : Has T 194) : Allowed T (Reg.LNK_FAULT_LOG_0) := ⟨.LNK_FAULT_LOG_0, h, rfl⟩
theorem allowed_LNK_FAULT_LOG_1 {T : Nat} (h : Has T 195) : Allowed T (Reg.LNK_FAULT_LOG_1) := ⟨.LNK_FAULT_LOG_1, h, rfl⟩
theorem allowed_LNK_LOG_CLR {T : Nat} (h : Has T 196) : Allowed T (Reg.LNK_LOG_CLR) := ⟨.LNK_LOG_CLR, h, rfl⟩
theorem allowed_LNK_CONSEQ_COUNT {T : Nat} (h : Has T 197) : Allowed T (Reg.LNK_CONSEQ_COUNT) := ⟨.LNK_CONSEQ_COUNT, h, rfl⟩
theorem allowed_LNK_FAULT_OP_COUNT {T : Nat} (h : Has T 198) : Allowed T (Reg.LNK_FAULT_OP_COUNT) := ⟨.LNK_FAULT_OP_COUNT, h, rfl⟩
theorem allowed_LNK_NOTICE_TX_COUNT {T : Nat} (h : Has T 199) : Allowed T (Reg.LNK_NOTICE_TX_COUNT) := ⟨.LNK_NOTICE_TX_COUNT, h, rfl⟩
theorem allowed_LNK_NOTICE_RX_COUNT {T : Nat} (h : Has T 200) : Allowed T (Reg.LNK_NOTICE_RX_COUNT) := ⟨.LNK_NOTICE_RX_COUNT, h, rfl⟩
theorem allowed_LNK_BRIDGE_STATUS {T : Nat} (h : Has T 201) : Allowed T (Reg.LNK_BRIDGE_STATUS) := ⟨.LNK_BRIDGE_STATUS, h, rfl⟩
theorem allowed_LNK_DETOUR_CFG {T : Nat} (h : Has T 202) : Allowed T (Reg.LNK_DETOUR_CFG) := ⟨.LNK_DETOUR_CFG, h, rfl⟩
theorem allowed_LNK_BRIDGE_FAULT_COUNT {T : Nat} (h : Has T 203) : Allowed T (Reg.LNK_BRIDGE_FAULT_COUNT) := ⟨.LNK_BRIDGE_FAULT_COUNT, h, rfl⟩
theorem allowed_LNK_ISO_ITEM_COUNT {T : Nat} (h : Has T 204) : Allowed T (Reg.LNK_ISO_ITEM_COUNT) := ⟨.LNK_ISO_ITEM_COUNT, h, rfl⟩
theorem allowed_LNK_CTRL {T : Nat} (h : Has T 205) : Allowed T (Reg.LNK_CTRL) := ⟨.LNK_CTRL, h, rfl⟩
theorem allowed_LNK_PORT_STATUS {T : Nat} (i : Nat) (h : Has T 206) : Allowed T (Reg.LNK_PORT_STATUS i) := ⟨.LNK_PORT_STATUS, h, i, rfl⟩
theorem allowed_LNK_PORT_CTRL {T : Nat} (i : Nat) (h : Has T 207) : Allowed T (Reg.LNK_PORT_CTRL i) := ⟨.LNK_PORT_CTRL, h, i, rfl⟩
theorem allowed_LNK_CRC_ERR_COUNT {T : Nat} (i : Nat) (h : Has T 208) : Allowed T (Reg.LNK_CRC_ERR_COUNT i) := ⟨.LNK_CRC_ERR_COUNT, h, i, rfl⟩
theorem allowed_LNK_REPLAY_COUNT {T : Nat} (i : Nat) (h : Has T 209) : Allowed T (Reg.LNK_REPLAY_COUNT i) := ⟨.LNK_REPLAY_COUNT, h, i, rfl⟩
theorem allowed_LNK_EXHAUST_COUNT {T : Nat} (i : Nat) (h : Has T 210) : Allowed T (Reg.LNK_EXHAUST_COUNT i) := ⟨.LNK_EXHAUST_COUNT, h, i, rfl⟩
theorem allowed_LNK_FEC_CORR_COUNT {T : Nat} (i : Nat) (h : Has T 211) : Allowed T (Reg.LNK_FEC_CORR_COUNT i) := ⟨.LNK_FEC_CORR_COUNT, h, i, rfl⟩
theorem allowed_LNK_FEC_UNCORR_COUNT {T : Nat} (i : Nat) (h : Has T 212) : Allowed T (Reg.LNK_FEC_UNCORR_COUNT i) := ⟨.LNK_FEC_UNCORR_COUNT, h, i, rfl⟩
theorem allowed_LNK_TRAIN_FAIL_COUNT {T : Nat} (i : Nat) (h : Has T 213) : Allowed T (Reg.LNK_TRAIN_FAIL_COUNT i) := ⟨.LNK_TRAIN_FAIL_COUNT, h, i, rfl⟩
theorem allowed_FAB_STATUS {T : Nat} (h : Has T 214) : Allowed T (Reg.FAB_STATUS) := ⟨.FAB_STATUS, h, rfl⟩
theorem allowed_FAB_NODE_UP {T : Nat} (h : Has T 215) : Allowed T (Reg.FAB_NODE_UP) := ⟨.FAB_NODE_UP, h, rfl⟩
theorem allowed_FAB_EVENT {T : Nat} (h : Has T 216) : Allowed T (Reg.FAB_EVENT) := ⟨.FAB_EVENT, h, rfl⟩
theorem allowed_FAB_ROB_PEAK {T : Nat} (i : Nat) (h : Has T 217) : Allowed T (Reg.FAB_ROB_PEAK i) := ⟨.FAB_ROB_PEAK, h, i, rfl⟩
theorem allowed_FAB_TTL_DROP_COUNT {T : Nat} (h : Has T 218) : Allowed T (Reg.FAB_TTL_DROP_COUNT) := ⟨.FAB_TTL_DROP_COUNT, h, rfl⟩
theorem allowed_FAB_E2E_RESEND_COUNT {T : Nat} (h : Has T 219) : Allowed T (Reg.FAB_E2E_RESEND_COUNT) := ⟨.FAB_E2E_RESEND_COUNT, h, rfl⟩
theorem allowed_FAB_GAP_COUNT {T : Nat} (h : Has T 220) : Allowed T (Reg.FAB_GAP_COUNT) := ⟨.FAB_GAP_COUNT, h, rfl⟩
theorem allowed_FAB_ROB_DIRECT_COUNT {T : Nat} (h : Has T 221) : Allowed T (Reg.FAB_ROB_DIRECT_COUNT) := ⟨.FAB_ROB_DIRECT_COUNT, h, rfl⟩
theorem allowed_FAB_FENCE_DROP_COUNT {T : Nat} (h : Has T 222) : Allowed T (Reg.FAB_FENCE_DROP_COUNT) := ⟨.FAB_FENCE_DROP_COUNT, h, rfl⟩
theorem allowed_FAB_TREE_SWITCH_COUNT {T : Nat} (h : Has T 223) : Allowed T (Reg.FAB_TREE_SWITCH_COUNT) := ⟨.FAB_TREE_SWITCH_COUNT, h, rfl⟩
theorem allowed_FAB_UNREACH_COUNT {T : Nat} (h : Has T 224) : Allowed T (Reg.FAB_UNREACH_COUNT) := ⟨.FAB_UNREACH_COUNT, h, rfl⟩
theorem allowed_FAB_NODE_DOWN_COUNT {T : Nat} (h : Has T 225) : Allowed T (Reg.FAB_NODE_DOWN_COUNT) := ⟨.FAB_NODE_DOWN_COUNT, h, rfl⟩
theorem allowed_FAB_CTRL {T : Nat} (h : Has T 226) : Allowed T (Reg.FAB_CTRL) := ⟨.FAB_CTRL, h, rfl⟩
theorem allowed_TLY_CFG {T : Nat} (h : Has T 227) : Allowed T (Reg.TLY_CFG) := ⟨.TLY_CFG, h, rfl⟩
theorem allowed_TLY_UDP_PORTS {T : Nat} (h : Has T 228) : Allowed T (Reg.TLY_UDP_PORTS) := ⟨.TLY_UDP_PORTS, h, rfl⟩
theorem allowed_TLY_PORT_IP {T : Nat} (i : Nat) (h : Has T 229) : Allowed T (Reg.TLY_PORT_IP i) := ⟨.TLY_PORT_IP, h, i, rfl⟩
theorem allowed_TLY_STATUS {T : Nat} (h : Has T 230) : Allowed T (Reg.TLY_STATUS) := ⟨.TLY_STATUS, h, rfl⟩
theorem allowed_TLY_EVENT {T : Nat} (h : Has T 231) : Allowed T (Reg.TLY_EVENT) := ⟨.TLY_EVENT, h, rfl⟩
theorem allowed_TLY_AREA_BASE_LO {T : Nat} (i : Nat) (h : Has T 232) : Allowed T (Reg.TLY_AREA_BASE_LO i) := ⟨.TLY_AREA_BASE_LO, h, i, rfl⟩
theorem allowed_TLY_AREA_BASE_HI {T : Nat} (i : Nat) (h : Has T 233) : Allowed T (Reg.TLY_AREA_BASE_HI i) := ⟨.TLY_AREA_BASE_HI, h, i, rfl⟩
theorem allowed_TLY_AREA_CFG {T : Nat} (i : Nat) (h : Has T 234) : Allowed T (Reg.TLY_AREA_CFG i) := ⟨.TLY_AREA_CFG, h, i, rfl⟩
theorem allowed_TLY_FWD_BASE_LO {T : Nat} (i : Nat) (h : Has T 235) : Allowed T (Reg.TLY_FWD_BASE_LO i) := ⟨.TLY_FWD_BASE_LO, h, i, rfl⟩
theorem allowed_TLY_FWD_BASE_HI {T : Nat} (i : Nat) (h : Has T 236) : Allowed T (Reg.TLY_FWD_BASE_HI i) := ⟨.TLY_FWD_BASE_HI, h, i, rfl⟩
theorem allowed_TLY_FWD_CFG {T : Nat} (i : Nat) (h : Has T 237) : Allowed T (Reg.TLY_FWD_CFG i) := ⟨.TLY_FWD_CFG, h, i, rfl⟩
theorem allowed_TLY_FWD_TAIL {T : Nat} (i : Nat) (h : Has T 238) : Allowed T (Reg.TLY_FWD_TAIL i) := ⟨.TLY_FWD_TAIL, h, i, rfl⟩
theorem allowed_TLY_FWD_HEAD {T : Nat} (i : Nat) (h : Has T 239) : Allowed T (Reg.TLY_FWD_HEAD i) := ⟨.TLY_FWD_HEAD, h, i, rfl⟩
theorem allowed_TLY_RX_0_COUNT {T : Nat} (h : Has T 240) : Allowed T (Reg.TLY_RX_0_COUNT) := ⟨.TLY_RX_0_COUNT, h, rfl⟩
theorem allowed_TLY_RX_1_COUNT {T : Nat} (h : Has T 241) : Allowed T (Reg.TLY_RX_1_COUNT) := ⟨.TLY_RX_1_COUNT, h, rfl⟩
theorem allowed_TLY_NOT_MEAS_COUNT {T : Nat} (h : Has T 242) : Allowed T (Reg.TLY_NOT_MEAS_COUNT) := ⟨.TLY_NOT_MEAS_COUNT, h, rfl⟩
theorem allowed_TLY_MALFORMED_COUNT {T : Nat} (h : Has T 243) : Allowed T (Reg.TLY_MALFORMED_COUNT) := ⟨.TLY_MALFORMED_COUNT, h, rfl⟩
theorem allowed_TLY_CORRUPT_COUNT {T : Nat} (h : Has T 244) : Allowed T (Reg.TLY_CORRUPT_COUNT) := ⟨.TLY_CORRUPT_COUNT, h, rfl⟩
theorem allowed_TLY_CMD_DROP_COUNT {T : Nat} (h : Has T 245) : Allowed T (Reg.TLY_CMD_DROP_COUNT) := ⟨.TLY_CMD_DROP_COUNT, h, rfl⟩
theorem allowed_TLY_FWD_COUNT {T : Nat} (h : Has T 246) : Allowed T (Reg.TLY_FWD_COUNT) := ⟨.TLY_FWD_COUNT, h, rfl⟩
theorem allowed_TLY_FWD_DROP_COUNT {T : Nat} (h : Has T 247) : Allowed T (Reg.TLY_FWD_DROP_COUNT) := ⟨.TLY_FWD_DROP_COUNT, h, rfl⟩
theorem allowed_TLY_UNKNOWN_COUNT {T : Nat} (h : Has T 248) : Allowed T (Reg.TLY_UNKNOWN_COUNT) := ⟨.TLY_UNKNOWN_COUNT, h, rfl⟩
theorem allowed_TLY_INACTIVE_COUNT {T : Nat} (h : Has T 249) : Allowed T (Reg.TLY_INACTIVE_COUNT) := ⟨.TLY_INACTIVE_COUNT, h, rfl⟩
theorem allowed_TLY_INTERLEAVED_COUNT {T : Nat} (h : Has T 250) : Allowed T (Reg.TLY_INTERLEAVED_COUNT) := ⟨.TLY_INTERLEAVED_COUNT, h, rfl⟩
theorem allowed_TLY_ORPHAN_COUNT {T : Nat} (h : Has T 251) : Allowed T (Reg.TLY_ORPHAN_COUNT) := ⟨.TLY_ORPHAN_COUNT, h, rfl⟩
theorem allowed_TLY_TRUNCATED_COUNT {T : Nat} (h : Has T 252) : Allowed T (Reg.TLY_TRUNCATED_COUNT) := ⟨.TLY_TRUNCATED_COUNT, h, rfl⟩
theorem allowed_TLY_STALE_COUNT {T : Nat} (h : Has T 253) : Allowed T (Reg.TLY_STALE_COUNT) := ⟨.TLY_STALE_COUNT, h, rfl⟩
theorem allowed_TLY_EARLY_COUNT {T : Nat} (h : Has T 254) : Allowed T (Reg.TLY_EARLY_COUNT) := ⟨.TLY_EARLY_COUNT, h, rfl⟩
theorem allowed_TLY_REPEAT_COUNT {T : Nat} (h : Has T 255) : Allowed T (Reg.TLY_REPEAT_COUNT) := ⟨.TLY_REPEAT_COUNT, h, rfl⟩
theorem allowed_TLY_OLD_COUNT {T : Nat} (h : Has T 256) : Allowed T (Reg.TLY_OLD_COUNT) := ⟨.TLY_OLD_COUNT, h, rfl⟩
theorem allowed_TLY_GAP_COUNT {T : Nat} (h : Has T 257) : Allowed T (Reg.TLY_GAP_COUNT) := ⟨.TLY_GAP_COUNT, h, rfl⟩
theorem allowed_TLY_MISSED_COUNT {T : Nat} (h : Has T 258) : Allowed T (Reg.TLY_MISSED_COUNT) := ⟨.TLY_MISSED_COUNT, h, rfl⟩
theorem allowed_TLY_DROPPED_COUNT {T : Nat} (h : Has T 259) : Allowed T (Reg.TLY_DROPPED_COUNT) := ⟨.TLY_DROPPED_COUNT, h, rfl⟩
theorem allowed_TLY_CTRL {T : Nat} (h : Has T 260) : Allowed T (Reg.TLY_CTRL) := ⟨.TLY_CTRL, h, rfl⟩
theorem allowed_TLY_STREAM_W0 {T : Nat} (i : Nat) (h : Has T 261) : Allowed T (Reg.TLY_STREAM_W0 i) := ⟨.TLY_STREAM_W0, h, i, rfl⟩
theorem allowed_TLY_STREAM_W1 {T : Nat} (i : Nat) (h : Has T 262) : Allowed T (Reg.TLY_STREAM_W1 i) := ⟨.TLY_STREAM_W1, h, i, rfl⟩
theorem allowed_TLY_STREAM_W2 {T : Nat} (i : Nat) (h : Has T 263) : Allowed T (Reg.TLY_STREAM_W2 i) := ⟨.TLY_STREAM_W2, h, i, rfl⟩
theorem allowed_TLY_STREAM_W3 {T : Nat} (i : Nat) (h : Has T 264) : Allowed T (Reg.TLY_STREAM_W3 i) := ⟨.TLY_STREAM_W3, h, i, rfl⟩
theorem allowed_LDG_STATUS {T : Nat} (h : Has T 265) : Allowed T (Reg.LDG_STATUS) := ⟨.LDG_STATUS, h, rfl⟩
theorem allowed_LDG_EVENT {T : Nat} (h : Has T 266) : Allowed T (Reg.LDG_EVENT) := ⟨.LDG_EVENT, h, rfl⟩
theorem allowed_LDG_ADMIT {T : Nat} (h : Has T 267) : Allowed T (Reg.LDG_ADMIT) := ⟨.LDG_ADMIT, h, rfl⟩
theorem allowed_LDG_ADMIT_RESULT {T : Nat} (h : Has T 268) : Allowed T (Reg.LDG_ADMIT_RESULT) := ⟨.LDG_ADMIT_RESULT, h, rfl⟩
theorem allowed_LDG_REFUSE_LOG {T : Nat} (h : Has T 269) : Allowed T (Reg.LDG_REFUSE_LOG) := ⟨.LDG_REFUSE_LOG, h, rfl⟩
theorem allowed_LDG_ADMIT_COUNT {T : Nat} (h : Has T 270) : Allowed T (Reg.LDG_ADMIT_COUNT) := ⟨.LDG_ADMIT_COUNT, h, rfl⟩
theorem allowed_LDG_REFUSE_COUNT {T : Nat} (h : Has T 271) : Allowed T (Reg.LDG_REFUSE_COUNT) := ⟨.LDG_REFUSE_COUNT, h, rfl⟩
theorem allowed_LDG_CANCEL_COUNT {T : Nat} (h : Has T 272) : Allowed T (Reg.LDG_CANCEL_COUNT) := ⟨.LDG_CANCEL_COUNT, h, rfl⟩
theorem allowed_LDG_EXPIRE_COUNT {T : Nat} (h : Has T 273) : Allowed T (Reg.LDG_EXPIRE_COUNT) := ⟨.LDG_EXPIRE_COUNT, h, rfl⟩
theorem allowed_LDG_OUT_DROP_COUNT {T : Nat} (h : Has T 274) : Allowed T (Reg.LDG_OUT_DROP_COUNT) := ⟨.LDG_OUT_DROP_COUNT, h, rfl⟩
theorem allowed_LDG_STEP_FAIL_COUNT {T : Nat} (h : Has T 275) : Allowed T (Reg.LDG_STEP_FAIL_COUNT) := ⟨.LDG_STEP_FAIL_COUNT, h, rfl⟩
theorem allowed_LDG_UPDATE_LATE_COUNT {T : Nat} (h : Has T 276) : Allowed T (Reg.LDG_UPDATE_LATE_COUNT) := ⟨.LDG_UPDATE_LATE_COUNT, h, rfl⟩
theorem allowed_LDG_STALL_TICKS_COUNT {T : Nat} (h : Has T 277) : Allowed T (Reg.LDG_STALL_TICKS_COUNT) := ⟨.LDG_STALL_TICKS_COUNT, h, rfl⟩
theorem allowed_LDG_CTRL {T : Nat} (h : Has T 278) : Allowed T (Reg.LDG_CTRL) := ⟨.LDG_CTRL, h, rfl⟩
theorem allowed_LDG_ORDER_ADMIT {T : Nat} (h : Has T 279) : Allowed T (Reg.LDG_ORDER_ADMIT) := ⟨.LDG_ORDER_ADMIT, h, rfl⟩
theorem allowed_LDG_ORDER_RESULT {T : Nat} (h : Has T 280) : Allowed T (Reg.LDG_ORDER_RESULT) := ⟨.LDG_ORDER_RESULT, h, rfl⟩
theorem allowed_LDG_OUT_BASE_LO {T : Nat} (i : Nat) (h : Has T 281) : Allowed T (Reg.LDG_OUT_BASE_LO i) := ⟨.LDG_OUT_BASE_LO, h, i, rfl⟩
theorem allowed_LDG_OUT_BASE_HI {T : Nat} (i : Nat) (h : Has T 282) : Allowed T (Reg.LDG_OUT_BASE_HI i) := ⟨.LDG_OUT_BASE_HI, h, i, rfl⟩
theorem allowed_LDG_OUT_CFG {T : Nat} (i : Nat) (h : Has T 283) : Allowed T (Reg.LDG_OUT_CFG i) := ⟨.LDG_OUT_CFG, h, i, rfl⟩
theorem allowed_LDG_OUT_TAIL {T : Nat} (i : Nat) (h : Has T 284) : Allowed T (Reg.LDG_OUT_TAIL i) := ⟨.LDG_OUT_TAIL, h, i, rfl⟩
theorem allowed_LDG_OUT_HEAD {T : Nat} (i : Nat) (h : Has T 285) : Allowed T (Reg.LDG_OUT_HEAD i) := ⟨.LDG_OUT_HEAD, h, i, rfl⟩
theorem allowed_LDG_KV_FREE {T : Nat} (i : Nat) (h : Has T 286) : Allowed T (Reg.LDG_KV_FREE i) := ⟨.LDG_KV_FREE, h, i, rfl⟩
theorem allowed_LDG_SLOTS_LIVE {T : Nat} (i : Nat) (h : Has T 287) : Allowed T (Reg.LDG_SLOTS_LIVE i) := ⟨.LDG_SLOTS_LIVE, h, i, rfl⟩
theorem allowed_LDG_OUT_SLOT_BYTES {T : Nat} (i : Nat) (h : Has T 288) : Allowed T (Reg.LDG_OUT_SLOT_BYTES i) := ⟨.LDG_OUT_SLOT_BYTES, h, i, rfl⟩
theorem allowed_LDG_SLOT {T : Nat} (i : Nat) (h : Has T 289) : Allowed T (Reg.LDG_SLOT i) := ⟨.LDG_SLOT, h, i, rfl⟩
theorem allowed_MSK_EVENT {T : Nat} (h : Has T 290) : Allowed T (Reg.MSK_EVENT) := ⟨.MSK_EVENT, h, rfl⟩
theorem allowed_MSK_AUTO_CTRL {T : Nat} (h : Has T 291) : Allowed T (Reg.MSK_AUTO_CTRL) := ⟨.MSK_AUTO_CTRL, h, rfl⟩
theorem allowed_MSK_AUTO_STATUS {T : Nat} (h : Has T 292) : Allowed T (Reg.MSK_AUTO_STATUS) := ⟨.MSK_AUTO_STATUS, h, rfl⟩
theorem allowed_MSK_HOST_LATE_COUNT {T : Nat} (h : Has T 293) : Allowed T (Reg.MSK_HOST_LATE_COUNT) := ⟨.MSK_HOST_LATE_COUNT, h, rfl⟩
theorem allowed_MSK_HOST_REFUSE_COUNT {T : Nat} (h : Has T 294) : Allowed T (Reg.MSK_HOST_REFUSE_COUNT) := ⟨.MSK_HOST_REFUSE_COUNT, h, rfl⟩
theorem allowed_MSK_MASK_END_COUNT {T : Nat} (h : Has T 295) : Allowed T (Reg.MSK_MASK_END_COUNT) := ⟨.MSK_MASK_END_COUNT, h, rfl⟩
theorem allowed_MSK_SPEC_ROUNDS_COUNT {T : Nat} (h : Has T 296) : Allowed T (Reg.MSK_SPEC_ROUNDS_COUNT) := ⟨.MSK_SPEC_ROUNDS_COUNT, h, rfl⟩
theorem allowed_MSK_SPEC_ACCEPT_COUNT {T : Nat} (h : Has T 297) : Allowed T (Reg.MSK_SPEC_ACCEPT_COUNT) := ⟨.MSK_SPEC_ACCEPT_COUNT, h, rfl⟩
theorem allowed_MSK_ADAPTER_REFUSE_COUNT {T : Nat} (h : Has T 298) : Allowed T (Reg.MSK_ADAPTER_REFUSE_COUNT) := ⟨.MSK_ADAPTER_REFUSE_COUNT, h, rfl⟩
theorem allowed_MSK_SHIP_FAIL_COUNT {T : Nat} (h : Has T 299) : Allowed T (Reg.MSK_SHIP_FAIL_COUNT) := ⟨.MSK_SHIP_FAIL_COUNT, h, rfl⟩
theorem allowed_MSK_ORDER_REFUSE_COUNT {T : Nat} (h : Has T 300) : Allowed T (Reg.MSK_ORDER_REFUSE_COUNT) := ⟨.MSK_ORDER_REFUSE_COUNT, h, rfl⟩
theorem allowed_MSK_CTRL {T : Nat} (h : Has T 301) : Allowed T (Reg.MSK_CTRL) := ⟨.MSK_CTRL, h, rfl⟩
theorem allowed_MSK_SAMPLE_BASE_LO {T : Nat} (i : Nat) (h : Has T 302) : Allowed T (Reg.MSK_SAMPLE_BASE_LO i) := ⟨.MSK_SAMPLE_BASE_LO, h, i, rfl⟩
theorem allowed_MSK_SAMPLE_BASE_HI {T : Nat} (i : Nat) (h : Has T 303) : Allowed T (Reg.MSK_SAMPLE_BASE_HI i) := ⟨.MSK_SAMPLE_BASE_HI, h, i, rfl⟩
theorem allowed_MSK_RETURN_BASE_LO {T : Nat} (i : Nat) (h : Has T 304) : Allowed T (Reg.MSK_RETURN_BASE_LO i) := ⟨.MSK_RETURN_BASE_LO, h, i, rfl⟩
theorem allowed_MSK_RETURN_BASE_HI {T : Nat} (i : Nat) (h : Has T 305) : Allowed T (Reg.MSK_RETURN_BASE_HI i) := ⟨.MSK_RETURN_BASE_HI, h, i, rfl⟩
theorem allowed_MSK_AUTO_W0 {T : Nat} (i : Nat) (h : Has T 306) : Allowed T (Reg.MSK_AUTO_W0 i) := ⟨.MSK_AUTO_W0, h, i, rfl⟩
theorem allowed_MSK_AUTO_W1 {T : Nat} (i : Nat) (h : Has T 307) : Allowed T (Reg.MSK_AUTO_W1 i) := ⟨.MSK_AUTO_W1, h, i, rfl⟩
theorem allowed_MSK_AUTO_W2 {T : Nat} (i : Nat) (h : Has T 308) : Allowed T (Reg.MSK_AUTO_W2 i) := ⟨.MSK_AUTO_W2, h, i, rfl⟩
theorem allowed_MSK_AUTO_W3 {T : Nat} (i : Nat) (h : Has T 309) : Allowed T (Reg.MSK_AUTO_W3 i) := ⟨.MSK_AUTO_W3, h, i, rfl⟩
theorem allowed_MSK_AUTO_W4 {T : Nat} (i : Nat) (h : Has T 310) : Allowed T (Reg.MSK_AUTO_W4 i) := ⟨.MSK_AUTO_W4, h, i, rfl⟩
theorem allowed_MSK_AUTO_W5 {T : Nat} (i : Nat) (h : Has T 311) : Allowed T (Reg.MSK_AUTO_W5 i) := ⟨.MSK_AUTO_W5, h, i, rfl⟩
theorem allowed_MSK_AUTO_W6 {T : Nat} (i : Nat) (h : Has T 312) : Allowed T (Reg.MSK_AUTO_W6 i) := ⟨.MSK_AUTO_W6, h, i, rfl⟩
theorem allowed_MSK_AUTO_W7 {T : Nat} (i : Nat) (h : Has T 313) : Allowed T (Reg.MSK_AUTO_W7 i) := ⟨.MSK_AUTO_W7, h, i, rfl⟩
theorem allowed_MSK_ADAPTER_W0 {T : Nat} (i : Nat) (h : Has T 314) : Allowed T (Reg.MSK_ADAPTER_W0 i) := ⟨.MSK_ADAPTER_W0, h, i, rfl⟩
theorem allowed_MSK_ADAPTER_W1 {T : Nat} (i : Nat) (h : Has T 315) : Allowed T (Reg.MSK_ADAPTER_W1 i) := ⟨.MSK_ADAPTER_W1, h, i, rfl⟩
theorem allowed_MSK_ADAPTER_W2 {T : Nat} (i : Nat) (h : Has T 316) : Allowed T (Reg.MSK_ADAPTER_W2 i) := ⟨.MSK_ADAPTER_W2, h, i, rfl⟩
theorem allowed_MSK_ADAPTER_W3 {T : Nat} (i : Nat) (h : Has T 317) : Allowed T (Reg.MSK_ADAPTER_W3 i) := ⟨.MSK_ADAPTER_W3, h, i, rfl⟩
theorem allowed_MSK_SLOT_STATE {T : Nat} (i : Nat) (h : Has T 318) : Allowed T (Reg.MSK_SLOT_STATE i) := ⟨.MSK_SLOT_STATE, h, i, rfl⟩
theorem allowed_BKG_CFG {T : Nat} (h : Has T 319) : Allowed T (Reg.BKG_CFG) := ⟨.BKG_CFG, h, rfl⟩
theorem allowed_BKG_STATUS {T : Nat} (h : Has T 320) : Allowed T (Reg.BKG_STATUS) := ⟨.BKG_STATUS, h, rfl⟩
theorem allowed_BKG_EVENT {T : Nat} (h : Has T 321) : Allowed T (Reg.BKG_EVENT) := ⟨.BKG_EVENT, h, rfl⟩
theorem allowed_BKG_HBM_UE_LOG_LO {T : Nat} (h : Has T 322) : Allowed T (Reg.BKG_HBM_UE_LOG_LO) := ⟨.BKG_HBM_UE_LOG_LO, h, rfl⟩
theorem allowed_BKG_HBM_UE_LOG_HI {T : Nat} (h : Has T 323) : Allowed T (Reg.BKG_HBM_UE_LOG_HI) := ⟨.BKG_HBM_UE_LOG_HI, h, rfl⟩
theorem allowed_BKG_CSRAM_UE_LOG {T : Nat} (h : Has T 324) : Allowed T (Reg.BKG_CSRAM_UE_LOG) := ⟨.BKG_CSRAM_UE_LOG, h, rfl⟩
theorem allowed_BKG_LOG_CLR {T : Nat} (h : Has T 325) : Allowed T (Reg.BKG_LOG_CLR) := ⟨.BKG_LOG_CLR, h, rfl⟩
theorem allowed_BKG_HBM_CE_COUNT {T : Nat} (h : Has T 326) : Allowed T (Reg.BKG_HBM_CE_COUNT) := ⟨.BKG_HBM_CE_COUNT, h, rfl⟩
theorem allowed_BKG_HBM_UE_COUNT {T : Nat} (h : Has T 327) : Allowed T (Reg.BKG_HBM_UE_COUNT) := ⟨.BKG_HBM_UE_COUNT, h, rfl⟩
theorem allowed_BKG_CSRAM_CE_COUNT {T : Nat} (h : Has T 328) : Allowed T (Reg.BKG_CSRAM_CE_COUNT) := ⟨.BKG_CSRAM_CE_COUNT, h, rfl⟩
theorem allowed_BKG_CSRAM_UE_COUNT {T : Nat} (h : Has T 329) : Allowed T (Reg.BKG_CSRAM_UE_COUNT) := ⟨.BKG_CSRAM_UE_COUNT, h, rfl⟩
theorem allowed_BKG_TABLE_CE_COUNT {T : Nat} (h : Has T 330) : Allowed T (Reg.BKG_TABLE_CE_COUNT) := ⟨.BKG_TABLE_CE_COUNT, h, rfl⟩
theorem allowed_BKG_TABLE_UE_COUNT {T : Nat} (h : Has T 331) : Allowed T (Reg.BKG_TABLE_UE_COUNT) := ⟨.BKG_TABLE_UE_COUNT, h, rfl⟩
theorem allowed_BKG_RECAL_DONE_COUNT {T : Nat} (h : Has T 332) : Allowed T (Reg.BKG_RECAL_DONE_COUNT) := ⟨.BKG_RECAL_DONE_COUNT, h, rfl⟩
theorem allowed_BKG_RECAL_FAIL_COUNT {T : Nat} (h : Has T 333) : Allowed T (Reg.BKG_RECAL_FAIL_COUNT) := ⟨.BKG_RECAL_FAIL_COUNT, h, rfl⟩
theorem allowed_BKG_RECAL_SKIP_COUNT {T : Nat} (h : Has T 334) : Allowed T (Reg.BKG_RECAL_SKIP_COUNT) := ⟨.BKG_RECAL_SKIP_COUNT, h, rfl⟩
theorem allowed_BKG_LOG_DROP_COUNT {T : Nat} (h : Has T 335) : Allowed T (Reg.BKG_LOG_DROP_COUNT) := ⟨.BKG_LOG_DROP_COUNT, h, rfl⟩
theorem allowed_BKG_TELEM_OVF_COUNT {T : Nat} (h : Has T 336) : Allowed T (Reg.BKG_TELEM_OVF_COUNT) := ⟨.BKG_TELEM_OVF_COUNT, h, rfl⟩
theorem allowed_BKG_SECTOR_RETIRED_COUNT {T : Nat} (h : Has T 337) : Allowed T (Reg.BKG_SECTOR_RETIRED_COUNT) := ⟨.BKG_SECTOR_RETIRED_COUNT, h, rfl⟩
theorem allowed_BKG_PASS_HBM {T : Nat} (h : Has T 338) : Allowed T (Reg.BKG_PASS_HBM) := ⟨.BKG_PASS_HBM, h, rfl⟩
theorem allowed_BKG_PASS_CSRAM {T : Nat} (h : Has T 339) : Allowed T (Reg.BKG_PASS_CSRAM) := ⟨.BKG_PASS_CSRAM, h, rfl⟩
theorem allowed_BKG_PASS_HSRAM {T : Nat} (h : Has T 340) : Allowed T (Reg.BKG_PASS_HSRAM) := ⟨.BKG_PASS_HSRAM, h, rfl⟩
theorem allowed_BKG_PASS_CS {T : Nat} (h : Has T 341) : Allowed T (Reg.BKG_PASS_CS) := ⟨.BKG_PASS_CS, h, rfl⟩
theorem allowed_BKG_PASS_TABLE {T : Nat} (h : Has T 342) : Allowed T (Reg.BKG_PASS_TABLE) := ⟨.BKG_PASS_TABLE, h, rfl⟩
theorem allowed_BKG_LOG_WPTR {T : Nat} (h : Has T 343) : Allowed T (Reg.BKG_LOG_WPTR) := ⟨.BKG_LOG_WPTR, h, rfl⟩
theorem allowed_BKG_LOG_USABLE {T : Nat} (h : Has T 344) : Allowed T (Reg.BKG_LOG_USABLE) := ⟨.BKG_LOG_USABLE, h, rfl⟩
theorem allowed_BKG_TELEM_IDX {T : Nat} (h : Has T 345) : Allowed T (Reg.BKG_TELEM_IDX) := ⟨.BKG_TELEM_IDX, h, rfl⟩
theorem allowed_BKG_CTRL {T : Nat} (h : Has T 346) : Allowed T (Reg.BKG_CTRL) := ⟨.BKG_CTRL, h, rfl⟩
theorem allowed_BKG_TIMER_COMPARE {T : Nat} (i : Nat) (h : Has T 347) : Allowed T (Reg.BKG_TIMER_COMPARE i) := ⟨.BKG_TIMER_COMPARE, h, i, rfl⟩
theorem allowed_BKG_TIMER_COUNT {T : Nat} (i : Nat) (h : Has T 348) : Allowed T (Reg.BKG_TIMER_COUNT i) := ⟨.BKG_TIMER_COUNT, h, i, rfl⟩
theorem allowed_BKG_TIMER_RUN {T : Nat} (i : Nat) (h : Has T 349) : Allowed T (Reg.BKG_TIMER_RUN i) := ⟨.BKG_TIMER_RUN, h, i, rfl⟩
theorem allowed_HST_IDENT {T : Nat} (h : Has T 350) : Allowed T (Reg.HST_IDENT) := ⟨.HST_IDENT, h, rfl⟩
theorem allowed_HST_PCIE_STATUS {T : Nat} (h : Has T 351) : Allowed T (Reg.HST_PCIE_STATUS) := ⟨.HST_PCIE_STATUS, h, rfl⟩
theorem allowed_HST_EVENT {T : Nat} (h : Has T 352) : Allowed T (Reg.HST_EVENT) := ⟨.HST_EVENT, h, rfl⟩
theorem allowed_HST_ALERT_STATUS {T : Nat} (h : Has T 353) : Allowed T (Reg.HST_ALERT_STATUS) := ⟨.HST_ALERT_STATUS, h, rfl⟩
theorem allowed_HST_BAD_ACCESS_COUNT {T : Nat} (h : Has T 354) : Allowed T (Reg.HST_BAD_ACCESS_COUNT) := ⟨.HST_BAD_ACCESS_COUNT, h, rfl⟩
theorem allowed_HST_IDE_FAIL_COUNT {T : Nat} (h : Has T 355) : Allowed T (Reg.HST_IDE_FAIL_COUNT) := ⟨.HST_IDE_FAIL_COUNT, h, rfl⟩
theorem allowed_HST_PLDM_EVENT_DROP_COUNT {T : Nat} (h : Has T 356) : Allowed T (Reg.HST_PLDM_EVENT_DROP_COUNT) := ⟨.HST_PLDM_EVENT_DROP_COUNT, h, rfl⟩
theorem allowed_HST_UPDATE_STATUS {T : Nat} (h : Has T 357) : Allowed T (Reg.HST_UPDATE_STATUS) := ⟨.HST_UPDATE_STATUS, h, rfl⟩
theorem allowed_HST_MCTP_EID {T : Nat} (h : Has T 358) : Allowed T (Reg.HST_MCTP_EID) := ⟨.HST_MCTP_EID, h, rfl⟩
theorem allowed_HST_CTRL {T : Nat} (h : Has T 359) : Allowed T (Reg.HST_CTRL) := ⟨.HST_CTRL, h, rfl⟩
theorem allowed_HST_LOG_ADDR {T : Nat} (h : Has T 360) : Allowed T (Reg.HST_LOG_ADDR) := ⟨.HST_LOG_ADDR, h, rfl⟩
theorem allowed_HST_LOG_STATUS {T : Nat} (h : Has T 361) : Allowed T (Reg.HST_LOG_STATUS) := ⟨.HST_LOG_STATUS, h, rfl⟩
theorem allowed_HST_STRAP {T : Nat} (h : Has T 362) : Allowed T (Reg.HST_STRAP) := ⟨.HST_STRAP, h, rfl⟩
theorem allowed_HST_BOOT_STATUS {T : Nat} (h : Has T 363) : Allowed T (Reg.HST_BOOT_STATUS) := ⟨.HST_BOOT_STATUS, h, rfl⟩
theorem allowed_HST_BOOT_CTRL {T : Nat} (h : Has T 364) : Allowed T (Reg.HST_BOOT_CTRL) := ⟨.HST_BOOT_CTRL, h, rfl⟩
theorem allowed_HST_BOOT_FAIL {T : Nat} (h : Has T 365) : Allowed T (Reg.HST_BOOT_FAIL) := ⟨.HST_BOOT_FAIL, h, rfl⟩
theorem allowed_HST_IMAGE_SEQ {T : Nat} (h : Has T 366) : Allowed T (Reg.HST_IMAGE_SEQ) := ⟨.HST_IMAGE_SEQ, h, rfl⟩
theorem allowed_HST_BOOT_ELAPSED {T : Nat} (h : Has T 367) : Allowed T (Reg.HST_BOOT_ELAPSED) := ⟨.HST_BOOT_ELAPSED, h, rfl⟩
theorem allowed_HST_DOORBELL_EARLY_COUNT {T : Nat} (h : Has T 368) : Allowed T (Reg.HST_DOORBELL_EARLY_COUNT) := ⟨.HST_DOORBELL_EARLY_COUNT, h, rfl⟩
theorem allowed_HST_BOOT_INGEST_DROP {T : Nat} (h : Has T 369) : Allowed T (Reg.HST_BOOT_INGEST_DROP) := ⟨.HST_BOOT_INGEST_DROP, h, rfl⟩
theorem allowed_HST_BOOT_HWFAIL {T : Nat} (h : Has T 370) : Allowed T (Reg.HST_BOOT_HWFAIL) := ⟨.HST_BOOT_HWFAIL, h, rfl⟩
theorem allowed_HST_SVN {T : Nat} (h : Has T 371) : Allowed T (Reg.HST_SVN) := ⟨.HST_SVN, h, rfl⟩
theorem allowed_HST_IMAGE_DIGEST {T : Nat} (i : Nat) (h : Has T 372) : Allowed T (Reg.HST_IMAGE_DIGEST i) := ⟨.HST_IMAGE_DIGEST, h, i, rfl⟩
theorem allowed_HST_LOG_DATA {T : Nat} (i : Nat) (h : Has T 373) : Allowed T (Reg.HST_LOG_DATA i) := ⟨.HST_LOG_DATA, h, i, rfl⟩
theorem allowed_PWR_LIMIT {T : Nat} (h : Has T 374) : Allowed T (Reg.PWR_LIMIT) := ⟨.PWR_LIMIT, h, rfl⟩
theorem allowed_PWR_STATUS {T : Nat} (h : Has T 375) : Allowed T (Reg.PWR_STATUS) := ⟨.PWR_STATUS, h, rfl⟩
theorem allowed_PWR_EVENT {T : Nat} (h : Has T 376) : Allowed T (Reg.PWR_EVENT) := ⟨.PWR_EVENT, h, rfl⟩
theorem allowed_PWR_THERM_CFG {T : Nat} (h : Has T 377) : Allowed T (Reg.PWR_THERM_CFG) := ⟨.PWR_THERM_CFG, h, rfl⟩
theorem allowed_PWR_TICK_MEAN_W {T : Nat} (h : Has T 378) : Allowed T (Reg.PWR_TICK_MEAN_W) := ⟨.PWR_TICK_MEAN_W, h, rfl⟩
theorem allowed_PWR_TICK_ENERGY_UJ {T : Nat} (h : Has T 379) : Allowed T (Reg.PWR_TICK_ENERGY_UJ) := ⟨.PWR_TICK_ENERGY_UJ, h, rfl⟩
theorem allowed_PWR_PEAK_W {T : Nat} (h : Has T 380) : Allowed T (Reg.PWR_PEAK_W) := ⟨.PWR_PEAK_W, h, rfl⟩
theorem allowed_PWR_RESET_CAUSE {T : Nat} (h : Has T 381) : Allowed T (Reg.PWR_RESET_CAUSE) := ⟨.PWR_RESET_CAUSE, h, rfl⟩
theorem allowed_PWR_TEMP_CDIE {T : Nat} (i : Nat) (h : Has T 382) : Allowed T (Reg.PWR_TEMP_CDIE i) := ⟨.PWR_TEMP_CDIE, h, i, rfl⟩
theorem allowed_PWR_TEMP_IDIE {T : Nat} (i : Nat) (h : Has T 383) : Allowed T (Reg.PWR_TEMP_IDIE i) := ⟨.PWR_TEMP_IDIE, h, i, rfl⟩
theorem allowed_PWR_TEMP_HBM {T : Nat} (i : Nat) (h : Has T 384) : Allowed T (Reg.PWR_TEMP_HBM i) := ⟨.PWR_TEMP_HBM, h, i, rfl⟩
theorem allowed_PWR_LIMIT_TICK_COUNT {T : Nat} (h : Has T 385) : Allowed T (Reg.PWR_LIMIT_TICK_COUNT) := ⟨.PWR_LIMIT_TICK_COUNT, h, rfl⟩
theorem allowed_PWR_THERM_WARN_COUNT {T : Nat} (h : Has T 386) : Allowed T (Reg.PWR_THERM_WARN_COUNT) := ⟨.PWR_THERM_WARN_COUNT, h, rfl⟩
theorem allowed_PWR_THERM_CRIT_COUNT {T : Nat} (h : Has T 387) : Allowed T (Reg.PWR_THERM_CRIT_COUNT) := ⟨.PWR_THERM_CRIT_COUNT, h, rfl⟩
theorem allowed_PWR_CTRL {T : Nat} (h : Has T 388) : Allowed T (Reg.PWR_CTRL) := ⟨.PWR_CTRL, h, rfl⟩
theorem allowed_HUB_SEGCFG {T : Nat} (i : Nat) (h : Has T 389) : Allowed T (Reg.HUB_SEGCFG i) := ⟨.HUB_SEGCFG, h, i, rfl⟩
theorem allowed_HUB_EVENT {T : Nat} (i : Nat) (h : Has T 390) : Allowed T (Reg.HUB_EVENT i) := ⟨.HUB_EVENT, h, i, rfl⟩
theorem allowed_HUB_SRAM_CE_COUNT {T : Nat} (i : Nat) (h : Has T 391) : Allowed T (Reg.HUB_SRAM_CE_COUNT i) := ⟨.HUB_SRAM_CE_COUNT, h, i, rfl⟩
theorem allowed_HUB_SRAM_UE_COUNT {T : Nat} (i : Nat) (h : Has T 392) : Allowed T (Reg.HUB_SRAM_UE_COUNT i) := ⟨.HUB_SRAM_UE_COUNT, h, i, rfl⟩
theorem allowed_HUB_CREDIT_VIOL_COUNT {T : Nat} (i : Nat) (h : Has T 393) : Allowed T (Reg.HUB_CREDIT_VIOL_COUNT i) := ⟨.HUB_CREDIT_VIOL_COUNT, h, i, rfl⟩
theorem allowed_HUB_HELD_PEAK {T : Nat} (i : Nat) (h : Has T 394) : Allowed T (Reg.HUB_HELD_PEAK i) := ⟨.HUB_HELD_PEAK, h, i, rfl⟩
theorem allowed_HUB_CTRL {T : Nat} (i : Nat) (h : Has T 395) : Allowed T (Reg.HUB_CTRL i) := ⟨.HUB_CTRL, h, i, rfl⟩
theorem allowed_HUB_STRM_CFG {T : Nat} (i j : Nat) (h : Has T 396) : Allowed T (Reg.HUB_STRM_CFG i j) := ⟨.HUB_STRM_CFG, h, i, j, rfl⟩
theorem allowed_HUB_STRM_BASE {T : Nat} (i j : Nat) (h : Has T 397) : Allowed T (Reg.HUB_STRM_BASE i j) := ⟨.HUB_STRM_BASE, h, i, j, rfl⟩
theorem allowed_HUB_STRM_SIZE {T : Nat} (i j : Nat) (h : Has T 398) : Allowed T (Reg.HUB_STRM_SIZE i j) := ⟨.HUB_STRM_SIZE, h, i, j, rfl⟩
theorem allowed_HUB_STRM_STAT {T : Nat} (i j : Nat) (h : Has T 399) : Allowed T (Reg.HUB_STRM_STAT i j) := ⟨.HUB_STRM_STAT, h, i, j, rfl⟩
theorem allowed_SPK_STATE {T : Nat} (i j : Nat) (h : Has T 400) : Allowed T (Reg.SPK_STATE i j) := ⟨.SPK_STATE, h, i, j, rfl⟩
theorem allowed_SPK_CONT {T : Nat} (i j : Nat) (h : Has T 401) : Allowed T (Reg.SPK_CONT i j) := ⟨.SPK_CONT, h, i, j, rfl⟩
theorem allowed_SPK_RESTART_COUNT {T : Nat} (i j : Nat) (h : Has T 402) : Allowed T (Reg.SPK_RESTART_COUNT i j) := ⟨.SPK_RESTART_COUNT, h, i, j, rfl⟩
theorem allowed_SPK_LAST_CAUSE {T : Nat} (i j : Nat) (h : Has T 403) : Allowed T (Reg.SPK_LAST_CAUSE i j) := ⟨.SPK_LAST_CAUSE, h, i, j, rfl⟩
theorem allowed_SPK_LS_MISS_COUNT {T : Nat} (i j : Nat) (h : Has T 404) : Allowed T (Reg.SPK_LS_MISS_COUNT i j) := ⟨.SPK_LS_MISS_COUNT, h, i, j, rfl⟩
theorem allowed_SPK_EVENT {T : Nat} (i : Nat) (h : Has T 405) : Allowed T (Reg.SPK_EVENT i) := ⟨.SPK_EVENT, h, i, rfl⟩
theorem allowed_SPK_UCODE_ID {T : Nat} (i : Nat) (h : Has T 406) : Allowed T (Reg.SPK_UCODE_ID i) := ⟨.SPK_UCODE_ID, h, i, rfl⟩
theorem allowed_SPK_ILLEGAL_LOG {T : Nat} (i : Nat) (h : Has T 407) : Allowed T (Reg.SPK_ILLEGAL_LOG i) := ⟨.SPK_ILLEGAL_LOG, h, i, rfl⟩
theorem allowed_SPK_LOG_CLR {T : Nat} (i : Nat) (h : Has T 408) : Allowed T (Reg.SPK_LOG_CLR i) := ⟨.SPK_LOG_CLR, h, i, rfl⟩
theorem allowed_SPK_CS_CE_COUNT {T : Nat} (i : Nat) (h : Has T 409) : Allowed T (Reg.SPK_CS_CE_COUNT i) := ⟨.SPK_CS_CE_COUNT, h, i, rfl⟩
theorem allowed_SPK_CS_UE_COUNT {T : Nat} (i : Nat) (h : Has T 410) : Allowed T (Reg.SPK_CS_UE_COUNT i) := ⟨.SPK_CS_UE_COUNT, h, i, rfl⟩
theorem allowed_SPK_RELOAD_COUNT {T : Nat} (i : Nat) (h : Has T 411) : Allowed T (Reg.SPK_RELOAD_COUNT i) := ⟨.SPK_RELOAD_COUNT, h, i, rfl⟩
theorem allowed_SPK_ILLEGAL_COUNT {T : Nat} (i : Nat) (h : Has T 412) : Allowed T (Reg.SPK_ILLEGAL_COUNT i) := ⟨.SPK_ILLEGAL_COUNT, h, i, rfl⟩
theorem allowed_SPK_CS_BAD {T : Nat} (i j : Nat) (h : Has T 413) : Allowed T (Reg.SPK_CS_BAD i j) := ⟨.SPK_CS_BAD, h, i, j, rfl⟩
theorem allowed_SPK_CTRL {T : Nat} (i : Nat) (h : Has T 414) : Allowed T (Reg.SPK_CTRL i) := ⟨.SPK_CTRL, h, i, rfl⟩
theorem allowed_SPK_CS_WINDOW {T : Nat} (i j : Nat) (h : Has T 415) : Allowed T (Reg.SPK_CS_WINDOW i j) := ⟨.SPK_CS_WINDOW, h, i, j, rfl⟩
theorem allowed_anyRegister {T : Nat} (a : Nat) (h : Has T 416) : Allowed T a := ⟨.anyRegister, h, trivial⟩

/-- `s` differs from `s0` only in the places of the mask. -/
structure Within (T : Nat) (s0 s : State) : Prop where
  build : Has T 0 ∨ s.build = s0.build
  straps : Has T 1 ∨ s.straps = s0.straps
  boot : Has T 2 ∨ s.boot = s0.boot
  fuses : Has T 3 ∨ s.fuses = s0.fuses
  clock : Has T 4 ∨ s.clock = s0.clock
  tbu : Has T 5 ∨ s.tbu = s0.tbu
  latches : Has T 6 ∨ s.latches = s0.latches
  sched : Has T 7 ∨ s.sched = s0.sched
  queues : Has T 8 ∨ s.queues = s0.queues
  tags : Has T 9 ∨ s.tags = s0.tags
  nextSlot : Has T 10 ∨ s.nextSlot = s0.nextSlot
  readWait : Has T 11 ∨ s.readWait = s0.readWait
  sup : Has T 12 ∨ s.sup = s0.sup
  fence : Has T 13 ∨ s.fence = s0.fence
  heldWrites : Has T 14 ∨ s.heldWrites = s0.heldWrites
  heldPackets : Has T 15 ∨ s.heldPackets = s0.heldPackets
  part : Has T 16 ∨ s.part = s0.part
  sync : Has T 17 ∨ s.sync = s0.sync
  ports : Has T 18 ∨ s.ports = s0.ports
  bridge : Has T 19 ∨ s.bridge = s0.bridge
  fab : Has T 20 ∨ s.fab = s0.fab
  faults : Has T 21 ∨ s.faults = s0.faults
  hubs : Has T 22 ∨ s.hubs = s0.hubs
  tally : Has T 23 ∨ s.tally = s0.tally
  ledger : Has T 24 ∨ s.ledger = s0.ledger
  bkg : Has T 25 ∨ s.bkg = s0.bkg
  host : Has T 26 ∨ s.host = s0.host
  power : Has T 27 ∨ s.power = s0.power
  logBuf : Has T 28 ∨ s.logBuf = s0.logBuf
  logSeq : Has T 29 ∨ s.logSeq = s0.logSeq
  pldmQ : Has T 30 ∨ s.pldmQ = s0.pldmQ
  pldmReceiver : Has T 31 ∨ s.pldmReceiver = s0.pldmReceiver
  msixUnmasked : Has T 32 ∨ s.msixUnmasked = s0.msixUnmasked
  msixPending : Has T 33 ∨ s.msixPending = s0.msixPending
  msixTable : Has T 34 ∨ s.msixTable = s0.msixTable
  out : Has T 35 ∨ s.out = s0.out
  free : Has T 36 ∨ s.free = s0.free
  pending : Has T 37 ∨ s.pending = s0.pending
  moduleMemory : Has T 38 ∨ s.mems.mem = s0.mems.mem
  hostMemory : Has T 39 ∨ s.mems.host = s0.mems.host
  coreSram : Has T 40 ∨ s.mems.csram = s0.mems.csram
  hubSram : Has T 41 ∨ s.mems.hsram = s0.mems.hsram
  flashMemory : Has T 42 ∨ s.mems.flash = s0.mems.flash
  supData : Has T 43 ∨ s.mems.supData = s0.mems.supData
  supCode : Has T 44 ∨ s.mems.supCode = s0.mems.supCode
  poisonMem : Has T 45 ∨ s.mems.poisonMem = s0.mems.poisonMem
  poisonCsram : Has T 46 ∨ s.mems.poisonCsram = s0.mems.poisonCsram
  poisonHsram : Has T 47 ∨ s.mems.poisonHsram = s0.mems.poisonHsram
  regs : ∀ a, Allowed T a ∨ SMap.get? s.regs a = SMap.get? s0.regs a

/-- An outcome whose next state, if it has one, differs only in the places of the mask. -/
def WithinOut (T : Nat) (s0 : State) (o : Host.Outcome State Fault Refusal) : Prop :=
  match o with
  | .next s => Within T s0 s
  | .fault _ => True
  | .refused _ => True

section
variable {T : Nat} {s0 s : State}

theorem Within.start : Within T s s :=
  ⟨.inr rfl, .inr rfl, .inr rfl, .inr rfl, .inr rfl, .inr rfl, .inr rfl, .inr rfl, .inr rfl, .inr rfl, .inr rfl, .inr rfl, .inr rfl, .inr rfl, .inr rfl, .inr rfl, .inr rfl, .inr rfl, .inr rfl, .inr rfl, .inr rfl, .inr rfl, .inr rfl, .inr rfl, .inr rfl, .inr rfl, .inr rfl, .inr rfl, .inr rfl, .inr rfl, .inr rfl, .inr rfl, .inr rfl, .inr rfl, .inr rfl, .inr rfl, .inr rfl, .inr rfl, .inr rfl, .inr rfl, .inr rfl, .inr rfl, .inr rfl, .inr rfl, .inr rfl, .inr rfl, .inr rfl, .inr rfl, fun _ => .inr rfl⟩

theorem or_same {α : Type} {a b c : α} {h : Prop} (x : h ∨ a = b) (y : h ∨ b = c) : h ∨ a = c :=
  x.elim .inl (fun x => y.elim .inl (fun y => .inr (x.trans y)))

theorem Within.trans {s' : State} (h : Within T s0 s) (h' : Within T s s') : Within T s0 s' :=
  ⟨or_same h'.build h.build, or_same h'.straps h.straps, or_same h'.boot h.boot, or_same h'.fuses h.fuses, or_same h'.clock h.clock, or_same h'.tbu h.tbu, or_same h'.latches h.latches, or_same h'.sched h.sched, or_same h'.queues h.queues, or_same h'.tags h.tags, or_same h'.nextSlot h.nextSlot, or_same h'.readWait h.readWait, or_same h'.sup h.sup, or_same h'.fence h.fence, or_same h'.heldWrites h.heldWrites, or_same h'.heldPackets h.heldPackets, or_same h'.part h.part, or_same h'.sync h.sync, or_same h'.ports h.ports, or_same h'.bridge h.bridge, or_same h'.fab h.fab, or_same h'.faults h.faults, or_same h'.hubs h.hubs, or_same h'.tally h.tally, or_same h'.ledger h.ledger, or_same h'.bkg h.bkg, or_same h'.host h.host, or_same h'.power h.power, or_same h'.logBuf h.logBuf, or_same h'.logSeq h.logSeq, or_same h'.pldmQ h.pldmQ, or_same h'.pldmReceiver h.pldmReceiver, or_same h'.msixUnmasked h.msixUnmasked, or_same h'.msixPending h.msixPending, or_same h'.msixTable h.msixTable, or_same h'.out h.out, or_same h'.free h.free, or_same h'.pending h.pending, or_same h'.moduleMemory h.moduleMemory, or_same h'.hostMemory h.hostMemory, or_same h'.coreSram h.coreSram, or_same h'.hubSram h.hubSram, or_same h'.flashMemory h.flashMemory, or_same h'.supData h.supData, or_same h'.supCode h.supCode, or_same h'.poisonMem h.poisonMem, or_same h'.poisonCsram h.poisonCsram, or_same h'.poisonHsram h.poisonHsram, fun a => or_same (h'.regs a) (h.regs a)⟩

theorem WithinOut.next (h : Within T s0 s) : WithinOut T s0 (.next s) := h

theorem WithinOut.fault (r : Fault) : WithinOut T s0 (.fault r) := trivial

/-- A record update outside the registers. -/
theorem Within.upd_iff {build straps boot fuses mems clock tbu latches sched queues tags nextSlot readWait sup fence heldWrites heldPackets part sync ports bridge fab faults hubs tally ledger bkg host power logBuf logSeq pldmQ pldmReceiver msixUnmasked msixPending msixTable out free}
    (hbuild : Has T 0 ∨ build = s.build)
    (hstraps : Has T 1 ∨ straps = s.straps)
    (hboot : Has T 2 ∨ boot = s.boot)
    (hfuses : Has T 3 ∨ fuses = s.fuses)
    (hclock : Has T 4 ∨ clock = s.clock)
    (htbu : Has T 5 ∨ tbu = s.tbu)
    (hlatches : Has T 6 ∨ latches = s.latches)
    (hsched : Has T 7 ∨ sched = s.sched)
    (hqueues : Has T 8 ∨ queues = s.queues)
    (htags : Has T 9 ∨ tags = s.tags)
    (hnextSlot : Has T 10 ∨ nextSlot = s.nextSlot)
    (hreadWait : Has T 11 ∨ readWait = s.readWait)
    (hsup : Has T 12 ∨ sup = s.sup)
    (hfence : Has T 13 ∨ fence = s.fence)
    (hheldWrites : Has T 14 ∨ heldWrites = s.heldWrites)
    (hheldPackets : Has T 15 ∨ heldPackets = s.heldPackets)
    (hpart : Has T 16 ∨ part = s.part)
    (hsync : Has T 17 ∨ sync = s.sync)
    (hports : Has T 18 ∨ ports = s.ports)
    (hbridge : Has T 19 ∨ bridge = s.bridge)
    (hfab : Has T 20 ∨ fab = s.fab)
    (hfaults : Has T 21 ∨ faults = s.faults)
    (hhubs : Has T 22 ∨ hubs = s.hubs)
    (htally : Has T 23 ∨ tally = s.tally)
    (hledger : Has T 24 ∨ ledger = s.ledger)
    (hbkg : Has T 25 ∨ bkg = s.bkg)
    (hhost : Has T 26 ∨ host = s.host)
    (hpower : Has T 27 ∨ power = s.power)
    (hlogBuf : Has T 28 ∨ logBuf = s.logBuf)
    (hlogSeq : Has T 29 ∨ logSeq = s.logSeq)
    (hpldmQ : Has T 30 ∨ pldmQ = s.pldmQ)
    (hpldmReceiver : Has T 31 ∨ pldmReceiver = s.pldmReceiver)
    (hmsixUnmasked : Has T 32 ∨ msixUnmasked = s.msixUnmasked)
    (hmsixPending : Has T 33 ∨ msixPending = s.msixPending)
    (hmsixTable : Has T 34 ∨ msixTable = s.msixTable)
    (hout : Has T 35 ∨ out = s.out)
    (hfree : Has T 36 ∨ free = s.free)
    (hmoduleMemory : Has T 38 ∨ mems.mem = s.mems.mem)
    (hhostMemory : Has T 39 ∨ mems.host = s.mems.host)
    (hcoreSram : Has T 40 ∨ mems.csram = s.mems.csram)
    (hhubSram : Has T 41 ∨ mems.hsram = s.mems.hsram)
    (hflashMemory : Has T 42 ∨ mems.flash = s.mems.flash)
    (hsupData : Has T 43 ∨ mems.supData = s.mems.supData)
    (hsupCode : Has T 44 ∨ mems.supCode = s.mems.supCode)
    (hpoisonMem : Has T 45 ∨ mems.poisonMem = s.mems.poisonMem)
    (hpoisonCsram : Has T 46 ∨ mems.poisonCsram = s.mems.poisonCsram)
    (hpoisonHsram : Has T 47 ∨ mems.poisonHsram = s.mems.poisonHsram)
    : Within T s0 (State.mk build straps boot fuses mems clock tbu s.regs latches sched queues tags nextSlot readWait sup fence heldWrites heldPackets part sync ports bridge fab faults hubs tally ledger bkg host power logBuf logSeq pldmQ pldmReceiver msixUnmasked msixPending msixTable out free s.pending) ↔ Within T s0 s :=
  ⟨fun h => ⟨or_same (hbuild.imp_right Eq.symm) h.build, or_same (hstraps.imp_right Eq.symm) h.straps, or_same (hboot.imp_right Eq.symm) h.boot, or_same (hfuses.imp_right Eq.symm) h.fuses, or_same (hclock.imp_right Eq.symm) h.clock, or_same (htbu.imp_right Eq.symm) h.tbu, or_same (hlatches.imp_right Eq.symm) h.latches, or_same (hsched.imp_right Eq.symm) h.sched, or_same (hqueues.imp_right Eq.symm) h.queues, or_same (htags.imp_right Eq.symm) h.tags, or_same (hnextSlot.imp_right Eq.symm) h.nextSlot, or_same (hreadWait.imp_right Eq.symm) h.readWait, or_same (hsup.imp_right Eq.symm) h.sup, or_same (hfence.imp_right Eq.symm) h.fence, or_same (hheldWrites.imp_right Eq.symm) h.heldWrites, or_same (hheldPackets.imp_right Eq.symm) h.heldPackets, or_same (hpart.imp_right Eq.symm) h.part, or_same (hsync.imp_right Eq.symm) h.sync, or_same (hports.imp_right Eq.symm) h.ports, or_same (hbridge.imp_right Eq.symm) h.bridge, or_same (hfab.imp_right Eq.symm) h.fab, or_same (hfaults.imp_right Eq.symm) h.faults, or_same (hhubs.imp_right Eq.symm) h.hubs, or_same (htally.imp_right Eq.symm) h.tally, or_same (hledger.imp_right Eq.symm) h.ledger, or_same (hbkg.imp_right Eq.symm) h.bkg, or_same (hhost.imp_right Eq.symm) h.host, or_same (hpower.imp_right Eq.symm) h.power, or_same (hlogBuf.imp_right Eq.symm) h.logBuf, or_same (hlogSeq.imp_right Eq.symm) h.logSeq, or_same (hpldmQ.imp_right Eq.symm) h.pldmQ, or_same (hpldmReceiver.imp_right Eq.symm) h.pldmReceiver, or_same (hmsixUnmasked.imp_right Eq.symm) h.msixUnmasked, or_same (hmsixPending.imp_right Eq.symm) h.msixPending, or_same (hmsixTable.imp_right Eq.symm) h.msixTable, or_same (hout.imp_right Eq.symm) h.out, or_same (hfree.imp_right Eq.symm) h.free, h.pending, or_same (hmoduleMemory.imp_right Eq.symm) h.moduleMemory, or_same (hhostMemory.imp_right Eq.symm) h.hostMemory, or_same (hcoreSram.imp_right Eq.symm) h.coreSram, or_same (hhubSram.imp_right Eq.symm) h.hubSram, or_same (hflashMemory.imp_right Eq.symm) h.flashMemory, or_same (hsupData.imp_right Eq.symm) h.supData, or_same (hsupCode.imp_right Eq.symm) h.supCode, or_same (hpoisonMem.imp_right Eq.symm) h.poisonMem, or_same (hpoisonCsram.imp_right Eq.symm) h.poisonCsram, or_same (hpoisonHsram.imp_right Eq.symm) h.poisonHsram, h.regs⟩,
   fun h => ⟨or_same hbuild h.build, or_same hstraps h.straps, or_same hboot h.boot, or_same hfuses h.fuses, or_same hclock h.clock, or_same htbu h.tbu, or_same hlatches h.latches, or_same hsched h.sched, or_same hqueues h.queues, or_same htags h.tags, or_same hnextSlot h.nextSlot, or_same hreadWait h.readWait, or_same hsup h.sup, or_same hfence h.fence, or_same hheldWrites h.heldWrites, or_same hheldPackets h.heldPackets, or_same hpart h.part, or_same hsync h.sync, or_same hports h.ports, or_same hbridge h.bridge, or_same hfab h.fab, or_same hfaults h.faults, or_same hhubs h.hubs, or_same htally h.tally, or_same hledger h.ledger, or_same hbkg h.bkg, or_same hhost h.host, or_same hpower h.power, or_same hlogBuf h.logBuf, or_same hlogSeq h.logSeq, or_same hpldmQ h.pldmQ, or_same hpldmReceiver h.pldmReceiver, or_same hmsixUnmasked h.msixUnmasked, or_same hmsixPending h.msixPending, or_same hmsixTable h.msixTable, or_same hout h.out, or_same hfree h.free, h.pending, or_same hmoduleMemory h.moduleMemory, or_same hhostMemory h.hostMemory, or_same hcoreSram h.coreSram, or_same hhubSram h.hubSram, or_same hflashMemory h.flashMemory, or_same hsupData h.supData, or_same hsupCode h.supCode, or_same hpoisonMem h.poisonMem, or_same hpoisonCsram h.poisonCsram, or_same hpoisonHsram h.poisonHsram, h.regs⟩⟩

/-- An update of the registers alone. -/
theorem Within.updRegs (h : Within T s0 s) {r : SMap Word}
    (hr : ∀ a, Allowed T a ∨ SMap.get? r a = SMap.get? s.regs a) : Within T s0 { s with regs := r } :=
  ⟨h.build, h.straps, h.boot, h.fuses, h.clock, h.tbu, h.latches, h.sched, h.queues, h.tags, h.nextSlot, h.readWait, h.sup, h.fence, h.heldWrites, h.heldPackets, h.part, h.sync, h.ports, h.bridge, h.fab, h.faults, h.hubs, h.tally, h.ledger, h.bkg, h.host, h.power, h.logBuf, h.logSeq, h.pldmQ, h.pldmReceiver, h.msixUnmasked, h.msixPending, h.msixTable, h.out, h.free, h.pending, h.moduleMemory, h.hostMemory, h.coreSram, h.hubSram, h.flashMemory, h.supData, h.supCode, h.poisonMem, h.poisonCsram, h.poisonHsram, fun a => or_same (hr a) (h.regs a)⟩

/-- A register put into the register map of an update. -/
theorem Within.updPut {build straps boot fuses mems clock tbu regs latches sched queues tags nextSlot readWait sup fence heldWrites heldPackets part sync ports bridge fab faults hubs tally ledger bkg host power logBuf logSeq pldmQ pldmReceiver msixUnmasked msixPending msixTable out free pending}
    {k : Nat} {v : Word}
    (h : Within T s0 (State.mk build straps boot fuses mems clock tbu regs latches sched queues tags nextSlot readWait sup fence heldWrites heldPackets part sync ports bridge fab faults hubs tally ledger bkg host power logBuf logSeq pldmQ pldmReceiver msixUnmasked msixPending msixTable out free pending))
    (hr : Allowed T k) :
    Within T s0 (State.mk build straps boot fuses mems clock tbu (SMap.put regs k v) latches sched queues tags nextSlot readWait sup fence heldWrites heldPackets part sync ports bridge fab faults hubs tally ledger bkg host power logBuf logSeq pldmQ pldmReceiver msixUnmasked msixPending msixTable out free pending) :=
  h.updRegs (fun a => by
    by_cases e : a = k
    · exact .inl (e ▸ hr)
    · exact .inr (SMap.get?_put_other regs v e))

theorem Within.ite {c : Prop} [Decidable c] {s' : State} (h : Within T s0 s) (h' : Within T s0 s') :
    Within T s0 (if c then s else s') := by
  split
  · exact h
  · exact h'

theorem WithinOut.ite {c : Prop} [Decidable c] {o o' : Host.Outcome State Fault Refusal} (h : WithinOut T s0 o)
    (h' : WithinOut T s0 o') : WithinOut T s0 (if c then o else o') := by
  split
  · exact h
  · exact h'

theorem foldl_within {β : Type} {f : State → β → State} (hf : ∀ s x, Within T s0 s → Within T s0 (f s x))
    (h : Within T s0 s) (l : List β) : Within T s0 (l.foldl f s) := by
  induction l generalizing s with
  | nil => exact h
  | cons x xs ih => exact ih (hf s x h)

theorem foldl_mem_within {β : Type} {f : State → β → State} (l : List β)
    (hf : ∀ s, ∀ x ∈ l, Within T s0 s → Within T s0 (f s x)) (h : Within T s0 s) : Within T s0 (l.foldl f s) := by
  induction l generalizing s with
  | nil => exact h
  | cons x xs ih => exact ih (fun s y hy => hf s y (by simp [hy])) (hf s x (by simp) h)

/-- A fold over a list that carries a state and something beside it. -/
theorem foldl_fst_within {β γ : Type} {f : State × γ → β → State × γ}
    (hf : ∀ a x, Within T s0 a.1 → Within T s0 (f a x).1) {a : State × γ} (h : Within T s0 a.1) (l : List β) :
    Within T s0 (l.foldl f a).1 := by
  induction l generalizing a with
  | nil => exact h
  | cons x xs ih => exact ih (hf a x h)

theorem foldl_snd_within {β γ : Type} {f : γ × State → β → γ × State}
    (hf : ∀ a x, Within T s0 a.2 → Within T s0 (f a x).2) {a : γ × State} (h : Within T s0 a.2) (l : List β) :
    Within T s0 (l.foldl f a).2 := by
  induction l generalizing a with
  | nil => exact h
  | cons x xs ih => exact ih (hf a x h)

theorem wr_within (h : Within T s0 s) (off : Nat) (v : Word) (hr : Allowed T off) : Within T s0 (wr s off v) :=
  h.updRegs (fun a => by
    by_cases e : a = off
    · exact .inl (e ▸ hr)
    · exact .inr (SMap.get?_put_other s.regs v e))

theorem get?_foldl_zero (l : List Nat) (m : SMap Word) (a : Nat) (ha : a ∉ l) :
    SMap.get? (l.foldl (fun r o => SMap.put r o 0#32) m) a = SMap.get? m a := by
  induction l generalizing m with
  | nil => rfl
  | cons x xs ih =>
    simp only [List.mem_cons, not_or] at ha
    rw [List.foldl_cons, ih _ ha.2, SMap.get?_put_other _ _ ha.1]

theorem Allowed.nil {T : Nat} : ∀ o ∈ ([] : List Nat), Allowed T o := fun _ h => (List.not_mem_nil h).elim

theorem Allowed.cons {T a : Nat} {l : List Nat} (h : Allowed T a) (hl : ∀ o ∈ l, Allowed T o) :
    ∀ o ∈ a :: l, Allowed T o := by
  intro o ho
  rcases List.mem_cons.1 ho with rfl | ho
  · exact h
  · exact hl o ho

theorem Allowed.append {T : Nat} {l l' : List Nat} (h : ∀ o ∈ l, Allowed T o) (h' : ∀ o ∈ l', Allowed T o) :
    ∀ o ∈ l ++ l', Allowed T o := by
  intro o ho
  exact (List.mem_append.1 ho).elim (h o) (h' o)

theorem Allowed.flatMap {T : Nat} {l : List Nat} {f : Nat → List Nat} (h : ∀ i, ∀ o ∈ f i, Allowed T o) :
    ∀ o ∈ l.flatMap f, Allowed T o := by
  intro o ho
  obtain ⟨i, _, hi⟩ := List.mem_flatMap.1 ho
  exact h i o hi

theorem allowed_eq {T : Nat} {l l' : List Nat} (e : l' = l) (h : ∀ o ∈ l, Allowed T o) : ∀ o ∈ l', Allowed T o := e ▸ h

theorem zeroRegs_within (h : Within T s0 s) (offs : List Nat) (hr : ∀ o ∈ offs, Allowed T o) :
    Within T s0 (zeroRegs s offs) :=
  h.updRegs (fun a => by
    by_cases e : a ∈ offs
    · exact .inl (hr a e)
    · exact .inr (get?_foldl_zero offs s.regs a e))

end

end Sys2Proof.Machine
end

