-- ==== Sys2Proof/Laws/WithinOps.lean ====
section
/-! SUPPORT. The places that the operations of Machine/Ops.lean may change (Laws/Within.lean). -/

namespace Sys2Proof.Machine

variable {T : Nat} {s0 s : State}

theorem bumpN_within (h : Within T s0 s) (off : Nat) (n : Nat) (hr : Allowed T off) : Within T s0
    (bumpN s off n) := by
  unfold bumpN
  try dsimp only
  repeat' (
    first
      | with_reducible exact h | with_reducible rfl | (with_reducible refine sub_of ?_ hT; decide)
      | with_reducible assumption | with_reducible apply wr_within | with_reducible apply wr_within
      | (with_reducible apply foldl_within; intro _ _ h) | with_reducible apply Within.ite | split)

theorem bump_within (h : Within T s0 s) (off : Nat) (hr : Allowed T off) : Within T s0 (bump s off) := by
  unfold bump
  try dsimp only
  repeat' (
    first
      | with_reducible exact h | with_reducible rfl | (with_reducible refine sub_of ?_ hT; decide)
      | with_reducible assumption | with_reducible apply bumpN_within
      | (with_reducible apply foldl_within; intro _ _ h) | with_reducible apply Within.ite | split)

theorem emit_within (h : Within T s0 s) (o : Output) (hT : 0x800000000 ||| T = T) : Within T s0 (emit s o) := by
  unfold emit
  try dsimp only
  repeat' (
    first
      | with_reducible exact h | with_reducible rfl | (with_reducible refine sub_of ?_ hT; decide)
      | with_reducible assumption | (with_reducible apply foldl_within; intro _ _ h)
      | simp only [Within.upd_iff, (has_of hT (by decide) : Has T 35), or_true, true_or, eq_self]
      | with_reducible apply Within.ite | split | dsimp only)

theorem drawn_within (h : Within T s0 s) (hT : 0x1000000000 ||| T = T) : Within T s0 (drawn s) := by
  unfold drawn
  try dsimp only
  repeat' (
    first
      | with_reducible exact h | with_reducible rfl | (with_reducible refine sub_of ?_ hT; decide)
      | with_reducible assumption | (with_reducible apply foldl_within; intro _ _ h)
      | simp only [Within.upd_iff, (has_of hT (by decide) : Has T 36), or_true, true_or, eq_self]
      | with_reducible apply Within.ite | split | dsimp only)

theorem signalVector_within (h : Within T s0 s) (fn : Nat) (vec : Nat) (hT : 0xa00000000 ||| T = T) : Within T s0
    (signalVector s fn vec) := by
  unfold signalVector
  try dsimp only
  repeat' (
    first
      | with_reducible exact h | with_reducible rfl | (with_reducible refine sub_of ?_ hT; decide)
      | with_reducible assumption | (with_reducible apply foldl_within; intro _ _ h)
      | simp only [Within.upd_iff, (has_of hT (by decide) : Has T 33), (has_of hT (by decide) : Has T 35),
          or_true, true_or, eq_self]
      | with_reducible apply Within.ite | split | dsimp only)

theorem signalDevice_within (h : Within T s0 s) (which : Nat) (hT : 0xa00000000 ||| T = T) : Within T s0 (signalDevice
    s which) := by
  unfold signalDevice
  try dsimp only
  repeat' (
    first
      | with_reducible exact h | with_reducible rfl | (with_reducible refine sub_of ?_ hT; decide)
      | with_reducible assumption | with_reducible apply signalVector_within
      | (with_reducible apply foldl_within; intro _ _ h) | with_reducible apply Within.ite | split | dsimp only)

theorem setEvent_within (h : Within T s0 s) (evt : Nat) (bit : Nat) (hr : Allowed T evt) : Within T s0
    (setEvent s evt bit) := by
  unfold setEvent
  try dsimp only
  repeat' (
    first
      | with_reducible exact h | with_reducible rfl | (with_reducible refine sub_of ?_ hT; decide)
      | with_reducible assumption | with_reducible apply wr_within | with_reducible apply wr_within
      | (with_reducible apply foldl_within; intro _ _ h) | with_reducible apply Within.ite | split)

theorem logEvent_within (h : Within T s0 s) (e : EventRec) (hT :
    0x800200000000000000000000000000000000000000000000000000000000000000000000000030000000 ||| T = T) : Within T s0
    (logEvent s e) := by
  unfold logEvent
  try dsimp only
  repeat' (
    first
      | with_reducible exact h | with_reducible rfl | (with_reducible refine sub_of ?_ hT; decide)
      | with_reducible assumption | with_reducible apply bump_within | with_reducible apply setEvent_within
      | with_reducible exact allowed_BKG_LOG_DROP_COUNT (has_of hT (by decide))
      | with_reducible exact allowed_BKG_EVENT (has_of hT (by decide))
      | (with_reducible apply foldl_within; intro _ _ h)
      | simp only [Within.upd_iff, (has_of hT (by decide) : Has T 28), (has_of hT (by decide) : Has T 29),
          or_true, true_or, eq_self]
      | with_reducible apply Within.ite | split | dsimp only)

theorem sendPldm_within (h : Within T s0 s) (e : EventRec) (hT :
    0x110000000000000000000000000000000000000000000000000000000000000000000000000000000840000000 ||| T = T) : Within T
    s0 (sendPldm s e) := by
  unfold sendPldm
  try dsimp only
  repeat' (
    first
      | with_reducible exact h | with_reducible rfl | (with_reducible refine sub_of ?_ hT; decide)
      | with_reducible assumption | with_reducible apply bump_within | with_reducible apply setEvent_within
      | with_reducible exact allowed_HST_PLDM_EVENT_DROP_COUNT (has_of hT (by decide))
      | with_reducible exact allowed_HST_EVENT (has_of hT (by decide))
      | (with_reducible apply foldl_within; intro _ _ h)
      | simp only [Within.upd_iff, (has_of hT (by decide) : Has T 30), (has_of hT (by decide) : Has T 35),
          or_true, true_or, eq_self]
      | with_reducible apply Within.ite | split | dsimp only)

theorem raiseAlarms_within (h : Within T s0 s) (c : Nat) (hT : 0x808000000 ||| T = T) : Within T s0 (raiseAlarms s c)
    := by
  unfold raiseAlarms
  try dsimp only
  repeat' (
    first
      | with_reducible exact h | with_reducible rfl | (with_reducible refine sub_of ?_ hT; decide)
      | with_reducible assumption | with_reducible apply emit_within
      | (with_reducible apply foldl_within; intro _ _ h)
      | simp only [Within.upd_iff, (has_of hT (by decide) : Has T 27), or_true, true_or, eq_self]
      | with_reducible apply Within.ite | split | dsimp only)

theorem dropAlarms_within (h : Within T s0 s) (c : Nat) (hT : 0x808000000 ||| T = T) : Within T s0 (dropAlarms s c) :=
    by
  unfold dropAlarms
  try dsimp only
  repeat' (
    first
      | with_reducible exact h | with_reducible rfl | (with_reducible refine sub_of ?_ hT; decide)
      | with_reducible assumption | with_reducible apply emit_within
      | (with_reducible apply foldl_within; intro _ _ h)
      | simp only [Within.upd_iff, (has_of hT (by decide) : Has T 27), or_true, true_or, eq_self]
      | with_reducible apply Within.ite | split | dsimp only)

theorem assertAlert_within (h : Within T s0 s) (c : EvClass) (hT :
    0x20000000000000000000000000000000000000000000000000000000000000000000000000000000a08000000 ||| T = T) : Within T
    s0 (assertAlert s c) := by
  unfold assertAlert
  try dsimp only
  repeat' (
    first
      | with_reducible exact h | with_reducible rfl | (with_reducible refine sub_of ?_ hT; decide)
      | with_reducible assumption | with_reducible apply raiseAlarms_within | with_reducible apply wr_within
      | with_reducible apply emit_within | with_reducible apply signalDevice_within
      | with_reducible exact allowed_HST_ALERT_STATUS (has_of hT (by decide))
      | (with_reducible apply foldl_within; intro _ _ h) | with_reducible apply Within.ite | split | dsimp only)

theorem raise_within (h : Within T s0 s) (evt : Nat) (bit : Nat) (c : EvClass) (alert : Bool) (pldm : Bool)
    (t : Nat)
    (hT : 0x130000800200000000000000000000000000000000000000000000000000000000000000000000000a78000000 ||| T = T)
    (hr : Allowed T evt) : Within T s0 (raise s evt bit c alert pldm t) := by
  unfold raise
  try dsimp only
  repeat' (
    first
      | with_reducible exact h | with_reducible rfl | (with_reducible refine sub_of ?_ hT; decide)
      | with_reducible assumption | with_reducible apply setEvent_within | with_reducible apply logEvent_within
      | with_reducible apply sendPldm_within | with_reducible apply assertAlert_within
      | (with_reducible apply pldm_within; intro _ h) | (with_reducible apply foldl_within; intro _ _ h)
      | with_reducible apply Within.ite | split)

theorem fenceLog_within (h : Within T s0 s) (b : Bound) (p : Nat) (src : Requester) (addr : Nat)
    (hT : 0x6000000000000000000000002000 ||| T = T) : Within T s0 (fenceLog s b p src addr) := by
  unfold fenceLog
  try dsimp only
  repeat' (
    first
      | with_reducible exact h | with_reducible rfl | (with_reducible refine sub_of ?_ hT; decide)
      | with_reducible assumption | with_reducible exact allowed_FENCE_VLOG_0 (has_of hT (by decide))
      | with_reducible exact allowed_FENCE_VLOG_1 (has_of hT (by decide)) | with_reducible apply Within.updPut
      | (with_reducible apply foldl_within; intro _ _ h)
      | simp only [Within.upd_iff, (has_of hT (by decide) : Has T 13), or_true, true_or, eq_self]
      | with_reducible apply Within.ite | split)

theorem noteBound_within (h : Within T s0 s) (b : Bound) (hT : 0x2000 ||| T = T) : Within T s0 (noteBound s b) := by
  unfold noteBound
  try dsimp only
  repeat' (
    first
      | with_reducible exact h | with_reducible rfl | (with_reducible refine sub_of ?_ hT; decide)
      | with_reducible assumption | (with_reducible apply foldl_within; intro _ _ h)
      | simp only [Within.upd_iff, (has_of hT (by decide) : Has T 13), or_true, true_or, eq_self]
      | with_reducible apply Within.ite | split | dsimp only)

theorem counter_allowed {T : Nat} (b : Bound) (hT : 0x1f800000000000000000000000000000 ||| T = T) : Allowed T b.counter := by
  cases b
  · exact allowed_FENCE_COUNT_PART (has_of hT (by decide))
  · exact allowed_FENCE_COUNT_EGRESS (has_of hT (by decide))
  · exact allowed_FENCE_COUNT_TIME (has_of hT (by decide))
  · exact allowed_FENCE_COUNT_LOCK (has_of hT (by decide))
  · exact allowed_FENCE_COUNT_UCODE (has_of hT (by decide))
  · exact allowed_FENCE_COUNT_WINDOW (has_of hT (by decide))
  · exact allowed_FENCE_COUNT_LOCK (has_of hT (by decide))
  · exact allowed_FENCE_COUNT_LOCK (has_of hT (by decide))

theorem fenceRefuseN_within (h : Within T s0 s) (b : Bound) (n : Nat) (p : Nat) (src : Requester) (addr : Nat) (t : Nat)
    (hT : 0x13000080020000000000000000000000000000000000000000000000001f807000000000000000000a78002000 ||| T = T) : Within T s0 (fenceRefuseN s b n p src addr t) := by
  unfold fenceRefuseN
  dsimp only
  apply raise_within
  · exact fenceLog_within (bumpN_within (noteBound_within h b (sub_of (by decide) hT)) _ _
      (counter_allowed b (sub_of (by decide) hT))) _ _ _ _ (sub_of (by decide) hT)
  · exact sub_of (by decide) hT
  · exact allowed_FENCE_EVENT (has_of hT (by decide))

theorem fenceRefuse_within (h : Within T s0 s) (b : Bound) (p : Nat) (src : Requester) (addr : Nat) (t : Nat) (hT :
    0x13000080020000000000000000000000000000000000000000000000001f807000000000000000000a78002000 ||| T = T) : Within T
    s0 (fenceRefuse s b p src addr t) := by
  unfold fenceRefuse
  try dsimp only
  repeat' (
    first
      | with_reducible exact h | with_reducible rfl | (with_reducible refine sub_of ?_ hT; decide)
      | with_reducible assumption | with_reducible apply fenceRefuseN_within
      | (with_reducible apply foldl_within; intro _ _ h) | with_reducible apply Within.ite | split | dsimp only)

theorem translate_within (h : Within T s0 s) (p : Nat) (addr : Nat) (n : Nat) (hT : 0x4000000 ||| T = T) : Within T s0
    (translate s p addr n) := by
  unfold translate
  try dsimp only
  repeat' (
    first
      | with_reducible exact h | with_reducible rfl | (with_reducible refine sub_of ?_ hT; decide)
      | with_reducible assumption | (with_reducible apply foldl_within; intro _ _ h)
      | simp only [Within.upd_iff, (has_of hT (by decide) : Has T 26), or_true, true_or, eq_self]
      | with_reducible apply Within.ite | split | dsimp only)

theorem hostPacket_within (h : Within T s0 s) (p : Nat) (addr : Nat) (bs : List Byte) (t : Nat) (hT :
    0x13000080020000000000000000000000000000000000000000000000001f807000000000000000008a7c006000 ||| T = T) : Within T
    s0 (hostPacket s p addr bs t) := by
  unfold hostPacket
  try dsimp only
  repeat' (
    first
      | with_reducible exact h | with_reducible rfl | (with_reducible refine sub_of ?_ hT; decide)
      | with_reducible assumption | with_reducible apply translate_within | with_reducible apply fenceRefuse_within
      | (with_reducible apply foldl_within; intro _ _ h)
      | simp only [Within.upd_iff, (has_of hT (by decide) : Has T 13), (has_of hT (by decide) : Has T 14), (has_of
          hT (by decide) : Has T 39), or_true, true_or, eq_self]
      | with_reducible apply Within.ite | split | dsimp only)

theorem hostWrite_within (h : Within T s0 s) (p : Nat) (addr : Nat) (bs : List Byte) (t : Nat) (hT :
    0x13000080020000000000000000000000000000000000000000000000001f807000000000000000008a7c006000 ||| T = T) : Within T
    s0 (hostWrite s p addr bs t) := by
  unfold hostWrite
  try dsimp only
  repeat' (
    first
      | with_reducible exact h | with_reducible rfl | (with_reducible refine sub_of ?_ hT; decide)
      | with_reducible assumption | with_reducible apply hostPacket_within
      | (with_reducible apply foldl_within; intro _ _ h) | with_reducible apply Within.ite | split | dsimp only)

theorem memWrite_within (h : Within T s0 s) (a : Nat) (bs : List Byte) (hT : 0x204000000000 ||| T = T) : Within T s0
    (memWrite s a bs) := by
  unfold memWrite
  try dsimp only
  repeat' (
    first
      | with_reducible exact h | with_reducible rfl | (with_reducible refine sub_of ?_ hT; decide)
      | with_reducible assumption | (with_reducible apply foldl_within; intro _ _ h)
      | simp only [Within.upd_iff, (has_of hT (by decide) : Has T 38), (has_of hT (by decide) : Has T 45),
          or_true, true_or, eq_self]
      | with_reducible apply Within.ite | split | dsimp only)

theorem spaceWrite_within (h : Within T s0 s) (host : Bool) (p : Nat) (addr : Nat) (bs : List Byte) (t : Nat) (hT :
    0x13000080020000000000000000000000000000000000000000000000001f80700000000000000020ca7c006000 ||| T = T) : Within T
    s0 (spaceWrite s host p addr bs t) := by
  unfold spaceWrite
  try dsimp only
  repeat' (
    first
      | with_reducible exact h | with_reducible rfl | (with_reducible refine sub_of ?_ hT; decide)
      | with_reducible assumption | with_reducible apply hostWrite_within | with_reducible apply memWrite_within
      | (with_reducible apply foldl_within; intro _ _ h) | with_reducible apply Within.ite | split | dsimp only)

theorem setQueue_within (h : Within T s0 s) (q : Nat) (v : Queue) (hT : 0x100 ||| T = T) : Within T s0 (setQueue s q
    v) := by
  unfold setQueue
  try dsimp only
  repeat' (
    first
      | with_reducible exact h | with_reducible rfl | (with_reducible refine sub_of ?_ hT; decide)
      | with_reducible assumption | (with_reducible apply foldl_within; intro _ _ h)
      | simp only [Within.upd_iff, (has_of hT (by decide) : Has T 8), or_true, true_or, eq_self]
      | with_reducible apply Within.ite | split | dsimp only)

theorem setPort_within (h : Within T s0 s) (n : Nat) (v : Port) (hT : 0x40000 ||| T = T) : Within T s0 (setPort s n v)
    := by
  unfold setPort
  try dsimp only
  repeat' (
    first
      | with_reducible exact h | with_reducible rfl | (with_reducible refine sub_of ?_ hT; decide)
      | with_reducible assumption | (with_reducible apply foldl_within; intro _ _ h)
      | simp only [Within.upd_iff, (has_of hT (by decide) : Has T 18), or_true, true_or, eq_self]
      | with_reducible apply Within.ite | split | dsimp only)

theorem setItem_within (h : Within T s0 s) (i : Nat) (v : Item) (hT : 0x80 ||| T = T) : Within T s0 (setItem s i v) :=
    by
  unfold setItem
  try dsimp only
  repeat' (
    first
      | with_reducible exact h | with_reducible rfl | (with_reducible refine sub_of ?_ hT; decide)
      | with_reducible assumption | (with_reducible apply foldl_within; intro _ _ h)
      | simp only [Within.upd_iff, (has_of hT (by decide) : Has T 7), or_true, true_or, eq_self]
      | with_reducible apply Within.ite | split | dsimp only)

theorem addGround_within (h : Within T s0 s) (i : Nat) (st : Status) (d : Nat) (hT : 0x80 ||| T = T) : Within T s0
    (addGround s i st d) := by
  unfold addGround
  try dsimp only
  repeat' (
    first
      | with_reducible exact h | with_reducible rfl | (with_reducible refine sub_of ?_ hT; decide)
      | with_reducible assumption | with_reducible apply setItem_within
      | (with_reducible apply foldl_within; intro _ _ h) | with_reducible apply Within.ite | split | dsimp only)

theorem setPhase_within (h : Within T s0 s) (ph : Nat) (hT : 0xa00000004 ||| T = T) : Within T s0 (setPhase s ph) :=
    by
  unfold setPhase
  try dsimp only
  repeat' (
    first
      | with_reducible exact h | with_reducible rfl | (with_reducible refine sub_of ?_ hT; decide)
      | with_reducible assumption | with_reducible apply signalDevice_within
      | (with_reducible apply foldl_within; intro _ _ h)
      | simp only [Within.upd_iff, (has_of hT (by decide) : Has T 2), or_true, true_or, eq_self]
      | with_reducible apply Within.ite | split | dsimp only)

end Sys2Proof.Machine
end

