-- ==== Sys2Proof/Laws/WithinRecords.lean ====
section
/-! SUPPORT. The places that the operations of Machine/Records.lean may change (Laws/Within.lean). -/

namespace Sys2Proof.Machine

variable {T : Nat} {s0 s : State}

theorem issueRead_within (h : Within T s0 s) (u : ReadUse) (addr : Nat) (len : Nat) (hT : 0x804000e00 ||| T = T) :
    Within T s0 (issueRead s u addr len) := by
  unfold issueRead
  try dsimp only
  repeat' (
    first
      | with_reducible exact h | with_reducible rfl | (with_reducible refine sub_of ?_ hT; decide)
      | with_reducible assumption | with_reducible apply translate_within
      | (with_reducible apply foldl_within; intro _ _ h)
      | simp only [Within.upd_iff, (has_of hT (by decide) : Has T 9), (has_of hT (by decide) : Has T 10), (has_of
          hT (by decide) : Has T 11), (has_of hT (by decide) : Has T 35), or_true, true_or, eq_self]
      | with_reducible apply Within.ite | split | dsimp only)

theorem issueWaiting_within (h : Within T s0 s) (hT : 0x804000e00 ||| T = T) : Within T s0 (issueWaiting s) := by
  unfold issueWaiting
  try dsimp only
  repeat' (
    first
      | with_reducible exact h | with_reducible rfl | (with_reducible refine sub_of ?_ hT; decide)
      | with_reducible assumption | with_reducible apply issueRead_within
      | (with_reducible apply foldl_within; intro _ _ h)
      | simp only [Within.upd_iff, (has_of hT (by decide) : Has T 11), or_true, true_or, eq_self]
      | with_reducible apply Within.ite | split | dsimp only)

theorem abandonReads_within (h : Within T s0 s) (p : ReadUse → Bool) (hT : 0xa00 ||| T = T) : Within T s0
    (abandonReads s p) := by
  unfold abandonReads
  try dsimp only
  repeat' (
    first
      | with_reducible exact h | with_reducible rfl | (with_reducible refine sub_of ?_ hT; decide)
      | with_reducible assumption | (with_reducible apply foldl_within; intro _ _ h)
      | simp only [Within.upd_iff, (has_of hT (by decide) : Has T 9), (has_of hT (by decide) : Has T 11), or_true,
          true_or, eq_self]
      | with_reducible apply Within.ite | split | dsimp only)

theorem countStatus_within (h : Within T s0 s) (st : Status) (t : Nat) (hT :
    0x130000800200000000000000000000000000000000000000000007a00000000000000000000000000a78000000 ||| T = T) : Within T
    s0 (countStatus s st t) := by
  unfold countStatus
  try dsimp only
  repeat' (
    first
      | with_reducible exact h | with_reducible rfl | (with_reducible refine sub_of ?_ hT; decide)
      | with_reducible assumption | with_reducible apply raise_within | with_reducible apply bump_within
      | with_reducible exact allowed_WQ_EVENT (has_of hT (by decide))
      | with_reducible exact allowed_WQ_DESC_INVALID_COUNT (has_of hT (by decide))
      | with_reducible exact allowed_WQ_POISONED_COUNT (has_of hT (by decide))
      | with_reducible exact allowed_WQ_NOT_ADMITTED_COUNT (has_of hT (by decide))
      | with_reducible exact allowed_WQ_ABORTED_COUNT (has_of hT (by decide))
      | (with_reducible apply foldl_within; intro _ _ h) | with_reducible apply Within.ite | split | dsimp only)

theorem writeRec_within (h : Within T s0 s) (q : Nat) (r : Rec) (t : Nat) (hT :
    0x13000080020000000000000000000000000000000000000000000000001f80700000000000000020ca7c006100 ||| T = T) : Within T
    s0 (writeRec s q r t) := by
  unfold writeRec
  try dsimp only
  repeat' (
    first
      | with_reducible exact h | with_reducible rfl | (with_reducible refine sub_of ?_ hT; decide)
      | with_reducible assumption | with_reducible apply spaceWrite_within | with_reducible apply fenceRefuse_within
      | with_reducible apply setQueue_within | with_reducible apply signalVector_within
      | (with_reducible apply foldl_within; intro _ _ h) | with_reducible apply Within.ite | split | dsimp only)

theorem closeEntry_within (h : Within T s0 s) (q : Nat) (i : Nat) (d : Desc) (st : Status) (detail : Nat) (late :
    Bool) (invalid : Bool) (inherited : Bool) (t : Nat) (hT :
    0x130000800200000000000000000000000000000000000000000007a0001f80700000000000000020ca7c006100 ||| T = T) : Within T
    s0 (closeEntry s q i d st detail late invalid inherited t) := by
  unfold closeEntry
  try dsimp only
  repeat' (
    first
      | with_reducible exact h | with_reducible rfl | (with_reducible refine sub_of ?_ hT; decide)
      | with_reducible assumption | with_reducible apply setQueue_within | with_reducible apply countStatus_within
      | with_reducible apply writeRec_within | (with_reducible apply foldl_within; intro _ _ h)
      | with_reducible apply Within.ite | split | dsimp only)

theorem fetchOne_within (h : Within T s0 s) (q : Nat) (t : Nat) (hT :
    0x130000800200000000000000000000000000000000000000000007a0001f80700000000000000020da7c006f00 ||| T = T) : Within T
    s0 (fetchOne s q t) := by
  unfold fetchOne
  try dsimp only
  repeat' (
    first
      | with_reducible exact h | with_reducible rfl | (with_reducible refine sub_of ?_ hT; decide)
      | with_reducible assumption | with_reducible apply setQueue_within | with_reducible apply issueRead_within
      | with_reducible apply closeEntry_within | with_reducible apply fenceRefuse_within
      | with_reducible apply drawn_within | (with_reducible apply foldl_within; intro _ _ h)
      | with_reducible apply Within.ite | split | dsimp only)

theorem startFetch_within (h : Within T s0 s) (q : Nat) (t : Nat) (hT :
    0x130000800200000000000000000000000000000000000000000007a0001f80700000000000000020da7c006f00 ||| T = T) : Within T
    s0 (startFetch s q t) := by
  unfold startFetch
  try dsimp only
  repeat' (
    first
      | with_reducible exact h | with_reducible rfl | (with_reducible refine sub_of ?_ hT; decide)
      | with_reducible assumption | with_reducible apply fetchOne_within
      | (with_reducible apply foldl_within; intro _ _ h) | with_reducible apply Within.ite | split | dsimp only)

theorem completeEntry_within (h : Within T s0 s) (q : Nat) (i : Nat) (d : Desc) (st : Status) (detail : Nat) (late :
    Bool) (invalid : Bool) (inherited : Bool) (t : Nat) (hT :
    0x130000800200000000000000000000000000000000000000000007a0001f80700000000000000020da7c006f00 ||| T = T) : Within T
    s0 (completeEntry s q i d st detail late invalid inherited t) := by
  unfold completeEntry
  try dsimp only
  repeat' (
    first
      | with_reducible exact h | with_reducible rfl | (with_reducible refine sub_of ?_ hT; decide)
      | with_reducible assumption | with_reducible apply startFetch_within | with_reducible apply closeEntry_within
      | (with_reducible apply foldl_within; intro _ _ h) | with_reducible apply Within.ite | split | dsimp only)

theorem completeStanding_within (h : Within T s0 s) (e : Standing) (n : Nat) (st : Status) (detail : Nat) (late :
    Bool) (invalid : Bool) (inherited : Bool) (t : Nat) (hT :
    0x130000800200000000000000000000000000000000000000000017a0001f80700000000000000020ca7c006180 ||| T = T) : Within T
    s0 (completeStanding s e n st detail late invalid inherited t) := by
  unfold completeStanding
  try dsimp only
  repeat' (
    first
      | with_reducible exact h | with_reducible rfl | (with_reducible refine sub_of ?_ hT; decide)
      | with_reducible assumption | with_reducible apply countStatus_within | with_reducible apply writeRec_within
      | with_reducible apply bump_within
      | with_reducible exact allowed_WQ_STANDING_UNREPORTED_COUNT (has_of hT (by decide))
      | (with_reducible apply foldl_within; intro _ _ h)
      | simp only [Within.upd_iff, (has_of hT (by decide) : Has T 7), or_true, true_or, eq_self]
      | with_reducible apply Within.ite | split | dsimp only)

theorem writeAborted_within (h : Within T s0 s) (q : Nat) (p : PendingRec) (t : Nat) (hT :
    0x130000800200000000000000000000000000000000000000000007a0001f80700000000000000020ca7c006100 ||| T = T) : Within T
    s0 (writeAborted s q p t) := by
  unfold writeAborted
  try dsimp only
  repeat' (
    first
      | with_reducible exact h | with_reducible rfl | (with_reducible refine sub_of ?_ hT; decide)
      | with_reducible assumption | with_reducible apply writeRec_within | with_reducible apply countStatus_within
      | (with_reducible apply foldl_within; intro _ _ h) | with_reducible apply Within.ite | split | dsimp only)

end Sys2Proof.Machine
end

