-- ==== Sys2Proof/Laws/WithinSupervisor.lean ====
section
/-! SUPPORT. The places that the operations of Machine/Supervisor.lean may change (Laws/Within.lean). -/

namespace Sys2Proof.Machine

variable {T : Nat} {s0 s : State}

theorem setSup_within (h : Within T s0 s) (u : Sup) (hT : 0x1000 ||| T = T) : Within T s0 (setSup s u) := by
  unfold setSup
  try dsimp only
  repeat' (
    first
      | with_reducible exact h | with_reducible rfl | (with_reducible refine sub_of ?_ hT; decide)
      | with_reducible assumption | (with_reducible apply foldl_within; intro _ _ h)
      | simp only [Within.upd_iff, (has_of hT (by decide) : Has T 12), or_true, true_or, eq_self]
      | with_reducible apply Within.ite | split | dsimp only)

theorem raiseIn_within (h : Within T s0 s) (block : Nat) (alert : Bool) (t : Nat) (hT :
    0x130000800200000000000000000000000000000000000000000000000000000000000000000000001a78000000 ||| T = T) : Within T
    s0 (raiseIn s block alert t) := by
  unfold raiseIn
  try dsimp only
  repeat' (
    first
      | with_reducible exact h | with_reducible rfl | (with_reducible refine sub_of ?_ hT; decide)
      | with_reducible assumption | with_reducible apply sendPldm_within | with_reducible apply logEvent_within
      | with_reducible apply drawn_within | with_reducible apply assertAlert_within
      | (with_reducible apply foldl_within; intro _ _ h) | with_reducible apply Within.ite | split | dsimp only)

theorem raiseSup_within (h : Within T s0 s) (alert : Bool) (t : Nat) (hT :
    0x130000800200000000000000000000000000000000000000000000000000000000000000000000001a78000000 ||| T = T) : Within T
    s0 (raiseSup s alert t) := by
  unfold raiseSup
  try dsimp only
  repeat' (
    first
      | with_reducible exact h | with_reducible rfl | (with_reducible refine sub_of ?_ hT; decide)
      | with_reducible assumption | with_reducible apply raiseIn_within
      | (with_reducible apply foldl_within; intro _ _ h) | with_reducible apply Within.ite | split | dsimp only)

theorem supReset_within (h : Within T s0 s) (cause : Nat) (hT : 0x48000000000000080000001000 ||| T = T) : Within T s0
    (supReset s cause) := by
  unfold supReset
  try dsimp only
  repeat' (
    first
      | with_reducible exact h | with_reducible rfl | (with_reducible refine sub_of ?_ hT; decide)
      | with_reducible assumption | with_reducible apply setSup_within | with_reducible apply bump_within
      | with_reducible apply wr_within | with_reducible exact allowed_SUP_RESET_COUNT (has_of hT (by decide))
      | with_reducible exact allowed_SUP_RESET_CAUSE (has_of hT (by decide))
      | (with_reducible apply foldl_within; intro _ _ h)
      | simp only [Within.upd_iff, (has_of hT (by decide) : Has T 43), or_true, true_or, eq_self]
      | with_reducible apply Within.ite | split | dsimp only)

theorem declareCheckLost_within (h : Within T s0 s) (t : Nat) (hT :
    0x130000800200000000000000000000000000000000000000000000000000000000000000000000001a78001000 ||| T = T) : Within T
    s0 (declareCheckLost s t) := by
  unfold declareCheckLost
  try dsimp only
  repeat' (
    first
      | with_reducible exact h | with_reducible rfl | (with_reducible refine sub_of ?_ hT; decide)
      | with_reducible assumption | with_reducible apply raiseSup_within | with_reducible apply setSup_within
      | (with_reducible apply foldl_within; intro _ _ h) | with_reducible apply Within.ite | split | dsimp only)

theorem execComparatorMismatch_within (t : Nat) (hT :
    0x1300008002000000000000000000000000000000000000000000000000000000c8000000000000081a78001000 ||| T = T) :
    WithinOut T s (execComparatorMismatch t s) := by
  have h : Within T s s := Within.start
  unfold execComparatorMismatch
  try dsimp only
  repeat' (
    first
      | with_reducible exact h | with_reducible rfl | (with_reducible refine sub_of ?_ hT; decide)
      | with_reducible assumption | with_reducible exact WithinOut.fault _ | with_reducible apply WithinOut.next
      | with_reducible apply raiseSup_within | with_reducible apply supReset_within
      | with_reducible apply bump_within | with_reducible exact allowed_SUP_MISMATCH_COUNT (has_of hT (by decide))
      | (with_reducible apply foldl_within; intro _ _ h) | with_reducible apply Within.ite
      | with_reducible apply WithinOut.ite | split | dsimp only)

theorem execDelayParityError_within (t : Nat) (hT :
    0x130000800200000000000000000000000000000000000000000000000000000010000000000000001a78001000 ||| T = T) :
    WithinOut T s (execDelayParityError t s) := by
  have h : Within T s s := Within.start
  unfold execDelayParityError
  try dsimp only
  repeat' (
    first
      | with_reducible exact h | with_reducible rfl | (with_reducible refine sub_of ?_ hT; decide)
      | with_reducible assumption | with_reducible exact WithinOut.fault _ | with_reducible apply WithinOut.next
      | with_reducible apply declareCheckLost_within | with_reducible apply wr_within
      | with_reducible exact allowed_SUP_CHECK_STATUS (has_of hT (by decide))
      | (with_reducible apply foldl_within; intro _ _ h) | with_reducible apply Within.ite
      | with_reducible apply WithinOut.ite | split | dsimp only)

theorem execComparatorSelfTest_within (lane : Option Nat) (parityMissed : Bool) (t : Nat) (hT :
    0x130000800200000000000000000000000000000000000000000000000000000010000000000000001a78001000 ||| T = T) :
    WithinOut T s (execComparatorSelfTest lane parityMissed t s) := by
  have h : Within T s s := Within.start
  unfold execComparatorSelfTest
  try dsimp only
  repeat' (
    first
      | with_reducible exact h | with_reducible rfl | (with_reducible refine sub_of ?_ hT; decide)
      | with_reducible assumption | with_reducible exact WithinOut.fault _ | with_reducible apply WithinOut.next
      | with_reducible apply wr_within | with_reducible apply declareCheckLost_within
      | with_reducible exact allowed_SUP_CHECK_STATUS (has_of hT (by decide))
      | (with_reducible apply foldl_within; intro _ _ h) | with_reducible apply Within.ite
      | with_reducible apply WithinOut.ite | split | dsimp only)

theorem execWatchdogFire_within (mismatch : Bool) (t : Nat) (hT :
    0x1300008002000000000000000000000000000000000000000000000000000000c8000000000000081a78001000 ||| T = T) :
    WithinOut T s (execWatchdogFire mismatch t s) := by
  have h : Within T s s := Within.start
  unfold execWatchdogFire
  try dsimp only
  repeat' (
    first
      | with_reducible exact h | with_reducible rfl | (with_reducible refine sub_of ?_ hT; decide)
      | with_reducible assumption | with_reducible exact WithinOut.fault _ | with_reducible apply WithinOut.next
      | with_reducible apply bump_within | with_reducible apply raiseSup_within
      | with_reducible apply supReset_within
      | with_reducible exact allowed_SUP_MISMATCH_COUNT (has_of hT (by decide))
      | (with_reducible apply foldl_within; intro _ _ h) | with_reducible apply Within.ite
      | with_reducible apply WithinOut.ite | split | dsimp only)

theorem execWatchdogKick_within (v : Word) (hT : 0x100000000000000000000001000 ||| T = T) : WithinOut T s
    (execWatchdogKick v s) := by
  have h : Within T s s := Within.start
  unfold execWatchdogKick
  try dsimp only
  repeat' (
    first
      | with_reducible exact h | with_reducible rfl | (with_reducible refine sub_of ?_ hT; decide)
      | with_reducible assumption | with_reducible exact WithinOut.fault _ | with_reducible apply WithinOut.next
      | with_reducible apply setSup_within | with_reducible apply bump_within
      | with_reducible exact allowed_SUP_KICK_BAD_COUNT (has_of hT (by decide))
      | (with_reducible apply foldl_within; intro _ _ h) | with_reducible apply Within.ite
      | with_reducible apply WithinOut.ite | split | dsimp only)

theorem execSupervisorEntry_within (hT : 0x1000 ||| T = T) : WithinOut T s (execSupervisorEntry s) := by
  have h : Within T s s := Within.start
  unfold execSupervisorEntry
  try dsimp only
  repeat' (
    first
      | with_reducible exact h | with_reducible rfl | (with_reducible refine sub_of ?_ hT; decide)
      | with_reducible assumption | with_reducible exact WithinOut.fault _ | with_reducible apply WithinOut.next
      | with_reducible apply setSup_within | (with_reducible apply foldl_within; intro _ _ h)
      | with_reducible apply Within.ite | with_reducible apply WithinOut.ite | split | dsimp only)

theorem execSupRelease_within (hT : 0x48000000000000080000001000 ||| T = T) : WithinOut T s (execSupRelease s) := by
  have h : Within T s s := Within.start
  unfold execSupRelease
  try dsimp only
  repeat' (
    first
      | with_reducible exact h | with_reducible rfl | (with_reducible refine sub_of ?_ hT; decide)
      | with_reducible assumption | with_reducible exact WithinOut.fault _ | with_reducible apply WithinOut.next
      | with_reducible apply supReset_within | with_reducible apply setSup_within
      | (with_reducible apply foldl_within; intro _ _ h) | with_reducible apply Within.ite
      | with_reducible apply WithinOut.ite | split | dsimp only)

theorem restartFailed_within (h : Within T s0 s) (t : Nat) (hT :
    0x130000800200000000000000000000000000000000000000000000000000000048000000000000081a78001000 ||| T = T) : Within T
    s0 (restartFailed s t) := by
  unfold restartFailed
  try dsimp only
  repeat' (
    first
      | with_reducible exact h | with_reducible rfl | (with_reducible refine sub_of ?_ hT; decide)
      | with_reducible assumption | with_reducible apply supReset_within | with_reducible apply setSup_within
      | with_reducible apply raiseSup_within | (with_reducible apply foldl_within; intro _ _ h)
      | with_reducible apply Within.ite | split | dsimp only)

theorem execSupervisorBusError_within (addr : Nat) (t : Nat) (hT :
    0x13000080020000000000000000000000000000000000000000000000001f807000000000000000000a78002000 ||| T = T) :
    WithinOut T s (execSupervisorBusError addr t s) := by
  have h : Within T s s := Within.start
  unfold execSupervisorBusError
  try dsimp only
  repeat' (
    first
      | with_reducible exact h | with_reducible rfl | (with_reducible refine sub_of ?_ hT; decide)
      | with_reducible assumption | with_reducible exact WithinOut.fault _ | with_reducible apply WithinOut.next
      | with_reducible apply emit_within | with_reducible apply fenceRefuse_within
      | (with_reducible apply foldl_within; intro _ _ h) | with_reducible apply Within.ite
      | with_reducible apply WithinOut.ite | split | dsimp only)

theorem badAccess_within (h : Within T s0 s) (t : Nat) (hT :
    0x170000800200000000000000000000000000000000000000000000000000000000000000000000000a78000000 ||| T = T) : Within T
    s0 (badAccess s t) := by
  unfold badAccess
  try dsimp only
  repeat' (
    first
      | with_reducible exact h | with_reducible rfl | (with_reducible refine sub_of ?_ hT; decide)
      | with_reducible assumption | with_reducible apply raise_within | with_reducible apply bump_within
      | with_reducible exact allowed_HST_EVENT (has_of hT (by decide))
      | with_reducible exact allowed_HST_BAD_ACCESS_COUNT (has_of hT (by decide))
      | (with_reducible apply foldl_within; intro _ _ h) | with_reducible apply Within.ite | split | dsimp only)

theorem execBarRefusedAccess_within (read : Bool) (bytes : Nat) (t : Nat) (hT :
    0x170000800200000000000000000000000000000000000000000000000000000000000000000000000a78000000 ||| T = T) :
    WithinOut T s (execBarRefusedAccess read bytes t s) := by
  have h : Within T s s := Within.start
  unfold execBarRefusedAccess
  try dsimp only
  repeat' (
    first
      | with_reducible exact h | with_reducible rfl | (with_reducible refine sub_of ?_ hT; decide)
      | with_reducible assumption | with_reducible exact WithinOut.fault _ | with_reducible apply WithinOut.next
      | with_reducible apply badAccess_within | with_reducible apply emit_within
      | (with_reducible apply foldl_within; intro _ _ h) | with_reducible apply Within.ite
      | with_reducible apply WithinOut.ite | split | dsimp only)

theorem execFencePartActiveWrite_within (v : Word) (t : Nat) (hT :
    0x13000080020000000000000000000000000000000000000000000000001f817000000000000000000a78002000 ||| T = T) :
    WithinOut T s (execFencePartActiveWrite v t s) := by
  have h : Within T s s := Within.start
  unfold execFencePartActiveWrite
  try dsimp only
  repeat' (
    first
      | with_reducible exact h | with_reducible rfl | (with_reducible refine sub_of ?_ hT; decide)
      | with_reducible assumption | with_reducible exact WithinOut.fault _ | with_reducible apply WithinOut.next
      | with_reducible apply fenceRefuse_within | with_reducible apply wr_within
      | with_reducible exact allowed_FENCE_PART_ACTIVE (has_of hT (by decide))
      | (with_reducible apply foldl_within; intro _ _ h)
      | simp only [Within.upd_iff, (has_of hT (by decide) : Has T 13), or_true, true_or, eq_self]
      | with_reducible apply Within.ite | with_reducible apply WithinOut.ite | split | dsimp only)

theorem execEgressCapWrite_within (p : Nat) (v : Word) (t : Nat) (hT :
    0x13000080020000000000000000000000000000000000000000000000001f907000000000000000000a78002000 ||| T = T) :
    WithinOut T s (execEgressCapWrite p v t s) := by
  have h : Within T s s := Within.start
  unfold execEgressCapWrite
  try dsimp only
  repeat' (
    first
      | with_reducible exact h | with_reducible rfl | (with_reducible refine sub_of ?_ hT; decide)
      | with_reducible assumption | with_reducible exact WithinOut.fault _ | with_reducible apply WithinOut.next
      | with_reducible apply wr_within | with_reducible apply fenceRefuse_within
      | with_reducible exact allowed_FENCE_EGRESS_CAP _ (has_of hT (by decide))
      | (with_reducible apply foldl_within; intro _ _ h) | with_reducible apply Within.ite
      | with_reducible apply WithinOut.ite | split | dsimp only)

theorem execTableReloadComplete_within (entry : Nat) (passed : Bool) (hT : 0x2000 ||| T = T) : WithinOut T s
    (execTableReloadComplete entry passed s) := by
  have h : Within T s s := Within.start
  unfold execTableReloadComplete
  try dsimp only
  repeat' (
    first
      | with_reducible exact h | with_reducible rfl | (with_reducible refine sub_of ?_ hT; decide)
      | with_reducible assumption | with_reducible exact WithinOut.fault _ | with_reducible apply WithinOut.next
      | (with_reducible apply foldl_within; intro _ _ h)
      | simp only [Within.upd_iff, (has_of hT (by decide) : Has T 13), or_true, true_or, eq_self]
      | with_reducible apply Within.ite | with_reducible apply WithinOut.ite | split | dsimp only)

theorem reportReject_within (h : Within T s0 s) (log0 : Word) (log1 : Word) (bit : Nat) (c : EvClass) (t : Nat)
    (hT : 0x130000800200000000000000000000000000000000000000000000000e00000000000000000000000a78010000 ||| T = T) : Within T s0
    (reportReject s log0 log1 bit c t) := by
  unfold reportReject
  try dsimp only
  repeat' (
    first
      | with_reducible exact h | with_reducible rfl | (with_reducible refine sub_of ?_ hT; decide)
      | with_reducible assumption | with_reducible apply setEvent_within | with_reducible apply raise_within
      | with_reducible exact allowed_PART_EVENT (has_of hT (by decide))
      | with_reducible exact allowed_PART_REJECT_LOG_0 (has_of hT (by decide))
      | with_reducible exact allowed_PART_REJECT_LOG_1 (has_of hT (by decide)) | with_reducible apply Within.updPut
      | (with_reducible apply foldl_within; intro _ _ h)
      | simp only [Within.upd_iff, (has_of hT (by decide) : Has T 16), or_true, true_or, eq_self]
      | with_reducible apply Within.ite | split)

theorem packetReject_within (h : Within T s0 s) (point : Nat) (reason : Nat) (part : Nat) (key : Nat) (src : Nat)
    (opTag : Nat) (t : Nat) (hT :
    0x13000080020000000000000000000000000000000000000000000000ce00000000000000000000000a78010000 ||| T = T) : Within T
    s0 (packetReject s point reason part key src opTag t) := by
  unfold packetReject
  try dsimp only
  repeat' (
    first
      | with_reducible exact h | with_reducible rfl | (with_reducible refine sub_of ?_ hT; decide)
      | with_reducible assumption | with_reducible apply bump_within | with_reducible apply reportReject_within
      | with_reducible exact allowed_PART_REJECT_HUB_COUNT (has_of hT (by decide))
      | with_reducible exact allowed_PART_REJECT_PORT_COUNT _ (has_of hT (by decide))
      | (with_reducible apply foldl_within; intro _ _ h) | with_reducible apply Within.ite | split | dsimp only)

theorem syncReject_within (h : Within T s0 s) (issuerPart : Nat) (owner : Nat) (flag : Nat) (t : Nat) (hT :
    0x130000800200000000000000000000000000000000000000000000010e00000000000000000000000a78010000 ||| T = T) : Within T
    s0 (syncReject s issuerPart owner flag t) := by
  unfold syncReject
  try dsimp only
  repeat' (
    first
      | with_reducible exact h | with_reducible rfl | (with_reducible refine sub_of ?_ hT; decide)
      | with_reducible assumption | with_reducible apply reportReject_within | with_reducible apply bump_within
      | with_reducible exact allowed_PART_REJECT_SYNC_COUNT (has_of hT (by decide))
      | (with_reducible apply foldl_within; intro _ _ h) | with_reducible apply Within.ite | split | dsimp only)

end Sys2Proof.Machine
end

