-- ==== Sys2Proof/Laws/WithinSend.lean ====
section
/-! SUPPORT. The places that the operations of Machine/Send.lean may change (Laws/Within.lean). -/

namespace Sys2Proof.Machine

variable {T : Nat} {s0 s : State}

theorem passRx_within (h : Within T s0 s) (n : Nat) (p : Packet) (hT : 0x40000 ||| T = T) : Within T s0 (passRx s n p)
    := by
  unfold passRx
  try dsimp only
  repeat' (
    first
      | with_reducible exact h | with_reducible rfl | (with_reducible refine sub_of ?_ hT; decide)
      | with_reducible assumption | with_reducible apply setPort_within
      | (with_reducible apply foldl_within; intro _ _ h) | with_reducible apply Within.ite | split | dsimp only)

theorem transmit_within (h : Within T s0 s) (n : Nat) (w : TxWait) (hT : 0x800140000 ||| T = T) : Within T s0
    (transmit s n w) := by
  unfold transmit
  try dsimp only
  repeat' (
    first
      | with_reducible exact h | with_reducible rfl | (with_reducible refine sub_of ?_ hT; decide)
      | with_reducible assumption | with_reducible apply setPort_within | with_reducible apply passRx_within
      | with_reducible apply emit_within | (with_reducible apply foldl_within; intro _ _ h)
      | simp only [Within.upd_iff, (has_of hT (by decide) : Has T 20), or_true, true_or, eq_self]
      | with_reducible apply Within.ite | split | dsimp only)

theorem preemptSpoke_within (h : Within T s0 s) (i : Nat) (hT :
    0x2c0000000000130000800200000000000000000000000000000000000000000000000000000000000000000000000a78400000 ||| T =
    T) : Within T s0 (preemptSpoke s i) := by
  unfold preemptSpoke
  try dsimp only
  repeat' (
    first
      | with_reducible exact h | with_reducible rfl | (with_reducible refine sub_of ?_ hT; decide)
      | with_reducible assumption | with_reducible apply raise_within | with_reducible apply wr_within
      | with_reducible apply bump_within | with_reducible exact allowed_SPK_EVENT _ (has_of hT (by decide))
      | with_reducible exact allowed_SPK_LAST_CAUSE _ _ (has_of hT (by decide))
      | with_reducible exact allowed_SPK_RESTART_COUNT _ _ (has_of hT (by decide))
      | (with_reducible apply foldl_within; intro _ _ h)
      | simp only [Within.upd_iff, (has_of hT (by decide) : Has T 22), or_true, true_or, eq_self]
      | with_reducible apply Within.ite | split | dsimp only)

theorem preempt_within (h : Within T s0 s) (i : Nat) (hub : Nat) (b : Nat) (hT :
    0x2c0000000000130000800200000000000000000000000000000000000000000000000000000000000000000000000a78400000 ||| T =
    T) : Within T s0 (preempt s i hub b) := by
  unfold preempt
  try dsimp only
  repeat' (
    first
      | with_reducible exact h | with_reducible rfl | (with_reducible refine sub_of ?_ hT; decide)
      | with_reducible assumption | with_reducible apply preemptSpoke_within
      | (with_reducible apply foldl_within; intro _ _ h) | with_reducible apply Within.ite | split | dsimp only)

theorem drainPort_within (h : Within T s0 s) (n k : Nat) (hT : 0x2c0000000000130000800200000000000000000000000000000000000000000000000000000000000000000000000a78540000 ||| T = T) : Within T s0 (drainPort s n k) := by
  induction k generalizing s with
  | zero => exact h
  | succ k ih =>
    unfold drainPort
    split
    · exact h
    · refine ih (transmit_within (setPort_within ?_ n _ (sub_of (by decide) hT)) n _ (sub_of (by decide) hT))
      split
      · exact preempt_within h _ _ _ (sub_of (by decide) hT)
      · exact h

theorem toPort_within (h : Within T s0 s) (n : Nat) (w : TxWait) (hT :
    0x2c0000000000130000800200000000000000000000000000000000000000000000000000000000000000000000000a78540000 ||| T =
    T) : Within T s0 (toPort s n w) := by
  unfold toPort
  try dsimp only
  repeat' (
    first
      | with_reducible exact h | with_reducible rfl | (with_reducible refine sub_of ?_ hT; decide)
      | with_reducible assumption | with_reducible apply setPort_within | with_reducible apply drainPort_within
      | (with_reducible apply foldl_within; intro _ _ h) | with_reducible apply Within.ite | split | dsimp only)

theorem routeOut_within (h : Within T s0 s) (die : Nat) (w : TxWait) (hT :
    0x2c0000000000130000800200000000000000000000000100000000000000000000000000000000000000000000000a78540000 ||| T =
    T) : Within T s0 (routeOut s die w) := by
  unfold routeOut
  try dsimp only
  repeat' (
    first
      | with_reducible exact h | with_reducible rfl | (with_reducible refine sub_of ?_ hT; decide)
      | with_reducible assumption | with_reducible apply bump_within | with_reducible apply toPort_within
      | with_reducible exact allowed_FAB_UNREACH_COUNT (has_of hT (by decide))
      | (with_reducible apply foldl_within; intro _ _ h) | with_reducible apply Within.ite | split | dsimp only)

theorem sendOwn_within (h : Within T s0 s) (q : Nat) (die : Nat) (p : Packet) (t : Nat) (hT :
    0x2c000000000013000080020000000000000000000000010000000000000000000000001f807000000000000000000a7854a000 ||| T =
    T) : Within T s0 (sendOwn s q die p t) := by
  unfold sendOwn
  try dsimp only
  repeat' (
    first
      | with_reducible exact h | with_reducible rfl | (with_reducible refine sub_of ?_ hT; decide)
      | with_reducible assumption | with_reducible apply routeOut_within | with_reducible apply fenceRefuse_within
      | (with_reducible apply foldl_within; intro _ _ h)
      | simp only [Within.upd_iff, (has_of hT (by decide) : Has T 13), (has_of hT (by decide) : Has T 15),
          or_true, true_or, eq_self]
      | with_reducible apply Within.ite | split | dsimp only)

theorem sendCtl_within (h : Within T s0 s) (dst : Nat) (opTag : Nat) (m : Msg) (hT :
    0x2c0000000000130000800200000000000000000000000100000000000000000000000000000000000000000000000a78540000 ||| T =
    T) : Within T s0 (sendCtl s dst opTag m) := by
  unfold sendCtl
  try dsimp only
  repeat' (
    first
      | with_reducible exact h | with_reducible rfl | (with_reducible refine sub_of ?_ hT; decide)
      | with_reducible assumption | with_reducible apply routeOut_within
      | (with_reducible apply foldl_within; intro _ _ h) | with_reducible apply Within.ite | split | dsimp only)

theorem flood_within (h : Within T s0 s) (except : Option Nat) (m : Msg) (hT :
    0x2c0000000000130000800200000000000000000000000000000000000000000000000000000000000000000000000a78540000 ||| T =
    T) : Within T s0 (flood s except m) := by
  unfold flood
  try dsimp only
  repeat' (
    first
      | with_reducible exact h | with_reducible rfl | (with_reducible refine sub_of ?_ hT; decide)
      | with_reducible assumption | with_reducible apply toPort_within
      | (with_reducible apply foldl_within; intro _ _ h) | with_reducible apply Within.ite | split | dsimp only)

end Sys2Proof.Machine
end

