-- ==== Sys2Proof/Laws/WithinGroups.lean ====
section
/-! SUPPORT. The places that the operations of Machine/Groups.lean may change (Laws/Within.lean). -/

namespace Sys2Proof.Machine

variable {T : Nat} {s0 s : State}

theorem setSpoke_within (h : Within T s0 s) (i : Nat) (p : Spoke) (hT : 0x400000 ||| T = T) : Within T s0 (setSpoke s
    i p) := by
  unfold setSpoke
  try dsimp only
  repeat' (
    first
      | with_reducible exact h | with_reducible rfl | (with_reducible refine sub_of ?_ hT; decide)
      | with_reducible assumption | (with_reducible apply foldl_within; intro _ _ h)
      | simp only [Within.upd_iff, (has_of hT (by decide) : Has T 22), or_true, true_or, eq_self]
      | with_reducible apply Within.ite | split | dsimp only)

theorem setOp_within (h : Within T s0 s) (i : Nat) (p : Spoke) (op : CollOp) (hT : 0x400000 ||| T = T) : Within T s0
    (setOp s i p op) := by
  unfold setOp
  try dsimp only
  repeat' (
    first
      | with_reducible exact h | with_reducible rfl | (with_reducible refine sub_of ?_ hT; decide)
      | with_reducible assumption | with_reducible apply setSpoke_within
      | (with_reducible apply foldl_within; intro _ _ h) | with_reducible apply Within.ite | split | dsimp only)

theorem notePeak_within (h : Within T s0 s) (stream : Nat) (hT : 0x400000 ||| T = T) : Within T s0 (notePeak s stream) := by
  unfold notePeak
  simp only [Within.upd_iff, (has_of hT (by decide) : Has T 22), or_true, true_or, eq_self]
  exact h

end Sys2Proof.Machine
end

