-- ==== Sys2Proof/Laws/WithinLedgerBase.lean ====
section
/-! SUPPORT. The places that the operations of Machine/LedgerBase.lean may change (Laws/Within.lean). -/

namespace Sys2Proof.Machine

variable {T : Nat} {s0 s : State}

theorem setLdg_within (h : Within T s0 s) (l : Ledger) (hT : 0x1000000 ||| T = T) : Within T s0 (setLdg s l) := by
  unfold setLdg
  try dsimp only
  repeat' (
    first
      | with_reducible exact h | with_reducible rfl | (with_reducible refine sub_of ?_ hT; decide)
      | with_reducible assumption | (with_reducible apply foldl_within; intro _ _ h)
      | simp only [Within.upd_iff, (has_of hT (by decide) : Has T 24), or_true, true_or, eq_self]
      | with_reducible apply Within.ite | split | dsimp only)

theorem setSlot_within (h : Within T s0 s) (k : Nat) (v : Slot) (hT : 0x1000000 ||| T = T) : Within T s0 (setSlot s k
    v) := by
  unfold setSlot
  try dsimp only
  repeat' (
    first
      | with_reducible exact h | with_reducible rfl | (with_reducible refine sub_of ?_ hT; decide)
      | with_reducible assumption | with_reducible apply setLdg_within
      | (with_reducible apply foldl_within; intro _ _ h) | with_reducible apply Within.ite | split | dsimp only)

theorem setRun_within (h : Within T s0 s) (m : Nat) (r : ModelRun) (hT : 0x1000000 ||| T = T) : Within T s0 (setRun s
    m r) := by
  unfold setRun
  try dsimp only
  repeat' (
    first
      | with_reducible exact h | with_reducible rfl | (with_reducible refine sub_of ?_ hT; decide)
      | with_reducible assumption | with_reducible apply setLdg_within
      | (with_reducible apply foldl_within; intro _ _ h) | with_reducible apply Within.ite | split | dsimp only)

theorem sendUpdate_within (h : Within T s0 s) (m : Nat) (k : Nat) (st : Nat) (masked : Bool) (hT :
    0x2c0000000000130000800200000000000000000000000100000000000000000000000000000000000000000000000a78540000 ||| T =
    T) : Within T s0 (sendUpdate s m k st masked) := by
  unfold sendUpdate
  try dsimp only
  repeat' (
    first
      | with_reducible exact h | with_reducible rfl | (with_reducible refine sub_of ?_ hT; decide)
      | with_reducible assumption | with_reducible apply sendCtl_within
      | (with_reducible apply foldl_within; intro _ _ h) | with_reducible apply Within.ite | split | dsimp only)

theorem setSlotSt_within (h : Within T s0 s) (k : Nat) (st : Nat) (hT :
    0x2c0000000000130000800200000000000000000000000100000000000000000000000000000000000000000000000a79540000 ||| T =
    T) : Within T s0 (setSlotSt s k st) := by
  unfold setSlotSt
  try dsimp only
  repeat' (
    first
      | with_reducible exact h | with_reducible rfl | (with_reducible refine sub_of ?_ hT; decide)
      | with_reducible assumption | with_reducible apply sendUpdate_within | with_reducible apply setSlot_within
      | (with_reducible apply foldl_within; intro _ _ h) | with_reducible apply Within.ite | split | dsimp only)

theorem releasePages_within (h : Within T s0 s) (k : Nat) (hT : 0x1000000 ||| T = T) : Within T s0 (releasePages s k)
    := by
  unfold releasePages
  try dsimp only
  repeat' (
    first
      | with_reducible exact h | with_reducible rfl | (with_reducible refine sub_of ?_ hT; decide)
      | with_reducible assumption | with_reducible apply setSlot_within | with_reducible apply setLdg_within
      | (with_reducible apply foldl_within; intro _ _ h) | with_reducible apply Within.ite | split | dsimp only)

theorem takePages_within (h : Within T s0 s) (k : Nat) (l : List Nat) (hT : 0x1000000 ||| T = T) : Within T s0
    (takePages s k l) := by
  unfold takePages
  try dsimp only
  repeat' (
    first
      | with_reducible exact h | with_reducible rfl | (with_reducible refine sub_of ?_ hT; decide)
      | with_reducible assumption | with_reducible apply setSlot_within | with_reducible apply setLdg_within
      | (with_reducible apply foldl_within; intro _ _ h) | with_reducible apply Within.ite | split | dsimp only)

theorem freeSlot_within (h : Within T s0 s) (k : Nat) (hT :
    0x2c0000000000130000800200000000000000000000000100000000000000000000000000000000000000000000000a79540000 ||| T =
    T) : Within T s0 (freeSlot s k) := by
  unfold freeSlot
  try dsimp only
  repeat' (
    first
      | with_reducible exact h | with_reducible rfl | (with_reducible refine sub_of ?_ hT; decide)
      | with_reducible assumption | with_reducible apply releasePages_within
      | with_reducible apply sendUpdate_within | with_reducible apply setLdg_within
      | (with_reducible apply foldl_within; intro _ _ h) | with_reducible apply Within.ite | split | dsimp only)

theorem endControl_within (h : Within T s0 s) (c : Nat × Nat × Desc) (steps : Nat) (st : Status) (d : Nat) (t : Nat)
    (hT : 0x130000800200000000000000000000000000000000000000000007a0001f80700000000000000020da7c006f00 ||| T = T) :
    Within T s0 (endControl s c steps st d t) := by
  unfold endControl
  try dsimp only
  repeat' (
    first
      | with_reducible exact h | with_reducible rfl | (with_reducible refine sub_of ?_ hT; decide)
      | with_reducible assumption | with_reducible apply completeEntry_within
      | (with_reducible apply foldl_within; intro _ _ h) | with_reducible apply Within.ite | split | dsimp only)

theorem endRequest_within (h : Within T s0 s) (k : Nat) (st : Status) (d : Nat) (t : Nat) (hT :
    0x2c0000000000130000800200000000000000000000000100000000000000000007a0001f80700000000000000020da7d546f00 ||| T =
    T) : Within T s0 (endRequest s k st d t) := by
  unfold endRequest
  try dsimp only
  repeat' (
    first
      | with_reducible exact h | with_reducible rfl | (with_reducible refine sub_of ?_ hT; decide)
      | with_reducible assumption | with_reducible apply freeSlot_within | with_reducible apply abandonReads_within
      | with_reducible apply endControl_within | with_reducible apply completeEntry_within
      | (with_reducible apply foldl_within; intro _ _ h) | with_reducible apply Within.ite | split | dsimp only)

theorem beginPause_within (h : Within T s0 s) (k : Nat) (hT :
    0x2c0000000000130000800200000000000000000000000100000000000000000000000000000000000000000000000a79540000 ||| T =
    T) : Within T s0 (beginPause s k) := by
  unfold beginPause
  try dsimp only
  repeat' (
    first
      | with_reducible exact h | with_reducible rfl | (with_reducible refine sub_of ?_ hT; decide)
      | with_reducible assumption | with_reducible apply setSlotSt_within | with_reducible apply setSlot_within
      | (with_reducible apply foldl_within; intro _ _ h) | with_reducible apply Within.ite | split | dsimp only)

theorem settleSlot_within (h : Within T s0 s) (k : Nat) (t : Nat) (hT :
    0x2c0000000000130000800200000000000000000000000100000000000000000007a0001f80700000000000000020da7d546f00 ||| T =
    T) : Within T s0 (settleSlot s k t) := by
  unfold settleSlot
  try dsimp only
  repeat' (
    first
      | with_reducible exact h | with_reducible rfl | (with_reducible refine sub_of ?_ hT; decide)
      | with_reducible assumption | with_reducible apply endRequest_within | with_reducible apply beginPause_within
      | (with_reducible apply foldl_within; intro _ _ h) | with_reducible apply Within.ite | split | dsimp only)

theorem stepOver_within (h : Within T s0 s) (m : Nat) (t : Nat) (hT :
    0x2c0000000000130000800200000000000000000000000100000000000000000007a0001f80700000000000000020da7d546f00 ||| T =
    T) : Within T s0 (stepOver s m t) := by
  unfold stepOver
  try dsimp only
  repeat' (
    first
      | with_reducible exact h | with_reducible rfl | (with_reducible refine sub_of ?_ hT; decide)
      | with_reducible assumption | with_reducible apply setRun_within | with_reducible apply settleSlot_within
      | (with_reducible apply foldl_within; intro _ _ h) | with_reducible apply Within.ite | split | dsimp only)

theorem tellDecode_within (h : Within T s0 s) (k : Nat) (st : Status) (d : Nat) (hT :
    0x2c0000000000130000800200000000000000000000000100000000000000000000000000000000000000000000000a78540000 ||| T =
    T) : Within T s0 (tellDecode s k st d) := by
  unfold tellDecode
  try dsimp only
  repeat' (
    first
      | with_reducible exact h | with_reducible rfl | (with_reducible refine sub_of ?_ hT; decide)
      | with_reducible assumption | with_reducible apply sendCtl_within
      | (with_reducible apply foldl_within; intro _ _ h) | with_reducible apply Within.ite | split | dsimp only)

theorem stepFailed_within (h : Within T s0 s) (m : Nat) (rows : List Nat) (isStep : Bool) (st : Status) (d : Nat) (t :
    Nat) (hT :
    0x2c0000000000130000800200000000000804000000000100000000000000000007a0001f80700000000000000020da7d546f00 ||| T =
    T) : Within T s0 (stepFailed s m rows isStep st d t) := by
  unfold stepFailed
  try dsimp only
  repeat' (
    first
      | with_reducible exact h | with_reducible rfl | (with_reducible refine sub_of ?_ hT; decide)
      | with_reducible assumption | with_reducible apply raise_within | with_reducible apply bump_within
      | with_reducible apply setRun_within | with_reducible apply stepOver_within
      | with_reducible apply settleSlot_within | with_reducible apply endRequest_within
      | with_reducible apply tellDecode_within | with_reducible exact allowed_LDG_EVENT (has_of hT (by decide))
      | with_reducible exact allowed_LDG_STEP_FAIL_COUNT (has_of hT (by decide))
      | (with_reducible apply foldl_within; intro _ _ h) | with_reducible apply Within.ite | split | dsimp only)

theorem pauseFailed_within (h : Within T s0 s) (k : Nat) (st : Status) (d : Nat) (t : Nat) (hT :
    0x2c0000000000130000800200000000000000000000000100000000000000000007a0001f80700000000000000020da7d546f00 ||| T =
    T) : Within T s0 (pauseFailed s k st d t) := by
  unfold pauseFailed
  try dsimp only
  repeat' (
    first
      | with_reducible exact h | with_reducible rfl | (with_reducible refine sub_of ?_ hT; decide)
      | with_reducible assumption | with_reducible apply endControl_within | with_reducible apply setSlotSt_within
      | with_reducible apply setSlot_within | (with_reducible apply foldl_within; intro _ _ h)
      | with_reducible apply Within.ite | split | dsimp only)

theorem ledgerItemFailed_within (h : Within T s0 s) (src : ItemSrc) (st : Status) (d : Nat) (t : Nat) (hT :
    0x2c0000000000130000800200000000000804000000000100000000000000000007a0001f80700000000000000020da7d546f00 ||| T =
    T) : Within T s0 (ledgerItemFailed s src st d t) := by
  unfold ledgerItemFailed
  try dsimp only
  repeat' (
    first
      | with_reducible exact h | with_reducible rfl | (with_reducible refine sub_of ?_ hT; decide)
      | with_reducible assumption | with_reducible apply stepFailed_within | with_reducible apply pauseFailed_within
      | (with_reducible apply foldl_within; intro _ _ h) | with_reducible apply Within.ite | split | dsimp only)

end Sys2Proof.Machine
end

