-- ==== Sys2Proof/Laws/WithinSyncHome.lean ====
section
/-! SUPPORT. The places that the operations of Machine/SyncHome.lean may change (Laws/Within.lean). -/

namespace Sys2Proof.Machine

variable {T : Nat} {s0 s : State}

theorem setSync_within (h : Within T s0 s) (y : Sync) (hT : 0x20000 ||| T = T) : Within T s0 (setSync s y) := by
  unfold setSync
  try dsimp only
  repeat' (
    first
      | with_reducible exact h | with_reducible rfl | (with_reducible refine sub_of ?_ hT; decide)
      | with_reducible assumption | (with_reducible apply foldl_within; intro _ _ h)
      | simp only [Within.upd_iff, (has_of hT (by decide) : Has T 17), or_true, true_or, eq_self]
      | with_reducible apply Within.ite | split | dsimp only)

theorem applySet_within (h : Within T s0 s) (f : Nat) (by_ : Setter) (hT : 0x20000 ||| T = T) : Within T s0 (applySet
    s f by_) := by
  unfold applySet
  try dsimp only
  repeat' (
    first
      | with_reducible exact h | with_reducible rfl | (with_reducible refine sub_of ?_ hT; decide)
      | with_reducible assumption | with_reducible apply setSync_within
      | (with_reducible apply foldl_within; intro _ _ h) | with_reducible apply Within.ite | split | dsimp only)

theorem applyClear_within (h : Within T s0 s) (f : Nat) (hT : 0x20000 ||| T = T) : Within T s0 (applyClear s f) := by
  unfold applyClear
  try dsimp only
  repeat' (
    first
      | with_reducible exact h | with_reducible rfl | (with_reducible refine sub_of ?_ hT; decide)
      | with_reducible assumption | with_reducible apply setSync_within
      | (with_reducible apply foldl_within; intro _ _ h) | with_reducible apply Within.ite | split | dsimp only)

theorem endSpin_within (h : Within T s0 s) (issuer : Nat) (t : Nat) (hT : 0x20000 ||| T = T) : Within T s0 (endSpin s
    issuer t) := by
  unfold endSpin
  try dsimp only
  repeat' (
    first
      | with_reducible exact h | with_reducible rfl | (with_reducible refine sub_of ?_ hT; decide)
      | with_reducible assumption | with_reducible apply setSync_within
      | (with_reducible apply foldl_within; intro _ _ h) | with_reducible apply Within.ite | split | dsimp only)

theorem withdrawWaits_within (h : Within T s0 s) (t : Nat) (issuer : Nat) (hT : 0x20000 ||| T = T) : Within T s0
    (withdrawWaits s t issuer) := by
  unfold withdrawWaits
  try dsimp only
  repeat' (
    first
      | with_reducible exact h | with_reducible rfl | (with_reducible refine sub_of ?_ hT; decide)
      | with_reducible assumption | with_reducible apply endSpin_within | with_reducible apply setSync_within
      | (with_reducible apply foldl_within; intro _ _ h) | with_reducible apply Within.ite | split | dsimp only)

theorem syncFault_within (h : Within T s0 s) (f : Nat) (under : Bool) (p : Nat) (issuer : Nat) (t : Nat) (hT :
    0x1300008002000000000000000000000000000000000000d8000000000000000000000000000000000a78020000 ||| T = T) : Within T
    s0 (syncFault s f under p issuer t) := by
  unfold syncFault
  try dsimp only
  repeat' (
    first
      | with_reducible exact h | with_reducible rfl | (with_reducible refine sub_of ?_ hT; decide)
      | with_reducible assumption | with_reducible apply bump_within | with_reducible apply setSync_within
      | with_reducible apply wr_within | with_reducible apply raise_within
      | with_reducible exact allowed_SYNC_FAULT_LOG (has_of hT (by decide))
      | with_reducible exact allowed_SYNC_EVENT (has_of hT (by decide))
      | with_reducible exact allowed_SYNC_OVERFLOW_COUNT (has_of hT (by decide))
      | with_reducible exact allowed_SYNC_UNDERFLOW_COUNT (has_of hT (by decide))
      | (with_reducible apply foldl_within; intro _ _ h) | with_reducible apply Within.ite | split | dsimp only)

theorem overflowG1_within (h : Within T s0 s) (t : Nat) (hT :
    0x130000800200000000000000000000000000000000000048000000000000000000000000000000000a78000000 ||| T = T) : Within T
    s0 (overflowG1 s t) := by
  unfold overflowG1
  try dsimp only
  repeat' (
    first
      | with_reducible exact h | with_reducible rfl | (with_reducible refine sub_of ?_ hT; decide)
      | with_reducible assumption | with_reducible apply raise_within | with_reducible apply bump_within
      | with_reducible exact allowed_SYNC_EVENT (has_of hT (by decide))
      | with_reducible exact allowed_SYNC_OVERFLOW_COUNT (has_of hT (by decide))
      | (with_reducible apply foldl_within; intro _ _ h) | with_reducible apply Within.ite | split | dsimp only)

end Sys2Proof.Machine
end

