-- ==== Sys2Proof/Laws/WithinItems.lean ====
section
/-! SUPPORT. The places that the operations of Machine/Items.lean may change (Laws/Within.lean). -/

namespace Sys2Proof.Machine

variable {T : Nat} {s0 s : State}

theorem sendWithdraw_within (h : Within T s0 s) (tag : Nat) (tree : Nat) (members : List Nat) (rank : Option Nat) (hT
    : 0x2c0000000000130000800200000000000000000000000100000000200000000000000000000000000000000000000a78540000 ||| T =
    T) : Within T s0 (sendWithdraw s tag tree members rank) := by
  unfold sendWithdraw
  try dsimp only
  repeat' (
    first
      | with_reducible exact h | with_reducible rfl | (with_reducible refine sub_of ?_ hT; decide)
      | with_reducible assumption | with_reducible apply sendCtl_within | with_reducible apply bump_within
      | with_reducible apply emit_within
      | with_reducible exact allowed_HUB_WITHDRAW_TX_COUNT (has_of hT (by decide))
      | (with_reducible apply foldl_within; intro _ _ h) | with_reducible apply Within.ite | split | dsimp only)

theorem endCollective_within (h : Within T s0 s) (i : Nat) (d : Desc) (st : Status) (hT :
    0x2c8000000000130000800200000000000000000000000100000000200000000000000000000000000000000000000a78540000 ||| T =
    T) : Within T s0 (endCollective s i d st) := by
  unfold endCollective
  try dsimp only
  repeat' (
    first
      | with_reducible exact h | with_reducible rfl | (with_reducible refine sub_of ?_ hT; decide)
      | with_reducible assumption | with_reducible apply wr_within | with_reducible apply sendWithdraw_within
      | with_reducible exact allowed_HUB_STRM_STAT _ _ (has_of hT (by decide))
      | (with_reducible apply foldl_within; intro _ _ h)
      | simp only [Within.upd_iff, (has_of hT (by decide) : Has T 22), or_true, true_or, eq_self]
      | with_reducible apply Within.ite | split | dsimp only)

theorem setDone_within (h : Within T s0 s) (it : Item) (st : Status) (d : Nat) (t : Nat) (hT :
    0x1300008002000000000000000000000000000000000000d8000000000000000000000000000000000a78020000 ||| T = T) : Within T
    s0 (setDone s it st d t).2 := by
  unfold setDone
  try dsimp only
  repeat' (
    first
      | with_reducible exact h | with_reducible rfl | (with_reducible refine sub_of ?_ hT; decide)
      | with_reducible assumption | with_reducible apply overflowG1_within | with_reducible apply syncFault_within
      | with_reducible apply applySet_within | (with_reducible apply foldl_within; intro _ _ h)
      | (with_reducible apply foldl_fst_within; intro _ _ h) | (with_reducible apply foldl_snd_within; intro _ _ h)
      | with_reducible apply Within.ite | split | dsimp only)

theorem recordItem_within (h : Within T s0 s) (it : Item) (st : Status) (d : Nat) (invalid : Bool) (t : Nat) (hT :
    0x2c0000000000130000800200000000000804000000000100001000000000000017a0001f80700000000000000020da7d546f80 ||| T =
    T) : Within T s0 (recordItem s it st d invalid t) := by
  unfold recordItem
  try dsimp only
  repeat' (
    first
      | with_reducible exact h | with_reducible rfl | (with_reducible refine sub_of ?_ hT; decide)
      | with_reducible assumption | with_reducible apply bump_within | with_reducible apply completeEntry_within
      | with_reducible apply completeStanding_within | with_reducible apply ledgerItemFailed_within
      | with_reducible exact allowed_LNK_ISO_ITEM_COUNT (has_of hT (by decide))
      | (with_reducible apply foldl_within; intro _ _ h) | with_reducible apply Within.ite | split | dsimp only)

theorem haltItem_within (h : Within T s0 s) (i : Nat) (st : Status) (t : Nat) (hT :
    0x2c8000000000130000800200000000000000000000000100000000200000000000000000000000000000000000000a78560a80 ||| T =
    T) : Within T s0 (haltItem s i st t) := by
  unfold haltItem
  try dsimp only
  repeat' (
    first
      | with_reducible exact h | with_reducible rfl | (with_reducible refine sub_of ?_ hT; decide)
      | with_reducible assumption | with_reducible apply withdrawWaits_within | with_reducible apply setItem_within
      | with_reducible apply endCollective_within | with_reducible apply abandonReads_within
      | (with_reducible apply foldl_within; intro _ _ h) | with_reducible apply Within.ite | split | dsimp only)

theorem endItem_within (h : Within T s0 s) (i : Nat) (causes : List (Status × Nat)) (bad : Option Bool) (t : Nat) (hT
    : 0x2c80000000001300008002000000000008040000000001000010002000d8000017a0001f80700000010000000020da7d566f80 ||| T =
    T) : Within T s0 (endItem s i causes bad t) := by
  unfold endItem
  try dsimp only
  repeat' (
    first
      | with_reducible exact h | with_reducible rfl | (with_reducible refine sub_of ?_ hT; decide)
      | with_reducible assumption | with_reducible apply bump_within | with_reducible apply setDone_within
      | with_reducible apply haltItem_within | with_reducible apply recordItem_within
      | with_reducible exact allowed_TICK_OVERRUN_COUNT (has_of hT (by decide))
      | (with_reducible apply foldl_within; intro _ _ h) | (with_reducible apply foldl_fst_within; intro _ _ h)
      | (with_reducible apply foldl_snd_within; intro _ _ h) | with_reducible apply Within.ite | split | dsimp only)

theorem skipPeriodic_within (h : Within T s0 s) (e : Nat) (t : Nat) (hT :
    0x2c80000000001300008002000000000008040000000001000010002000d8000017a0001f80700000030000000020da7d566f80 ||| T =
    T) : Within T s0 (skipPeriodic e t s) := by
  unfold skipPeriodic
  try dsimp only
  repeat' (
    first
      | with_reducible exact h | with_reducible rfl | (with_reducible refine sub_of ?_ hT; decide)
      | with_reducible assumption | with_reducible apply endItem_within | with_reducible apply bump_within
      | with_reducible exact allowed_TICK_SKIP_COUNT (has_of hT (by decide))
      | (with_reducible apply foldl_within; intro _ _ h) | with_reducible apply Within.ite | split | dsimp only)

theorem endWork_within (h : Within T s0 s) (i : Nat) (causes : List (Status × Nat)) (bad : Option Bool) (t : Nat) (hT
    : 0x2c80000000001300008002000000000008040000000001000010002000d8000017a0001f80700000030000000020da7d566f80 ||| T =
    T) : Within T s0 (endWork s i causes bad t) := by
  unfold endWork
  try dsimp only
  repeat' (
    first
      | with_reducible exact h | with_reducible rfl | (with_reducible refine sub_of ?_ hT; decide)
      | with_reducible assumption | with_reducible apply endItem_within | with_reducible apply skipPeriodic_within
      | (with_reducible apply foldl_within; intro _ _ h) | with_reducible apply Within.ite | split | dsimp only)

theorem freshBuffer_within (h : Within T s0 s) (stream : Nat) (hT : 0x800000000000 ||| T = T) : Within T s0
    (freshBuffer s stream) := by
  unfold freshBuffer
  try dsimp only
  repeat' (
    first
      | with_reducible exact h | with_reducible rfl | (with_reducible refine sub_of ?_ hT; decide)
      | with_reducible assumption | (with_reducible apply foldl_within; intro _ _ h)
      | simp only [Within.upd_iff, (has_of hT (by decide) : Has T 47), or_true, true_or, eq_self]
      | with_reducible apply Within.ite | split | dsimp only)

theorem enterLane_within (h : Within T s0 s) (t : Nat) (stream : Nat) (hT :
    0x2c80000000001300008002000000000008040000000001000010002000d8000017a0001f807000000100000000a0da7d566f80 ||| T =
    T) : Within T s0 (enterLane s t stream) := by
  unfold enterLane
  try dsimp only
  repeat' (
    first
      | with_reducible exact h | with_reducible rfl | (with_reducible refine sub_of ?_ hT; decide)
      | with_reducible assumption | with_reducible apply setSpoke_within | with_reducible apply freshBuffer_within
      | with_reducible apply endItem_within | (with_reducible apply foldl_within; intro _ _ h)
      | with_reducible apply Within.ite | split | dsimp only)

theorem finishItem_within (h : Within T s0 s) (i : Nat) (causes : List (Status × Nat)) (bad : Option Bool) (t : Nat)
    (hT : 0x2c80000000001300008002000000000008040000000001000010002000d8000017a0001f807000000300000000a0da7d566f80 |||
    T = T) : Within T s0 (finishItem s i causes bad t) := by
  unfold finishItem
  try dsimp only
  repeat' (
    first
      | with_reducible exact h | with_reducible rfl | (with_reducible refine sub_of ?_ hT; decide)
      | with_reducible assumption | with_reducible apply enterLane_within | with_reducible apply endWork_within
      | (with_reducible apply foldl_within; intro _ _ h) | with_reducible apply Within.ite | split | dsimp only)

theorem abortIssuer_within (h : Within T s0 s) (issuer : Nat) (st : Status) (d : Nat) (bad : Bool) (t : Nat) (hT :
    0x2c80000000001300008002000000000008040000000001000010002000d8000017a0001f807000000300000000a0da7d566f80 ||| T =
    T) : Within T s0 (abortIssuer s issuer st d bad t) := by
  unfold abortIssuer
  try dsimp only
  repeat' (
    first
      | with_reducible exact h | with_reducible rfl | (with_reducible refine sub_of ?_ hT; decide)
      | with_reducible assumption | with_reducible apply finishItem_within
      | (with_reducible apply foldl_within; intro _ _ h) | with_reducible apply Within.ite | split | dsimp only)

end Sys2Proof.Machine
end

