-- ==== Sys2Proof/Laws/WithinSyncFlags.lean ====
section
/-! SUPPORT. The places that the operations of Machine/SyncFlags.lean may change (Laws/Within.lean). -/

namespace Sys2Proof.Machine

variable {T : Nat} {s0 s : State}

theorem flagReject_within (h : Within T s0 s) (issuer : Nat) (f : Nat) (t : Nat) (hT :
    0x2c80000000001300008002000000000008040000000001000010002000d8000017a10e1f807000000300000000a0da7d576f80 ||| T =
    T) : Within T s0 (flagReject s issuer f t) := by
  unfold flagReject
  try dsimp only
  repeat' (
    first
      | with_reducible exact h | with_reducible rfl | (with_reducible refine sub_of ?_ hT; decide)
      | with_reducible assumption | with_reducible apply abortIssuer_within | with_reducible apply syncReject_within
      | (with_reducible apply foldl_within; intro _ _ h) | with_reducible apply Within.ite | split | dsimp only)

theorem doSet_within (h : Within T s0 s) (issuer : Nat) (f : Nat) (t : Nat) (hT :
    0x2c80000000001300008002000000000008040000000001000010002000d8000017a10e1f807000000300000000a0da7d576f80 ||| T =
    T) : Within T s0 (doSet s issuer f t) := by
  unfold doSet
  try dsimp only
  repeat' (
    first
      | with_reducible exact h | with_reducible rfl | (with_reducible refine sub_of ?_ hT; decide)
      | with_reducible assumption | with_reducible apply abortIssuer_within | with_reducible apply flagReject_within
      | with_reducible apply overflowG1_within | with_reducible apply syncFault_within
      | with_reducible apply applySet_within | (with_reducible apply foldl_within; intro _ _ h)
      | with_reducible apply Within.ite | split | dsimp only)

theorem doClear_within (h : Within T s0 s) (issuer : Nat) (f : Nat) (t : Nat) (hT :
    0x2c80000000001300008002000000000008040000000001000010002000d8000017a10e1f807000000300000000a0da7d576f80 ||| T =
    T) : Within T s0 (doClear s issuer f t) := by
  unfold doClear
  try dsimp only
  repeat' (
    first
      | with_reducible exact h | with_reducible rfl | (with_reducible refine sub_of ?_ hT; decide)
      | with_reducible assumption | with_reducible apply abortIssuer_within | with_reducible apply flagReject_within
      | with_reducible apply applyClear_within | with_reducible apply syncFault_within
      | (with_reducible apply foldl_within; intro _ _ h) | with_reducible apply Within.ite | split | dsimp only)

theorem doWait_within (h : Within T s0 s) (issuer : Nat) (f : Nat) (clr : Bool) (t : Nat) (hT :
    0x2c80000000001300008002000000000008040000000001000010002000d8000017a10e1f807000000300000000a0da7d576f80 ||| T =
    T) : Within T s0 (doWait s issuer f clr t) := by
  unfold doWait
  try dsimp only
  repeat' (
    first
      | with_reducible exact h | with_reducible rfl | (with_reducible refine sub_of ?_ hT; decide)
      | with_reducible assumption | with_reducible apply abortIssuer_within | with_reducible apply flagReject_within
      | with_reducible apply setSync_within | (with_reducible apply foldl_within; intro _ _ h)
      | with_reducible apply Within.ite | split | dsimp only)

theorem execFlagSet_within (issuer : Nat) (flag : Nat) (t : Nat) (hT :
    0x2c80000000001300008002000000000008040000000001000010002000d8000017a10e1f807000000300000000a0da7d576f80 ||| T =
    T) : WithinOut T s (execFlagSet issuer flag t s) := by
  have h : Within T s s := Within.start
  unfold execFlagSet
  try dsimp only
  repeat' (
    first
      | with_reducible exact h | with_reducible rfl | (with_reducible refine sub_of ?_ hT; decide)
      | with_reducible assumption | with_reducible exact WithinOut.fault _ | with_reducible apply WithinOut.next
      | with_reducible apply doSet_within | (with_reducible apply foldl_within; intro _ _ h)
      | with_reducible apply Within.ite | with_reducible apply WithinOut.ite | split | dsimp only)

theorem execFlagClear_within (issuer : Nat) (flag : Nat) (t : Nat) (hT :
    0x2c80000000001300008002000000000008040000000001000010002000d8000017a10e1f807000000300000000a0da7d576f80 ||| T =
    T) : WithinOut T s (execFlagClear issuer flag t s) := by
  have h : Within T s s := Within.start
  unfold execFlagClear
  try dsimp only
  repeat' (
    first
      | with_reducible exact h | with_reducible rfl | (with_reducible refine sub_of ?_ hT; decide)
      | with_reducible assumption | with_reducible exact WithinOut.fault _ | with_reducible apply WithinOut.next
      | with_reducible apply doClear_within | (with_reducible apply foldl_within; intro _ _ h)
      | with_reducible apply Within.ite | with_reducible apply WithinOut.ite | split | dsimp only)

theorem execFlagWait_within (issuer : Nat) (flag : Nat) (t : Nat) (hT :
    0x2c80000000001300008002000000000008040000000001000010002000d8000017a10e1f807000000300000000a0da7d576f80 ||| T =
    T) : WithinOut T s (execFlagWait issuer flag t s) := by
  have h : Within T s s := Within.start
  unfold execFlagWait
  try dsimp only
  repeat' (
    first
      | with_reducible exact h | with_reducible rfl | (with_reducible refine sub_of ?_ hT; decide)
      | with_reducible assumption | with_reducible exact WithinOut.fault _ | with_reducible apply WithinOut.next
      | with_reducible apply doWait_within | (with_reducible apply foldl_within; intro _ _ h)
      | with_reducible apply Within.ite | with_reducible apply WithinOut.ite | split | dsimp only)

theorem execFlagWaitClr_within (issuer : Nat) (flag : Nat) (t : Nat) (hT :
    0x2c80000000001300008002000000000008040000000001000010002000d8000017a10e1f807000000300000000a0da7d576f80 ||| T =
    T) : WithinOut T s (execFlagWaitClr issuer flag t s) := by
  have h : Within T s s := Within.start
  unfold execFlagWaitClr
  try dsimp only
  repeat' (
    first
      | with_reducible exact h | with_reducible rfl | (with_reducible refine sub_of ?_ hT; decide)
      | with_reducible assumption | with_reducible exact WithinOut.fault _ | with_reducible apply WithinOut.next
      | with_reducible apply doWait_within | (with_reducible apply foldl_within; intro _ _ h)
      | with_reducible apply Within.ite | with_reducible apply WithinOut.ite | split | dsimp only)

theorem execTileSet_within (core : Nat) (flag : Nat) (t : Nat) (hT :
    0x2c80000000001300008002000000000008040000000001000010002000d8000017a10e1f807000000300000000a0da7d576f80 ||| T =
    T) : WithinOut T s (execTileSet core flag t s) := by
  have h : Within T s s := Within.start
  unfold execTileSet
  try dsimp only
  repeat' (
    first
      | with_reducible exact h | with_reducible rfl | (with_reducible refine sub_of ?_ hT; decide)
      | with_reducible assumption | with_reducible exact WithinOut.fault _ | with_reducible apply WithinOut.next
      | with_reducible apply doSet_within | with_reducible apply syncReject_within
      | with_reducible apply abortIssuer_within | (with_reducible apply foldl_within; intro _ _ h)
      | with_reducible apply Within.ite | with_reducible apply WithinOut.ite | split | dsimp only)

theorem execWaiterRelease_within (issuer : Nat) (t : Nat) (hT : 0x420000 ||| T = T) : WithinOut T s (execWaiterRelease
    issuer t s) := by
  have h : Within T s s := Within.start
  unfold execWaiterRelease
  try dsimp only
  repeat' (
    first
      | with_reducible exact h | with_reducible rfl | (with_reducible refine sub_of ?_ hT; decide)
      | with_reducible assumption | with_reducible exact WithinOut.fault _ | with_reducible apply WithinOut.next
      | with_reducible apply endSpin_within | with_reducible apply setSync_within
      | with_reducible apply setSpoke_within | (with_reducible apply foldl_within; intro _ _ h)
      | with_reducible apply Within.ite | with_reducible apply WithinOut.ite | split | dsimp only)

theorem auditManual_within (h : Within T s0 s) (f : Nat) (part : Nat) (set : Bool) (src : Requester) (result : Nat) (t
    : Nat) (hT : 0x130000800200000000000000000000000000000000000108000000000000000000000000000000000a78020000 ||| T =
    T) : Within T s0 (auditManual s f part set src result t) := by
  unfold auditManual
  try dsimp only
  repeat' (
    first
      | with_reducible exact h | with_reducible rfl | (with_reducible refine sub_of ?_ hT; decide)
      | with_reducible assumption | with_reducible apply setSync_within | with_reducible apply raise_within
      | with_reducible apply bump_within | with_reducible exact allowed_SYNC_EVENT (has_of hT (by decide))
      | with_reducible exact allowed_SYNC_DBG_COUNT (has_of hT (by decide))
      | (with_reducible apply foldl_within; intro _ _ h) | with_reducible apply Within.ite | split | dsimp only)

theorem manualOp_within (h : Within T s0 s) (f : Nat) (part : Nat) (set : Bool) (src : Requester) (t : Nat) (hT :
    0x13000080020000000000000000000000000000000000010800000000001f807000000000000000000a78022000 ||| T = T) : Within T
    s0 (manualOp s f part set src t) := by
  unfold manualOp
  try dsimp only
  repeat' (
    first
      | with_reducible exact h | with_reducible rfl | (with_reducible refine sub_of ?_ hT; decide)
      | with_reducible assumption | with_reducible apply auditManual_within | with_reducible apply applySet_within
      | with_reducible apply applyClear_within | with_reducible apply fenceRefuse_within
      | (with_reducible apply foldl_within; intro _ _ h) | with_reducible apply Within.ite | split | dsimp only)

theorem execManualSet_within (flag : Nat) (part : Nat) (src : Requester) (t : Nat) (hT :
    0x13000080020000000000000000000000000000000000010800000000001f807000000000000000000a78022000 ||| T = T) :
    WithinOut T s (execManualSet flag part src t s) := by
  have h : Within T s s := Within.start
  unfold execManualSet
  try dsimp only
  repeat' (
    first
      | with_reducible exact h | with_reducible rfl | (with_reducible refine sub_of ?_ hT; decide)
      | with_reducible assumption | with_reducible exact WithinOut.fault _ | with_reducible apply WithinOut.next
      | with_reducible apply manualOp_within | (with_reducible apply foldl_within; intro _ _ h)
      | with_reducible apply Within.ite | with_reducible apply WithinOut.ite | split | dsimp only)

theorem execManualClear_within (flag : Nat) (part : Nat) (src : Requester) (t : Nat) (hT :
    0x13000080020000000000000000000000000000000000010800000000001f807000000000000000000a78022000 ||| T = T) :
    WithinOut T s (execManualClear flag part src t s) := by
  have h : Within T s s := Within.start
  unfold execManualClear
  try dsimp only
  repeat' (
    first
      | with_reducible exact h | with_reducible rfl | (with_reducible refine sub_of ?_ hT; decide)
      | with_reducible assumption | with_reducible exact WithinOut.fault _ | with_reducible apply WithinOut.next
      | with_reducible apply manualOp_within | (with_reducible apply foldl_within; intro _ _ h)
      | with_reducible apply Within.ite | with_reducible apply WithinOut.ite | split | dsimp only)

end Sys2Proof.Machine
end

