-- ==== Sys2Proof/Laws/WithinCollective.lean ====
section
/-! SUPPORT. The places that the operations of Machine/Collective.lean may change (Laws/Within.lean). -/

namespace Sys2Proof.Machine

variable {T : Nat} {s0 s : State}

theorem sendBridge_within (h : Within T s0 s) (stream : Nat) (part : Nat) (p : Packet) (t : Nat) (hT :
    0x2c000000000013000080020000000000000000000000000000000000000000000000ce00000000000000000000000a78550000 ||| T =
    T) : Within T s0 (sendBridge s stream part p t) := by
  unfold sendBridge
  try dsimp only
  repeat' (
    first
      | with_reducible exact h | with_reducible rfl | (with_reducible refine sub_of ?_ hT; decide)
      | with_reducible assumption | with_reducible apply toPort_within | with_reducible apply packetReject_within
      | with_reducible apply emit_within | with_reducible apply preempt_within
      | (with_reducible apply foldl_within; intro _ _ h) | with_reducible apply Within.ite | split | dsimp only)

theorem sendColl_within (h : Within T s0 s) (stream : Nat) (o : CollOp) (ptype : Nat) (dst : Nat × Nat) (tag : Nat)
    (offset : Nat) (m : Msg) (data : List Byte) (t : Nat) (hT :
    0x2c000000000013000080020000000000000000000000010000000000000000000000ce1f807000000000000000000a7855a000 ||| T =
    T) : Within T s0 (sendColl s stream o ptype dst tag offset m data t) := by
  unfold sendColl
  try dsimp only
  repeat' (
    first
      | with_reducible exact h | with_reducible rfl | (with_reducible refine sub_of ?_ hT; decide)
      | with_reducible assumption | with_reducible apply sendOwn_within | with_reducible apply sendBridge_within
      | (with_reducible apply foldl_within; intro _ _ h) | with_reducible apply Within.ite | split | dsimp only)

theorem sendDown_within (h : Within T s0 s) (stream : Nat) (o : CollOp) (m : Msg) (t : Nat) (hT :
    0x2c000000000013000080020000000000000000000000010000000000000000000000ce1f807000000000000000000a7855a000 ||| T =
    T) : Within T s0 (sendDown s stream o m t) := by
  unfold sendDown
  try dsimp only
  repeat' (
    first
      | with_reducible exact h | with_reducible rfl | (with_reducible refine sub_of ?_ hT; decide)
      | with_reducible assumption | with_reducible apply sendColl_within
      | (with_reducible apply foldl_within; intro _ _ h) | with_reducible apply Within.ite | split | dsimp only)

theorem sendUp_within (h : Within T s0 s) (stream : Nat) (o : CollOp) (tag : Nat) (m : Msg) (t : Nat) (hT :
    0x2c000000000013000080020000000000000000000000010000000000000000000000ce1f807000000000000000000a7855a000 ||| T =
    T) : Within T s0 (sendUp s stream o tag m t) := by
  unfold sendUp
  try dsimp only
  repeat' (
    first
      | with_reducible exact h | with_reducible rfl | (with_reducible refine sub_of ?_ hT; decide)
      | with_reducible assumption | with_reducible apply sendColl_within
      | (with_reducible apply foldl_within; intro _ _ h) | with_reducible apply Within.ite | split | dsimp only)

theorem updOp_within (h : Within T s0 s) (stream : Nat) (f : CollOp → CollOp) (hT : 0x400000 ||| T = T) : Within T s0
    (updOp s stream f) := by
  unfold updOp
  try dsimp only
  repeat' (
    first
      | with_reducible exact h | with_reducible rfl | (with_reducible refine sub_of ?_ hT; decide)
      | with_reducible assumption | with_reducible apply setOp_within
      | (with_reducible apply foldl_within; intro _ _ h) | with_reducible apply Within.ite | split | dsimp only)

theorem restartSpoke_within (h : Within T s0 s) (i : Nat) (cause : Nat) (t : Nat) (hT :
    0x2c0000000000130000800200000000000000000000000000000000000000000000000000000000000000000000000a78420000 ||| T =
    T) : Within T s0 (restartSpoke s i cause t) := by
  unfold restartSpoke
  try dsimp only
  repeat' (
    first
      | with_reducible exact h | with_reducible rfl | (with_reducible refine sub_of ?_ hT; decide)
      | with_reducible assumption | with_reducible apply raise_within | with_reducible apply wr_within
      | with_reducible apply bump_within | with_reducible apply setSpoke_within
      | with_reducible apply withdrawWaits_within | with_reducible exact allowed_SPK_EVENT _ (has_of hT (by decide))
      | with_reducible exact allowed_SPK_LAST_CAUSE _ _ (has_of hT (by decide))
      | with_reducible exact allowed_SPK_RESTART_COUNT _ _ (has_of hT (by decide))
      | (with_reducible apply foldl_within; intro _ _ h) | with_reducible apply Within.ite | split | dsimp only)

theorem logMissing_within (h : Within T s0 s) (stream : Nat) (o : CollOp) (rank : Nat) (cause : Nat) (after : Bool) (t
    : Nat) (hT : 0xc000000000000000000000000000000000000000400000 ||| T = T) : Within T s0 (logMissing s stream o rank
    cause after t) := by
  unfold logMissing
  try dsimp only
  repeat' (
    first
      | with_reducible exact h | with_reducible rfl | (with_reducible refine sub_of ?_ hT; decide)
      | with_reducible assumption | with_reducible apply wr_within
      | with_reducible exact allowed_HUB_COLL_LOG_1 (has_of hT (by decide))
      | with_reducible exact allowed_HUB_COLL_LOG_0 (has_of hT (by decide))
      | (with_reducible apply foldl_within; intro _ _ h)
      | simp only [Within.upd_iff, (has_of hT (by decide) : Has T 22), or_true, true_or, eq_self]
      | with_reducible apply Within.ite | split | dsimp only)

theorem countMissing_within (h : Within T s0 s) (stream : Nat) (o : CollOp) (rank : Nat) (cause : Nat) (after : Bool)
    (t : Nat) (hT : 0x13000080020000000000000000000000000000000004e000000000000000000000000000000000000a78400000 ||| T
    = T) : Within T s0 (countMissing s stream o rank cause after t) := by
  unfold countMissing
  try dsimp only
  repeat' (
    first
      | with_reducible exact h | with_reducible rfl | (with_reducible refine sub_of ?_ hT; decide)
      | with_reducible assumption | with_reducible apply updOp_within | with_reducible apply logMissing_within
      | with_reducible apply raise_within | with_reducible apply bump_within
      | with_reducible exact allowed_HUB_COLL_EVENT (has_of hT (by decide))
      | with_reducible exact allowed_HUB_MEMBER_MISSING_COUNT (has_of hT (by decide))
      | (with_reducible apply foldl_within; intro _ _ h) | with_reducible apply Within.ite | split | dsimp only)

theorem leaveOut_within (h : Within T s0 s) (stream : Nat) (o : CollOp) (rank : Nat) (cause : Nat) (t : Nat) (hT :
    0x13000080020000000000000000000000000000000004e000000000000000000000000000000000000a78400000 ||| T = T) : Within T
    s0 (leaveOut s stream o rank cause t) := by
  unfold leaveOut
  try dsimp only
  repeat' (
    first
      | with_reducible exact h | with_reducible rfl | (with_reducible refine sub_of ?_ hT; decide)
      | with_reducible assumption | with_reducible apply updOp_within | with_reducible apply countMissing_within
      | (with_reducible apply foldl_within; intro _ _ h) | with_reducible apply Within.ite | split | dsimp only)

theorem dropMember_within (h : Within T s0 s) (stream : Nat) (rank : Nat) (cause : Nat) (t : Nat) (hT :
    0x13000080020000000000000000000000000000000004e000000000000000000000000000000000000a78400000 ||| T = T) : Within T
    s0 (dropMember s stream rank cause t) := by
  unfold dropMember
  try dsimp only
  repeat' (
    first
      | with_reducible exact h | with_reducible rfl | (with_reducible refine sub_of ?_ hT; decide)
      | with_reducible assumption | with_reducible apply leaveOut_within | with_reducible apply updOp_within
      | with_reducible apply countMissing_within | (with_reducible apply foldl_within; intro _ _ h)
      | with_reducible apply Within.ite | split | dsimp only)

theorem loseMember_within (h : Within T s0 s) (stream : Nat) (rank : Nat) (cause : Nat) (t : Nat) (hT :
    0x2c000000000013000080020000000000000000000000000000000004e000000000000000000000000000000000000a78420000 ||| T =
    T) : Within T s0 (loseMember s stream rank cause t) := by
  unfold loseMember
  try dsimp only
  repeat' (
    first
      | with_reducible exact h | with_reducible rfl | (with_reducible refine sub_of ?_ hT; decide)
      | with_reducible assumption | with_reducible apply dropMember_within
      | with_reducible apply restartSpoke_within | (with_reducible apply foldl_within; intro _ _ h)
      | with_reducible apply Within.ite | split | dsimp only)

theorem formSeal_within (h : Within T s0 s) (stream : Nat) (t : Nat) (hT :
    0x2c000000000013000080020000000000000000000000010000000000000000000000ce1f807000000000000000000a7855a000 ||| T =
    T) : Within T s0 (formSeal s stream t) := by
  unfold formSeal
  try dsimp only
  repeat' (
    first
      | with_reducible exact h | with_reducible rfl | (with_reducible refine sub_of ?_ hT; decide)
      | with_reducible assumption | with_reducible apply setOp_within | with_reducible apply sendDown_within
      | (with_reducible apply foldl_within; intro _ _ h) | with_reducible apply Within.ite | split | dsimp only)

theorem sealWhenReady_within (h : Within T s0 s) (stream : Nat) (t : Nat) (hT :
    0x2c000000000013000080020000000000000000000000010000000000000000000000ce1f807000000000000000000a7855a000 ||| T =
    T) : Within T s0 (sealWhenReady s stream t) := by
  unfold sealWhenReady
  try dsimp only
  repeat' (
    first
      | with_reducible exact h | with_reducible rfl | (with_reducible refine sub_of ?_ hT; decide)
      | with_reducible assumption | with_reducible apply formSeal_within
      | (with_reducible apply foldl_within; intro _ _ h) | with_reducible apply Within.ite | split | dsimp only)

theorem armRound_within (h : Within T s0 s) (stream : Nat) (t : Nat) (hT :
    0x2c000000000013000080020000000000000000000000010000000004e00000000000ce1f807000000000000000000a7855a000 ||| T =
    T) : Within T s0 (armRound s stream t) := by
  unfold armRound
  try dsimp only
  repeat' (
    first
      | with_reducible exact h | with_reducible rfl | (with_reducible refine sub_of ?_ hT; decide)
      | with_reducible assumption | with_reducible apply updOp_within | with_reducible apply leaveOut_within
      | with_reducible apply sealWhenReady_within | with_reducible apply sendUp_within
      | (with_reducible apply foldl_within; intro _ _ h) | with_reducible apply Within.ite | split | dsimp only)

theorem beginArm_within (h : Within T s0 s) (stream : Nat) (t : Nat) (hT :
    0x2c800000000013000080020000000000080400000000010000100024e0d8000017a0ce1f807000000300000000a0da7d57ef80 ||| T =
    T) : Within T s0 (beginArm s stream t) := by
  unfold beginArm
  try dsimp only
  repeat' (
    first
      | with_reducible exact h | with_reducible rfl | (with_reducible refine sub_of ?_ hT; decide)
      | with_reducible assumption | with_reducible apply finishItem_within | with_reducible apply armRound_within
      | with_reducible apply setOp_within | (with_reducible apply foldl_within; intro _ _ h)
      | with_reducible apply Within.ite | split | dsimp only)

theorem execArmMessageRx_within (stream : Nat) (a : ArmMsg) (t : Nat) (hT :
    0x2c00000000001300008002000000000000000000000001000000000ce00000000000ce1f807000000000000000000a7855a000 ||| T =
    T) : WithinOut T s (execArmMessageRx stream a t s) := by
  have h : Within T s s := Within.start
  unfold execArmMessageRx
  try dsimp only
  repeat' (
    first
      | with_reducible exact h | with_reducible rfl | (with_reducible refine sub_of ?_ hT; decide)
      | with_reducible assumption | with_reducible exact WithinOut.fault _ | with_reducible apply WithinOut.next
      | with_reducible apply sendUp_within | with_reducible apply updOp_within | with_reducible apply raise_within
      | with_reducible apply bump_within | with_reducible apply sealWhenReady_within
      | with_reducible apply leaveOut_within | with_reducible exact allowed_HUB_COLL_EVENT (has_of hT (by decide))
      | with_reducible exact allowed_HUB_SIG_MISMATCH_COUNT (has_of hT (by decide))
      | (with_reducible apply foldl_within; intro _ _ h) | with_reducible apply Within.ite
      | with_reducible apply WithinOut.ite | split | dsimp only)

theorem countConseq_within (h : Within T s0 s) (t : Nat) (hT :
    0x130000800200000000000000000000000000000022000000000000000000000000000000000000000a78000000 ||| T = T) : Within T
    s0 (countConseq s t) := by
  unfold countConseq
  try dsimp only
  repeat' (
    first
      | with_reducible exact h | with_reducible rfl | (with_reducible refine sub_of ?_ hT; decide)
      | with_reducible assumption | with_reducible apply raise_within | with_reducible apply bump_within
      | with_reducible exact allowed_LNK_EVENT (has_of hT (by decide))
      | with_reducible exact allowed_LNK_CONSEQ_COUNT (has_of hT (by decide))
      | (with_reducible apply foldl_within; intro _ _ h) | with_reducible apply Within.ite | split | dsimp only)

theorem noteTimeout_within (h : Within T s0 s) (tag : Nat) (hT : 0x200000 ||| T = T) : Within T s0 (noteTimeout s tag)
    := by
  unfold noteTimeout
  try dsimp only
  repeat' (
    first
      | with_reducible exact h | with_reducible rfl | (with_reducible refine sub_of ?_ hT; decide)
      | with_reducible assumption | (with_reducible apply foldl_within; intro _ _ h)
      | simp only [Within.upd_iff, (has_of hT (by decide) : Has T 21), or_true, true_or, eq_self]
      | with_reducible apply Within.ite | split | dsimp only)

theorem closedTimeout_within (h : Within T s0 s) (stream : Nat) (t : Nat) (hT :
    0x130000800200000000000000000000000000000022000000000000000000000000000000000000000a78200000 ||| T = T) : Within T
    s0 (closedTimeout s stream t) := by
  unfold closedTimeout
  try dsimp only
  repeat' (
    first
      | with_reducible exact h | with_reducible rfl | (with_reducible refine sub_of ?_ hT; decide)
      | with_reducible assumption | with_reducible apply countConseq_within
      | (with_reducible apply foldl_within; intro _ _ h)
      | simp only [Within.upd_iff, (has_of hT (by decide) : Has T 21), or_true, true_or, eq_self]
      | with_reducible apply Within.ite | split | dsimp only)

theorem execArmStepTimeout_within (stream : Nat) (t : Nat) (hT :
    0x2c000000000013000080020000000000000000000000010000002204e00000000000ce1f807000000000000000000a7875a000 ||| T =
    T) : WithinOut T s (execArmStepTimeout stream t s) := by
  have h : Within T s s := Within.start
  unfold execArmStepTimeout
  try dsimp only
  repeat' (
    first
      | with_reducible exact h | with_reducible rfl | (with_reducible refine sub_of ?_ hT; decide)
      | with_reducible assumption | with_reducible exact WithinOut.fault _ | with_reducible apply WithinOut.next
      | with_reducible apply closedTimeout_within | with_reducible apply updOp_within
      | with_reducible apply countConseq_within | with_reducible apply leaveOut_within
      | with_reducible apply noteTimeout_within | with_reducible apply formSeal_within
      | (with_reducible apply foldl_within; intro _ _ h) | with_reducible apply Within.ite
      | with_reducible apply WithinOut.ite | split | dsimp only)

theorem execSealRx_within (stream : Nat) (bitmap : Nat) (sGran : Nat) (counts : List Nat) (reSeal : Option Nat) (t :
    Nat) (hT :
    0x2c80000000001300008002000000000008040000000001000010002000d8000017a0ce1f807000000300000000a0da7d57ef80 ||| T =
    T) : WithinOut T s (execSealRx stream bitmap sGran counts reSeal t s) := by
  have h : Within T s s := Within.start
  unfold execSealRx
  try dsimp only
  repeat' (
    first
      | with_reducible exact h | with_reducible rfl | (with_reducible refine sub_of ?_ hT; decide)
      | with_reducible assumption | with_reducible exact WithinOut.fault _ | with_reducible apply WithinOut.next
      | with_reducible apply sendDown_within | with_reducible apply updOp_within
      | with_reducible apply finishItem_within | (with_reducible apply foldl_within; intro _ _ h)
      | with_reducible apply Within.ite | with_reducible apply WithinOut.ite | split | dsimp only)

theorem execDataStepTimeout_within (stream : Nat) (rank : Nat) (t : Nat) (hT :
    0x2c000000000013000080020000000000000000000000000000002204e000000000000000000000000000000000000a78620000 ||| T =
    T) : WithinOut T s (execDataStepTimeout stream rank t s) := by
  have h : Within T s s := Within.start
  unfold execDataStepTimeout
  try dsimp only
  repeat' (
    first
      | with_reducible exact h | with_reducible rfl | (with_reducible refine sub_of ?_ hT; decide)
      | with_reducible assumption | with_reducible exact WithinOut.fault _ | with_reducible apply WithinOut.next
      | with_reducible apply closedTimeout_within | with_reducible apply countConseq_within
      | with_reducible apply loseMember_within | with_reducible apply noteTimeout_within
      | (with_reducible apply foldl_within; intro _ _ h) | with_reducible apply Within.ite
      | with_reducible apply WithinOut.ite | split | dsimp only)

theorem reArm_within (h : Within T s0 s) (stream : Nat) (t : Nat) (hT :
    0x2c000000000013000080020000000000000000000000010000000000000000000000ce1f807000000000000000000a7855a000 ||| T =
    T) : Within T s0 (reArm s stream t) := by
  unfold reArm
  try dsimp only
  repeat' (
    first
      | with_reducible exact h | with_reducible rfl | (with_reducible refine sub_of ?_ hT; decide)
      | with_reducible assumption | with_reducible apply updOp_within | with_reducible apply sendUp_within
      | (with_reducible apply foldl_within; intro _ _ h) | with_reducible apply Within.ite | split | dsimp only)

theorem switchTree_within (h : Within T s0 s) (stream : Nat) (f : Nat) (member : Bool) (t : Nat) (hT :
    0x2c800000000013000080020000000000080400000000018100100024e0d8000017a0ce1f807000000300000000a0da7d57ef80 ||| T =
    T) : Within T s0 (switchTree s stream f member t) := by
  unfold switchTree
  try dsimp only
  repeat' (
    first
      | with_reducible exact h | with_reducible rfl | (with_reducible refine sub_of ?_ hT; decide)
      | with_reducible assumption | with_reducible apply loseMember_within | with_reducible apply raise_within
      | with_reducible apply finishItem_within | with_reducible apply bump_within
      | with_reducible apply updOp_within | with_reducible apply beginArm_within | with_reducible apply reArm_within
      | with_reducible exact allowed_FAB_EVENT (has_of hT (by decide))
      | with_reducible exact allowed_FAB_UNREACH_COUNT (has_of hT (by decide))
      | with_reducible exact allowed_FAB_TREE_SWITCH_COUNT (has_of hT (by decide))
      | (with_reducible apply foldl_within; intro _ _ h) | with_reducible apply Within.ite | split | dsimp only)

theorem execWithdrawNoticeRx_within (stream : Nat) (rank : Nat) (src : Nat) (t : Nat) (hT :
    0x2c800000000013000080020000000000080400000000018100100064e0d8000017a0ce1f807000000300000000a0da7d57ef80 ||| T =
    T) : WithinOut T s (execWithdrawNoticeRx stream rank src t s) := by
  have h : Within T s s := Within.start
  unfold execWithdrawNoticeRx
  try dsimp only
  repeat' (
    first
      | with_reducible exact h | with_reducible rfl | (with_reducible refine sub_of ?_ hT; decide)
      | with_reducible assumption | with_reducible exact WithinOut.fault _ | with_reducible apply WithinOut.next
      | with_reducible apply raise_within | with_reducible apply bump_within
      | with_reducible apply sealWhenReady_within | with_reducible apply loseMember_within
      | with_reducible apply switchTree_within | with_reducible exact allowed_HUB_COLL_EVENT (has_of hT (by decide))
      | with_reducible exact allowed_HUB_WITHDRAW_RX_COUNT (has_of hT (by decide))
      | (with_reducible apply foldl_within; intro _ _ h) | with_reducible apply Within.ite
      | with_reducible apply WithinOut.ite | split | dsimp only)

theorem execReArmRx_within (stream : Nat) (rank : Nat) (lowest : Nat) (t : Nat) (hT :
    0x2c000000000013000080020000000000000000000000010000000000000000000000ce1f807000000000000000000a7855a000 ||| T =
    T) : WithinOut T s (execReArmRx stream rank lowest t s) := by
  have h : Within T s s := Within.start
  unfold execReArmRx
  try dsimp only
  repeat' (
    first
      | with_reducible exact h | with_reducible rfl | (with_reducible refine sub_of ?_ hT; decide)
      | with_reducible assumption | with_reducible exact WithinOut.fault _ | with_reducible apply WithinOut.next
      | with_reducible apply setOp_within | with_reducible apply sendUp_within
      | (with_reducible apply foldl_within; intro _ _ h) | with_reducible apply Within.ite
      | with_reducible apply WithinOut.ite | split | dsimp only)

theorem lateContribution_within (h : Within T s0 s) (t : Nat) (hT :
    0x130000800200000000000000000000000000000000102000000000000000000000000000000000000a78000000 ||| T = T) : Within T
    s0 (lateContribution s t) := by
  unfold lateContribution
  try dsimp only
  repeat' (
    first
      | with_reducible exact h | with_reducible rfl | (with_reducible refine sub_of ?_ hT; decide)
      | with_reducible assumption | with_reducible apply raise_within | with_reducible apply bump_within
      | with_reducible exact allowed_HUB_COLL_EVENT (has_of hT (by decide))
      | with_reducible exact allowed_HUB_LATE_CONTRIB_COUNT (has_of hT (by decide))
      | (with_reducible apply foldl_within; intro _ _ h) | with_reducible apply Within.ite | split | dsimp only)

theorem writeResult_within (h : Within T s0 s) (stream : Nat) (part : Nat) (dst : Nat) (bs : List Byte) (t : Nat) (hT
    : 0x13000080020000000000000000000000000000000000000000000000001f807000000000000000204a78402000 ||| T = T) : Within
    T s0 (writeResult s stream part dst bs t).1 := by
  unfold writeResult
  try dsimp only
  repeat' (
    first
      | with_reducible exact h | with_reducible rfl | (with_reducible refine sub_of ?_ hT; decide)
      | with_reducible assumption | with_reducible apply updOp_within | with_reducible apply memWrite_within
      | with_reducible apply fenceRefuse_within | (with_reducible apply foldl_within; intro _ _ h)
      | (with_reducible apply foldl_fst_within; intro _ _ h) | (with_reducible apply foldl_snd_within; intro _ _ h)
      | with_reducible apply Within.ite | split | dsimp only)

theorem execDataPhaseStart_within (stream : Nat) (t : Nat) (hT :
    0x2c80000000001300008002000000000008040000000001000010002000d8000017a0001f807000000300000000a0da7d566f80 ||| T =
    T) : WithinOut T s (execDataPhaseStart stream t s) := by
  have h : Within T s s := Within.start
  unfold execDataPhaseStart
  try dsimp only
  repeat' (
    first
      | with_reducible exact h | with_reducible rfl | (with_reducible refine sub_of ?_ hT; decide)
      | with_reducible assumption | with_reducible exact WithinOut.fault _ | with_reducible apply WithinOut.next
      | with_reducible apply setOp_within | with_reducible apply writeResult_within
      | with_reducible apply setItem_within | with_reducible apply finishItem_within
      | (with_reducible apply foldl_within; intro _ _ h) | (with_reducible apply foldl_fst_within; intro _ _ h)
      | (with_reducible apply foldl_snd_within; intro _ _ h) | with_reducible apply Within.ite
      | with_reducible apply WithinOut.ite | split | dsimp only)

end Sys2Proof.Machine
end

