-- ==== Sys2Proof/Laws/WithinSpoke.lean ====
section
/-! SUPPORT. The places that the operations of Machine/Spoke.lean may change (Laws/Within.lean). -/

namespace Sys2Proof.Machine

variable {T : Nat} {s0 s : State}

theorem endRoutine_within (h : Within T s0 s) (p : Spoke) (status : Nat) (t : Nat) (hT :
    0x2c80000000001300008002000000000008040000000001000010002000d8000017a0001f807000000300000000a0da7d566f80 ||| T =
    T) : Within T s0 (endRoutine s p status t) := by
  unfold endRoutine
  try dsimp only
  repeat' (
    first
      | with_reducible exact h | with_reducible rfl | (with_reducible refine sub_of ?_ hT; decide)
      | with_reducible assumption | with_reducible apply finishItem_within
      | (with_reducible apply foldl_within; intro _ _ h) | with_reducible apply Within.ite | split | dsimp only)

theorem execWord_within (h : Within T s0 s) (i : Nat) (p : Spoke) (m : Micro) (t : Nat) (hT :
    0x2c80000000001300008002000000000008040000000001000010002000d8000017a10e1f807000000300000000a0da7d576f80 ||| T =
    T) : Within T s0 (execWord s i p m t) := by
  unfold execWord
  try dsimp only
  repeat' (
    first
      | with_reducible exact h | with_reducible rfl | (with_reducible refine sub_of ?_ hT; decide)
      | with_reducible assumption | with_reducible apply setSpoke_within | with_reducible apply endSpin_within
      | with_reducible apply doSet_within | with_reducible apply doClear_within
      | with_reducible apply endRoutine_within | (with_reducible apply foldl_within; intro _ _ h)
      | with_reducible apply Within.ite | split | dsimp only)

theorem lockMiss_within (h : Within T s0 s) (i : Nat) (p : Spoke) (t : Nat) (hT :
    0x300000000000130000800200000000000000000000000000000000000000000000000000000000000000000000000a78000000 ||| T =
    T) : Within T s0 (lockMiss s i p t).2 := by
  unfold lockMiss
  try dsimp only
  repeat' (
    first
      | with_reducible exact h | with_reducible rfl | (with_reducible refine sub_of ?_ hT; decide)
      | with_reducible assumption | with_reducible apply raise_within | with_reducible apply bump_within
      | with_reducible exact allowed_SPK_EVENT _ (has_of hT (by decide))
      | with_reducible exact allowed_SPK_LS_MISS_COUNT _ _ (has_of hT (by decide))
      | (with_reducible apply foldl_within; intro _ _ h) | (with_reducible apply foldl_fst_within; intro _ _ h)
      | (with_reducible apply foldl_snd_within; intro _ _ h) | with_reducible apply Within.ite | split | dsimp only)

theorem stallWord_within (h : Within T s0 s) (i : Nat) (p : Spoke) (m : Micro) (t : Nat) (hT :
    0x3c80000000001300008002000000000008040000000001000010002000d8000017a10e1f807000000300000000a0da7d576f80 ||| T =
    T) : Within T s0 (stallWord s i p m t) := by
  unfold stallWord
  try dsimp only
  repeat' (
    first
      | with_reducible exact h | with_reducible rfl | (with_reducible refine sub_of ?_ hT; decide)
      | with_reducible assumption | with_reducible apply lockMiss_within | with_reducible apply setSpoke_within
      | with_reducible apply doWait_within | with_reducible apply setSync_within
      | (with_reducible apply foldl_within; intro _ _ h) | (with_reducible apply foldl_fst_within; intro _ _ h)
      | (with_reducible apply foldl_snd_within; intro _ _ h) | with_reducible apply Within.ite | split | dsimp only)

theorem meetWord_within (h : Within T s0 s) (i : Nat) (p : Spoke) (m : Micro) (t : Nat) (hT :
    0x3c80000000001300008002000000000008040000000001000010002000d8000017a10e1f807000000300000000a0da7d576f80 ||| T =
    T) : Within T s0 (meetWord s i p m t) := by
  unfold meetWord
  try dsimp only
  repeat' (
    first
      | with_reducible exact h | with_reducible rfl | (with_reducible refine sub_of ?_ hT; decide)
      | with_reducible assumption | with_reducible apply execWord_within | with_reducible apply applyClear_within
      | with_reducible apply stallWord_within | (with_reducible apply foldl_within; intro _ _ h)
      | with_reducible apply Within.ite | split | dsimp only)

theorem aluStart_within (h : Within T s0 s) (h_ : Nat) (hT :
    0x2c0000000000130000800200000000000000000000000000000000000000000000000000000000000000000000000a78400000 ||| T =
    T) : Within T s0 (aluStart s h_) := by
  unfold aluStart
  try dsimp only
  repeat' (
    first
      | with_reducible exact h | with_reducible rfl | (with_reducible refine sub_of ?_ hT; decide)
      | with_reducible assumption | with_reducible apply preempt_within
      | (with_reducible apply foldl_within; intro _ _ h)
      | simp only [Within.upd_iff, (has_of hT (by decide) : Has T 22), or_true, true_or, eq_self]
      | with_reducible apply Within.ite | split | dsimp only)

theorem startComb_within (h : Within T s0 s) (i : Nat) (m : Micro) (hT :
    0x2c0000000000130000800200000000000000000000000000000000000000000000000000000000000000000000000a78400000 ||| T =
    T) : Within T s0 (startComb s i m) := by
  unfold startComb
  try dsimp only
  repeat' (
    first
      | with_reducible exact h | with_reducible rfl | (with_reducible refine sub_of ?_ hT; decide)
      | with_reducible assumption | with_reducible apply aluStart_within
      | (with_reducible apply foldl_within; intro _ _ h) | with_reducible apply Within.ite | split | dsimp only)

theorem illegalWord_within (h : Within T s0 s) (i : Nat) (p : Spoke) (t : Nat) (hT :
    0x10ac80000000001300008002000000000008040000000001000010002000d8000017a0001f807000000300000000a0da7d566f80 ||| T =
    T) : Within T s0 (illegalWord s i p t) := by
  unfold illegalWord
  try dsimp only
  repeat' (
    first
      | with_reducible exact h | with_reducible rfl | (with_reducible refine sub_of ?_ hT; decide)
      | with_reducible assumption | with_reducible apply bump_within | with_reducible apply wr_within
      | with_reducible apply finishItem_within | with_reducible apply raise_within
      | with_reducible exact allowed_SPK_ILLEGAL_COUNT _ (has_of hT (by decide))
      | with_reducible exact allowed_SPK_ILLEGAL_LOG _ (has_of hT (by decide))
      | with_reducible exact allowed_SPK_EVENT _ (has_of hT (by decide))
      | (with_reducible apply foldl_within; intro _ _ h) | with_reducible apply Within.ite | split | dsimp only)

theorem fetchUe_within (h : Within T s0 s) (i : Nat) (p : Spoke) (t : Nat) (hT :
    0x4200000000000130000800200000000000000000000000000000000000000000000000000000000000000000000000a78400000 ||| T =
    T) : Within T s0 (fetchUe s i p t) := by
  unfold fetchUe
  try dsimp only
  repeat' (
    first
      | with_reducible exact h | with_reducible rfl | (with_reducible refine sub_of ?_ hT; decide)
      | with_reducible assumption | with_reducible apply raise_within | with_reducible apply bump_within
      | with_reducible apply setSpoke_within | with_reducible exact allowed_SPK_EVENT _ (has_of hT (by decide))
      | with_reducible exact allowed_SPK_CS_UE_COUNT _ (has_of hT (by decide))
      | (with_reducible apply foldl_within; intro _ _ h)
      | simp only [Within.upd_iff, (has_of hT (by decide) : Has T 22), or_true, true_or, eq_self]
      | with_reducible apply Within.ite | split | dsimp only)

theorem doMicro_within (h : Within T s0 s) (i : Nat) (op : Nat) (ecc : Nat) (t : Nat) (hT :
    0x16bc80000000001300008002000000000008040000000001000010002000d8000017a10e1f807000000300000000a0da7d576f80 ||| T =
    T) : Within T s0 (doMicro s i op ecc t) := by
  unfold doMicro
  try dsimp only
  repeat' (
    first
      | with_reducible exact h | with_reducible rfl | (with_reducible refine sub_of ?_ hT; decide)
      | with_reducible assumption | with_reducible apply illegalWord_within | with_reducible apply finishItem_within
      | with_reducible apply lockMiss_within | with_reducible apply setSpoke_within
      | with_reducible apply fetchUe_within | with_reducible apply raise_within | with_reducible apply bump_within
      | with_reducible apply restartSpoke_within | with_reducible apply startComb_within
      | with_reducible apply meetWord_within | with_reducible exact allowed_SPK_EVENT _ (has_of hT (by decide))
      | with_reducible exact allowed_SPK_CS_CE_COUNT _ (has_of hT (by decide))
      | (with_reducible apply foldl_within; intro _ _ h) | (with_reducible apply foldl_fst_within; intro _ _ h)
      | (with_reducible apply foldl_snd_within; intro _ _ h) | with_reducible apply Within.ite | split | dsimp only)

theorem execMicroNop_within (i : Nat) (ecc : Nat) (t : Nat) (hT :
    0x16bc80000000001300008002000000000008040000000001000010002000d8000017a10e1f807000000300000000a0da7d576f80 ||| T =
    T) : WithinOut T s (execMicroNop i ecc t s) := by
  have h : Within T s s := Within.start
  unfold execMicroNop
  try dsimp only
  repeat' (
    first
      | with_reducible exact h | with_reducible rfl | (with_reducible refine sub_of ?_ hT; decide)
      | with_reducible assumption | with_reducible exact WithinOut.fault _ | with_reducible apply WithinOut.next
      | with_reducible apply doMicro_within | (with_reducible apply foldl_within; intro _ _ h)
      | with_reducible apply Within.ite | with_reducible apply WithinOut.ite | split | dsimp only)

theorem execMicroLdi_within (i : Nat) (ecc : Nat) (t : Nat) (hT :
    0x16bc80000000001300008002000000000008040000000001000010002000d8000017a10e1f807000000300000000a0da7d576f80 ||| T =
    T) : WithinOut T s (execMicroLdi i ecc t s) := by
  have h : Within T s s := Within.start
  unfold execMicroLdi
  try dsimp only
  repeat' (
    first
      | with_reducible exact h | with_reducible rfl | (with_reducible refine sub_of ?_ hT; decide)
      | with_reducible assumption | with_reducible exact WithinOut.fault _ | with_reducible apply WithinOut.next
      | with_reducible apply doMicro_within | (with_reducible apply foldl_within; intro _ _ h)
      | with_reducible apply Within.ite | with_reducible apply WithinOut.ite | split | dsimp only)

theorem execMicroLdctx_within (i : Nat) (ecc : Nat) (t : Nat) (hT :
    0x16bc80000000001300008002000000000008040000000001000010002000d8000017a10e1f807000000300000000a0da7d576f80 ||| T =
    T) : WithinOut T s (execMicroLdctx i ecc t s) := by
  have h : Within T s s := Within.start
  unfold execMicroLdctx
  try dsimp only
  repeat' (
    first
      | with_reducible exact h | with_reducible rfl | (with_reducible refine sub_of ?_ hT; decide)
      | with_reducible assumption | with_reducible exact WithinOut.fault _ | with_reducible apply WithinOut.next
      | with_reducible apply doMicro_within | (with_reducible apply foldl_within; intro _ _ h)
      | with_reducible apply Within.ite | with_reducible apply WithinOut.ite | split | dsimp only)

theorem execMicroAdd_within (i : Nat) (ecc : Nat) (t : Nat) (hT :
    0x16bc80000000001300008002000000000008040000000001000010002000d8000017a10e1f807000000300000000a0da7d576f80 ||| T =
    T) : WithinOut T s (execMicroAdd i ecc t s) := by
  have h : Within T s s := Within.start
  unfold execMicroAdd
  try dsimp only
  repeat' (
    first
      | with_reducible exact h | with_reducible rfl | (with_reducible refine sub_of ?_ hT; decide)
      | with_reducible assumption | with_reducible exact WithinOut.fault _ | with_reducible apply WithinOut.next
      | with_reducible apply doMicro_within | (with_reducible apply foldl_within; intro _ _ h)
      | with_reducible apply Within.ite | with_reducible apply WithinOut.ite | split | dsimp only)

theorem execMicroSub_within (i : Nat) (ecc : Nat) (t : Nat) (hT :
    0x16bc80000000001300008002000000000008040000000001000010002000d8000017a10e1f807000000300000000a0da7d576f80 ||| T =
    T) : WithinOut T s (execMicroSub i ecc t s) := by
  have h : Within T s s := Within.start
  unfold execMicroSub
  try dsimp only
  repeat' (
    first
      | with_reducible exact h | with_reducible rfl | (with_reducible refine sub_of ?_ hT; decide)
      | with_reducible assumption | with_reducible exact WithinOut.fault _ | with_reducible apply WithinOut.next
      | with_reducible apply doMicro_within | (with_reducible apply foldl_within; intro _ _ h)
      | with_reducible apply Within.ite | with_reducible apply WithinOut.ite | split | dsimp only)

theorem execMicroAnd_within (i : Nat) (ecc : Nat) (t : Nat) (hT :
    0x16bc80000000001300008002000000000008040000000001000010002000d8000017a10e1f807000000300000000a0da7d576f80 ||| T =
    T) : WithinOut T s (execMicroAnd i ecc t s) := by
  have h : Within T s s := Within.start
  unfold execMicroAnd
  try dsimp only
  repeat' (
    first
      | with_reducible exact h | with_reducible rfl | (with_reducible refine sub_of ?_ hT; decide)
      | with_reducible assumption | with_reducible exact WithinOut.fault _ | with_reducible apply WithinOut.next
      | with_reducible apply doMicro_within | (with_reducible apply foldl_within; intro _ _ h)
      | with_reducible apply Within.ite | with_reducible apply WithinOut.ite | split | dsimp only)

theorem execMicroOr_within (i : Nat) (ecc : Nat) (t : Nat) (hT :
    0x16bc80000000001300008002000000000008040000000001000010002000d8000017a10e1f807000000300000000a0da7d576f80 ||| T =
    T) : WithinOut T s (execMicroOr i ecc t s) := by
  have h : Within T s s := Within.start
  unfold execMicroOr
  try dsimp only
  repeat' (
    first
      | with_reducible exact h | with_reducible rfl | (with_reducible refine sub_of ?_ hT; decide)
      | with_reducible assumption | with_reducible exact WithinOut.fault _ | with_reducible apply WithinOut.next
      | with_reducible apply doMicro_within | (with_reducible apply foldl_within; intro _ _ h)
      | with_reducible apply Within.ite | with_reducible apply WithinOut.ite | split | dsimp only)

theorem execMicroShl_within (i : Nat) (ecc : Nat) (t : Nat) (hT :
    0x16bc80000000001300008002000000000008040000000001000010002000d8000017a10e1f807000000300000000a0da7d576f80 ||| T =
    T) : WithinOut T s (execMicroShl i ecc t s) := by
  have h : Within T s s := Within.start
  unfold execMicroShl
  try dsimp only
  repeat' (
    first
      | with_reducible exact h | with_reducible rfl | (with_reducible refine sub_of ?_ hT; decide)
      | with_reducible assumption | with_reducible exact WithinOut.fault _ | with_reducible apply WithinOut.next
      | with_reducible apply doMicro_within | (with_reducible apply foldl_within; intro _ _ h)
      | with_reducible apply Within.ite | with_reducible apply WithinOut.ite | split | dsimp only)

theorem execMicroShr_within (i : Nat) (ecc : Nat) (t : Nat) (hT :
    0x16bc80000000001300008002000000000008040000000001000010002000d8000017a10e1f807000000300000000a0da7d576f80 ||| T =
    T) : WithinOut T s (execMicroShr i ecc t s) := by
  have h : Within T s s := Within.start
  unfold execMicroShr
  try dsimp only
  repeat' (
    first
      | with_reducible exact h | with_reducible rfl | (with_reducible refine sub_of ?_ hT; decide)
      | with_reducible assumption | with_reducible exact WithinOut.fault _ | with_reducible apply WithinOut.next
      | with_reducible apply doMicro_within | (with_reducible apply foldl_within; intro _ _ h)
      | with_reducible apply Within.ite | with_reducible apply WithinOut.ite | split | dsimp only)

theorem execMicroGrant_within (i : Nat) (ecc : Nat) (t : Nat) (hT :
    0x16bc80000000001300008002000000000008040000000001000010002000d8000017a10e1f807000000300000000a0da7d576f80 ||| T =
    T) : WithinOut T s (execMicroGrant i ecc t s) := by
  have h : Within T s s := Within.start
  unfold execMicroGrant
  try dsimp only
  repeat' (
    first
      | with_reducible exact h | with_reducible rfl | (with_reducible refine sub_of ?_ hT; decide)
      | with_reducible assumption | with_reducible exact WithinOut.fault _ | with_reducible apply WithinOut.next
      | with_reducible apply doMicro_within | (with_reducible apply foldl_within; intro _ _ h)
      | with_reducible apply Within.ite | with_reducible apply WithinOut.ite | split | dsimp only)

theorem execMicroRead_within (i : Nat) (ecc : Nat) (t : Nat) (hT :
    0x16bc80000000001300008002000000000008040000000001000010002000d8000017a10e1f807000000300000000a0da7d576f80 ||| T =
    T) : WithinOut T s (execMicroRead i ecc t s) := by
  have h : Within T s s := Within.start
  unfold execMicroRead
  try dsimp only
  repeat' (
    first
      | with_reducible exact h | with_reducible rfl | (with_reducible refine sub_of ?_ hT; decide)
      | with_reducible assumption | with_reducible exact WithinOut.fault _ | with_reducible apply WithinOut.next
      | with_reducible apply doMicro_within | (with_reducible apply foldl_within; intro _ _ h)
      | with_reducible apply Within.ite | with_reducible apply WithinOut.ite | split | dsimp only)

theorem execMicroComb_within (i : Nat) (ecc : Nat) (t : Nat) (hT :
    0x16bc80000000001300008002000000000008040000000001000010002000d8000017a10e1f807000000300000000a0da7d576f80 ||| T =
    T) : WithinOut T s (execMicroComb i ecc t s) := by
  have h : Within T s s := Within.start
  unfold execMicroComb
  try dsimp only
  repeat' (
    first
      | with_reducible exact h | with_reducible rfl | (with_reducible refine sub_of ?_ hT; decide)
      | with_reducible assumption | with_reducible exact WithinOut.fault _ | with_reducible apply WithinOut.next
      | with_reducible apply doMicro_within | (with_reducible apply foldl_within; intro _ _ h)
      | with_reducible apply Within.ite | with_reducible apply WithinOut.ite | split | dsimp only)

theorem execMicroFill_within (i : Nat) (ecc : Nat) (t : Nat) (hT :
    0x16bc80000000001300008002000000000008040000000001000010002000d8000017a10e1f807000000300000000a0da7d576f80 ||| T =
    T) : WithinOut T s (execMicroFill i ecc t s) := by
  have h : Within T s s := Within.start
  unfold execMicroFill
  try dsimp only
  repeat' (
    first
      | with_reducible exact h | with_reducible rfl | (with_reducible refine sub_of ?_ hT; decide)
      | with_reducible assumption | with_reducible exact WithinOut.fault _ | with_reducible apply WithinOut.next
      | with_reducible apply doMicro_within | (with_reducible apply foldl_within; intro _ _ h)
      | with_reducible apply Within.ite | with_reducible apply WithinOut.ite | split | dsimp only)

theorem execMicroSend_within (i : Nat) (ecc : Nat) (t : Nat) (hT :
    0x16bc80000000001300008002000000000008040000000001000010002000d8000017a10e1f807000000300000000a0da7d576f80 ||| T =
    T) : WithinOut T s (execMicroSend i ecc t s) := by
  have h : Within T s s := Within.start
  unfold execMicroSend
  try dsimp only
  repeat' (
    first
      | with_reducible exact h | with_reducible rfl | (with_reducible refine sub_of ?_ hT; decide)
      | with_reducible assumption | with_reducible exact WithinOut.fault _ | with_reducible apply WithinOut.next
      | with_reducible apply doMicro_within | (with_reducible apply foldl_within; intro _ _ h)
      | with_reducible apply Within.ite | with_reducible apply WithinOut.ite | split | dsimp only)

theorem execMicroWrite_within (i : Nat) (ecc : Nat) (t : Nat) (hT :
    0x16bc80000000001300008002000000000008040000000001000010002000d8000017a10e1f807000000300000000a0da7d576f80 ||| T =
    T) : WithinOut T s (execMicroWrite i ecc t s) := by
  have h : Within T s s := Within.start
  unfold execMicroWrite
  try dsimp only
  repeat' (
    first
      | with_reducible exact h | with_reducible rfl | (with_reducible refine sub_of ?_ hT; decide)
      | with_reducible assumption | with_reducible exact WithinOut.fault _ | with_reducible apply WithinOut.next
      | with_reducible apply doMicro_within | (with_reducible apply foldl_within; intro _ _ h)
      | with_reducible apply Within.ite | with_reducible apply WithinOut.ite | split | dsimp only)

theorem execMicroSetf_within (i : Nat) (ecc : Nat) (t : Nat) (hT :
    0x16bc80000000001300008002000000000008040000000001000010002000d8000017a10e1f807000000300000000a0da7d576f80 ||| T =
    T) : WithinOut T s (execMicroSetf i ecc t s) := by
  have h : Within T s s := Within.start
  unfold execMicroSetf
  try dsimp only
  repeat' (
    first
      | with_reducible exact h | with_reducible rfl | (with_reducible refine sub_of ?_ hT; decide)
      | with_reducible assumption | with_reducible exact WithinOut.fault _ | with_reducible apply WithinOut.next
      | with_reducible apply doMicro_within | (with_reducible apply foldl_within; intro _ _ h)
      | with_reducible apply Within.ite | with_reducible apply WithinOut.ite | split | dsimp only)

theorem execMicroClrf_within (i : Nat) (ecc : Nat) (t : Nat) (hT :
    0x16bc80000000001300008002000000000008040000000001000010002000d8000017a10e1f807000000300000000a0da7d576f80 ||| T =
    T) : WithinOut T s (execMicroClrf i ecc t s) := by
  have h : Within T s s := Within.start
  unfold execMicroClrf
  try dsimp only
  repeat' (
    first
      | with_reducible exact h | with_reducible rfl | (with_reducible refine sub_of ?_ hT; decide)
      | with_reducible assumption | with_reducible exact WithinOut.fault _ | with_reducible apply WithinOut.next
      | with_reducible apply doMicro_within | (with_reducible apply foldl_within; intro _ _ h)
      | with_reducible apply Within.ite | with_reducible apply WithinOut.ite | split | dsimp only)

theorem execMicroEnd_within (i : Nat) (ecc : Nat) (t : Nat) (hT :
    0x16bc80000000001300008002000000000008040000000001000010002000d8000017a10e1f807000000300000000a0da7d576f80 ||| T =
    T) : WithinOut T s (execMicroEnd i ecc t s) := by
  have h : Within T s s := Within.start
  unfold execMicroEnd
  try dsimp only
  repeat' (
    first
      | with_reducible exact h | with_reducible rfl | (with_reducible refine sub_of ?_ hT; decide)
      | with_reducible assumption | with_reducible exact WithinOut.fault _ | with_reducible apply WithinOut.next
      | with_reducible apply doMicro_within | (with_reducible apply foldl_within; intro _ _ h)
      | with_reducible apply Within.ite | with_reducible apply WithinOut.ite | split | dsimp only)

theorem execWaitConditionTrue_within (i : Nat) (t : Nat) (hT :
    0x2c80000000001300008002000000000008040000000001000010002000d8000017a10e1f807000000300000000a0da7d576f80 ||| T =
    T) : WithinOut T s (execWaitConditionTrue i t s) := by
  have h : Within T s s := Within.start
  unfold execWaitConditionTrue
  try dsimp only
  repeat' (
    first
      | with_reducible exact h | with_reducible rfl | (with_reducible refine sub_of ?_ hT; decide)
      | with_reducible assumption | with_reducible exact WithinOut.fault _ | with_reducible apply WithinOut.next
      | with_reducible apply startComb_within | with_reducible apply execWord_within
      | (with_reducible apply foldl_within; intro _ _ h) | with_reducible apply Within.ite
      | with_reducible apply WithinOut.ite | split | dsimp only)

theorem execSpokeRestart_within (i : Nat) (hT : 0x400000 ||| T = T) : WithinOut T s (execSpokeRestart i s) := by
  have h : Within T s s := Within.start
  unfold execSpokeRestart
  try dsimp only
  repeat' (
    first
      | with_reducible exact h | with_reducible rfl | (with_reducible refine sub_of ?_ hT; decide)
      | with_reducible assumption | with_reducible exact WithinOut.fault _ | with_reducible apply WithinOut.next
      | with_reducible apply setSpoke_within | (with_reducible apply foldl_within; intro _ _ h)
      | with_reducible apply Within.ite | with_reducible apply WithinOut.ite | split | dsimp only)

theorem wakeStalled_within (h : Within T s0 s) (key : Nat) (bad : Bool) (t : Nat) (hT :
    0x2c80000000001300008002000000000008040000000001000010002000d8000017a0001f807000000300000000a0da7d566f80 ||| T =
    T) : Within T s0 (wakeStalled s key bad t) := by
  unfold wakeStalled
  try dsimp only
  repeat' (
    first
      | with_reducible exact h | with_reducible rfl | (with_reducible refine sub_of ?_ hT; decide)
      | with_reducible assumption | with_reducible apply setSpoke_within | with_reducible apply finishItem_within
      | with_reducible apply restartSpoke_within | (with_reducible apply foldl_within; intro _ _ h)
      | with_reducible apply Within.ite | split | dsimp only)

theorem execCsBlockReloadComplete_within (h_ : Nat) (blk : Nat) (flashOk : Bool) (t : Nat) (hT :
    0x282c80000000001300008002000000000008040000000001000010002000d8000017a0001f807000000300000000a0da7d566f80 ||| T =
    T) : WithinOut T s (execCsBlockReloadComplete h_ blk flashOk t s) := by
  have h : Within T s s := Within.start
  unfold execCsBlockReloadComplete
  try dsimp only
  repeat' (
    first
      | with_reducible exact h | with_reducible rfl | (with_reducible refine sub_of ?_ hT; decide)
      | with_reducible assumption | with_reducible exact WithinOut.fault _ | with_reducible apply WithinOut.next
      | with_reducible apply raise_within | with_reducible apply bump_within
      | with_reducible apply wakeStalled_within | with_reducible apply wr_within
      | with_reducible exact allowed_SPK_EVENT _ (has_of hT (by decide))
      | with_reducible exact allowed_SPK_RELOAD_COUNT _ (has_of hT (by decide))
      | with_reducible exact allowed_SPK_CS_BAD _ _ (has_of hT (by decide))
      | (with_reducible apply foldl_within; intro _ _ h)
      | simp only [Within.upd_iff, (has_of hT (by decide) : Has T 22), or_true, true_or, eq_self]
      | with_reducible apply Within.ite | with_reducible apply WithinOut.ite | split | dsimp only)

theorem putSlot_within (h : Within T s0 s) (stream : Nat) (key : Nat) (b : SlotBuf) (hT : 0x400000 ||| T = T) : Within
    T s0 (putSlot s stream key b) := by
  unfold putSlot
  try dsimp only
  repeat' (
    first
      | with_reducible exact h | with_reducible rfl | (with_reducible refine sub_of ?_ hT; decide)
      | with_reducible assumption | with_reducible apply updOp_within
      | (with_reducible apply foldl_within; intro _ _ h) | with_reducible apply Within.ite | split | dsimp only)

theorem dropEngine_within (h : Within T s0 s) (stream : Nat) (k : Nat) (hT : 0x400000 ||| T = T) : Within T s0
    (dropEngine s stream k) := by
  unfold dropEngine
  try dsimp only
  repeat' (
    first
      | with_reducible exact h | with_reducible rfl | (with_reducible refine sub_of ?_ hT; decide)
      | with_reducible assumption | with_reducible apply updOp_within
      | (with_reducible apply foldl_within; intro _ _ h) | with_reducible apply Within.ite | split | dsimp only)

theorem hubSramUe_within (h : Within T s0 s) (item : Nat) (t : Nat) (hT :
    0x2c80000000001300008002000000000008040000000001000010002000d8000017a0001f807000000300000000a0da7d566f80 ||| T =
    T) : Within T s0 (hubSramUe s item t) := by
  unfold hubSramUe
  try dsimp only
  repeat' (
    first
      | with_reducible exact h | with_reducible rfl | (with_reducible refine sub_of ?_ hT; decide)
      | with_reducible assumption | with_reducible apply finishItem_within
      | (with_reducible apply foldl_within; intro _ _ h) | with_reducible apply Within.ite | split | dsimp only)

theorem sendSegment_within (h : Within T s0 s) (stream : Nat) (dst : Nat × Nat) (seg : Nat) (o : CollOp) (inAcc :
    Bool) (bs : List Byte) (t : Nat) (hT :
    0x2c000000000013000080020000000000000000000000010000000000000000000000ce1f807000000000000000000a7855a000 ||| T =
    T) : Within T s0 (sendSegment s stream dst seg o inAcc bs t) := by
  unfold sendSegment
  try dsimp only
  repeat' (
    first
      | with_reducible exact h | with_reducible rfl | (with_reducible refine sub_of ?_ hT; decide)
      | with_reducible assumption | with_reducible apply sendColl_within
      | (with_reducible apply foldl_within; intro _ _ h) | with_reducible apply Within.ite | split | dsimp only)

theorem takeSlot_within (h : Within T s0 s) (stream : Nat) (key : Nat) (b : SlotBuf) (hT : 0x400000 ||| T = T) :
    Within T s0 (takeSlot s stream key b) := by
  unfold takeSlot
  try dsimp only
  repeat' (
    first
      | with_reducible exact h | with_reducible rfl | (with_reducible refine sub_of ?_ hT; decide)
      | with_reducible assumption | with_reducible apply putSlot_within
      | (with_reducible apply foldl_within; intro _ _ h) | with_reducible apply Within.ite | split | dsimp only)

theorem completeEngine_within (h : Within T s0 s) (stream : Nat) (k : Nat) (p : Spoke) (e : EngOp) (t : Nat) (hT :
    0x2c80000000001300008002000000000008040000000001000010002000d8000017a0ce1f807000000300000000a0da7d57ef80 ||| T =
    T) : Within T s0 (completeEngine s stream k p e t) := by
  unfold completeEngine
  try dsimp only
  repeat' (
    first
      | with_reducible exact h | with_reducible rfl | (with_reducible refine sub_of ?_ hT; decide)
      | with_reducible assumption | with_reducible apply dropEngine_within | with_reducible apply updOp_within
      | with_reducible apply sendColl_within | with_reducible apply finishItem_within
      | with_reducible apply fenceRefuse_within | with_reducible apply notePeak_within
      | with_reducible apply putSlot_within | with_reducible apply takeSlot_within
      | with_reducible apply sendSegment_within | with_reducible apply writeResult_within
      | with_reducible apply setItem_within | (with_reducible apply foldl_within; intro _ _ h)
      | (with_reducible apply foldl_fst_within; intro _ _ h) | (with_reducible apply foldl_snd_within; intro _ _ h)
      | simp only [Within.upd_iff, (has_of hT (by decide) : Has T 22), or_true, true_or, eq_self]
      | with_reducible apply Within.ite | split | dsimp only)

theorem execEngineOpComplete_within (stream : Nat) (k : Nat) (t : Nat) (hT :
    0x2c80000000001300008002000000000008040000000001000010002000d8000017a0ce1f807000000300000000a0da7d57ef80 ||| T =
    T) : WithinOut T s (execEngineOpComplete stream k t s) := by
  have h : Within T s s := Within.start
  unfold execEngineOpComplete
  try dsimp only
  repeat' (
    first
      | with_reducible exact h | with_reducible rfl | (with_reducible refine sub_of ?_ hT; decide)
      | with_reducible assumption | with_reducible exact WithinOut.fault _ | with_reducible apply WithinOut.next
      | with_reducible apply aluStart_within | with_reducible apply completeEngine_within
      | (with_reducible apply foldl_within; intro _ _ h) | with_reducible apply Within.ite
      | with_reducible apply WithinOut.ite | split | dsimp only)

theorem writeAgain_within (h : Within T s0 s) (stream : Nat) (pos : Nat) (seg : Nat) (t : Nat) (hT :
    0x2c80000000001300008002000000000008040000000001000010002000d8000017a0001f807000000300000000a0da7d566f80 ||| T =
    T) : Within T s0 (writeAgain s stream pos seg t) := by
  unfold writeAgain
  try dsimp only
  repeat' (
    first
      | with_reducible exact h | with_reducible rfl | (with_reducible refine sub_of ?_ hT; decide)
      | with_reducible assumption | with_reducible apply writeResult_within | with_reducible apply updOp_within
      | with_reducible apply finishItem_within | (with_reducible apply foldl_within; intro _ _ h)
      | (with_reducible apply foldl_fst_within; intro _ _ h) | (with_reducible apply foldl_snd_within; intro _ _ h)
      | with_reducible apply Within.ite | split | dsimp only)

theorem execSegmentRx_within (stream : Nat) (pos : Nat) (src : Nat) (seg : Nat) (inAcc : Bool) (data : List Byte)
    (result : Option Nat) (t : Nat) (hT :
    0x2c82400000001300008002000000000008040000000001000010003020d8000017a0001f807000000300000000a0da7d566f80 ||| T =
    T) : WithinOut T s (execSegmentRx stream pos src seg inAcc data result t s) := by
  have h : Within T s s := Within.start
  unfold execSegmentRx
  try dsimp only
  repeat' (
    first
      | with_reducible exact h | with_reducible rfl | (with_reducible refine sub_of ?_ hT; decide)
      | with_reducible assumption | with_reducible exact WithinOut.fault _ | with_reducible apply WithinOut.next
      | with_reducible apply lateContribution_within | with_reducible apply raise_within
      | with_reducible apply bump_within | with_reducible apply aluStart_within
      | with_reducible apply writeAgain_within | with_reducible apply notePeak_within
      | with_reducible apply setOp_within | with_reducible exact allowed_HUB_EVENT _ (has_of hT (by decide))
      | with_reducible exact allowed_HUB_CREDIT_VIOL_COUNT _ (has_of hT (by decide))
      | (with_reducible apply foldl_within; intro _ _ h) | with_reducible apply Within.ite
      | with_reducible apply WithinOut.ite | split | dsimp only)

theorem execSegmentCreditRx_within (stream : Nat) (dir : Nat) (peer : Nat) (seg : Nat) (hT : 0x400000 ||| T = T) :
    WithinOut T s (execSegmentCreditRx stream dir peer seg s) := by
  have h : Within T s s := Within.start
  unfold execSegmentCreditRx
  try dsimp only
  repeat' (
    first
      | with_reducible exact h | with_reducible rfl | (with_reducible refine sub_of ?_ hT; decide)
      | with_reducible assumption | with_reducible exact WithinOut.fault _ | with_reducible apply WithinOut.next
      | with_reducible apply updOp_within | (with_reducible apply foldl_within; intro _ _ h)
      | with_reducible apply Within.ite | with_reducible apply WithinOut.ite | split | dsimp only)

theorem resendUp_within (h : Within T s0 s) (stream : Nat) (j0 : Nat) (t : Nat) (hT :
    0x2c000000000013000080020000000000000000000000010000000000000000000000ce1f807000000000000000000a7855a000 ||| T =
    T) : Within T s0 (resendUp s stream j0 t) := by
  unfold resendUp
  try dsimp only
  repeat' (
    first
      | with_reducible exact h | with_reducible rfl | (with_reducible refine sub_of ?_ hT; decide)
      | with_reducible assumption | with_reducible apply sendSegment_within
      | (with_reducible apply foldl_within; intro _ _ h) | with_reducible apply Within.ite | split | dsimp only)

theorem execTreeResume_within (stream : Nat) (j0 : Nat) (t : Nat) (hT :
    0x2c000000000013000080020000000000000000000000010000000004e00000000000ce1f807000000000000000000a7857a000 ||| T =
    T) : WithinOut T s (execTreeResume stream j0 t s) := by
  have h : Within T s s := Within.start
  unfold execTreeResume
  try dsimp only
  repeat' (
    first
      | with_reducible exact h | with_reducible rfl | (with_reducible refine sub_of ?_ hT; decide)
      | with_reducible assumption | with_reducible exact WithinOut.fault _ | with_reducible apply WithinOut.next
      | with_reducible apply dropMember_within | with_reducible apply sendDown_within
      | with_reducible apply restartSpoke_within | with_reducible apply updOp_within
      | with_reducible apply resendUp_within | with_reducible apply setOp_within
      | (with_reducible apply foldl_within; intro _ _ h) | with_reducible apply Within.ite
      | with_reducible apply WithinOut.ite | split | dsimp only)

end Sys2Proof.Machine
end

