-- ==== Sys2Proof/Laws/WithinCollRun.lean ====
section
/-! SUPPORT. The places that the operations of Machine/CollRun.lean may change (Laws/Within.lean). -/

namespace Sys2Proof.Machine

variable {T : Nat} {s0 s : State}

theorem sendParts_within (h : Within T s0 s) (stream : Nat) (o : CollOp) (t : Nat) (hT :
    0x2c000000000013000080020000000000000000000000010000000000000000000000ce1f807000000000000000000a7855a000 ||| T =
    T) : Within T s0 (sendParts s stream o t) := by
  unfold sendParts
  try dsimp only
  repeat' (
    first
      | with_reducible exact h | with_reducible rfl | (with_reducible refine sub_of ?_ hT; decide)
      | with_reducible assumption | with_reducible apply sendSegment_within
      | (with_reducible apply foldl_within; intro _ _ h) | with_reducible apply Within.ite | split | dsimp only)

theorem takeTile_within (h : Within T s0 s) (stream : Nat) (o : CollOp) (hT : 0x420000 ||| T = T) : Within T s0
    (takeTile s stream o) := by
  unfold takeTile
  try dsimp only
  repeat' (
    first
      | with_reducible exact h | with_reducible rfl | (with_reducible refine sub_of ?_ hT; decide)
      | with_reducible assumption | with_reducible apply updOp_within | with_reducible apply applyClear_within
      | (with_reducible apply foldl_within; intro _ _ h) | with_reducible apply Within.ite | split | dsimp only)

theorem finishRun_within (h : Within T s0 s) (i : Nat) (stream : Nat) (o0 : CollOp) (others : List (Nat × List Byte))
    (t : Nat) (hT :
    0x2c80000000001300008002000000000008040000000001000010003020d8000017a0ce1f807000000300000000a0da7d57ef80 ||| T =
    T) : Within T s0 (finishRun s i stream o0 others t) := by
  unfold finishRun
  try dsimp only
  repeat' (
    first
      | with_reducible exact h | with_reducible rfl | (with_reducible refine sub_of ?_ hT; decide)
      | with_reducible assumption | with_reducible apply lateContribution_within | with_reducible apply updOp_within
      | with_reducible apply finishItem_within | with_reducible apply fenceRefuse_within
      | with_reducible apply sendParts_within | with_reducible apply writeResult_within
      | with_reducible apply setItem_within | (with_reducible apply foldl_within; intro _ _ h)
      | (with_reducible apply foldl_fst_within; intro _ _ h) | (with_reducible apply foldl_snd_within; intro _ _ h)
      | with_reducible apply Within.ite | split | dsimp only)

theorem runCollective_within (h : Within T s0 s) (code : Nat) (i : Nat) (others : List (Nat × List Byte)) (t : Nat)
    (hT : 0x2c80000000001300008002000000000008040000000001000010003020d8000017a0ce1f807000000300000000a0da7d57ef80 |||
    T = T) : Within T s0 (runCollective s code i others t) := by
  unfold runCollective
  try dsimp only
  repeat' (
    first
      | with_reducible exact h | with_reducible rfl | (with_reducible refine sub_of ?_ hT; decide)
      | with_reducible assumption | with_reducible apply finishItem_within | with_reducible apply takeTile_within
      | with_reducible apply finishRun_within | (with_reducible apply foldl_within; intro _ _ h)
      | (with_reducible apply foldl_fst_within; intro _ _ h) | (with_reducible apply foldl_snd_within; intro _ _ h)
      | with_reducible apply Within.ite | split | dsimp only)

theorem execAllReduce_within (i : Nat) (others : List (Nat × List Byte)) (t : Nat) (hT :
    0x2c80000000001300008002000000000008040000000001000010003020d8000017a0ce1f807000000300000000a0da7d57ef80 ||| T =
    T) : WithinOut T s (execAllReduce i others t s) := by
  have h : Within T s s := Within.start
  unfold execAllReduce
  try dsimp only
  repeat' (
    first
      | with_reducible exact h | with_reducible rfl | (with_reducible refine sub_of ?_ hT; decide)
      | with_reducible assumption | with_reducible exact WithinOut.fault _ | with_reducible apply WithinOut.next
      | with_reducible apply runCollective_within | (with_reducible apply foldl_within; intro _ _ h)
      | with_reducible apply Within.ite | with_reducible apply WithinOut.ite | split | dsimp only)

theorem execReduce_within (i : Nat) (others : List (Nat × List Byte)) (t : Nat) (hT :
    0x2c80000000001300008002000000000008040000000001000010003020d8000017a0ce1f807000000300000000a0da7d57ef80 ||| T =
    T) : WithinOut T s (execReduce i others t s) := by
  have h : Within T s s := Within.start
  unfold execReduce
  try dsimp only
  repeat' (
    first
      | with_reducible exact h | with_reducible rfl | (with_reducible refine sub_of ?_ hT; decide)
      | with_reducible assumption | with_reducible exact WithinOut.fault _ | with_reducible apply WithinOut.next
      | with_reducible apply runCollective_within | (with_reducible apply foldl_within; intro _ _ h)
      | with_reducible apply Within.ite | with_reducible apply WithinOut.ite | split | dsimp only)

theorem execReduceScatter_within (i : Nat) (others : List (Nat × List Byte)) (t : Nat) (hT :
    0x2c80000000001300008002000000000008040000000001000010003020d8000017a0ce1f807000000300000000a0da7d57ef80 ||| T =
    T) : WithinOut T s (execReduceScatter i others t s) := by
  have h : Within T s s := Within.start
  unfold execReduceScatter
  try dsimp only
  repeat' (
    first
      | with_reducible exact h | with_reducible rfl | (with_reducible refine sub_of ?_ hT; decide)
      | with_reducible assumption | with_reducible exact WithinOut.fault _ | with_reducible apply WithinOut.next
      | with_reducible apply runCollective_within | (with_reducible apply foldl_within; intro _ _ h)
      | with_reducible apply Within.ite | with_reducible apply WithinOut.ite | split | dsimp only)

theorem execAllGather_within (i : Nat) (others : List (Nat × List Byte)) (t : Nat) (hT :
    0x2c80000000001300008002000000000008040000000001000010003020d8000017a0ce1f807000000300000000a0da7d57ef80 ||| T =
    T) : WithinOut T s (execAllGather i others t s) := by
  have h : Within T s s := Within.start
  unfold execAllGather
  try dsimp only
  repeat' (
    first
      | with_reducible exact h | with_reducible rfl | (with_reducible refine sub_of ?_ hT; decide)
      | with_reducible assumption | with_reducible exact WithinOut.fault _ | with_reducible apply WithinOut.next
      | with_reducible apply runCollective_within | (with_reducible apply foldl_within; intro _ _ h)
      | with_reducible apply Within.ite | with_reducible apply WithinOut.ite | split | dsimp only)

theorem execGather_within (i : Nat) (others : List (Nat × List Byte)) (t : Nat) (hT :
    0x2c80000000001300008002000000000008040000000001000010003020d8000017a0ce1f807000000300000000a0da7d57ef80 ||| T =
    T) : WithinOut T s (execGather i others t s) := by
  have h : Within T s s := Within.start
  unfold execGather
  try dsimp only
  repeat' (
    first
      | with_reducible exact h | with_reducible rfl | (with_reducible refine sub_of ?_ hT; decide)
      | with_reducible assumption | with_reducible exact WithinOut.fault _ | with_reducible apply WithinOut.next
      | with_reducible apply runCollective_within | (with_reducible apply foldl_within; intro _ _ h)
      | with_reducible apply Within.ite | with_reducible apply WithinOut.ite | split | dsimp only)

theorem execScatter_within (i : Nat) (others : List (Nat × List Byte)) (t : Nat) (hT :
    0x2c80000000001300008002000000000008040000000001000010003020d8000017a0ce1f807000000300000000a0da7d57ef80 ||| T =
    T) : WithinOut T s (execScatter i others t s) := by
  have h : Within T s s := Within.start
  unfold execScatter
  try dsimp only
  repeat' (
    first
      | with_reducible exact h | with_reducible rfl | (with_reducible refine sub_of ?_ hT; decide)
      | with_reducible assumption | with_reducible exact WithinOut.fault _ | with_reducible apply WithinOut.next
      | with_reducible apply runCollective_within | (with_reducible apply foldl_within; intro _ _ h)
      | with_reducible apply Within.ite | with_reducible apply WithinOut.ite | split | dsimp only)

theorem execBroadcast_within (i : Nat) (others : List (Nat × List Byte)) (t : Nat) (hT :
    0x2c80000000001300008002000000000008040000000001000010003020d8000017a0ce1f807000000300000000a0da7d57ef80 ||| T =
    T) : WithinOut T s (execBroadcast i others t s) := by
  have h : Within T s s := Within.start
  unfold execBroadcast
  try dsimp only
  repeat' (
    first
      | with_reducible exact h | with_reducible rfl | (with_reducible refine sub_of ?_ hT; decide)
      | with_reducible assumption | with_reducible exact WithinOut.fault _ | with_reducible apply WithinOut.next
      | with_reducible apply runCollective_within | (with_reducible apply foldl_within; intro _ _ h)
      | with_reducible apply Within.ite | with_reducible apply WithinOut.ite | split | dsimp only)

theorem execAllToAll_within (i : Nat) (others : List (Nat × List Byte)) (t : Nat) (hT :
    0x2c80000000001300008002000000000008040000000001000010003020d8000017a0ce1f807000000300000000a0da7d57ef80 ||| T =
    T) : WithinOut T s (execAllToAll i others t s) := by
  have h : Within T s s := Within.start
  unfold execAllToAll
  try dsimp only
  repeat' (
    first
      | with_reducible exact h | with_reducible rfl | (with_reducible refine sub_of ?_ hT; decide)
      | with_reducible assumption | with_reducible exact WithinOut.fault _ | with_reducible apply WithinOut.next
      | with_reducible apply runCollective_within | (with_reducible apply foldl_within; intro _ _ h)
      | with_reducible apply Within.ite | with_reducible apply WithinOut.ite | split | dsimp only)

theorem execSend_within (i : Nat) (t : Nat) (hT :
    0x2c80000000001300008002000000000008040000000001000010003020d8000017a0ce1f807000000300000000a0da7d57ef80 ||| T =
    T) : WithinOut T s (execSend i t s) := by
  have h : Within T s s := Within.start
  unfold execSend
  try dsimp only
  repeat' (
    first
      | with_reducible exact h | with_reducible rfl | (with_reducible refine sub_of ?_ hT; decide)
      | with_reducible assumption | with_reducible exact WithinOut.fault _ | with_reducible apply WithinOut.next
      | with_reducible apply runCollective_within | (with_reducible apply foldl_within; intro _ _ h)
      | with_reducible apply Within.ite | with_reducible apply WithinOut.ite | split | dsimp only)

theorem execRecv_within (i : Nat) (others : List (Nat × List Byte)) (t : Nat) (hT :
    0x2c80000000001300008002000000000008040000000001000010003020d8000017a0ce1f807000000300000000a0da7d57ef80 ||| T =
    T) : WithinOut T s (execRecv i others t s) := by
  have h : Within T s s := Within.start
  unfold execRecv
  try dsimp only
  repeat' (
    first
      | with_reducible exact h | with_reducible rfl | (with_reducible refine sub_of ?_ hT; decide)
      | with_reducible assumption | with_reducible exact WithinOut.fault _ | with_reducible apply WithinOut.next
      | with_reducible apply runCollective_within | (with_reducible apply foldl_within; intro _ _ h)
      | with_reducible apply Within.ite | with_reducible apply WithinOut.ite | split | dsimp only)

theorem execStream_within (i : Nat) (c : Nat) (data : List Byte) (t : Nat) (hT :
    0x2c80000000001300008002000000000008040000000001000010003020d8000017a1ce1f807000000300000000a0da7d57ef80 ||| T =
    T) : WithinOut T s (execStream i c data t s) := by
  have h : Within T s s := Within.start
  unfold execStream
  try dsimp only
  repeat' (
    first
      | with_reducible exact h | with_reducible rfl | (with_reducible refine sub_of ?_ hT; decide)
      | with_reducible assumption | with_reducible exact WithinOut.fault _ | with_reducible apply WithinOut.next
      | with_reducible apply updOp_within | with_reducible apply finishItem_within
      | with_reducible apply fenceRefuse_within | with_reducible apply sendColl_within
      | with_reducible apply lateContribution_within | with_reducible apply writeResult_within
      | with_reducible apply doSet_within | with_reducible apply setItem_within
      | (with_reducible apply foldl_within; intro _ _ h) | (with_reducible apply foldl_fst_within; intro _ _ h)
      | (with_reducible apply foldl_snd_within; intro _ _ h) | with_reducible apply Within.ite
      | with_reducible apply WithinOut.ite | split | dsimp only)

end Sys2Proof.Machine
end

