-- ==== Sys2Proof/Laws/WithinFlows.lean ====
section
/-! SUPPORT. The places that the operations of Machine/Flows.lean may change (Laws/Within.lean). -/

namespace Sys2Proof.Machine

variable {T : Nat} {s0 s : State}

theorem setFab_within (h : Within T s0 s) (f : Fabric) (hT : 0x100000 ||| T = T) : Within T s0 (setFab s f) := by
  unfold setFab
  try dsimp only
  repeat' (
    first
      | with_reducible exact h | with_reducible rfl | (with_reducible refine sub_of ?_ hT; decide)
      | with_reducible assumption | (with_reducible apply foldl_within; intro _ _ h)
      | simp only [Within.upd_iff, (has_of hT (by decide) : Has T 20), or_true, true_or, eq_self]
      | with_reducible apply Within.ite | split | dsimp only)

theorem putFlow_within (h : Within T s0 s) (f : OutFlow) (hT : 0x100000 ||| T = T) : Within T s0 (putFlow s f) := by
  unfold putFlow
  try dsimp only
  repeat' (
    first
      | with_reducible exact h | with_reducible rfl | (with_reducible refine sub_of ?_ hT; decide)
      | with_reducible assumption | with_reducible apply setFab_within
      | (with_reducible apply foldl_within; intro _ _ h) | with_reducible apply Within.ite | split | dsimp only)

theorem sendPiece_within (h : Within T s0 s) (part : Nat) (chan : Nat) (dst : Nat) (transfer : Nat) (t : Nat) (fence :
    Bool) (x : Piece) (hT :
    0x2c000000000013000080020000000000000000000000010000000000000000000000001f807000000000000000000a7854a000 ||| T =
    T) : Within T s0 (sendPiece part chan dst transfer t fence s x) := by
  unfold sendPiece
  try dsimp only
  repeat' (
    first
      | with_reducible exact h | with_reducible rfl | (with_reducible refine sub_of ?_ hT; decide)
      | with_reducible assumption | with_reducible apply putFlow_within | with_reducible apply sendOwn_within
      | (with_reducible apply foldl_within; intro _ _ h) | with_reducible apply Within.ite | split | dsimp only)

theorem forgetTag_within (h : Within T s0 s) (g : Nat) (hT : 0x200000 ||| T = T) : Within T s0 (forgetTag s g) := by
  unfold forgetTag
  try dsimp only
  repeat' (
    first
      | with_reducible exact h | with_reducible rfl | (with_reducible refine sub_of ?_ hT; decide)
      | with_reducible assumption | (with_reducible apply foldl_within; intro _ _ h)
      | simp only [Within.upd_iff, (has_of hT (by decide) : Has T 21), or_true, true_or, eq_self]
      | with_reducible apply Within.ite | split | dsimp only)

theorem stagePieces_within (h : Within T s0 s) (tr : Transfer) (t : Nat) (l : List Piece) (hT : 0x2c000000000013000080020000000000000000000000010000000000000000000000001f807000000000000000000a7854a000 ||| T = T) :
    Within T s0 (stagePieces tr t l s).1 := by
  induction l generalizing s with
  | nil => exact h
  | cons x l ih =>
    unfold stagePieces
    dsimp only
    split
    · exact ih (sendPiece_within h _ _ _ _ _ _ _ (sub_of (by decide) hT))
    · exact h

theorem setWaiting_within (h : Within T s0 s) (tr : Transfer) (l : List Piece) (hT : 0x100000 ||| T = T) : Within T s0
    (setWaiting s tr l) := by
  unfold setWaiting
  try dsimp only
  repeat' (
    first
      | with_reducible exact h | with_reducible rfl | (with_reducible refine sub_of ?_ hT; decide)
      | with_reducible assumption | with_reducible apply setFab_within
      | (with_reducible apply foldl_within; intro _ _ h) | with_reducible apply Within.ite | split | dsimp only)

theorem fillStage_within (h : Within T s0 s) (t : Nat) (hT :
    0x2c000000000013000080020000000000000000000000010000000000000000000000001f807000000000000000000a7854a000 ||| T =
    T) : Within T s0 (fillStage s t) := by
  unfold fillStage
  try dsimp only
  repeat' (
    first
      | with_reducible exact h | with_reducible rfl | (with_reducible refine sub_of ?_ hT; decide)
      | with_reducible assumption | with_reducible apply stagePieces_within | with_reducible apply setWaiting_within
      | (with_reducible apply foldl_within; intro _ _ h) | (with_reducible apply foldl_fst_within; intro _ _ h)
      | (with_reducible apply foldl_snd_within; intro _ _ h) | with_reducible apply Within.ite | split | dsimp only)

theorem startTransfer_within (h : Within T s0 s) (part : Nat) (chan : Nat) (dst : Nat) (order : Nat) (staged : Bool)
    (pieces : List Piece) (t : Nat) (hT :
    0x2c000000000013000080020000000000000000000000010000000000000000000000001f807000000000000000000a7874a000 ||| T =
    T) : Within T s0 (startTransfer s part chan dst order staged pieces t) := by
  unfold startTransfer
  try dsimp only
  repeat' (
    first
      | with_reducible exact h | with_reducible rfl | (with_reducible refine sub_of ?_ hT; decide)
      | with_reducible assumption | with_reducible apply forgetTag_within | with_reducible apply setFab_within
      | with_reducible apply fillStage_within | with_reducible apply sendPiece_within
      | (with_reducible apply foldl_within; intro _ _ h) | with_reducible apply Within.ite | split | dsimp only)

theorem endTransfer_within (h : Within T s0 s) (tr : Transfer) (st : Status) (d : Nat) (hT : 0x100000 ||| T = T) :
    Within T s0 (endTransfer s tr st d) := by
  unfold endTransfer
  try dsimp only
  repeat' (
    first
      | with_reducible exact h | with_reducible rfl | (with_reducible refine sub_of ?_ hT; decide)
      | with_reducible assumption | with_reducible apply setFab_within
      | (with_reducible apply foldl_within; intro _ _ h) | with_reducible apply Within.ite | split | dsimp only)

theorem resendOne_within (h : Within T s0 s) (f : OutFlow) (t : Nat) (u : Sent) (hT :
    0x2c000000000013000080020000000000000000000000010800000000000000000000001f807000000000000000000a7854a000 ||| T =
    T) : Within T s0 (resendOne f t s u) := by
  unfold resendOne
  try dsimp only
  repeat' (
    first
      | with_reducible exact h | with_reducible rfl | (with_reducible refine sub_of ?_ hT; decide)
      | with_reducible assumption | with_reducible apply sendOwn_within | with_reducible apply bump_within
      | with_reducible exact allowed_FAB_E2E_RESEND_COUNT (has_of hT (by decide))
      | (with_reducible apply foldl_within; intro _ _ h) | with_reducible apply Within.ite | split | dsimp only)

theorem resendFlow_within (h : Within T s0 s) (f : OutFlow) (t : Nat) (hT :
    0x2c000000000013000080020000000000000000000000010800000000000000000000001f807000000000000000000a7854a000 ||| T =
    T) : Within T s0 (resendFlow s f t) := by
  unfold resendFlow
  try dsimp only
  repeat' (
    first
      | with_reducible exact h | with_reducible rfl | (with_reducible refine sub_of ?_ hT; decide)
      | with_reducible assumption | with_reducible apply resendOne_within
      | (with_reducible apply foldl_within; intro _ _ h) | with_reducible apply Within.ite | split | dsimp only)

theorem renewVias_within (h : Within T s0 s) (hT : 0x100000 ||| T = T) : Within T s0 (renewVias s) := by
  unfold renewVias
  try dsimp only
  repeat' (
    first
      | with_reducible exact h | with_reducible rfl | (with_reducible refine sub_of ?_ hT; decide)
      | with_reducible assumption | with_reducible apply setFab_within
      | (with_reducible apply foldl_within; intro _ _ h) | with_reducible apply Within.ite | split | dsimp only)

theorem ackFlow_within (h : Within T s0 s) (part : Nat) (chan : Nat) (dst : Nat) (next : Nat) (hT : 0x100000 ||| T =
    T) : Within T s0 (ackFlow s part chan dst next) := by
  unfold ackFlow
  try dsimp only
  repeat' (
    first
      | with_reducible exact h | with_reducible rfl | (with_reducible refine sub_of ?_ hT; decide)
      | with_reducible assumption | with_reducible apply putFlow_within | with_reducible apply endTransfer_within
      | (with_reducible apply foldl_within; intro _ _ h) | with_reducible apply Within.ite | split | dsimp only)

theorem flowTimeout_within (h : Within T s0 s) (f : OutFlow) (t : Nat) (hT :
    0x2c000000000013000080020000000000000000000000010900002200000000000000001f807000000000000000000a7874a000 ||| T =
    T) : Within T s0 (flowTimeout s f t) := by
  unfold flowTimeout
  try dsimp only
  repeat' (
    first
      | with_reducible exact h | with_reducible rfl | (with_reducible refine sub_of ?_ hT; decide)
      | with_reducible assumption | with_reducible apply countConseq_within | with_reducible apply putFlow_within
      | with_reducible apply raise_within | with_reducible apply endTransfer_within
      | with_reducible apply noteTimeout_within | with_reducible apply resendFlow_within
      | with_reducible exact allowed_FAB_EVENT (has_of hT (by decide))
      | (with_reducible apply foldl_within; intro _ _ h) | with_reducible apply Within.ite | split | dsimp only)

theorem severModule_within (h : Within T s0 s) (t : Nat) (hT :
    0x2c80000000001300008002000000000008040000000001000010002000d8000017a0001f807000000300000000a0da7d566f80 ||| T =
    T) : Within T s0 (severModule s t) := by
  unfold severModule
  try dsimp only
  repeat' (
    first
      | with_reducible exact h | with_reducible rfl | (with_reducible refine sub_of ?_ hT; decide)
      | with_reducible assumption | with_reducible apply finishItem_within
      | (with_reducible apply foldl_within; intro _ _ h)
      | simp only [Within.upd_iff, (has_of hT (by decide) : Has T 20), or_true, true_or, eq_self]
      | with_reducible apply Within.ite | split | dsimp only)

theorem dropUnreachable_within (h : Within T s0 s) (hT : 0x100000 ||| T = T) : Within T s0 (dropUnreachable s) := by
  unfold dropUnreachable
  try dsimp only
  repeat' (
    first
      | with_reducible exact h | with_reducible rfl | (with_reducible refine sub_of ?_ hT; decide)
      | with_reducible assumption | with_reducible apply endTransfer_within
      | (with_reducible apply foldl_within; intro _ _ h) | with_reducible apply Within.ite | split | dsimp only)

theorem dropVia_within (h : Within T s0 s) (m : Nat) (hT : 0x100000 ||| T = T) : Within T s0 (dropVia s m) := by
  unfold dropVia
  try dsimp only
  repeat' (
    first
      | with_reducible exact h | with_reducible rfl | (with_reducible refine sub_of ?_ hT; decide)
      | with_reducible assumption | with_reducible apply setFab_within
      | (with_reducible apply foldl_within; intro _ _ h) | with_reducible apply Within.ite | split | dsimp only)

theorem moduleDown_within (h : Within T s0 s) (m : Nat) (from_ : Option Nat) (t : Nat) (hT :
    0x2c800000000013000080020000000000080400000000038100100024e0d8000017a0ce1f807000000300000000a0da7d57ef80 ||| T =
    T) : Within T s0 (moduleDown s m from_ t) := by
  unfold moduleDown
  try dsimp only
  repeat' (
    first
      | with_reducible exact h | with_reducible rfl | (with_reducible refine sub_of ?_ hT; decide)
      | with_reducible assumption | with_reducible apply setFab_within | with_reducible apply flood_within
      | with_reducible apply raise_within | with_reducible apply bump_within
      | with_reducible apply severModule_within | with_reducible apply switchTree_within
      | with_reducible apply dropUnreachable_within | with_reducible apply dropVia_within
      | with_reducible exact allowed_FAB_EVENT (has_of hT (by decide))
      | with_reducible exact allowed_FAB_NODE_DOWN_COUNT (has_of hT (by decide))
      | (with_reducible apply foldl_within; intro _ _ h) | with_reducible apply Within.ite | split | dsimp only)

theorem checkNeighbour_within (h : Within T s0 s) (n : Nat) (lost : Bool) (t : Nat) (hT :
    0x2c800000000013000080020000000000080400000000038100100024e0d8000017a0ce1f807000000300000000a0da7d57ef80 ||| T =
    T) : Within T s0 (checkNeighbour s n lost t) := by
  unfold checkNeighbour
  try dsimp only
  repeat' (
    first
      | with_reducible exact h | with_reducible rfl | (with_reducible refine sub_of ?_ hT; decide)
      | with_reducible assumption | with_reducible apply dropUnreachable_within
      | with_reducible apply moduleDown_within | (with_reducible apply foldl_within; intro _ _ h)
      | with_reducible apply Within.ite | split | dsimp only)

theorem ageLedger_within (h : Within T s0 s) (hT : 0x200000 ||| T = T) : Within T s0 (ageLedger s) := by
  unfold ageLedger
  try dsimp only
  repeat' (
    first
      | with_reducible exact h | with_reducible rfl | (with_reducible refine sub_of ?_ hT; decide)
      | with_reducible assumption | (with_reducible apply foldl_within; intro _ _ h)
      | simp only [Within.upd_iff, (has_of hT (by decide) : Has T 21), or_true, true_or, eq_self]
      | with_reducible apply Within.ite | split | dsimp only)

theorem closeTag_within (h : Within T s0 s) (tag : Nat) (hT : 0x200000 ||| T = T) : Within T s0 (closeTag s tag) := by
  unfold closeTag
  try dsimp only
  repeat' (
    first
      | with_reducible exact h | with_reducible rfl | (with_reducible refine sub_of ?_ hT; decide)
      | with_reducible assumption | (with_reducible apply foldl_within; intro _ _ h)
      | simp only [Within.upd_iff, (has_of hT (by decide) : Has T 21), or_true, true_or, eq_self]
      | with_reducible apply Within.ite | split | dsimp only)

theorem lateFault_within (h : Within T s0 s) (tag : Nat) (t : Nat) (hT :
    0x130000800200000000000000000000000000000022004000000000000000000000000000000000000a78000000 ||| T = T) : Within T
    s0 (lateFault s tag t) := by
  unfold lateFault
  try dsimp only
  repeat' (
    first
      | with_reducible exact h | with_reducible rfl | (with_reducible refine sub_of ?_ hT; decide)
      | with_reducible assumption | with_reducible apply countConseq_within | with_reducible apply wr_within
      | with_reducible exact allowed_HUB_COLL_LOG_0 (has_of hT (by decide))
      | (with_reducible apply foldl_within; intro _ _ h) | with_reducible apply Within.ite | split | dsimp only)

theorem faultOwn_within (h : Within T s0 s) (ptype : Nat) (tag : Nat) (t : Nat) (hT :
    0x2c80000000001300008002000000000008040000000001080010002000d8000017a0001f807000000300000000a0da7d76ef80 ||| T =
    T) : Within T s0 (faultOwn s ptype tag t) := by
  unfold faultOwn
  try dsimp only
  repeat' (
    first
      | with_reducible exact h | with_reducible rfl | (with_reducible refine sub_of ?_ hT; decide)
      | with_reducible assumption | with_reducible apply resendFlow_within | with_reducible apply putFlow_within
      | with_reducible apply finishItem_within | with_reducible apply closeTag_within
      | (with_reducible apply foldl_within; intro _ _ h) | with_reducible apply Within.ite | split | dsimp only)

theorem logFault_within (h : Within T s0 s) (port : Nat) (tag : Nat) (rx : Bool) (hT :
    0xc000000000000000000000000000000000000000000000000 ||| T = T) : Within T s0 (logFault s port tag rx) := by
  unfold logFault
  try dsimp only
  repeat' (
    first
      | with_reducible exact h | with_reducible rfl | (with_reducible refine sub_of ?_ hT; decide)
      | with_reducible assumption | with_reducible apply wr_within
      | with_reducible exact allowed_LNK_FAULT_LOG_1 (has_of hT (by decide))
      | with_reducible exact allowed_LNK_FAULT_LOG_0 (has_of hT (by decide))
      | (with_reducible apply foldl_within; intro _ _ h) | with_reducible apply Within.ite | split | dsimp only)

theorem faultContribution_within (h : Within T s0 s) (p : Packet) (t : Nat) (hT :
    0x2c000000000013000080020000000000000000000000010000000004e00000000000ce1f807000000000000000000a7857a000 ||| T =
    T) : Within T s0 (faultContribution s p t) := by
  unfold faultContribution
  try dsimp only
  repeat' (
    first
      | with_reducible exact h | with_reducible rfl | (with_reducible refine sub_of ?_ hT; decide)
      | with_reducible assumption | with_reducible apply sealWhenReady_within
      | with_reducible apply loseMember_within | (with_reducible apply foldl_within; intro _ _ h)
      | with_reducible apply Within.ite | split | dsimp only)

theorem reportOp_within (h : Within T s0 s) (port : Nat) (rx : Bool) (t : Nat) (p : Packet) (hT :
    0x2c80000000001300008002000000000008040000000001080010ee24e0d8000017a0ce1f807000000300000000a0da7d77ef80 ||| T =
    T) : Within T s0 (reportOp port rx t s p) := by
  unfold reportOp
  try dsimp only
  repeat' (
    first
      | with_reducible exact h | with_reducible rfl | (with_reducible refine sub_of ?_ hT; decide)
      | with_reducible assumption | with_reducible apply logFault_within | with_reducible apply bump_within
      | with_reducible apply lateFault_within | with_reducible apply faultContribution_within
      | with_reducible apply faultOwn_within | with_reducible apply sendCtl_within
      | with_reducible exact allowed_LNK_FAULT_OP_COUNT (has_of hT (by decide))
      | with_reducible exact allowed_LNK_NOTICE_TX_COUNT (has_of hT (by decide))
      | (with_reducible apply foldl_within; intro _ _ h)
      | simp only [Within.upd_iff, (has_of hT (by decide) : Has T 21), or_true, true_or, eq_self]
      | with_reducible apply Within.ite | split | dsimp only)

theorem reportPort_within (h : Within T s0 s) (n : Nat) (replay : List Flit) (rx : Option Packet) (t : Nat) (hT :
    0x2c80000000001300008002000000000008040000000001080010ee24e0d8000017a0ce1f807000000300000000a0da7d77ef80 ||| T =
    T) : Within T s0 (reportPort s n replay rx t) := by
  unfold reportPort
  try dsimp only
  repeat' (
    first
      | with_reducible exact h | with_reducible rfl | (with_reducible refine sub_of ?_ hT; decide)
      | with_reducible assumption | with_reducible apply reportOp_within
      | (with_reducible apply foldl_within; intro _ _ h) | with_reducible apply Within.ite | split | dsimp only)

end Sys2Proof.Machine
end

