-- ==== Sys2Proof/Laws/WithinMasks.lean ====
section
/-! SUPPORT. The places that the operations of Machine/Masks.lean may change (Laws/Within.lean). -/

namespace Sys2Proof.Machine

variable {T : Nat} {s0 s : State}

theorem autoFail_within (h : Within T s0 s) (t : Nat) (hT :
    0x130000800200000004000000000000000000000000000000000000000000000000000000000000000a78000000 ||| T = T) : Within T
    s0 (autoFail s t) := by
  unfold autoFail
  try dsimp only
  repeat' (
    first
      | with_reducible exact h | with_reducible rfl | (with_reducible refine sub_of ?_ hT; decide)
      | with_reducible assumption | with_reducible apply raise_within
      | with_reducible exact allowed_MSK_EVENT (has_of hT (by decide))
      | (with_reducible apply foldl_within; intro _ _ h) | with_reducible apply Within.ite | split | dsimp only)

theorem execAutoLoad_within (n : Nat) (t : Nat) (hT :
    0x130000800200000014000000000000000000000000000000000000000000000000000000000000000a78000000 ||| T = T) :
    WithinOut T s (execAutoLoad n t s) := by
  have h : Within T s s := Within.start
  unfold execAutoLoad
  try dsimp only
  repeat' (
    first
      | with_reducible exact h | with_reducible rfl | (with_reducible refine sub_of ?_ hT; decide)
      | with_reducible assumption | with_reducible exact WithinOut.fault _ | with_reducible apply WithinOut.next
      | with_reducible apply autoFail_within | with_reducible apply wr_within
      | with_reducible exact allowed_MSK_AUTO_STATUS (has_of hT (by decide))
      | (with_reducible apply foldl_within; intro _ _ h) | with_reducible apply Within.ite
      | with_reducible apply WithinOut.ite | split | dsimp only)

theorem execAutoUnload_within (n : Nat) (t : Nat) (hT :
    0x130000800200040014000000000000000000000000000000000000000000000000000000000000000a78000000 ||| T = T) :
    WithinOut T s (execAutoUnload n t s) := by
  have h : Within T s s := Within.start
  unfold execAutoUnload
  try dsimp only
  repeat' (
    first
      | with_reducible exact h | with_reducible rfl | (with_reducible refine sub_of ?_ hT; decide)
      | with_reducible assumption | with_reducible exact WithinOut.fault _ | with_reducible apply WithinOut.next
      | with_reducible apply autoFail_within | with_reducible apply wr_within
      | with_reducible exact allowed_MSK_AUTO_STATUS (has_of hT (by decide))
      | with_reducible exact allowed_MSK_AUTO_W0 _ (has_of hT (by decide))
      | (with_reducible apply foldl_within; intro _ _ h) | with_reducible apply Within.ite
      | with_reducible apply WithinOut.ite | split | dsimp only)

theorem execAutoValidationDone_within (t : Nat) (hT :
    0x130000800200040014000000000000000000000000000000000000000000000000000000000000000a78000000 ||| T = T) :
    WithinOut T s (execAutoValidationDone t s) := by
  have h : Within T s s := Within.start
  unfold execAutoValidationDone
  try dsimp only
  repeat' (
    first
      | with_reducible exact h | with_reducible rfl | (with_reducible refine sub_of ?_ hT; decide)
      | with_reducible assumption | with_reducible exact WithinOut.fault _ | with_reducible apply WithinOut.next
      | with_reducible apply wr_within | with_reducible apply autoFail_within
      | with_reducible exact allowed_MSK_AUTO_STATUS (has_of hT (by decide))
      | with_reducible exact allowed_MSK_AUTO_W0 _ (has_of hT (by decide))
      | (with_reducible apply foldl_within; intro _ _ h) | with_reducible apply Within.ite
      | with_reducible apply WithinOut.ite | split | dsimp only)

theorem execAdapterRegister_within (a : Nat) (v : Word) (t : Nat) (hT :
    0x130000800204000404000000000000000000000000000000000000000000000000000000000000000a78000000 ||| T = T) :
    WithinOut T s (execAdapterRegister a v t s) := by
  have h : Within T s s := Within.start
  unfold execAdapterRegister
  try dsimp only
  repeat' (
    first
      | with_reducible exact h | with_reducible rfl | (with_reducible refine sub_of ?_ hT; decide)
      | with_reducible assumption | with_reducible exact WithinOut.fault _ | with_reducible apply WithinOut.next
      | with_reducible apply wr_within | with_reducible apply raise_within | with_reducible apply bump_within
      | with_reducible exact allowed_MSK_ADAPTER_W0 _ (has_of hT (by decide))
      | with_reducible exact allowed_MSK_EVENT (has_of hT (by decide))
      | with_reducible exact allowed_MSK_ADAPTER_REFUSE_COUNT (has_of hT (by decide))
      | (with_reducible apply foldl_within; intro _ _ h) | with_reducible apply Within.ite
      | with_reducible apply WithinOut.ite | split | dsimp only)

end Sys2Proof.Machine
end

