-- ==== Sys2Proof/Laws/WithinLedger.lean ====
section
/-! SUPPORT. The places that the operations of Machine/Ledger.lean may change (Laws/Within.lean). -/

namespace Sys2Proof.Machine

variable {T : Nat} {s0 s : State}

theorem refuseClaim_within (h : Within T s0 s) (code : Nat) (t : Nat) (hT :
    0x1300008002000000000000a4000000000000000000000000000000000000000000000000000000000a78000000 ||| T = T) : Within T
    s0 (refuseClaim s code t) := by
  unfold refuseClaim
  try dsimp only
  repeat' (
    first
      | with_reducible exact h | with_reducible rfl | (with_reducible refine sub_of ?_ hT; decide)
      | with_reducible assumption | with_reducible apply bump_within | with_reducible apply wr_within
      | with_reducible apply raise_within | with_reducible exact allowed_LDG_REFUSE_COUNT (has_of hT (by decide))
      | with_reducible exact allowed_LDG_REFUSE_LOG (has_of hT (by decide))
      | with_reducible exact allowed_LDG_EVENT (has_of hT (by decide))
      | (with_reducible apply foldl_within; intro _ _ h) | with_reducible apply Within.ite | split | dsimp only)

theorem shipFailed_within (h : Within T s0 s) (k : Nat) (st : Status) (d : Nat) (t : Nat) (hT :
    0x2c0000000000130000800200000804000000000000000100000000000000000007a0001f80700000000000000020da7d546f00 ||| T =
    T) : Within T s0 (shipFailed s k st d t) := by
  unfold shipFailed
  try dsimp only
  repeat' (
    first
      | with_reducible exact h | with_reducible rfl | (with_reducible refine sub_of ?_ hT; decide)
      | with_reducible assumption | with_reducible apply endRequest_within | with_reducible apply tellDecode_within
      | with_reducible apply raise_within | with_reducible apply bump_within
      | with_reducible exact allowed_MSK_EVENT (has_of hT (by decide))
      | with_reducible exact allowed_MSK_SHIP_FAIL_COUNT (has_of hT (by decide))
      | (with_reducible apply foldl_within; intro _ _ h) | with_reducible apply Within.ite | split | dsimp only)

theorem reapTransfers_within (h : Within T s0 s) (t : Nat) (hT :
    0x2c0000000000130000800200000804000000000000000100000000000000000007a0001f80700000000000000020da7d54ef00 ||| T =
    T) : Within T s0 (reapTransfers s t) := by
  unfold reapTransfers
  try dsimp only
  repeat' (
    first
      | with_reducible exact h | with_reducible rfl | (with_reducible refine sub_of ?_ hT; decide)
      | with_reducible assumption | with_reducible apply setFab_within | with_reducible apply freeSlot_within
      | with_reducible apply shipFailed_within | with_reducible apply fillStage_within
      | (with_reducible apply foldl_within; intro _ _ h) | with_reducible apply Within.ite | split | dsimp only)

theorem promptKnown_within (h : Within T s0 s) (k : Nat) (bs : List Byte) (t : Nat) (hT :
    0x2c0000000000130000800240000804000000000000000100000000000000000007a0001f80700000000000000020da7d74ef00 ||| T =
    T) : Within T s0 (promptKnown s k bs t) := by
  unfold promptKnown
  try dsimp only
  repeat' (
    first
      | with_reducible exact h | with_reducible rfl | (with_reducible refine sub_of ?_ hT; decide)
      | with_reducible assumption | with_reducible apply wr_within | with_reducible apply reapTransfers_within
      | with_reducible apply startTransfer_within
      | with_reducible exact allowed_MSK_SLOT_STATE _ (has_of hT (by decide))
      | (with_reducible apply foldl_within; intro _ _ h) | with_reducible apply Within.ite | split | dsimp only)

theorem readPrompt_within (h : Within T s0 s) (k : Nat) (t : Nat) (hT :
    0x2c0000000000130000800240000804000000000000000100000000000000000007a0001f80700000000000000020da7d74ef00 ||| T =
    T) : Within T s0 (readPrompt s k t) := by
  unfold readPrompt
  try dsimp only
  repeat' (
    first
      | with_reducible exact h | with_reducible rfl | (with_reducible refine sub_of ?_ hT; decide)
      | with_reducible assumption | with_reducible apply endRequest_within | with_reducible apply fenceRefuse_within
      | with_reducible apply issueRead_within | with_reducible apply promptKnown_within
      | (with_reducible apply foldl_within; intro _ _ h) | with_reducible apply Within.ite | split | dsimp only)

theorem promptPiece_within (h : Within T s0 s) (k : Nat) (off : Nat) (bs : List Byte) (t : Nat) (hT :
    0x2c0000000000130000800240000804000000000000000100000000000000000007a0001f80700000000000000020da7d74ef00 ||| T =
    T) : Within T s0 (promptPiece s k off bs t) := by
  unfold promptPiece
  try dsimp only
  repeat' (
    first
      | with_reducible exact h | with_reducible rfl | (with_reducible refine sub_of ?_ hT; decide)
      | with_reducible assumption | with_reducible apply setSlot_within | with_reducible apply promptKnown_within
      | (with_reducible apply foldl_within; intro _ _ h) | with_reducible apply Within.ite | split | dsimp only)

theorem execLdgAdmit_within (v : Word) (t : Nat) (hT :
    0x2c00000000001300008002400008040000f4000000000100000000000000000007a0001f80700000000000000020da7d74ef00 ||| T =
    T) : WithinOut T s (execLdgAdmit v t s) := by
  have h : Within T s s := Within.start
  unfold execLdgAdmit
  try dsimp only
  repeat' (
    first
      | with_reducible exact h | with_reducible rfl | (with_reducible refine sub_of ?_ hT; decide)
      | with_reducible assumption | with_reducible exact WithinOut.fault _ | with_reducible apply WithinOut.next
      | with_reducible apply wr_within | with_reducible apply refuseClaim_within
      | with_reducible apply takePages_within | with_reducible apply setSlot_within
      | with_reducible apply setLdg_within | with_reducible apply startFetch_within
      | with_reducible apply setQueue_within | with_reducible apply sendUpdate_within
      | with_reducible apply readPrompt_within | with_reducible apply bump_within
      | with_reducible exact allowed_LDG_ADMIT_RESULT (has_of hT (by decide))
      | with_reducible exact allowed_MSK_SLOT_STATE _ (has_of hT (by decide))
      | with_reducible exact allowed_LDG_ADMIT_COUNT (has_of hT (by decide))
      | (with_reducible apply foldl_within; intro _ _ h) | with_reducible apply Within.ite
      | with_reducible apply WithinOut.ite | split | dsimp only)

theorem writeBatch_within (h : Within T s0 s) (m : Nat) (kind : Nat) (tick : Nat) (md : Model) (recs : List BatchRec)
    (t : Nat) (hT : 0x13000080020000000010040400000000000000000000000000000000001f807000000000000000008a7d006000 ||| T
    = T) : Within T s0 (writeBatch s m kind tick md recs t) := by
  unfold writeBatch
  try dsimp only
  repeat' (
    first
      | with_reducible exact h | with_reducible rfl | (with_reducible refine sub_of ?_ hT; decide)
      | with_reducible assumption | with_reducible apply raise_within | with_reducible apply bump_within
      | with_reducible apply setRun_within | with_reducible apply hostWrite_within
      | with_reducible apply fenceRefuse_within | with_reducible apply wr_within
      | with_reducible apply setLdg_within | with_reducible exact allowed_LDG_EVENT (has_of hT (by decide))
      | with_reducible exact allowed_LDG_OUT_DROP_COUNT (has_of hT (by decide))
      | with_reducible exact allowed_LDG_OUT_TAIL _ (has_of hT (by decide))
      | (with_reducible apply foldl_within; intro _ _ h) | with_reducible apply Within.ite | split | dsimp only)

theorem execOutputRingEnable_within (p : Nat) (v : Word) (hT :
    0x80000000000000000000000000000000000000000000000000000000000000000000000 ||| T = T) : WithinOut T s
    (execOutputRingEnable p v s) := by
  have h : Within T s s := Within.start
  unfold execOutputRingEnable
  try dsimp only
  repeat' (
    first
      | with_reducible exact h | with_reducible rfl | (with_reducible refine sub_of ?_ hT; decide)
      | with_reducible assumption | with_reducible exact WithinOut.fault _ | with_reducible apply WithinOut.next
      | with_reducible apply wr_within | with_reducible exact allowed_LDG_OUT_CFG _ (has_of hT (by decide))
      | (with_reducible apply foldl_within; intro _ _ h) | with_reducible apply Within.ite
      | with_reducible apply WithinOut.ite | split | dsimp only)

theorem execLdgOutHeadWrite_within (p : Nat) (v : Word) (hT :
    0x200000000000000000000000000000000000000000000000000000000000000001000000 ||| T = T) : WithinOut T s
    (execLdgOutHeadWrite p v s) := by
  have h : Within T s s := Within.start
  unfold execLdgOutHeadWrite
  try dsimp only
  repeat' (
    first
      | with_reducible exact h | with_reducible rfl | (with_reducible refine sub_of ?_ hT; decide)
      | with_reducible assumption | with_reducible exact WithinOut.fault _ | with_reducible apply WithinOut.next
      | with_reducible apply setLdg_within | with_reducible apply wr_within
      | with_reducible exact allowed_LDG_OUT_HEAD _ (has_of hT (by decide))
      | (with_reducible apply foldl_within; intro _ _ h) | with_reducible apply Within.ite
      | with_reducible apply WithinOut.ite | split | dsimp only)

theorem writeCandidates_within (h : Within T s0 s) (k : Nat) (tick : Nat) (md : Model) (logits : List Nat) (t : Nat)
    (hT : 0x13000080020000000000000000000000000000000000000000000000001f807000000000000000008a7d006000 ||| T = T) :
    Within T s0 (writeCandidates s k tick md logits t) := by
  unfold writeCandidates
  try dsimp only
  repeat' (
    first
      | with_reducible exact h | with_reducible rfl | (with_reducible refine sub_of ?_ hT; decide)
      | with_reducible assumption | with_reducible apply setSlot_within | with_reducible apply hostWrite_within
      | with_reducible apply fenceRefuse_within | (with_reducible apply foldl_within; intro _ _ h)
      | with_reducible apply Within.ite | split | dsimp only)

theorem emitTokens_within (h : Within T s0 s) (k : Nat) (toks : List Nat) (hT :
    0x40000000000000000000000000000000000000000000000000000000000000000000000001000000 ||| T = T) : Within T s0
    (emitTokens s k toks) := by
  unfold emitTokens
  try dsimp only
  repeat' (
    first
      | with_reducible exact h | with_reducible rfl | (with_reducible refine sub_of ?_ hT; decide)
      | with_reducible assumption | with_reducible apply wr_within | with_reducible apply setSlot_within
      | with_reducible exact allowed_MSK_SLOT_STATE _ (has_of hT (by decide))
      | (with_reducible apply foldl_within; intro _ _ h) | with_reducible apply Within.ite | split | dsimp only)

theorem emitRow_within (h : Within T s0 s) (k : Nat) (md : Model) (toks : List Nat) (none_ : Bool) (t : Nat) (hT :
    0x130000800240000084000000000000000000000000000000000000000000000000000000000000000a79000000 ||| T = T) : Within T
    s0 (emitRow s k md toks none_ t).2 := by
  unfold emitRow
  try dsimp only
  repeat' (
    first
      | with_reducible exact h | with_reducible rfl | (with_reducible refine sub_of ?_ hT; decide)
      | with_reducible assumption | with_reducible apply emitTokens_within | with_reducible apply raise_within
      | with_reducible apply bump_within | with_reducible apply setSlot_within
      | with_reducible exact allowed_MSK_EVENT (has_of hT (by decide))
      | with_reducible exact allowed_MSK_MASK_END_COUNT (has_of hT (by decide))
      | (with_reducible apply foldl_within; intro _ _ h) | (with_reducible apply foldl_fst_within; intro _ _ h)
      | (with_reducible apply foldl_snd_within; intro _ _ h) | with_reducible apply Within.ite | split | dsimp only)

theorem deferMask_within (h : Within T s0 s) (m : Nat) (k : Nat) (hT : 0x1000000 ||| T = T) : Within T s0 (deferMask s
    m k) := by
  unfold deferMask
  try dsimp only
  repeat' (
    first
      | with_reducible exact h | with_reducible rfl | (with_reducible refine sub_of ?_ hT; decide)
      | with_reducible assumption | with_reducible apply setRun_within
      | (with_reducible apply foldl_within; intro _ _ h) | with_reducible apply Within.ite | split | dsimp only)

theorem endSoon_within (h : Within T s0 s) (k : Nat) (st : Status) (d : Nat) (t : Nat) (hT :
    0x2c0000000000130000800200000000000000000000000100000000000000000007a0001f80700000000000000020da7d546f00 ||| T =
    T) : Within T s0 (endSoon s k st d t) := by
  unfold endSoon
  try dsimp only
  repeat' (
    first
      | with_reducible exact h | with_reducible rfl | (with_reducible refine sub_of ?_ hT; decide)
      | with_reducible assumption | with_reducible apply deferMask_within | with_reducible apply setSlot_within
      | with_reducible apply sendUpdate_within | with_reducible apply settleSlot_within
      | (with_reducible apply foldl_within; intro _ _ h) | with_reducible apply Within.ite | split | dsimp only)

theorem withdrawOrder_within (h : Within T s0 s) (k : Nat) (hT :
    0x2c0000000000130000800200000000000000000000000100000000000000000000000000000000000000000000000a78540000 ||| T =
    T) : Within T s0 (withdrawOrder s k) := by
  unfold withdrawOrder
  try dsimp only
  repeat' (
    first
      | with_reducible exact h | with_reducible rfl | (with_reducible refine sub_of ?_ hT; decide)
      | with_reducible assumption | with_reducible apply sendCtl_within
      | (with_reducible apply foldl_within; intro _ _ h) | with_reducible apply Within.ite | split | dsimp only)

theorem cancelSlot_within (h : Within T s0 s) (k : Nat) (t : Nat) (hT :
    0x2c0000000000130000800200000000000100000000000100000000000000000007a0001f80700000000000000020da7d546f00 ||| T =
    T) : Within T s0 (cancelSlot s k t) := by
  unfold cancelSlot
  try dsimp only
  repeat' (
    first
      | with_reducible exact h | with_reducible rfl | (with_reducible refine sub_of ?_ hT; decide)
      | with_reducible assumption | with_reducible apply bump_within | with_reducible apply endSoon_within
      | with_reducible apply withdrawOrder_within | with_reducible apply endRequest_within
      | with_reducible exact allowed_LDG_CANCEL_COUNT (has_of hT (by decide))
      | (with_reducible apply foldl_within; intro _ _ h) | with_reducible apply Within.ite | split | dsimp only)

theorem dropQueueRequests_within (h : Within T s0 s) (q : Nat) (t : Nat) (hT :
    0x2c0000000000130000800200000000000000000000000100000000000000000007a0001f80700000000000000020da7d546f00 ||| T =
    T) : Within T s0 (dropQueueRequests s q t) := by
  unfold dropQueueRequests
  try dsimp only
  repeat' (
    first
      | with_reducible exact h | with_reducible rfl | (with_reducible refine sub_of ?_ hT; decide)
      | with_reducible assumption | with_reducible apply withdrawOrder_within | with_reducible apply setSlot_within
      | with_reducible apply endSoon_within | with_reducible apply endRequest_within
      | (with_reducible apply foldl_within; intro _ _ h) | with_reducible apply Within.ite | split | dsimp only)

theorem dropPartRequests_within (h : Within T s0 s) (p : Nat) (t : Nat) (hT :
    0x2c0000000000130000800200000000000000000000000100000000000000000007a0001f80700000000000000020da7d546f00 ||| T =
    T) : Within T s0 (dropPartRequests s p t) := by
  unfold dropPartRequests
  try dsimp only
  repeat' (
    first
      | with_reducible exact h | with_reducible rfl | (with_reducible refine sub_of ?_ hT; decide)
      | with_reducible assumption | with_reducible apply endRequest_within
      | with_reducible apply withdrawOrder_within | (with_reducible apply foldl_within; intro _ _ h)
      | with_reducible apply Within.ite | split | dsimp only)

end Sys2Proof.Machine
end

