-- ==== Sys2Proof/Laws/WithinServing.lean ====
section
/-! SUPPORT. The places that the operations of Machine/Serving.lean may change (Laws/Within.lean). -/

namespace Sys2Proof.Machine

variable {T : Nat} {s0 s : State}

theorem startRow_within (h : Within T s0 s) (inTick : Nat) (t : Nat) (k : Nat) (hT :
    0x130000800200000024000000000000000000000000000000000000000000000000000000000000000a79000000 ||| T = T) : Within T
    s0 (startRow inTick t s k) := by
  unfold startRow
  try dsimp only
  repeat' (
    first
      | with_reducible exact h | with_reducible rfl | (with_reducible refine sub_of ?_ hT; decide)
      | with_reducible assumption | with_reducible apply setSlot_within | with_reducible apply raise_within
      | with_reducible apply bump_within | with_reducible exact allowed_MSK_EVENT (has_of hT (by decide))
      | with_reducible exact allowed_MSK_HOST_LATE_COUNT (has_of hT (by decide))
      | (with_reducible apply foldl_within; intro _ _ h) | with_reducible apply Within.ite | split | dsimp only)

theorem applyUpdate_within (h : Within T s0 s) (m : Nat) (u : SlotUpdate) (hT : 0x1000000 ||| T = T) : Within T s0
    (applyUpdate m s u) := by
  unfold applyUpdate
  try dsimp only
  repeat' (
    first
      | with_reducible exact h | with_reducible rfl | (with_reducible refine sub_of ?_ hT; decide)
      | with_reducible assumption | with_reducible apply setLdg_within | with_reducible apply setSlot_within
      | (with_reducible apply foldl_within; intro _ _ h) | with_reducible apply Within.ite | split | dsimp only)

theorem applyUpdates_within (h : Within T s0 s) (m : Nat) (hT : 0x1000000 ||| T = T) : Within T s0 (applyUpdates s m)
    := by
  unfold applyUpdates
  try dsimp only
  repeat' (
    first
      | with_reducible exact h | with_reducible rfl | (with_reducible refine sub_of ?_ hT; decide)
      | with_reducible assumption | with_reducible apply applyUpdate_within | with_reducible apply setRun_within
      | (with_reducible apply foldl_within; intro _ _ h) | with_reducible apply Within.ite | split | dsimp only)

theorem writeMask_within (h : Within T s0 s) (m : Nat) (md : Model) (it : Item) (hT : 0x214000000000 ||| T = T) :
    Within T s0 (writeMask m md s it) := by
  unfold writeMask
  try dsimp only
  repeat' (
    first
      | with_reducible exact h | with_reducible rfl | (with_reducible refine sub_of ?_ hT; decide)
      | with_reducible assumption | with_reducible apply memWrite_within
      | (with_reducible apply foldl_within; intro _ _ h)
      | simp only [Within.upd_iff, (has_of hT (by decide) : Has T 40), or_true, true_or, eq_self]
      | with_reducible apply Within.ite | split | dsimp only)

theorem writeMasks_within (h : Within T s0 s) (m : Nat) (md : Model) (hT : 0x214000000000 ||| T = T) : Within T s0
    (writeMasks s m md) := by
  unfold writeMasks
  try dsimp only
  repeat' (
    first
      | with_reducible exact h | with_reducible rfl | (with_reducible refine sub_of ?_ hT; decide)
      | with_reducible assumption | with_reducible apply writeMask_within
      | (with_reducible apply foldl_within; intro _ _ h) | with_reducible apply Within.ite | split | dsimp only)

theorem beginStep_within (h : Within T s0 s) (i : Nat) (m : Nat) (t : Nat) (hT :
    0x2c80000000001300008002000000240008040000000001000010002000d8000017a0001f807000000300000000a1da7d566f80 ||| T =
    T) : Within T s0 (beginStep s i m t) := by
  unfold beginStep
  try dsimp only
  repeat' (
    first
      | with_reducible exact h | with_reducible rfl | (with_reducible refine sub_of ?_ hT; decide)
      | with_reducible assumption | with_reducible apply applyUpdates_within | with_reducible apply setSlot_within
      | with_reducible apply startRow_within | with_reducible apply setRun_within
      | with_reducible apply sendUpdate_within | with_reducible apply writeMasks_within
      | with_reducible apply memWrite_within | with_reducible apply finishItem_within
      | with_reducible apply fenceRefuse_within | (with_reducible apply foldl_within; intro _ _ h)
      | with_reducible apply Within.ite | split | dsimp only)

theorem execMicrostepBoundary_within (m : Nat) (hT : 0x214001000000 ||| T = T) : WithinOut T s (execMicrostepBoundary
    m s) := by
  have h : Within T s s := Within.start
  unfold execMicrostepBoundary
  try dsimp only
  repeat' (
    first
      | with_reducible exact h | with_reducible rfl | (with_reducible refine sub_of ?_ hT; decide)
      | with_reducible assumption | with_reducible exact WithinOut.fault _ | with_reducible apply WithinOut.next
      | with_reducible apply applyUpdates_within | with_reducible apply setRun_within
      | with_reducible apply writeMasks_within | (with_reducible apply foldl_within; intro _ _ h)
      | with_reducible apply Within.ite | with_reducible apply WithinOut.ite | split | dsimp only)

theorem execSlotUpdateRx_within (m : Nat) (k : Nat) (st : Nat) (masked : Bool) (step : Nat) (microstep : Nat) (t :
    Nat) (hT : 0x130000800200000000001004000000000000000000000000000000000000000000000000000000000a79000000 ||| T = T)
    : WithinOut T s (execSlotUpdateRx m k st masked step microstep t s) := by
  have h : Within T s s := Within.start
  unfold execSlotUpdateRx
  try dsimp only
  repeat' (
    first
      | with_reducible exact h | with_reducible rfl | (with_reducible refine sub_of ?_ hT; decide)
      | with_reducible assumption | with_reducible exact WithinOut.fault _ | with_reducible apply WithinOut.next
      | with_reducible apply setRun_within | with_reducible apply raise_within | with_reducible apply bump_within
      | with_reducible exact allowed_LDG_EVENT (has_of hT (by decide))
      | with_reducible exact allowed_LDG_UPDATE_LATE_COUNT (has_of hT (by decide))
      | (with_reducible apply foldl_within; intro _ _ h) | with_reducible apply Within.ite
      | with_reducible apply WithinOut.ite | split | dsimp only)

theorem draftRow_within (h : Within T s0 s) (md : Model) (rows : List (Nat × List (List Nat))) (k : Nat) (hT :
    0x1000000 ||| T = T) : Within T s0 (draftRow md rows s k) := by
  unfold draftRow
  try dsimp only
  repeat' (
    first
      | with_reducible exact h | with_reducible rfl | (with_reducible refine sub_of ?_ hT; decide)
      | with_reducible assumption | with_reducible apply setSlot_within
      | (with_reducible apply foldl_within; intro _ _ h) | with_reducible apply Within.ite | split | dsimp only)

theorem decodeRow_within {a : List BatchRec × State} (h : Within T s0 a.2) (md : Model)
    (rows : List (Nat × List (List Nat))) (tick t k : Nat) (hT : 0x13000080024000038400000000000000000000000000000000000000001f807000000000000000008a7d006000 ||| T = T) :
    Within T s0 (decodeRow md rows tick t a k).2 := by
  unfold decodeRow
  dsimp only
  repeat' (
    first
      | with_reducible exact h | (with_reducible refine sub_of ?_ hT; decide) | split | dsimp only
      | with_reducible apply setSlot_within | with_reducible apply writeCandidates_within
      | with_reducible apply emitRow_within | with_reducible apply bumpN_within | with_reducible apply bump_within
      | with_reducible exact allowed_MSK_SPEC_ACCEPT_COUNT (has_of hT (by decide))
      | with_reducible exact allowed_MSK_SPEC_ROUNDS_COUNT (has_of hT (by decide)))

theorem endModelless_within (h : Within T s0 s) (i : Nat) (t : Nat) (hT :
    0x2c80000000001300008002000000000008040000000001000010002000d8000017a0001f807000000300000000a0da7d566f80 ||| T =
    T) : Within T s0 (endModelless s i t) := by
  unfold endModelless
  try dsimp only
  repeat' (
    first
      | with_reducible exact h | with_reducible rfl | (with_reducible refine sub_of ?_ hT; decide)
      | with_reducible assumption | with_reducible apply finishItem_within
      | (with_reducible apply foldl_within; intro _ _ h) | with_reducible apply Within.ite | split | dsimp only)

theorem execDecodeStepEnd_within (i : Nat) (rows : List (Nat × List (List Nat))) (t : Nat) (hT :
    0x2c8000000000130000800240000384100c040000000001000010002000d8000017a0001f807000000300000000a0da7d566f80 ||| T =
    T) : WithinOut T s (execDecodeStepEnd i rows t s) := by
  have h : Within T s s := Within.start
  unfold execDecodeStepEnd
  try dsimp only
  repeat' (
    first
      | with_reducible exact h | with_reducible rfl | (with_reducible refine sub_of ?_ hT; decide)
      | with_reducible assumption | with_reducible exact WithinOut.fault _ | with_reducible apply WithinOut.next
      | with_reducible apply endModelless_within | with_reducible apply finishItem_within
      | with_reducible apply stepOver_within | with_reducible apply draftRow_within
      | with_reducible apply decodeRow_within | with_reducible apply writeBatch_within
      | with_reducible apply setRun_within | (with_reducible apply foldl_within; intro _ _ h)
      | (with_reducible apply foldl_fst_within; intro _ _ h) | (with_reducible apply foldl_snd_within; intro _ _ h)
      | with_reducible apply Within.ite | with_reducible apply WithinOut.ite | split | dsimp only)

theorem chargeClass_within (h : Within T s0 s) (m : Nat) (md : Model) (c : Nat) (q : Nat) (hT : 0x1000000 ||| T = T) :
    Within T s0 (chargeClass s m md c q) := by
  unfold chargeClass
  try dsimp only
  repeat' (
    first
      | with_reducible exact h | with_reducible rfl | (with_reducible refine sub_of ?_ hT; decide)
      | with_reducible assumption | with_reducible apply setRun_within
      | (with_reducible apply foldl_within; intro _ _ h) | with_reducible apply Within.ite | split | dsimp only)

theorem resumeDone_within (h : Within T s0 s) (k : Nat) (t : Nat) (hT :
    0x130000800200000000000000000000000000000000000000000007a0001f80700000000000000020da7d006f00 ||| T = T) : Within T
    s0 (resumeDone s k t) := by
  unfold resumeDone
  try dsimp only
  repeat' (
    first
      | with_reducible exact h | with_reducible rfl | (with_reducible refine sub_of ?_ hT; decide)
      | with_reducible assumption | with_reducible apply endControl_within | with_reducible apply setSlot_within
      | (with_reducible apply foldl_within; intro _ _ h) | with_reducible apply Within.ite | split | dsimp only)

theorem startShip_within (h : Within T s0 s) (k : Nat) (md : Model) (logits : List Nat) (t : Nat) (hT :
    0x2c000000000013000080020000000000000000000000010000000000000000000000001f807000000000000000000a7974a000 ||| T =
    T) : Within T s0 (startShip s k md logits t) := by
  unfold startShip
  try dsimp only
  repeat' (
    first
      | with_reducible exact h | with_reducible rfl | (with_reducible refine sub_of ?_ hT; decide)
      | with_reducible assumption | with_reducible apply setSlot_within | with_reducible apply startTransfer_within
      | (with_reducible apply foldl_within; intro _ _ h) | with_reducible apply Within.ite | split | dsimp only)

theorem promptDone_within (h : Within T s0 s) (k : Nat) (tick : Nat) (md : Model) (logits : List Nat) (t : Nat) (hT :
    0x2c000000000013000080024000038410040400000000010000000000000000000000001f807000000000000000008a7d546000 ||| T =
    T) : Within T s0 (promptDone s k tick md logits t) := by
  unfold promptDone
  try dsimp only
  repeat' (
    first
      | with_reducible exact h | with_reducible rfl | (with_reducible refine sub_of ?_ hT; decide)
      | with_reducible assumption | with_reducible apply setSlotSt_within | with_reducible apply decodeRow_within
      | with_reducible apply writeBatch_within | (with_reducible apply foldl_within; intro _ _ h)
      | (with_reducible apply foldl_fst_within; intro _ _ h) | (with_reducible apply foldl_snd_within; intro _ _ h)
      | with_reducible apply Within.ite | split | dsimp only)

theorem execPrefillChunkEnd_within (i : Nat) (logits : List Nat) (t : Nat) (hT :
    0x2c8000000000130000800240000b84100c040000000001000010002000d8000017a0001f807000000300000000a0da7d76ef80 ||| T =
    T) : WithinOut T s (execPrefillChunkEnd i logits t s) := by
  have h : Within T s s := Within.start
  unfold execPrefillChunkEnd
  try dsimp only
  repeat' (
    first
      | with_reducible exact h | with_reducible rfl | (with_reducible refine sub_of ?_ hT; decide)
      | with_reducible assumption | with_reducible exact WithinOut.fault _ | with_reducible apply WithinOut.next
      | with_reducible apply endModelless_within | with_reducible apply finishItem_within
      | with_reducible apply chargeClass_within | with_reducible apply setRun_within
      | with_reducible apply setSlot_within | with_reducible apply settleSlot_within
      | with_reducible apply resumeDone_within | with_reducible apply setSlotSt_within
      | with_reducible apply reapTransfers_within | with_reducible apply startShip_within
      | with_reducible apply promptDone_within | (with_reducible apply foldl_within; intro _ _ h)
      | with_reducible apply Within.ite | with_reducible apply WithinOut.ite | split | dsimp only)

theorem execColdPauseComplete_within (k : Nat) (t : Nat) (hT :
    0x2c0000000000130000800200000000000000000000000100000000000000000007a0001f80700000000000000020da7d546f00 ||| T =
    T) : WithinOut T s (execColdPauseComplete k t s) := by
  have h : Within T s s := Within.start
  unfold execColdPauseComplete
  try dsimp only
  repeat' (
    first
      | with_reducible exact h | with_reducible rfl | (with_reducible refine sub_of ?_ hT; decide)
      | with_reducible assumption | with_reducible exact WithinOut.fault _ | with_reducible apply WithinOut.next
      | with_reducible apply endRequest_within | with_reducible apply hostWrite_within
      | with_reducible apply fenceRefuse_within | with_reducible apply setSlotSt_within
      | with_reducible apply releasePages_within | with_reducible apply endControl_within
      | with_reducible apply setSlot_within | with_reducible apply pauseFailed_within
      | (with_reducible apply foldl_within; intro _ _ h) | (with_reducible apply foldl_fst_within; intro _ _ h)
      | (with_reducible apply foldl_snd_within; intro _ _ h) | with_reducible apply Within.ite
      | with_reducible apply WithinOut.ite | split | dsimp only)

theorem execSummaryStoreComplete_within (i : Nat) (t : Nat) (hT :
    0x2c80000000001300008002000000000008040000000001000010002000d8000017a0001f807000000300000000a0da7d566f80 ||| T =
    T) : WithinOut T s (execSummaryStoreComplete i t s) := by
  have h : Within T s s := Within.start
  unfold execSummaryStoreComplete
  try dsimp only
  repeat' (
    first
      | with_reducible exact h | with_reducible rfl | (with_reducible refine sub_of ?_ hT; decide)
      | with_reducible assumption | with_reducible exact WithinOut.fault _ | with_reducible apply WithinOut.next
      | with_reducible apply finishItem_within | with_reducible apply chargeClass_within
      | with_reducible apply takePages_within | with_reducible apply releasePages_within
      | with_reducible apply setSlotSt_within | with_reducible apply endControl_within
      | with_reducible apply setSlot_within | (with_reducible apply foldl_within; intro _ _ h)
      | with_reducible apply Within.ite | with_reducible apply WithinOut.ite | split | dsimp only)

theorem execPauseTtlExpiry_within (k : Nat) (t : Nat) (hT :
    0x2c0000000000130000800200000000000204000000000100000000000000000007a0001f80700000000000000020da7d546f00 ||| T =
    T) : WithinOut T s (execPauseTtlExpiry k t s) := by
  have h : Within T s s := Within.start
  unfold execPauseTtlExpiry
  try dsimp only
  repeat' (
    first
      | with_reducible exact h | with_reducible rfl | (with_reducible refine sub_of ?_ hT; decide)
      | with_reducible assumption | with_reducible exact WithinOut.fault _ | with_reducible apply WithinOut.next
      | with_reducible apply raise_within | with_reducible apply bump_within
      | with_reducible apply endRequest_within | with_reducible exact allowed_LDG_EVENT (has_of hT (by decide))
      | with_reducible exact allowed_LDG_EXPIRE_COUNT (has_of hT (by decide))
      | (with_reducible apply foldl_within; intro _ _ h) | with_reducible apply Within.ite
      | with_reducible apply WithinOut.ite | split | dsimp only)

theorem execColdResumeComplete_within (k : Nat) (fail : Option ReadFail) (t : Nat) (hT :
    0x2c0000000000130000800200000000000000000000000100000000000000000007a0001f80700000000000000020da7d546f00 ||| T =
    T) : WithinOut T s (execColdResumeComplete k fail t s) := by
  have h : Within T s s := Within.start
  unfold execColdResumeComplete
  try dsimp only
  repeat' (
    first
      | with_reducible exact h | with_reducible rfl | (with_reducible refine sub_of ?_ hT; decide)
      | with_reducible assumption | with_reducible exact WithinOut.fault _ | with_reducible apply WithinOut.next
      | with_reducible apply endRequest_within | with_reducible apply resumeDone_within
      | with_reducible apply setSlotSt_within | (with_reducible apply foldl_within; intro _ _ h)
      | with_reducible apply Within.ite | with_reducible apply WithinOut.ite | split | dsimp only)

theorem takePause_within (h : Within T s0 s) (q : Nat) (c : CacheSlot) (t : Nat) (hT :
    0x2c0000000000130000800200000000000000000000000100000000000000000007a0001f80700000000000000020da7d546f00 ||| T =
    T) : Within T s0 (takePause s q c t) := by
  unfold takePause
  try dsimp only
  repeat' (
    first
      | with_reducible exact h | with_reducible rfl | (with_reducible refine sub_of ?_ hT; decide)
      | with_reducible assumption | with_reducible apply completeEntry_within
      | with_reducible apply startFetch_within | with_reducible apply setQueue_within
      | with_reducible apply setSlot_within | with_reducible apply beginPause_within
      | (with_reducible apply foldl_within; intro _ _ h) | with_reducible apply Within.ite | split | dsimp only)

theorem takeResume_within (h : Within T s0 s) (q : Nat) (c : CacheSlot) (t : Nat) (hT :
    0x2c0000000000130000800200000000000000000000000100000000000000000007a0001f80700000000000000020da7d546f00 ||| T =
    T) : Within T s0 (takeResume s q c t) := by
  unfold takeResume
  try dsimp only
  repeat' (
    first
      | with_reducible exact h | with_reducible rfl | (with_reducible refine sub_of ?_ hT; decide)
      | with_reducible assumption | with_reducible apply completeEntry_within
      | with_reducible apply startFetch_within | with_reducible apply setQueue_within
      | with_reducible apply takePages_within | with_reducible apply setSlot_within
      | with_reducible apply setSlotSt_within | with_reducible apply issueRead_within
      | with_reducible apply endRequest_within | with_reducible apply fenceRefuse_within
      | (with_reducible apply foldl_within; intro _ _ h) | with_reducible apply Within.ite | split | dsimp only)

theorem tickTtl_within (h : Within T s0 s) (hT : 0x1000000 ||| T = T) : Within T s0 (tickTtl s) := by
  unfold tickTtl
  try dsimp only
  repeat' (
    first
      | with_reducible exact h | with_reducible rfl | (with_reducible refine sub_of ?_ hT; decide)
      | with_reducible assumption | with_reducible apply setLdg_within
      | (with_reducible apply foldl_within; intro _ _ h) | with_reducible apply Within.ite | split | dsimp only)

theorem tickStalls_within (h : Within T s0 s) (t : Nat) (hT :
    0x130000800200000000002004000000000000000000000000000000000000000000000000000000000a79000000 ||| T = T) : Within T
    s0 (tickStalls s t) := by
  unfold tickStalls
  try dsimp only
  repeat' (
    first
      | with_reducible exact h | with_reducible rfl | (with_reducible refine sub_of ?_ hT; decide)
      | with_reducible assumption | with_reducible apply setRun_within | with_reducible apply raise_within
      | with_reducible apply bump_within | with_reducible exact allowed_LDG_EVENT (has_of hT (by decide))
      | with_reducible exact allowed_LDG_STALL_TICKS_COUNT (has_of hT (by decide))
      | (with_reducible apply foldl_within; intro _ _ h) | with_reducible apply Within.ite | split | dsimp only)

theorem gateLedger_within (h : Within T s0 s) (t : Nat) (hT :
    0x2c000000000013000080020000000000000000000000010000000000000000000000001f807000000000000000000a7d542e00 ||| T =
    T) : Within T s0 (gateLedger s t) := by
  unfold gateLedger
  try dsimp only
  repeat' (
    first
      | with_reducible exact h | with_reducible rfl | (with_reducible refine sub_of ?_ hT; decide)
      | with_reducible assumption | with_reducible apply setSlotSt_within | with_reducible apply setSlot_within
      | with_reducible apply setLdg_within | with_reducible apply issueRead_within
      | with_reducible apply fenceRefuse_within | (with_reducible apply foldl_within; intro _ _ h)
      | with_reducible apply Within.ite | split | dsimp only)

theorem takeReturn_within (h : Within T s0 s) (k : Nat) (bs : List Byte) (t : Nat) (hT :
    0x130000800200000044000000000000000000000000000000000000000000000000000000000000000a79000000 ||| T = T) : Within T
    s0 (takeReturn s k bs t) := by
  unfold takeReturn
  try dsimp only
  repeat' (
    first
      | with_reducible exact h | with_reducible rfl | (with_reducible refine sub_of ?_ hT; decide)
      | with_reducible assumption | with_reducible apply setSlot_within | with_reducible apply raise_within
      | with_reducible apply bump_within | with_reducible exact allowed_MSK_EVENT (has_of hT (by decide))
      | with_reducible exact allowed_MSK_HOST_REFUSE_COUNT (has_of hT (by decide))
      | (with_reducible apply foldl_within; intro _ _ h) | with_reducible apply Within.ite | split | dsimp only)

theorem refuseOrder_within (h : Within T s0 s) (o : Order) (t : Nat) (hT :
    0x2c0000000000130000800200001004000000000000000100000000000000000000000000000000000000000000000a78540000 ||| T =
    T) : Within T s0 (refuseOrder s o t) := by
  unfold refuseOrder
  try dsimp only
  repeat' (
    first
      | with_reducible exact h | with_reducible rfl | (with_reducible refine sub_of ?_ hT; decide)
      | with_reducible assumption | with_reducible apply raise_within | with_reducible apply bump_within
      | with_reducible apply sendCtl_within | with_reducible exact allowed_MSK_EVENT (has_of hT (by decide))
      | with_reducible exact allowed_MSK_ORDER_REFUSE_COUNT (has_of hT (by decide))
      | (with_reducible apply foldl_within; intro _ _ h) | with_reducible apply Within.ite | split | dsimp only)

theorem execOrderRx_within (bytes : List Byte) (src : Nat) (key : Nat) (t : Nat) (hT :
    0x2c0000000000130000800200001004000000000000000100000000000000000000000000000000000000000000000a79540000 ||| T =
    T) : WithinOut T s (execOrderRx bytes src key t s) := by
  have h : Within T s s := Within.start
  unfold execOrderRx
  try dsimp only
  repeat' (
    first
      | with_reducible exact h | with_reducible rfl | (with_reducible refine sub_of ?_ hT; decide)
      | with_reducible assumption | with_reducible exact WithinOut.fault _ | with_reducible apply WithinOut.next
      | with_reducible apply setRun_within | with_reducible apply refuseOrder_within
      | (with_reducible apply foldl_within; intro _ _ h) | with_reducible apply Within.ite
      | with_reducible apply WithinOut.ite | split | dsimp only)

theorem execLdgOrderAdmit_within (v : Word) (t : Nat) (hT :
    0x1300008002400000000100a4000000000000000000000000000000000000000000000000000000000a79000000 ||| T = T) :
    WithinOut T s (execLdgOrderAdmit v t s) := by
  have h : Within T s s := Within.start
  unfold execLdgOrderAdmit
  try dsimp only
  repeat' (
    first
      | with_reducible exact h | with_reducible rfl | (with_reducible refine sub_of ?_ hT; decide)
      | with_reducible assumption | with_reducible exact WithinOut.fault _ | with_reducible apply WithinOut.next
      | with_reducible apply wr_within | with_reducible apply refuseClaim_within
      | with_reducible apply takePages_within | with_reducible apply setSlot_within
      | with_reducible apply setRun_within | with_reducible apply setLdg_within
      | with_reducible exact allowed_LDG_ORDER_RESULT (has_of hT (by decide))
      | with_reducible exact allowed_MSK_SLOT_STATE _ (has_of hT (by decide))
      | (with_reducible apply foldl_within; intro _ _ h) | with_reducible apply Within.ite
      | with_reducible apply WithinOut.ite | split | dsimp only)

theorem execOrderRefuseNoticeRx_within (k : Nat) (reason : Nat) (t : Nat) (hT :
    0x2c0000000000130000800200000804000000000000000100000000000000000007a0001f80700000000000000020da7d546f00 ||| T =
    T) : WithinOut T s (execOrderRefuseNoticeRx k reason t s) := by
  have h : Within T s s := Within.start
  unfold execOrderRefuseNoticeRx
  try dsimp only
  repeat' (
    first
      | with_reducible exact h | with_reducible rfl | (with_reducible refine sub_of ?_ hT; decide)
      | with_reducible assumption | with_reducible exact WithinOut.fault _ | with_reducible apply WithinOut.next
      | with_reducible apply endRequest_within | with_reducible apply shipFailed_within
      | (with_reducible apply foldl_within; intro _ _ h) | with_reducible apply Within.ite
      | with_reducible apply WithinOut.ite | split | dsimp only)

theorem execOrderQueueTimeout_within (m : Nat) (t : Nat) (hT :
    0x2c0000000000130000800200001004000000000000000100000000000000000000000000000000000000000000000a79540000 ||| T =
    T) : WithinOut T s (execOrderQueueTimeout m t s) := by
  have h : Within T s s := Within.start
  unfold execOrderQueueTimeout
  try dsimp only
  repeat' (
    first
      | with_reducible exact h | with_reducible rfl | (with_reducible refine sub_of ?_ hT; decide)
      | with_reducible assumption | with_reducible exact WithinOut.fault _ | with_reducible apply WithinOut.next
      | with_reducible apply refuseOrder_within | with_reducible apply setRun_within
      | (with_reducible apply foldl_within; intro _ _ h) | with_reducible apply Within.ite
      | with_reducible apply WithinOut.ite | split | dsimp only)

theorem dropTransfers_within (h : Within T s0 s) (k : Nat) (hT : 0x100000 ||| T = T) : Within T s0 (dropTransfers s k)
    := by
  unfold dropTransfers
  try dsimp only
  repeat' (
    first
      | with_reducible exact h | with_reducible rfl | (with_reducible refine sub_of ?_ hT; decide)
      | with_reducible assumption | with_reducible apply endTransfer_within | with_reducible apply setFab_within
      | (with_reducible apply foldl_within; intro _ _ h) | with_reducible apply Within.ite | split | dsimp only)

theorem execOrderWithdrawRx_within (src : Nat) (decSlot : Nat) (hT :
    0x2c0000000000130000800200000000000000000000000100000000000000000000000000000000000000000000000a79540000 ||| T =
    T) : WithinOut T s (execOrderWithdrawRx src decSlot s) := by
  have h : Within T s s := Within.start
  unfold execOrderWithdrawRx
  try dsimp only
  repeat' (
    first
      | with_reducible exact h | with_reducible rfl | (with_reducible refine sub_of ?_ hT; decide)
      | with_reducible assumption | with_reducible exact WithinOut.fault _ | with_reducible apply WithinOut.next
      | with_reducible apply setLdg_within | with_reducible apply setSlot_within
      | with_reducible apply freeSlot_within | with_reducible apply dropTransfers_within
      | (with_reducible apply foldl_within; intro _ _ h) | with_reducible apply Within.ite
      | with_reducible apply WithinOut.ite | split | dsimp only)

theorem writePages_within (h : Within T s0 s) (p_ size : Nat) (bs : List Byte) (l : List Nat) (hT : 0x204000000000 ||| T = T) :
    Within T s0 (writePages s p_ size bs l) := by
  induction l generalizing s bs with
  | nil => exact h
  | cons pg l ih => exact ih (memWrite_within h _ _ (sub_of (by decide) hT)) _

theorem execKvShipComplete_within (k : Nat) (pages : List Byte) (token : Option Nat) (autoSt : Nat) (t : Nat) (hT :
    0x2c0000000000130000800240000084100404000000000100000000000000000007a0001f80700000000000000020da7d546f00 ||| T =
    T) : WithinOut T s (execKvShipComplete k pages token autoSt t s) := by
  have h : Within T s s := Within.start
  unfold execKvShipComplete
  try dsimp only
  repeat' (
    first
      | with_reducible exact h | with_reducible rfl | (with_reducible refine sub_of ?_ hT; decide)
      | with_reducible assumption | with_reducible exact WithinOut.fault _ | with_reducible apply WithinOut.next
      | with_reducible apply writePages_within | with_reducible apply emitRow_within
      | with_reducible apply setSlot_within | with_reducible apply wr_within
      | with_reducible apply settleSlot_within | with_reducible apply writeBatch_within
      | with_reducible exact allowed_MSK_SLOT_STATE _ (has_of hT (by decide))
      | (with_reducible apply foldl_within; intro _ _ h) | (with_reducible apply foldl_fst_within; intro _ _ h)
      | (with_reducible apply foldl_snd_within; intro _ _ h) | with_reducible apply Within.ite
      | with_reducible apply WithinOut.ite | split | dsimp only)

theorem execKvShipTimeout_within (k : Nat) (t : Nat) (hT :
    0x2c0000000000130000800200000804000000000000000100000000000000000007a0001f80700000000000000020da7d546f00 ||| T =
    T) : WithinOut T s (execKvShipTimeout k t s) := by
  have h : Within T s s := Within.start
  unfold execKvShipTimeout
  try dsimp only
  repeat' (
    first
      | with_reducible exact h | with_reducible rfl | (with_reducible refine sub_of ?_ hT; decide)
      | with_reducible assumption | with_reducible exact WithinOut.fault _ | with_reducible apply WithinOut.next
      | with_reducible apply shipFailed_within | with_reducible apply dropTransfers_within
      | (with_reducible apply foldl_within; intro _ _ h) | with_reducible apply Within.ite
      | with_reducible apply WithinOut.ite | split | dsimp only)

end Sys2Proof.Machine
end

