-- ==== Sys2Proof/Laws/WithinLink.lean ====
section
/-! SUPPORT. The places that the operations of Machine/Link.lean may change (Laws/Within.lean). -/

namespace Sys2Proof.Machine

variable {T : Nat} {s0 s : State}

theorem rerouteWaiting_within (h : Within T s0 s) (n : Nat) (l : List TxWait) (hT :
    0x2c0000000000130000800200000000000000000000000100000000000000000000000000000000000000000000000a78540000 ||| T =
    T) : Within T s0 (rerouteWaiting s n l) := by
  unfold rerouteWaiting
  try dsimp only
  repeat' (
    first
      | with_reducible exact h | with_reducible rfl | (with_reducible refine sub_of ?_ hT; decide)
      | with_reducible assumption | with_reducible apply routeOut_within
      | (with_reducible apply foldl_within; intro _ _ h) | with_reducible apply Within.ite | split | dsimp only)

theorem abortEgress_within (h : Within T s0 s) (n : Nat) (p : Packet) (hT : 0x800040000 ||| T = T) : Within T s0
    (abortEgress s n p) := by
  unfold abortEgress
  try dsimp only
  repeat' (
    first
      | with_reducible exact h | with_reducible rfl | (with_reducible refine sub_of ?_ hT; decide)
      | with_reducible assumption | with_reducible apply setPort_within | with_reducible apply emit_within
      | (with_reducible apply foldl_within; intro _ _ h) | with_reducible apply Within.ite | split | dsimp only)

theorem endCrossing_within (h : Within T s0 s) (t : Nat) (hT :
    0x2c80000000001300008002000000000008040000000001000010002000d8000017a0001f807000000300000000a0da7d566f80 ||| T =
    T) : Within T s0 (endCrossing s t) := by
  unfold endCrossing
  try dsimp only
  repeat' (
    first
      | with_reducible exact h | with_reducible rfl | (with_reducible refine sub_of ?_ hT; decide)
      | with_reducible assumption | with_reducible apply finishItem_within
      | (with_reducible apply foldl_within; intro _ _ h) | with_reducible apply Within.ite | split | dsimp only)

theorem portFault_within (h : Within T s0 s) (n : Nat) (report : Bool) (lost : Bool) (t : Nat) (hT :
    0x2c80000000001300008002000008040008040000000003890010ee24e0d8000017a0ce1f807000000300000000a0da7d77ef80 ||| T =
    T) : Within T s0 (portFault s n report lost t) := by
  unfold portFault
  try dsimp only
  repeat' (
    first
      | with_reducible exact h | with_reducible rfl | (with_reducible refine sub_of ?_ hT; decide)
      | with_reducible assumption | with_reducible apply abortEgress_within | with_reducible apply raise_within
      | with_reducible apply setPort_within | with_reducible apply reportPort_within
      | with_reducible apply rerouteWaiting_within | with_reducible apply endCrossing_within
      | with_reducible apply reapTransfers_within | with_reducible apply checkNeighbour_within
      | with_reducible exact allowed_LNK_EVENT (has_of hT (by decide))
      | (with_reducible apply foldl_within; intro _ _ h) | with_reducible apply Within.ite | split | dsimp only)

theorem exhaust_within (h : Within T s0 s) (n : Nat) (t : Nat) (hT :
    0x2c80000000001300008002000008040008040000000003890410ee24e0d8000017a0ce1f807000000300000000a0da7d77ef80 ||| T =
    T) : Within T s0 (exhaust s n t) := by
  unfold exhaust
  try dsimp only
  repeat' (
    first
      | with_reducible exact h | with_reducible rfl | (with_reducible refine sub_of ?_ hT; decide)
      | with_reducible assumption | with_reducible apply raise_within | with_reducible apply bump_within
      | with_reducible apply portFault_within | with_reducible apply emit_within
      | with_reducible exact allowed_LNK_EVENT (has_of hT (by decide))
      | with_reducible exact allowed_LNK_EXHAUST_COUNT _ (has_of hT (by decide))
      | (with_reducible apply foldl_within; intro _ _ h) | with_reducible apply Within.ite | split | dsimp only)

theorem replayFrom_within (h : Within T s0 s) (n : Nat) (q : Nat) (hT :
    0x20000000000000000000000000000000000000000000800000000 ||| T = T) : Within T s0 (replayFrom s n q) := by
  unfold replayFrom
  try dsimp only
  repeat' (
    first
      | with_reducible exact h | with_reducible rfl | (with_reducible refine sub_of ?_ hT; decide)
      | with_reducible assumption | with_reducible apply emit_within | with_reducible apply bump_within
      | with_reducible exact allowed_LNK_REPLAY_COUNT _ (has_of hT (by decide))
      | (with_reducible apply foldl_within; intro _ _ h) | with_reducible apply Within.ite | split | dsimp only)

theorem acceptReturns_within (h : Within T s0 s) (n : Nat) (f : Flit) (hT :
    0x2c0000000000130000800200000000000000000000000000000000000000000000000000000000000000000000000a78540000 ||| T =
    T) : Within T s0 (acceptReturns s n f) := by
  unfold acceptReturns
  try dsimp only
  repeat' (
    first
      | with_reducible exact h | with_reducible rfl | (with_reducible refine sub_of ?_ hT; decide)
      | with_reducible assumption | with_reducible apply setPort_within | with_reducible apply drainPort_within
      | (with_reducible apply foldl_within; intro _ _ h) | with_reducible apply Within.ite | split | dsimp only)

theorem sendIdle_within (h : Within T s0 s) (n : Nat) (hT : 0x800040000 ||| T = T) : Within T s0 (sendIdle s n) := by
  unfold sendIdle
  try dsimp only
  repeat' (
    first
      | with_reducible exact h | with_reducible rfl | (with_reducible refine sub_of ?_ hT; decide)
      | with_reducible assumption | with_reducible apply emit_within | with_reducible apply setPort_within
      | (with_reducible apply foldl_within; intro _ _ h) | with_reducible apply Within.ite | split | dsimp only)

theorem execNakRx_within (n : Nat) (q : Nat) (t : Nat) (hT :
    0x2c80000000001300008002000008040008040000000003890610ee24e0d8000017a0ce1f807000000300000000a0da7d77ef80 ||| T =
    T) : WithinOut T s (execNakRx n q t s) := by
  have h : Within T s s := Within.start
  unfold execNakRx
  try dsimp only
  repeat' (
    first
      | with_reducible exact h | with_reducible rfl | (with_reducible refine sub_of ?_ hT; decide)
      | with_reducible assumption | with_reducible exact WithinOut.fault _ | with_reducible apply WithinOut.next
      | with_reducible apply replayFrom_within | with_reducible apply setPort_within
      | with_reducible apply exhaust_within | (with_reducible apply foldl_within; intro _ _ h)
      | with_reducible apply Within.ite | with_reducible apply WithinOut.ite | split | dsimp only)

theorem execAckTimerExpiry_within (n : Nat) (t : Nat) (hT :
    0x2c80000000001300008002000008040008040000000003890610ee24e0d8000017a0ce1f807000000300000000a0da7d77ef80 ||| T =
    T) : WithinOut T s (execAckTimerExpiry n t s) := by
  have h : Within T s s := Within.start
  unfold execAckTimerExpiry
  try dsimp only
  repeat' (
    first
      | with_reducible exact h | with_reducible rfl | (with_reducible refine sub_of ?_ hT; decide)
      | with_reducible assumption | with_reducible exact WithinOut.fault _ | with_reducible apply WithinOut.next
      | with_reducible apply replayFrom_within | with_reducible apply setPort_within
      | with_reducible apply exhaust_within | (with_reducible apply foldl_within; intro _ _ h)
      | with_reducible apply Within.ite | with_reducible apply WithinOut.ite | split | dsimp only)

theorem execReplayBudgetExpiry_within (n : Nat) (t : Nat) (hT :
    0x2c80000000001300008002000008040008040000000003890410ee24e0d8000017a0ce1f807000000300000000a0da7d77ef80 ||| T =
    T) : WithinOut T s (execReplayBudgetExpiry n t s) := by
  have h : Within T s s := Within.start
  unfold execReplayBudgetExpiry
  try dsimp only
  repeat' (
    first
      | with_reducible exact h | with_reducible rfl | (with_reducible refine sub_of ?_ hT; decide)
      | with_reducible assumption | with_reducible exact WithinOut.fault _ | with_reducible apply WithinOut.next
      | with_reducible apply exhaust_within | (with_reducible apply foldl_within; intro _ _ h)
      | with_reducible apply Within.ite | with_reducible apply WithinOut.ite | split | dsimp only)

theorem execFaultRx_within (n : Nat) (t : Nat) (hT :
    0x2c80000000001300008002000008040008040000000003890410ee24e0d8000017a0ce1f807000000300000000a0da7d77ef80 ||| T =
    T) : WithinOut T s (execFaultRx n t s) := by
  have h : Within T s s := Within.start
  unfold execFaultRx
  try dsimp only
  repeat' (
    first
      | with_reducible exact h | with_reducible rfl | (with_reducible refine sub_of ?_ hT; decide)
      | with_reducible assumption | with_reducible exact WithinOut.fault _ | with_reducible apply WithinOut.next
      | with_reducible apply raise_within | with_reducible apply bump_within | with_reducible apply portFault_within
      | with_reducible exact allowed_LNK_EVENT (has_of hT (by decide))
      | with_reducible exact allowed_LNK_EXHAUST_COUNT _ (has_of hT (by decide))
      | (with_reducible apply foldl_within; intro _ _ h) | with_reducible apply Within.ite
      | with_reducible apply WithinOut.ite | split | dsimp only)

theorem execAbortFlitRx_within (n : Nat) (p : Packet) (t : Nat) (hT :
    0x2c80000000001300008002000008040008040000000001080010ee24e0d8000017a0ce1f807000000300000000a0da7d77ef80 ||| T =
    T) : WithinOut T s (execAbortFlitRx n p t s) := by
  have h : Within T s s := Within.start
  unfold execAbortFlitRx
  try dsimp only
  repeat' (
    first
      | with_reducible exact h | with_reducible rfl | (with_reducible refine sub_of ?_ hT; decide)
      | with_reducible assumption | with_reducible exact WithinOut.fault _ | with_reducible apply WithinOut.next
      | with_reducible apply passRx_within | with_reducible apply abortEgress_within
      | with_reducible apply setPort_within | with_reducible apply reapTransfers_within
      | with_reducible apply reportOp_within | (with_reducible apply foldl_within; intro _ _ h)
      | with_reducible apply Within.ite | with_reducible apply WithinOut.ite | split | dsimp only)

theorem execSignalLoss_within (n : Nat) (lost : Bool) (t : Nat) (hT :
    0x2c80000000001300008002000008040008040000000003890010ee24e0d8000017a0ce1f807000000300000000a0da7d77ef80 ||| T =
    T) : WithinOut T s (execSignalLoss n lost t s) := by
  have h : Within T s s := Within.start
  unfold execSignalLoss
  try dsimp only
  repeat' (
    first
      | with_reducible exact h | with_reducible rfl | (with_reducible refine sub_of ?_ hT; decide)
      | with_reducible assumption | with_reducible exact WithinOut.fault _ | with_reducible apply WithinOut.next
      | with_reducible apply setPort_within | with_reducible apply portFault_within
      | (with_reducible apply foldl_within; intro _ _ h) | with_reducible apply Within.ite
      | with_reducible apply WithinOut.ite | split | dsimp only)

theorem trainPort_within (h : Within T s0 s) (n : Nat) (hT : 0x800040000 ||| T = T) : Within T s0 (trainPort s n) :=
    by
  unfold trainPort
  try dsimp only
  repeat' (
    first
      | with_reducible exact h | with_reducible rfl | (with_reducible refine sub_of ?_ hT; decide)
      | with_reducible assumption | with_reducible apply emit_within | with_reducible apply setPort_within
      | (with_reducible apply foldl_within; intro _ _ h) | with_reducible apply Within.ite | split | dsimp only)

theorem execSignalDetect_within (n : Nat) (hT : 0x800040000 ||| T = T) : WithinOut T s (execSignalDetect n s) := by
  have h : Within T s s := Within.start
  unfold execSignalDetect
  try dsimp only
  repeat' (
    first
      | with_reducible exact h | with_reducible rfl | (with_reducible refine sub_of ?_ hT; decide)
      | with_reducible assumption | with_reducible exact WithinOut.fault _ | with_reducible apply WithinOut.next
      | with_reducible apply trainPort_within | (with_reducible apply foldl_within; intro _ _ h)
      | with_reducible apply Within.ite | with_reducible apply WithinOut.ite | split | dsimp only)

theorem execPortBringupStart_within (n : Nat) (hT : 0x800040000 ||| T = T) : WithinOut T s (execPortBringupStart n s)
    := by
  have h : Within T s s := Within.start
  unfold execPortBringupStart
  try dsimp only
  repeat' (
    first
      | with_reducible exact h | with_reducible rfl | (with_reducible refine sub_of ?_ hT; decide)
      | with_reducible assumption | with_reducible exact WithinOut.fault _ | with_reducible apply WithinOut.next
      | with_reducible apply trainPort_within | with_reducible apply setPort_within
      | (with_reducible apply foldl_within; intro _ _ h) | with_reducible apply Within.ite
      | with_reducible apply WithinOut.ite | split | dsimp only)

theorem execTrainingFrameRx_within (n : Nat) (hT : 0x800040000 ||| T = T) : WithinOut T s (execTrainingFrameRx n s) :=
    by
  have h : Within T s s := Within.start
  unfold execTrainingFrameRx
  try dsimp only
  repeat' (
    first
      | with_reducible exact h | with_reducible rfl | (with_reducible refine sub_of ?_ hT; decide)
      | with_reducible assumption | with_reducible exact WithinOut.fault _ | with_reducible apply WithinOut.next
      | with_reducible apply emit_within | with_reducible apply trainPort_within
      | (with_reducible apply foldl_within; intro _ _ h) | with_reducible apply Within.ite
      | with_reducible apply WithinOut.ite | split | dsimp only)

theorem execHoldRx_within (n : Nat) (hT : 0x40000 ||| T = T) : WithinOut T s (execHoldRx n s) := by
  have h : Within T s s := Within.start
  unfold execHoldRx
  try dsimp only
  repeat' (
    first
      | with_reducible exact h | with_reducible rfl | (with_reducible refine sub_of ?_ hT; decide)
      | with_reducible assumption | with_reducible exact WithinOut.fault _ | with_reducible apply WithinOut.next
      | with_reducible apply setPort_within | (with_reducible apply foldl_within; intro _ _ h)
      | with_reducible apply Within.ite | with_reducible apply WithinOut.ite | split | dsimp only)

theorem execHoldRetry_within (n : Nat) (hT : 0x800000000 ||| T = T) : WithinOut T s (execHoldRetry n s) := by
  have h : Within T s s := Within.start
  unfold execHoldRetry
  try dsimp only
  repeat' (
    first
      | with_reducible exact h | with_reducible rfl | (with_reducible refine sub_of ?_ hT; decide)
      | with_reducible assumption | with_reducible exact WithinOut.fault _ | with_reducible apply WithinOut.next
      | with_reducible apply emit_within | (with_reducible apply foldl_within; intro _ _ h)
      | with_reducible apply Within.ite | with_reducible apply WithinOut.ite | split | dsimp only)

theorem refusePort_within (h : Within T s0 s) (n : Nat) (reason : Nat) (t : Nat) (hT :
    0x130000800200000000000000000000000000000002000000000000000000000000000000000000000a78040000 ||| T = T) : Within T
    s0 (refusePort s n reason t) := by
  unfold refusePort
  try dsimp only
  repeat' (
    first
      | with_reducible exact h | with_reducible rfl | (with_reducible refine sub_of ?_ hT; decide)
      | with_reducible assumption | with_reducible apply raise_within | with_reducible apply setPort_within
      | with_reducible exact allowed_LNK_EVENT (has_of hT (by decide))
      | (with_reducible apply foldl_within; intro _ _ h) | with_reducible apply Within.ite | split | dsimp only)

theorem readyWhenDone_within (h : Within T s0 s) (n : Nat) (hT : 0x40000 ||| T = T) : Within T s0 (readyWhenDone s n)
    := by
  unfold readyWhenDone
  try dsimp only
  repeat' (
    first
      | with_reducible exact h | with_reducible rfl | (with_reducible refine sub_of ?_ hT; decide)
      | with_reducible assumption | with_reducible apply setPort_within
      | (with_reducible apply foldl_within; intro _ _ h) | with_reducible apply Within.ite | split | dsimp only)

theorem execBringupComplete_within (n : Nat) (mask : Nat) (hT :
    0x200000000000000000000000000000000000000000000800040000 ||| T = T) : WithinOut T s (execBringupComplete n mask s)
    := by
  have h : Within T s s := Within.start
  unfold execBringupComplete
  try dsimp only
  repeat' (
    first
      | with_reducible exact h | with_reducible rfl | (with_reducible refine sub_of ?_ hT; decide)
      | with_reducible assumption | with_reducible exact WithinOut.fault _ | with_reducible apply WithinOut.next
      | with_reducible apply setPort_within | with_reducible apply emit_within | with_reducible apply bump_within
      | with_reducible exact allowed_LNK_TRAIN_FAIL_COUNT _ (has_of hT (by decide))
      | (with_reducible apply foldl_within; intro _ _ h) | with_reducible apply Within.ite
      | with_reducible apply WithinOut.ite | split | dsimp only)

theorem execCapRx_within (n : Nat) (c : Cap) (t : Nat) (hT :
    0x130000800200000000000000000000000000000002000000000000000000000000000000000000000a78040000 ||| T = T) :
    WithinOut T s (execCapRx n c t s) := by
  have h : Within T s s := Within.start
  unfold execCapRx
  try dsimp only
  repeat' (
    first
      | with_reducible exact h | with_reducible rfl | (with_reducible refine sub_of ?_ hT; decide)
      | with_reducible assumption | with_reducible exact WithinOut.fault _ | with_reducible apply WithinOut.next
      | with_reducible apply setPort_within | with_reducible apply emit_within
      | with_reducible apply refusePort_within | with_reducible apply readyWhenDone_within
      | (with_reducible apply foldl_within; intro _ _ h) | with_reducible apply Within.ite
      | with_reducible apply WithinOut.ite | split | dsimp only)

theorem execCapAckRx_within (n : Nat) (hT : 0x40000 ||| T = T) : WithinOut T s (execCapAckRx n s) := by
  have h : Within T s s := Within.start
  unfold execCapAckRx
  try dsimp only
  repeat' (
    first
      | with_reducible exact h | with_reducible rfl | (with_reducible refine sub_of ?_ hT; decide)
      | with_reducible assumption | with_reducible exact WithinOut.fault _ | with_reducible apply WithinOut.next
      | with_reducible apply readyWhenDone_within | with_reducible apply setPort_within
      | (with_reducible apply foldl_within; intro _ _ h) | with_reducible apply Within.ite
      | with_reducible apply WithinOut.ite | split | dsimp only)

theorem execCapRefuseRx_within (n : Nat) (reason : Nat) (t : Nat) (hT :
    0x130000800200000000000000000000000000000002000000000000000000000000000000000000000a78040000 ||| T = T) :
    WithinOut T s (execCapRefuseRx n reason t s) := by
  have h : Within T s s := Within.start
  unfold execCapRefuseRx
  try dsimp only
  repeat' (
    first
      | with_reducible exact h | with_reducible rfl | (with_reducible refine sub_of ?_ hT; decide)
      | with_reducible assumption | with_reducible exact WithinOut.fault _ | with_reducible apply WithinOut.next
      | with_reducible apply refusePort_within | (with_reducible apply foldl_within; intro _ _ h)
      | with_reducible apply Within.ite | with_reducible apply WithinOut.ite | split | dsimp only)

theorem setWidth_within (h : Within T s0 s) (n : Nat) (mask : Nat) (t : Nat) (hT :
    0x2c80000000001300008002000008040008040000000003890010ee24e0d8000017a0ce1f807000000300000000a0da7d77ef80 ||| T =
    T) : Within T s0 (setWidth s n mask t) := by
  unfold setWidth
  try dsimp only
  repeat' (
    first
      | with_reducible exact h | with_reducible rfl | (with_reducible refine sub_of ?_ hT; decide)
      | with_reducible assumption | with_reducible apply portFault_within | with_reducible apply setPort_within
      | with_reducible apply raise_within | with_reducible exact allowed_LNK_EVENT (has_of hT (by decide))
      | (with_reducible apply foldl_within; intro _ _ h) | with_reducible apply Within.ite | split | dsimp only)

theorem replayAll_within (h : Within T s0 s) (n : Nat) (hT : 0x20000000000000000000000000000000000000000000800000000
    ||| T = T) : Within T s0 (replayAll s n) := by
  unfold replayAll
  try dsimp only
  repeat' (
    first
      | with_reducible exact h | with_reducible rfl | (with_reducible refine sub_of ?_ hT; decide)
      | with_reducible assumption | with_reducible apply replayFrom_within
      | (with_reducible apply foldl_within; intro _ _ h) | with_reducible apply Within.ite | split | dsimp only)

theorem askWidth_within (h : Within T s0 s) (n : Nat) (mask : Nat) (hT : 0x800040000 ||| T = T) : Within T s0
    (askWidth s n mask) := by
  unfold askWidth
  try dsimp only
  repeat' (
    first
      | with_reducible exact h | with_reducible rfl | (with_reducible refine sub_of ?_ hT; decide)
      | with_reducible assumption | with_reducible apply emit_within | with_reducible apply setPort_within
      | (with_reducible apply foldl_within; intro _ _ h) | with_reducible apply Within.ite | split | dsimp only)

theorem execWidthReqRx_within (n : Nat) (mask : Nat) (t : Nat) (hT :
    0x2c80000000001300008002000008040008040000000003890210ee24e0d8000017a0ce1f807000000300000000a0da7d77ef80 ||| T =
    T) : WithinOut T s (execWidthReqRx n mask t s) := by
  have h : Within T s s := Within.start
  unfold execWidthReqRx
  try dsimp only
  repeat' (
    first
      | with_reducible exact h | with_reducible rfl | (with_reducible refine sub_of ?_ hT; decide)
      | with_reducible assumption | with_reducible exact WithinOut.fault _ | with_reducible apply WithinOut.next
      | with_reducible apply replayAll_within | with_reducible apply setWidth_within
      | with_reducible apply emit_within | (with_reducible apply foldl_within; intro _ _ h)
      | with_reducible apply Within.ite | with_reducible apply WithinOut.ite | split | dsimp only)

theorem execWidthAckRx_within (n : Nat) (mask : Nat) (t : Nat) (hT :
    0x2c80000000001300008002000008040008040000000003890210ee24e0d8000017a0ce1f807000000300000000a0da7d77ef80 ||| T =
    T) : WithinOut T s (execWidthAckRx n mask t s) := by
  have h : Within T s s := Within.start
  unfold execWidthAckRx
  try dsimp only
  repeat' (
    first
      | with_reducible exact h | with_reducible rfl | (with_reducible refine sub_of ?_ hT; decide)
      | with_reducible assumption | with_reducible exact WithinOut.fault _ | with_reducible apply WithinOut.next
      | with_reducible apply replayAll_within | with_reducible apply setWidth_within
      | with_reducible apply setPort_within | (with_reducible apply foldl_within; intro _ _ h)
      | with_reducible apply Within.ite | with_reducible apply WithinOut.ite | split | dsimp only)

theorem execLaneSignalLoss_within (n : Nat) (lane : Nat) (t : Nat) (hT :
    0x2c80000000001300008002000008040008040000000003890010ee24e0d8000017a0ce1f807000000300000000a0da7d77ef80 ||| T =
    T) : WithinOut T s (execLaneSignalLoss n lane t s) := by
  have h : Within T s s := Within.start
  unfold execLaneSignalLoss
  try dsimp only
  repeat' (
    first
      | with_reducible exact h | with_reducible rfl | (with_reducible refine sub_of ?_ hT; decide)
      | with_reducible assumption | with_reducible exact WithinOut.fault _ | with_reducible apply WithinOut.next
      | with_reducible apply portFault_within | with_reducible apply setPort_within
      | with_reducible apply askWidth_within | (with_reducible apply foldl_within; intro _ _ h)
      | with_reducible apply Within.ite | with_reducible apply WithinOut.ite | split | dsimp only)

theorem retrainPort_within (h : Within T s0 s) (n : Nat) (hT : 0x800040000 ||| T = T) : Within T s0 (retrainPort s n)
    := by
  unfold retrainPort
  try dsimp only
  repeat' (
    first
      | with_reducible exact h | with_reducible rfl | (with_reducible refine sub_of ?_ hT; decide)
      | with_reducible assumption | with_reducible apply emit_within | with_reducible apply setPort_within
      | (with_reducible apply foldl_within; intro _ _ h) | with_reducible apply Within.ite | split | dsimp only)

theorem execPortRetrainTimer_within (n : Nat) (hT : 0x800040000 ||| T = T) : WithinOut T s (execPortRetrainTimer n s)
    := by
  have h : Within T s s := Within.start
  unfold execPortRetrainTimer
  try dsimp only
  repeat' (
    first
      | with_reducible exact h | with_reducible rfl | (with_reducible refine sub_of ?_ hT; decide)
      | with_reducible assumption | with_reducible exact WithinOut.fault _ | with_reducible apply WithinOut.next
      | with_reducible apply retrainPort_within | (with_reducible apply foldl_within; intro _ _ h)
      | with_reducible apply Within.ite | with_reducible apply WithinOut.ite | split | dsimp only)

theorem execPortRetry_within (n : Nat) (hT : 0x800040000 ||| T = T) : WithinOut T s (execPortRetry n s) := by
  have h : Within T s s := Within.start
  unfold execPortRetry
  try dsimp only
  repeat' (
    first
      | with_reducible exact h | with_reducible rfl | (with_reducible refine sub_of ?_ hT; decide)
      | with_reducible assumption | with_reducible exact WithinOut.fault _ | with_reducible apply WithinOut.next
      | with_reducible apply retrainPort_within | with_reducible apply setPort_within
      | (with_reducible apply foldl_within; intro _ _ h) | with_reducible apply Within.ite
      | with_reducible apply WithinOut.ite | split | dsimp only)

theorem execLinkFaultNoticeRx_within (tag : Nat) (t : Nat) (hT :
    0x2c80000000001300008002000008040008040000000001080011222040d8000017a0001f807000000300000000a0da7d76ef80 ||| T =
    T) : WithinOut T s (execLinkFaultNoticeRx tag t s) := by
  have h : Within T s s := Within.start
  unfold execLinkFaultNoticeRx
  try dsimp only
  repeat' (
    first
      | with_reducible exact h | with_reducible rfl | (with_reducible refine sub_of ?_ hT; decide)
      | with_reducible assumption | with_reducible exact WithinOut.fault _ | with_reducible apply WithinOut.next
      | with_reducible apply raise_within | with_reducible apply bump_within | with_reducible apply lateFault_within
      | with_reducible apply reapTransfers_within | with_reducible apply faultOwn_within
      | with_reducible exact allowed_LNK_EVENT (has_of hT (by decide))
      | with_reducible exact allowed_LNK_NOTICE_RX_COUNT (has_of hT (by decide))
      | (with_reducible apply foldl_within; intro _ _ h)
      | simp only [Within.upd_iff, (has_of hT (by decide) : Has T 21), or_true, true_or, eq_self]
      | with_reducible apply Within.ite | with_reducible apply WithinOut.ite | split | dsimp only)

theorem execBridgeFail_within (tx : List Packet) (rx : List Packet) (t : Nat) (hT :
    0x2c80000000001300008002000008040008040000000001080018ee24e0d8000017a0ce1f807000000300000000a0da7d7fef80 ||| T =
    T) : WithinOut T s (execBridgeFail tx rx t s) := by
  have h : Within T s s := Within.start
  unfold execBridgeFail
  try dsimp only
  repeat' (
    first
      | with_reducible exact h | with_reducible rfl | (with_reducible refine sub_of ?_ hT; decide)
      | with_reducible assumption | with_reducible exact WithinOut.fault _ | with_reducible apply WithinOut.next
      | with_reducible apply raise_within | with_reducible apply bump_within | with_reducible apply reportOp_within
      | with_reducible apply reapTransfers_within | with_reducible exact allowed_LNK_EVENT (has_of hT (by decide))
      | with_reducible exact allowed_LNK_BRIDGE_FAULT_COUNT (has_of hT (by decide))
      | (with_reducible apply foldl_within; intro _ _ h)
      | simp only [Within.upd_iff, (has_of hT (by decide) : Has T 19), or_true, true_or, eq_self]
      | with_reducible apply Within.ite | with_reducible apply WithinOut.ite | split | dsimp only)

theorem execBridgeRetrain_within (ok : Bool) (hT : 0x80000 ||| T = T) : WithinOut T s (execBridgeRetrain ok s) := by
  have h : Within T s s := Within.start
  unfold execBridgeRetrain
  try dsimp only
  repeat' (
    first
      | with_reducible exact h | with_reducible rfl | (with_reducible refine sub_of ?_ hT; decide)
      | with_reducible assumption | with_reducible exact WithinOut.fault _ | with_reducible apply WithinOut.next
      | (with_reducible apply foldl_within; intro _ _ h)
      | simp only [Within.upd_iff, (has_of hT (by decide) : Has T 19), or_true, true_or, eq_self]
      | with_reducible apply Within.ite | with_reducible apply WithinOut.ite | split | dsimp only)

end Sys2Proof.Machine
end

