-- ==== Sys2Proof/Laws/WithinFabric.lean ====
section
/-! SUPPORT. The places that the operations of Machine/Fabric.lean may change (Laws/Within.lean). -/

namespace Sys2Proof.Machine

variable {T : Nat} {s0 s : State}

theorem noteReject_within (h : Within T s0 s) (g : Nat) (hT : 0x200000 ||| T = T) : Within T s0 (noteReject s g) := by
  unfold noteReject
  try dsimp only
  repeat' (
    first
      | with_reducible exact h | with_reducible rfl | (with_reducible refine sub_of ?_ hT; decide)
      | with_reducible assumption | (with_reducible apply foldl_within; intro _ _ h)
      | simp only [Within.upd_iff, (has_of hT (by decide) : Has T 21), or_true, true_or, eq_self]
      | with_reducible apply Within.ite | split | dsimp only)

theorem keyRejectOwn_within (h : Within T s0 s) (tag : Nat) (reason : Nat) (t : Nat) (hT :
    0x2c80000000001300008002000008040008040000000001000010002000d8000017a0001f807000000300000000a0da7d76ef80 ||| T =
    T) : Within T s0 (keyRejectOwn s tag reason t) := by
  unfold keyRejectOwn
  try dsimp only
  repeat' (
    first
      | with_reducible exact h | with_reducible rfl | (with_reducible refine sub_of ?_ hT; decide)
      | with_reducible assumption | with_reducible apply finishItem_within | with_reducible apply closeTag_within
      | with_reducible apply noteReject_within | with_reducible apply endTransfer_within
      | with_reducible apply reapTransfers_within | with_reducible apply setFab_within
      | (with_reducible apply foldl_within; intro _ _ h) | with_reducible apply Within.ite | split | dsimp only)

theorem rejectPacket_within (h : Within T s0 s) (point : Nat) (reason : Nat) (part : Nat) (p : Packet) (t : Nat) (hT :
    0x2c80000000001300008002000008040008040000000001000010002000d8000017a2ce1f807000000300000000a0da7d77ef80 ||| T =
    T) : Within T s0 (rejectPacket s point reason part p t) := by
  unfold rejectPacket
  try dsimp only
  repeat' (
    first
      | with_reducible exact h | with_reducible rfl | (with_reducible refine sub_of ?_ hT; decide)
      | with_reducible assumption | with_reducible apply packetReject_within
      | with_reducible apply keyRejectOwn_within | with_reducible apply noteReject_within
      | with_reducible apply sendCtl_within | with_reducible apply bump_within
      | with_reducible exact allowed_PART_NOTICE_TX_COUNT (has_of hT (by decide))
      | (with_reducible apply foldl_within; intro _ _ h) | with_reducible apply Within.ite | split | dsimp only)

theorem execKeyRejectNoticeRx_within (tag : Nat) (reason : Nat) (t : Nat) (hT :
    0x2c80000000001300008002000008040008040000000001000010002000d8000017a4021f807000000300000000a0da7d76ef80 ||| T =
    T) : WithinOut T s (execKeyRejectNoticeRx tag reason t s) := by
  have h : Within T s s := Within.start
  unfold execKeyRejectNoticeRx
  try dsimp only
  repeat' (
    first
      | with_reducible exact h | with_reducible rfl | (with_reducible refine sub_of ?_ hT; decide)
      | with_reducible assumption | with_reducible exact WithinOut.fault _ | with_reducible apply WithinOut.next
      | with_reducible apply raise_within | with_reducible apply bump_within
      | with_reducible apply keyRejectOwn_within | with_reducible exact allowed_PART_EVENT (has_of hT (by decide))
      | with_reducible exact allowed_PART_NOTICE_RX_COUNT (has_of hT (by decide))
      | (with_reducible apply foldl_within; intro _ _ h) | with_reducible apply Within.ite
      | with_reducible apply WithinOut.ite | split | dsimp only)

theorem putInFlow_within (h : Within T s0 s) (f : InFlow) (hT : 0x100000 ||| T = T) : Within T s0 (putInFlow s f) :=
    by
  unfold putInFlow
  try dsimp only
  repeat' (
    first
      | with_reducible exact h | with_reducible rfl | (with_reducible refine sub_of ?_ hT; decide)
      | with_reducible assumption | with_reducible apply setFab_within
      | (with_reducible apply foldl_within; intro _ _ h) | with_reducible apply Within.ite | split | dsimp only)

theorem deliver_within (h : Within T s0 s) (p : Packet) (hT : 0x100000 ||| T = T) : Within T s0 (deliver s p) := by
  unfold deliver
  try dsimp only
  repeat' (
    first
      | with_reducible exact h | with_reducible rfl | (with_reducible refine sub_of ?_ hT; decide)
      | with_reducible assumption | with_reducible apply setFab_within
      | (with_reducible apply foldl_within; intro _ _ h) | with_reducible apply Within.ite | split | dsimp only)

theorem ackInFlow_within (h : Within T s0 s) (f : InFlow) (hT :
    0x2c0000000000130000800200000000000000000000000100000000000000000000000000000000000000000000000a78540000 ||| T =
    T) : Within T s0 (ackInFlow s f) := by
  unfold ackInFlow
  try dsimp only
  repeat' (
    first
      | with_reducible exact h | with_reducible rfl | (with_reducible refine sub_of ?_ hT; decide)
      | with_reducible assumption | with_reducible apply sendCtl_within | with_reducible apply putInFlow_within
      | (with_reducible apply foldl_within; intro _ _ h) | with_reducible apply Within.ite | split | dsimp only)

theorem advance_within (h : Within T s0 s) (f : InFlow) (hT :
    0x2c0000000000130000800200000000000000000000000100000000000000000000000000000000000000000000000a78540000 ||| T =
    T) : Within T s0 (advance s f) := by
  unfold advance
  try dsimp only
  repeat' (
    first
      | with_reducible exact h | with_reducible rfl | (with_reducible refine sub_of ?_ hT; decide)
      | with_reducible assumption | with_reducible apply ackInFlow_within | with_reducible apply putInFlow_within
      | (with_reducible apply foldl_within; intro _ _ h) | with_reducible apply Within.ite | split | dsimp only)

theorem useReorder_within (h : Within T s0 s) (h_ : Nat) (ovf : Bool) (add : Nat) (sub : Nat) (hT : 0x100000 ||| T =
    T) : Within T s0 (useReorder s h_ ovf add sub) := by
  unfold useReorder
  try dsimp only
  repeat' (
    first
      | with_reducible exact h | with_reducible rfl | (with_reducible refine sub_of ?_ hT; decide)
      | with_reducible assumption | with_reducible apply setFab_within
      | (with_reducible apply foldl_within; intro _ _ h) | with_reducible apply Within.ite | split | dsimp only)

theorem drainFlow_within (h : Within T s0 s) (key chan src n : Nat) (hT : 0x2c0000000000130000800200000000000000000000000100000000000000000000000000000000000000000000000a78540000 ||| T = T) :
    Within T s0 (drainFlow key chan src n s) := by
  induction n generalizing s with
  | zero => exact h
  | succ n ih =>
    unfold drainFlow
    dsimp only
    split
    · exact ih (advance_within (useReorder_within (deliver_within h _ (sub_of (by decide) hT)) _ _ _ _
        (sub_of (by decide) hT)) _ (sub_of (by decide) hT))
    · split
      · exact ih (advance_within h _ (sub_of (by decide) hT))
      · split
        · exact ih (advance_within (setFab_within (deliver_within h _ (sub_of (by decide) hT)) _
            (sub_of (by decide) hT)) _ (sub_of (by decide) hT))
        · exact h

theorem recvStrict_within (h : Within T s0 s) (p : Packet) (hT :
    0x2c0000000000130000800200000000000000000000000110000000000000000000000000000000000000000000000a78540000 ||| T =
    T) : Within T s0 (recvStrict s p) := by
  unfold recvStrict
  try dsimp only
  repeat' (
    first
      | with_reducible exact h | with_reducible rfl | (with_reducible refine sub_of ?_ hT; decide)
      | with_reducible assumption | with_reducible apply advance_within | with_reducible apply deliver_within
      | with_reducible apply sendCtl_within | with_reducible apply bump_within
      | with_reducible apply putInFlow_within | with_reducible apply ackInFlow_within
      | with_reducible exact allowed_FAB_GAP_COUNT (has_of hT (by decide))
      | (with_reducible apply foldl_within; intro _ _ h) | with_reducible apply Within.ite | split | dsimp only)

theorem recvSpray_within (h : Within T s0 s) (p : Packet) (t : Nat) (hT :
    0x2c0000000000130000800200000000000000000000000161000000000000000000000000000000000000000000000a78540000 ||| T =
    T) : Within T s0 (recvSpray s p t) := by
  unfold recvSpray
  try dsimp only
  repeat' (
    first
      | with_reducible exact h | with_reducible rfl | (with_reducible refine sub_of ?_ hT; decide)
      | with_reducible assumption | with_reducible apply drainFlow_within | with_reducible apply advance_within
      | with_reducible apply deliver_within | with_reducible apply ackInFlow_within
      | with_reducible apply putInFlow_within | with_reducible apply setFab_within
      | with_reducible apply raise_within | with_reducible apply bump_within
      | with_reducible apply useReorder_within | with_reducible exact allowed_FAB_EVENT (has_of hT (by decide))
      | with_reducible exact allowed_FAB_FENCE_DROP_COUNT (has_of hT (by decide))
      | with_reducible exact allowed_FAB_ROB_DIRECT_COUNT (has_of hT (by decide))
      | (with_reducible apply foldl_within; intro _ _ h) | with_reducible apply Within.ite | split | dsimp only)

theorem acceptPacket_within (h : Within T s0 s) (p : Packet) (t : Nat) (hT :
    0x2c0000000000130000800200000000000000000000000171000000000000000000000000000000000000000000000a78540000 ||| T =
    T) : Within T s0 (acceptPacket s p t) := by
  unfold acceptPacket
  try dsimp only
  repeat' (
    first
      | with_reducible exact h | with_reducible rfl | (with_reducible refine sub_of ?_ hT; decide)
      | with_reducible assumption | with_reducible apply recvStrict_within | with_reducible apply recvSpray_within
      | with_reducible apply deliver_within | (with_reducible apply foldl_within; intro _ _ h)
      | with_reducible apply Within.ite | split | dsimp only)

theorem endArriving_within (h : Within T s0 s) (n : Nat) (t : Nat) (hT :
    0x2c0000000000130000800200000000000000000000000171000000000000000000000000000000000000000000000a78540000 ||| T =
    T) : Within T s0 (endArriving s n t) := by
  unfold endArriving
  try dsimp only
  repeat' (
    first
      | with_reducible exact h | with_reducible rfl | (with_reducible refine sub_of ?_ hT; decide)
      | with_reducible assumption | with_reducible apply acceptPacket_within | with_reducible apply setPort_within
      | (with_reducible apply foldl_within; intro _ _ h) | with_reducible apply Within.ite | split | dsimp only)

theorem execFlitRx_within (n : Nat) (crcOk : Bool) (f : Flit) (fec : Nat × Nat) (t : Nat) (hT :
    0x2c80000000001300008002000008040008040000000003f91d10ee24e0d8000017a0ce1f807000000300000000a0da7d77ef80 ||| T =
    T) : WithinOut T s (execFlitRx n crcOk f fec t s) := by
  have h : Within T s s := Within.start
  unfold execFlitRx
  try dsimp only
  repeat' (
    first
      | with_reducible exact h | with_reducible rfl | (with_reducible refine sub_of ?_ hT; decide)
      | with_reducible assumption | with_reducible exact WithinOut.fault _ | with_reducible apply WithinOut.next
      | with_reducible apply bumpN_within | with_reducible apply acceptReturns_within
      | with_reducible apply setPort_within | with_reducible apply sendIdle_within
      | with_reducible apply endArriving_within | with_reducible apply bump_within
      | with_reducible apply emit_within | with_reducible apply exhaust_within
      | with_reducible exact allowed_LNK_FEC_UNCORR_COUNT _ (has_of hT (by decide))
      | with_reducible exact allowed_LNK_FEC_CORR_COUNT _ (has_of hT (by decide))
      | with_reducible exact allowed_LNK_CRC_ERR_COUNT _ (has_of hT (by decide))
      | (with_reducible apply foldl_within; intro _ _ h) | with_reducible apply Within.ite
      | with_reducible apply WithinOut.ite | split | dsimp only)

theorem forward_within (h : Within T s0 s) (n : Nat) (p0 : Packet) (p : Packet) (t : Nat) (hT :
    0x2c0000000000130000800200000000000000000000000105000000000000000000000000000000000000000000000a78540000 ||| T =
    T) : Within T s0 (forward s n p0 p t) := by
  unfold forward
  try dsimp only
  repeat' (
    first
      | with_reducible exact h | with_reducible rfl | (with_reducible refine sub_of ?_ hT; decide)
      | with_reducible assumption | with_reducible apply raise_within | with_reducible apply bump_within
      | with_reducible apply routeOut_within | with_reducible exact allowed_FAB_EVENT (has_of hT (by decide))
      | with_reducible exact allowed_FAB_TTL_DROP_COUNT (has_of hT (by decide))
      | with_reducible exact allowed_FAB_UNREACH_COUNT (has_of hT (by decide))
      | (with_reducible apply foldl_within; intro _ _ h) | with_reducible apply Within.ite | split | dsimp only)

theorem takeArriving_within (h : Within T s0 s) (n : Nat) (p0 : Packet) (p : Packet) (t : Nat) (hT :
    0x2c0000000000130000800200000000000000000000000171000000000000000000000000000000000000000000000a78540000 ||| T =
    T) : Within T s0 (takeArriving s n p0 p t) := by
  unfold takeArriving
  try dsimp only
  repeat' (
    first
      | with_reducible exact h | with_reducible rfl | (with_reducible refine sub_of ?_ hT; decide)
      | with_reducible assumption | with_reducible apply setPort_within | with_reducible apply acceptPacket_within
      | (with_reducible apply foldl_within; intro _ _ h) | with_reducible apply Within.ite | split | dsimp only)

theorem arrive_within (h : Within T s0 s) (n : Nat) (p0 : Packet) (t : Nat) (hT :
    0x2c80000000001300008002000008040008040000000001750010002000d8000017a2ce1f807000000300000000a0da7d77ef80 ||| T =
    T) : Within T s0 (arrive s n p0 t) := by
  unfold arrive
  try dsimp only
  repeat' (
    first
      | with_reducible exact h | with_reducible rfl | (with_reducible refine sub_of ?_ hT; decide)
      | with_reducible assumption | with_reducible apply rejectPacket_within | with_reducible apply bump_within
      | with_reducible apply takeArriving_within | with_reducible apply forward_within
      | with_reducible exact allowed_FAB_UNREACH_COUNT (has_of hT (by decide))
      | (with_reducible apply foldl_within; intro _ _ h) | with_reducible apply Within.ite | split | dsimp only)

theorem execPacketArrive_within (n : Nat) (p : Packet) (t : Nat) (hT :
    0x2c80000000001300008002000008040008040000000001750010002000d8000017a2ce1f807000000300000000a0da7d77ef80 ||| T =
    T) : WithinOut T s (execPacketArrive n p t s) := by
  have h : Within T s s := Within.start
  unfold execPacketArrive
  try dsimp only
  repeat' (
    first
      | with_reducible exact h | with_reducible rfl | (with_reducible refine sub_of ?_ hT; decide)
      | with_reducible assumption | with_reducible exact WithinOut.fault _ | with_reducible apply WithinOut.next
      | with_reducible apply arrive_within | with_reducible apply passRx_within
      | (with_reducible apply foldl_within; intro _ _ h) | with_reducible apply Within.ite
      | with_reducible apply WithinOut.ite | split | dsimp only)

theorem execE2eAckRx_within (key : Nat) (chan : Nat) (dst : Nat) (next : Nat) (t : Nat) (hT :
    0x2c0000000000130000800200000804000000000000000100000000000000000007a0001f80700000000000000020da7d54ef00 ||| T =
    T) : WithinOut T s (execE2eAckRx key chan dst next t s) := by
  have h : Within T s s := Within.start
  unfold execE2eAckRx
  try dsimp only
  repeat' (
    first
      | with_reducible exact h | with_reducible rfl | (with_reducible refine sub_of ?_ hT; decide)
      | with_reducible assumption | with_reducible exact WithinOut.fault _ | with_reducible apply WithinOut.next
      | with_reducible apply reapTransfers_within | with_reducible apply ackFlow_within
      | (with_reducible apply foldl_within; intro _ _ h) | with_reducible apply Within.ite
      | with_reducible apply WithinOut.ite | split | dsimp only)

theorem execE2eNakRx_within (key : Nat) (chan : Nat) (dst : Nat) (t : Nat) (hT :
    0x2c000000000013000080020000000000000000000000010800000000000000000000001f807000000000000000000a7854a000 ||| T =
    T) : WithinOut T s (execE2eNakRx key chan dst t s) := by
  have h : Within T s s := Within.start
  unfold execE2eNakRx
  try dsimp only
  repeat' (
    first
      | with_reducible exact h | with_reducible rfl | (with_reducible refine sub_of ?_ hT; decide)
      | with_reducible assumption | with_reducible exact WithinOut.fault _ | with_reducible apply WithinOut.next
      | with_reducible apply resendFlow_within | (with_reducible apply foldl_within; intro _ _ h)
      | with_reducible apply Within.ite | with_reducible apply WithinOut.ite | split | dsimp only)

theorem execE2eAckTimer_within (key : Nat) (chan : Nat) (src : Nat) (hT :
    0x2c0000000000130000800200000000000000000000000100000000000000000000000000000000000000000000000a78540000 ||| T =
    T) : WithinOut T s (execE2eAckTimer key chan src s) := by
  have h : Within T s s := Within.start
  unfold execE2eAckTimer
  try dsimp only
  repeat' (
    first
      | with_reducible exact h | with_reducible rfl | (with_reducible refine sub_of ?_ hT; decide)
      | with_reducible assumption | with_reducible exact WithinOut.fault _ | with_reducible apply WithinOut.next
      | with_reducible apply ackInFlow_within | (with_reducible apply foldl_within; intro _ _ h)
      | with_reducible apply Within.ite | with_reducible apply WithinOut.ite | split | dsimp only)

theorem execE2eTimeout_within (key : Nat) (chan : Nat) (dst : Nat) (t : Nat) (hT :
    0x2c0000000000130000800200000804000000000000000109000022000000000007a0001f80700000000000000020da7d74ef00 ||| T =
    T) : WithinOut T s (execE2eTimeout key chan dst t s) := by
  have h : Within T s s := Within.start
  unfold execE2eTimeout
  try dsimp only
  repeat' (
    first
      | with_reducible exact h | with_reducible rfl | (with_reducible refine sub_of ?_ hT; decide)
      | with_reducible assumption | with_reducible exact WithinOut.fault _ | with_reducible apply WithinOut.next
      | with_reducible apply reapTransfers_within | with_reducible apply flowTimeout_within
      | (with_reducible apply foldl_within; intro _ _ h) | with_reducible apply Within.ite
      | with_reducible apply WithinOut.ite | split | dsimp only)

theorem execNodeDownRx_within (n : Nat) (m : Nat) (t : Nat) (hT :
    0x2c800000000013000080020000080400080400000000038100100024e0d8000017a0ce1f807000000300000000a0da7d57ef80 ||| T =
    T) : WithinOut T s (execNodeDownRx n m t s) := by
  have h : Within T s s := Within.start
  unfold execNodeDownRx
  try dsimp only
  repeat' (
    first
      | with_reducible exact h | with_reducible rfl | (with_reducible refine sub_of ?_ hT; decide)
      | with_reducible assumption | with_reducible exact WithinOut.fault _ | with_reducible apply WithinOut.next
      | with_reducible apply setPort_within | with_reducible apply reapTransfers_within
      | with_reducible apply moduleDown_within | (with_reducible apply foldl_within; intro _ _ h)
      | with_reducible apply Within.ite | with_reducible apply WithinOut.ite | split | dsimp only)

theorem admitModules_within (h : Within T s0 s) (hT : 0x100000 ||| T = T) : Within T s0 (admitModules s) := by
  unfold admitModules
  try dsimp only
  repeat' (
    first
      | with_reducible exact h | with_reducible rfl | (with_reducible refine sub_of ?_ hT; decide)
      | with_reducible assumption | with_reducible apply setFab_within
      | (with_reducible apply foldl_within; intro _ _ h) | with_reducible apply Within.ite | split | dsimp only)

theorem dropInFlow_within (h : Within T s0 s) (f : InFlow) (hT : 0x100000 ||| T = T) : Within T s0 (dropInFlow s f) :=
    by
  unfold dropInFlow
  try dsimp only
  repeat' (
    first
      | with_reducible exact h | with_reducible rfl | (with_reducible refine sub_of ?_ hT; decide)
      | with_reducible assumption | with_reducible apply useReorder_within | with_reducible apply setFab_within
      | (with_reducible apply foldl_within; intro _ _ h) | with_reducible apply Within.ite | split | dsimp only)

theorem restartFlows_within (h : Within T s0 s) (m : Nat) (hT : 0x100000 ||| T = T) : Within T s0 (restartFlows s m)
    := by
  unfold restartFlows
  try dsimp only
  repeat' (
    first
      | with_reducible exact h | with_reducible rfl | (with_reducible refine sub_of ?_ hT; decide)
      | with_reducible assumption | with_reducible apply dropInFlow_within | with_reducible apply setFab_within
      | (with_reducible apply foldl_within; intro _ _ h) | with_reducible apply Within.ite | split | dsimp only)

theorem moduleUp_within (h : Within T s0 s) (m : Nat) (from_ : Option Nat) (t : Nat) (hT :
    0x2c0000000000130000800200000000000000000000000001000000000000000000000000000000000000000000000a78540000 ||| T =
    T) : Within T s0 (moduleUp s m from_ t) := by
  unfold moduleUp
  try dsimp only
  repeat' (
    first
      | with_reducible exact h | with_reducible rfl | (with_reducible refine sub_of ?_ hT; decide)
      | with_reducible assumption | with_reducible apply setFab_within | with_reducible apply restartFlows_within
      | with_reducible apply raise_within | with_reducible apply flood_within
      | with_reducible apply admitModules_within | with_reducible exact allowed_FAB_EVENT (has_of hT (by decide))
      | (with_reducible apply foldl_within; intro _ _ h) | with_reducible apply Within.ite | split | dsimp only)

theorem execNodeUpRx_within (n : Nat) (m : Nat) (t : Nat) (hT :
    0x2c0000000000130000800200000000000000000000000001000000000000000000000000000000000000000000000a78540000 ||| T =
    T) : WithinOut T s (execNodeUpRx n m t s) := by
  have h : Within T s s := Within.start
  unfold execNodeUpRx
  try dsimp only
  repeat' (
    first
      | with_reducible exact h | with_reducible rfl | (with_reducible refine sub_of ?_ hT; decide)
      | with_reducible assumption | with_reducible exact WithinOut.fault _ | with_reducible apply WithinOut.next
      | with_reducible apply moduleUp_within | (with_reducible apply foldl_within; intro _ _ h)
      | with_reducible apply Within.ite | with_reducible apply WithinOut.ite | split | dsimp only)

theorem joinPort_within (h : Within T s0 s) (n : Nat) (t : Nat) (hT :
    0x2c0000000000130000800200000000000000000000000001000002000000000000000000000000000000000000000a78540000 ||| T =
    T) : Within T s0 (joinPort s n t) := by
  unfold joinPort
  try dsimp only
  repeat' (
    first
      | with_reducible exact h | with_reducible rfl | (with_reducible refine sub_of ?_ hT; decide)
      | with_reducible assumption | with_reducible apply setPort_within | with_reducible apply raise_within
      | with_reducible apply moduleUp_within | with_reducible exact allowed_LNK_EVENT (has_of hT (by decide))
      | (with_reducible apply foldl_within; intro _ _ h) | with_reducible apply Within.ite | split | dsimp only)

theorem execJoinRx_within (n : Nat) (m : Nat) (epoch : Nat) (crc : Nat) (t : Nat) (hT :
    0x2c0000000000130000800200000000000000000000000001000002000000000000000000000000000000000000000a78540000 ||| T =
    T) : WithinOut T s (execJoinRx n m epoch crc t s) := by
  have h : Within T s s := Within.start
  unfold execJoinRx
  try dsimp only
  repeat' (
    first
      | with_reducible exact h | with_reducible rfl | (with_reducible refine sub_of ?_ hT; decide)
      | with_reducible assumption | with_reducible exact WithinOut.fault _ | with_reducible apply WithinOut.next
      | with_reducible apply raise_within | with_reducible apply setPort_within
      | with_reducible apply joinPort_within | with_reducible exact allowed_FAB_EVENT (has_of hT (by decide))
      | (with_reducible apply foldl_within; intro _ _ h) | with_reducible apply Within.ite
      | with_reducible apply WithinOut.ite | split | dsimp only)

theorem sendJoins_within (h : Within T s0 s) (hT :
    0x2c0000000000130000800200000000000000000000000000000000000000000000000000000000000000000000000a78540000 ||| T =
    T) : Within T s0 (sendJoins s) := by
  unfold sendJoins
  try dsimp only
  repeat' (
    first
      | with_reducible exact h | with_reducible rfl | (with_reducible refine sub_of ?_ hT; decide)
      | with_reducible assumption | with_reducible apply setPort_within | with_reducible apply toPort_within
      | (with_reducible apply foldl_within; intro _ _ h) | with_reducible apply Within.ite | split | dsimp only)

end Sys2Proof.Machine
end

