-- ==== Sys2Proof/Laws/WithinBackground.lean ====
section
/-! SUPPORT. The places that the operations of Machine/Background.lean may change (Laws/Within.lean). -/

namespace Sys2Proof.Machine

variable {T : Nat} {s0 s : State}

theorem setBkg_within (h : Within T s0 s) (b : Background) (hT : 0x2000000 ||| T = T) : Within T s0 (setBkg s b) := by
  unfold setBkg
  try dsimp only
  repeat' (
    first
      | with_reducible exact h | with_reducible rfl | (with_reducible refine sub_of ?_ hT; decide)
      | with_reducible assumption | (with_reducible apply foldl_within; intro _ _ h)
      | simp only [Within.upd_iff, (has_of hT (by decide) : Has T 25), or_true, true_or, eq_self]
      | with_reducible apply Within.ite | split | dsimp only)

theorem bkgEvent_within (h : Within T s0 s) (bit : Nat) (t : Nat) (hT :
    0x130000800200000000000000000000000000000000000000000000000000000000000000000000000a78000000 ||| T = T) : Within T
    s0 (bkgEvent s bit t) := by
  unfold bkgEvent
  try dsimp only
  repeat' (
    first
      | with_reducible exact h | with_reducible rfl | (with_reducible refine sub_of ?_ hT; decide)
      | with_reducible assumption | with_reducible apply raise_within
      | with_reducible exact allowed_BKG_EVENT (has_of hT (by decide))
      | (with_reducible apply foldl_within; intro _ _ h) | with_reducible apply Within.ite | split | dsimp only)

theorem logTelemetry_within (h : Within T s0 s) (id : Nat) (t : Nat) (hT :
    0x130000800200000000000000000000000000000000000000000000000000000000000000000000000a78000000 ||| T = T) : Within T
    s0 (logTelemetry s id t) := by
  unfold logTelemetry
  try dsimp only
  repeat' (
    first
      | with_reducible exact h | with_reducible rfl | (with_reducible refine sub_of ?_ hT; decide)
      | with_reducible assumption | with_reducible apply bump_within | with_reducible apply bkgEvent_within
      | with_reducible exact allowed_BKG_LOG_DROP_COUNT (has_of hT (by decide))
      | (with_reducible apply foldl_within; intro _ _ h)
      | simp only [Within.upd_iff, (has_of hT (by decide) : Has T 28), (has_of hT (by decide) : Has T 29),
          or_true, true_or, eq_self]
      | with_reducible apply Within.ite | split | dsimp only)

theorem markMem_within (h : Within T s0 s) (line : Nat) (hT : 0x200000000000 ||| T = T) : Within T s0 (markMem s line)
    := by
  unfold markMem
  try dsimp only
  repeat' (
    first
      | with_reducible exact h | with_reducible rfl | (with_reducible refine sub_of ?_ hT; decide)
      | with_reducible assumption | (with_reducible apply foldl_within; intro _ _ h)
      | simp only [Within.upd_iff, (has_of hT (by decide) : Has T 45), or_true, true_or, eq_self]
      | with_reducible apply Within.ite | split | dsimp only)

theorem markCsram_within (h : Within T s0 s) (line : Nat) (hT : 0x400000000000 ||| T = T) : Within T s0 (markCsram s
    line) := by
  unfold markCsram
  try dsimp only
  repeat' (
    first
      | with_reducible exact h | with_reducible rfl | (with_reducible refine sub_of ?_ hT; decide)
      | with_reducible assumption | (with_reducible apply foldl_within; intro _ _ h)
      | simp only [Within.upd_iff, (has_of hT (by decide) : Has T 46), or_true, true_or, eq_self]
      | with_reducible apply Within.ite | split | dsimp only)

theorem markHsram_within (h : Within T s0 s) (w : Nat) (hT : 0x800000000000 ||| T = T) : Within T s0 (markHsram s w)
    := by
  unfold markHsram
  try dsimp only
  repeat' (
    first
      | with_reducible exact h | with_reducible rfl | (with_reducible refine sub_of ?_ hT; decide)
      | with_reducible assumption | (with_reducible apply foldl_within; intro _ _ h)
      | simp only [Within.upd_iff, (has_of hT (by decide) : Has T 47), or_true, true_or, eq_self]
      | with_reducible apply Within.ite | split | dsimp only)

theorem dropOvf_within (h : Within T s0 s) (h_ : Nat) (hT : 0x100000 ||| T = T) : Within T s0 (dropOvf s h_) := by
  unfold dropOvf
  try dsimp only
  repeat' (
    first
      | with_reducible exact h | with_reducible rfl | (with_reducible refine sub_of ?_ hT; decide)
      | with_reducible assumption | with_reducible apply setFab_within | with_reducible apply useReorder_within
      | (with_reducible apply foldl_within; intro _ _ h) | with_reducible apply Within.ite | split | dsimp only)

theorem hsramUser_within (h : Within T s0 s) (w : Nat) (t : Nat) (hT :
    0x2c80000000001300008002000008040008040000000001000010002000d8000017a0001f807000000300000000a0da7d56ef80 ||| T =
    T) : Within T s0 (hsramUser s w t) := by
  unfold hsramUser
  try dsimp only
  repeat' (
    first
      | with_reducible exact h | with_reducible rfl | (with_reducible refine sub_of ?_ hT; decide)
      | with_reducible assumption | with_reducible apply hubSramUe_within | with_reducible apply dropOvf_within
      | with_reducible apply reapTransfers_within | with_reducible apply endTransfer_within
      | (with_reducible apply foldl_within; intro _ _ h) | with_reducible apply Within.ite | split | dsimp only)

theorem startReload_within (h : Within T s0 s) (b : Nat) (hT : 0x400000 ||| T = T) : Within T s0 (startReload s b) :=
    by
  unfold startReload
  try dsimp only
  repeat' (
    first
      | with_reducible exact h | with_reducible rfl | (with_reducible refine sub_of ?_ hT; decide)
      | with_reducible assumption | (with_reducible apply foldl_within; intro _ _ h)
      | simp only [Within.upd_iff, (has_of hT (by decide) : Has T 22), or_true, true_or, eq_self]
      | with_reducible apply Within.ite | split | dsimp only)

theorem patrolFinding_within (h : Within T s0 s) (t : Nat) (f : Finding) (hT :
    0x62c81c00000001300008fde400008040008050000000001000010002000d8000017a0001f807000000300000000e0da7d56ef80 ||| T =
    T) : Within T s0 (patrolFinding t s f) := by
  unfold patrolFinding
  try dsimp only
  repeat' (
    first
      | with_reducible exact h | with_reducible rfl | (with_reducible refine sub_of ?_ hT; decide)
      | with_reducible assumption | with_reducible apply bkgEvent_within | with_reducible apply bump_within
      | with_reducible apply markMem_within | with_reducible apply wr_within | with_reducible apply markCsram_within
      | with_reducible apply raise_within | with_reducible apply markHsram_within
      | with_reducible apply hsramUser_within | with_reducible apply endRequest_within
      | with_reducible apply startReload_within
      | with_reducible exact allowed_BKG_HBM_CE_COUNT (has_of hT (by decide))
      | with_reducible exact allowed_BKG_HBM_UE_LOG_HI (has_of hT (by decide))
      | with_reducible exact allowed_BKG_HBM_UE_LOG_LO (has_of hT (by decide))
      | with_reducible exact allowed_BKG_HBM_UE_COUNT (has_of hT (by decide))
      | with_reducible exact allowed_BKG_CSRAM_CE_COUNT (has_of hT (by decide))
      | with_reducible exact allowed_BKG_CSRAM_UE_LOG (has_of hT (by decide))
      | with_reducible exact allowed_BKG_CSRAM_UE_COUNT (has_of hT (by decide))
      | with_reducible exact allowed_HUB_EVENT _ (has_of hT (by decide))
      | with_reducible exact allowed_HUB_SRAM_CE_COUNT _ (has_of hT (by decide))
      | with_reducible exact allowed_HUB_SRAM_UE_COUNT _ (has_of hT (by decide))
      | with_reducible exact allowed_BKG_TABLE_CE_COUNT (has_of hT (by decide))
      | with_reducible exact allowed_BKG_TABLE_UE_COUNT (has_of hT (by decide))
      | with_reducible exact allowed_FENCE_EVENT (has_of hT (by decide))
      | with_reducible exact allowed_TLY_STREAM_W3 _ (has_of hT (by decide))
      | with_reducible exact allowed_MSK_SLOT_STATE _ (has_of hT (by decide))
      | with_reducible exact allowed_SPK_EVENT _ (has_of hT (by decide))
      | with_reducible exact allowed_SPK_CS_CE_COUNT _ (has_of hT (by decide))
      | with_reducible exact allowed_SPK_CS_UE_COUNT _ (has_of hT (by decide))
      | (with_reducible apply foldl_within; intro _ _ h)
      | simp only [Within.upd_iff, (has_of hT (by decide) : Has T 13), (has_of hT (by decide) : Has T 17),
          or_true, true_or, eq_self]
      | with_reducible apply Within.ite | split | dsimp only)

theorem stopPatrol_within (h : Within T s0 s) (m : Nat) (c : Nat)
    (hT : 0x7c000000000000000000000000000000000000000000000000000000000000000000000000000002000000 ||| T = T) : Within T s0
    (stopPatrol m s c) := by
  unfold stopPatrol
  try dsimp only
  repeat' (
    first
      | with_reducible exact h | with_reducible rfl | (with_reducible refine sub_of ?_ hT; decide)
      | with_reducible assumption | with_reducible apply wr_within | with_reducible apply setBkg_within
      | with_reducible apply wr_within | with_reducible exact allowed_BKG_PASS_CS (has_of hT (by decide))
      | with_reducible exact allowed_BKG_PASS_CSRAM (has_of hT (by decide))
      | with_reducible exact allowed_BKG_PASS_HBM (has_of hT (by decide))
      | with_reducible exact allowed_BKG_PASS_HSRAM (has_of hT (by decide))
      | with_reducible exact allowed_BKG_PASS_TABLE (has_of hT (by decide)) | (unfold passReg; split <;> (try split))
      | (with_reducible apply foldl_within; intro _ _ h) | with_reducible apply Within.ite | split)

theorem stopChores_within (h : Within T s0 s) (t : Nat) (hT :
    0x7c000000000000000000000000000000000000000000000000000000000000000000000000001002000000 ||| T = T) : Within T s0
    (stopChores s t) := by
  unfold stopChores
  try dsimp only
  repeat' (
    first
      | with_reducible exact h | with_reducible rfl | (with_reducible refine sub_of ?_ hT; decide)
      | with_reducible assumption | with_reducible apply stopPatrol_within | with_reducible apply drawn_within
      | with_reducible apply setBkg_within | (with_reducible apply foldl_within; intro _ _ h)
      | with_reducible apply Within.ite | split | dsimp only)

theorem execChoreStart_within (found : List Finding) (t : Nat) (hT :
    0x62c81c000000013007ccfdf400008040008050000000001000010002000d8000017a0001f807000000300000000e0da7f56ef80 ||| T =
    T) : WithinOut T s (execChoreStart found t s) := by
  have h : Within T s s := Within.start
  unfold execChoreStart
  try dsimp only
  repeat' (
    first
      | with_reducible exact h | with_reducible rfl | (with_reducible refine sub_of ?_ hT; decide)
      | with_reducible assumption | with_reducible exact WithinOut.fault _ | with_reducible apply WithinOut.next
      | with_reducible apply patrolFinding_within | with_reducible apply setBkg_within
      | with_reducible apply stopChores_within | with_reducible apply logTelemetry_within
      | with_reducible apply bump_within | with_reducible apply wr_within
      | with_reducible exact allowed_BKG_RECAL_SKIP_COUNT (has_of hT (by decide))
      | with_reducible exact allowed_BKG_STATUS (has_of hT (by decide))
      | (with_reducible apply foldl_within; intro _ _ h) | with_reducible apply Within.ite
      | with_reducible apply WithinOut.ite | split | dsimp only)

theorem execChoreStop_within (t : Nat) (hT :
    0x7c000000000000000000000000000000000000000000000000000000000000000000000000001002000000 ||| T = T) : WithinOut T
    s (execChoreStop t s) := by
  have h : Within T s s := Within.start
  unfold execChoreStop
  try dsimp only
  repeat' (
    first
      | with_reducible exact h | with_reducible rfl | (with_reducible refine sub_of ?_ hT; decide)
      | with_reducible assumption | with_reducible exact WithinOut.fault _ | with_reducible apply WithinOut.next
      | with_reducible apply stopChores_within | (with_reducible apply foldl_within; intro _ _ h)
      | with_reducible apply Within.ite | with_reducible apply WithinOut.ite | split | dsimp only)

theorem execLaneRecalStart_within (n : Nat) (hT : 0x800040000 ||| T = T) : WithinOut T s (execLaneRecalStart n s) :=
    by
  have h : Within T s s := Within.start
  unfold execLaneRecalStart
  try dsimp only
  repeat' (
    first
      | with_reducible exact h | with_reducible rfl | (with_reducible refine sub_of ?_ hT; decide)
      | with_reducible assumption | with_reducible exact WithinOut.fault _ | with_reducible apply WithinOut.next
      | with_reducible apply askWidth_within | with_reducible apply setPort_within
      | (with_reducible apply foldl_within; intro _ _ h) | with_reducible apply Within.ite
      | with_reducible apply WithinOut.ite | split | dsimp only)

theorem execLaneRecalDone_within (n : Nat) (ok : Bool) (t : Nat) (hT :
    0x2c8000000000130000b002000008040008040000000003890010ee24e0d8000017a0ce1f807000000300000000a0da7d77ef80 ||| T =
    T) : WithinOut T s (execLaneRecalDone n ok t s) := by
  have h : Within T s s := Within.start
  unfold execLaneRecalDone
  try dsimp only
  repeat' (
    first
      | with_reducible exact h | with_reducible rfl | (with_reducible refine sub_of ?_ hT; decide)
      | with_reducible assumption | with_reducible exact WithinOut.fault _ | with_reducible apply WithinOut.next
      | with_reducible apply setPort_within | with_reducible apply bump_within
      | with_reducible apply askWidth_within | with_reducible apply bkgEvent_within
      | with_reducible apply setWidth_within
      | with_reducible exact allowed_BKG_RECAL_DONE_COUNT (has_of hT (by decide))
      | with_reducible exact allowed_BKG_RECAL_FAIL_COUNT (has_of hT (by decide))
      | (with_reducible apply foldl_within; intro _ _ h) | with_reducible apply Within.ite
      | with_reducible apply WithinOut.ite | split | dsimp only)

theorem startErase_within (h : Within T s0 s) (hT : 0x2000000 ||| T = T) : Within T s0 (startErase s) := by
  unfold startErase
  try dsimp only
  repeat' (
    first
      | with_reducible exact h | with_reducible rfl | (with_reducible refine sub_of ?_ hT; decide)
      | with_reducible assumption | with_reducible apply setBkg_within
      | (with_reducible apply foldl_within; intro _ _ h) | with_reducible apply Within.ite | split | dsimp only)

theorem execLogPageProgram_within (hT : 0x2000000 ||| T = T) : WithinOut T s (execLogPageProgram s) := by
  have h : Within T s s := Within.start
  unfold execLogPageProgram
  try dsimp only
  repeat' (
    first
      | with_reducible exact h | with_reducible rfl | (with_reducible refine sub_of ?_ hT; decide)
      | with_reducible assumption | with_reducible exact WithinOut.fault _ | with_reducible apply WithinOut.next
      | with_reducible apply startErase_within | with_reducible apply setBkg_within
      | (with_reducible apply foldl_within; intro _ _ h) | with_reducible apply Within.ite
      | with_reducible apply WithinOut.ite | split | dsimp only)

theorem retireSector_within (h : Within T s0 s) (k : Nat) (t : Nat) (hT :
    0x130102800300000000000000000000000000000000000000000000000000000000000000000000040a7a000000 ||| T = T) : Within T
    s0 (retireSector s k t) := by
  unfold retireSector
  try dsimp only
  repeat' (
    first
      | with_reducible exact h | with_reducible rfl | (with_reducible refine sub_of ?_ hT; decide)
      | with_reducible assumption | with_reducible apply setBkg_within | with_reducible apply bkgEvent_within
      | with_reducible apply bump_within | with_reducible apply wr_within
      | with_reducible exact allowed_BKG_SECTOR_RETIRED_COUNT (has_of hT (by decide))
      | with_reducible exact allowed_BKG_LOG_USABLE (has_of hT (by decide))
      | with_reducible exact allowed_BKG_STATUS (has_of hT (by decide))
      | (with_reducible apply foldl_within; intro _ _ h)
      | simp only [Within.upd_iff, (has_of hT (by decide) : Has T 42), or_true, true_or, eq_self]
      | with_reducible apply Within.ite | split | dsimp only)

theorem programDone_within (h : Within T s0 s) (addr : Nat) (bs : List Byte) (hT :
    0x80000000000000000000000000000000000000000000000000000000000000000000000000040012000000 ||| T = T) : Within T s0
    (programDone s addr bs) := by
  unfold programDone
  try dsimp only
  repeat' (
    first
      | with_reducible exact h | with_reducible rfl | (with_reducible refine sub_of ?_ hT; decide)
      | with_reducible assumption | with_reducible apply setBkg_within | with_reducible apply wr_within
      | with_reducible exact allowed_BKG_LOG_WPTR (has_of hT (by decide))
      | (with_reducible apply foldl_within; intro _ _ h)
      | simp only [Within.upd_iff, (has_of hT (by decide) : Has T 28), (has_of hT (by decide) : Has T 42),
          or_true, true_or, eq_self]
      | with_reducible apply Within.ite | split | dsimp only)

theorem execFlashOpComplete_within (ok : Bool) (t : Nat) (hT :
    0x130182800300000000000000000000000000000000000000000000000000000000000000000000040a7a000000 ||| T = T) :
    WithinOut T s (execFlashOpComplete ok t s) := by
  have h : Within T s s := Within.start
  unfold execFlashOpComplete
  try dsimp only
  repeat' (
    first
      | with_reducible exact h | with_reducible rfl | (with_reducible refine sub_of ?_ hT; decide)
      | with_reducible assumption | with_reducible exact WithinOut.fault _ | with_reducible apply WithinOut.next
      | with_reducible apply startErase_within | with_reducible apply programDone_within
      | with_reducible apply retireSector_within | with_reducible apply setBkg_within
      | (with_reducible apply foldl_within; intro _ _ h)
      | simp only [Within.upd_iff, (has_of hT (by decide) : Has T 42), or_true, true_or, eq_self]
      | with_reducible apply Within.ite | with_reducible apply WithinOut.ite | split | dsimp only)

theorem recoverLog_within (h : Within T s0 s) (hT :
    0x130180800300000000000000000000000000000000000000000000000000000000000000000000000a7a000000 ||| T = T) : Within T
    s0 (recoverLog s) := by
  unfold recoverLog
  try dsimp only
  repeat' (
    first
      | with_reducible exact h | with_reducible rfl | (with_reducible refine sub_of ?_ hT; decide)
      | with_reducible assumption | with_reducible apply setBkg_within | with_reducible apply wr_within
      | with_reducible apply bkgEvent_within | with_reducible exact allowed_BKG_LOG_USABLE (has_of hT (by decide))
      | with_reducible exact allowed_BKG_LOG_WPTR (has_of hT (by decide))
      | with_reducible exact allowed_BKG_STATUS (has_of hT (by decide))
      | (with_reducible apply foldl_within; intro _ _ h) | with_reducible apply Within.ite | split | dsimp only)

theorem execTelemetrySample_within (t : Nat) (hT :
    0x130201800200000000000000000000000000000000000000000000000000000000000000000000001a7a000000 ||| T = T) :
    WithinOut T s (execTelemetrySample t s) := by
  have h : Within T s s := Within.start
  unfold execTelemetrySample
  try dsimp only
  repeat' (
    first
      | with_reducible exact h | with_reducible rfl | (with_reducible refine sub_of ?_ hT; decide)
      | with_reducible assumption | with_reducible exact WithinOut.fault _ | with_reducible apply WithinOut.next
      | with_reducible apply setBkg_within | with_reducible apply drawn_within | with_reducible apply wr_within
      | with_reducible apply bkgEvent_within | with_reducible apply bump_within
      | with_reducible exact allowed_BKG_TELEM_IDX (has_of hT (by decide))
      | with_reducible exact allowed_BKG_TELEM_OVF_COUNT (has_of hT (by decide))
      | (with_reducible apply foldl_within; intro _ _ h) | with_reducible apply Within.ite
      | with_reducible apply WithinOut.ite | split | dsimp only)

theorem execHwTimerExpiry_within (k : Nat) (hT : 0x2001000 ||| T = T) : WithinOut T s (execHwTimerExpiry k s) := by
  have h : Within T s s := Within.start
  unfold execHwTimerExpiry
  try dsimp only
  repeat' (
    first
      | with_reducible exact h | with_reducible rfl | (with_reducible refine sub_of ?_ hT; decide)
      | with_reducible assumption | with_reducible exact WithinOut.fault _ | with_reducible apply WithinOut.next
      | with_reducible apply setBkg_within | (with_reducible apply foldl_within; intro _ _ h)
      | simp only [Within.upd_iff, (has_of hT (by decide) : Has T 12), or_true, true_or, eq_self]
      | with_reducible apply Within.ite | with_reducible apply WithinOut.ite | split | dsimp only)

end Sys2Proof.Machine
end

