-- ==== Sys2Proof/Laws/WithinImage.lean ====
section
/-! SUPPORT. The places that the operations of Machine/Image.lean may change (Laws/Within.lean). -/

namespace Sys2Proof.Machine

variable {T : Nat} {s0 s : State}

theorem flashWrite_within (h : Within T s0 s) (a : Nat) (bs : List Byte) (hT : 0x40000000000 ||| T = T) : Within T s0
    (flashWrite s a bs) := by
  unfold flashWrite
  try dsimp only
  repeat' (
    first
      | with_reducible exact h | with_reducible rfl | (with_reducible refine sub_of ?_ hT; decide)
      | with_reducible assumption | (with_reducible apply foldl_within; intro _ _ h)
      | simp only [Within.upd_iff, (has_of hT (by decide) : Has T 42), or_true, true_or, eq_self]
      | with_reducible apply Within.ite | split | dsimp only)

theorem rewriteDirectory_within (h : Within T s0 s) (f : Directory → Directory) (hT : 0x40000000000 ||| T = T) :
    Within T s0 (rewriteDirectory s f) := by
  unfold rewriteDirectory
  try dsimp only
  repeat' (
    first
      | with_reducible exact h | with_reducible rfl | (with_reducible refine sub_of ?_ hT; decide)
      | with_reducible assumption | with_reducible apply flashWrite_within
      | (with_reducible apply foldl_within; intro _ _ h) | with_reducible apply Within.ite | split | dsimp only)

theorem clearRwl_within (h : Within T s0 s) (hT : 0x100000000000000000000000000000000000000000000000000000000000000000000000000000000000000000000000000000000 ||| T = T) : Within T s0 (clearRwl s) :=
  h.updRegs (fun a => .inl (allowed_anyRegister a (has_of hT (by decide))))

theorem clearTables_within (h : Within T s0 s) (hT :
    0x100000000000000000000000000000000000000000000000000000000000000000000000000000000000000000000000001512080 ||| T
    = T) : Within T s0 (clearTables s) := by
  unfold clearTables
  try dsimp only
  repeat' (
    first
      | with_reducible exact h | with_reducible rfl | (with_reducible refine sub_of ?_ hT; decide)
      | with_reducible assumption | with_reducible apply clearRwl_within
      | (with_reducible apply foldl_within; intro _ _ h)
      | simp only [Within.upd_iff, (has_of hT (by decide) : Has T 7), (has_of hT (by decide) : Has T 13), (has_of
          hT (by decide) : Has T 16), (has_of hT (by decide) : Has T 20), (has_of hT (by decide) : Has T
          22), (has_of hT (by decide) : Has T 24), or_true, true_or, eq_self]
      | with_reducible apply Within.ite | split | dsimp only)

theorem loadRegisters_within (h : Within T s0 s) (x : Nat × Nat) (hT :
    0x100000000000000000000000000000000000000000000000000000000000000000000000000000000000000000000000000000010 ||| T
    = T) : Within T s0 (loadRegisters s x) := by
  unfold loadRegisters
  try dsimp only
  repeat' (
    first
      | with_reducible exact h | with_reducible rfl | (with_reducible refine sub_of ?_ hT; decide)
      | with_reducible assumption | with_reducible apply wr_within
      | with_reducible exact allowed_anyRegister _ (has_of hT (by decide))
      | (with_reducible apply foldl_within; intro _ _ h)
      | simp only [Within.upd_iff, (has_of hT (by decide) : Has T 4), or_true, true_or, eq_self]
      | with_reducible apply Within.ite | split | dsimp only)

theorem loadPartitions_within (h : Within T s0 s) (x : Nat × Nat) (hT : 0x2040000000000000000000000000010000 ||| T =
    T) : Within T s0 (loadPartitions s x) := by
  unfold loadPartitions
  try dsimp only
  repeat' (
    first
      | with_reducible exact h | with_reducible rfl | (with_reducible refine sub_of ?_ hT; decide)
      | with_reducible assumption | with_reducible apply wr_within
      | with_reducible exact allowed_PART_KEY _ (has_of hT (by decide))
      | with_reducible exact allowed_PART_PORT_ALLOW _ (has_of hT (by decide))
      | (with_reducible apply foldl_within; intro _ _ h)
      | simp only [Within.upd_iff, (has_of hT (by decide) : Has T 16), or_true, true_or, eq_self]
      | with_reducible apply Within.ite | split | dsimp only)

theorem loadAllocs_within (h : Within T s0 s) (x : Nat × Nat) (hT : 0x2000 ||| T = T) : Within T s0 (loadAllocs s x)
    := by
  unfold loadAllocs
  try dsimp only
  repeat' (
    first
      | with_reducible exact h | with_reducible rfl | (with_reducible refine sub_of ?_ hT; decide)
      | with_reducible assumption | (with_reducible apply foldl_within; intro _ _ h)
      | simp only [Within.upd_iff, (has_of hT (by decide) : Has T 13), or_true, true_or, eq_self]
      | with_reducible apply Within.ite | split | dsimp only)

theorem loadWindows_within (h : Within T s0 s) (x : Nat × Nat) (hT : 0x2000 ||| T = T) : Within T s0 (loadWindows s x)
    := by
  unfold loadWindows
  try dsimp only
  repeat' (
    first
      | with_reducible exact h | with_reducible rfl | (with_reducible refine sub_of ?_ hT; decide)
      | with_reducible assumption | (with_reducible apply foldl_within; intro _ _ h)
      | simp only [Within.upd_iff, (has_of hT (by decide) : Has T 13), or_true, true_or, eq_self]
      | with_reducible apply Within.ite | split | dsimp only)

theorem loadGroups_within (h : Within T s0 s) (x : Nat × Nat) (hT : 0x400000 ||| T = T) : Within T s0 (loadGroups s x)
    := by
  unfold loadGroups
  try dsimp only
  repeat' (
    first
      | with_reducible exact h | with_reducible rfl | (with_reducible refine sub_of ?_ hT; decide)
      | with_reducible assumption | (with_reducible apply foldl_within; intro _ _ h)
      | simp only [Within.upd_iff, (has_of hT (by decide) : Has T 22), or_true, true_or, eq_self]
      | with_reducible apply Within.ite | split | dsimp only)

theorem loadRoutes_within (h : Within T s0 s) (x : Nat × Nat) (hT : 0x100000 ||| T = T) : Within T s0 (loadRoutes s x)
    := by
  unfold loadRoutes
  try dsimp only
  repeat' (
    first
      | with_reducible exact h | with_reducible rfl | (with_reducible refine sub_of ?_ hT; decide)
      | with_reducible assumption | (with_reducible apply foldl_within; intro _ _ h)
      | simp only [Within.upd_iff, (has_of hT (by decide) : Has T 20), or_true, true_or, eq_self]
      | with_reducible apply Within.ite | split | dsimp only)

theorem loadSchedule_within (h : Within T s0 s) (x : Nat × Nat) (hT : 0x80 ||| T = T) : Within T s0 (loadSchedule s x)
    := by
  unfold loadSchedule
  try dsimp only
  repeat' (
    first
      | with_reducible exact h | with_reducible rfl | (with_reducible refine sub_of ?_ hT; decide)
      | with_reducible assumption | (with_reducible apply foldl_within; intro _ _ h)
      | simp only [Within.upd_iff, (has_of hT (by decide) : Has T 7), or_true, true_or, eq_self]
      | with_reducible apply Within.ite | split | dsimp only)

theorem loadMicrocode_within (h : Within T s0 s) (x : Nat × Nat) (hT :
    0x400000000000000000000000000000000000000000000000000000000000000000000000000000000000000000000000400000 ||| T =
    T) : Within T s0 (loadMicrocode s x) := by
  unfold loadMicrocode
  try dsimp only
  repeat' (
    first
      | with_reducible exact h | with_reducible rfl | (with_reducible refine sub_of ?_ hT; decide)
      | with_reducible assumption | with_reducible apply wr_within
      | with_reducible exact allowed_SPK_UCODE_ID _ (has_of hT (by decide))
      | (with_reducible apply foldl_within; intro _ _ h)
      | simp only [Within.upd_iff, (has_of hT (by decide) : Has T 22), or_true, true_or, eq_self]
      | with_reducible apply Within.ite | split | dsimp only)

theorem loadFirmware_within (h : Within T s0 s) (x : Nat × Nat) (hT : 0x20000000000000180000001000 ||| T = T) : Within
    T s0 (loadFirmware s x) := by
  unfold loadFirmware
  try dsimp only
  repeat' (
    first
      | with_reducible exact h | with_reducible rfl | (with_reducible refine sub_of ?_ hT; decide)
      | with_reducible assumption | with_reducible apply wr_within
      | with_reducible exact allowed_SUP_FW_VERSION (has_of hT (by decide))
      | (with_reducible apply foldl_within; intro _ _ h)
      | simp only [Within.upd_iff, (has_of hT (by decide) : Has T 12), (has_of hT (by decide) : Has T 43), (has_of
          hT (by decide) : Has T 44), or_true, true_or, eq_self]
      | with_reducible apply Within.ite | split | dsimp only)

theorem loadLedger_within (h : Within T s0 s) (x : Nat × Nat) (hT : 0x1000000 ||| T = T) : Within T s0 (loadLedger s
    x) := by
  unfold loadLedger
  try dsimp only
  repeat' (
    first
      | with_reducible exact h | with_reducible rfl | (with_reducible refine sub_of ?_ hT; decide)
      | with_reducible assumption | (with_reducible apply foldl_within; intro _ _ h)
      | simp only [Within.upd_iff, (has_of hT (by decide) : Has T 24), or_true, true_or, eq_self]
      | with_reducible apply Within.ite | split | dsimp only)

theorem loadBootParams_within (h : Within T s0 s) (x : Nat × Nat) (hT : 0x4 ||| T = T) : Within T s0 (loadBootParams s
    x) := by
  unfold loadBootParams
  try dsimp only
  repeat' (
    first
      | with_reducible exact h | with_reducible rfl | (with_reducible refine sub_of ?_ hT; decide)
      | with_reducible assumption | (with_reducible apply foldl_within; intro _ _ h)
      | simp only [Within.upd_iff, (has_of hT (by decide) : Has T 2), or_true, true_or, eq_self]
      | with_reducible apply Within.ite | split | dsimp only)

theorem loadImage_within (h : Within T s0 s) (l : List (Nat × Nat × Nat)) (hT :
    0x100400000000000000000000000000000000000000000000000000000000000000000002040000020000000000000180001513094 ||| T
    = T) : Within T s0 (loadImage s l) := by
  unfold loadImage
  try dsimp only
  repeat' (
    first
      | with_reducible exact h | with_reducible rfl | (with_reducible refine sub_of ?_ hT; decide)
      | with_reducible assumption | with_reducible apply loadBootParams_within
      | with_reducible apply loadFirmware_within | with_reducible apply loadRegisters_within
      | with_reducible apply clearTables_within | with_reducible apply loadWindows_within
      | with_reducible apply loadAllocs_within | with_reducible apply loadPartitions_within
      | with_reducible apply loadMicrocode_within | with_reducible apply loadSchedule_within
      | with_reducible apply loadRoutes_within | with_reducible apply loadGroups_within
      | with_reducible apply loadLedger_within | (with_reducible apply foldl_within; intro _ _ h)
      | with_reducible apply Within.ite | split | dsimp only)

end Sys2Proof.Machine
end

