-- ==== Sys2Proof/Laws/WithinTally.lean ====
section
/-! SUPPORT. The places that the operations of Machine/Tally.lean may change (Laws/Within.lean). -/

namespace Sys2Proof.Machine

variable {T : Nat} {s0 s : State}

theorem setTally_within (h : Within T s0 s) (y : Tally) (hT : 0x800000 ||| T = T) : Within T s0 (setTally s y) := by
  unfold setTally
  try dsimp only
  repeat' (
    first
      | with_reducible exact h | with_reducible rfl | (with_reducible refine sub_of ?_ hT; decide)
      | with_reducible assumption | (with_reducible apply foldl_within; intro _ _ h)
      | simp only [Within.upd_iff, (has_of hT (by decide) : Has T 23), or_true, true_or, eq_self]
      | with_reducible apply Within.ite | split | dsimp only)

theorem tlyEvent_within (h : Within T s0 s) (bit : Nat) (t : Nat) (hT :
    0x130000800200000000000000000000008000000000000000000000000000000000000000000000000a78000000 ||| T = T) : Within T
    s0 (tlyEvent s bit t) := by
  unfold tlyEvent
  try dsimp only
  repeat' (
    first
      | with_reducible exact h | with_reducible rfl | (with_reducible refine sub_of ?_ hT; decide)
      | with_reducible assumption | with_reducible apply raise_within
      | with_reducible exact allowed_TLY_EVENT (has_of hT (by decide))
      | (with_reducible apply foldl_within; intro _ _ h) | with_reducible apply Within.ite | split | dsimp only)

theorem areaWrite_within (h : Within T s0 s) (p : Nat) (a : Nat) (bs : List Byte) (t : Nat) (hT :
    0x13000080020000000000000000000000000000000000000000000000001f807000000000000000204a78002000 ||| T = T) : Within T
    s0 (areaWrite s p a bs t) := by
  unfold areaWrite
  try dsimp only
  repeat' (
    first
      | with_reducible exact h | with_reducible rfl | (with_reducible refine sub_of ?_ hT; decide)
      | with_reducible assumption | with_reducible apply memWrite_within | with_reducible apply fenceRefuse_within
      | (with_reducible apply foldl_within; intro _ _ h) | with_reducible apply Within.ite | split | dsimp only)

theorem writeEntry_within (h : Within T s0 s) (port : Nat) (i : Nat) (p : Nat) (st : Nat) (m : Meas) (wants : Bool)
    (first : Bool) (missed : Nat) (t : Nat) (hT :
    0x13000080020000000000000108000000800000000000000000000000001f807000000000000000204a78802000 ||| T = T) : Within T
    s0 (writeEntry s port i p st m wants first missed t) := by
  unfold writeEntry
  try dsimp only
  repeat' (
    first
      | with_reducible exact h | with_reducible rfl | (with_reducible refine sub_of ?_ hT; decide)
      | with_reducible assumption | with_reducible apply bump_within | with_reducible apply setTally_within
      | with_reducible apply areaWrite_within | with_reducible apply wr_within
      | with_reducible apply tlyEvent_within
      | with_reducible exact allowed_TLY_DROPPED_COUNT (has_of hT (by decide))
      | with_reducible exact allowed_TLY_STREAM_W3 _ (has_of hT (by decide))
      | (with_reducible apply foldl_within; intro _ _ h) | with_reducible apply Within.ite | split | dsimp only)

theorem judge_within (h : Within T s0 s) (port : Nat) (i : Nat) (m : Meas) (t : Nat) (hT :
    0x1300008002000000000000010fe20000800000000000000000000000001f807000000000000000204a78802000 ||| T = T) : Within T
    s0 (judge s port i m t) := by
  unfold judge
  try dsimp only
  repeat' (
    first
      | with_reducible exact h | with_reducible rfl | (with_reducible refine sub_of ?_ hT; decide)
      | with_reducible assumption | with_reducible apply bump_within | with_reducible apply writeEntry_within
      | with_reducible apply tlyEvent_within | with_reducible apply wr_within | with_reducible apply bumpN_within
      | with_reducible exact allowed_TLY_INACTIVE_COUNT (has_of hT (by decide))
      | with_reducible exact allowed_TLY_STALE_COUNT (has_of hT (by decide))
      | with_reducible exact allowed_TLY_EARLY_COUNT (has_of hT (by decide))
      | with_reducible exact allowed_TLY_REPEAT_COUNT (has_of hT (by decide))
      | with_reducible exact allowed_TLY_OLD_COUNT (has_of hT (by decide))
      | with_reducible exact allowed_TLY_STREAM_W3 _ (has_of hT (by decide))
      | with_reducible exact allowed_TLY_MISSED_COUNT (has_of hT (by decide))
      | with_reducible exact allowed_TLY_GAP_COUNT (has_of hT (by decide))
      | (with_reducible apply foldl_within; intro _ _ h) | with_reducible apply Within.ite | split | dsimp only)

theorem matchStream_within (h : Within T s0 s) (port : Nat) (m : Meas) (t : Nat) (hT :
    0x1300008002000000000000010fe30000800000000000000000000000001f807000000000000000204a78802000 ||| T = T) : Within T
    s0 (matchStream s port m t) := by
  unfold matchStream
  try dsimp only
  repeat' (
    first
      | with_reducible exact h | with_reducible rfl | (with_reducible refine sub_of ?_ hT; decide)
      | with_reducible assumption | with_reducible apply judge_within | with_reducible apply tlyEvent_within
      | with_reducible apply bump_within | with_reducible exact allowed_TLY_UNKNOWN_COUNT (has_of hT (by decide))
      | (with_reducible apply foldl_within; intro _ _ h) | with_reducible apply Within.ite | split | dsimp only)

theorem forwardFrame_within (h : Within T s0 s) (n : Nat) (fr : List Byte) (t : Nat) (hT :
    0x1300008002000000000000000000c040800000000000000000000000001f807000000000000000008a7c806000 ||| T = T) : Within T
    s0 (forwardFrame s n fr t) := by
  unfold forwardFrame
  try dsimp only
  repeat' (
    first
      | with_reducible exact h | with_reducible rfl | (with_reducible refine sub_of ?_ hT; decide)
      | with_reducible assumption | with_reducible apply tlyEvent_within | with_reducible apply bump_within
      | with_reducible apply fenceRefuse_within | with_reducible apply hostWrite_within
      | with_reducible apply wr_within | with_reducible apply setTally_within
      | with_reducible exact allowed_TLY_FWD_DROP_COUNT (has_of hT (by decide))
      | with_reducible exact allowed_TLY_FWD_COUNT (has_of hT (by decide))
      | with_reducible exact allowed_TLY_FWD_TAIL _ (has_of hT (by decide))
      | (with_reducible apply foldl_within; intro _ _ h) | with_reducible apply Within.ite | split | dsimp only)

theorem malformed_within (h : Within T s0 s) (hT : 0x8000000000000000000000000000000000000000000000000000000000000 |||
    T = T) : Within T s0 (malformed s) := by
  unfold malformed
  try dsimp only
  repeat' (
    first
      | with_reducible exact h | with_reducible rfl | (with_reducible refine sub_of ?_ hT; decide)
      | with_reducible assumption | with_reducible apply bump_within
      | with_reducible exact allowed_TLY_MALFORMED_COUNT (has_of hT (by decide))
      | (with_reducible apply foldl_within; intro _ _ h) | with_reducible apply Within.ite | split | dsimp only)

theorem corrupt_within (h : Within T s0 s) (t : Nat) (hT :
    0x130000800200000000000000000010008000000000000000000000000000000000000000000000000a78000000 ||| T = T) : Within T
    s0 (corrupt s t) := by
  unfold corrupt
  try dsimp only
  repeat' (
    first
      | with_reducible exact h | with_reducible rfl | (with_reducible refine sub_of ?_ hT; decide)
      | with_reducible assumption | with_reducible apply tlyEvent_within | with_reducible apply bump_within
      | with_reducible exact allowed_TLY_CORRUPT_COUNT (has_of hT (by decide))
      | (with_reducible apply foldl_within; intro _ _ h) | with_reducible apply Within.ite | split | dsimp only)

theorem c37Data_within (h : Within T s0 s) (n : Nat) (fr : List Byte) (t : Nat) (hT :
    0x1300008002000000000000010fe30000800000000000000000000000001f807000000000000000204a78802000 ||| T = T) : Within T
    s0 (c37Data s n fr t) := by
  unfold c37Data
  try dsimp only
  repeat' (
    first
      | with_reducible exact h | with_reducible rfl | (with_reducible refine sub_of ?_ hT; decide)
      | with_reducible assumption | with_reducible apply tlyEvent_within | with_reducible apply bump_within
      | with_reducible apply judge_within | with_reducible exact allowed_TLY_UNKNOWN_COUNT (has_of hT (by decide))
      | (with_reducible apply foldl_within; intro _ _ h) | with_reducible apply Within.ite | split | dsimp only)

theorem c37Frame_within (h : Within T s0 s) (n : Nat) (fr : List Byte) (t : Nat) (hT :
    0x1300008002000000000000010fe3f840800000000000000000000000001f80700000000000000020ca7c806000 ||| T = T) : Within T
    s0 (c37Frame s n fr t) := by
  unfold c37Frame
  try dsimp only
  repeat' (
    first
      | with_reducible exact h | with_reducible rfl | (with_reducible refine sub_of ?_ hT; decide)
      | with_reducible assumption | with_reducible apply malformed_within | with_reducible apply corrupt_within
      | with_reducible apply c37Data_within | with_reducible apply bump_within
      | with_reducible apply forwardFrame_within
      | with_reducible exact allowed_TLY_CMD_DROP_COUNT (has_of hT (by decide))
      | (with_reducible apply foldl_within; intro _ _ h) | with_reducible apply Within.ite | split | dsimp only)

theorem dropBlock_within (h : Within T s0 s) (n : Nat) (hT : 0x800000 ||| T = T) : Within T s0 (dropBlock s n) := by
  unfold dropBlock
  try dsimp only
  repeat' (
    first
      | with_reducible exact h | with_reducible rfl | (with_reducible refine sub_of ?_ hT; decide)
      | with_reducible assumption | with_reducible apply setTally_within
      | (with_reducible apply foldl_within; intro _ _ h) | with_reducible apply Within.ite | split | dsimp only)

theorem takeSegment_within (h : Within T s0 s) (n : Nat) (b : TallyBlock) (sg : List Byte) (t : Nat) (hT :
    0x1300008002000000000000010fe31800800000000000000000000000001f807000000000000000204a78802000 ||| T = T) : Within T
    s0 (takeSegment s n b sg t) := by
  unfold takeSegment
  try dsimp only
  repeat' (
    first
      | with_reducible exact h | with_reducible rfl | (with_reducible refine sub_of ?_ hT; decide)
      | with_reducible assumption | with_reducible apply malformed_within | with_reducible apply dropBlock_within
      | with_reducible apply setTally_within | with_reducible apply corrupt_within
      | with_reducible apply matchStream_within | (with_reducible apply foldl_within; intro _ _ h)
      | with_reducible apply Within.ite | split | dsimp only)

theorem freshSegment_within (h : Within T s0 s) (n : Nat) (sg : List Byte) (t : Nat) (hT :
    0x1300008002000000000000010feb1800800000000000000000000000001f807000000000000000204a78802000 ||| T = T) : Within T
    s0 (freshSegment s n sg t) := by
  unfold freshSegment
  try dsimp only
  repeat' (
    first
      | with_reducible exact h | with_reducible rfl | (with_reducible refine sub_of ?_ hT; decide)
      | with_reducible assumption | with_reducible apply bump_within | with_reducible apply takeSegment_within
      | with_reducible exact allowed_TLY_ORPHAN_COUNT (has_of hT (by decide))
      | (with_reducible apply foldl_within; intro _ _ h) | with_reducible apply Within.ite | split | dsimp only)

theorem nativeSegment_within (h : Within T s0 s) (n : Nat) (sg : List Byte) (t : Nat) (hT :
    0x1300008002000000000000010fef1800800000000000000000000000001f807000000000000000204a78802000 ||| T = T) : Within T
    s0 (nativeSegment s n sg t) := by
  unfold nativeSegment
  try dsimp only
  repeat' (
    first
      | with_reducible exact h | with_reducible rfl | (with_reducible refine sub_of ?_ hT; decide)
      | with_reducible assumption | with_reducible apply takeSegment_within
      | with_reducible apply freshSegment_within | with_reducible apply tlyEvent_within
      | with_reducible apply bump_within | with_reducible apply dropBlock_within
      | with_reducible exact allowed_TLY_INTERLEAVED_COUNT (has_of hT (by decide))
      | (with_reducible apply foldl_within; intro _ _ h) | with_reducible apply Within.ite | split | dsimp only)

theorem execIngestFrameRx_within (n : Nat) (fr : List Byte) (t : Nat) (hT :
    0x2001300008002000000000000010fefff40800000000000000000000000001f80700000000000000020ca7c806000 ||| T = T) :
    WithinOut T s (execIngestFrameRx n fr t s) := by
  have h : Within T s s := Within.start
  unfold execIngestFrameRx
  try dsimp only
  repeat' (
    first
      | with_reducible exact h | with_reducible rfl | (with_reducible refine sub_of ?_ hT; decide)
      | with_reducible assumption | with_reducible exact WithinOut.fault _ | with_reducible apply WithinOut.next
      | with_reducible apply bump_within | with_reducible apply nativeSegment_within
      | with_reducible apply c37Frame_within
      | with_reducible exact allowed_HST_BOOT_INGEST_DROP (has_of hT (by decide))
      | with_reducible exact allowed_TLY_NOT_MEAS_COUNT (has_of hT (by decide))
      | with_reducible exact allowed_TLY_RX_0_COUNT (has_of hT (by decide))
      | with_reducible exact allowed_TLY_RX_1_COUNT (has_of hT (by decide))
      | (with_reducible apply foldl_within; intro _ _ h) | with_reducible apply Within.ite
      | with_reducible apply WithinOut.ite | split | dsimp only)

theorem sealSets_within (h : Within T s0 s) (k : Nat) (b : Nat) (hT :
    0x13000080020000000000000000100000000000000000000000000000001f807000000000000000204a78802000 ||| T = T) : Within T
    s0 (sealSets s k b) := by
  unfold sealSets
  try dsimp only
  repeat' (
    first
      | with_reducible exact h | with_reducible rfl | (with_reducible refine sub_of ?_ hT; decide)
      | with_reducible assumption | with_reducible apply bump_within | with_reducible apply dropBlock_within
      | with_reducible apply areaWrite_within | with_reducible apply setTally_within
      | with_reducible exact allowed_TLY_TRUNCATED_COUNT (has_of hT (by decide))
      | (with_reducible apply foldl_within; intro _ _ h) | with_reducible apply Within.ite | split | dsimp only)

theorem checkAreas_within (h : Within T s0 s) (t : Nat) (hT :
    0x13000080020000000000000000000000c000000000000000000000000000000000000000000000000a78000000 ||| T = T) : Within T
    s0 (checkAreas s t) := by
  unfold checkAreas
  try dsimp only
  repeat' (
    first
      | with_reducible exact h | with_reducible rfl | (with_reducible refine sub_of ?_ hT; decide)
      | with_reducible assumption | with_reducible apply tlyEvent_within | with_reducible apply wr_within
      | with_reducible exact allowed_TLY_STATUS (has_of hT (by decide))
      | (with_reducible apply foldl_within; intro _ _ h) | with_reducible apply Within.ite | split | dsimp only)

theorem execIngestLinkDown_within (n : Nat) (t : Nat) (hT :
    0x13000080020000000000000000000000c000000000000000000000000000000000000000000000000a78000000 ||| T = T) :
    WithinOut T s (execIngestLinkDown n t s) := by
  have h : Within T s s := Within.start
  unfold execIngestLinkDown
  try dsimp only
  repeat' (
    first
      | with_reducible exact h | with_reducible rfl | (with_reducible refine sub_of ?_ hT; decide)
      | with_reducible assumption | with_reducible exact WithinOut.fault _ | with_reducible apply WithinOut.next
      | with_reducible apply tlyEvent_within | with_reducible apply wr_within
      | with_reducible exact allowed_TLY_STATUS (has_of hT (by decide))
      | (with_reducible apply foldl_within; intro _ _ h) | with_reducible apply Within.ite
      | with_reducible apply WithinOut.ite | split | dsimp only)

theorem execIngestLinkUp_within (n : Nat) (hT : 0x4000000000000000000000000000000000000000000000000000000000 ||| T =
    T) : WithinOut T s (execIngestLinkUp n s) := by
  have h : Within T s s := Within.start
  unfold execIngestLinkUp
  try dsimp only
  repeat' (
    first
      | with_reducible exact h | with_reducible rfl | (with_reducible refine sub_of ?_ hT; decide)
      | with_reducible assumption | with_reducible exact WithinOut.fault _ | with_reducible apply WithinOut.next
      | with_reducible apply wr_within | with_reducible exact allowed_TLY_STATUS (has_of hT (by decide))
      | (with_reducible apply foldl_within; intro _ _ h) | with_reducible apply Within.ite
      | with_reducible apply WithinOut.ite | split | dsimp only)

theorem tlyStream_allowed {T : Nat} (i w : Nat) (hw : ¬ 3 ≤ w) (h0 : Has T 261) (h1 : Has T 262) (h2 : Has T 263) :
    Allowed T (Reg.TLY_STREAM_W0 i + 4 * w) := by
  have e : w = 0 ∨ w = 1 ∨ w = 2 := by omega
  rcases e with rfl | rfl | rfl
  · exact allowed_TLY_STREAM_W0 i h0
  · have e : Reg.TLY_STREAM_W0 i + 4 * 1 = Reg.TLY_STREAM_W1 i := by simp only [Reg.TLY_STREAM_W0, Reg.TLY_STREAM_W1]; omega
    exact e ▸ allowed_TLY_STREAM_W1 i h1
  · have e : Reg.TLY_STREAM_W0 i + 4 * 2 = Reg.TLY_STREAM_W2 i := by simp only [Reg.TLY_STREAM_W0, Reg.TLY_STREAM_W2]; omega
    exact e ▸ allowed_TLY_STREAM_W2 i h2

theorem execTlyStreamWrite_within (i w : Nat) (v : Word) (src : Requester) (t : Nat) (hT : 0x130000800200000000000000e0000000400000000000000000000000001f807000000000000000000a78002000 ||| T = T) :
    WithinOut T s (execTlyStreamWrite i w v src t s) := by
  have h : Within T s s := Within.start
  unfold execTlyStreamWrite
  dsimp only
  split
  · exact h
  · rename_i hn
    split
    · exact fenceRefuse_within h _ _ _ _ _ (sub_of (by decide) hT)
    · refine WithinOut.ite ?_ ?_
      · exact wr_within h _ _ (tlyStream_allowed i w (fun x => hn (.inr (.inl x))) (has_of hT (by decide))
          (has_of hT (by decide)) (has_of hT (by decide)))
      · exact wr_within h _ _ (allowed_TLY_STATUS (has_of hT (by decide)))

theorem execTlyFwdHeadWrite_within (n : Nat) (v : Word) (hT :
    0x800000000000000000000000000000000000000000000000000000800000 ||| T = T) : WithinOut T s (execTlyFwdHeadWrite n v
    s) := by
  have h : Within T s s := Within.start
  unfold execTlyFwdHeadWrite
  try dsimp only
  repeat' (
    first
      | with_reducible exact h | with_reducible rfl | (with_reducible refine sub_of ?_ hT; decide)
      | with_reducible assumption | with_reducible exact WithinOut.fault _ | with_reducible apply WithinOut.next
      | with_reducible apply setTally_within | with_reducible apply wr_within
      | with_reducible exact allowed_TLY_FWD_HEAD _ (has_of hT (by decide))
      | (with_reducible apply foldl_within; intro _ _ h) | with_reducible apply Within.ite
      | with_reducible apply WithinOut.ite | split | dsimp only)

end Sys2Proof.Machine
end

