-- ==== Sys2Proof/Laws/WithinTimebase.lean ====
section
/-! SUPPORT. The places that the operations of Machine/Timebase.lean may change (Laws/Within.lean). -/

namespace Sys2Proof.Machine

variable {T : Nat} {s0 s : State}

theorem setTbu_within (h : Within T s0 s) (u : Tbu) (hT : 0x20 ||| T = T) : Within T s0 (setTbu s u) := by
  unfold setTbu
  try dsimp only
  repeat' (
    first
      | with_reducible exact h | with_reducible rfl | (with_reducible refine sub_of ?_ hT; decide)
      | with_reducible assumption | (with_reducible apply foldl_within; intro _ _ h)
      | simp only [Within.upd_iff, (has_of hT (by decide) : Has T 5), or_true, true_or, eq_self]
      | with_reducible apply Within.ite | split | dsimp only)

theorem setCorr_within (h : Within T s0 s) (c : Int) (t : Nat) (hT : 0x20 ||| T = T) : Within T s0 (setCorr s c t) :=
    by
  unfold setCorr
  try dsimp only
  repeat' (
    first
      | with_reducible exact h | with_reducible rfl | (with_reducible refine sub_of ?_ hT; decide)
      | with_reducible assumption | with_reducible apply setTbu_within
      | (with_reducible apply foldl_within; intro _ _ h) | with_reducible apply Within.ite | split | dsimp only)

theorem enterQuality_within (h : Within T s0 s) (q : Quality) (t : Nat) (hT :
    0x130000800200000000000000000000000000000000000000000000000000000000000000020000000a78000020 ||| T = T) : Within T
    s0 (enterQuality s q t) := by
  unfold enterQuality
  try dsimp only
  repeat' (
    first
      | with_reducible exact h | with_reducible rfl | (with_reducible refine sub_of ?_ hT; decide)
      | with_reducible assumption | with_reducible apply raise_within | with_reducible apply setTbu_within
      | with_reducible exact allowed_TBU_EVENT (has_of hT (by decide))
      | (with_reducible apply foldl_within; intro _ _ h) | with_reducible apply Within.ite | split | dsimp only)

theorem setSource_within (h : Within T s0 s) (src : Nat) (t : Nat) (hT :
    0x130000800200000000000000000000000000000000000000000000000000000000000000020000000a78000020 ||| T = T) : Within T
    s0 (setSource s src t) := by
  unfold setSource
  try dsimp only
  repeat' (
    first
      | with_reducible exact h | with_reducible rfl | (with_reducible refine sub_of ?_ hT; decide)
      | with_reducible assumption | with_reducible apply setTbu_within | with_reducible apply raise_within
      | with_reducible exact allowed_TBU_EVENT (has_of hT (by decide))
      | (with_reducible apply foldl_within; intro _ _ h) | with_reducible apply Within.ite | split | dsimp only)

theorem stopSlew_within (h : Within T s0 s) (t : Nat) (hT : 0x20 ||| T = T) : Within T s0 (stopSlew s t) := by
  unfold stopSlew
  try dsimp only
  repeat' (
    first
      | with_reducible exact h | with_reducible rfl | (with_reducible refine sub_of ?_ hT; decide)
      | with_reducible assumption | with_reducible apply setTbu_within
      | (with_reducible apply foldl_within; intro _ _ h) | with_reducible apply Within.ite | split | dsimp only)

theorem enterLocked_within (h : Within T s0 s) (t : Nat) (hT :
    0x130000800200000000000000000000000000000000000000000000000000000000000000020000000a78000020 ||| T = T) : Within T
    s0 (enterLocked s t) := by
  unfold enterLocked
  try dsimp only
  repeat' (
    first
      | with_reducible exact h | with_reducible rfl | (with_reducible refine sub_of ?_ hT; decide)
      | with_reducible assumption | with_reducible apply stopSlew_within | with_reducible apply enterQuality_within
      | with_reducible apply setTbu_within | (with_reducible apply foldl_within; intro _ _ h)
      | with_reducible apply Within.ite | split | dsimp only)

theorem slewFrom_within (h : Within T s0 s) (off : Int) (t : Nat) (hT : 0x20 ||| T = T) : Within T s0 (slewFrom s off
    t) := by
  unfold slewFrom
  try dsimp only
  repeat' (
    first
      | with_reducible exact h | with_reducible rfl | (with_reducible refine sub_of ?_ hT; decide)
      | with_reducible assumption | with_reducible apply setTbu_within
      | (with_reducible apply foldl_within; intro _ _ h) | with_reducible apply Within.ite | split | dsimp only)

theorem reacquireWith_within (h : Within T s0 s) (off : Int) (t : Nat) (hT :
    0x130000800200000000000000000000000000000000000000000000000000000000000000020000000a78000020 ||| T = T) : Within T
    s0 (reacquireWith s off t) := by
  unfold reacquireWith
  try dsimp only
  repeat' (
    first
      | with_reducible exact h | with_reducible rfl | (with_reducible refine sub_of ?_ hT; decide)
      | with_reducible assumption | with_reducible apply stopSlew_within | with_reducible apply setTbu_within
      | with_reducible apply raise_within | with_reducible apply slewFrom_within
      | with_reducible exact allowed_TBU_EVENT (has_of hT (by decide))
      | (with_reducible apply foldl_within; intro _ _ h) | with_reducible apply Within.ite | split | dsimp only)

theorem steer_within (h : Within T s0 s) (off : Int) (t : Nat) (hT :
    0x130000800200000000000000000000000000000000000000000000000000000000000000020000000a78000020 ||| T = T) : Within T
    s0 (steer s off t) := by
  unfold steer
  try dsimp only
  repeat' (
    first
      | with_reducible exact h | with_reducible rfl | (with_reducible refine sub_of ?_ hT; decide)
      | with_reducible assumption | with_reducible apply setTbu_within | with_reducible apply setCorr_within
      | with_reducible apply reacquireWith_within | with_reducible apply enterQuality_within
      | with_reducible apply enterLocked_within | (with_reducible apply foldl_within; intro _ _ h)
      | with_reducible apply Within.ite | split | dsimp only)

theorem measured_within (h : Within T s0 s) (off : Int) (t : Nat) (hT :
    0x130000800200000000000000000000000000000000000000000000000000000000000000020000000a78000020 ||| T = T) : Within T
    s0 (measured s off t) := by
  unfold measured
  try dsimp only
  repeat' (
    first
      | with_reducible exact h | with_reducible rfl | (with_reducible refine sub_of ?_ hT; decide)
      | with_reducible assumption | with_reducible apply setTbu_within | with_reducible apply steer_within
      | (with_reducible apply foldl_within; intro _ _ h) | with_reducible apply Within.ite | split | dsimp only)

theorem setEpochRecord_within (h : Within T s0 s) (r : List Word) (hT : 0x780000000000000000000000 ||| T = T) : Within
    T s0 (setEpochRecord s r) := by
  unfold setEpochRecord
  try dsimp only
  repeat' (
    first
      | with_reducible exact h | with_reducible rfl | (with_reducible refine sub_of ?_ hT; decide)
      | with_reducible assumption | with_reducible apply wr_within
      | with_reducible exact allowed_TICK_EPOCH_REC_3 (has_of hT (by decide))
      | with_reducible exact allowed_TICK_EPOCH_REC_2 (has_of hT (by decide))
      | with_reducible exact allowed_TICK_EPOCH_REC_1 (has_of hT (by decide))
      | with_reducible exact allowed_TICK_EPOCH_REC_0 (has_of hT (by decide))
      | (with_reducible apply foldl_within; intro _ _ h) | with_reducible apply Within.ite | split | dsimp only)

theorem latchEpoch_within (h : Within T s0 s) (discont : Bool) (t : Nat) (hT : 0x780000000000000800000010 ||| T = T) :
    Within T s0 (latchEpoch s discont t) := by
  unfold latchEpoch
  try dsimp only
  repeat' (
    first
      | with_reducible exact h | with_reducible rfl | (with_reducible refine sub_of ?_ hT; decide)
      | with_reducible assumption | with_reducible apply setEpochRecord_within | with_reducible apply emit_within
      | (with_reducible apply foldl_within; intro _ _ h)
      | simp only [Within.upd_iff, (has_of hT (by decide) : Has T 4), or_true, true_or, eq_self]
      | with_reducible apply Within.ite | split | dsimp only)

theorem commitEdge_within (h : Within T s0 s) (hT : 0x780000000000000800000010 ||| T = T) : Within T s0 (commitEdge s)
    := by
  unfold commitEdge
  try dsimp only
  repeat' (
    first
      | with_reducible exact h | with_reducible rfl | (with_reducible refine sub_of ?_ hT; decide)
      | with_reducible assumption | with_reducible apply latchEpoch_within
      | (with_reducible apply foldl_within; intro _ _ h)
      | simp only [Within.upd_iff, (has_of hT (by decide) : Has T 4), or_true, true_or, eq_self]
      | with_reducible apply Within.ite | split | dsimp only)

theorem beforeLatch_within (h : Within T s0 s) (t : Nat) (hT : 0x780000000000000800000010 ||| T = T) : Within T s0
    (beforeLatch s t) := by
  unfold beforeLatch
  try dsimp only
  repeat' (
    first
      | with_reducible exact h | with_reducible rfl | (with_reducible refine sub_of ?_ hT; decide)
      | with_reducible assumption | with_reducible apply commitEdge_within
      | with_reducible apply setEpochRecord_within | (with_reducible apply foldl_within; intro _ _ h)
      | simp only [Within.upd_iff, (has_of hT (by decide) : Has T 4), (has_of hT (by decide) : Has T 35), or_true,
          true_or, eq_self]
      | with_reducible apply Within.ite | split | dsimp only)

theorem setTimescale_within (h : Within T s0 s) (off : Int) (t : Nat) (hT :
    0x130000800200000000000000000000000000000000000000000000000000000000000000020000000a78000034 ||| T = T) : Within T
    s0 (setTimescale s off t) := by
  unfold setTimescale
  try dsimp only
  repeat' (
    first
      | with_reducible exact h | with_reducible rfl | (with_reducible refine sub_of ?_ hT; decide)
      | with_reducible assumption | with_reducible apply enterQuality_within
      | (with_reducible apply foldl_within; intro _ _ h)
      | simp only [Within.upd_iff, (has_of hT (by decide) : Has T 2), (has_of hT (by decide) : Has T 4), (has_of
          hT (by decide) : Has T 5), or_true, true_or, eq_self]
      | with_reducible apply Within.ite | split | dsimp only)

theorem holdMeasurement_within (h : Within T s0 s) (src : Nat) (t : Nat) (hT : 0x20 ||| T = T) : Within T s0
    (holdMeasurement s src t) := by
  unfold holdMeasurement
  try dsimp only
  repeat' (
    first
      | with_reducible exact h | with_reducible rfl | (with_reducible refine sub_of ?_ hT; decide)
      | with_reducible assumption | with_reducible apply setTbu_within
      | (with_reducible apply foldl_within; intro _ _ h) | with_reducible apply Within.ite | split | dsimp only)

theorem sourceQualified_within (h : Within T s0 s) (steers : Bool) (t : Nat) (hT :
    0x130000800200000000000000000000000000000000000000000000000000000000000000060000000a78000034 ||| T = T) : Within T
    s0 (sourceQualified s steers t) := by
  unfold sourceQualified
  try dsimp only
  repeat' (
    first
      | with_reducible exact h | with_reducible rfl | (with_reducible refine sub_of ?_ hT; decide)
      | with_reducible assumption | with_reducible apply enterQuality_within | with_reducible apply setSource_within
      | with_reducible apply setTbu_within | with_reducible apply raise_within | with_reducible apply bump_within
      | with_reducible apply measured_within | with_reducible apply holdMeasurement_within
      | with_reducible apply setTimescale_within | with_reducible exact allowed_TBU_EVENT (has_of hT (by decide))
      | with_reducible exact allowed_TBU_BOUND_EXCEED_COUNT (has_of hT (by decide))
      | (with_reducible apply foldl_within; intro _ _ h) | with_reducible apply Within.ite | split | dsimp only)

theorem enterFreewheel_within (h : Within T s0 s) (t : Nat) (hT :
    0x130000800200000000000000000000000000000000000000000000000000000000000000020000001a78000020 ||| T = T) : Within T
    s0 (enterFreewheel s t) := by
  unfold enterFreewheel
  try dsimp only
  repeat' (
    first
      | with_reducible exact h | with_reducible rfl | (with_reducible refine sub_of ?_ hT; decide)
      | with_reducible assumption | with_reducible apply stopSlew_within | with_reducible apply setCorr_within
      | with_reducible apply drawn_within | with_reducible apply setTbu_within
      | with_reducible apply enterQuality_within | (with_reducible apply foldl_within; intro _ _ h)
      | with_reducible apply Within.ite | split | dsimp only)

theorem sourceLost_within (h : Within T s0 s) (t : Nat) (hT :
    0x130000800200000000000000000000000000000000000000000000000000000000000000020000001a78000020 ||| T = T) : Within T
    s0 (sourceLost s t) := by
  unfold sourceLost
  try dsimp only
  repeat' (
    first
      | with_reducible exact h | with_reducible rfl | (with_reducible refine sub_of ?_ hT; decide)
      | with_reducible assumption | with_reducible apply enterFreewheel_within
      | with_reducible apply reacquireWith_within | with_reducible apply enterQuality_within
      | with_reducible apply holdMeasurement_within | with_reducible apply setTbu_within
      | with_reducible apply setSource_within | with_reducible apply slewFrom_within
      | (with_reducible apply foldl_within; intro _ _ h) | with_reducible apply Within.ite | split | dsimp only)

theorem ppsTaken_within (h : Within T s0 s) (t : Nat) (hT :
    0x130000800200000000000000000000000000000000000000000000000000000000780000060000000a78000034 ||| T = T) : Within T
    s0 (ppsTaken s t) := by
  unfold ppsTaken
  try dsimp only
  repeat' (
    first
      | with_reducible exact h | with_reducible rfl | (with_reducible refine sub_of ?_ hT; decide)
      | with_reducible assumption | with_reducible apply setTbu_within | with_reducible apply sourceQualified_within
      | with_reducible apply measured_within | with_reducible apply beforeLatch_within
      | (with_reducible apply foldl_within; intro _ _ h) | with_reducible apply Within.ite | split | dsimp only)

theorem execPpsInEdge_within (falling : Bool) (t : Nat) (hT :
    0x130000800200000000000000000000000000000000000000000000000000000000780000060000000a78000034 ||| T = T) :
    WithinOut T s (execPpsInEdge falling t s) := by
  have h : Within T s s := Within.start
  unfold execPpsInEdge
  try dsimp only
  repeat' (
    first
      | with_reducible exact h | with_reducible rfl | (with_reducible refine sub_of ?_ hT; decide)
      | with_reducible assumption | with_reducible exact WithinOut.fault _ | with_reducible apply WithinOut.next
      | with_reducible apply ppsTaken_within | (with_reducible apply foldl_within; intro _ _ h)
      | with_reducible apply Within.ite | with_reducible apply WithinOut.ite | split | dsimp only)

theorem execPpsInLoss_within (t : Nat) (hT :
    0x130000800200000000000000000000000000000000000000000000000000000000780000020000001a78000030 ||| T = T) :
    WithinOut T s (execPpsInLoss t s) := by
  have h : Within T s s := Within.start
  unfold execPpsInLoss
  try dsimp only
  repeat' (
    first
      | with_reducible exact h | with_reducible rfl | (with_reducible refine sub_of ?_ hT; decide)
      | with_reducible assumption | with_reducible exact WithinOut.fault _ | with_reducible apply WithinOut.next
      | with_reducible apply setTbu_within | with_reducible apply beforeLatch_within
      | with_reducible apply sourceLost_within | (with_reducible apply foldl_within; intro _ _ h)
      | with_reducible apply Within.ite | with_reducible apply WithinOut.ite | split | dsimp only)

theorem execRef10mQualify_within (t : Nat) (hT :
    0x130000800200000000000000000000000000000000000000000000000000000000780000020000000a78000030 ||| T = T) :
    WithinOut T s (execRef10mQualify t s) := by
  have h : Within T s s := Within.start
  unfold execRef10mQualify
  try dsimp only
  repeat' (
    first
      | with_reducible exact h | with_reducible rfl | (with_reducible refine sub_of ?_ hT; decide)
      | with_reducible assumption | with_reducible exact WithinOut.fault _ | with_reducible apply WithinOut.next
      | with_reducible apply setTbu_within | with_reducible apply beforeLatch_within
      | with_reducible apply setSource_within | (with_reducible apply foldl_within; intro _ _ h)
      | with_reducible apply Within.ite | with_reducible apply WithinOut.ite | split | dsimp only)

theorem execRef10mLoss_within (t : Nat) (hT :
    0x130000800200000000000000000000000000000000000000000000000000000000780000020000000a78000030 ||| T = T) :
    WithinOut T s (execRef10mLoss t s) := by
  have h : Within T s s := Within.start
  unfold execRef10mLoss
  try dsimp only
  repeat' (
    first
      | with_reducible exact h | with_reducible rfl | (with_reducible refine sub_of ?_ hT; decide)
      | with_reducible assumption | with_reducible exact WithinOut.fault _ | with_reducible apply WithinOut.next
      | with_reducible apply setTbu_within | with_reducible apply beforeLatch_within
      | with_reducible apply setSource_within | (with_reducible apply foldl_within; intro _ _ h)
      | with_reducible apply Within.ite | with_reducible apply WithinOut.ite | split | dsimp only)

theorem ptpCheck_within (h : Within T s0 s) (t : Nat) (hT :
    0x130000800200000000000000000000000000000000000000000000000000000000780000060000000a78000034 ||| T = T) : Within T
    s0 (ptpCheck s t) := by
  unfold ptpCheck
  try dsimp only
  repeat' (
    first
      | with_reducible exact h | with_reducible rfl | (with_reducible refine sub_of ?_ hT; decide)
      | with_reducible assumption | with_reducible apply beforeLatch_within
      | with_reducible apply sourceQualified_within | with_reducible apply setTbu_within
      | (with_reducible apply foldl_within; intro _ _ h) | with_reducible apply Within.ite | split | dsimp only)

theorem execPtpSyncRx_within (interval : Nat) (rawOffset : Int) (t : Nat) (hT :
    0x130000800200000000000000000000000000000000000000000000000000000000780000060000000a78000034 ||| T = T) :
    WithinOut T s (execPtpSyncRx interval rawOffset t s) := by
  have h : Within T s s := Within.start
  unfold execPtpSyncRx
  try dsimp only
  repeat' (
    first
      | with_reducible exact h | with_reducible rfl | (with_reducible refine sub_of ?_ hT; decide)
      | with_reducible assumption | with_reducible exact WithinOut.fault _ | with_reducible apply WithinOut.next
      | with_reducible apply setTbu_within | with_reducible apply ptpCheck_within
      | (with_reducible apply foldl_within; intro _ _ h) | with_reducible apply Within.ite
      | with_reducible apply WithinOut.ite | split | dsimp only)

theorem execPtpAnnounceRx_within (interval : Nat) (domain : Nat) (traceable : Bool) (clockClass : Nat) (utc : Int)
    (leap61 : Bool) (leap59 : Bool) (t : Nat) (hT :
    0x130000800200000000000000000000000000000000000000000000000000000000780000060000000a78000034 ||| T = T) :
    WithinOut T s (execPtpAnnounceRx interval domain traceable clockClass utc leap61 leap59 t s) := by
  have h : Within T s s := Within.start
  unfold execPtpAnnounceRx
  try dsimp only
  repeat' (
    first
      | with_reducible exact h | with_reducible rfl | (with_reducible refine sub_of ?_ hT; decide)
      | with_reducible assumption | with_reducible exact WithinOut.fault _ | with_reducible apply WithinOut.next
      | with_reducible apply setTbu_within | with_reducible apply ptpCheck_within
      | (with_reducible apply foldl_within; intro _ _ h) | with_reducible apply Within.ite
      | with_reducible apply WithinOut.ite | split | dsimp only)

theorem execPtpLoss_within (t : Nat) (hT :
    0x130000800200000000000000000000000000000000000000000000000000000000780000020000001a78000030 ||| T = T) :
    WithinOut T s (execPtpLoss t s) := by
  have h : Within T s s := Within.start
  unfold execPtpLoss
  try dsimp only
  repeat' (
    first
      | with_reducible exact h | with_reducible rfl | (with_reducible refine sub_of ?_ hT; decide)
      | with_reducible assumption | with_reducible exact WithinOut.fault _ | with_reducible apply WithinOut.next
      | with_reducible apply setTbu_within | with_reducible apply beforeLatch_within
      | with_reducible apply sourceLost_within | (with_reducible apply foldl_within; intro _ _ h)
      | with_reducible apply Within.ite | with_reducible apply WithinOut.ite | split | dsimp only)

theorem execPtpMeasurement_within (t : Nat) (hT :
    0x130000800200000000000000000000000000000000000000000000000000000000780000020000001a78000030 ||| T = T) :
    WithinOut T s (execPtpMeasurement t s) := by
  have h : Within T s s := Within.start
  unfold execPtpMeasurement
  try dsimp only
  repeat' (
    first
      | with_reducible exact h | with_reducible rfl | (with_reducible refine sub_of ?_ hT; decide)
      | with_reducible assumption | with_reducible exact WithinOut.fault _ | with_reducible apply WithinOut.next
      | with_reducible apply setTbu_within | with_reducible apply drawn_within
      | with_reducible apply beforeLatch_within | with_reducible apply measured_within
      | (with_reducible apply foldl_within; intro _ _ h) | with_reducible apply Within.ite
      | with_reducible apply WithinOut.ite | split | dsimp only)

theorem execRevertHoldOffExpiry_within (t : Nat) (hT :
    0x130000800200000000000000000000000000000000000000000000000000000000780000020000000a78000030 ||| T = T) :
    WithinOut T s (execRevertHoldOffExpiry t s) := by
  have h : Within T s s := Within.start
  unfold execRevertHoldOffExpiry
  try dsimp only
  repeat' (
    first
      | with_reducible exact h | with_reducible rfl | (with_reducible refine sub_of ?_ hT; decide)
      | with_reducible assumption | with_reducible exact WithinOut.fault _ | with_reducible apply WithinOut.next
      | with_reducible apply beforeLatch_within | with_reducible apply setSource_within
      | (with_reducible apply foldl_within; intro _ _ h) | with_reducible apply Within.ite
      | with_reducible apply WithinOut.ite | split | dsimp only)

theorem execUntraceableEntry_within (t : Nat) (hT :
    0x130000800200000000000000000000000000000000000000000000000000000000780000020000000a78000030 ||| T = T) :
    WithinOut T s (execUntraceableEntry t s) := by
  have h : Within T s s := Within.start
  unfold execUntraceableEntry
  try dsimp only
  repeat' (
    first
      | with_reducible exact h | with_reducible rfl | (with_reducible refine sub_of ?_ hT; decide)
      | with_reducible assumption | with_reducible exact WithinOut.fault _ | with_reducible apply WithinOut.next
      | with_reducible apply beforeLatch_within | with_reducible apply enterQuality_within
      | (with_reducible apply foldl_within; intro _ _ h) | with_reducible apply Within.ite
      | with_reducible apply WithinOut.ite | split | dsimp only)

theorem execLabelSubmit_within (hi : Word) (hT : 0x80000000000000020 ||| T = T) : WithinOut T s (execLabelSubmit hi s)
    := by
  have h : Within T s s := Within.start
  unfold execLabelSubmit
  try dsimp only
  repeat' (
    first
      | with_reducible exact h | with_reducible rfl | (with_reducible refine sub_of ?_ hT; decide)
      | with_reducible assumption | with_reducible exact WithinOut.fault _ | with_reducible apply WithinOut.next
      | with_reducible apply bump_within | with_reducible apply setTbu_within
      | with_reducible exact allowed_TBU_LABEL_IGNORED_COUNT (has_of hT (by decide))
      | (with_reducible apply foldl_within; intro _ _ h) | with_reducible apply Within.ite
      | with_reducible apply WithinOut.ite | split | dsimp only)

theorem execSnap_within (t : Nat) (hT : 0x20 ||| T = T) : WithinOut T s (execSnap t s) := by
  have h : Within T s s := Within.start
  unfold execSnap
  try dsimp only
  repeat' (
    first
      | with_reducible exact h | with_reducible rfl | (with_reducible refine sub_of ?_ hT; decide)
      | with_reducible assumption | with_reducible exact WithinOut.fault _ | with_reducible apply WithinOut.next
      | with_reducible apply setTbu_within | (with_reducible apply foldl_within; intro _ _ h)
      | with_reducible apply Within.ite | with_reducible apply WithinOut.ite | split | dsimp only)

theorem execPpsOutRise_within (t : Nat) (hT : 0x800000000 ||| T = T) : WithinOut T s (execPpsOutRise t s) := by
  have h : Within T s s := Within.start
  unfold execPpsOutRise
  try dsimp only
  repeat' (
    first
      | with_reducible exact h | with_reducible rfl | (with_reducible refine sub_of ?_ hT; decide)
      | with_reducible assumption | with_reducible exact WithinOut.fault _ | with_reducible apply WithinOut.next
      | with_reducible apply emit_within | (with_reducible apply foldl_within; intro _ _ h)
      | with_reducible apply Within.ite | with_reducible apply WithinOut.ite | split | dsimp only)

theorem execLeapSecond_within (hT : 0x20 ||| T = T) : WithinOut T s (execLeapSecond s) := by
  have h : Within T s s := Within.start
  unfold execLeapSecond
  try dsimp only
  repeat' (
    first
      | with_reducible exact h | with_reducible rfl | (with_reducible refine sub_of ?_ hT; decide)
      | with_reducible assumption | with_reducible exact WithinOut.fault _ | with_reducible apply WithinOut.next
      | with_reducible apply setTbu_within | (with_reducible apply foldl_within; intro _ _ h)
      | with_reducible apply Within.ite | with_reducible apply WithinOut.ite | split | dsimp only)

theorem slewTick_within (h : Within T s0 s) (hT : 0x20 ||| T = T) : Within T s0 (slewTick s) := by
  unfold slewTick
  try dsimp only
  repeat' (
    first
      | with_reducible exact h | with_reducible rfl | (with_reducible refine sub_of ?_ hT; decide)
      | with_reducible assumption | with_reducible apply setTbu_within
      | (with_reducible apply foldl_within; intro _ _ h) | with_reducible apply Within.ite | split | dsimp only)

theorem applyStep_within (h : Within T s0 s) (t : Nat) (hT :
    0x130000800200000000000000000000000000000000000000000000000000000000000000020000001a78000020 ||| T = T) : Within T
    s0 (applyStep s t).2 := by
  unfold applyStep
  try dsimp only
  repeat' (
    first
      | with_reducible exact h | with_reducible rfl | (with_reducible refine sub_of ?_ hT; decide)
      | with_reducible assumption | with_reducible apply setTbu_within | with_reducible apply drawn_within
      | with_reducible apply raise_within | with_reducible exact allowed_TBU_EVENT (has_of hT (by decide))
      | (with_reducible apply foldl_within; intro _ _ h) | (with_reducible apply foldl_fst_within; intro _ _ h)
      | (with_reducible apply foldl_snd_within; intro _ _ h) | with_reducible apply Within.ite | split | dsimp only)

theorem useDeferred_within (h : Within T s0 s) (t : Nat) (hT :
    0x130000800200000000000000000000000000000000000000000000000000000000000000020000000a78000020 ||| T = T) : Within T
    s0 (useDeferred s t) := by
  unfold useDeferred
  try dsimp only
  repeat' (
    first
      | with_reducible exact h | with_reducible rfl | (with_reducible refine sub_of ?_ hT; decide)
      | with_reducible assumption | with_reducible apply steer_within | with_reducible apply setTbu_within
      | (with_reducible apply foldl_within; intro _ _ h) | with_reducible apply Within.ite | split | dsimp only)

end Sys2Proof.Machine
end

