-- ==== Sys2Proof/Laws/WithinBoot.lean ====
section
/-! SUPPORT. The places that the operations of Machine/Boot.lean may change (Laws/Within.lean). -/

namespace Sys2Proof.Machine

variable {T : Nat} {s0 s : State}

theorem setBoot_within (h : Within T s0 s) (b : Boot) (hT : 0x4 ||| T = T) : Within T s0 (setBoot s b) := by
  unfold setBoot
  try dsimp only
  repeat' (
    first
      | with_reducible exact h | with_reducible rfl | (with_reducible refine sub_of ?_ hT; decide)
      | with_reducible assumption | (with_reducible apply foldl_within; intro _ _ h)
      | simp only [Within.upd_iff, (has_of hT (by decide) : Has T 2), or_true, true_or, eq_self]
      | with_reducible apply Within.ite | split | dsimp only)

theorem setStraps_within (h : Within T s0 s) (x : Straps) (hT : 0x2 ||| T = T) : Within T s0 (setStraps s x) := by
  unfold setStraps
  try dsimp only
  repeat' (
    first
      | with_reducible exact h | with_reducible rfl | (with_reducible refine sub_of ?_ hT; decide)
      | with_reducible assumption | (with_reducible apply foldl_within; intro _ _ h)
      | simp only [Within.upd_iff, (has_of hT (by decide) : Has T 1), or_true, true_or, eq_self]
      | with_reducible apply Within.ite | split | dsimp only)

theorem setFuses_within (h : Within T s0 s) (x : Fuses) (hT : 0x8 ||| T = T) : Within T s0 (setFuses s x) := by
  unfold setFuses
  try dsimp only
  repeat' (
    first
      | with_reducible exact h | with_reducible rfl | (with_reducible refine sub_of ?_ hT; decide)
      | with_reducible assumption | (with_reducible apply foldl_within; intro _ _ h)
      | simp only [Within.upd_iff, (has_of hT (by decide) : Has T 3), or_true, true_or, eq_self]
      | with_reducible apply Within.ite | split | dsimp only)

theorem clearAll_within (h : Within T s0 s) (causes : Word) (hT : 0x100000000000000000000000000000000000000000000000000000000000000000000000000000000000000000000fb7ffffffff4 ||| T = T) : Within T s0 (clearAll s causes) := by
  have h1 : ∀ (f : State), f = State.fresh s.build s.straps s.fuses s.mems.flash s.mems.host → ∀ (hf : HostIf),
      Within T s { f with
        host := hf, regs := SMap.put f.regs Reg.PWR_RESET_CAUSE causes, out := s.out, free := s.free
        pending := s.pending } := by
    intro f hf hh
    subst hf
    constructor
    all_goals first
      | exact fun a => .inl (allowed_anyRegister a (has_of hT (by decide)))
      | exact Or.inl (has_of hT (by decide))
      | exact Or.inr rfl
  unfold clearAll
  exact h.trans (Within.ite (h1 _ rfl _) (emit_within (h1 _ rfl _) _ (sub_of (by decide) hT)))

theorem moduleReset_within (h : Within T s0 s) (own : Nat) (hT :
    0x100000000000000000000000000000000000000000000000000000000000000000000000000000000000000000000fb7ffffffff4 ||| T
    = T) : Within T s0 (moduleReset s own) := by
  unfold moduleReset
  try dsimp only
  repeat' (
    first
      | with_reducible exact h | with_reducible rfl | (with_reducible refine sub_of ?_ hT; decide)
      | with_reducible assumption | with_reducible apply clearAll_within | with_reducible apply setBoot_within
      | (with_reducible apply foldl_within; intro _ _ h) | with_reducible apply Within.ite | split | dsimp only)

theorem execPowerOn_within (hT :
    0x100000000000000000000000000000000000000000000000000000000000000000000000000000000000000000000fb7ffffffff4 ||| T
    = T) : WithinOut T s (execPowerOn s) := by
  have h : Within T s s := Within.start
  unfold execPowerOn
  try dsimp only
  repeat' (
    first
      | with_reducible exact h | with_reducible rfl | (with_reducible refine sub_of ?_ hT; decide)
      | with_reducible assumption | with_reducible exact WithinOut.fault _ | with_reducible apply WithinOut.next
      | with_reducible apply clearAll_within | with_reducible apply setBoot_within
      | (with_reducible apply foldl_within; intro _ _ h) | with_reducible apply Within.ite
      | with_reducible apply WithinOut.ite | split | dsimp only)

theorem execResetNAssert_within (lowNs : Nat) (hT :
    0x100000000000000000000000000000000000000000000000000000000000000000000000000000000000000000000fb7ffffffff4 ||| T
    = T) : WithinOut T s (execResetNAssert lowNs s) := by
  have h : Within T s s := Within.start
  unfold execResetNAssert
  try dsimp only
  repeat' (
    first
      | with_reducible exact h | with_reducible rfl | (with_reducible refine sub_of ?_ hT; decide)
      | with_reducible assumption | with_reducible exact WithinOut.fault _ | with_reducible apply WithinOut.next
      | with_reducible apply moduleReset_within | with_reducible apply setBoot_within
      | (with_reducible apply foldl_within; intro _ _ h) | with_reducible apply Within.ite
      | with_reducible apply WithinOut.ite | split | dsimp only)

theorem execRailProtectReset_within (hT :
    0x100000000000000000000000000000000000000000000000000000000000000000000000000000000000000000000fb7ffffffff4 ||| T
    = T) : WithinOut T s (execRailProtectReset s) := by
  have h : Within T s s := Within.start
  unfold execRailProtectReset
  try dsimp only
  repeat' (
    first
      | with_reducible exact h | with_reducible rfl | (with_reducible refine sub_of ?_ hT; decide)
      | with_reducible assumption | with_reducible exact WithinOut.fault _ | with_reducible apply WithinOut.next
      | with_reducible apply moduleReset_within | with_reducible apply setBoot_within
      | (with_reducible apply foldl_within; intro _ _ h) | with_reducible apply Within.ite
      | with_reducible apply WithinOut.ite | split | dsimp only)

theorem execThermalTrip_within (hT :
    0x100000000000000000000000000000000000000000000000000000000000000000000000000000000000000000000fb7ffffffff4 ||| T
    = T) : WithinOut T s (execThermalTrip s) := by
  have h : Within T s s := Within.start
  unfold execThermalTrip
  try dsimp only
  repeat' (
    first
      | with_reducible exact h | with_reducible rfl | (with_reducible refine sub_of ?_ hT; decide)
      | with_reducible assumption | with_reducible exact WithinOut.fault _ | with_reducible apply WithinOut.next
      | with_reducible apply moduleReset_within | with_reducible apply emit_within
      | with_reducible apply setBoot_within | (with_reducible apply foldl_within; intro _ _ h)
      | with_reducible apply Within.ite | with_reducible apply WithinOut.ite | split | dsimp only)

theorem setSlotCode_within (h : Within T s0 s) (k : Nat) (code : Nat) (hT :
    0x20000000000000000000000000000000000000000000000000000000000000000000000000000000000000000000 ||| T = T) : Within
    T s0 (setSlotCode s k code) := by
  unfold setSlotCode
  try dsimp only
  repeat' (
    first
      | with_reducible exact h | with_reducible rfl | (with_reducible refine sub_of ?_ hT; decide)
      | with_reducible assumption | with_reducible apply wr_within
      | with_reducible exact allowed_HST_BOOT_FAIL (has_of hT (by decide))
      | (with_reducible apply foldl_within; intro _ _ h) | with_reducible apply Within.ite | split | dsimp only)

theorem bootFail_within (h : Within T s0 s) (t : Nat) (hT :
    0x130000800200000000000000000000000000000000000000000000000000000000000000000000001a78000004 ||| T = T) : Within T
    s0 (bootFail s t) := by
  unfold bootFail
  try dsimp only
  repeat' (
    first
      | with_reducible exact h | with_reducible rfl | (with_reducible refine sub_of ?_ hT; decide)
      | with_reducible assumption | with_reducible apply raiseIn_within | with_reducible apply setPhase_within
      | (with_reducible apply foldl_within; intro _ _ h) | with_reducible apply Within.ite | split | dsimp only)

theorem flashDead_within (h : Within T s0 s) (t : Nat) (hT :
    0x20130000800200000000000000000000000000000000000000000000000000000000000000000000001a78000004 ||| T = T) : Within
    T s0 (flashDead s t) := by
  unfold flashDead
  try dsimp only
  repeat' (
    first
      | with_reducible exact h | with_reducible rfl | (with_reducible refine sub_of ?_ hT; decide)
      | with_reducible assumption | with_reducible apply bootFail_within | with_reducible apply wr_within
      | with_reducible apply setBoot_within | with_reducible exact allowed_HST_BOOT_FAIL (has_of hT (by decide))
      | (with_reducible apply foldl_within; intro _ _ h) | with_reducible apply Within.ite | split | dsimp only)

theorem directoryCodes_within (h : Within T s0 s) (hT :
    0x20000000000000000000000000000000000000000000000000000000000000000000000000000000000000000000 ||| T = T) : Within
    T s0 (directoryCodes s) := by
  unfold directoryCodes
  try dsimp only
  repeat' (
    first
      | with_reducible exact h | with_reducible rfl | (with_reducible refine sub_of ?_ hT; decide)
      | with_reducible assumption | with_reducible apply setSlotCode_within
      | (with_reducible apply foldl_within; intro _ _ h) | with_reducible apply Within.ite | split | dsimp only)

theorem startSlot_within (h : Within T s0 s) (t : Nat) (hT :
    0x40130000800200000000000000000000000000000000000000000000000000000000000000000000041a78000004 ||| T = T) : Within
    T s0 (startSlot s t) := by
  unfold startSlot
  try dsimp only
  repeat' (
    first
      | with_reducible exact h | with_reducible rfl | (with_reducible refine sub_of ?_ hT; decide)
      | with_reducible assumption | with_reducible apply bootFail_within
      | with_reducible apply rewriteDirectory_within | with_reducible apply setBoot_within
      | with_reducible apply setPhase_within | with_reducible apply wr_within
      | with_reducible exact allowed_HST_IMAGE_SEQ (has_of hT (by decide))
      | (with_reducible apply foldl_within; intro _ _ h) | with_reducible apply Within.ite | split | dsimp only)

theorem slotFail_within (h : Within T s0 s) (code : Nat) (t : Nat) (hT :
    0x60130000800200000000000000000000000000000000000000000000000000000000000000000000041a78001004 ||| T = T) : Within
    T s0 (slotFail s code t) := by
  unfold slotFail
  try dsimp only
  repeat' (
    first
      | with_reducible exact h | with_reducible rfl | (with_reducible refine sub_of ?_ hT; decide)
      | with_reducible assumption | with_reducible apply setSlotCode_within | with_reducible apply bootFail_within
      | with_reducible apply startSlot_within | with_reducible apply raiseIn_within
      | (with_reducible apply foldl_within; intro _ _ h)
      | simp only [Within.upd_iff, (has_of hT (by decide) : Has T 2), (has_of hT (by decide) : Has T 12), or_true,
          true_or, eq_self]
      | with_reducible apply Within.ite | split | dsimp only)

theorem releaseBoot_within (h : Within T s0 s) (g1 : Bool) (bootSel : Nat) (modId : Nat) (sfdpOk : Bool) (t : Nat) (hT
    : 0x100000000000060130000800200000000000000000000000000000000000000000000000000000000000000000000ff7ffffffff6 |||
    T = T) : Within T s0 (releaseBoot s g1 bootSel modId sfdpOk t) := by
  unfold releaseBoot
  try dsimp only
  repeat' (
    first
      | with_reducible exact h | with_reducible rfl | (with_reducible refine sub_of ?_ hT; decide)
      | with_reducible assumption | with_reducible apply clearAll_within | with_reducible apply setStraps_within
      | with_reducible apply setBoot_within | with_reducible apply flashDead_within
      | with_reducible apply directoryCodes_within | with_reducible apply startSlot_within
      | (with_reducible apply foldl_within; intro _ _ h) | with_reducible apply Within.ite | split | dsimp only)

theorem execResetRelease_within (g1 : Bool) (bootSel : Nat) (modId : Nat) (sfdpOk : Bool) (t : Nat) (hT :
    0x100000000000060130000800200000000000000000000000000000000000000000000000000000000000000000000ff7ffffffff6 ||| T
    = T) : WithinOut T s (execResetRelease g1 bootSel modId sfdpOk t s) := by
  have h : Within T s s := Within.start
  unfold execResetRelease
  try dsimp only
  repeat' (
    first
      | with_reducible exact h | with_reducible rfl | (with_reducible refine sub_of ?_ hT; decide)
      | with_reducible assumption | with_reducible exact WithinOut.fault _ | with_reducible apply WithinOut.next
      | with_reducible apply setBoot_within | with_reducible apply releaseBoot_within
      | (with_reducible apply foldl_within; intro _ _ h) | with_reducible apply Within.ite
      | with_reducible apply WithinOut.ite | split | dsimp only)

theorem execRailHoldRelease_within (g1 : Bool) (bootSel : Nat) (modId : Nat) (sfdpOk : Bool) (t : Nat) (hT :
    0x100000000000060130000800200000000000000000000000000000000000000000000000000000000000000000000ff7ffffffff6 ||| T
    = T) : WithinOut T s (execRailHoldRelease g1 bootSel modId sfdpOk t s) := by
  have h : Within T s s := Within.start
  unfold execRailHoldRelease
  try dsimp only
  repeat' (
    first
      | with_reducible exact h | with_reducible rfl | (with_reducible refine sub_of ?_ hT; decide)
      | with_reducible assumption | with_reducible exact WithinOut.fault _ | with_reducible apply WithinOut.next
      | with_reducible apply setBoot_within | with_reducible apply releaseBoot_within
      | (with_reducible apply foldl_within; intro _ _ h) | with_reducible apply Within.ite
      | with_reducible apply WithinOut.ite | split | dsimp only)

theorem execThermalHoldRelease_within (g1 : Bool) (bootSel : Nat) (modId : Nat) (sfdpOk : Bool) (t : Nat) (hT :
    0x100000000000060130000800200000000000000000000000000000000000000000000000000000000000000000000ff7ffffffff6 ||| T
    = T) : WithinOut T s (execThermalHoldRelease g1 bootSel modId sfdpOk t s) := by
  have h : Within T s s := Within.start
  unfold execThermalHoldRelease
  try dsimp only
  repeat' (
    first
      | with_reducible exact h | with_reducible rfl | (with_reducible refine sub_of ?_ hT; decide)
      | with_reducible assumption | with_reducible exact WithinOut.fault _ | with_reducible apply WithinOut.next
      | with_reducible apply emit_within | with_reducible apply setBoot_within
      | with_reducible apply releaseBoot_within | (with_reducible apply foldl_within; intro _ _ h)
      | with_reducible apply Within.ite | with_reducible apply WithinOut.ite | split | dsimp only)

theorem execFlashReadTimeout_within (t : Nat) (hT :
    0x20130000800200000000000000000000000000000000000000000000000000000000000000000000001a78000004 ||| T = T) :
    WithinOut T s (execFlashReadTimeout t s) := by
  have h : Within T s s := Within.start
  unfold execFlashReadTimeout
  try dsimp only
  repeat' (
    first
      | with_reducible exact h | with_reducible rfl | (with_reducible refine sub_of ?_ hT; decide)
      | with_reducible assumption | with_reducible exact WithinOut.fault _ | with_reducible apply WithinOut.next
      | with_reducible apply flashDead_within | (with_reducible apply foldl_within; intro _ _ h)
      | with_reducible apply Within.ite | with_reducible apply WithinOut.ite | split | dsimp only)

theorem freezeMeasurements_within (h : Within T s0 s) (k : Nat) (digest : List Byte) (hT :
    0x1000000000000000000000000000000000000000000000000000000000000000000000000000000000000004000000 ||| T = T) :
    Within T s0 (freezeMeasurements s k digest) := by
  unfold freezeMeasurements
  try dsimp only
  repeat' (
    first
      | with_reducible exact h | with_reducible rfl | (with_reducible refine sub_of ?_ hT; decide)
      | with_reducible assumption | with_reducible apply wr_within
      | with_reducible exact allowed_HST_IMAGE_DIGEST _ (has_of hT (by decide))
      | (with_reducible apply foldl_within; intro _ _ h)
      | simp only [Within.upd_iff, (has_of hT (by decide) : Has T 26), or_true, true_or, eq_self]
      | with_reducible apply Within.ite | split | dsimp only)

theorem execImageReadComplete_within (pub : List Byte) (t : Nat) (hT :
    0x1860130000800200000000000000000000000000000000000000000000000000000000000000000000041a7c001004 ||| T = T) :
    WithinOut T s (execImageReadComplete pub t s) := by
  have h : Within T s s := Within.start
  unfold execImageReadComplete
  try dsimp only
  repeat' (
    first
      | with_reducible exact h | with_reducible rfl | (with_reducible refine sub_of ?_ hT; decide)
      | with_reducible assumption | with_reducible exact WithinOut.fault _ | with_reducible apply WithinOut.next
      | with_reducible apply setPhase_within | with_reducible apply slotFail_within
      | with_reducible apply freezeMeasurements_within | with_reducible apply wr_within
      | with_reducible apply setBoot_within | with_reducible exact allowed_HST_SVN (has_of hT (by decide))
      | (with_reducible apply foldl_within; intro _ _ h) | with_reducible apply Within.ite
      | with_reducible apply WithinOut.ite | split | dsimp only)

theorem portsAtLoad_within (h : Within T s0 s) (hT : 0x40000 ||| T = T) : Within T s0 (portsAtLoad s) := by
  unfold portsAtLoad
  try dsimp only
  repeat' (
    first
      | with_reducible exact h | with_reducible rfl | (with_reducible refine sub_of ?_ hT; decide)
      | with_reducible assumption | with_reducible apply setPort_within
      | (with_reducible apply foldl_within; intro _ _ h) | with_reducible apply Within.ite | split | dsimp only)

theorem execLoadComplete_within (hT :
    0x100400000000000130180800300000000000000000000000000000000000000000000002040000020000000000000180a7b553094 ||| T
    = T) : WithinOut T s (execLoadComplete s) := by
  have h : Within T s s := Within.start
  unfold execLoadComplete
  try dsimp only
  repeat' (
    first
      | with_reducible exact h | with_reducible rfl | (with_reducible refine sub_of ?_ hT; decide)
      | with_reducible assumption | with_reducible exact WithinOut.fault _ | with_reducible apply WithinOut.next
      | with_reducible apply loadImage_within | with_reducible apply setBoot_within
      | with_reducible apply portsAtLoad_within | with_reducible apply recoverLog_within
      | with_reducible apply setPhase_within | (with_reducible apply foldl_within; intro _ _ h)
      | simp only [Within.upd_iff, (has_of hT (by decide) : Has T 12), or_true, true_or, eq_self]
      | with_reducible apply Within.ite | with_reducible apply WithinOut.ite | split | dsimp only)

theorem openWindow_within (h : Within T s0 s) (hT : 0xa00000004 ||| T = T) : Within T s0 (openWindow s) := by
  unfold openWindow
  try dsimp only
  repeat' (
    first
      | with_reducible exact h | with_reducible rfl | (with_reducible refine sub_of ?_ hT; decide)
      | with_reducible assumption | with_reducible apply setPhase_within
      | (with_reducible apply foldl_within; intro _ _ h) | with_reducible apply Within.ite | split | dsimp only)

theorem execHwTrainingComplete_within (failed : Nat) (t : Nat) (hT :
    0x400130000800200000000000000000000000000000000000000000000000000000000000000000000001a78000004 ||| T = T) :
    WithinOut T s (execHwTrainingComplete failed t s) := by
  have h : Within T s s := Within.start
  unfold execHwTrainingComplete
  try dsimp only
  repeat' (
    first
      | with_reducible exact h | with_reducible rfl | (with_reducible refine sub_of ?_ hT; decide)
      | with_reducible assumption | with_reducible exact WithinOut.fault _ | with_reducible apply WithinOut.next
      | with_reducible apply openWindow_within | with_reducible apply setBoot_within
      | with_reducible apply raiseIn_within | with_reducible apply setPhase_within | with_reducible apply wr_within
      | with_reducible exact allowed_HST_BOOT_HWFAIL (has_of hT (by decide))
      | (with_reducible apply foldl_within; intro _ _ h) | with_reducible apply Within.ite
      | with_reducible apply WithinOut.ite | split | dsimp only)

theorem execFwInitBudgetExpiry_within (t : Nat) (hT :
    0x601300008002000000000000000000000000000000000000000000000000000000480000000000000c1a78001004 ||| T = T) :
    WithinOut T s (execFwInitBudgetExpiry t s) := by
  have h : Within T s s := Within.start
  unfold execFwInitBudgetExpiry
  try dsimp only
  repeat' (
    first
      | with_reducible exact h | with_reducible rfl | (with_reducible refine sub_of ?_ hT; decide)
      | with_reducible assumption | with_reducible exact WithinOut.fault _ | with_reducible apply WithinOut.next
      | with_reducible apply slotFail_within | with_reducible apply restartFailed_within
      | (with_reducible apply foldl_within; intro _ _ h) | with_reducible apply Within.ite
      | with_reducible apply WithinOut.ite | split | dsimp only)

theorem execSupReady_within (ready : Bool) (hT : 0xa00001004 ||| T = T) : WithinOut T s (execSupReady ready s) := by
  have h : Within T s s := Within.start
  unfold execSupReady
  try dsimp only
  repeat' (
    first
      | with_reducible exact h | with_reducible rfl | (with_reducible refine sub_of ?_ hT; decide)
      | with_reducible assumption | with_reducible exact WithinOut.fault _ | with_reducible apply WithinOut.next
      | with_reducible apply openWindow_within | with_reducible apply setBoot_within
      | (with_reducible apply foldl_within; intro _ _ h)
      | simp only [Within.upd_iff, (has_of hT (by decide) : Has T 12), or_true, true_or, eq_self]
      | with_reducible apply Within.ite | with_reducible apply WithinOut.ite | split | dsimp only)

theorem armFirstTick_within (h : Within T s0 s) (t : Nat) (hT : 0x14 ||| T = T) : Within T s0 (armFirstTick s t) := by
  unfold armFirstTick
  try dsimp only
  repeat' (
    first
      | with_reducible exact h | with_reducible rfl | (with_reducible refine sub_of ?_ hT; decide)
      | with_reducible assumption | with_reducible apply setBoot_within
      | (with_reducible apply foldl_within; intro _ _ h)
      | simp only [Within.upd_iff, (has_of hT (by decide) : Has T 4), or_true, true_or, eq_self]
      | with_reducible apply Within.ite | split | dsimp only)

theorem configLock_within (h : Within T s0 s) (t : Nat) (hT :
    0x13000080020000000000000000000000c000000000000000000000000000110000000000000000000a7c002014 ||| T = T) : Within T
    s0 (configLock s t) := by
  unfold configLock
  try dsimp only
  repeat' (
    first
      | with_reducible exact h | with_reducible rfl | (with_reducible refine sub_of ?_ hT; decide)
      | with_reducible assumption | with_reducible apply setBoot_within | with_reducible apply wr_within
      | with_reducible apply checkAreas_within | with_reducible apply raiseAlarms_within
      | with_reducible apply setPhase_within | with_reducible apply armFirstTick_within
      | with_reducible exact allowed_FENCE_EGRESS_CAP _ (has_of hT (by decide))
      | with_reducible exact allowed_FENCE_PART_ACTIVE (has_of hT (by decide))
      | (with_reducible apply foldl_within; intro _ _ h)
      | simp only [Within.upd_iff, (has_of hT (by decide) : Has T 13), (has_of hT (by decide) : Has T 26),
          or_true, true_or, eq_self]
      | with_reducible apply Within.ite | split | dsimp only)

theorem execConfigLock_within (t : Nat) (hT :
    0x13000080020000000000000000000000c000000000000000000000000000110000000000000000000a7c002014 ||| T = T) :
    WithinOut T s (execConfigLock t s) := by
  have h : Within T s s := Within.start
  unfold execConfigLock
  try dsimp only
  repeat' (
    first
      | with_reducible exact h | with_reducible rfl | (with_reducible refine sub_of ?_ hT; decide)
      | with_reducible assumption | with_reducible exact WithinOut.fault _ | with_reducible apply WithinOut.next
      | with_reducible apply configLock_within | (with_reducible apply foldl_within; intro _ _ h)
      | with_reducible apply Within.ite | with_reducible apply WithinOut.ite | split | dsimp only)

theorem execLockWindowExpiry_within (t : Nat) (hT :
    0x13000080020000000000000000000000c000000000000000000000000000110000000000000000000a7c002014 ||| T = T) :
    WithinOut T s (execLockWindowExpiry t s) := by
  have h : Within T s s := Within.start
  unfold execLockWindowExpiry
  try dsimp only
  repeat' (
    first
      | with_reducible exact h | with_reducible rfl | (with_reducible refine sub_of ?_ hT; decide)
      | with_reducible assumption | with_reducible exact WithinOut.fault _ | with_reducible apply WithinOut.next
      | with_reducible apply configLock_within | (with_reducible apply foldl_within; intro _ _ h)
      | with_reducible apply Within.ite | with_reducible apply WithinOut.ite | split | dsimp only)

theorem execConfirm_within (hT :
    0x80000000000000000000000000000000000000000000000000000000000000000000000000000000004000000000c ||| T = T) :
    WithinOut T s (execConfirm s) := by
  have h : Within T s s := Within.start
  unfold execConfirm
  try dsimp only
  repeat' (
    first
      | with_reducible exact h | with_reducible rfl | (with_reducible refine sub_of ?_ hT; decide)
      | with_reducible assumption | with_reducible exact WithinOut.fault _ | with_reducible apply WithinOut.next
      | with_reducible apply rewriteDirectory_within | with_reducible apply setFuses_within
      | with_reducible apply setBoot_within | with_reducible apply wr_within
      | with_reducible exact allowed_HST_SVN (has_of hT (by decide))
      | (with_reducible apply foldl_within; intro _ _ h) | with_reducible apply Within.ite
      | with_reducible apply WithinOut.ite | split | dsimp only)

end Sys2Proof.Machine
end

