-- ==== Sys2Proof/Laws/WithinPower.lean ====
section
/-! SUPPORT. The places that the operations of Machine/Power.lean may change (Laws/Within.lean). -/

namespace Sys2Proof.Machine

variable {T : Nat} {s0 s : State}

theorem setPower_within (h : Within T s0 s) (p : Power) (hT : 0x8000000 ||| T = T) : Within T s0 (setPower s p) := by
  unfold setPower
  try dsimp only
  repeat' (
    first
      | with_reducible exact h | with_reducible rfl | (with_reducible refine sub_of ?_ hT; decide)
      | with_reducible assumption | (with_reducible apply foldl_within; intro _ _ h)
      | simp only [Within.upd_iff, (has_of hT (by decide) : Has T 27), or_true, true_or, eq_self]
      | with_reducible apply Within.ite | split | dsimp only)

theorem pwrEvent_within (h : Within T s0 s) (bit : Nat) (t : Nat) (hT :
    0x10000130000800200000000000000000000000000000000000000000000000000000000000000000000000a78000000 ||| T = T) :
    Within T s0 (pwrEvent s bit t) := by
  unfold pwrEvent
  try dsimp only
  repeat' (
    first
      | with_reducible exact h | with_reducible rfl | (with_reducible refine sub_of ?_ hT; decide)
      | with_reducible assumption | with_reducible apply raise_within
      | with_reducible exact allowed_PWR_EVENT (has_of hT (by decide))
      | (with_reducible apply foldl_within; intro _ _ h) | with_reducible apply Within.ite | split | dsimp only)

theorem execPwrLimitWrite_within (v : Word) (src : Requester) (t : Nat) (hT :
    0x400013000080020000000000000000000000000000000000000000000000001f807000000000000000000a78002000 ||| T = T) :
    WithinOut T s (execPwrLimitWrite v src t s) := by
  have h : Within T s s := Within.start
  unfold execPwrLimitWrite
  try dsimp only
  repeat' (
    first
      | with_reducible exact h | with_reducible rfl | (with_reducible refine sub_of ?_ hT; decide)
      | with_reducible assumption | with_reducible exact WithinOut.fault _ | with_reducible apply WithinOut.next
      | with_reducible apply wr_within | with_reducible apply fenceRefuse_within
      | with_reducible exact allowed_PWR_LIMIT (has_of hT (by decide))
      | (with_reducible apply foldl_within; intro _ _ h) | with_reducible apply Within.ite
      | with_reducible apply WithinOut.ite | split | dsimp only)

theorem execLimiterInterval_within (drawn : Nat) (t : Nat) (hT : 0x8000000 ||| T = T) : WithinOut T s
    (execLimiterInterval drawn t s) := by
  have h : Within T s s := Within.start
  unfold execLimiterInterval
  try dsimp only
  repeat' (
    first
      | with_reducible exact h | with_reducible rfl | (with_reducible refine sub_of ?_ hT; decide)
      | with_reducible assumption | with_reducible exact WithinOut.fault _ | with_reducible apply WithinOut.next
      | with_reducible apply setPower_within | (with_reducible apply foldl_within; intro _ _ h)
      | with_reducible apply Within.ite | with_reducible apply WithinOut.ite | split | dsimp only)

theorem takeReading_within (h : Within T s0 s) (l : List Reading) (t : Nat) (e : Nat × Nat) (hT : 0x10000130000800200000000000000000000000000000000000000000000000000000000000000000000000a78000000 ||| T = T)
    (hr : Allowed T e.2) : Within T s0 (takeReading l t s e) := by
  unfold takeReading
  split
  · exact wr_within h _ _ hr
  · exact pwrEvent_within h _ _ (sub_of (by decide) hT)

theorem readings_within (h : Within T s0 s) (b : Build) (l : List Reading) (t : Nat) (hT : 0x1c10000130000800200000000000000000000000000000000000000000000000000000000000000000000000a78000000 ||| T = T) :
    Within T s0 ((tempSensors b).foldl (takeReading l t) s) := by
  refine foldl_mem_within _ (fun s e he h => takeReading_within h l t e (sub_of (by decide) hT) ?_) h
  unfold tempSensors at he
  simp only [List.mem_append, List.mem_map, List.mem_range] at he
  rcases he with (he | ⟨i, _, rfl⟩) | ⟨i, _, rfl⟩
  · split at he
    · exact absurd he (by simp)
    · obtain ⟨i, _, rfl⟩ := List.mem_map.1 he
      exact allowed_PWR_TEMP_CDIE i (has_of hT (by decide))
  · exact allowed_PWR_TEMP_IDIE i (has_of hT (by decide))
  · exact allowed_PWR_TEMP_HBM i (has_of hT (by decide))

theorem pwrCount_within (h : Within T s0 s) (on : Bool) (reg : Nat) (bit : Nat) (t : Nat)
    (hT : 0x10000130000800200000000000000000000000000000000000000000000000000000000000000000000000a78000000 ||| T = T)
    (hr : Allowed T reg) : Within T s0 (pwrCount s on reg bit t) := by
  unfold pwrCount
  try dsimp only
  repeat' (
    first
      | with_reducible exact h | with_reducible rfl | (with_reducible refine sub_of ?_ hT; decide)
      | with_reducible assumption | with_reducible apply bump_within | with_reducible apply pwrEvent_within
      | (with_reducible apply foldl_within; intro _ _ h) | with_reducible apply Within.ite | split)

theorem powerEdge_within (h : Within T s0 s) (readings : List Reading) (drawn : Nat) (len : Nat) (t : Nat)
    (hT : 0xfdd8000130000800200000000000000000000000000000000000000000000000000000000000000000000001a78000000 ||| T = T) : Within T s0
    (powerEdge s readings drawn len t) := by
  unfold powerEdge
  try dsimp only
  repeat' (
    first
      | with_reducible exact h | with_reducible rfl | (with_reducible refine sub_of ?_ hT; decide)
      | with_reducible assumption | with_reducible apply wr_within | with_reducible apply drawn_within
      | with_reducible apply setPower_within | with_reducible apply takeReading_within
      | with_reducible apply pwrCount_within | with_reducible apply wr_within
      | with_reducible exact allowed_PWR_LIMIT_TICK_COUNT (has_of hT (by decide))
      | with_reducible exact allowed_PWR_PEAK_W (has_of hT (by decide))
      | with_reducible exact allowed_PWR_STATUS (has_of hT (by decide))
      | with_reducible exact allowed_PWR_TEMP_CDIE _ (has_of hT (by decide))
      | with_reducible exact allowed_PWR_TEMP_HBM _ (has_of hT (by decide))
      | with_reducible exact allowed_PWR_TEMP_IDIE _ (has_of hT (by decide))
      | with_reducible exact allowed_PWR_THERM_CRIT_COUNT (has_of hT (by decide))
      | with_reducible exact allowed_PWR_THERM_WARN_COUNT (has_of hT (by decide))
      | with_reducible exact allowed_PWR_TICK_ENERGY_UJ (has_of hT (by decide))
      | with_reducible exact allowed_PWR_TICK_MEAN_W (has_of hT (by decide)) | with_reducible apply readings_within
      | (with_reducible apply foldl_within; intro _ _ h) | with_reducible apply Within.ite | split)

theorem execRailFault_within (t : Nat) (hT :
    0x18000130000800200000000000000000000000000000000000000000000000000000000000000000000000a78000000 ||| T = T) :
    WithinOut T s (execRailFault t s) := by
  have h : Within T s s := Within.start
  unfold execRailFault
  try dsimp only
  repeat' (
    first
      | with_reducible exact h | with_reducible rfl | (with_reducible refine sub_of ?_ hT; decide)
      | with_reducible assumption | with_reducible exact WithinOut.fault _ | with_reducible apply WithinOut.next
      | with_reducible apply pwrEvent_within | with_reducible apply wr_within
      | with_reducible exact allowed_PWR_STATUS (has_of hT (by decide))
      | (with_reducible apply foldl_within; intro _ _ h) | with_reducible apply Within.ite
      | with_reducible apply WithinOut.ite | split | dsimp only)

theorem execAlarmMinTimeExpiry_within (ball : Nat) (hT : 0x808000000 ||| T = T) : WithinOut T s
    (execAlarmMinTimeExpiry ball s) := by
  have h : Within T s s := Within.start
  unfold execAlarmMinTimeExpiry
  try dsimp only
  repeat' (
    first
      | with_reducible exact h | with_reducible rfl | (with_reducible refine sub_of ?_ hT; decide)
      | with_reducible assumption | with_reducible exact WithinOut.fault _ | with_reducible apply WithinOut.next
      | with_reducible apply setPower_within | with_reducible apply dropAlarms_within
      | (with_reducible apply foldl_within; intro _ _ h) | with_reducible apply Within.ite
      | with_reducible apply WithinOut.ite | split | dsimp only)

end Sys2Proof.Machine
end

