-- ==== Sys2Proof/Laws/WithinQueues.lean ====
section
/-! SUPPORT. The places that the operations of Machine/Queues.lean may change (Laws/Within.lean). -/

namespace Sys2Proof.Machine

variable {T : Nat} {s0 s : State}

theorem dropFetches_within (h : Within T s0 s) (q : Nat) (hT : 0xa00 ||| T = T) : Within T s0 (dropFetches s q) := by
  unfold dropFetches
  try dsimp only
  repeat' (
    first
      | with_reducible exact h | with_reducible rfl | (with_reducible refine sub_of ?_ hT; decide)
      | with_reducible assumption | (with_reducible apply foldl_within; intro _ _ h)
      | simp only [Within.upd_iff, (has_of hT (by decide) : Has T 9), (has_of hT (by decide) : Has T 11), or_true,
          true_or, eq_self]
      | with_reducible apply Within.ite | split | dsimp only)

theorem enterCache_within (h : Within T s0 s) (q : Nat) (i : Nat) (raw : List Byte) (t : Nat) (hT :
    0x2c0000000000130000800200000000000100000000000100000000000000000007a0001f80700000000000000020da7d546f00 ||| T =
    T) : Within T s0 (enterCache s q i raw t) := by
  unfold enterCache
  try dsimp only
  repeat' (
    first
      | with_reducible exact h | with_reducible rfl | (with_reducible refine sub_of ?_ hT; decide)
      | with_reducible assumption | with_reducible apply setQueue_within | with_reducible apply dropFetches_within
      | with_reducible apply fenceRefuse_within | with_reducible apply cancelSlot_within
      | with_reducible apply completeEntry_within | (with_reducible apply foldl_within; intro _ _ h)
      | with_reducible apply Within.ite | split | dsimp only)

theorem enterReady_within (h : Within T s0 s) (q : Nat) (t : Nat) (hT :
    0x2c0000000000130000800200000000000100000000000100000000000000000007a0001f80700000000000000020da7d546f00 ||| T =
    T) : Within T s0 (enterReady s q t) := by
  unfold enterReady
  try dsimp only
  repeat' (
    first
      | with_reducible exact h | with_reducible rfl | (with_reducible refine sub_of ?_ hT; decide)
      | with_reducible assumption | with_reducible apply enterCache_within
      | (with_reducible apply foldl_within; intro _ _ h) | with_reducible apply Within.ite | split | dsimp only)

theorem fetchArrived_within (h : Within T s0 s) (q : Nat) (i : Nat) (raw : List Byte) (t : Nat) (hT :
    0x2c0000000000130000800200000000000100000000000100000000000000000007a0001f80700000000000000020da7d546f00 ||| T =
    T) : Within T s0 (fetchArrived s q i raw t) := by
  unfold fetchArrived
  try dsimp only
  repeat' (
    first
      | with_reducible exact h | with_reducible rfl | (with_reducible refine sub_of ?_ hT; decide)
      | with_reducible assumption | with_reducible apply enterReady_within | with_reducible apply setQueue_within
      | (with_reducible apply foldl_within; intro _ _ h) | with_reducible apply Within.ite | split | dsimp only)

theorem fetchFailed_within (h : Within T s0 s) (q : Nat) (i : Nat) (code : Nat) (t : Nat) (hT :
    0x130000800200000000000000000000000000000000000000000007a0001f80700000000000000020da7c006f00 ||| T = T) : Within T
    s0 (fetchFailed s q i code t) := by
  unfold fetchFailed
  try dsimp only
  repeat' (
    first
      | with_reducible exact h | with_reducible rfl | (with_reducible refine sub_of ?_ hT; decide)
      | with_reducible assumption | with_reducible apply setQueue_within | with_reducible apply drawn_within
      | with_reducible apply raise_within | with_reducible apply dropFetches_within
      | with_reducible apply completeEntry_within | with_reducible exact allowed_WQ_EVENT (has_of hT (by decide))
      | (with_reducible apply foldl_within; intro _ _ h) | with_reducible apply Within.ite | split | dsimp only)

theorem execDescriptorFetchComplete_within (q : Nat) (i : Nat) (ok : Bool) (t : Nat) (hT :
    0x2c0000000000130000800200000000000100000000000100000000000000000007a0001f80700000000000000020da7d546f00 ||| T =
    T) : WithinOut T s (execDescriptorFetchComplete q i ok t s) := by
  have h : Within T s s := Within.start
  unfold execDescriptorFetchComplete
  try dsimp only
  repeat' (
    first
      | with_reducible exact h | with_reducible rfl | (with_reducible refine sub_of ?_ hT; decide)
      | with_reducible assumption | with_reducible exact WithinOut.fault _ | with_reducible apply WithinOut.next
      | with_reducible apply fetchArrived_within | with_reducible apply fetchFailed_within
      | (with_reducible apply foldl_within; intro _ _ h) | with_reducible apply Within.ite
      | with_reducible apply WithinOut.ite | split | dsimp only)

theorem readFailed_within (h : Within T s0 s) (k : Nat) (u : ReadUse) (f : ReadFail) (t : Nat) (hT :
    0x2c80000000001300008002000000000008040000000001000010002000d8000017a0001f807000000300000000a0da7d566f80 ||| T =
    T) : Within T s0 (readFailed s k u f t) := by
  unfold readFailed
  try dsimp only
  repeat' (
    first
      | with_reducible exact h | with_reducible rfl | (with_reducible refine sub_of ?_ hT; decide)
      | with_reducible assumption | with_reducible apply fetchFailed_within | with_reducible apply finishItem_within
      | with_reducible apply endRequest_within | (with_reducible apply foldl_within; intro _ _ h)
      | simp only [Within.upd_iff, (has_of hT (by decide) : Has T 9), or_true, true_or, eq_self]
      | with_reducible apply Within.ite | split | dsimp only)

theorem copyWrite_within (h : Within T s0 s) (i : Nat) (dst : Nat) (bs : List Byte) (t : Nat) (hT :
    0x13000080020000000000000000000000000000000000000000000000001f80700000000000000020ca7c006080 ||| T = T) : Within T
    s0 (copyWrite s i dst bs t) := by
  unfold copyWrite
  try dsimp only
  repeat' (
    first
      | with_reducible exact h | with_reducible rfl | (with_reducible refine sub_of ?_ hT; decide)
      | with_reducible assumption | with_reducible apply setItem_within | with_reducible apply spaceWrite_within
      | (with_reducible apply foldl_within; intro _ _ h) | with_reducible apply Within.ite | split | dsimp only)

theorem readArrived_within (h : Within T s0 s) (k : Nat) (u : ReadUse) (bs : List Byte) (t : Nat) (hT :
    0x2c0000000000130000800240000844000100000000000100000000000000000007a0001f80700000000000000020da7d74ef80 ||| T =
    T) : Within T s0 (readArrived s k u bs t) := by
  unfold readArrived
  try dsimp only
  repeat' (
    first
      | with_reducible exact h | with_reducible rfl | (with_reducible refine sub_of ?_ hT; decide)
      | with_reducible assumption | with_reducible apply fetchArrived_within | with_reducible apply copyWrite_within
      | with_reducible apply promptPiece_within | with_reducible apply setSlot_within
      | with_reducible apply memWrite_within | with_reducible apply takeReturn_within
      | (with_reducible apply foldl_within; intro _ _ h)
      | simp only [Within.upd_iff, (has_of hT (by decide) : Has T 9), or_true, true_or, eq_self]
      | with_reducible apply Within.ite | split | dsimp only)

theorem execHostReadCompletion_within (tag : Nat) (fail : Option ReadFail) (data : List Byte) (t : Nat) (hT :
    0x2c80000000001300008002400008440009040000000001000010002000d8000017e0001f807000000300000000a0da7d76ef80 ||| T =
    T) : WithinOut T s (execHostReadCompletion tag fail data t s) := by
  have h : Within T s s := Within.start
  unfold execHostReadCompletion
  try dsimp only
  repeat' (
    first
      | with_reducible exact h | with_reducible rfl | (with_reducible refine sub_of ?_ hT; decide)
      | with_reducible assumption | with_reducible exact WithinOut.fault _ | with_reducible apply WithinOut.next
      | with_reducible apply issueWaiting_within | with_reducible apply readFailed_within
      | with_reducible apply readArrived_within | with_reducible apply raise_within
      | with_reducible apply bump_within | with_reducible exact allowed_WQ_EVENT (has_of hT (by decide))
      | with_reducible exact allowed_WQ_LATE_CPL_COUNT (has_of hT (by decide))
      | (with_reducible apply foldl_within; intro _ _ h) | with_reducible apply Within.ite
      | with_reducible apply WithinOut.ite | split | dsimp only)

theorem execCompletionTimeout_within (k : Nat) (t : Nat) (hT :
    0x2c80000000001300008002000000000008040000000001000010002000d8000017a0001f807000000300000000a0da7d566f80 ||| T =
    T) : WithinOut T s (execCompletionTimeout k t s) := by
  have h : Within T s s := Within.start
  unfold execCompletionTimeout
  try dsimp only
  repeat' (
    first
      | with_reducible exact h | with_reducible rfl | (with_reducible refine sub_of ?_ hT; decide)
      | with_reducible assumption | with_reducible exact WithinOut.fault _ | with_reducible apply WithinOut.next
      | with_reducible apply issueWaiting_within | with_reducible apply readFailed_within
      | (with_reducible apply foldl_within; intro _ _ h) | with_reducible apply Within.ite
      | with_reducible apply WithinOut.ite | split | dsimp only)

theorem execTagQuarantineEnd_within (k : Nat) (hT : 0x804000e00 ||| T = T) : WithinOut T s (execTagQuarantineEnd k s)
    := by
  have h : Within T s s := Within.start
  unfold execTagQuarantineEnd
  try dsimp only
  repeat' (
    first
      | with_reducible exact h | with_reducible rfl | (with_reducible refine sub_of ?_ hT; decide)
      | with_reducible assumption | with_reducible exact WithinOut.fault _ | with_reducible apply WithinOut.next
      | with_reducible apply issueWaiting_within | (with_reducible apply foldl_within; intro _ _ h)
      | simp only [Within.upd_iff, (has_of hT (by decide) : Has T 9), or_true, true_or, eq_self]
      | with_reducible apply Within.ite | with_reducible apply WithinOut.ite | split | dsimp only)

theorem execQueueEnable_within (q : Nat) (t : Nat) (hT :
    0x130000800200000000000000000000000000000000000000000000200000000000000000000000000a7c000100 ||| T = T) :
    WithinOut T s (execQueueEnable q t s) := by
  have h : Within T s s := Within.start
  unfold execQueueEnable
  try dsimp only
  repeat' (
    first
      | with_reducible exact h | with_reducible rfl | (with_reducible refine sub_of ?_ hT; decide)
      | with_reducible assumption | with_reducible exact WithinOut.fault _ | with_reducible apply WithinOut.next
      | with_reducible apply setQueue_within | with_reducible apply raise_within
      | with_reducible exact allowed_WQ_EVENT (has_of hT (by decide))
      | (with_reducible apply foldl_within; intro _ _ h)
      | simp only [Within.upd_iff, (has_of hT (by decide) : Has T 26), or_true, true_or, eq_self]
      | with_reducible apply Within.ite | with_reducible apply WithinOut.ite | split | dsimp only)

theorem stopItems_within (h : Within T s0 s) (l : List Nat) (t : Nat) (hT :
    0x2c80000000001300008002000000000008040000000001000010002000d8000017a0001f807000000100000000a0da7d566f80 ||| T =
    T) : Within T s0 (stopItems s l t) := by
  unfold stopItems
  try dsimp only
  repeat' (
    first
      | with_reducible exact h | with_reducible rfl | (with_reducible refine sub_of ?_ hT; decide)
      | with_reducible assumption | with_reducible apply enterLane_within | with_reducible apply haltItem_within
      | (with_reducible apply foldl_within; intro _ _ h) | with_reducible apply Within.ite | split | dsimp only)

theorem stopQueueWork_within (h : Within T s0 s) (q : Nat) (t : Nat) (hT :
    0x2c80000000001300008002000000000008040000000001000010002000d8000017a0001f807000000100000000a0da7d566f80 ||| T =
    T) : Within T s0 (stopQueueWork s q t) := by
  unfold stopQueueWork
  try dsimp only
  repeat' (
    first
      | with_reducible exact h | with_reducible rfl | (with_reducible refine sub_of ?_ hT; decide)
      | with_reducible assumption | with_reducible apply stopItems_within | with_reducible apply setLdg_within
      | with_reducible apply abandonReads_within | with_reducible apply dropQueueRequests_within
      | (with_reducible apply foldl_within; intro _ _ h)
      | simp only [Within.upd_iff, (has_of hT (by decide) : Has T 7), or_true, true_or, eq_self]
      | with_reducible apply Within.ite | split | dsimp only)

theorem finishStop_within (h : Within T s0 s) (q : Nat)
    (hT : 0xf80000000000000000000000000000000000100 ||| T = T) : Within T s0 (finishStop s q) := by
  unfold finishStop
  try dsimp only
  repeat' (
    first
      | with_reducible exact h | with_reducible rfl | (with_reducible refine sub_of ?_ hT; decide)
      | with_reducible assumption | with_reducible apply zeroRegs_within | with_reducible apply setQueue_within
      | with_reducible apply zeroRegs_within | with_reducible exact allowed_WQ_Q_CFG _ (has_of hT (by decide))
      | with_reducible exact allowed_WQ_Q_CQ_BASE_HI _ (has_of hT (by decide))
      | with_reducible exact allowed_WQ_Q_CQ_BASE_LO _ (has_of hT (by decide))
      | with_reducible exact allowed_WQ_Q_SQ_BASE_HI _ (has_of hT (by decide))
      | with_reducible exact allowed_WQ_Q_SQ_BASE_LO _ (has_of hT (by decide)) | with_reducible exact Allowed.nil
      | with_reducible apply Allowed.cons | with_reducible apply Allowed.append
      | (with_reducible apply Allowed.flatMap; intro i) | unfold queueRegs
      | (with_reducible apply foldl_within; intro _ _ h) | with_reducible apply Within.ite | split)

theorem shutdownPoint_within (h : Within T s0 s) (q : Nat) (t : Nat) (hT :
    0x2c80000000001300008002000000000008040000000001000010002000d8000f97a0001f807000000100000000a0da7d566f80 ||| T =
    T) : Within T s0 (shutdownPoint s q t) := by
  unfold shutdownPoint
  try dsimp only
  repeat' (
    first
      | with_reducible exact h | with_reducible rfl | (with_reducible refine sub_of ?_ hT; decide)
      | with_reducible assumption | with_reducible apply stopQueueWork_within
      | with_reducible apply finishStop_within | with_reducible apply setQueue_within
      | (with_reducible apply foldl_within; intro _ _ h)
      | simp only [Within.upd_iff, (has_of hT (by decide) : Has T 36), or_true, true_or, eq_self]
      | with_reducible apply Within.ite | split | dsimp only)

theorem execQueueShutdown_within (q : Nat) (hT : 0x100 ||| T = T) : WithinOut T s (execQueueShutdown q s) := by
  have h : Within T s s := Within.start
  unfold execQueueShutdown
  try dsimp only
  repeat' (
    first
      | with_reducible exact h | with_reducible rfl | (with_reducible refine sub_of ?_ hT; decide)
      | with_reducible assumption | with_reducible exact WithinOut.fault _ | with_reducible apply WithinOut.next
      | with_reducible apply setQueue_within | (with_reducible apply foldl_within; intro _ _ h)
      | with_reducible apply Within.ite | with_reducible apply WithinOut.ite | split | dsimp only)

theorem execQueueReset_within (q : Nat) (t : Nat) (hT :
    0x2c80000000001300008002000000000008040000000001000010002000d8000f97a0001f807000000100000000a0da7d566f80 ||| T =
    T) : WithinOut T s (execQueueReset q t s) := by
  have h : Within T s s := Within.start
  unfold execQueueReset
  try dsimp only
  repeat' (
    first
      | with_reducible exact h | with_reducible rfl | (with_reducible refine sub_of ?_ hT; decide)
      | with_reducible assumption | with_reducible exact WithinOut.fault _ | with_reducible apply WithinOut.next
      | with_reducible apply shutdownPoint_within | with_reducible apply setQueue_within
      | (with_reducible apply foldl_within; intro _ _ h) | with_reducible apply Within.ite
      | with_reducible apply WithinOut.ite | split | dsimp only)

theorem execAbortedRecordsWrite_within (q : Nat) (t : Nat) (hT :
    0x130000800200000000000000000000000000000000000000000f87a0001f80700000000000000020ca7c006100 ||| T = T) :
    WithinOut T s (execAbortedRecordsWrite q t s) := by
  have h : Within T s s := Within.start
  unfold execAbortedRecordsWrite
  try dsimp only
  repeat' (
    first
      | with_reducible exact h | with_reducible rfl | (with_reducible refine sub_of ?_ hT; decide)
      | with_reducible assumption | with_reducible exact WithinOut.fault _ | with_reducible apply WithinOut.next
      | with_reducible apply finishStop_within | with_reducible apply writeAborted_within
      | with_reducible apply setQueue_within | (with_reducible apply foldl_within; intro _ _ h)
      | with_reducible apply Within.ite | with_reducible apply WithinOut.ite | split | dsimp only)

theorem execQueueInvalidate_within (q : Nat) (t : Nat) (hT :
    0x130000800200000000000000000000000000000000000000000007a0001f80700000000000000020da7c006f00 ||| T = T) :
    WithinOut T s (execQueueInvalidate q t s) := by
  have h : Within T s s := Within.start
  unfold execQueueInvalidate
  try dsimp only
  repeat' (
    first
      | with_reducible exact h | with_reducible rfl | (with_reducible refine sub_of ?_ hT; decide)
      | with_reducible assumption | with_reducible exact WithinOut.fault _ | with_reducible apply WithinOut.next
      | with_reducible apply startFetch_within | with_reducible apply dropFetches_within
      | with_reducible apply setQueue_within | (with_reducible apply foldl_within; intro _ _ h)
      | with_reducible apply Within.ite | with_reducible apply WithinOut.ite | split | dsimp only)

theorem doorbellResult_within (h : Within T s0 s) (q : Nat) (result : Nat) (retry : Nat) (hT :
    0x8000000000000000000000000000000000100 ||| T = T) : Within T s0 (doorbellResult s q result retry) := by
  unfold doorbellResult
  try dsimp only
  repeat' (
    first
      | with_reducible exact h | with_reducible rfl | (with_reducible refine sub_of ?_ hT; decide)
      | with_reducible assumption | with_reducible apply setQueue_within | with_reducible apply bump_within
      | with_reducible exact allowed_WQ_DB_REFUSED_COUNT (has_of hT (by decide))
      | (with_reducible apply foldl_within; intro _ _ h) | with_reducible apply Within.ite | split | dsimp only)

theorem doorbellEarly_within (h : Within T s0 s) (q : Nat) (t : Nat) (hT :
    0x100000000000000000000000000000000000000000000000000000008000000000000000000000000000000000100 ||| T = T) :
    Within T s0 (doorbellEarly s q t) := by
  unfold doorbellEarly
  try dsimp only
  repeat' (
    first
      | with_reducible exact h | with_reducible rfl | (with_reducible refine sub_of ?_ hT; decide)
      | with_reducible assumption | with_reducible apply bump_within | with_reducible apply doorbellResult_within
      | with_reducible exact allowed_HST_DOORBELL_EARLY_COUNT (has_of hT (by decide))
      | (with_reducible apply foldl_within; intro _ _ h) | with_reducible apply Within.ite | split | dsimp only)

theorem notReady_within (h : Within T s0 s) {s' : State} (q : Nat) (t : Nat) (e : notReady s q t = some s') (hT : 0x100000000000000000000000000000000000000000000000000000008000000000000000000000000000000000100 ||| T = T) : Within T s0 s' := by
  unfold notReady at e
  split at e
  · cases e; exact doorbellEarly_within h _ _ (sub_of (by decide) hT)
  · split at e
    · cases e; exact doorbellResult_within h _ _ _ (sub_of (by decide) hT)
    · split at e
      · cases e; exact doorbellResult_within h _ _ _ (sub_of (by decide) hT)
      · cases e

theorem tailWrite_within (h : Within T s0 s) (q : Nat) (v : Nat) (t : Nat) (hT : 0x10013000080020000000000000000000000000000000000000000000fa0001f80700000000000000020da7c006f00 ||| T = T) : Within T s0 (tailWrite s q v t) := by
  unfold tailWrite
  dsimp only
  split
  · rename_i s' e
    exact notReady_within h q t e (sub_of (by decide) hT)
  · split
    · exact doorbellResult_within h _ _ _ (sub_of (by decide) hT)
    · exact startFetch_within (doorbellResult_within (setQueue_within h _ _ (sub_of (by decide) hT)) _ _ _ (sub_of (by decide) hT)) _ _ (sub_of (by decide) hT)

theorem headWrite_within (h : Within T s0 s) (q : Nat) (v : Nat) (t : Nat) (hT : 0x100000000000000000000000000000000000000000000000000000008000000000000000000000000000000000100 ||| T = T) : Within T s0 (headWrite s q v t) := by
  unfold headWrite
  dsimp only
  split
  · rename_i s' e
    split at e
    · exact notReady_within h q t e (sub_of (by decide) hT)
    · cases e
  · split
    · exact doorbellResult_within h _ _ _ (sub_of (by decide) hT)
    · exact doorbellResult_within (setQueue_within h _ _ (sub_of (by decide) hT)) _ _ _ (sub_of (by decide) hT)

theorem execDoorbellSqTail_within (q : Nat) (v : Word) (t : Nat) (hT :
    0x10013000080020000000000000000000000000000000000000000000fa0001f80700000000000000020da7c006f00 ||| T = T) :
    WithinOut T s (execDoorbellSqTail q v t s) := by
  have h : Within T s s := Within.start
  unfold execDoorbellSqTail
  try dsimp only
  repeat' (
    first
      | with_reducible exact h | with_reducible rfl | (with_reducible refine sub_of ?_ hT; decide)
      | with_reducible assumption | with_reducible exact WithinOut.fault _ | with_reducible apply WithinOut.next
      | with_reducible apply setQueue_within | with_reducible apply tailWrite_within
      | (with_reducible apply foldl_within; intro _ _ h) | with_reducible apply Within.ite
      | with_reducible apply WithinOut.ite | split | dsimp only)

theorem execDoorbellCqHead_within (q : Nat) (v : Word) (t : Nat) (hT :
    0x100000000000000000000000000000000000000000000000000000008000000000000000000000000000000000100 ||| T = T) :
    WithinOut T s (execDoorbellCqHead q v t s) := by
  have h : Within T s s := Within.start
  unfold execDoorbellCqHead
  try dsimp only
  repeat' (
    first
      | with_reducible exact h | with_reducible rfl | (with_reducible refine sub_of ?_ hT; decide)
      | with_reducible assumption | with_reducible exact WithinOut.fault _ | with_reducible apply WithinOut.next
      | with_reducible apply setQueue_within | with_reducible apply headWrite_within
      | (with_reducible apply foldl_within; intro _ _ h) | with_reducible apply Within.ite
      | with_reducible apply WithinOut.ite | split | dsimp only)

theorem execInvalidateComplete_within (q : Nat) (t : Nat) (hT :
    0x10013000080020000000000000000000000000000000000000000000fa0001f80700000000000000020da7c006f00 ||| T = T) :
    WithinOut T s (execInvalidateComplete q t s) := by
  have h : Within T s s := Within.start
  unfold execInvalidateComplete
  try dsimp only
  repeat' (
    first
      | with_reducible exact h | with_reducible rfl | (with_reducible refine sub_of ?_ hT; decide)
      | with_reducible assumption | with_reducible exact WithinOut.fault _ | with_reducible apply WithinOut.next
      | with_reducible apply headWrite_within | with_reducible apply tailWrite_within
      | with_reducible apply setQueue_within | (with_reducible apply foldl_within; intro _ _ h)
      | with_reducible apply Within.ite | with_reducible apply WithinOut.ite | split | dsimp only)

theorem descArrives_within (op : Nat) (q : Nat) (raw : List Byte) (t : Nat) (hT :
    0x2c0000000000130000800200000000000100000000000100000000000000000007a0001f80700000000000000020da7d546f00 ||| T =
    T) : WithinOut T s (descArrives op q raw t s) := by
  have h : Within T s s := Within.start
  unfold descArrives
  try dsimp only
  repeat' (
    first
      | with_reducible exact h | with_reducible rfl | (with_reducible refine sub_of ?_ hT; decide)
      | with_reducible assumption | with_reducible exact WithinOut.fault _ | with_reducible apply WithinOut.next
      | with_reducible apply issueWaiting_within | with_reducible apply fetchArrived_within
      | (with_reducible apply foldl_within; intro _ _ h)
      | simp only [Within.upd_iff, (has_of hT (by decide) : Has T 9), or_true, true_or, eq_self]
      | with_reducible apply Within.ite | with_reducible apply WithinOut.ite | split | dsimp only)

theorem execNop_within (q : Nat) (raw : List Byte) (t : Nat) (hT :
    0x2c0000000000130000800200000000000100000000000100000000000000000007a0001f80700000000000000020da7d546f00 ||| T =
    T) : WithinOut T s (execNop q raw t s) := by
  have h : Within T s s := Within.start
  unfold execNop
  try dsimp only
  repeat' (
    first
      | with_reducible exact h | with_reducible rfl | (with_reducible refine sub_of ?_ hT; decide)
      | with_reducible assumption | with_reducible exact WithinOut.fault _ | with_reducible apply WithinOut.next
      | with_reducible apply descArrives_within | (with_reducible apply foldl_within; intro _ _ h)
      | with_reducible apply Within.ite | with_reducible apply WithinOut.ite | split | dsimp only)

theorem execBarrier_within (q : Nat) (raw : List Byte) (t : Nat) (hT :
    0x2c0000000000130000800200000000000100000000000100000000000000000007a0001f80700000000000000020da7d546f00 ||| T =
    T) : WithinOut T s (execBarrier q raw t s) := by
  have h : Within T s s := Within.start
  unfold execBarrier
  try dsimp only
  repeat' (
    first
      | with_reducible exact h | with_reducible rfl | (with_reducible refine sub_of ?_ hT; decide)
      | with_reducible assumption | with_reducible exact WithinOut.fault _ | with_reducible apply WithinOut.next
      | with_reducible apply descArrives_within | (with_reducible apply foldl_within; intro _ _ h)
      | with_reducible apply Within.ite | with_reducible apply WithinOut.ite | split | dsimp only)

theorem execServeSubmit_within (q : Nat) (raw : List Byte) (t : Nat) (hT :
    0x2c0000000000130000800200000000000100000000000100000000000000000007a0001f80700000000000000020da7d546f00 ||| T =
    T) : WithinOut T s (execServeSubmit q raw t s) := by
  have h : Within T s s := Within.start
  unfold execServeSubmit
  try dsimp only
  repeat' (
    first
      | with_reducible exact h | with_reducible rfl | (with_reducible refine sub_of ?_ hT; decide)
      | with_reducible assumption | with_reducible exact WithinOut.fault _ | with_reducible apply WithinOut.next
      | with_reducible apply descArrives_within | (with_reducible apply foldl_within; intro _ _ h)
      | with_reducible apply Within.ite | with_reducible apply WithinOut.ite | split | dsimp only)

theorem execServeCancel_within (q : Nat) (raw : List Byte) (t : Nat) (hT :
    0x2c0000000000130000800200000000000100000000000100000000000000000007a0001f80700000000000000020da7d546f00 ||| T =
    T) : WithinOut T s (execServeCancel q raw t s) := by
  have h : Within T s s := Within.start
  unfold execServeCancel
  try dsimp only
  repeat' (
    first
      | with_reducible exact h | with_reducible rfl | (with_reducible refine sub_of ?_ hT; decide)
      | with_reducible assumption | with_reducible exact WithinOut.fault _ | with_reducible apply WithinOut.next
      | with_reducible apply descArrives_within | (with_reducible apply foldl_within; intro _ _ h)
      | with_reducible apply Within.ite | with_reducible apply WithinOut.ite | split | dsimp only)

theorem execServePause_within (q : Nat) (raw : List Byte) (t : Nat) (hT :
    0x2c0000000000130000800200000000000100000000000100000000000000000007a0001f80700000000000000020da7d546f00 ||| T =
    T) : WithinOut T s (execServePause q raw t s) := by
  have h : Within T s s := Within.start
  unfold execServePause
  try dsimp only
  repeat' (
    first
      | with_reducible exact h | with_reducible rfl | (with_reducible refine sub_of ?_ hT; decide)
      | with_reducible assumption | with_reducible exact WithinOut.fault _ | with_reducible apply WithinOut.next
      | with_reducible apply descArrives_within | (with_reducible apply foldl_within; intro _ _ h)
      | with_reducible apply Within.ite | with_reducible apply WithinOut.ite | split | dsimp only)

theorem execServeResume_within (q : Nat) (raw : List Byte) (t : Nat) (hT :
    0x2c0000000000130000800200000000000100000000000100000000000000000007a0001f80700000000000000020da7d546f00 ||| T =
    T) : WithinOut T s (execServeResume q raw t s) := by
  have h : Within T s s := Within.start
  unfold execServeResume
  try dsimp only
  repeat' (
    first
      | with_reducible exact h | with_reducible rfl | (with_reducible refine sub_of ?_ hT; decide)
      | with_reducible assumption | with_reducible exact WithinOut.fault _ | with_reducible apply WithinOut.next
      | with_reducible apply descArrives_within | (with_reducible apply foldl_within; intro _ _ h)
      | with_reducible apply Within.ite | with_reducible apply WithinOut.ite | split | dsimp only)

theorem kernelAccess_within {a : State × Bool} (h : Within T s0 a.1) (i t : Nat) (x : Bool × Nat × List Byte)
    (hT : 0x2c80000000001300008002000000000008040000000001000010002000d8000017a0001f807000000300000000a0da7d566f80 ||| T = T) : Within T s0 (kernelAccess i t a x).1 := by
  unfold kernelAccess
  dsimp only
  repeat' (
    first
      | with_reducible exact h | (with_reducible refine sub_of ?_ hT; decide) | with_reducible apply finishItem_within
      | with_reducible apply fenceRefuse_within
      | with_reducible apply setItem_within | with_reducible apply memWrite_within | split | dsimp only)

theorem execCompute_within (i : Nat) (accesses : List (Bool × Nat × List Byte)) (t : Nat) (hT :
    0x2c80000000001300008002000000000008040000000001000010002000d8000017a0001f807000000300000000a0da7d566f80 ||| T =
    T) : WithinOut T s (execCompute i accesses t s) := by
  have h : Within T s s := Within.start
  unfold execCompute
  try dsimp only
  repeat' (
    first
      | with_reducible exact h | with_reducible rfl | (with_reducible refine sub_of ?_ hT; decide)
      | with_reducible assumption | with_reducible exact WithinOut.fault _ | with_reducible apply WithinOut.next
      | with_reducible apply finishItem_within | with_reducible apply fenceRefuse_within
      | with_reducible apply kernelAccess_within | (with_reducible apply foldl_within; intro _ _ h)
      | (with_reducible apply foldl_fst_within; intro _ _ h) | (with_reducible apply foldl_snd_within; intro _ _ h)
      | with_reducible apply Within.ite | with_reducible apply WithinOut.ite | split | dsimp only)

theorem execCopy_within (i : Nat) (t : Nat) (hT :
    0x2c80000000001300008002000000000008040000000001000010002000d8000017a0001f807000000300000000a0da7d566f80 ||| T =
    T) : WithinOut T s (execCopy i t s) := by
  have h : Within T s s := Within.start
  unfold execCopy
  try dsimp only
  repeat' (
    first
      | with_reducible exact h | with_reducible rfl | (with_reducible refine sub_of ?_ hT; decide)
      | with_reducible assumption | with_reducible exact WithinOut.fault _ | with_reducible apply WithinOut.next
      | with_reducible apply finishItem_within | with_reducible apply fenceRefuse_within
      | with_reducible apply issueRead_within | with_reducible apply copyWrite_within
      | (with_reducible apply foldl_within; intro _ _ h) | with_reducible apply Within.ite
      | with_reducible apply WithinOut.ite | split | dsimp only)

end Sys2Proof.Machine
end

