-- ==== Sys2Proof/Laws/WithinCadence.lean ====
section
/-! SUPPORT. The places that the operations of Machine/Cadence.lean may change (Laws/Within.lean). -/

namespace Sys2Proof.Machine

variable {T : Nat} {s0 s : State}

theorem setClock_within (h : Within T s0 s) (c : Clock) (hT : 0x10 ||| T = T) : Within T s0 (setClock s c) := by
  unfold setClock
  try dsimp only
  repeat' (
    first
      | with_reducible exact h | with_reducible rfl | (with_reducible refine sub_of ?_ hT; decide)
      | with_reducible assumption | (with_reducible apply foldl_within; intro _ _ h)
      | simp only [Within.upd_iff, (has_of hT (by decide) : Has T 4), or_true, true_or, eq_self]
      | with_reducible apply Within.ite | split | dsimp only)

theorem setSched_within (h : Within T s0 s) (x : Sched) (hT : 0x80 ||| T = T) : Within T s0 (setSched s x) := by
  unfold setSched
  try dsimp only
  repeat' (
    first
      | with_reducible exact h | with_reducible rfl | (with_reducible refine sub_of ?_ hT; decide)
      | with_reducible assumption | (with_reducible apply foldl_within; intro _ _ h)
      | simp only [Within.upd_iff, (has_of hT (by decide) : Has T 7), or_true, true_or, eq_self]
      | with_reducible apply Within.ite | split | dsimp only)

theorem egressEdge_within (h : Within T s0 s) (hT : 0x600000000000000000000000002000 ||| T = T) : Within T s0
    (egressEdge s) := by
  unfold egressEdge
  try dsimp only
  repeat' (
    first
      | with_reducible exact h | with_reducible rfl | (with_reducible refine sub_of ?_ hT; decide)
      | with_reducible assumption | with_reducible apply wr_within
      | with_reducible exact allowed_FENCE_EGRESS_USED_PCIE _ (has_of hT (by decide))
      | with_reducible exact allowed_FENCE_EGRESS_USED_AETHIL _ (has_of hT (by decide))
      | (with_reducible apply foldl_within; intro _ _ h)
      | simp only [Within.upd_iff, (has_of hT (by decide) : Has T 13), or_true, true_or, eq_self]
      | with_reducible apply Within.ite | split | dsimp only)

theorem egressRelease_within (h : Within T s0 s) (t : Nat) (hT :
    0x2c000000000013000080020000000000000000000000010000000000000000000000001f807000000000000000008a7c54e000 ||| T =
    T) : Within T s0 (egressRelease s t) := by
  unfold egressRelease
  try dsimp only
  repeat' (
    first
      | with_reducible exact h | with_reducible rfl | (with_reducible refine sub_of ?_ hT; decide)
      | with_reducible assumption | with_reducible apply hostWrite_within | with_reducible apply sendOwn_within
      | (with_reducible apply foldl_within; intro _ _ h)
      | simp only [Within.upd_iff, (has_of hT (by decide) : Has T 14), (has_of hT (by decide) : Has T 15),
          or_true, true_or, eq_self]
      | with_reducible apply Within.ite | split | dsimp only)

theorem peaksEdge_within (h : Within T s0 s) (hT :
    0x400000000000000000000000000000000000000000002000000000000000000000000000000000000000000001000500000 ||| T = T) :
    Within T s0 (peaksEdge s) := by
  unfold peaksEdge
  try dsimp only
  repeat' (
    first
      | with_reducible exact h | with_reducible rfl | (with_reducible refine sub_of ?_ hT; decide)
      | with_reducible assumption | with_reducible apply wr_within | with_reducible apply drawn_within
      | with_reducible exact allowed_FAB_ROB_PEAK _ (has_of hT (by decide))
      | with_reducible exact allowed_HUB_HELD_PEAK _ (has_of hT (by decide))
      | (with_reducible apply foldl_within; intro _ _ h)
      | simp only [Within.upd_iff, (has_of hT (by decide) : Has T 20), (has_of hT (by decide) : Has T 22),
          or_true, true_or, eq_self]
      | with_reducible apply Within.ite | split | dsimp only)

theorem spinEdge_within (h : Within T s0 s) (len : Nat) (hT : 0x600000000000000000000000000000000000000020000 ||| T =
    T) : Within T s0 (spinEdge s len) := by
  unfold spinEdge
  try dsimp only
  repeat' (
    first
      | with_reducible exact h | with_reducible rfl | (with_reducible refine sub_of ?_ hT; decide)
      | with_reducible assumption | with_reducible apply wr_within | with_reducible apply setSync_within
      | with_reducible exact allowed_SYNC_SPIN_CORE_US (has_of hT (by decide))
      | with_reducible exact allowed_SYNC_SPIN_SPOKE_US (has_of hT (by decide))
      | (with_reducible apply foldl_within; intro _ _ h) | with_reducible apply Within.ite | split | dsimp only)

theorem bridgeEdge_within (h : Within T s0 s) (t : Nat) (hT :
    0x2c80000000001300008002000000000008040000000001000010022000d8000017a0001f807000000300000000a0da7d5e6f80 ||| T =
    T) : Within T s0 (bridgeEdge s t) := by
  unfold bridgeEdge
  try dsimp only
  repeat' (
    first
      | with_reducible exact h | with_reducible rfl | (with_reducible refine sub_of ?_ hT; decide)
      | with_reducible assumption | with_reducible apply raise_within | with_reducible apply endCrossing_within
      | with_reducible exact allowed_LNK_EVENT (has_of hT (by decide))
      | (with_reducible apply foldl_within; intro _ _ h)
      | simp only [Within.upd_iff, (has_of hT (by decide) : Has T 19), or_true, true_or, eq_self]
      | with_reducible apply Within.ite | split | dsimp only)

theorem supEdge_within (h : Within T s0 s) (hT : 0x1000 ||| T = T) : Within T s0 (supEdge s) := by
  unfold supEdge
  try dsimp only
  repeat' (
    first
      | with_reducible exact h | with_reducible rfl | (with_reducible refine sub_of ?_ hT; decide)
      | with_reducible assumption | (with_reducible apply foldl_within; intro _ _ h)
      | simp only [Within.upd_iff, (has_of hT (by decide) : Has T 12), or_true, true_or, eq_self]
      | with_reducible apply Within.ite | split | dsimp only)

theorem strobe_within (h : Within T s0 s) (readings : List Reading) (drawnUj : Nat) (prevLen : Nat) (hT :
    0x2c840fdd80001300008002000000000028040000000001020010022006d8000017a0001fe07000000300000000a0da7d7fffa0 ||| T =
    T) : Within T s0 (strobe s readings drawnUj prevLen) := by
  unfold strobe
  try dsimp only
  repeat' (
    first
      | with_reducible exact h | with_reducible rfl | (with_reducible refine sub_of ?_ hT; decide)
      | with_reducible assumption | with_reducible apply slewTick_within | with_reducible apply emit_within
      | with_reducible apply supEdge_within | with_reducible apply bridgeEdge_within
      | with_reducible apply spinEdge_within | with_reducible apply peaksEdge_within
      | with_reducible apply egressEdge_within | with_reducible apply ageLedger_within
      | with_reducible apply tickStalls_within | with_reducible apply tickTtl_within
      | with_reducible apply powerEdge_within | with_reducible apply egressRelease_within
      | with_reducible apply sendJoins_within | with_reducible apply renewVias_within
      | (with_reducible apply foldl_within; intro _ _ h)
      | simp only [Within.upd_iff, (has_of hT (by decide) : Has T 16), or_true, true_or, eq_self]
      | with_reducible apply Within.ite | split | dsimp only)

theorem markLate_within (h : Within T s0 s) (hT : 0x80000000000000000080 ||| T = T) : Within T s0 (markLate s) := by
  unfold markLate
  try dsimp only
  repeat' (
    first
      | with_reducible exact h | with_reducible rfl | (with_reducible refine sub_of ?_ hT; decide)
      | with_reducible assumption | with_reducible apply bump_within | with_reducible apply setItem_within
      | with_reducible exact allowed_TICK_LATE_COUNT (has_of hT (by decide))
      | (with_reducible apply foldl_within; intro _ _ h) | with_reducible apply Within.ite | split | dsimp only)

theorem bankSwap_within (h : Within T s0 s) (hT : 0x90 ||| T = T) : Within T s0 (bankSwap s) := by
  unfold bankSwap
  try dsimp only
  repeat' (
    first
      | with_reducible exact h | with_reducible rfl | (with_reducible refine sub_of ?_ hT; decide)
      | with_reducible assumption | with_reducible apply setClock_within | with_reducible apply setSched_within
      | (with_reducible apply foldl_within; intro _ _ h) | with_reducible apply Within.ite | split | dsimp only)

theorem epochEdge_within (h : Within T s0 s) (hT : 0x780000000000000800000090 ||| T = T) : Within T s0 (epochEdge s)
    := by
  unfold epochEdge
  try dsimp only
  repeat' (
    first
      | with_reducible exact h | with_reducible rfl | (with_reducible refine sub_of ?_ hT; decide)
      | with_reducible assumption | with_reducible apply commitEdge_within | with_reducible apply setSched_within
      | (with_reducible apply foldl_within; intro _ _ h) | with_reducible apply Within.ite | split | dsimp only)

theorem applyActivation_within (h : Within T s0 s) (t : Nat) (hT :
    0x2c0000000000130000800200000000000000000000000100000000000000000007a0001f80700000000000000020da7d546f00 ||| T =
    T) : Within T s0 (applyActivation s t) := by
  unfold applyActivation
  try dsimp only
  repeat' (
    first
      | with_reducible exact h | with_reducible rfl | (with_reducible refine sub_of ?_ hT; decide)
      | with_reducible assumption | with_reducible apply dropPartRequests_within
      | (with_reducible apply foldl_within; intro _ _ h)
      | simp only [Within.upd_iff, (has_of hT (by decide) : Has T 13), or_true, true_or, eq_self]
      | with_reducible apply Within.ite | split | dsimp only)

theorem completeAtGate_within (h : Within T s0 s) (q : Nat) (i : Nat) (d : Desc) (st : Status) (detail : Nat)
    (inherited : Bool) (t : Nat) (hT :
    0x2c0000000000130000800200000000000000000000000100000000200000000007a0001f80700000000000000020da7c546f00 ||| T =
    T) : Within T s0 (completeAtGate s q i d st detail inherited t) := by
  unfold completeAtGate
  try dsimp only
  repeat' (
    first
      | with_reducible exact h | with_reducible rfl | (with_reducible refine sub_of ?_ hT; decide)
      | with_reducible assumption | with_reducible apply completeEntry_within
      | with_reducible apply sendWithdraw_within | (with_reducible apply foldl_within; intro _ _ h)
      | with_reducible apply Within.ite | split | dsimp only)

theorem completeInherited_within (h : Within T s0 s) (q : Nat) (i : Nat) (d : Desc) (st : Status) (t : Nat) (hT :
    0x2c0000000000130000800200000000000000000000000100000000200000000007a0001f80700000000000000020da7c546f00 ||| T =
    T) : Within T s0 (completeInherited s q i d st t) := by
  unfold completeInherited
  try dsimp only
  repeat' (
    first
      | with_reducible exact h | with_reducible rfl | (with_reducible refine sub_of ?_ hT; decide)
      | with_reducible assumption | with_reducible apply completeAtGate_within | with_reducible apply drawn_within
      | (with_reducible apply foldl_within; intro _ _ h) | with_reducible apply Within.ite | split | dsimp only)

theorem gateEntry_within (h : Within T s0 s) (q : Nat) (t : Nat) (c : CacheSlot) (hT :
    0x2c0000000000130000800200000000000000000000000100000000200000000007a0001f80700000000000000020da7d546f00 ||| T =
    T) : Within T s0 (gateEntry q t s c) := by
  unfold gateEntry
  try dsimp only
  repeat' (
    first
      | with_reducible exact h | with_reducible rfl | (with_reducible refine sub_of ?_ hT; decide)
      | with_reducible assumption | with_reducible apply completeAtGate_within
      | with_reducible apply completeInherited_within | with_reducible apply completeEntry_within
      | with_reducible apply takePause_within | with_reducible apply takeResume_within
      | (with_reducible apply foldl_within; intro _ _ h) | with_reducible apply Within.ite | split | dsimp only)

theorem gateBarriers_within (h : Within T s0 s) (q t n : Nat) (hT : 0x2c0000000000130000800200000000000000000000000100000000200000000007a0001f80700000000000000020da7c546f00 ||| T = T) :
    Within T s0 (gateBarriers q t s n) := by
  induction n generalizing s with
  | zero => exact h
  | succ n ih =>
    unfold gateBarriers
    repeat' (
      first
        | with_reducible exact h | (with_reducible refine sub_of ?_ hT; decide) | with_reducible apply ih
        | with_reducible apply completeInherited_within | with_reducible apply completeEntry_within
        | with_reducible apply Within.ite | split | dsimp only)

theorem addItem_within (h : Within T s0 s) (it : Item) (hT : 0x80 ||| T = T) : Within T s0 (addItem s it) := by
  unfold addItem
  try dsimp only
  repeat' (
    first
      | with_reducible exact h | with_reducible rfl | (with_reducible refine sub_of ?_ hT; decide)
      | with_reducible assumption | with_reducible apply setSched_within
      | (with_reducible apply foldl_within; intro _ _ h) | with_reducible apply Within.ite | split | dsimp only)

theorem refuseInactive_within (h : Within T s0 s) (p : Nat) (t : Nat) (hT :
    0x13000080020000000000000000000000000000000000000000000000001f807000000000000000000a78002000 ||| T = T) : Within T
    s0 (refuseInactive s p t) := by
  unfold refuseInactive
  try dsimp only
  repeat' (
    first
      | with_reducible exact h | with_reducible rfl | (with_reducible refine sub_of ?_ hT; decide)
      | with_reducible assumption | with_reducible apply fenceRefuse_within
      | (with_reducible apply foldl_within; intro _ _ h) | with_reducible apply Within.ite | split | dsimp only)

theorem releaseEntry_within (h : Within T s0 s) (it : OvlItem) (c : CacheSlot) (order : Nat) (t : Nat) (hT :
    0x2c0000000000130000800200000000000000000000000100000000200000000007a0001f80700000000000000020da7c546f80 ||| T =
    T) : Within T s0 (releaseEntry s it c order t) := by
  unfold releaseEntry
  try dsimp only
  repeat' (
    first
      | with_reducible exact h | with_reducible rfl | (with_reducible refine sub_of ?_ hT; decide)
      | with_reducible assumption | with_reducible apply completeAtGate_within
      | with_reducible apply refuseInactive_within | with_reducible apply completeInherited_within
      | with_reducible apply addItem_within | (with_reducible apply foldl_within; intro _ _ h)
      | with_reducible apply Within.ite | split | dsimp only)

theorem releaseServe_within (h : Within T s0 s) (it : OvlItem) (order : Nat) (t : Nat) (hT :
    0x13000080020000000000000000000000000000000000000000000000001f807000000000000000000a78002080 ||| T = T) : Within T
    s0 (releaseServe s it order t) := by
  unfold releaseServe
  try dsimp only
  repeat' (
    first
      | with_reducible exact h | with_reducible rfl | (with_reducible refine sub_of ?_ hT; decide)
      | with_reducible assumption | with_reducible apply refuseInactive_within | with_reducible apply addItem_within
      | (with_reducible apply foldl_within; intro _ _ h) | with_reducible apply Within.ite | split | dsimp only)

theorem gatePosted_within (h : Within T s0 s) (q : Nat) (t : Nat) (i : Nat) (hT :
    0x2c0000000000130000800200000000000000000000000100000000200000000007a0001f80700000000000000020da7d546f80 ||| T =
    T) : Within T s0 (gatePosted q t s i) := by
  unfold gatePosted
  try dsimp only
  repeat' (
    first
      | with_reducible exact h | with_reducible rfl | (with_reducible refine sub_of ?_ hT; decide)
      | with_reducible assumption | with_reducible apply releaseEntry_within | with_reducible apply gateEntry_within
      | (with_reducible apply foldl_within; intro _ _ h) | with_reducible apply Within.ite | split | dsimp only)

theorem releaseServes_within (h : Within T s0 s) (t : Nat) (hT :
    0x13000080020000000000000000000000000000000000000000000000001f807000000000000000000a78002080 ||| T = T) : Within T
    s0 (releaseServes s t) := by
  unfold releaseServes
  try dsimp only
  repeat' (
    first
      | with_reducible exact h | with_reducible rfl | (with_reducible refine sub_of ?_ hT; decide)
      | with_reducible assumption | with_reducible apply setSched_within | with_reducible apply releaseServe_within
      | (with_reducible apply foldl_within; intro _ _ h) | with_reducible apply Within.ite | split | dsimp only)

theorem gateStanding_within (h : Within T s0 s) (z : Standing) (n : Nat) (st : Status) (d : Nat) (inherited : Bool) (t
    : Nat) (hT : 0x130000800200000000000000000000000000001000000000000017a0001f80700000000000000020ca7c006180 ||| T =
    T) : Within T s0 (gateStanding s z n st d inherited t) := by
  unfold gateStanding
  try dsimp only
  repeat' (
    first
      | with_reducible exact h | with_reducible rfl | (with_reducible refine sub_of ?_ hT; decide)
      | with_reducible assumption | with_reducible apply bump_within | with_reducible apply completeStanding_within
      | with_reducible exact allowed_LNK_ISO_ITEM_COUNT (has_of hT (by decide))
      | (with_reducible apply foldl_within; intro _ _ h) | with_reducible apply Within.ite | split | dsimp only)

theorem releaseStanding_within (h : Within T s0 s) (t : Nat) (hT :
    0x130000800200000000000000000000000000001000000000000017a0001f80700000000000000020da7c006180 ||| T = T) : Within T
    s0 (releaseStanding s t) := by
  unfold releaseStanding
  try dsimp only
  repeat' (
    first
      | with_reducible exact h | with_reducible rfl | (with_reducible refine sub_of ?_ hT; decide)
      | with_reducible assumption | with_reducible apply gateStanding_within
      | with_reducible apply refuseInactive_within | with_reducible apply drawn_within
      | with_reducible apply addItem_within | (with_reducible apply foldl_within; intro _ _ h)
      | with_reducible apply Within.ite | split | dsimp only)

theorem admissionGate_within (h : Within T s0 s) (t : Nat) (hT :
    0x2c80000000001300008002000008040008040000000001000010002000d8000f97a0001f807000000100000000a0da7d56ef80 ||| T =
    T) : Within T s0 (admissionGate s t) := by
  unfold admissionGate
  try dsimp only
  repeat' (
    first
      | with_reducible exact h | with_reducible rfl | (with_reducible refine sub_of ?_ hT; decide)
      | with_reducible assumption | with_reducible apply applyActivation_within
      | with_reducible apply shutdownPoint_within | with_reducible apply gatePosted_within
      | with_reducible apply releaseStanding_within | with_reducible apply releaseServes_within
      | with_reducible apply gateBarriers_within | with_reducible apply reapTransfers_within
      | with_reducible apply gateLedger_within | (with_reducible apply foldl_within; intro _ _ h)
      | with_reducible apply Within.ite | split | dsimp only)

theorem armStreams_within (h : Within T s0 s) (t : Nat) (hT :
    0x2c80000000001300008002000000000008040000000001000010002000d8000017a0001f807000000100000000a0da7d566f80 ||| T =
    T) : Within T s0 (armStreams s t) := by
  unfold armStreams
  try dsimp only
  repeat' (
    first
      | with_reducible exact h | with_reducible rfl | (with_reducible refine sub_of ?_ hT; decide)
      | with_reducible assumption | with_reducible apply setLdg_within | with_reducible apply enterLane_within
      | (with_reducible apply foldl_within; intro _ _ h) | with_reducible apply Within.ite | split | dsimp only)

theorem tickInterrupt_within (h : Within T s0 s) (hT : 0xa01001100 ||| T = T) : Within T s0 (tickInterrupt s) := by
  unfold tickInterrupt
  try dsimp only
  repeat' (
    first
      | with_reducible exact h | with_reducible rfl | (with_reducible refine sub_of ?_ hT; decide)
      | with_reducible assumption | with_reducible apply emit_within | with_reducible apply signalVector_within
      | with_reducible apply setQueue_within | with_reducible apply setLdg_within
      | (with_reducible apply foldl_within; intro _ _ h)
      | simp only [Within.upd_iff, (has_of hT (by decide) : Has T 12), or_true, true_or, eq_self]
      | with_reducible apply Within.ite | split | dsimp only)

theorem edgeSequence_within (h : Within T s0 s) (readings : List Reading) (drawnUj : Nat) (prevLen : Nat) (prev :
    Option (Nat × Nat)) (hT :
    0x2c840fdd80001300008002000008040028040010000001020010022006d8000f97a0001fe07000780380000000a0da7dffffb0 ||| T =
    T) : Within T s0 (edgeSequence s readings drawnUj prevLen prev) := by
  unfold edgeSequence
  try dsimp only
  repeat' (
    first
      | with_reducible exact h | with_reducible rfl | (with_reducible refine sub_of ?_ hT; decide)
      | with_reducible assumption | with_reducible apply strobe_within | with_reducible apply sealSets_within
      | with_reducible apply epochEdge_within | with_reducible apply bankSwap_within
      | with_reducible apply markLate_within | with_reducible apply tickInterrupt_within
      | with_reducible apply armStreams_within | with_reducible apply admissionGate_within
      | (with_reducible apply foldl_within; intro _ _ h) | with_reducible apply Within.ite | split | dsimp only)

theorem nextTick_within (h : Within T s0 s) (hT : 0x90 ||| T = T) : Within T s0 (nextTick s) := by
  unfold nextTick
  try dsimp only
  repeat' (
    first
      | with_reducible exact h | with_reducible rfl | (with_reducible refine sub_of ?_ hT; decide)
      | with_reducible assumption | with_reducible apply setClock_within | with_reducible apply setSched_within
      | (with_reducible apply foldl_within; intro _ _ h) | with_reducible apply Within.ite | split | dsimp only)

theorem execTickEdge_within (readings : List Reading) (drawnUj : Nat) (hT :
    0x2c840fdd80001300008002000008040028040010000001020010022006d8000f97a0001fe07000780380000000a0da7dffffb0 ||| T =
    T) : WithinOut T s (execTickEdge readings drawnUj s) := by
  have h : Within T s s := Within.start
  unfold execTickEdge
  try dsimp only
  repeat' (
    first
      | with_reducible exact h | with_reducible rfl | (with_reducible refine sub_of ?_ hT; decide)
      | with_reducible assumption | with_reducible exact WithinOut.fault _ | with_reducible apply WithinOut.next
      | with_reducible apply edgeSequence_within | with_reducible apply nextTick_within
      | (with_reducible apply foldl_within; intro _ _ h) | with_reducible apply Within.ite
      | with_reducible apply WithinOut.ite | split | dsimp only)

theorem firstTick_within (h : Within T s0 s) (from_ : Nat) (hT : 0x2010 ||| T = T) : Within T s0 (firstTick s from_)
    := by
  unfold firstTick
  try dsimp only
  repeat' (
    first
      | with_reducible exact h | with_reducible rfl | (with_reducible refine sub_of ?_ hT; decide)
      | with_reducible assumption | with_reducible apply setClock_within
      | (with_reducible apply foldl_within; intro _ _ h)
      | simp only [Within.upd_iff, (has_of hT (by decide) : Has T 13), or_true, true_or, eq_self]
      | with_reducible apply Within.ite | split | dsimp only)

theorem untracedStart_within (h : Within T s0 s) (hT :
    0x130000800200000000000000000000000000000000000000000000000000000000000000020000000a78000020 ||| T = T) : Within T
    s0 (untracedStart s) := by
  unfold untracedStart
  try dsimp only
  repeat' (
    first
      | with_reducible exact h | with_reducible rfl | (with_reducible refine sub_of ?_ hT; decide)
      | with_reducible assumption | with_reducible apply enterQuality_within
      | (with_reducible apply foldl_within; intro _ _ h) | with_reducible apply Within.ite | split | dsimp only)

theorem execFirstTick_within (readings : List Reading) (hT :
    0x2c840fdd80801300008002000008040028040010000001020010022006d8000f97a0001fe07000780380020000a0da7dffffb4 ||| T =
    T) : WithinOut T s (execFirstTick readings s) := by
  have h : Within T s s := Within.start
  unfold execFirstTick
  try dsimp only
  repeat' (
    first
      | with_reducible exact h | with_reducible rfl | (with_reducible refine sub_of ?_ hT; decide)
      | with_reducible assumption | with_reducible exact WithinOut.fault _ | with_reducible apply WithinOut.next
      | with_reducible apply edgeSequence_within | with_reducible apply untracedStart_within
      | with_reducible apply firstTick_within | with_reducible apply wr_within
      | with_reducible apply setPhase_within | with_reducible apply setBoot_within
      | with_reducible exact allowed_HST_BOOT_ELAPSED (has_of hT (by decide))
      | (with_reducible apply foldl_within; intro _ _ h) | with_reducible apply Within.ite
      | with_reducible apply WithinOut.ite | split | dsimp only)

theorem stepTick_within (h : Within T s0 s) (t : Nat) (hT :
    0x130000800200000000000000000000000000000000000000000000000000000000780000020000001a78000030 ||| T = T) : Within T
    s0 (stepTick s t) := by
  unfold stepTick
  try dsimp only
  repeat' (
    first
      | with_reducible exact h | with_reducible rfl | (with_reducible refine sub_of ?_ hT; decide)
      | with_reducible assumption | with_reducible apply applyStep_within | with_reducible apply setClock_within
      | with_reducible apply useDeferred_within | with_reducible apply latchEpoch_within
      | (with_reducible apply foldl_within; intro _ _ h) | (with_reducible apply foldl_fst_within; intro _ _ h)
      | (with_reducible apply foldl_snd_within; intro _ _ h) | with_reducible apply Within.ite | split | dsimp only)

theorem execMaintenanceSlotOpen_within (hT :
    0x130000800200000000000000000000000000000000000000000000000000000000780000020000001a78120030 ||| T = T) :
    WithinOut T s (execMaintenanceSlotOpen s) := by
  have h : Within T s s := Within.start
  unfold execMaintenanceSlotOpen
  try dsimp only
  repeat' (
    first
      | with_reducible exact h | with_reducible rfl | (with_reducible refine sub_of ?_ hT; decide)
      | with_reducible assumption | with_reducible exact WithinOut.fault _ | with_reducible apply WithinOut.next
      | with_reducible apply stepTick_within | with_reducible apply setSync_within
      | with_reducible apply admitModules_within | with_reducible apply setClock_within
      | (with_reducible apply foldl_within; intro _ _ h) | with_reducible apply Within.ite
      | with_reducible apply WithinOut.ite | split | dsimp only)

theorem guardItem_within (h : Within T s0 s) (t : Nat) (i : Nat) (hT :
    0x2c80000000001300008002000000000008040000000001000010002000d8000017a0001f80700000030000000020da7d566f80 ||| T =
    T) : Within T s0 (guardItem t s i) := by
  unfold guardItem
  try dsimp only
  repeat' (
    first
      | with_reducible exact h | with_reducible rfl | (with_reducible refine sub_of ?_ hT; decide)
      | with_reducible assumption | with_reducible apply endWork_within
      | (with_reducible apply foldl_within; intro _ _ h) | with_reducible apply Within.ite | split | dsimp only)

theorem skipSteps_within (h : Within T s0 s) (hT : 0x80 ||| T = T) : Within T s0 (skipSteps s) := by
  unfold skipSteps
  try dsimp only
  repeat' (
    first
      | with_reducible exact h | with_reducible rfl | (with_reducible refine sub_of ?_ hT; decide)
      | with_reducible assumption | with_reducible apply setSched_within
      | (with_reducible apply foldl_within; intro _ _ h) | with_reducible apply Within.ite | split | dsimp only)

theorem execGraceDeadline_within (hT :
    0x2c80000000001300008002000000000008040000000001000010002000d8000017a0001f807000000300000000a0da7d566f80 ||| T =
    T) : WithinOut T s (execGraceDeadline s) := by
  have h : Within T s s := Within.start
  unfold execGraceDeadline
  try dsimp only
  repeat' (
    first
      | with_reducible exact h | with_reducible rfl | (with_reducible refine sub_of ?_ hT; decide)
      | with_reducible assumption | with_reducible exact WithinOut.fault _ | with_reducible apply WithinOut.next
      | with_reducible apply skipSteps_within | with_reducible apply guardItem_within
      | with_reducible apply enterLane_within | (with_reducible apply foldl_within; intro _ _ h)
      | with_reducible apply Within.ite | with_reducible apply WithinOut.ite | split | dsimp only)

theorem execItemStart_within (i : Nat) (t : Nat) (hT :
    0x2c800000000013000080020000002400080400000000010000100024e0d8000017a0ce1f807000000300000000a1da7d57ef80 ||| T =
    T) : WithinOut T s (execItemStart i t s) := by
  have h : Within T s s := Within.start
  unfold execItemStart
  try dsimp only
  repeat' (
    first
      | with_reducible exact h | with_reducible rfl | (with_reducible refine sub_of ?_ hT; decide)
      | with_reducible assumption | with_reducible exact WithinOut.fault _ | with_reducible apply WithinOut.next
      | with_reducible apply setItem_within | with_reducible apply beginStep_within
      | with_reducible apply beginArm_within | (with_reducible apply foldl_within; intro _ _ h)
      | with_reducible apply Within.ite | with_reducible apply WithinOut.ite | split | dsimp only)

theorem execWorkItemComplete_within (i : Nat) (t : Nat) (hT :
    0x2c80000000001300008002000000000008040000000001000010002000d8000017a0001f807000000300000000a0da7d566f80 ||| T =
    T) : WithinOut T s (execWorkItemComplete i t s) := by
  have h : Within T s s := Within.start
  unfold execWorkItemComplete
  try dsimp only
  repeat' (
    first
      | with_reducible exact h | with_reducible rfl | (with_reducible refine sub_of ?_ hT; decide)
      | with_reducible assumption | with_reducible exact WithinOut.fault _ | with_reducible apply WithinOut.next
      | with_reducible apply finishItem_within | (with_reducible apply foldl_within; intro _ _ h)
      | with_reducible apply Within.ite | with_reducible apply WithinOut.ite | split | dsimp only)

theorem ovlStatus_within (h : Within T s0 s) (item : Nat) (result : Nat) (hT : 0x80 ||| T = T) : Within T s0
    (ovlStatus s item result) := by
  unfold ovlStatus
  try dsimp only
  repeat' (
    first
      | with_reducible exact h | with_reducible rfl | (with_reducible refine sub_of ?_ hT; decide)
      | with_reducible assumption | with_reducible apply setSched_within
      | (with_reducible apply foldl_within; intro _ _ h) | with_reducible apply Within.ite | split | dsimp only)

theorem acceptOverlay_within (h : Within T s0 s) (l : List OvlItem) (t : Nat) (hT :
    0x130000800200000000000000000000000000000000000000000007a0001f80700000000000000020da7c006f80 ||| T = T) : Within T
    s0 (acceptOverlay s l t) := by
  unfold acceptOverlay
  try dsimp only
  repeat' (
    first
      | with_reducible exact h | with_reducible rfl | (with_reducible refine sub_of ?_ hT; decide)
      | with_reducible assumption | with_reducible apply setSched_within | with_reducible apply setQueue_within
      | with_reducible apply startFetch_within | (with_reducible apply foldl_within; intro _ _ h)
      | with_reducible apply Within.ite | split | dsimp only)

theorem checkOverlay_within (h : Within T s0 s) (n : Nat) (t : Nat) (hT :
    0x130000800200000000000000000000000000000000000000000007a0001f80700000280000000020da7c006f80 ||| T = T) : Within T
    s0 (checkOverlay s n t) := by
  unfold checkOverlay
  try dsimp only
  repeat' (
    first
      | with_reducible exact h | with_reducible rfl | (with_reducible refine sub_of ?_ hT; decide)
      | with_reducible assumption | with_reducible apply ovlStatus_within | with_reducible apply fenceRefuseN_within
      | with_reducible apply raise_within | with_reducible apply bump_within
      | with_reducible apply acceptOverlay_within | with_reducible exact allowed_TICK_EVENT (has_of hT (by decide))
      | with_reducible exact allowed_TICK_SCHED_REJECT_COUNT (has_of hT (by decide))
      | (with_reducible apply foldl_within; intro _ _ h) | with_reducible apply Within.ite | split | dsimp only)

theorem execOverlayCommit_within (t : Nat) (hT :
    0x130000800200000000000000000000000000000000000000000007a0001f807200002c0000000020da7c006f80 ||| T = T) :
    WithinOut T s (execOverlayCommit t s) := by
  have h : Within T s s := Within.start
  unfold execOverlayCommit
  try dsimp only
  repeat' (
    first
      | with_reducible exact h | with_reducible rfl | (with_reducible refine sub_of ?_ hT; decide)
      | with_reducible assumption | with_reducible exact WithinOut.fault _ | with_reducible apply WithinOut.next
      | with_reducible apply ovlStatus_within | with_reducible apply bump_within | with_reducible apply raise_within
      | with_reducible apply fenceRefuse_within | with_reducible apply checkOverlay_within
      | with_reducible exact allowed_SUP_OVERLAY_HELD_COUNT (has_of hT (by decide))
      | with_reducible exact allowed_TICK_EVENT (has_of hT (by decide))
      | with_reducible exact allowed_TICK_SCHED_LATE_COUNT (has_of hT (by decide))
      | (with_reducible apply foldl_within; intro _ _ h) | with_reducible apply Within.ite
      | with_reducible apply WithinOut.ite | split | dsimp only)

end Sys2Proof.Machine
end

