-- ==== Sys2Proof/Laws/WithinManagement.lean ====
section
/-! SUPPORT. The places that the operations of Machine/Management.lean may change (Laws/Within.lean). -/

namespace Sys2Proof.Machine

variable {T : Nat} {s0 s : State}

theorem setHost_within (h : Within T s0 s) (h_ : HostIf) (hT : 0x4000000 ||| T = T) : Within T s0 (setHost s h_) := by
  unfold setHost
  try dsimp only
  repeat' (
    first
      | with_reducible exact h | with_reducible rfl | (with_reducible refine sub_of ?_ hT; decide)
      | with_reducible assumption | (with_reducible apply foldl_within; intro _ _ h)
      | simp only [Within.upd_iff, (has_of hT (by decide) : Has T 26), or_true, true_or, eq_self]
      | with_reducible apply Within.ite | split | dsimp only)

theorem reply_within (h : Within T s0 s) (kind : String) (code : Nat) (data : List Byte) (hT : 0x800000000 ||| T = T)
    : Within T s0 (reply s kind code data) := by
  unfold reply
  try dsimp only
  repeat' (
    first
      | with_reducible exact h | with_reducible rfl | (with_reducible refine sub_of ?_ hT; decide)
      | with_reducible assumption | with_reducible apply emit_within
      | (with_reducible apply foldl_within; intro _ _ h) | with_reducible apply Within.ite | split | dsimp only)

theorem resetMsix_within (h : Within T s0 s) (fn : Nat) (hT : 0x700000000 ||| T = T) : Within T s0 (resetMsix s fn) :=
    by
  unfold resetMsix
  try dsimp only
  repeat' (
    first
      | with_reducible exact h | with_reducible rfl | (with_reducible refine sub_of ?_ hT; decide)
      | with_reducible assumption | (with_reducible apply foldl_within; intro _ _ h)
      | simp only [Within.upd_iff, (has_of hT (by decide) : Has T 32), (has_of hT (by decide) : Has T 33), (has_of
          hT (by decide) : Has T 34), or_true, true_or, eq_self]
      | with_reducible apply Within.ite | split | dsimp only)

theorem flrRequests_within (h : Within T s0 s) (t : Nat) (hT :
    0x2c0000000000130000800200000000000000000000000100000000000000000007a0001f80700000000000000020da7d546f00 ||| T =
    T) : Within T s0 (flrRequests s t) := by
  unfold flrRequests
  try dsimp only
  repeat' (
    first
      | with_reducible exact h | with_reducible rfl | (with_reducible refine sub_of ?_ hT; decide)
      | with_reducible assumption | with_reducible apply setSlot_within | with_reducible apply endSoon_within
      | with_reducible apply endRequest_within | (with_reducible apply foldl_within; intro _ _ h)
      | with_reducible apply Within.ite | split | dsimp only)

theorem flrQueue_within (h : Within T s0 s) (q : Nat) (t : Nat)
    (hT : 0x2c80000000001300008002000000000008040000000001000010002000d8000f97a0001f807000000100000000a0da7d566f80 ||| T = T) : Within T s0
    (flrQueue s q t) := by
  unfold flrQueue
  try dsimp only
  repeat' (
    first
      | with_reducible exact h | with_reducible rfl | (with_reducible refine sub_of ?_ hT; decide)
      | with_reducible assumption | with_reducible apply zeroRegs_within | with_reducible apply setQueue_within
      | with_reducible apply stopQueueWork_within | with_reducible apply zeroRegs_within
      | with_reducible exact allowed_WQ_Q_CFG _ (has_of hT (by decide))
      | with_reducible exact allowed_WQ_Q_CQ_BASE_HI _ (has_of hT (by decide))
      | with_reducible exact allowed_WQ_Q_CQ_BASE_LO _ (has_of hT (by decide))
      | with_reducible exact allowed_WQ_Q_SQ_BASE_HI _ (has_of hT (by decide))
      | with_reducible exact allowed_WQ_Q_SQ_BASE_LO _ (has_of hT (by decide)) | with_reducible exact Allowed.nil
      | with_reducible apply Allowed.cons | with_reducible apply Allowed.append
      | (with_reducible apply Allowed.flatMap; intro i) | unfold queueRegs
      | (with_reducible apply foldl_within; intro _ _ h) | with_reducible apply Within.ite | split)

theorem flrRings_within (h : Within T s0 s)
    (hT : 0x380000000000c00000000000000000000000000000000000000000000000000001800000 ||| T = T) : Within T s0
    (flrRings s) := by
  unfold flrRings
  try dsimp only
  repeat' (
    first
      | with_reducible exact h | with_reducible rfl | (with_reducible refine sub_of ?_ hT; decide)
      | with_reducible assumption | with_reducible apply wr_within | with_reducible apply zeroRegs_within
      | with_reducible apply wr_within | with_reducible apply zeroRegs_within
      | with_reducible exact allowed_LDG_OUT_CFG _ (has_of hT (by decide))
      | with_reducible exact allowed_LDG_OUT_HEAD _ (has_of hT (by decide))
      | with_reducible exact allowed_LDG_OUT_TAIL _ (has_of hT (by decide))
      | with_reducible exact allowed_TLY_FWD_HEAD _ (has_of hT (by decide))
      | with_reducible exact allowed_TLY_FWD_TAIL _ (has_of hT (by decide)) | with_reducible exact Allowed.nil
      | with_reducible apply Allowed.cons | with_reducible apply Allowed.append
      | (with_reducible apply Allowed.flatMap; intro i) | (with_reducible apply foldl_within; intro _ _ h)
      | simp only [Within.upd_iff, (has_of hT (by decide) : Has T 24), (has_of hT (by decide) : Has T 23), or_true, true_or, eq_self]
      | with_reducible apply Within.ite | split)

theorem flrPf0_within (h : Within T s0 s) (t : Nat)
    (hT : 0x2c8000000003130000800200000000380804000000c001000010002000d8000f97a0001f807000000100000000a0df7dd66f80 ||| T = T) : Within T s0
    (flrPf0 s t) := by
  unfold flrPf0
  try dsimp only
  repeat' (
    first
      | with_reducible exact h | with_reducible rfl | (with_reducible refine sub_of ?_ hT; decide)
      | with_reducible assumption | with_reducible apply zeroRegs_within | with_reducible apply abandonReads_within
      | with_reducible apply stopItems_within | with_reducible apply setHost_within
      | with_reducible apply resetMsix_within | with_reducible apply flrRequests_within
      | with_reducible apply flrQueue_within | with_reducible apply flrRings_within
      | with_reducible apply zeroRegs_within | with_reducible exact allowed_HST_LOG_ADDR (has_of hT (by decide))
      | with_reducible exact allowed_HST_LOG_STATUS (has_of hT (by decide)) | with_reducible exact Allowed.nil
      | with_reducible apply Allowed.cons | with_reducible apply Allowed.append
      | (with_reducible apply Allowed.flatMap; intro i) | (with_reducible apply foldl_within; intro _ _ h)
      | simp only [Within.upd_iff, (has_of hT (by decide) : Has T 14), or_true, true_or, eq_self]
      | with_reducible apply Within.ite | split)

theorem execFlrPf0_within (t : Nat) (hT :
    0x2c8000000003130000800200000000380804000000c001000010002000d8000f97a0001f807000000100000000a0df7dd66f80 ||| T =
    T) : WithinOut T s (execFlrPf0 t s) := by
  have h : Within T s s := Within.start
  unfold execFlrPf0
  try dsimp only
  repeat' (
    first
      | with_reducible exact h | with_reducible rfl | (with_reducible refine sub_of ?_ hT; decide)
      | with_reducible assumption | with_reducible exact WithinOut.fault _ | with_reducible apply WithinOut.next
      | with_reducible apply flrPf0_within | (with_reducible apply foldl_within; intro _ _ h)
      | with_reducible apply Within.ite | with_reducible apply WithinOut.ite | split | dsimp only)

theorem execFlrPf1_within (hT : 0x700000000 ||| T = T) : WithinOut T s (execFlrPf1 s) := by
  have h : Within T s s := Within.start
  unfold execFlrPf1
  try dsimp only
  repeat' (
    first
      | with_reducible exact h | with_reducible rfl | (with_reducible refine sub_of ?_ hT; decide)
      | with_reducible assumption | with_reducible exact WithinOut.fault _ | with_reducible apply WithinOut.next
      | with_reducible apply resetMsix_within | (with_reducible apply foldl_within; intro _ _ h)
      | with_reducible apply Within.ite | with_reducible apply WithinOut.ite | split | dsimp only)

theorem pcieDown_within (h : Within T s0 s) (t : Nat) (hT :
    0x130000800200000000000000000000000000000000000000000000000000000000000000000000000a78000000 ||| T = T) : Within T
    s0 (pcieDown s t) := by
  unfold pcieDown
  try dsimp only
  repeat' (
    first
      | with_reducible exact h | with_reducible rfl | (with_reducible refine sub_of ?_ hT; decide)
      | with_reducible assumption | with_reducible apply raise_within
      | with_reducible exact allowed_HST_EVENT (has_of hT (by decide))
      | (with_reducible apply foldl_within; intro _ _ h) | with_reducible apply Within.ite | split | dsimp only)

theorem execPerstNAssert_within (t : Nat) (hT :
    0x2c8000000003138000800200000000380804000000c001000010002000d8000f97a0001f807000000100000000a0df7dd66f80 ||| T =
    T) : WithinOut T s (execPerstNAssert t s) := by
  have h : Within T s s := Within.start
  unfold execPerstNAssert
  try dsimp only
  repeat' (
    first
      | with_reducible exact h | with_reducible rfl | (with_reducible refine sub_of ?_ hT; decide)
      | with_reducible assumption | with_reducible exact WithinOut.fault _ | with_reducible apply WithinOut.next
      | with_reducible apply resetMsix_within | with_reducible apply flrPf0_within
      | with_reducible apply setHost_within | with_reducible apply pcieDown_within | with_reducible apply wr_within
      | with_reducible exact allowed_HST_PCIE_STATUS (has_of hT (by decide))
      | (with_reducible apply foldl_within; intro _ _ h) | with_reducible apply Within.ite
      | with_reducible apply WithinOut.ite | split | dsimp only)

theorem execPerstNDeassert_within (hT : 0x4000000 ||| T = T) : WithinOut T s (execPerstNDeassert s) := by
  have h : Within T s s := Within.start
  unfold execPerstNDeassert
  try dsimp only
  repeat' (
    first
      | with_reducible exact h | with_reducible rfl | (with_reducible refine sub_of ?_ hT; decide)
      | with_reducible assumption | with_reducible exact WithinOut.fault _ | with_reducible apply WithinOut.next
      | with_reducible apply setHost_within | (with_reducible apply foldl_within; intro _ _ h)
      | with_reducible apply Within.ite | with_reducible apply WithinOut.ite | split | dsimp only)

theorem execPcieLinkUp_within (rate : Nat) (width : Nat) (flit : Bool) (ats : Bool) (hT :
    0x8000000000000000000000000000000000000000000000000000000000000000000000000000000804000e00 ||| T = T) : WithinOut
    T s (execPcieLinkUp rate width flit ats s) := by
  have h : Within T s s := Within.start
  unfold execPcieLinkUp
  try dsimp only
  repeat' (
    first
      | with_reducible exact h | with_reducible rfl | (with_reducible refine sub_of ?_ hT; decide)
      | with_reducible assumption | with_reducible exact WithinOut.fault _ | with_reducible apply WithinOut.next
      | with_reducible apply issueWaiting_within | with_reducible apply wr_within
      | with_reducible apply setHost_within | with_reducible exact allowed_HST_PCIE_STATUS (has_of hT (by decide))
      | (with_reducible apply foldl_within; intro _ _ h) | with_reducible apply Within.ite
      | with_reducible apply WithinOut.ite | split | dsimp only)

theorem execPcieLinkDown_within (t : Nat) (hT :
    0x138000800200000000000000000000000000000000000000000000000000000000000000000000000a78000000 ||| T = T) :
    WithinOut T s (execPcieLinkDown t s) := by
  have h : Within T s s := Within.start
  unfold execPcieLinkDown
  try dsimp only
  repeat' (
    first
      | with_reducible exact h | with_reducible rfl | (with_reducible refine sub_of ?_ hT; decide)
      | with_reducible assumption | with_reducible exact WithinOut.fault _ | with_reducible apply WithinOut.next
      | with_reducible apply pcieDown_within | with_reducible apply wr_within
      | with_reducible exact allowed_HST_PCIE_STATUS (has_of hT (by decide))
      | (with_reducible apply foldl_within; intro _ _ h) | with_reducible apply Within.ite
      | with_reducible apply WithinOut.ite | split | dsimp only)

theorem execAtsInvalidateRequest_within (page : Nat) (count : Nat) (hT : 0x4000000 ||| T = T) : WithinOut T s
    (execAtsInvalidateRequest page count s) := by
  have h : Within T s s := Within.start
  unfold execAtsInvalidateRequest
  try dsimp only
  repeat' (
    first
      | with_reducible exact h | with_reducible rfl | (with_reducible refine sub_of ?_ hT; decide)
      | with_reducible assumption | with_reducible exact WithinOut.fault _ | with_reducible apply WithinOut.next
      | with_reducible apply setHost_within | (with_reducible apply foldl_within; intro _ _ h)
      | with_reducible apply Within.ite | with_reducible apply WithinOut.ite | split | dsimp only)

theorem execAtsInvalidateComplete_within (page : Nat) (hT : 0x804000000 ||| T = T) : WithinOut T s
    (execAtsInvalidateComplete page s) := by
  have h : Within T s s := Within.start
  unfold execAtsInvalidateComplete
  try dsimp only
  repeat' (
    first
      | with_reducible exact h | with_reducible rfl | (with_reducible refine sub_of ?_ hT; decide)
      | with_reducible assumption | with_reducible exact WithinOut.fault _ | with_reducible apply WithinOut.next
      | with_reducible apply reply_within | with_reducible apply setHost_within
      | (with_reducible apply foldl_within; intro _ _ h) | with_reducible apply Within.ite
      | with_reducible apply WithinOut.ite | split | dsimp only)

theorem execIdeIntegrityFail_within (t : Nat) (hT :
    0x1b8000800200000000000000000000000000000000000000000000000000000000000000000000000a7c000000 ||| T = T) :
    WithinOut T s (execIdeIntegrityFail t s) := by
  have h : Within T s s := Within.start
  unfold execIdeIntegrityFail
  try dsimp only
  repeat' (
    first
      | with_reducible exact h | with_reducible rfl | (with_reducible refine sub_of ?_ hT; decide)
      | with_reducible assumption | with_reducible exact WithinOut.fault _ | with_reducible apply WithinOut.next
      | with_reducible apply setHost_within | with_reducible apply wr_within | with_reducible apply raise_within
      | with_reducible apply bump_within | with_reducible exact allowed_HST_PCIE_STATUS (has_of hT (by decide))
      | with_reducible exact allowed_HST_EVENT (has_of hT (by decide))
      | with_reducible exact allowed_HST_IDE_FAIL_COUNT (has_of hT (by decide))
      | (with_reducible apply foldl_within; intro _ _ h) | with_reducible apply Within.ite
      | with_reducible apply WithinOut.ite | split | dsimp only)

theorem execIdeKmKSetGo_within (keySet : Nat) (hT :
    0x8000000000000000000000000000000000000000000000000000000000000000000000000000000004000000 ||| T = T) : WithinOut
    T s (execIdeKmKSetGo keySet s) := by
  have h : Within T s s := Within.start
  unfold execIdeKmKSetGo
  try dsimp only
  repeat' (
    first
      | with_reducible exact h | with_reducible rfl | (with_reducible refine sub_of ?_ hT; decide)
      | with_reducible assumption | with_reducible exact WithinOut.fault _ | with_reducible apply WithinOut.next
      | with_reducible apply setHost_within | with_reducible apply wr_within
      | with_reducible exact allowed_HST_PCIE_STATUS (has_of hT (by decide))
      | (with_reducible apply foldl_within; intro _ _ h) | with_reducible apply Within.ite
      | with_reducible apply WithinOut.ite | split | dsimp only)

theorem execSetEndpointId_within (ep : Nat) (eid : Nat) (hT :
    0x400000000000000000000000000000000000000000000000000000000000000000000000000000000800000000 ||| T = T) :
    WithinOut T s (execSetEndpointId ep eid s) := by
  have h : Within T s s := Within.start
  unfold execSetEndpointId
  try dsimp only
  repeat' (
    first
      | with_reducible exact h | with_reducible rfl | (with_reducible refine sub_of ?_ hT; decide)
      | with_reducible assumption | with_reducible exact WithinOut.fault _ | with_reducible apply WithinOut.next
      | with_reducible apply reply_within | with_reducible apply wr_within
      | with_reducible exact allowed_HST_MCTP_EID (has_of hT (by decide))
      | (with_reducible apply foldl_within; intro _ _ h) | with_reducible apply Within.ite
      | with_reducible apply WithinOut.ite | split | dsimp only)

theorem execI3cEntdaa_within (ep : Nat) (hT : 0x4000000 ||| T = T) : WithinOut T s (execI3cEntdaa ep s) := by
  have h : Within T s s := Within.start
  unfold execI3cEntdaa
  try dsimp only
  repeat' (
    first
      | with_reducible exact h | with_reducible rfl | (with_reducible refine sub_of ?_ hT; decide)
      | with_reducible assumption | with_reducible exact WithinOut.fault _ | with_reducible apply WithinOut.next
      | with_reducible apply setHost_within | (with_reducible apply foldl_within; intro _ _ h)
      | with_reducible apply Within.ite | with_reducible apply WithinOut.ite | split | dsimp only)

theorem pldm_within {f : State → State} (hf : ∀ s, Within T s0 s → Within T s0 (f s)) (h : Within T s0 s) (ep : Nat)
    (kind : String) (hT : 0x800000000 ||| T = T) : Within T s0 (pldm s ep kind f) := by
  unfold pldm
  exact Within.ite h (Within.ite (reply_within h _ _ _ (sub_of (by decide) hT)) (hf _ h))

theorem execGetSensorReading_within (ep : Nat) (id : Nat) (t : Nat) (hT : 0x800000000 ||| T = T) : WithinOut T s
    (execGetSensorReading ep id t s) := by
  have h : Within T s s := Within.start
  unfold execGetSensorReading
  try dsimp only
  repeat' (
    first
      | with_reducible exact h | with_reducible rfl | (with_reducible refine sub_of ?_ hT; decide)
      | with_reducible assumption | with_reducible exact WithinOut.fault _ | with_reducible apply WithinOut.next
      | with_reducible apply reply_within | (with_reducible apply pldm_within; intro _ h)
      | (with_reducible apply foldl_within; intro _ _ h) | with_reducible apply WithinOut.ite
      | with_reducible apply Within.ite | split | dsimp only)

theorem sendHeld_within (h : Within T s0 s) (hT : 0x840000000 ||| T = T) : Within T s0 (sendHeld s) := by
  unfold sendHeld
  try dsimp only
  repeat' (
    first
      | with_reducible exact h | with_reducible rfl | (with_reducible refine sub_of ?_ hT; decide)
      | with_reducible assumption | (with_reducible apply foldl_within; intro _ _ h)
      | simp only [Within.upd_iff, (has_of hT (by decide) : Has T 30), (has_of hT (by decide) : Has T 35),
          or_true, true_or, eq_self]
      | with_reducible apply Within.ite | split | dsimp only)

theorem execSetEventReceiver_within (ep : Nat) (receiver : Option Nat)
    (hT : 0x8c0000000 ||| T = T) : WithinOut T s (execSetEventReceiver ep receiver s) := by
  have h : Within T s s := Within.start
  unfold execSetEventReceiver
  try dsimp only
  repeat' (
    first
      | with_reducible exact h | with_reducible rfl | (with_reducible refine sub_of ?_ hT; decide)
      | with_reducible assumption | with_reducible exact WithinOut.fault _ | with_reducible apply WithinOut.next
      | with_reducible apply sendHeld_within | with_reducible apply reply_within | (with_reducible apply pldm_within; intro _ h)
      | (with_reducible apply foldl_within; intro _ _ h)
      | simp only [Within.upd_iff, (has_of hT (by decide) : Has T 31), or_true, true_or, eq_self]
      | with_reducible apply WithinOut.ite | with_reducible apply Within.ite | split | dsimp only)

theorem execPollForPlatformEventMessage_within (ep : Nat) (hT : 0x840000000 ||| T = T) : WithinOut T s
    (execPollForPlatformEventMessage ep s) := by
  have h : Within T s s := Within.start
  unfold execPollForPlatformEventMessage
  try dsimp only
  repeat' (
    first
      | with_reducible exact h | with_reducible rfl | (with_reducible refine sub_of ?_ hT; decide)
      | with_reducible assumption | with_reducible exact WithinOut.fault _ | with_reducible apply WithinOut.next
      | with_reducible apply reply_within | (with_reducible apply pldm_within; intro _ h)
      | (with_reducible apply foldl_within; intro _ _ h)
      | simp only [Within.upd_iff, (has_of hT (by decide) : Has T 30), or_true, true_or, eq_self]
      | with_reducible apply WithinOut.ite | with_reducible apply Within.ite | split | dsimp only)

theorem setUpdate_within (h : Within T s0 s) (st : Nat) (code : Nat) (hT :
    0x200000000000000000000000000000000000000000000000000000000000000000000000000000000000000000 ||| T = T) : Within T
    s0 (setUpdate s st code) := by
  unfold setUpdate
  try dsimp only
  repeat' (
    first
      | with_reducible exact h | with_reducible rfl | (with_reducible refine sub_of ?_ hT; decide)
      | with_reducible assumption | with_reducible apply wr_within
      | with_reducible exact allowed_HST_UPDATE_STATUS (has_of hT (by decide))
      | (with_reducible apply foldl_within; intro _ _ h) | with_reducible apply Within.ite | split | dsimp only)

theorem endUpdate_within (h : Within T s0 s) (hT : 0x4000000 ||| T = T) : Within T s0 (endUpdate s) := by
  unfold endUpdate
  try dsimp only
  repeat' (
    first
      | with_reducible exact h | with_reducible rfl | (with_reducible refine sub_of ?_ hT; decide)
      | with_reducible assumption | with_reducible apply setHost_within
      | (with_reducible apply foldl_within; intro _ _ h) | with_reducible apply Within.ite | split | dsimp only)

theorem updateRefused_within (h : Within T s0 s) (kind : String) (t : Nat) (hT :
    0x330000800200000000000000000000000000000000000000000000000000000000000000000000000a7c000000 ||| T = T) : Within T
    s0 (updateRefused s kind t) := by
  unfold updateRefused
  try dsimp only
  repeat' (
    first
      | with_reducible exact h | with_reducible rfl | (with_reducible refine sub_of ?_ hT; decide)
      | with_reducible assumption | with_reducible apply raise_within | with_reducible apply reply_within
      | with_reducible apply endUpdate_within | with_reducible apply setUpdate_within
      | with_reducible exact allowed_HST_EVENT (has_of hT (by decide))
      | (with_reducible apply foldl_within; intro _ _ h) | with_reducible apply Within.ite | split | dsimp only)

theorem execRequestUpdate_within (ep : Nat) (len : Nat) (t : Nat)
    (hT : 0x330000800200000000000000000000000000000000000000000000000000000000000000000000040a7c000000 ||| T = T) : WithinOut T s
    (execRequestUpdate ep len t s) := by
  have h : Within T s s := Within.start
  unfold execRequestUpdate
  try dsimp only
  repeat' (
    first
      | with_reducible exact h | with_reducible rfl | (with_reducible refine sub_of ?_ hT; decide)
      | with_reducible assumption | with_reducible exact WithinOut.fault _ | with_reducible apply WithinOut.next
      | with_reducible apply wr_within | with_reducible apply rewriteDirectory_within
      | with_reducible apply setHost_within | with_reducible apply reply_within
      | (with_reducible apply pldm_within; intro _ h) | with_reducible apply updateRefused_within
      | with_reducible apply wr_within | with_reducible exact allowed_HST_UPDATE_STATUS (has_of hT (by decide))
      | (with_reducible apply foldl_within; intro _ _ h) | with_reducible apply WithinOut.ite
      | with_reducible apply Within.ite | split | dsimp only)

theorem execFirmwareDataRx_within (data : List Byte) (t : Nat) (hT :
    0x330000800200000000000000000000000000000000000000000000000000000000000000000000040a7c000000 ||| T = T) :
    WithinOut T s (execFirmwareDataRx data t s) := by
  have h : Within T s s := Within.start
  unfold execFirmwareDataRx
  try dsimp only
  repeat' (
    first
      | with_reducible exact h | with_reducible rfl | (with_reducible refine sub_of ?_ hT; decide)
      | with_reducible assumption | with_reducible exact WithinOut.fault _ | with_reducible apply WithinOut.next
      | with_reducible apply updateRefused_within | with_reducible apply flashWrite_within
      | with_reducible apply setHost_within | with_reducible apply setUpdate_within
      | (with_reducible apply foldl_within; intro _ _ h) | with_reducible apply Within.ite
      | with_reducible apply WithinOut.ite | split | dsimp only)

theorem execVerifyComplete_within (pub : List Byte) (t : Nat) (hT :
    0x330000800200000000000000000000000000000000000000000000000000000000000000000000000a7c000000 ||| T = T) :
    WithinOut T s (execVerifyComplete pub t s) := by
  have h : Within T s s := Within.start
  unfold execVerifyComplete
  try dsimp only
  repeat' (
    first
      | with_reducible exact h | with_reducible rfl | (with_reducible refine sub_of ?_ hT; decide)
      | with_reducible assumption | with_reducible exact WithinOut.fault _ | with_reducible apply WithinOut.next
      | with_reducible apply reply_within | with_reducible apply setUpdate_within
      | with_reducible apply raise_within | with_reducible apply endUpdate_within
      | with_reducible exact allowed_HST_EVENT (has_of hT (by decide))
      | (with_reducible apply foldl_within; intro _ _ h) | with_reducible apply Within.ite
      | with_reducible apply WithinOut.ite | split | dsimp only)

theorem execActivateFirmware_within (ep : Nat) (t : Nat)
    (hT : 0x330000800200000000000000000000000000000000000000000000000000000000000000000000040a7c000000 ||| T = T) : WithinOut T s
    (execActivateFirmware ep t s) := by
  have h : Within T s s := Within.start
  unfold execActivateFirmware
  try dsimp only
  repeat' (
    first
      | with_reducible exact h | with_reducible rfl | (with_reducible refine sub_of ?_ hT; decide)
      | with_reducible assumption | with_reducible exact WithinOut.fault _ | with_reducible apply WithinOut.next
      | with_reducible apply raise_within | with_reducible apply rewriteDirectory_within
      | with_reducible apply reply_within | (with_reducible apply pldm_within; intro _ h)
      | with_reducible apply setUpdate_within | with_reducible apply endUpdate_within
      | with_reducible apply updateRefused_within | with_reducible exact allowed_HST_EVENT (has_of hT (by decide))
      | (with_reducible apply foldl_within; intro _ _ h) | with_reducible apply WithinOut.ite
      | with_reducible apply Within.ite | split | dsimp only)

theorem execSpdmGetMeasurements_within (ep : Nat) (index : Nat) (hT : 0x1800000000 ||| T = T) : WithinOut T s
    (execSpdmGetMeasurements ep index s) := by
  have h : Within T s s := Within.start
  unfold execSpdmGetMeasurements
  try dsimp only
  repeat' (
    first
      | with_reducible exact h | with_reducible rfl | (with_reducible refine sub_of ?_ hT; decide)
      | with_reducible assumption | with_reducible exact WithinOut.fault _ | with_reducible apply WithinOut.next
      | with_reducible apply reply_within | with_reducible apply drawn_within
      | (with_reducible apply foldl_within; intro _ _ h) | with_reducible apply Within.ite
      | with_reducible apply WithinOut.ite | split | dsimp only)

theorem execSpdmKeyExchange_within (ep : Nat) (hT : 0x1804000000 ||| T = T) : WithinOut T s (execSpdmKeyExchange ep s)
    := by
  have h : Within T s s := Within.start
  unfold execSpdmKeyExchange
  try dsimp only
  repeat' (
    first
      | with_reducible exact h | with_reducible rfl | (with_reducible refine sub_of ?_ hT; decide)
      | with_reducible assumption | with_reducible exact WithinOut.fault _ | with_reducible apply WithinOut.next
      | with_reducible apply reply_within | with_reducible apply setHost_within | with_reducible apply drawn_within
      | (with_reducible apply foldl_within; intro _ _ h) | with_reducible apply Within.ite
      | with_reducible apply WithinOut.ite | split | dsimp only)

theorem execSpdmChallenge_within (ep : Nat) (certSlot : Nat) (hT : 0x1800000000 ||| T = T) : WithinOut T s
    (execSpdmChallenge ep certSlot s) := by
  have h : Within T s s := Within.start
  unfold execSpdmChallenge
  try dsimp only
  repeat' (
    first
      | with_reducible exact h | with_reducible rfl | (with_reducible refine sub_of ?_ hT; decide)
      | with_reducible assumption | with_reducible exact WithinOut.fault _ | with_reducible apply WithinOut.next
      | with_reducible apply reply_within | with_reducible apply drawn_within
      | (with_reducible apply foldl_within; intro _ _ h) | with_reducible apply Within.ite
      | with_reducible apply WithinOut.ite | split | dsimp only)

theorem execSpdmGetCertificate_within (ep : Nat) (certSlot : Nat) (hT : 0x800000000 ||| T = T) : WithinOut T s
    (execSpdmGetCertificate ep certSlot s) := by
  have h : Within T s s := Within.start
  unfold execSpdmGetCertificate
  try dsimp only
  repeat' (
    first
      | with_reducible exact h | with_reducible rfl | (with_reducible refine sub_of ?_ hT; decide)
      | with_reducible assumption | with_reducible exact WithinOut.fault _ | with_reducible apply WithinOut.next
      | with_reducible apply reply_within | (with_reducible apply foldl_within; intro _ _ h)
      | with_reducible apply Within.ite | with_reducible apply WithinOut.ite | split | dsimp only)

theorem execLogRead_within (v : Word) (hT :
    0x3000000000000000000000000000000000000000000000000000000000000000000000000000000000004000000 ||| T = T) :
    WithinOut T s (execLogRead v s) := by
  have h : Within T s s := Within.start
  unfold execLogRead
  try dsimp only
  repeat' (
    first
      | with_reducible exact h | with_reducible rfl | (with_reducible refine sub_of ?_ hT; decide)
      | with_reducible assumption | with_reducible exact WithinOut.fault _ | with_reducible apply WithinOut.next
      | with_reducible apply wr_within | with_reducible apply setHost_within
      | with_reducible exact allowed_HST_LOG_STATUS (has_of hT (by decide))
      | with_reducible exact allowed_HST_LOG_ADDR (has_of hT (by decide))
      | (with_reducible apply foldl_within; intro _ _ h) | with_reducible apply Within.ite
      | with_reducible apply WithinOut.ite | split | dsimp only)

theorem execLogReadComplete_within (hT :
    0x2002000000000000000000000000000000000000000000000000000000000000000000000000000000000004000000 ||| T = T) :
    WithinOut T s (execLogReadComplete s) := by
  have h : Within T s s := Within.start
  unfold execLogReadComplete
  try dsimp only
  repeat' (
    first
      | with_reducible exact h | with_reducible rfl | (with_reducible refine sub_of ?_ hT; decide)
      | with_reducible assumption | with_reducible exact WithinOut.fault _ | with_reducible apply WithinOut.next
      | with_reducible apply wr_within | with_reducible apply setHost_within
      | with_reducible exact allowed_HST_LOG_DATA _ (has_of hT (by decide))
      | with_reducible exact allowed_HST_LOG_STATUS (has_of hT (by decide))
      | (with_reducible apply foldl_within; intro _ _ h) | with_reducible apply Within.ite
      | with_reducible apply WithinOut.ite | split | dsimp only)

end Sys2Proof.Machine
end

