-- ==== Sys2Proof/Laws/WithinClears.lean ====
section
/-! SUPPORT. The places that the operations of Machine/Clears.lean may change (Laws/Within.lean). -/

namespace Sys2Proof.Machine

variable {T : Nat} {s0 s : State}

theorem execTickCountClr_within (hT : 0xf80000000000000000000 ||| T = T) : WithinOut T s (execTickCountClr s) := by
  have h : Within T s s := Within.start
  unfold execTickCountClr
  try dsimp only
  repeat' (
    first
      | with_reducible exact h | with_reducible rfl | (with_reducible refine sub_of ?_ hT; decide)
      | with_reducible assumption | with_reducible exact WithinOut.fault _ | with_reducible apply WithinOut.next
      | with_reducible apply zeroRegs_within | with_reducible apply zeroRegs_within
      | with_reducible exact allowed_TICK_LATE_COUNT (has_of hT (by decide))
      | with_reducible exact allowed_TICK_OVERRUN_COUNT (has_of hT (by decide))
      | with_reducible exact allowed_TICK_SCHED_LATE_COUNT (has_of hT (by decide))
      | with_reducible exact allowed_TICK_SCHED_REJECT_COUNT (has_of hT (by decide))
      | with_reducible exact allowed_TICK_SKIP_COUNT (has_of hT (by decide)) | with_reducible exact Allowed.nil
      | with_reducible apply Allowed.cons | with_reducible apply Allowed.append
      | (with_reducible apply Allowed.flatMap; intro i)
      | (refine allowed_eq (l := [Reg.TICK_LATE_COUNT, Reg.TICK_OVERRUN_COUNT, Reg.TICK_SKIP_COUNT, Reg.TICK_SCHED_LATE_COUNT, Reg.TICK_SCHED_REJECT_COUNT]) ?_ ?_; · simp [regSpan, List.range, List.range.loop, Reg.TICK_LATE_COUNT, Reg.TICK_OVERRUN_COUNT, Reg.TICK_SKIP_COUNT, Reg.TICK_SCHED_LATE_COUNT, Reg.TICK_SCHED_REJECT_COUNT]; (try omega))
      | (with_reducible apply foldl_within; intro _ _ h) | with_reducible apply WithinOut.ite
      | with_reducible apply Within.ite | split | dsimp only)

theorem execTbuCountClr_within (hT : 0xc0000000000000000 ||| T = T) : WithinOut T s (execTbuCountClr s) := by
  have h : Within T s s := Within.start
  unfold execTbuCountClr
  try dsimp only
  repeat' (
    first
      | with_reducible exact h | with_reducible rfl | (with_reducible refine sub_of ?_ hT; decide)
      | with_reducible assumption | with_reducible exact WithinOut.fault _ | with_reducible apply WithinOut.next
      | with_reducible apply zeroRegs_within | with_reducible apply zeroRegs_within
      | with_reducible exact allowed_TBU_BOUND_EXCEED_COUNT (has_of hT (by decide))
      | with_reducible exact allowed_TBU_LABEL_IGNORED_COUNT (has_of hT (by decide))
      | with_reducible exact Allowed.nil | with_reducible apply Allowed.cons | with_reducible apply Allowed.append
      | (with_reducible apply Allowed.flatMap; intro i)
      | (refine allowed_eq (l := [Reg.TBU_BOUND_EXCEED_COUNT, Reg.TBU_LABEL_IGNORED_COUNT]) ?_ ?_; · simp [regSpan, List.range, List.range.loop, Reg.TBU_BOUND_EXCEED_COUNT, Reg.TBU_LABEL_IGNORED_COUNT]; (try omega))
      | (with_reducible apply foldl_within; intro _ _ h) | with_reducible apply WithinOut.ite
      | with_reducible apply Within.ite | split | dsimp only)

theorem execSupCountClr_within (hT : 0x3c0000000000000000000000000 ||| T = T) : WithinOut T s
    (execSupCountClr s) := by
  have h : Within T s s := Within.start
  unfold execSupCountClr
  try dsimp only
  repeat' (
    first
      | with_reducible exact h | with_reducible rfl | (with_reducible refine sub_of ?_ hT; decide)
      | with_reducible assumption | with_reducible exact WithinOut.fault _ | with_reducible apply WithinOut.next
      | with_reducible apply zeroRegs_within | with_reducible apply zeroRegs_within
      | with_reducible exact allowed_SUP_KICK_BAD_COUNT (has_of hT (by decide))
      | with_reducible exact allowed_SUP_MISMATCH_COUNT (has_of hT (by decide))
      | with_reducible exact allowed_SUP_OVERLAY_HELD_COUNT (has_of hT (by decide))
      | with_reducible exact allowed_SUP_RESET_COUNT (has_of hT (by decide)) | with_reducible exact Allowed.nil
      | with_reducible apply Allowed.cons | with_reducible apply Allowed.append
      | (with_reducible apply Allowed.flatMap; intro i)
      | (refine allowed_eq (l := [Reg.SUP_RESET_COUNT, Reg.SUP_MISMATCH_COUNT, Reg.SUP_KICK_BAD_COUNT, Reg.SUP_OVERLAY_HELD_COUNT]) ?_ ?_; · simp [regSpan, List.range, List.range.loop, Reg.SUP_RESET_COUNT, Reg.SUP_MISMATCH_COUNT, Reg.SUP_KICK_BAD_COUNT, Reg.SUP_OVERLAY_HELD_COUNT]; (try omega))
      | (with_reducible apply foldl_within; intro _ _ h) | with_reducible apply WithinOut.ite
      | with_reducible apply Within.ite | split | dsimp only)

theorem execFenceCountClr_within (hT : 0x1f800000000000000000000000000000 ||| T = T) : WithinOut T s
    (execFenceCountClr s) := by
  have h : Within T s s := Within.start
  unfold execFenceCountClr
  try dsimp only
  repeat' (
    first
      | with_reducible exact h | with_reducible rfl | (with_reducible refine sub_of ?_ hT; decide)
      | with_reducible assumption | with_reducible exact WithinOut.fault _ | with_reducible apply WithinOut.next
      | with_reducible apply zeroRegs_within | with_reducible apply zeroRegs_within
      | with_reducible exact allowed_FENCE_COUNT_EGRESS (has_of hT (by decide))
      | with_reducible exact allowed_FENCE_COUNT_LOCK (has_of hT (by decide))
      | with_reducible exact allowed_FENCE_COUNT_PART (has_of hT (by decide))
      | with_reducible exact allowed_FENCE_COUNT_TIME (has_of hT (by decide))
      | with_reducible exact allowed_FENCE_COUNT_UCODE (has_of hT (by decide))
      | with_reducible exact allowed_FENCE_COUNT_WINDOW (has_of hT (by decide)) | with_reducible exact Allowed.nil
      | with_reducible apply Allowed.cons | with_reducible apply Allowed.append
      | (with_reducible apply Allowed.flatMap; intro i)
      | (refine allowed_eq (l := [Reg.FENCE_COUNT_PART, Reg.FENCE_COUNT_TIME, Reg.FENCE_COUNT_UCODE, Reg.FENCE_COUNT_WINDOW, Reg.FENCE_COUNT_LOCK, Reg.FENCE_COUNT_EGRESS]) ?_ ?_; · simp [regSpan, List.range, List.range.loop, Reg.FENCE_COUNT_PART, Reg.FENCE_COUNT_TIME, Reg.FENCE_COUNT_UCODE, Reg.FENCE_COUNT_WINDOW, Reg.FENCE_COUNT_LOCK, Reg.FENCE_COUNT_EGRESS]; (try omega))
      | (with_reducible apply foldl_within; intro _ _ h) | with_reducible apply WithinOut.ite
      | with_reducible apply Within.ite | split | dsimp only)

theorem execFenceVlogClr_within (hT : 0x6000000000000000000000002000 ||| T = T) : WithinOut T s
    (execFenceVlogClr s) := by
  have h : Within T s s := Within.start
  unfold execFenceVlogClr
  try dsimp only
  repeat' (
    first
      | with_reducible exact h | with_reducible rfl | (with_reducible refine sub_of ?_ hT; decide)
      | with_reducible assumption | with_reducible exact WithinOut.fault _ | with_reducible apply WithinOut.next
      | with_reducible apply zeroRegs_within | with_reducible apply zeroRegs_within
      | with_reducible exact allowed_FENCE_VLOG_0 (has_of hT (by decide))
      | with_reducible exact allowed_FENCE_VLOG_1 (has_of hT (by decide)) | with_reducible exact Allowed.nil
      | with_reducible apply Allowed.cons | with_reducible apply Allowed.append
      | (with_reducible apply Allowed.flatMap; intro i) | (with_reducible apply foldl_within; intro _ _ h)
      | simp only [Within.upd_iff, (has_of hT (by decide) : Has T 13), or_true, true_or, eq_self]
      | with_reducible apply WithinOut.ite | with_reducible apply Within.ite | split | dsimp only)

theorem execPartCountClr_within (hT : 0x7c000000000000000000000000000000000 ||| T = T) : WithinOut T s
    (execPartCountClr s) := by
  have h : Within T s s := Within.start
  unfold execPartCountClr
  try dsimp only
  repeat' (
    first
      | with_reducible exact h | with_reducible rfl | (with_reducible refine sub_of ?_ hT; decide)
      | with_reducible assumption | with_reducible exact WithinOut.fault _ | with_reducible apply WithinOut.next
      | with_reducible apply zeroRegs_within | with_reducible apply zeroRegs_within
      | with_reducible exact allowed_PART_NOTICE_RX_COUNT (has_of hT (by decide))
      | with_reducible exact allowed_PART_NOTICE_TX_COUNT (has_of hT (by decide))
      | with_reducible exact allowed_PART_REJECT_HUB_COUNT (has_of hT (by decide))
      | with_reducible exact allowed_PART_REJECT_PORT_COUNT _ (has_of hT (by decide))
      | with_reducible exact allowed_PART_REJECT_SYNC_COUNT (has_of hT (by decide)) | with_reducible exact Allowed.nil
      | with_reducible apply Allowed.cons | with_reducible apply Allowed.append
      | (with_reducible apply Allowed.flatMap; intro i)
      | (refine allowed_eq (l := [Reg.PART_REJECT_PORT_COUNT 0, Reg.PART_REJECT_PORT_COUNT 1, Reg.PART_REJECT_PORT_COUNT 2, Reg.PART_REJECT_PORT_COUNT 3, Reg.PART_REJECT_PORT_COUNT 4, Reg.PART_REJECT_PORT_COUNT 5, Reg.PART_REJECT_PORT_COUNT 6, Reg.PART_REJECT_PORT_COUNT 7, Reg.PART_REJECT_PORT_COUNT 8, Reg.PART_REJECT_PORT_COUNT 9, Reg.PART_REJECT_PORT_COUNT 10, Reg.PART_REJECT_PORT_COUNT 11, Reg.PART_REJECT_PORT_COUNT 12, Reg.PART_REJECT_PORT_COUNT 13, Reg.PART_REJECT_PORT_COUNT 14, Reg.PART_REJECT_PORT_COUNT 15, Reg.PART_REJECT_HUB_COUNT, Reg.PART_REJECT_SYNC_COUNT, Reg.PART_NOTICE_TX_COUNT, Reg.PART_NOTICE_RX_COUNT]) ?_ ?_; · simp [regSpan, List.range, List.range.loop, Reg.PART_REJECT_PORT_COUNT, Reg.PART_REJECT_HUB_COUNT, Reg.PART_REJECT_SYNC_COUNT, Reg.PART_NOTICE_TX_COUNT, Reg.PART_NOTICE_RX_COUNT]; (try omega))
      | (with_reducible apply foldl_within; intro _ _ h) | with_reducible apply WithinOut.ite
      | with_reducible apply Within.ite | split | dsimp only)

theorem execPartLogClr_within (hT : 0xc00000000000000000000000000010000 ||| T = T) : WithinOut T s
    (execPartLogClr s) := by
  have h : Within T s s := Within.start
  unfold execPartLogClr
  try dsimp only
  repeat' (
    first
      | with_reducible exact h | with_reducible rfl | (with_reducible refine sub_of ?_ hT; decide)
      | with_reducible assumption | with_reducible exact WithinOut.fault _ | with_reducible apply WithinOut.next
      | with_reducible apply zeroRegs_within | with_reducible apply zeroRegs_within
      | with_reducible exact allowed_PART_REJECT_LOG_0 (has_of hT (by decide))
      | with_reducible exact allowed_PART_REJECT_LOG_1 (has_of hT (by decide)) | with_reducible exact Allowed.nil
      | with_reducible apply Allowed.cons | with_reducible apply Allowed.append
      | (with_reducible apply Allowed.flatMap; intro i) | (with_reducible apply foldl_within; intro _ _ h)
      | simp only [Within.upd_iff, (has_of hT (by decide) : Has T 16), or_true, true_or, eq_self]
      | with_reducible apply WithinOut.ite | with_reducible apply Within.ite | split | dsimp only)

theorem execWqCountClr_within (hT : 0x1fc00000000000000000000000000000000000 ||| T = T) : WithinOut T s
    (execWqCountClr s) := by
  have h : Within T s s := Within.start
  unfold execWqCountClr
  try dsimp only
  repeat' (
    first
      | with_reducible exact h | with_reducible rfl | (with_reducible refine sub_of ?_ hT; decide)
      | with_reducible assumption | with_reducible exact WithinOut.fault _ | with_reducible apply WithinOut.next
      | with_reducible apply zeroRegs_within | with_reducible apply zeroRegs_within
      | with_reducible exact allowed_WQ_ABORTED_COUNT (has_of hT (by decide))
      | with_reducible exact allowed_WQ_DB_REFUSED_COUNT (has_of hT (by decide))
      | with_reducible exact allowed_WQ_DESC_INVALID_COUNT (has_of hT (by decide))
      | with_reducible exact allowed_WQ_LATE_CPL_COUNT (has_of hT (by decide))
      | with_reducible exact allowed_WQ_NOT_ADMITTED_COUNT (has_of hT (by decide))
      | with_reducible exact allowed_WQ_POISONED_COUNT (has_of hT (by decide))
      | with_reducible exact allowed_WQ_STANDING_UNREPORTED_COUNT (has_of hT (by decide))
      | with_reducible exact Allowed.nil | with_reducible apply Allowed.cons | with_reducible apply Allowed.append
      | (with_reducible apply Allowed.flatMap; intro i)
      | (refine allowed_eq (l := [Reg.WQ_LATE_CPL_COUNT, Reg.WQ_DESC_INVALID_COUNT, Reg.WQ_NOT_ADMITTED_COUNT, Reg.WQ_ABORTED_COUNT, Reg.WQ_POISONED_COUNT, Reg.WQ_DB_REFUSED_COUNT, Reg.WQ_STANDING_UNREPORTED_COUNT]) ?_ ?_; · simp [regSpan, List.range, List.range.loop, Reg.WQ_LATE_CPL_COUNT, Reg.WQ_DESC_INVALID_COUNT, Reg.WQ_NOT_ADMITTED_COUNT, Reg.WQ_ABORTED_COUNT, Reg.WQ_POISONED_COUNT, Reg.WQ_DB_REFUSED_COUNT, Reg.WQ_STANDING_UNREPORTED_COUNT]; (try omega))
      | (with_reducible apply foldl_within; intro _ _ h) | with_reducible apply WithinOut.ite
      | with_reducible apply Within.ite | split | dsimp only)

theorem execSyncCountClr_within (hT : 0x1c0000000000000000000000000000000000000000000 ||| T = T) : WithinOut T s
    (execSyncCountClr s) := by
  have h : Within T s s := Within.start
  unfold execSyncCountClr
  try dsimp only
  repeat' (
    first
      | with_reducible exact h | with_reducible rfl | (with_reducible refine sub_of ?_ hT; decide)
      | with_reducible assumption | with_reducible exact WithinOut.fault _ | with_reducible apply WithinOut.next
      | with_reducible apply zeroRegs_within | with_reducible apply zeroRegs_within
      | with_reducible exact allowed_SYNC_DBG_COUNT (has_of hT (by decide))
      | with_reducible exact allowed_SYNC_OVERFLOW_COUNT (has_of hT (by decide))
      | with_reducible exact allowed_SYNC_UNDERFLOW_COUNT (has_of hT (by decide)) | with_reducible exact Allowed.nil
      | with_reducible apply Allowed.cons | with_reducible apply Allowed.append
      | (with_reducible apply Allowed.flatMap; intro i)
      | (refine allowed_eq (l := [Reg.SYNC_OVERFLOW_COUNT, Reg.SYNC_UNDERFLOW_COUNT, Reg.SYNC_DBG_COUNT]) ?_ ?_; · simp [regSpan, List.range, List.range.loop, Reg.SYNC_OVERFLOW_COUNT, Reg.SYNC_UNDERFLOW_COUNT, Reg.SYNC_DBG_COUNT]; (try omega))
      | (with_reducible apply foldl_within; intro _ _ h) | with_reducible apply WithinOut.ite
      | with_reducible apply Within.ite | split | dsimp only)

theorem execSyncFaultLogClr_within
    (hT : 0x10000000000000000000000000000000000000020000 ||| T = T) : WithinOut T s
    (execSyncFaultLogClr s) := by
  have h : Within T s s := Within.start
  unfold execSyncFaultLogClr
  try dsimp only
  repeat' (
    first
      | with_reducible exact h | with_reducible rfl | (with_reducible refine sub_of ?_ hT; decide)
      | with_reducible assumption | with_reducible exact WithinOut.fault _ | with_reducible apply WithinOut.next
      | with_reducible apply zeroRegs_within | with_reducible apply zeroRegs_within
      | with_reducible exact allowed_SYNC_FAULT_LOG (has_of hT (by decide)) | with_reducible exact Allowed.nil
      | with_reducible apply Allowed.cons | with_reducible apply Allowed.append
      | (with_reducible apply Allowed.flatMap; intro i) | (with_reducible apply foldl_within; intro _ _ h)
      | simp only [Within.upd_iff, (has_of hT (by decide) : Has T 17), or_true, true_or, eq_self]
      | with_reducible apply WithinOut.ite | with_reducible apply Within.ite | split | dsimp only)

theorem execSyncAuditWrapClr_within (hT : 0x20000 ||| T = T) : WithinOut T s (execSyncAuditWrapClr s) := by
  have h : Within T s s := Within.start
  unfold execSyncAuditWrapClr
  try dsimp only
  repeat' (
    first
      | with_reducible exact h | with_reducible rfl | (with_reducible refine sub_of ?_ hT; decide)
      | with_reducible assumption | with_reducible exact WithinOut.fault _ | with_reducible apply WithinOut.next
      | (with_reducible apply foldl_within; intro _ _ h)
      | simp only [Within.upd_iff, (has_of hT (by decide) : Has T 17), or_true, true_or, eq_self]
      | with_reducible apply Within.ite | with_reducible apply WithinOut.ite | split | dsimp only)

theorem execHubCollCountClr_within
    (hT : 0x7c0000000000000000000000000000000000000000000000 ||| T = T) : WithinOut T s
    (execHubCollCountClr s) := by
  have h : Within T s s := Within.start
  unfold execHubCollCountClr
  try dsimp only
  repeat' (
    first
      | with_reducible exact h | with_reducible rfl | (with_reducible refine sub_of ?_ hT; decide)
      | with_reducible assumption | with_reducible exact WithinOut.fault _ | with_reducible apply WithinOut.next
      | with_reducible apply zeroRegs_within | with_reducible apply zeroRegs_within
      | with_reducible exact allowed_HUB_LATE_CONTRIB_COUNT (has_of hT (by decide))
      | with_reducible exact allowed_HUB_MEMBER_MISSING_COUNT (has_of hT (by decide))
      | with_reducible exact allowed_HUB_SIG_MISMATCH_COUNT (has_of hT (by decide))
      | with_reducible exact allowed_HUB_WITHDRAW_RX_COUNT (has_of hT (by decide))
      | with_reducible exact allowed_HUB_WITHDRAW_TX_COUNT (has_of hT (by decide)) | with_reducible exact Allowed.nil
      | with_reducible apply Allowed.cons | with_reducible apply Allowed.append
      | (with_reducible apply Allowed.flatMap; intro i)
      | (refine allowed_eq (l := [Reg.HUB_MEMBER_MISSING_COUNT, Reg.HUB_SIG_MISMATCH_COUNT, Reg.HUB_LATE_CONTRIB_COUNT, Reg.HUB_WITHDRAW_TX_COUNT, Reg.HUB_WITHDRAW_RX_COUNT]) ?_ ?_; · simp [regSpan, List.range, List.range.loop, Reg.HUB_MEMBER_MISSING_COUNT, Reg.HUB_SIG_MISMATCH_COUNT, Reg.HUB_LATE_CONTRIB_COUNT, Reg.HUB_WITHDRAW_TX_COUNT, Reg.HUB_WITHDRAW_RX_COUNT]; (try omega))
      | (with_reducible apply foldl_within; intro _ _ h) | with_reducible apply WithinOut.ite
      | with_reducible apply Within.ite | split | dsimp only)

theorem execHubCollLogClr_within
    (hT : 0xc000000000000000000000000000000000000000400000 ||| T = T) : WithinOut T s
    (execHubCollLogClr s) := by
  have h : Within T s s := Within.start
  unfold execHubCollLogClr
  try dsimp only
  repeat' (
    first
      | with_reducible exact h | with_reducible rfl | (with_reducible refine sub_of ?_ hT; decide)
      | with_reducible assumption | with_reducible exact WithinOut.fault _ | with_reducible apply WithinOut.next
      | with_reducible apply zeroRegs_within | with_reducible apply zeroRegs_within
      | with_reducible exact allowed_HUB_COLL_LOG_0 (has_of hT (by decide))
      | with_reducible exact allowed_HUB_COLL_LOG_1 (has_of hT (by decide)) | with_reducible exact Allowed.nil
      | with_reducible apply Allowed.cons | with_reducible apply Allowed.append
      | (with_reducible apply Allowed.flatMap; intro i) | (with_reducible apply foldl_within; intro _ _ h)
      | simp only [Within.upd_iff, (has_of hT (by decide) : Has T 22), or_true, true_or, eq_self]
      | with_reducible apply WithinOut.ite | with_reducible apply Within.ite | split | dsimp only)

theorem execHubCountClr_within (h_ : Nat)
    (hT : 0x380000000000000000000000000000000000000000000000000000000000000000000000000000000000000000000000000 ||| T = T) : WithinOut T s
    (execHubCountClr h_ s) := by
  have h : Within T s s := Within.start
  unfold execHubCountClr
  try dsimp only
  repeat' (
    first
      | with_reducible exact h | with_reducible rfl | (with_reducible refine sub_of ?_ hT; decide)
      | with_reducible assumption | with_reducible exact WithinOut.fault _ | with_reducible apply WithinOut.next
      | with_reducible apply zeroRegs_within | with_reducible apply zeroRegs_within
      | with_reducible exact allowed_HUB_CREDIT_VIOL_COUNT _ (has_of hT (by decide))
      | with_reducible exact allowed_HUB_SRAM_CE_COUNT _ (has_of hT (by decide))
      | with_reducible exact allowed_HUB_SRAM_UE_COUNT _ (has_of hT (by decide)) | with_reducible exact Allowed.nil
      | with_reducible apply Allowed.cons | with_reducible apply Allowed.append
      | (with_reducible apply Allowed.flatMap; intro i)
      | (refine allowed_eq (l := [Reg.HUB_SRAM_CE_COUNT h_, Reg.HUB_SRAM_UE_COUNT h_, Reg.HUB_CREDIT_VIOL_COUNT h_]) ?_ ?_; · simp [regSpan, List.range, List.range.loop, Reg.HUB_SRAM_CE_COUNT, Reg.HUB_SRAM_UE_COUNT, Reg.HUB_CREDIT_VIOL_COUNT]; (try omega))
      | (with_reducible apply foldl_within; intro _ _ h) | with_reducible apply WithinOut.ite
      | with_reducible apply Within.ite | split | dsimp only)

theorem execSpkCountClr_within (h_ : Nat)
    (hT : 0x1e140000000000000000000000000000000000000000000000000000000000000000000000000000000000000000000000000000 ||| T = T) : WithinOut T s
    (execSpkCountClr h_ s) := by
  have h : Within T s s := Within.start
  unfold execSpkCountClr
  try dsimp only
  repeat' (
    first
      | with_reducible exact h | with_reducible rfl | (with_reducible refine sub_of ?_ hT; decide)
      | with_reducible assumption | with_reducible exact WithinOut.fault _ | with_reducible apply WithinOut.next
      | with_reducible apply zeroRegs_within | with_reducible apply zeroRegs_within
      | with_reducible exact allowed_SPK_CS_CE_COUNT _ (has_of hT (by decide))
      | with_reducible exact allowed_SPK_CS_UE_COUNT _ (has_of hT (by decide))
      | with_reducible exact allowed_SPK_ILLEGAL_COUNT _ (has_of hT (by decide))
      | with_reducible exact allowed_SPK_LS_MISS_COUNT _ _ (has_of hT (by decide))
      | with_reducible exact allowed_SPK_RELOAD_COUNT _ (has_of hT (by decide))
      | with_reducible exact allowed_SPK_RESTART_COUNT _ _ (has_of hT (by decide)) | with_reducible exact Allowed.nil
      | with_reducible apply Allowed.cons | with_reducible apply Allowed.append
      | (with_reducible apply Allowed.flatMap; intro i)
      | (refine allowed_eq (l := [Reg.SPK_CS_CE_COUNT h_, Reg.SPK_CS_UE_COUNT h_, Reg.SPK_RELOAD_COUNT h_, Reg.SPK_ILLEGAL_COUNT h_]) ?_ ?_; · simp [regSpan, List.range, List.range.loop, Reg.SPK_CS_CE_COUNT, Reg.SPK_CS_UE_COUNT, Reg.SPK_RELOAD_COUNT, Reg.SPK_ILLEGAL_COUNT]; (try omega))
      | (with_reducible apply foldl_within; intro _ _ h) | with_reducible apply WithinOut.ite
      | with_reducible apply Within.ite | split | dsimp only)

theorem execSpkLogClr_within (h_ : Nat)
    (hT : 0x800000000000000000000000000000000000000000000000000000000000000000000000000000000000000000000000000000 ||| T = T) : WithinOut T s
    (execSpkLogClr h_ s) := by
  have h : Within T s s := Within.start
  unfold execSpkLogClr
  try dsimp only
  repeat' (
    first
      | with_reducible exact h | with_reducible rfl | (with_reducible refine sub_of ?_ hT; decide)
      | with_reducible assumption | with_reducible exact WithinOut.fault _ | with_reducible apply WithinOut.next
      | with_reducible apply zeroRegs_within | with_reducible apply zeroRegs_within
      | with_reducible exact allowed_SPK_ILLEGAL_LOG _ (has_of hT (by decide)) | with_reducible exact Allowed.nil
      | with_reducible apply Allowed.cons | with_reducible apply Allowed.append
      | (with_reducible apply Allowed.flatMap; intro i) | (with_reducible apply foldl_within; intro _ _ h)
      | with_reducible apply WithinOut.ite | with_reducible apply Within.ite | split | dsimp only)

theorem execLnkCountClr_within
    (hT : 0x3f19e0000000000000000000000000000000000000000000000000 ||| T = T) : WithinOut T s
    (execLnkCountClr s) := by
  have h : Within T s s := Within.start
  unfold execLnkCountClr
  try dsimp only
  repeat' (
    first
      | with_reducible exact h | with_reducible rfl | (with_reducible refine sub_of ?_ hT; decide)
      | with_reducible assumption | with_reducible exact WithinOut.fault _ | with_reducible apply WithinOut.next
      | with_reducible apply zeroRegs_within | with_reducible apply zeroRegs_within
      | with_reducible exact allowed_LNK_BRIDGE_FAULT_COUNT (has_of hT (by decide))
      | with_reducible exact allowed_LNK_CONSEQ_COUNT (has_of hT (by decide))
      | with_reducible exact allowed_LNK_CRC_ERR_COUNT _ (has_of hT (by decide))
      | with_reducible exact allowed_LNK_EXHAUST_COUNT _ (has_of hT (by decide))
      | with_reducible exact allowed_LNK_FAULT_OP_COUNT (has_of hT (by decide))
      | with_reducible exact allowed_LNK_FEC_CORR_COUNT _ (has_of hT (by decide))
      | with_reducible exact allowed_LNK_FEC_UNCORR_COUNT _ (has_of hT (by decide))
      | with_reducible exact allowed_LNK_ISO_ITEM_COUNT (has_of hT (by decide))
      | with_reducible exact allowed_LNK_NOTICE_RX_COUNT (has_of hT (by decide))
      | with_reducible exact allowed_LNK_NOTICE_TX_COUNT (has_of hT (by decide))
      | with_reducible exact allowed_LNK_REPLAY_COUNT _ (has_of hT (by decide))
      | with_reducible exact allowed_LNK_TRAIN_FAIL_COUNT _ (has_of hT (by decide)) | with_reducible exact Allowed.nil
      | with_reducible apply Allowed.cons | with_reducible apply Allowed.append
      | (with_reducible apply Allowed.flatMap; intro i)
      | (refine allowed_eq (l := [Reg.LNK_CONSEQ_COUNT, Reg.LNK_FAULT_OP_COUNT, Reg.LNK_NOTICE_TX_COUNT, Reg.LNK_NOTICE_RX_COUNT]) ?_ ?_; · simp [regSpan, List.range, List.range.loop, Reg.LNK_CONSEQ_COUNT, Reg.LNK_FAULT_OP_COUNT, Reg.LNK_NOTICE_TX_COUNT, Reg.LNK_NOTICE_RX_COUNT]; (try omega))
      | (refine allowed_eq (l := [Reg.LNK_BRIDGE_FAULT_COUNT, Reg.LNK_ISO_ITEM_COUNT]) ?_ ?_; · simp [regSpan, List.range, List.range.loop, Reg.LNK_BRIDGE_FAULT_COUNT, Reg.LNK_ISO_ITEM_COUNT]; (try omega))
      | (refine allowed_eq (l := [Reg.LNK_CRC_ERR_COUNT i, Reg.LNK_REPLAY_COUNT i, Reg.LNK_EXHAUST_COUNT i, Reg.LNK_FEC_CORR_COUNT i, Reg.LNK_FEC_UNCORR_COUNT i, Reg.LNK_TRAIN_FAIL_COUNT i]) ?_ ?_; · simp [regSpan, List.range, List.range.loop, Reg.LNK_CRC_ERR_COUNT, Reg.LNK_REPLAY_COUNT, Reg.LNK_EXHAUST_COUNT, Reg.LNK_FEC_CORR_COUNT, Reg.LNK_FEC_UNCORR_COUNT, Reg.LNK_TRAIN_FAIL_COUNT]; (try omega))
      | (with_reducible apply foldl_within; intro _ _ h) | with_reducible apply WithinOut.ite
      | with_reducible apply Within.ite | split | dsimp only)

theorem execLnkLogClr_within
    (hT : 0xc000000000000000000000000000000000000000000000000 ||| T = T) : WithinOut T s (execLnkLogClr s) := by
  have h : Within T s s := Within.start
  unfold execLnkLogClr
  try dsimp only
  repeat' (
    first
      | with_reducible exact h | with_reducible rfl | (with_reducible refine sub_of ?_ hT; decide)
      | with_reducible assumption | with_reducible exact WithinOut.fault _ | with_reducible apply WithinOut.next
      | with_reducible apply zeroRegs_within | with_reducible apply zeroRegs_within
      | with_reducible exact allowed_LNK_FAULT_LOG_0 (has_of hT (by decide))
      | with_reducible exact allowed_LNK_FAULT_LOG_1 (has_of hT (by decide)) | with_reducible exact Allowed.nil
      | with_reducible apply Allowed.cons | with_reducible apply Allowed.append
      | (with_reducible apply Allowed.flatMap; intro i) | (with_reducible apply foldl_within; intro _ _ h)
      | with_reducible apply WithinOut.ite | with_reducible apply Within.ite | split | dsimp only)

theorem execFabCountClr_within
    (hT : 0x3fc000000000000000000000000000000000000000000000000000000 ||| T = T) : WithinOut T s
    (execFabCountClr s) := by
  have h : Within T s s := Within.start
  unfold execFabCountClr
  try dsimp only
  repeat' (
    first
      | with_reducible exact h | with_reducible rfl | (with_reducible refine sub_of ?_ hT; decide)
      | with_reducible assumption | with_reducible exact WithinOut.fault _ | with_reducible apply WithinOut.next
      | with_reducible apply zeroRegs_within | with_reducible apply zeroRegs_within
      | with_reducible exact allowed_FAB_E2E_RESEND_COUNT (has_of hT (by decide))
      | with_reducible exact allowed_FAB_FENCE_DROP_COUNT (has_of hT (by decide))
      | with_reducible exact allowed_FAB_GAP_COUNT (has_of hT (by decide))
      | with_reducible exact allowed_FAB_NODE_DOWN_COUNT (has_of hT (by decide))
      | with_reducible exact allowed_FAB_ROB_DIRECT_COUNT (has_of hT (by decide))
      | with_reducible exact allowed_FAB_TREE_SWITCH_COUNT (has_of hT (by decide))
      | with_reducible exact allowed_FAB_TTL_DROP_COUNT (has_of hT (by decide))
      | with_reducible exact allowed_FAB_UNREACH_COUNT (has_of hT (by decide)) | with_reducible exact Allowed.nil
      | with_reducible apply Allowed.cons | with_reducible apply Allowed.append
      | (with_reducible apply Allowed.flatMap; intro i)
      | (refine allowed_eq (l := [Reg.FAB_TTL_DROP_COUNT, Reg.FAB_E2E_RESEND_COUNT, Reg.FAB_GAP_COUNT, Reg.FAB_ROB_DIRECT_COUNT, Reg.FAB_FENCE_DROP_COUNT, Reg.FAB_TREE_SWITCH_COUNT, Reg.FAB_UNREACH_COUNT, Reg.FAB_NODE_DOWN_COUNT]) ?_ ?_; · simp [regSpan, List.range, List.range.loop, Reg.FAB_TTL_DROP_COUNT, Reg.FAB_E2E_RESEND_COUNT, Reg.FAB_GAP_COUNT, Reg.FAB_ROB_DIRECT_COUNT, Reg.FAB_FENCE_DROP_COUNT, Reg.FAB_TREE_SWITCH_COUNT, Reg.FAB_UNREACH_COUNT, Reg.FAB_NODE_DOWN_COUNT]; (try omega))
      | (with_reducible apply foldl_within; intro _ _ h) | with_reducible apply WithinOut.ite
      | with_reducible apply Within.ite | split | dsimp only)

theorem execTlyCountClr_within
    (hT : 0xfffff000000000000000000000000000000000000000000000000000000000000 ||| T = T) : WithinOut T s
    (execTlyCountClr s) := by
  have h : Within T s s := Within.start
  unfold execTlyCountClr
  try dsimp only
  repeat' (
    first
      | with_reducible exact h | with_reducible rfl | (with_reducible refine sub_of ?_ hT; decide)
      | with_reducible assumption | with_reducible exact WithinOut.fault _ | with_reducible apply WithinOut.next
      | with_reducible apply zeroRegs_within | with_reducible apply zeroRegs_within
      | with_reducible exact allowed_TLY_CMD_DROP_COUNT (has_of hT (by decide))
      | with_reducible exact allowed_TLY_CORRUPT_COUNT (has_of hT (by decide))
      | with_reducible exact allowed_TLY_DROPPED_COUNT (has_of hT (by decide))
      | with_reducible exact allowed_TLY_EARLY_COUNT (has_of hT (by decide))
      | with_reducible exact allowed_TLY_FWD_COUNT (has_of hT (by decide))
      | with_reducible exact allowed_TLY_FWD_DROP_COUNT (has_of hT (by decide))
      | with_reducible exact allowed_TLY_GAP_COUNT (has_of hT (by decide))
      | with_reducible exact allowed_TLY_INACTIVE_COUNT (has_of hT (by decide))
      | with_reducible exact allowed_TLY_INTERLEAVED_COUNT (has_of hT (by decide))
      | with_reducible exact allowed_TLY_MALFORMED_COUNT (has_of hT (by decide))
      | with_reducible exact allowed_TLY_MISSED_COUNT (has_of hT (by decide))
      | with_reducible exact allowed_TLY_NOT_MEAS_COUNT (has_of hT (by decide))
      | with_reducible exact allowed_TLY_OLD_COUNT (has_of hT (by decide))
      | with_reducible exact allowed_TLY_ORPHAN_COUNT (has_of hT (by decide))
      | with_reducible exact allowed_TLY_REPEAT_COUNT (has_of hT (by decide))
      | with_reducible exact allowed_TLY_RX_0_COUNT (has_of hT (by decide))
      | with_reducible exact allowed_TLY_RX_1_COUNT (has_of hT (by decide))
      | with_reducible exact allowed_TLY_STALE_COUNT (has_of hT (by decide))
      | with_reducible exact allowed_TLY_TRUNCATED_COUNT (has_of hT (by decide))
      | with_reducible exact allowed_TLY_UNKNOWN_COUNT (has_of hT (by decide)) | with_reducible exact Allowed.nil
      | with_reducible apply Allowed.cons | with_reducible apply Allowed.append
      | (with_reducible apply Allowed.flatMap; intro i)
      | (refine allowed_eq (l := [Reg.TLY_RX_0_COUNT, Reg.TLY_RX_1_COUNT, Reg.TLY_NOT_MEAS_COUNT, Reg.TLY_MALFORMED_COUNT, Reg.TLY_CORRUPT_COUNT, Reg.TLY_CMD_DROP_COUNT, Reg.TLY_FWD_COUNT, Reg.TLY_FWD_DROP_COUNT, Reg.TLY_UNKNOWN_COUNT, Reg.TLY_INACTIVE_COUNT, Reg.TLY_INTERLEAVED_COUNT, Reg.TLY_ORPHAN_COUNT, Reg.TLY_TRUNCATED_COUNT, Reg.TLY_STALE_COUNT, Reg.TLY_EARLY_COUNT, Reg.TLY_REPEAT_COUNT, Reg.TLY_OLD_COUNT, Reg.TLY_GAP_COUNT, Reg.TLY_MISSED_COUNT, Reg.TLY_DROPPED_COUNT]) ?_ ?_; · simp [regSpan, List.range, List.range.loop, Reg.TLY_RX_0_COUNT, Reg.TLY_RX_1_COUNT, Reg.TLY_NOT_MEAS_COUNT, Reg.TLY_MALFORMED_COUNT, Reg.TLY_CORRUPT_COUNT, Reg.TLY_CMD_DROP_COUNT, Reg.TLY_FWD_COUNT, Reg.TLY_FWD_DROP_COUNT, Reg.TLY_UNKNOWN_COUNT, Reg.TLY_INACTIVE_COUNT, Reg.TLY_INTERLEAVED_COUNT, Reg.TLY_ORPHAN_COUNT, Reg.TLY_TRUNCATED_COUNT, Reg.TLY_STALE_COUNT, Reg.TLY_EARLY_COUNT, Reg.TLY_REPEAT_COUNT, Reg.TLY_OLD_COUNT, Reg.TLY_GAP_COUNT, Reg.TLY_MISSED_COUNT, Reg.TLY_DROPPED_COUNT]; (try omega))
      | (with_reducible apply foldl_within; intro _ _ h) | with_reducible apply WithinOut.ite
      | with_reducible apply Within.ite | split | dsimp only)

theorem execLdgCountClr_within
    (hT : 0x3fc0000000000000000000000000000000000000000000000000000000000000000000 ||| T = T) : WithinOut T s
    (execLdgCountClr s) := by
  have h : Within T s s := Within.start
  unfold execLdgCountClr
  try dsimp only
  repeat' (
    first
      | with_reducible exact h | with_reducible rfl | (with_reducible refine sub_of ?_ hT; decide)
      | with_reducible assumption | with_reducible exact WithinOut.fault _ | with_reducible apply WithinOut.next
      | with_reducible apply zeroRegs_within | with_reducible apply zeroRegs_within
      | with_reducible exact allowed_LDG_ADMIT_COUNT (has_of hT (by decide))
      | with_reducible exact allowed_LDG_CANCEL_COUNT (has_of hT (by decide))
      | with_reducible exact allowed_LDG_EXPIRE_COUNT (has_of hT (by decide))
      | with_reducible exact allowed_LDG_OUT_DROP_COUNT (has_of hT (by decide))
      | with_reducible exact allowed_LDG_REFUSE_COUNT (has_of hT (by decide))
      | with_reducible exact allowed_LDG_STALL_TICKS_COUNT (has_of hT (by decide))
      | with_reducible exact allowed_LDG_STEP_FAIL_COUNT (has_of hT (by decide))
      | with_reducible exact allowed_LDG_UPDATE_LATE_COUNT (has_of hT (by decide)) | with_reducible exact Allowed.nil
      | with_reducible apply Allowed.cons | with_reducible apply Allowed.append
      | (with_reducible apply Allowed.flatMap; intro i)
      | (refine allowed_eq (l := [Reg.LDG_ADMIT_COUNT, Reg.LDG_REFUSE_COUNT, Reg.LDG_CANCEL_COUNT, Reg.LDG_EXPIRE_COUNT, Reg.LDG_OUT_DROP_COUNT, Reg.LDG_STEP_FAIL_COUNT, Reg.LDG_UPDATE_LATE_COUNT, Reg.LDG_STALL_TICKS_COUNT]) ?_ ?_; · simp [regSpan, List.range, List.range.loop, Reg.LDG_ADMIT_COUNT, Reg.LDG_REFUSE_COUNT, Reg.LDG_CANCEL_COUNT, Reg.LDG_EXPIRE_COUNT, Reg.LDG_OUT_DROP_COUNT, Reg.LDG_STEP_FAIL_COUNT, Reg.LDG_UPDATE_LATE_COUNT, Reg.LDG_STALL_TICKS_COUNT]; (try omega))
      | (with_reducible apply foldl_within; intro _ _ h) | with_reducible apply WithinOut.ite
      | with_reducible apply Within.ite | split | dsimp only)

theorem execMskCountClr_within
    (hT : 0x1fe0000000000000000000000000000000000000000000000000000000000000000000000000 ||| T = T) : WithinOut T s
    (execMskCountClr s) := by
  have h : Within T s s := Within.start
  unfold execMskCountClr
  try dsimp only
  repeat' (
    first
      | with_reducible exact h | with_reducible rfl | (with_reducible refine sub_of ?_ hT; decide)
      | with_reducible assumption | with_reducible exact WithinOut.fault _ | with_reducible apply WithinOut.next
      | with_reducible apply zeroRegs_within | with_reducible apply zeroRegs_within
      | with_reducible exact allowed_MSK_ADAPTER_REFUSE_COUNT (has_of hT (by decide))
      | with_reducible exact allowed_MSK_HOST_LATE_COUNT (has_of hT (by decide))
      | with_reducible exact allowed_MSK_HOST_REFUSE_COUNT (has_of hT (by decide))
      | with_reducible exact allowed_MSK_MASK_END_COUNT (has_of hT (by decide))
      | with_reducible exact allowed_MSK_ORDER_REFUSE_COUNT (has_of hT (by decide))
      | with_reducible exact allowed_MSK_SHIP_FAIL_COUNT (has_of hT (by decide))
      | with_reducible exact allowed_MSK_SPEC_ACCEPT_COUNT (has_of hT (by decide))
      | with_reducible exact allowed_MSK_SPEC_ROUNDS_COUNT (has_of hT (by decide)) | with_reducible exact Allowed.nil
      | with_reducible apply Allowed.cons | with_reducible apply Allowed.append
      | (with_reducible apply Allowed.flatMap; intro i)
      | (refine allowed_eq (l := [Reg.MSK_HOST_LATE_COUNT, Reg.MSK_HOST_REFUSE_COUNT, Reg.MSK_MASK_END_COUNT, Reg.MSK_SPEC_ROUNDS_COUNT, Reg.MSK_SPEC_ACCEPT_COUNT, Reg.MSK_ADAPTER_REFUSE_COUNT, Reg.MSK_SHIP_FAIL_COUNT, Reg.MSK_ORDER_REFUSE_COUNT]) ?_ ?_; · simp [regSpan, List.range, List.range.loop, Reg.MSK_HOST_LATE_COUNT, Reg.MSK_HOST_REFUSE_COUNT, Reg.MSK_MASK_END_COUNT, Reg.MSK_SPEC_ROUNDS_COUNT, Reg.MSK_SPEC_ACCEPT_COUNT, Reg.MSK_ADAPTER_REFUSE_COUNT, Reg.MSK_SHIP_FAIL_COUNT, Reg.MSK_ORDER_REFUSE_COUNT]; (try omega))
      | (with_reducible apply foldl_within; intro _ _ h) | with_reducible apply WithinOut.ite
      | with_reducible apply Within.ite | split | dsimp only)

theorem execBkgCountClr_within
    (hT : 0x3ffc000000000000000000000000000000000000000000000000000000000000000000000000000000000 ||| T = T) : WithinOut T s
    (execBkgCountClr s) := by
  have h : Within T s s := Within.start
  unfold execBkgCountClr
  try dsimp only
  repeat' (
    first
      | with_reducible exact h | with_reducible rfl | (with_reducible refine sub_of ?_ hT; decide)
      | with_reducible assumption | with_reducible exact WithinOut.fault _ | with_reducible apply WithinOut.next
      | with_reducible apply zeroRegs_within | with_reducible apply zeroRegs_within
      | with_reducible exact allowed_BKG_CSRAM_CE_COUNT (has_of hT (by decide))
      | with_reducible exact allowed_BKG_CSRAM_UE_COUNT (has_of hT (by decide))
      | with_reducible exact allowed_BKG_HBM_CE_COUNT (has_of hT (by decide))
      | with_reducible exact allowed_BKG_HBM_UE_COUNT (has_of hT (by decide))
      | with_reducible exact allowed_BKG_LOG_DROP_COUNT (has_of hT (by decide))
      | with_reducible exact allowed_BKG_RECAL_DONE_COUNT (has_of hT (by decide))
      | with_reducible exact allowed_BKG_RECAL_FAIL_COUNT (has_of hT (by decide))
      | with_reducible exact allowed_BKG_RECAL_SKIP_COUNT (has_of hT (by decide))
      | with_reducible exact allowed_BKG_SECTOR_RETIRED_COUNT (has_of hT (by decide))
      | with_reducible exact allowed_BKG_TABLE_CE_COUNT (has_of hT (by decide))
      | with_reducible exact allowed_BKG_TABLE_UE_COUNT (has_of hT (by decide))
      | with_reducible exact allowed_BKG_TELEM_OVF_COUNT (has_of hT (by decide)) | with_reducible exact Allowed.nil
      | with_reducible apply Allowed.cons | with_reducible apply Allowed.append
      | (with_reducible apply Allowed.flatMap; intro i)
      | (refine allowed_eq (l := [Reg.BKG_HBM_CE_COUNT, Reg.BKG_HBM_UE_COUNT, Reg.BKG_CSRAM_CE_COUNT, Reg.BKG_CSRAM_UE_COUNT, Reg.BKG_TABLE_CE_COUNT, Reg.BKG_TABLE_UE_COUNT, Reg.BKG_RECAL_DONE_COUNT, Reg.BKG_RECAL_FAIL_COUNT, Reg.BKG_RECAL_SKIP_COUNT, Reg.BKG_LOG_DROP_COUNT, Reg.BKG_TELEM_OVF_COUNT, Reg.BKG_SECTOR_RETIRED_COUNT]) ?_ ?_; · simp [regSpan, List.range, List.range.loop, Reg.BKG_HBM_CE_COUNT, Reg.BKG_HBM_UE_COUNT, Reg.BKG_CSRAM_CE_COUNT, Reg.BKG_CSRAM_UE_COUNT, Reg.BKG_TABLE_CE_COUNT, Reg.BKG_TABLE_UE_COUNT, Reg.BKG_RECAL_DONE_COUNT, Reg.BKG_RECAL_FAIL_COUNT, Reg.BKG_RECAL_SKIP_COUNT, Reg.BKG_LOG_DROP_COUNT, Reg.BKG_TELEM_OVF_COUNT, Reg.BKG_SECTOR_RETIRED_COUNT]; (try omega))
      | (with_reducible apply foldl_within; intro _ _ h) | with_reducible apply WithinOut.ite
      | with_reducible apply Within.ite | split | dsimp only)

theorem execBkgLogClr_within
    (hT : 0x1c00000000000000000000000000000000000000000000000000000000000000000000000000000000 ||| T = T) : WithinOut T s
    (execBkgLogClr s) := by
  have h : Within T s s := Within.start
  unfold execBkgLogClr
  try dsimp only
  repeat' (
    first
      | with_reducible exact h | with_reducible rfl | (with_reducible refine sub_of ?_ hT; decide)
      | with_reducible assumption | with_reducible exact WithinOut.fault _ | with_reducible apply WithinOut.next
      | with_reducible apply zeroRegs_within | with_reducible apply zeroRegs_within
      | with_reducible exact allowed_BKG_CSRAM_UE_LOG (has_of hT (by decide))
      | with_reducible exact allowed_BKG_HBM_UE_LOG_HI (has_of hT (by decide))
      | with_reducible exact allowed_BKG_HBM_UE_LOG_LO (has_of hT (by decide)) | with_reducible exact Allowed.nil
      | with_reducible apply Allowed.cons | with_reducible apply Allowed.append
      | (with_reducible apply Allowed.flatMap; intro i) | (with_reducible apply foldl_within; intro _ _ h)
      | with_reducible apply WithinOut.ite | with_reducible apply Within.ite | split | dsimp only)

theorem execHstCountClr_within
    (hT : 0x1c0000000000000000000000000000000000000000000000000000000000000000000000000000000000000000 ||| T = T) : WithinOut T s
    (execHstCountClr s) := by
  have h : Within T s s := Within.start
  unfold execHstCountClr
  try dsimp only
  repeat' (
    first
      | with_reducible exact h | with_reducible rfl | (with_reducible refine sub_of ?_ hT; decide)
      | with_reducible assumption | with_reducible exact WithinOut.fault _ | with_reducible apply WithinOut.next
      | with_reducible apply zeroRegs_within | with_reducible apply zeroRegs_within
      | with_reducible exact allowed_HST_BAD_ACCESS_COUNT (has_of hT (by decide))
      | with_reducible exact allowed_HST_IDE_FAIL_COUNT (has_of hT (by decide))
      | with_reducible exact allowed_HST_PLDM_EVENT_DROP_COUNT (has_of hT (by decide))
      | with_reducible exact Allowed.nil | with_reducible apply Allowed.cons | with_reducible apply Allowed.append
      | (with_reducible apply Allowed.flatMap; intro i)
      | (refine allowed_eq (l := [Reg.HST_BAD_ACCESS_COUNT, Reg.HST_IDE_FAIL_COUNT, Reg.HST_PLDM_EVENT_DROP_COUNT]) ?_ ?_; · simp [regSpan, List.range, List.range.loop, Reg.HST_BAD_ACCESS_COUNT, Reg.HST_IDE_FAIL_COUNT, Reg.HST_PLDM_EVENT_DROP_COUNT]; (try omega))
      | (with_reducible apply foldl_within; intro _ _ h) | with_reducible apply WithinOut.ite
      | with_reducible apply Within.ite | split | dsimp only)

theorem execPwrCountClr_within
    (hT : 0xe000000000000000000000000000000000000000000000000000000000000000000000000000000000000000000000000 ||| T = T) : WithinOut T s
    (execPwrCountClr s) := by
  have h : Within T s s := Within.start
  unfold execPwrCountClr
  try dsimp only
  repeat' (
    first
      | with_reducible exact h | with_reducible rfl | (with_reducible refine sub_of ?_ hT; decide)
      | with_reducible assumption | with_reducible exact WithinOut.fault _ | with_reducible apply WithinOut.next
      | with_reducible apply zeroRegs_within | with_reducible apply zeroRegs_within
      | with_reducible exact allowed_PWR_LIMIT_TICK_COUNT (has_of hT (by decide))
      | with_reducible exact allowed_PWR_THERM_CRIT_COUNT (has_of hT (by decide))
      | with_reducible exact allowed_PWR_THERM_WARN_COUNT (has_of hT (by decide)) | with_reducible exact Allowed.nil
      | with_reducible apply Allowed.cons | with_reducible apply Allowed.append
      | (with_reducible apply Allowed.flatMap; intro i)
      | (refine allowed_eq (l := [Reg.PWR_LIMIT_TICK_COUNT, Reg.PWR_THERM_WARN_COUNT, Reg.PWR_THERM_CRIT_COUNT]) ?_ ?_; · simp [regSpan, List.range, List.range.loop, Reg.PWR_LIMIT_TICK_COUNT, Reg.PWR_THERM_WARN_COUNT, Reg.PWR_THERM_CRIT_COUNT]; (try omega))
      | (with_reducible apply foldl_within; intro _ _ h) | with_reducible apply WithinOut.ite
      | with_reducible apply Within.ite | split | dsimp only)

end Sys2Proof.Machine
end

