-- ==== Sys2Proof/Laws/WithinViews.lean ====
section
/-! SUPPORT. The places that the operations of Machine/Views.lean may change (Laws/Within.lean). -/

namespace Sys2Proof.Machine

variable {T : Nat} {s0 s : State}

theorem execPairLoRead_within (off : Nat) (wide : Bool) (src : Requester) (t : Nat) (hT :
    0x170000800200000000000000000000000000000000000000000000000000000000000000000000000a78000040 ||| T = T) :
    WithinOut T s (execPairLoRead off wide src t s) := by
  have h : Within T s s := Within.start
  unfold execPairLoRead
  try dsimp only
  repeat' (
    first
      | with_reducible exact h | with_reducible rfl | (with_reducible refine sub_of ?_ hT; decide)
      | with_reducible assumption | with_reducible exact WithinOut.fault _ | with_reducible apply WithinOut.next
      | with_reducible apply emit_within | with_reducible apply badAccess_within
      | (with_reducible apply foldl_within; intro _ _ h)
      | simp only [Within.upd_iff, (has_of hT (by decide) : Has T 6), or_true, true_or, eq_self]
      | with_reducible apply Within.ite | with_reducible apply WithinOut.ite | split | dsimp only)

end Sys2Proof.Machine
end

