-- ==== Sys2Proof/Laws/WithinRegisterWrite.lean ====
section
/-! SUPPORT. The places that the operations of Machine/RegisterWrite.lean may change (Laws/Within.lean). -/

namespace Sys2Proof.Machine

variable {T : Nat} {s0 s : State}

/-- An optional outcome that, where there is one, stays within the places of the mask. -/
def WithinOpt (T : Nat) (s0 : State) (x : Option (Host.Outcome State Fault Refusal)) : Prop :=
  match x with
  | some o => WithinOut T s0 o
  | none => True

theorem WithinOpt.none : WithinOpt T s0 none := trivial

theorem WithinOpt.some {o : Host.Outcome State Fault Refusal} (h : WithinOut T s0 o) : WithinOpt T s0 (some o) := h

theorem WithinOpt.ite {c : Prop} [Decidable c] {o o' : Option (Host.Outcome State Fault Refusal)} (h : WithinOpt T s0 o)
    (h' : WithinOpt T s0 o') : WithinOpt T s0 (if c then o else o') := by
  split
  · exact h
  · exact h'

theorem WithinOut.after {o : Host.Outcome State Fault Refusal} (h : Within T s0 s) (k : WithinOut T s o) :
    WithinOut T s0 o := by
  cases o with
  | next s' => exact h.trans k
  | fault _ => trivial
  | refused _ => trivial

theorem onBit_within (v : Word) (i : Nat) {f : State → Host.Outcome State Fault Refusal} (hf : WithinOut T s (f s)) :
    WithinOut T s (onBit v i f s) := by
  unfold onBit
  exact WithinOut.ite hf (WithinOut.next Within.start)

theorem andThen_within {o : Host.Outcome State Fault Refusal} {f : State → Host.Outcome State Fault Refusal}
    (ho : WithinOut T s0 o) (hf : ∀ s, WithinOut T s (f s)) : WithinOut T s0 (andThen o f) := by
  cases o with
  | next s' => exact WithinOut.after ho (hf s')
  | fault _ => trivial
  | refused _ => trivial

theorem plainWrite_within (h : Within T s0 s) (off : Nat) (mask : Nat) (v : Word)
    (hr : Allowed T off) : Within T s0 (plainWrite s off mask v) := by
  unfold plainWrite
  try dsimp only
  repeat' (
    first
      | with_reducible exact h | with_reducible rfl | (with_reducible refine sub_of ?_ hT; decide)
      | with_reducible assumption | with_reducible apply wr_within | with_reducible apply wr_within
      | (with_reducible apply foldl_within; intro _ _ h) | with_reducible apply Within.ite | split)

theorem clearBits_within (h : Within T s0 s) (off : Nat) (mask : Nat) (v : Word)
    (hr : Allowed T off) : Within T s0 (clearBits s off mask v) := by
  unfold clearBits
  try dsimp only
  repeat' (
    first
      | with_reducible exact h | with_reducible rfl | (with_reducible refine sub_of ?_ hT; decide)
      | with_reducible assumption | with_reducible apply wr_within | with_reducible apply wr_within
      | (with_reducible apply foldl_within; intro _ _ h) | with_reducible apply Within.ite | split)

theorem clearAlerts_within (h : Within T s0 s) (v : Word) (hT :
    0x20000000000000000000000000000000000000000000000000000000000000000000000000000000808000000 ||| T = T) : Within T
    s0 (clearAlerts s v) := by
  unfold clearAlerts
  try dsimp only
  repeat' (
    first
      | with_reducible exact h | with_reducible rfl | (with_reducible refine sub_of ?_ hT; decide)
      | with_reducible assumption | with_reducible apply clearBits_within | with_reducible apply dropAlarms_within
      | with_reducible apply emit_within | with_reducible exact allowed_HST_ALERT_STATUS (has_of hT (by decide))
      | (with_reducible apply foldl_within; intro _ _ h) | with_reducible apply Within.ite | split | dsimp only)

theorem writeTick_within (off : Nat) (v : Word) (t : Nat)
    (hT : 0x130000800200000000000000000000000000000000000000000007a0001f807200002f8000000020da7c006f80 ||| T = T) : WithinOpt T s
    (writeTick off v t s) := by
  have h : Within T s s := Within.start
  unfold writeTick
  try dsimp only
  repeat' (
    first
      | with_reducible exact h | with_reducible rfl | (with_reducible refine sub_of ?_ hT; decide)
      | with_reducible assumption | with_reducible exact WithinOut.fault _ | with_reducible apply WithinOut.next
      | with_reducible exact WithinOpt.none | with_reducible apply WithinOpt.some
      | with_reducible apply setSched_within | with_reducible apply execOverlayCommit_within
      | with_reducible apply execTickCountClr_within | with_reducible apply onBit_within
      | (with_reducible apply foldl_within; intro _ _ h) | with_reducible apply WithinOut.ite
      | with_reducible apply WithinOpt.ite | with_reducible apply Within.ite | split | dsimp only)

theorem writeGuard_within (off : Nat) (v : Word) (t : Nat)
    (hT : 0x13000080020000000000000000000000000000000000000000000007cc1f9173c8000000000000080a78013004 ||| T = T) : WithinOpt T s
    (writeGuard off v t s) := by
  have h : Within T s s := Within.start
  unfold writeGuard
  try dsimp only
  repeat' (
    first
      | with_reducible exact h | with_reducible rfl | (with_reducible refine sub_of ?_ hT; decide)
      | with_reducible assumption | with_reducible exact WithinOut.fault _ | with_reducible apply WithinOut.next
      | with_reducible exact WithinOpt.none | with_reducible apply WithinOpt.some
      | with_reducible apply execWatchdogKick_within | with_reducible apply execSupRelease_within
      | with_reducible apply execFencePartActiveWrite_within | with_reducible apply execEgressCapWrite_within
      | with_reducible apply execSupReady_within | with_reducible apply execSupCountClr_within
      | with_reducible apply execFenceCountClr_within | with_reducible apply execFenceVlogClr_within
      | with_reducible apply execPartCountClr_within | with_reducible apply execPartLogClr_within
      | with_reducible apply onBit_within | (with_reducible apply andThen_within; rotate_left; intro _)
      | (with_reducible apply foldl_within; intro _ _ h) | with_reducible apply WithinOut.ite
      | with_reducible apply WithinOpt.ite | with_reducible apply Within.ite | split | dsimp only)

theorem writeQueueCfg_within (h : Within T s0 s) (q : Nat) (off : Nat) (mask : Nat) (v : Word)
    (hT : 0x100 ||| T = T) (hr : Allowed T off) : Within T s0 (writeQueueCfg q off mask v s) := by
  unfold writeQueueCfg
  try dsimp only
  repeat' (
    first
      | with_reducible exact h | with_reducible rfl | (with_reducible refine sub_of ?_ hT; decide)
      | with_reducible assumption | with_reducible apply setQueue_within | with_reducible apply plainWrite_within
      | (with_reducible apply foldl_within; intro _ _ h) | with_reducible apply Within.ite | split)

theorem writeWq_within (off : Nat) (mask : Nat) (v : Word) (t : Nat)
    (hT : 0x2c80000001001300008002000000000008040000000001000010002000d8000f9fe0001f807000000100000000a0da7d566f80 ||| T = T)
    (hr : Allowed T off) : WithinOpt T s (writeWq off mask v t s) := by
  have h : Within T s s := Within.start
  unfold writeWq
  try dsimp only
  repeat' (
    first
      | with_reducible exact h | with_reducible rfl | (with_reducible refine sub_of ?_ hT; decide)
      | with_reducible assumption | with_reducible exact WithinOut.fault _ | with_reducible apply WithinOut.next
      | with_reducible exact WithinOpt.none | with_reducible apply WithinOpt.some
      | with_reducible apply execQueueEnable_within | with_reducible apply execQueueShutdown_within
      | with_reducible apply execQueueReset_within | with_reducible apply execQueueInvalidate_within
      | with_reducible apply execDoorbellSqTail_within | with_reducible apply execDoorbellCqHead_within
      | with_reducible apply execWqCountClr_within | with_reducible apply onBit_within
      | with_reducible apply writeQueueCfg_within | (with_reducible apply andThen_within; rotate_left; intro _)
      | (with_reducible apply foldl_within; intro _ _ h) | with_reducible apply WithinOut.ite
      | with_reducible apply WithinOpt.ite | with_reducible apply Within.ite | split | dsimp only)

theorem writeSync_within (off : Nat) (v : Word) (src : Requester) (t : Nat)
    (hT : 0x1300008002000000000000000000000000000000000001d800000000001f807000000000000000000a78022000 ||| T = T) : WithinOpt T s
    (writeSync off v src t s) := by
  have h : Within T s s := Within.start
  unfold writeSync
  try dsimp only
  repeat' (
    first
      | with_reducible exact h | with_reducible rfl | (with_reducible refine sub_of ?_ hT; decide)
      | with_reducible assumption | with_reducible exact WithinOut.fault _ | with_reducible apply WithinOut.next
      | with_reducible exact WithinOpt.none | with_reducible apply WithinOpt.some
      | with_reducible apply execManualSet_within | with_reducible apply execManualClear_within
      | with_reducible apply execSyncCountClr_within | with_reducible apply execSyncFaultLogClr_within
      | with_reducible apply execSyncAuditWrapClr_within | with_reducible apply onBit_within
      | (with_reducible apply andThen_within; rotate_left; intro _) | (with_reducible apply foldl_within; intro _ _ h)
      | with_reducible apply WithinOut.ite | with_reducible apply WithinOpt.ite | with_reducible apply Within.ite
      | split | dsimp only)

theorem writeHub_within (h_ : Nat) (off : Nat) (v : Word)
    (hT : 0x1e9403800000000000000000000000000000000000000000000000007cc000000000000000000000000000000000000000400000 ||| T = T) : WithinOpt T s
    (writeHub h_ off v s) := by
  have h : Within T s s := Within.start
  unfold writeHub
  try dsimp only
  repeat' (
    first
      | with_reducible exact h | with_reducible rfl | (with_reducible refine sub_of ?_ hT; decide)
      | with_reducible assumption | with_reducible exact WithinOut.fault _ | with_reducible apply WithinOut.next
      | with_reducible exact WithinOpt.none | with_reducible apply WithinOpt.some
      | with_reducible apply execHubCollCountClr_within | with_reducible apply execHubCollLogClr_within
      | with_reducible apply execHubCountClr_within | with_reducible apply execSpkCountClr_within
      | with_reducible apply execSpkLogClr_within | with_reducible apply onBit_within
      | (with_reducible apply foldl_within; intro _ _ h) | with_reducible apply WithinOut.ite
      | with_reducible apply WithinOpt.ite | with_reducible apply Within.ite | split | dsimp only)

theorem writeLinks_within (off : Nat) (v : Word)
    (hT : 0x3fc3f19ec000000000000000000000000000000000000000800040000 ||| T = T) : WithinOpt T s
    (writeLinks off v s) := by
  have h : Within T s s := Within.start
  unfold writeLinks
  try dsimp only
  repeat' (
    first
      | with_reducible exact h | with_reducible rfl | (with_reducible refine sub_of ?_ hT; decide)
      | with_reducible assumption | with_reducible exact WithinOut.fault _ | with_reducible apply WithinOut.next
      | with_reducible exact WithinOpt.none | with_reducible apply WithinOpt.some
      | with_reducible apply execPortRetry_within | with_reducible apply execLnkCountClr_within
      | with_reducible apply execLnkLogClr_within | with_reducible apply execFabCountClr_within
      | with_reducible apply onBit_within | (with_reducible apply foldl_within; intro _ _ h)
      | with_reducible apply WithinOut.ite | with_reducible apply WithinOpt.ite | with_reducible apply Within.ite
      | split | dsimp only)

theorem writeTly_within (off : Nat) (v : Word) (src : Requester) (t : Nat)
    (hT : 0x130000800200000000000000efffff80400000000000000000000000001f807000000000000000000a78802000 ||| T = T) : WithinOpt T s
    (writeTly off v src t s) := by
  have h : Within T s s := Within.start
  unfold writeTly
  try dsimp only
  repeat' (
    first
      | with_reducible exact h | with_reducible rfl | (with_reducible refine sub_of ?_ hT; decide)
      | with_reducible assumption | with_reducible exact WithinOut.fault _ | with_reducible apply WithinOut.next
      | with_reducible exact WithinOpt.none | with_reducible apply WithinOpt.some
      | with_reducible apply execTlyStreamWrite_within | with_reducible apply execTlyFwdHeadWrite_within
      | with_reducible apply execTlyCountClr_within | with_reducible apply onBit_within
      | (with_reducible apply foldl_within; intro _ _ h) | with_reducible apply WithinOut.ite
      | with_reducible apply WithinOpt.ite | with_reducible apply Within.ite | split | dsimp only)

theorem writeLdg_within (off : Nat) (v : Word) (t : Nat)
    (hT : 0x2c0000000000130000800240000804293ff4000000000100000000000000000007a0001f80700000000000000020da7d74ef00 ||| T = T) : WithinOpt T s
    (writeLdg off v t s) := by
  have h : Within T s s := Within.start
  unfold writeLdg
  try dsimp only
  repeat' (
    first
      | with_reducible exact h | with_reducible rfl | (with_reducible refine sub_of ?_ hT; decide)
      | with_reducible assumption | with_reducible exact WithinOut.fault _ | with_reducible apply WithinOut.next
      | with_reducible exact WithinOpt.none | with_reducible apply WithinOpt.some
      | with_reducible apply execLdgAdmit_within | with_reducible apply execOutputRingEnable_within
      | with_reducible apply execLdgOutHeadWrite_within | with_reducible apply execLdgOrderAdmit_within
      | with_reducible apply execLdgCountClr_within | with_reducible apply onBit_within
      | (with_reducible apply foldl_within; intro _ _ h) | with_reducible apply WithinOut.ite
      | with_reducible apply WithinOpt.ite | with_reducible apply Within.ite | split | dsimp only)

theorem writeMsk_within (off : Nat) (v : Word) (t : Nat)
    (hT : 0x130000800204041ff4000000000000000000000000000000000000000000000000000000000000000a78000000 ||| T = T) : WithinOpt T s
    (writeMsk off v t s) := by
  have h : Within T s s := Within.start
  unfold writeMsk
  try dsimp only
  repeat' (
    first
      | with_reducible exact h | with_reducible rfl | (with_reducible refine sub_of ?_ hT; decide)
      | with_reducible assumption | with_reducible exact WithinOut.fault _ | with_reducible apply WithinOut.next
      | with_reducible exact WithinOpt.none | with_reducible apply WithinOpt.some
      | with_reducible apply execAutoLoad_within | with_reducible apply execAutoUnload_within
      | with_reducible apply execAdapterRegister_within | with_reducible apply execMskCountClr_within
      | with_reducible apply onBit_within | (with_reducible apply foldl_within; intro _ _ h)
      | with_reducible apply WithinOut.ite | with_reducible apply WithinOpt.ite | with_reducible apply Within.ite
      | split | dsimp only)

theorem writeTimer_within (h : Within T s0 s) (k : Nat) (off : Nat) (v : Word) (src : Requester) (t : Nat)
    (hT : 0x170000800200000000000000000000000000000000000000000000000000000000000000000000000a7a000000 ||| T = T)
    (hr : Allowed T off) : Within T s0 (writeTimer k off v src t s) := by
  unfold writeTimer
  try dsimp only
  repeat' (
    first
      | with_reducible exact h | with_reducible rfl | (with_reducible refine sub_of ?_ hT; decide)
      | with_reducible assumption | with_reducible apply wr_within | with_reducible apply badAccess_within
      | with_reducible apply setBkg_within | with_reducible apply wr_within
      | (with_reducible apply foldl_within; intro _ _ h) | with_reducible apply Within.ite | split)

theorem writeBkg_within (off : Nat) (v : Word) (src : Requester) (t : Nat)
    (hT : 0x170003ffde00000000000000000000000000000000000000000000000000000000000000000000000a7a000000 ||| T = T)
    (hr : Allowed T off) : WithinOpt T s (writeBkg off v src t s) := by
  have h : Within T s s := Within.start
  unfold writeBkg
  try dsimp only
  repeat' (
    first
      | with_reducible exact h | with_reducible rfl | (with_reducible refine sub_of ?_ hT; decide)
      | with_reducible assumption | with_reducible exact WithinOut.fault _ | with_reducible apply WithinOut.next
      | with_reducible exact WithinOpt.none | with_reducible apply WithinOpt.some
      | with_reducible apply execBkgCountClr_within | with_reducible apply execBkgLogClr_within
      | with_reducible apply onBit_within | with_reducible apply writeTimer_within
      | (with_reducible apply foldl_within; intro _ _ h) | with_reducible apply WithinOut.ite
      | with_reducible apply WithinOpt.ite | with_reducible apply Within.ite | split | dsimp only)

theorem writeHst_within (off : Nat) (v : Word) (src : Requester) (t : Nat)
    (hT : 0xe0048031f000080020000000000000000000000c00000000000000000000000001f917000000000000000040a7c00201c ||| T = T) : WithinOpt T s
    (writeHst off v src t s) := by
  have h : Within T s s := Within.start
  unfold writeHst
  try dsimp only
  repeat' (
    first
      | with_reducible exact h | with_reducible rfl | (with_reducible refine sub_of ?_ hT; decide)
      | with_reducible assumption | with_reducible exact WithinOut.fault _ | with_reducible apply WithinOut.next
      | with_reducible exact WithinOpt.none | with_reducible apply WithinOpt.some
      | with_reducible apply execPwrLimitWrite_within | with_reducible apply execLogRead_within
      | with_reducible apply execConfigLock_within | with_reducible apply execConfirm_within
      | with_reducible apply execHstCountClr_within | with_reducible apply execPwrCountClr_within
      | with_reducible apply onBit_within | with_reducible apply clearAlerts_within
      | (with_reducible apply andThen_within; rotate_left; intro _) | (with_reducible apply foldl_within; intro _ _ h)
      | with_reducible apply WithinOut.ite | with_reducible apply WithinOpt.ite | with_reducible apply Within.ite
      | split | dsimp only)

theorem ownWrite_within (off : Nat) (mask : Nat) (v : Word) (src : Requester) (t : Nat)
    (hT : 0x1ebc838e0049031f0003ffde44041ff4293ff4efffff80c3fc3f19ec7cc1d8000f9fe7cc1f9173c8002f800c0000acda7ff7ffbc ||| T = T)
    (hr : Allowed T off) : WithinOpt T s (ownWrite off mask v src t s) := by
  have h : Within T s s := Within.start
  unfold ownWrite
  try dsimp only
  repeat' (
    first
      | with_reducible exact h | with_reducible rfl | (with_reducible refine sub_of ?_ hT; decide)
      | with_reducible assumption | with_reducible exact WithinOut.fault _ | with_reducible apply WithinOut.next
      | with_reducible exact WithinOpt.none | with_reducible apply WithinOpt.some
      | with_reducible apply execLabelSubmit_within | with_reducible apply execSnap_within
      | with_reducible apply execTbuCountClr_within | with_reducible apply onBit_within
      | with_reducible apply writeTick_within | with_reducible apply writeGuard_within
      | with_reducible apply writeWq_within | with_reducible apply writeSync_within
      | with_reducible apply writeHub_within | with_reducible apply writeLinks_within
      | with_reducible apply writeTly_within | with_reducible apply writeLdg_within
      | with_reducible apply writeMsk_within | with_reducible apply writeBkg_within
      | with_reducible apply writeHst_within | (with_reducible apply foldl_within; intro _ _ h)
      | with_reducible apply WithinOut.ite | with_reducible apply WithinOpt.ite | with_reducible apply Within.ite
      | split | dsimp only)

theorem takeWrite_within (off : Nat) (r : RegRow) (v : Word) (src : Requester) (t : Nat) (hT : 0x1ebc838e0049031f0003ffde44041ff4293ff4efffff80c3fc3f19ec7cc1d8000f9fe7cc1f9173c8002f800c0000acda7ff7ffbc ||| T = T)
    (hr : Allowed T off) : WithinOut T s (takeWrite off r v src t s) := by
  have h : Within T s s := Within.start
  have h1 := ownWrite_within (s := s) off (regMask s off r) v src t (sub_of (by decide) hT) hr
  unfold takeWrite
  dsimp only
  split
  · rename_i o e
    rw [e] at h1
    exact h1
  · split
    · exact h
    · exact h
    · exact clearBits_within h _ _ _ hr
    · exact plainWrite_within h _ _ _ hr
    · exact plainWrite_within h _ _ _ hr
    · exact plainWrite_within h _ _ _ hr

theorem writeBar_within (off : Nat) (v : Word) (src : Requester) (t : Nat)
    (hT : 0x1ebc838e0049031f0003ffde44041ff4293ff4efffff80c3fc3f19ec7cc1d8000f9fe7cc1f9173c8002f800c0000acda7ff7ffbc ||| T = T)
    (hr : Allowed T off) : WithinOut T s (writeBar off v src t s) := by
  have h : Within T s s := Within.start
  unfold writeBar
  try dsimp only
  repeat' (
    first
      | with_reducible exact h | with_reducible rfl | (with_reducible refine sub_of ?_ hT; decide)
      | with_reducible assumption | with_reducible exact WithinOut.fault _ | with_reducible apply WithinOut.next
      | with_reducible apply fenceRefuse_within | with_reducible apply badAccess_within
      | with_reducible apply takeWrite_within | (with_reducible apply foldl_within; intro _ _ h)
      | with_reducible apply WithinOut.ite | with_reducible apply Within.ite | split | dsimp only)

theorem writeMsix_within (h : Within T s0 s) (fn : Nat) (off : Nat) (v : Word) (hT : 0xf00000000 ||| T = T) : Within T
    s0 (writeMsix fn off v s) := by
  unfold writeMsix
  try dsimp only
  repeat' (
    first
      | with_reducible exact h | with_reducible rfl | (with_reducible refine sub_of ?_ hT; decide)
      | with_reducible assumption | with_reducible apply emit_within
      | (with_reducible apply foldl_within; intro _ _ h)
      | simp only [Within.upd_iff, (has_of hT (by decide) : Has T 32), (has_of hT (by decide) : Has T 33), (has_of
          hT (by decide) : Has T 34), or_true, true_or, eq_self]
      | with_reducible apply Within.ite | split | dsimp only)

theorem execRegisterWrite_within (space : RegSpace) (off : Nat) (v : Word) (hi : Option Word) (src : Requester)
    (t : Nat)
    (hT : 0x11ebc838e0049031f0003ffde44041ff4293ff4efffff80c3fc3f19ec7cc1d8000f9fe7cc1f9173c8002f800c0000acdf7ff7ffbc ||| T = T)
    (hr : Allowed T off) : WithinOut T s (execRegisterWrite space off v hi src t s) := by
  have h : Within T s s := Within.start
  unfold execRegisterWrite
  try dsimp only
  repeat' (
    first
      | with_reducible exact h | with_reducible rfl | (with_reducible refine sub_of ?_ hT; decide)
      | with_reducible assumption | with_reducible exact WithinOut.fault _ | with_reducible apply WithinOut.next
      | with_reducible apply badAccess_within | with_reducible apply writeBar_within
      | with_reducible apply writeMsix_within | (with_reducible apply andThen_within; rotate_left; intro _)
      | with_reducible exact allowed_anyRegister _ (has_of hT (by decide))
      | (with_reducible apply foldl_within; intro _ _ h) | with_reducible apply WithinOut.ite
      | with_reducible apply Within.ite | split | dsimp only)

end Sys2Proof.Machine
end

