-- ==== Sys2Proof/Laws/Changes.lean ====
section
/-! SUPPORT. Every command stays within the places that `changes` names, as masks; and the way from a mask to a list of places. -/

namespace Sys2Proof.Machine

/-- The mask of a list of places. -/
def maskOf (l : List Place) : Nat := l.foldr (fun q m => 1 <<< q.ctorIdx ||| m) 0

theorem has_maskOf (l : List Place) (q : Place) : Has (maskOf l) q.ctorIdx ↔ q ∈ l := by
  unfold Has
  induction l with
  | nil => simp [maskOf]
  | cons p l ih =>
    have e : maskOf (p :: l) = 1 <<< p.ctorIdx ||| maskOf l := rfl
    have hp : (1 <<< p.ctorIdx).testBit q.ctorIdx = decide (p = q) := by
      rw [Nat.one_shiftLeft, Nat.testBit_two_pow]
      refine decide_eq_decide.2 ⟨fun h => ?_, congrArg _⟩
      rw [← Place.ofNat_ctorIdx p, ← Place.ofNat_ctorIdx q, h]
    rw [e, Nat.testBit_or, hp, Bool.or_eq_true, ih, List.mem_cons, decide_eq_true_eq, eq_comm]

/-- An outcome within the mask of a list changes only the places of the list. -/
theorem Within.changesOnly {l : List Place} {s s' : State} (h : Within (maskOf l) s s') : ChangesOnly l s s' := by
  have no : ∀ (q : Place) (i : Nat) (p : Prop), q ∉ l → i = q.ctorIdx → Has (maskOf l) i ∨ p → p := by
    intro q i p hq e x
    subst e
    exact x.elim (fun y => absurd ((has_maskOf l q).1 y) hq) id
  refine ⟨fun q hq => ?_, fun a ha => ?_⟩
  · cases q
    all_goals first
      | exact trivial

      | exact no _ 0 _ hq rfl h.build
      | exact no _ 1 _ hq rfl h.straps
      | exact no _ 2 _ hq rfl h.boot
      | exact no _ 3 _ hq rfl h.fuses
      | exact no _ 4 _ hq rfl h.clock
      | exact no _ 5 _ hq rfl h.tbu
      | exact no _ 6 _ hq rfl h.latches
      | exact no _ 7 _ hq rfl h.sched
      | exact no _ 8 _ hq rfl h.queues
      | exact no _ 9 _ hq rfl h.tags
      | exact no _ 10 _ hq rfl h.nextSlot
      | exact no _ 11 _ hq rfl h.readWait
      | exact no _ 12 _ hq rfl h.sup
      | exact no _ 13 _ hq rfl h.fence
      | exact no _ 14 _ hq rfl h.heldWrites
      | exact no _ 15 _ hq rfl h.heldPackets
      | exact no _ 16 _ hq rfl h.part
      | exact no _ 17 _ hq rfl h.sync
      | exact no _ 18 _ hq rfl h.ports
      | exact no _ 19 _ hq rfl h.bridge
      | exact no _ 20 _ hq rfl h.fab
      | exact no _ 21 _ hq rfl h.faults
      | exact no _ 22 _ hq rfl h.hubs
      | exact no _ 23 _ hq rfl h.tally
      | exact no _ 24 _ hq rfl h.ledger
      | exact no _ 25 _ hq rfl h.bkg
      | exact no _ 26 _ hq rfl h.host
      | exact no _ 27 _ hq rfl h.power
      | exact no _ 28 _ hq rfl h.logBuf
      | exact no _ 29 _ hq rfl h.logSeq
      | exact no _ 30 _ hq rfl h.pldmQ
      | exact no _ 31 _ hq rfl h.pldmReceiver
      | exact no _ 32 _ hq rfl h.msixUnmasked
      | exact no _ 33 _ hq rfl h.msixPending
      | exact no _ 34 _ hq rfl h.msixTable
      | exact no _ 35 _ hq rfl h.out
      | exact no _ 36 _ hq rfl h.free
      | exact no _ 37 _ hq rfl h.pending
      | exact fun a => congrArg (fun x => Mem.read _ x a) (no _ 38 _ hq rfl h.moduleMemory)
      | exact fun a => congrArg (fun x => Mem.read _ x a) (no _ 39 _ hq rfl h.hostMemory)
      | exact fun a => congrArg (fun x => Mem.read _ x a) (no _ 40 _ hq rfl h.coreSram)
      | exact fun a => congrArg (fun x => Mem.read _ x a) (no _ 41 _ hq rfl h.hubSram)
      | exact fun a => congrArg (fun x => Mem.read _ x a) (no _ 42 _ hq rfl h.flashMemory)
      | exact fun a => congrArg (fun x => Mem.read _ x a) (no _ 43 _ hq rfl h.supData)
      | exact fun a => congrArg (fun x => Mem.read _ x a) (no _ 44 _ hq rfl h.supCode)
      | exact no _ 45 _ hq rfl h.poisonMem
      | exact no _ 46 _ hq rfl h.poisonCsram
      | exact no _ 47 _ hq rfl h.poisonHsram
  · refine (h.regs a).elim (fun ⟨q, hq, hc⟩ => absurd hc (ha q ((has_maskOf l q).1 hq))) (fun e => ?_)
    unfold rd SMap.get
    rw [e]

/-- A mask widened: its fields are in the wider one, which lets every register change. -/
theorem Within.widen {T T' : Nat} {s s' : State} (h : Within T s s') (hf : (T % 2 ^ 48) ||| T' = T')
    (hr : Has T' 416) : Within T' s s' := by
  have up : ∀ (i : Nat) (p : Prop), i < 48 → Has T i ∨ p → Has T' i ∨ p := by
    intro i p hi x
    refine x.imp_left (fun y => has_of hf ?_)
    unfold Has at y
    rw [Nat.testBit_mod_two_pow, y, decide_eq_true hi, Bool.and_self]
  exact ⟨up 0 _ (by decide) h.build, up 1 _ (by decide) h.straps, up 2 _ (by decide) h.boot, up 3 _ (by decide) h.fuses, up 4 _ (by decide) h.clock, up 5 _ (by decide) h.tbu, up 6 _ (by decide) h.latches, up 7 _ (by decide) h.sched, up 8 _ (by decide) h.queues, up 9 _ (by decide) h.tags, up 10 _ (by decide) h.nextSlot, up 11 _ (by decide) h.readWait, up 12 _ (by decide) h.sup, up 13 _ (by decide) h.fence, up 14 _ (by decide) h.heldWrites, up 15 _ (by decide) h.heldPackets, up 16 _ (by decide) h.part, up 17 _ (by decide) h.sync, up 18 _ (by decide) h.ports, up 19 _ (by decide) h.bridge, up 20 _ (by decide) h.fab, up 21 _ (by decide) h.faults, up 22 _ (by decide) h.hubs, up 23 _ (by decide) h.tally, up 24 _ (by decide) h.ledger, up 25 _ (by decide) h.bkg, up 26 _ (by decide) h.host, up 27 _ (by decide) h.power, up 28 _ (by decide) h.logBuf, up 29 _ (by decide) h.logSeq, up 30 _ (by decide) h.pldmQ, up 31 _ (by decide) h.pldmReceiver, up 32 _ (by decide) h.msixUnmasked, up 33 _ (by decide) h.msixPending, up 34 _ (by decide) h.msixTable, up 35 _ (by decide) h.out, up 36 _ (by decide) h.free, up 37 _ (by decide) h.pending, up 38 _ (by decide) h.moduleMemory, up 39 _ (by decide) h.hostMemory, up 40 _ (by decide) h.coreSram, up 41 _ (by decide) h.hubSram, up 42 _ (by decide) h.flashMemory, up 43 _ (by decide) h.supData, up 44 _ (by decide) h.supCode, up 45 _ (by decide) h.poisonMem, up 46 _ (by decide) h.poisonCsram, up 47 _ (by decide) h.poisonHsram, fun a => .inl (allowed_anyRegister a hr)⟩

theorem WithinOut.mono {T T' : Nat} {s : State} {o : Host.Outcome State Fault Refusal} (h : WithinOut T s o)
    (hw : ∀ s', Within T s s' → Within T' s s') : WithinOut T' s o := by
  cases o with
  | next s' => exact hw s' h
  | fault _ => trivial
  | refused _ => trivial

theorem widen_out {c : Instr} {s : State} (T : Nat) (h : WithinOut T s (exec c s))
    (hf : (T % 2 ^ 48) ||| maskOf (changes c) = maskOf (changes c)) (hr : Has (maskOf (changes c)) 416) :
    WithinOut (maskOf (changes c)) s (exec c s) :=
  h.mono (fun _ k => k.widen hf hr)

set_option maxRecDepth 4000 in
/-- Every command stays within the places that `changes` names. -/
theorem exec_within (c : Instr) (s : State) : WithinOut (maskOf (changes c)) s (exec c s) := by
  cases c
  case tickEdge => rw [changes]; exact execTickEdge_within _ _ (by decide)
  case firstTick => rw [changes]; exact execFirstTick_within _ (by decide)
  case maintenanceSlotOpen => rw [changes]; exact execMaintenanceSlotOpen_within (by decide)
  case graceDeadline => rw [changes]; exact execGraceDeadline_within (by decide)
  case itemStart => rw [changes]; exact execItemStart_within _ _ (by decide)
  case workItemComplete => rw [changes]; exact execWorkItemComplete_within _ _ (by decide)
  case overlayCommit => rw [changes]; exact execOverlayCommit_within _ (by decide)
  case registerWrite =>
    exact widen_out 0x11ebc838e0049031f0003ffde44041ff4293ff4efffff80c3fc3f19ec7cc1d8000f9fe7cc1f9173c8002f800c0000acdf7ff7ffbc
      (execRegisterWrite_within _ _ _ _ _ _ (by decide) (allowed_anyRegister _ (by unfold Has; decide)))
      (by rw [changes]; decide) (by rw [changes]; unfold Has; decide)
  case barRefusedAccess => rw [changes]; exact execBarRefusedAccess_within _ _ _ (by decide)
  case supervisorBusError => rw [changes]; exact execSupervisorBusError_within _ _ (by decide)
  case ppsInEdge => rw [changes]; exact execPpsInEdge_within _ _ (by decide)
  case ppsInLoss => rw [changes]; exact execPpsInLoss_within _ (by decide)
  case ref10mQualify => rw [changes]; exact execRef10mQualify_within _ (by decide)
  case ref10mLoss => rw [changes]; exact execRef10mLoss_within _ (by decide)
  case ptpSyncRx => rw [changes]; exact execPtpSyncRx_within _ _ _ (by decide)
  case ptpAnnounceRx => rw [changes]; exact execPtpAnnounceRx_within _ _ _ _ _ _ _ _ (by decide)
  case ptpLoss => rw [changes]; exact execPtpLoss_within _ (by decide)
  case ptpMeasurement => rw [changes]; exact execPtpMeasurement_within _ (by decide)
  case revertHoldOffExpiry => rw [changes]; exact execRevertHoldOffExpiry_within _ (by decide)
  case untraceableEntry => rw [changes]; exact execUntraceableEntry_within _ (by decide)
  case labelSubmit => rw [changes]; exact execLabelSubmit_within _ (by decide)
  case snap => rw [changes]; exact execSnap_within _ (by decide)
  case ppsOutRise => rw [changes]; exact execPpsOutRise_within _ (by decide)
  case powerOn =>
    exact widen_out 0x100000000000000000000000000000000000000000000000000000000000000000000000000000000000000000000fb7ffffffff4
      (execPowerOn_within (by decide))
      (by rw [changes]; decide) (by rw [changes]; unfold Has; decide)
  case resetNAssert =>
    exact widen_out 0x100000000000000000000000000000000000000000000000000000000000000000000000000000000000000000000fb7ffffffff4
      (execResetNAssert_within _ (by decide))
      (by rw [changes]; decide) (by rw [changes]; unfold Has; decide)
  case resetRelease =>
    exact widen_out 0x100000000000060130000800200000000000000000000000000000000000000000000000000000000000000000000ff7ffffffff6
      (execResetRelease_within _ _ _ _ _ (by decide))
      (by rw [changes]; decide) (by rw [changes]; unfold Has; decide)
  case flashReadTimeout => rw [changes]; exact execFlashReadTimeout_within _ (by decide)
  case imageReadComplete => rw [changes]; exact execImageReadComplete_within _ _ (by decide)
  case loadComplete =>
    exact widen_out 0x100400000000000130180800300000000000000000000000000000000000000000000002040000020000000000000180a7b553094
      (execLoadComplete_within (by decide))
      (by rw [changes]; decide) (by rw [changes]; unfold Has; decide)
  case hwTrainingComplete => rw [changes]; exact execHwTrainingComplete_within _ _ (by decide)
  case fwInitBudgetExpiry => rw [changes]; exact execFwInitBudgetExpiry_within _ (by decide)
  case portBringupStart => rw [changes]; exact execPortBringupStart_within _ (by decide)
  case supReady => rw [changes]; exact execSupReady_within _ (by decide)
  case configLock => rw [changes]; exact execConfigLock_within _ (by decide)
  case lockWindowExpiry => rw [changes]; exact execLockWindowExpiry_within _ (by decide)
  case confirm => rw [changes]; exact execConfirm_within (by decide)
  case comparatorMismatch => rw [changes]; exact execComparatorMismatch_within _ (by decide)
  case delayParityError => rw [changes]; exact execDelayParityError_within _ (by decide)
  case comparatorSelfTest => rw [changes]; exact execComparatorSelfTest_within _ _ _ (by decide)
  case watchdogFire => rw [changes]; exact execWatchdogFire_within _ _ (by decide)
  case watchdogKick => rw [changes]; exact execWatchdogKick_within _ (by decide)
  case supervisorEntry => rw [changes]; exact execSupervisorEntry_within (by decide)
  case supRelease => rw [changes]; exact execSupRelease_within (by decide)
  case fencePartActiveWrite => rw [changes]; exact execFencePartActiveWrite_within _ _ (by decide)
  case egressCapWrite => rw [changes]; exact execEgressCapWrite_within _ _ _ (by decide)
  case tableReloadComplete => rw [changes]; exact execTableReloadComplete_within _ _ (by decide)
  case packetArrive => rw [changes]; exact execPacketArrive_within _ _ _ (by decide)
  case keyRejectNoticeRx => rw [changes]; exact execKeyRejectNoticeRx_within _ _ _ (by decide)
  case queueEnable => rw [changes]; exact execQueueEnable_within _ _ (by decide)
  case queueShutdown => rw [changes]; exact execQueueShutdown_within _ (by decide)
  case queueReset => rw [changes]; exact execQueueReset_within _ _ (by decide)
  case queueInvalidate => rw [changes]; exact execQueueInvalidate_within _ _ (by decide)
  case invalidateComplete => rw [changes]; exact execInvalidateComplete_within _ _ (by decide)
  case abortedRecordsWrite => rw [changes]; exact execAbortedRecordsWrite_within _ _ (by decide)
  case doorbellSqTail => rw [changes]; exact execDoorbellSqTail_within _ _ _ (by decide)
  case doorbellCqHead => rw [changes]; exact execDoorbellCqHead_within _ _ _ (by decide)
  case nop => rw [changes]; exact execNop_within _ _ _ (by decide)
  case compute => rw [changes]; exact execCompute_within _ _ _ (by decide)
  case copy => rw [changes]; exact execCopy_within _ _ (by decide)
  case barrier => rw [changes]; exact execBarrier_within _ _ _ (by decide)
  case allReduce => rw [changes]; exact execAllReduce_within _ _ _ (by decide)
  case reduce => rw [changes]; exact execReduce_within _ _ _ (by decide)
  case reduceScatter => rw [changes]; exact execReduceScatter_within _ _ _ (by decide)
  case allGather => rw [changes]; exact execAllGather_within _ _ _ (by decide)
  case gather => rw [changes]; exact execGather_within _ _ _ (by decide)
  case scatter => rw [changes]; exact execScatter_within _ _ _ (by decide)
  case broadcast => rw [changes]; exact execBroadcast_within _ _ _ (by decide)
  case allToAll => rw [changes]; exact execAllToAll_within _ _ _ (by decide)
  case send => rw [changes]; exact execSend_within _ _ (by decide)
  case recv => rw [changes]; exact execRecv_within _ _ _ (by decide)
  case stream => rw [changes]; exact execStream_within _ _ _ _ (by decide)
  case serveSubmit => rw [changes]; exact execServeSubmit_within _ _ _ (by decide)
  case serveCancel => rw [changes]; exact execServeCancel_within _ _ _ (by decide)
  case servePause => rw [changes]; exact execServePause_within _ _ _ (by decide)
  case serveResume => rw [changes]; exact execServeResume_within _ _ _ (by decide)
  case hostReadCompletion => rw [changes]; exact execHostReadCompletion_within _ _ _ _ (by decide)
  case completionTimeout => rw [changes]; exact execCompletionTimeout_within _ _ (by decide)
  case tagQuarantineEnd => rw [changes]; exact execTagQuarantineEnd_within _ (by decide)
  case flagSet => rw [changes]; exact execFlagSet_within _ _ _ (by decide)
  case flagClear => rw [changes]; exact execFlagClear_within _ _ _ (by decide)
  case flagWait => rw [changes]; exact execFlagWait_within _ _ _ (by decide)
  case flagWaitClr => rw [changes]; exact execFlagWaitClr_within _ _ _ (by decide)
  case tileSet => rw [changes]; exact execTileSet_within _ _ _ (by decide)
  case waiterRelease => rw [changes]; exact execWaiterRelease_within _ _ (by decide)
  case manualSet => rw [changes]; exact execManualSet_within _ _ _ _ (by decide)
  case manualClear => rw [changes]; exact execManualClear_within _ _ _ _ (by decide)
  case armMessageRx => rw [changes]; exact execArmMessageRx_within _ _ _ (by decide)
  case armStepTimeout => rw [changes]; exact execArmStepTimeout_within _ _ (by decide)
  case sealRx => rw [changes]; exact execSealRx_within _ _ _ _ _ _ (by decide)
  case dataPhaseStart => rw [changes]; exact execDataPhaseStart_within _ _ (by decide)
  case segmentRx => rw [changes]; exact execSegmentRx_within _ _ _ _ _ _ _ _ (by decide)
  case segmentCreditRx => rw [changes]; exact execSegmentCreditRx_within _ _ _ _ (by decide)
  case withdrawNoticeRx => rw [changes]; exact execWithdrawNoticeRx_within _ _ _ _ (by decide)
  case dataStepTimeout => rw [changes]; exact execDataStepTimeout_within _ _ _ (by decide)
  case reArmRx => rw [changes]; exact execReArmRx_within _ _ _ _ (by decide)
  case treeResume => rw [changes]; exact execTreeResume_within _ _ _ (by decide)
  case microNop => rw [changes]; exact execMicroNop_within _ _ _ (by decide)
  case microLdi => rw [changes]; exact execMicroLdi_within _ _ _ (by decide)
  case microLdctx => rw [changes]; exact execMicroLdctx_within _ _ _ (by decide)
  case microAdd => rw [changes]; exact execMicroAdd_within _ _ _ (by decide)
  case microSub => rw [changes]; exact execMicroSub_within _ _ _ (by decide)
  case microAnd => rw [changes]; exact execMicroAnd_within _ _ _ (by decide)
  case microOr => rw [changes]; exact execMicroOr_within _ _ _ (by decide)
  case microShl => rw [changes]; exact execMicroShl_within _ _ _ (by decide)
  case microShr => rw [changes]; exact execMicroShr_within _ _ _ (by decide)
  case microGrant => rw [changes]; exact execMicroGrant_within _ _ _ (by decide)
  case microRead => rw [changes]; exact execMicroRead_within _ _ _ (by decide)
  case microComb => rw [changes]; exact execMicroComb_within _ _ _ (by decide)
  case microFill => rw [changes]; exact execMicroFill_within _ _ _ (by decide)
  case microSend => rw [changes]; exact execMicroSend_within _ _ _ (by decide)
  case microWrite => rw [changes]; exact execMicroWrite_within _ _ _ (by decide)
  case microSetf => rw [changes]; exact execMicroSetf_within _ _ _ (by decide)
  case microClrf => rw [changes]; exact execMicroClrf_within _ _ _ (by decide)
  case microEnd => rw [changes]; exact execMicroEnd_within _ _ _ (by decide)
  case engineOpComplete => rw [changes]; exact execEngineOpComplete_within _ _ _ (by decide)
  case waitConditionTrue => rw [changes]; exact execWaitConditionTrue_within _ _ (by decide)
  case spokeRestart => rw [changes]; exact execSpokeRestart_within _ (by decide)
  case csBlockReloadComplete => rw [changes]; exact execCsBlockReloadComplete_within _ _ _ _ (by decide)
  case flitRx => rw [changes]; exact execFlitRx_within _ _ _ _ _ (by decide)
  case nakRx => rw [changes]; exact execNakRx_within _ _ _ (by decide)
  case ackTimerExpiry => rw [changes]; exact execAckTimerExpiry_within _ _ (by decide)
  case replayBudgetExpiry => rw [changes]; exact execReplayBudgetExpiry_within _ _ (by decide)
  case faultRx => rw [changes]; exact execFaultRx_within _ _ (by decide)
  case abortFlitRx => rw [changes]; exact execAbortFlitRx_within _ _ _ (by decide)
  case signalLoss => rw [changes]; exact execSignalLoss_within _ _ _ (by decide)
  case trainingFrameRx => rw [changes]; exact execTrainingFrameRx_within _ (by decide)
  case holdRx => rw [changes]; exact execHoldRx_within _ (by decide)
  case holdRetry => rw [changes]; exact execHoldRetry_within _ (by decide)
  case bringupComplete => rw [changes]; exact execBringupComplete_within _ _ (by decide)
  case capRx => rw [changes]; exact execCapRx_within _ _ _ (by decide)
  case capAckRx => rw [changes]; exact execCapAckRx_within _ (by decide)
  case capRefuseRx => rw [changes]; exact execCapRefuseRx_within _ _ _ (by decide)
  case widthReqRx => rw [changes]; exact execWidthReqRx_within _ _ _ (by decide)
  case widthAckRx => rw [changes]; exact execWidthAckRx_within _ _ _ (by decide)
  case portRetrainTimer => rw [changes]; exact execPortRetrainTimer_within _ (by decide)
  case portRetry => rw [changes]; exact execPortRetry_within _ (by decide)
  case linkFaultNoticeRx => rw [changes]; exact execLinkFaultNoticeRx_within _ _ (by decide)
  case bridgeFail => rw [changes]; exact execBridgeFail_within _ _ _ (by decide)
  case bridgeRetrain => rw [changes]; exact execBridgeRetrain_within _ (by decide)
  case nodeDownRx => rw [changes]; exact execNodeDownRx_within _ _ _ (by decide)
  case nodeUpRx => rw [changes]; exact execNodeUpRx_within _ _ _ (by decide)
  case joinRx => rw [changes]; exact execJoinRx_within _ _ _ _ _ (by decide)
  case e2eAckRx => rw [changes]; exact execE2eAckRx_within _ _ _ _ _ (by decide)
  case e2eNakRx => rw [changes]; exact execE2eNakRx_within _ _ _ _ (by decide)
  case e2eAckTimer => rw [changes]; exact execE2eAckTimer_within _ _ _ (by decide)
  case e2eTimeout => rw [changes]; exact execE2eTimeout_within _ _ _ _ (by decide)
  case ingestFrameRx => rw [changes]; exact execIngestFrameRx_within _ _ _ (by decide)
  case ingestLinkDown => rw [changes]; exact execIngestLinkDown_within _ _ (by decide)
  case tlyStreamWrite => rw [changes]; exact execTlyStreamWrite_within _ _ _ _ _ (by decide)
  case tlyFwdHeadWrite => rw [changes]; exact execTlyFwdHeadWrite_within _ _ (by decide)
  case ldgAdmit => rw [changes]; exact execLdgAdmit_within _ _ (by decide)
  case ldgOrderAdmit => rw [changes]; exact execLdgOrderAdmit_within _ _ (by decide)
  case outputRingEnable => rw [changes]; exact execOutputRingEnable_within _ _ (by decide)
  case ldgOutHeadWrite => rw [changes]; exact execLdgOutHeadWrite_within _ _ (by decide)
  case microstepBoundary => rw [changes]; exact execMicrostepBoundary_within _ (by decide)
  case decodeStepEnd => rw [changes]; exact execDecodeStepEnd_within _ _ _ (by decide)
  case prefillChunkEnd => rw [changes]; exact execPrefillChunkEnd_within _ _ _ (by decide)
  case slotUpdateRx => rw [changes]; exact execSlotUpdateRx_within _ _ _ _ _ _ _ (by decide)
  case pauseTtlExpiry => rw [changes]; exact execPauseTtlExpiry_within _ _ (by decide)
  case coldPauseComplete => rw [changes]; exact execColdPauseComplete_within _ _ (by decide)
  case summaryStoreComplete => rw [changes]; exact execSummaryStoreComplete_within _ _ (by decide)
  case coldResumeComplete => rw [changes]; exact execColdResumeComplete_within _ _ _ (by decide)
  case orderRx => rw [changes]; exact execOrderRx_within _ _ _ _ (by decide)
  case orderRefuseNoticeRx => rw [changes]; exact execOrderRefuseNoticeRx_within _ _ _ (by decide)
  case orderQueueTimeout => rw [changes]; exact execOrderQueueTimeout_within _ _ (by decide)
  case kvShipComplete => rw [changes]; exact execKvShipComplete_within _ _ _ _ _ (by decide)
  case kvShipTimeout => rw [changes]; exact execKvShipTimeout_within _ _ (by decide)
  case orderWithdrawRx => rw [changes]; exact execOrderWithdrawRx_within _ _ (by decide)
  case autoLoad => rw [changes]; exact execAutoLoad_within _ _ (by decide)
  case autoUnload => rw [changes]; exact execAutoUnload_within _ _ (by decide)
  case autoValidationDone => rw [changes]; exact execAutoValidationDone_within _ (by decide)
  case adapterRegister => rw [changes]; exact execAdapterRegister_within _ _ _ (by decide)
  case choreStart => rw [changes]; exact execChoreStart_within _ _ (by decide)
  case choreStop => rw [changes]; exact execChoreStop_within _ (by decide)
  case laneRecalStart => rw [changes]; exact execLaneRecalStart_within _ (by decide)
  case laneRecalDone => rw [changes]; exact execLaneRecalDone_within _ _ _ (by decide)
  case logPageProgram => rw [changes]; exact execLogPageProgram_within (by decide)
  case flashOpComplete => rw [changes]; exact execFlashOpComplete_within _ _ (by decide)
  case telemetrySample => rw [changes]; exact execTelemetrySample_within _ (by decide)
  case hwTimerExpiry => rw [changes]; exact execHwTimerExpiry_within _ (by decide)
  case flrPf0 => rw [changes]; exact execFlrPf0_within _ (by decide)
  case flrPf1 => rw [changes]; exact execFlrPf1_within (by decide)
  case perstNAssert => rw [changes]; exact execPerstNAssert_within _ (by decide)
  case perstNDeassert => rw [changes]; exact execPerstNDeassert_within (by decide)
  case atsInvalidateRequest => rw [changes]; exact execAtsInvalidateRequest_within _ _ (by decide)
  case atsInvalidateComplete => rw [changes]; exact execAtsInvalidateComplete_within _ (by decide)
  case ideIntegrityFail => rw [changes]; exact execIdeIntegrityFail_within _ (by decide)
  case ideKmKSetGo => rw [changes]; exact execIdeKmKSetGo_within _ (by decide)
  case setEndpointId => rw [changes]; exact execSetEndpointId_within _ _ (by decide)
  case getSensorReading => rw [changes]; exact execGetSensorReading_within _ _ _ (by decide)
  case setEventReceiver => rw [changes]; exact execSetEventReceiver_within _ _ (by decide)
  case pollForPlatformEventMessage => rw [changes]; exact execPollForPlatformEventMessage_within _ (by decide)
  case requestUpdate => rw [changes]; exact execRequestUpdate_within _ _ _ (by decide)
  case firmwareDataRx => rw [changes]; exact execFirmwareDataRx_within _ _ (by decide)
  case verifyComplete => rw [changes]; exact execVerifyComplete_within _ _ (by decide)
  case activateFirmware => rw [changes]; exact execActivateFirmware_within _ _ (by decide)
  case spdmGetMeasurements => rw [changes]; exact execSpdmGetMeasurements_within _ _ (by decide)
  case spdmKeyExchange => rw [changes]; exact execSpdmKeyExchange_within _ (by decide)
  case spdmChallenge => rw [changes]; exact execSpdmChallenge_within _ _ (by decide)
  case spdmGetCertificate => rw [changes]; exact execSpdmGetCertificate_within _ _ (by decide)
  case logRead => rw [changes]; exact execLogRead_within _ (by decide)
  case logReadComplete => rw [changes]; exact execLogReadComplete_within (by decide)
  case pwrLimitWrite => rw [changes]; exact execPwrLimitWrite_within _ _ _ (by decide)
  case limiterInterval => rw [changes]; exact execLimiterInterval_within _ _ (by decide)
  case railFault => rw [changes]; exact execRailFault_within _ (by decide)
  case railProtectReset =>
    exact widen_out 0x100000000000000000000000000000000000000000000000000000000000000000000000000000000000000000000fb7ffffffff4
      (execRailProtectReset_within (by decide))
      (by rw [changes]; decide) (by rw [changes]; unfold Has; decide)
  case railHoldRelease =>
    exact widen_out 0x100000000000060130000800200000000000000000000000000000000000000000000000000000000000000000000ff7ffffffff6
      (execRailHoldRelease_within _ _ _ _ _ (by decide))
      (by rw [changes]; decide) (by rw [changes]; unfold Has; decide)
  case thermalTrip =>
    exact widen_out 0x100000000000000000000000000000000000000000000000000000000000000000000000000000000000000000000fb7ffffffff4
      (execThermalTrip_within (by decide))
      (by rw [changes]; decide) (by rw [changes]; unfold Has; decide)
  case thermalHoldRelease =>
    exact widen_out 0x100000000000060130000800200000000000000000000000000000000000000000000000000000000000000000000ff7ffffffff6
      (execThermalHoldRelease_within _ _ _ _ _ (by decide))
      (by rw [changes]; decide) (by rw [changes]; unfold Has; decide)
  case alarmMinTimeExpiry => rw [changes]; exact execAlarmMinTimeExpiry_within _ (by decide)
  case tickCountClr => rw [changes]; exact execTickCountClr_within (by decide)
  case tbuCountClr => rw [changes]; exact execTbuCountClr_within (by decide)
  case supCountClr => rw [changes]; exact execSupCountClr_within (by decide)
  case fenceCountClr => rw [changes]; exact execFenceCountClr_within (by decide)
  case fenceVlogClr => rw [changes]; exact execFenceVlogClr_within (by decide)
  case partCountClr => rw [changes]; exact execPartCountClr_within (by decide)
  case partLogClr => rw [changes]; exact execPartLogClr_within (by decide)
  case wqCountClr => rw [changes]; exact execWqCountClr_within (by decide)
  case syncCountClr => rw [changes]; exact execSyncCountClr_within (by decide)
  case syncFaultLogClr => rw [changes]; exact execSyncFaultLogClr_within (by decide)
  case syncAuditWrapClr => rw [changes]; exact execSyncAuditWrapClr_within (by decide)
  case hubCollCountClr => rw [changes]; exact execHubCollCountClr_within (by decide)
  case hubCollLogClr => rw [changes]; exact execHubCollLogClr_within (by decide)
  case hubCountClr => rw [changes]; exact execHubCountClr_within _ (by decide)
  case spkCountClr => rw [changes]; exact execSpkCountClr_within _ (by decide)
  case spkLogClr => rw [changes]; exact execSpkLogClr_within _ (by decide)
  case lnkCountClr => rw [changes]; exact execLnkCountClr_within (by decide)
  case lnkLogClr => rw [changes]; exact execLnkLogClr_within (by decide)
  case fabCountClr => rw [changes]; exact execFabCountClr_within (by decide)
  case tlyCountClr => rw [changes]; exact execTlyCountClr_within (by decide)
  case ldgCountClr => rw [changes]; exact execLdgCountClr_within (by decide)
  case mskCountClr => rw [changes]; exact execMskCountClr_within (by decide)
  case bkgCountClr => rw [changes]; exact execBkgCountClr_within (by decide)
  case bkgLogClr => rw [changes]; exact execBkgLogClr_within (by decide)
  case hstCountClr => rw [changes]; exact execHstCountClr_within (by decide)
  case pwrCountClr => rw [changes]; exact execPwrCountClr_within (by decide)
  case signalDetect => rw [changes]; exact execSignalDetect_within _ (by decide)
  case laneSignalLoss => rw [changes]; exact execLaneSignalLoss_within _ _ _ (by decide)
  case ingestLinkUp => rw [changes]; exact execIngestLinkUp_within _ (by decide)
  case pcieLinkUp => rw [changes]; exact execPcieLinkUp_within _ _ _ _ (by decide)
  case pcieLinkDown => rw [changes]; exact execPcieLinkDown_within _ (by decide)
  case pairLoRead => rw [changes]; exact execPairLoRead_within _ _ _ _ (by decide)
  case descriptorFetchComplete => rw [changes]; exact execDescriptorFetchComplete_within _ _ _ _ (by decide)
  case leapSecond => rw [changes]; exact execLeapSecond_within (by decide)
  case i3cEntdaa => rw [changes]; exact execI3cEntdaa_within _ (by decide)

end Sys2Proof.Machine
end

