-- ==== Sys2Proof/Laws/State.lean ====
section
/-! SUPPORT. What every update of the state leaves in every field: one lemma a field and an update, true by definition. -/

namespace Sys2Proof.Machine

variable (s : State)

@[simp] theorem setTbu_build (u : Tbu) : (setTbu s u).build = s.build := rfl
@[simp] theorem setTbu_straps (u : Tbu) : (setTbu s u).straps = s.straps := rfl
@[simp] theorem setTbu_boot (u : Tbu) : (setTbu s u).boot = s.boot := rfl
@[simp] theorem setTbu_fuses (u : Tbu) : (setTbu s u).fuses = s.fuses := rfl
@[simp] theorem setTbu_mems (u : Tbu) : (setTbu s u).mems = s.mems := rfl
@[simp] theorem setTbu_clock (u : Tbu) : (setTbu s u).clock = s.clock := rfl
@[simp] theorem setTbu_tbu (u : Tbu) : (setTbu s u).tbu = u := rfl
@[simp] theorem setTbu_regs (u : Tbu) : (setTbu s u).regs = s.regs := rfl
@[simp] theorem setTbu_latches (u : Tbu) : (setTbu s u).latches = s.latches := rfl
@[simp] theorem setTbu_sched (u : Tbu) : (setTbu s u).sched = s.sched := rfl
@[simp] theorem setTbu_queues (u : Tbu) : (setTbu s u).queues = s.queues := rfl
@[simp] theorem setTbu_tags (u : Tbu) : (setTbu s u).tags = s.tags := rfl
@[simp] theorem setTbu_nextSlot (u : Tbu) : (setTbu s u).nextSlot = s.nextSlot := rfl
@[simp] theorem setTbu_readWait (u : Tbu) : (setTbu s u).readWait = s.readWait := rfl
@[simp] theorem setTbu_sup (u : Tbu) : (setTbu s u).sup = s.sup := rfl
@[simp] theorem setTbu_fence (u : Tbu) : (setTbu s u).fence = s.fence := rfl
@[simp] theorem setTbu_heldWrites (u : Tbu) : (setTbu s u).heldWrites = s.heldWrites := rfl
@[simp] theorem setTbu_heldPackets (u : Tbu) : (setTbu s u).heldPackets = s.heldPackets := rfl
@[simp] theorem setTbu_part (u : Tbu) : (setTbu s u).part = s.part := rfl
@[simp] theorem setTbu_sync (u : Tbu) : (setTbu s u).sync = s.sync := rfl
@[simp] theorem setTbu_ports (u : Tbu) : (setTbu s u).ports = s.ports := rfl
@[simp] theorem setTbu_bridge (u : Tbu) : (setTbu s u).bridge = s.bridge := rfl
@[simp] theorem setTbu_fab (u : Tbu) : (setTbu s u).fab = s.fab := rfl
@[simp] theorem setTbu_faults (u : Tbu) : (setTbu s u).faults = s.faults := rfl
@[simp] theorem setTbu_hubs (u : Tbu) : (setTbu s u).hubs = s.hubs := rfl
@[simp] theorem setTbu_tally (u : Tbu) : (setTbu s u).tally = s.tally := rfl
@[simp] theorem setTbu_ledger (u : Tbu) : (setTbu s u).ledger = s.ledger := rfl
@[simp] theorem setTbu_bkg (u : Tbu) : (setTbu s u).bkg = s.bkg := rfl
@[simp] theorem setTbu_host (u : Tbu) : (setTbu s u).host = s.host := rfl
@[simp] theorem setTbu_power (u : Tbu) : (setTbu s u).power = s.power := rfl
@[simp] theorem setTbu_logBuf (u : Tbu) : (setTbu s u).logBuf = s.logBuf := rfl
@[simp] theorem setTbu_logSeq (u : Tbu) : (setTbu s u).logSeq = s.logSeq := rfl
@[simp] theorem setTbu_pldmQ (u : Tbu) : (setTbu s u).pldmQ = s.pldmQ := rfl
@[simp] theorem setTbu_pldmReceiver (u : Tbu) : (setTbu s u).pldmReceiver = s.pldmReceiver := rfl
@[simp] theorem setTbu_msixUnmasked (u : Tbu) : (setTbu s u).msixUnmasked = s.msixUnmasked := rfl
@[simp] theorem setTbu_msixPending (u : Tbu) : (setTbu s u).msixPending = s.msixPending := rfl
@[simp] theorem setTbu_msixTable (u : Tbu) : (setTbu s u).msixTable = s.msixTable := rfl
@[simp] theorem setTbu_out (u : Tbu) : (setTbu s u).out = s.out := rfl
@[simp] theorem setTbu_free (u : Tbu) : (setTbu s u).free = s.free := rfl
@[simp] theorem setTbu_pending (u : Tbu) : (setTbu s u).pending = s.pending := rfl
@[simp] theorem rd_setTbu (u : Tbu) (a : Nat) : rd (setTbu s u) a = rd s a := rfl

@[simp] theorem setSup_build (u : Sup) : (setSup s u).build = s.build := rfl
@[simp] theorem setSup_straps (u : Sup) : (setSup s u).straps = s.straps := rfl
@[simp] theorem setSup_boot (u : Sup) : (setSup s u).boot = s.boot := rfl
@[simp] theorem setSup_fuses (u : Sup) : (setSup s u).fuses = s.fuses := rfl
@[simp] theorem setSup_mems (u : Sup) : (setSup s u).mems = s.mems := rfl
@[simp] theorem setSup_clock (u : Sup) : (setSup s u).clock = s.clock := rfl
@[simp] theorem setSup_tbu (u : Sup) : (setSup s u).tbu = s.tbu := rfl
@[simp] theorem setSup_regs (u : Sup) : (setSup s u).regs = s.regs := rfl
@[simp] theorem setSup_latches (u : Sup) : (setSup s u).latches = s.latches := rfl
@[simp] theorem setSup_sched (u : Sup) : (setSup s u).sched = s.sched := rfl
@[simp] theorem setSup_queues (u : Sup) : (setSup s u).queues = s.queues := rfl
@[simp] theorem setSup_tags (u : Sup) : (setSup s u).tags = s.tags := rfl
@[simp] theorem setSup_nextSlot (u : Sup) : (setSup s u).nextSlot = s.nextSlot := rfl
@[simp] theorem setSup_readWait (u : Sup) : (setSup s u).readWait = s.readWait := rfl
@[simp] theorem setSup_sup (u : Sup) : (setSup s u).sup = u := rfl
@[simp] theorem setSup_fence (u : Sup) : (setSup s u).fence = s.fence := rfl
@[simp] theorem setSup_heldWrites (u : Sup) : (setSup s u).heldWrites = s.heldWrites := rfl
@[simp] theorem setSup_heldPackets (u : Sup) : (setSup s u).heldPackets = s.heldPackets := rfl
@[simp] theorem setSup_part (u : Sup) : (setSup s u).part = s.part := rfl
@[simp] theorem setSup_sync (u : Sup) : (setSup s u).sync = s.sync := rfl
@[simp] theorem setSup_ports (u : Sup) : (setSup s u).ports = s.ports := rfl
@[simp] theorem setSup_bridge (u : Sup) : (setSup s u).bridge = s.bridge := rfl
@[simp] theorem setSup_fab (u : Sup) : (setSup s u).fab = s.fab := rfl
@[simp] theorem setSup_faults (u : Sup) : (setSup s u).faults = s.faults := rfl
@[simp] theorem setSup_hubs (u : Sup) : (setSup s u).hubs = s.hubs := rfl
@[simp] theorem setSup_tally (u : Sup) : (setSup s u).tally = s.tally := rfl
@[simp] theorem setSup_ledger (u : Sup) : (setSup s u).ledger = s.ledger := rfl
@[simp] theorem setSup_bkg (u : Sup) : (setSup s u).bkg = s.bkg := rfl
@[simp] theorem setSup_host (u : Sup) : (setSup s u).host = s.host := rfl
@[simp] theorem setSup_power (u : Sup) : (setSup s u).power = s.power := rfl
@[simp] theorem setSup_logBuf (u : Sup) : (setSup s u).logBuf = s.logBuf := rfl
@[simp] theorem setSup_logSeq (u : Sup) : (setSup s u).logSeq = s.logSeq := rfl
@[simp] theorem setSup_pldmQ (u : Sup) : (setSup s u).pldmQ = s.pldmQ := rfl
@[simp] theorem setSup_pldmReceiver (u : Sup) : (setSup s u).pldmReceiver = s.pldmReceiver := rfl
@[simp] theorem setSup_msixUnmasked (u : Sup) : (setSup s u).msixUnmasked = s.msixUnmasked := rfl
@[simp] theorem setSup_msixPending (u : Sup) : (setSup s u).msixPending = s.msixPending := rfl
@[simp] theorem setSup_msixTable (u : Sup) : (setSup s u).msixTable = s.msixTable := rfl
@[simp] theorem setSup_out (u : Sup) : (setSup s u).out = s.out := rfl
@[simp] theorem setSup_free (u : Sup) : (setSup s u).free = s.free := rfl
@[simp] theorem setSup_pending (u : Sup) : (setSup s u).pending = s.pending := rfl
@[simp] theorem rd_setSup (u : Sup) (a : Nat) : rd (setSup s u) a = rd s a := rfl

@[simp] theorem setSync_build (u : Sync) : (setSync s u).build = s.build := rfl
@[simp] theorem setSync_straps (u : Sync) : (setSync s u).straps = s.straps := rfl
@[simp] theorem setSync_boot (u : Sync) : (setSync s u).boot = s.boot := rfl
@[simp] theorem setSync_fuses (u : Sync) : (setSync s u).fuses = s.fuses := rfl
@[simp] theorem setSync_mems (u : Sync) : (setSync s u).mems = s.mems := rfl
@[simp] theorem setSync_clock (u : Sync) : (setSync s u).clock = s.clock := rfl
@[simp] theorem setSync_tbu (u : Sync) : (setSync s u).tbu = s.tbu := rfl
@[simp] theorem setSync_regs (u : Sync) : (setSync s u).regs = s.regs := rfl
@[simp] theorem setSync_latches (u : Sync) : (setSync s u).latches = s.latches := rfl
@[simp] theorem setSync_sched (u : Sync) : (setSync s u).sched = s.sched := rfl
@[simp] theorem setSync_queues (u : Sync) : (setSync s u).queues = s.queues := rfl
@[simp] theorem setSync_tags (u : Sync) : (setSync s u).tags = s.tags := rfl
@[simp] theorem setSync_nextSlot (u : Sync) : (setSync s u).nextSlot = s.nextSlot := rfl
@[simp] theorem setSync_readWait (u : Sync) : (setSync s u).readWait = s.readWait := rfl
@[simp] theorem setSync_sup (u : Sync) : (setSync s u).sup = s.sup := rfl
@[simp] theorem setSync_fence (u : Sync) : (setSync s u).fence = s.fence := rfl
@[simp] theorem setSync_heldWrites (u : Sync) : (setSync s u).heldWrites = s.heldWrites := rfl
@[simp] theorem setSync_heldPackets (u : Sync) : (setSync s u).heldPackets = s.heldPackets := rfl
@[simp] theorem setSync_part (u : Sync) : (setSync s u).part = s.part := rfl
@[simp] theorem setSync_sync (u : Sync) : (setSync s u).sync = u := rfl
@[simp] theorem setSync_ports (u : Sync) : (setSync s u).ports = s.ports := rfl
@[simp] theorem setSync_bridge (u : Sync) : (setSync s u).bridge = s.bridge := rfl
@[simp] theorem setSync_fab (u : Sync) : (setSync s u).fab = s.fab := rfl
@[simp] theorem setSync_faults (u : Sync) : (setSync s u).faults = s.faults := rfl
@[simp] theorem setSync_hubs (u : Sync) : (setSync s u).hubs = s.hubs := rfl
@[simp] theorem setSync_tally (u : Sync) : (setSync s u).tally = s.tally := rfl
@[simp] theorem setSync_ledger (u : Sync) : (setSync s u).ledger = s.ledger := rfl
@[simp] theorem setSync_bkg (u : Sync) : (setSync s u).bkg = s.bkg := rfl
@[simp] theorem setSync_host (u : Sync) : (setSync s u).host = s.host := rfl
@[simp] theorem setSync_power (u : Sync) : (setSync s u).power = s.power := rfl
@[simp] theorem setSync_logBuf (u : Sync) : (setSync s u).logBuf = s.logBuf := rfl
@[simp] theorem setSync_logSeq (u : Sync) : (setSync s u).logSeq = s.logSeq := rfl
@[simp] theorem setSync_pldmQ (u : Sync) : (setSync s u).pldmQ = s.pldmQ := rfl
@[simp] theorem setSync_pldmReceiver (u : Sync) : (setSync s u).pldmReceiver = s.pldmReceiver := rfl
@[simp] theorem setSync_msixUnmasked (u : Sync) : (setSync s u).msixUnmasked = s.msixUnmasked := rfl
@[simp] theorem setSync_msixPending (u : Sync) : (setSync s u).msixPending = s.msixPending := rfl
@[simp] theorem setSync_msixTable (u : Sync) : (setSync s u).msixTable = s.msixTable := rfl
@[simp] theorem setSync_out (u : Sync) : (setSync s u).out = s.out := rfl
@[simp] theorem setSync_free (u : Sync) : (setSync s u).free = s.free := rfl
@[simp] theorem setSync_pending (u : Sync) : (setSync s u).pending = s.pending := rfl
@[simp] theorem rd_setSync (u : Sync) (a : Nat) : rd (setSync s u) a = rd s a := rfl

@[simp] theorem setLdg_build (u : Ledger) : (setLdg s u).build = s.build := rfl
@[simp] theorem setLdg_straps (u : Ledger) : (setLdg s u).straps = s.straps := rfl
@[simp] theorem setLdg_boot (u : Ledger) : (setLdg s u).boot = s.boot := rfl
@[simp] theorem setLdg_fuses (u : Ledger) : (setLdg s u).fuses = s.fuses := rfl
@[simp] theorem setLdg_mems (u : Ledger) : (setLdg s u).mems = s.mems := rfl
@[simp] theorem setLdg_clock (u : Ledger) : (setLdg s u).clock = s.clock := rfl
@[simp] theorem setLdg_tbu (u : Ledger) : (setLdg s u).tbu = s.tbu := rfl
@[simp] theorem setLdg_regs (u : Ledger) : (setLdg s u).regs = s.regs := rfl
@[simp] theorem setLdg_latches (u : Ledger) : (setLdg s u).latches = s.latches := rfl
@[simp] theorem setLdg_sched (u : Ledger) : (setLdg s u).sched = s.sched := rfl
@[simp] theorem setLdg_queues (u : Ledger) : (setLdg s u).queues = s.queues := rfl
@[simp] theorem setLdg_tags (u : Ledger) : (setLdg s u).tags = s.tags := rfl
@[simp] theorem setLdg_nextSlot (u : Ledger) : (setLdg s u).nextSlot = s.nextSlot := rfl
@[simp] theorem setLdg_readWait (u : Ledger) : (setLdg s u).readWait = s.readWait := rfl
@[simp] theorem setLdg_sup (u : Ledger) : (setLdg s u).sup = s.sup := rfl
@[simp] theorem setLdg_fence (u : Ledger) : (setLdg s u).fence = s.fence := rfl
@[simp] theorem setLdg_heldWrites (u : Ledger) : (setLdg s u).heldWrites = s.heldWrites := rfl
@[simp] theorem setLdg_heldPackets (u : Ledger) : (setLdg s u).heldPackets = s.heldPackets := rfl
@[simp] theorem setLdg_part (u : Ledger) : (setLdg s u).part = s.part := rfl
@[simp] theorem setLdg_sync (u : Ledger) : (setLdg s u).sync = s.sync := rfl
@[simp] theorem setLdg_ports (u : Ledger) : (setLdg s u).ports = s.ports := rfl
@[simp] theorem setLdg_bridge (u : Ledger) : (setLdg s u).bridge = s.bridge := rfl
@[simp] theorem setLdg_fab (u : Ledger) : (setLdg s u).fab = s.fab := rfl
@[simp] theorem setLdg_faults (u : Ledger) : (setLdg s u).faults = s.faults := rfl
@[simp] theorem setLdg_hubs (u : Ledger) : (setLdg s u).hubs = s.hubs := rfl
@[simp] theorem setLdg_tally (u : Ledger) : (setLdg s u).tally = s.tally := rfl
@[simp] theorem setLdg_ledger (u : Ledger) : (setLdg s u).ledger = u := rfl
@[simp] theorem setLdg_bkg (u : Ledger) : (setLdg s u).bkg = s.bkg := rfl
@[simp] theorem setLdg_host (u : Ledger) : (setLdg s u).host = s.host := rfl
@[simp] theorem setLdg_power (u : Ledger) : (setLdg s u).power = s.power := rfl
@[simp] theorem setLdg_logBuf (u : Ledger) : (setLdg s u).logBuf = s.logBuf := rfl
@[simp] theorem setLdg_logSeq (u : Ledger) : (setLdg s u).logSeq = s.logSeq := rfl
@[simp] theorem setLdg_pldmQ (u : Ledger) : (setLdg s u).pldmQ = s.pldmQ := rfl
@[simp] theorem setLdg_pldmReceiver (u : Ledger) : (setLdg s u).pldmReceiver = s.pldmReceiver := rfl
@[simp] theorem setLdg_msixUnmasked (u : Ledger) : (setLdg s u).msixUnmasked = s.msixUnmasked := rfl
@[simp] theorem setLdg_msixPending (u : Ledger) : (setLdg s u).msixPending = s.msixPending := rfl
@[simp] theorem setLdg_msixTable (u : Ledger) : (setLdg s u).msixTable = s.msixTable := rfl
@[simp] theorem setLdg_out (u : Ledger) : (setLdg s u).out = s.out := rfl
@[simp] theorem setLdg_free (u : Ledger) : (setLdg s u).free = s.free := rfl
@[simp] theorem setLdg_pending (u : Ledger) : (setLdg s u).pending = s.pending := rfl
@[simp] theorem rd_setLdg (u : Ledger) (a : Nat) : rd (setLdg s u) a = rd s a := rfl

@[simp] theorem setFab_build (u : Fabric) : (setFab s u).build = s.build := rfl
@[simp] theorem setFab_straps (u : Fabric) : (setFab s u).straps = s.straps := rfl
@[simp] theorem setFab_boot (u : Fabric) : (setFab s u).boot = s.boot := rfl
@[simp] theorem setFab_fuses (u : Fabric) : (setFab s u).fuses = s.fuses := rfl
@[simp] theorem setFab_mems (u : Fabric) : (setFab s u).mems = s.mems := rfl
@[simp] theorem setFab_clock (u : Fabric) : (setFab s u).clock = s.clock := rfl
@[simp] theorem setFab_tbu (u : Fabric) : (setFab s u).tbu = s.tbu := rfl
@[simp] theorem setFab_regs (u : Fabric) : (setFab s u).regs = s.regs := rfl
@[simp] theorem setFab_latches (u : Fabric) : (setFab s u).latches = s.latches := rfl
@[simp] theorem setFab_sched (u : Fabric) : (setFab s u).sched = s.sched := rfl
@[simp] theorem setFab_queues (u : Fabric) : (setFab s u).queues = s.queues := rfl
@[simp] theorem setFab_tags (u : Fabric) : (setFab s u).tags = s.tags := rfl
@[simp] theorem setFab_nextSlot (u : Fabric) : (setFab s u).nextSlot = s.nextSlot := rfl
@[simp] theorem setFab_readWait (u : Fabric) : (setFab s u).readWait = s.readWait := rfl
@[simp] theorem setFab_sup (u : Fabric) : (setFab s u).sup = s.sup := rfl
@[simp] theorem setFab_fence (u : Fabric) : (setFab s u).fence = s.fence := rfl
@[simp] theorem setFab_heldWrites (u : Fabric) : (setFab s u).heldWrites = s.heldWrites := rfl
@[simp] theorem setFab_heldPackets (u : Fabric) : (setFab s u).heldPackets = s.heldPackets := rfl
@[simp] theorem setFab_part (u : Fabric) : (setFab s u).part = s.part := rfl
@[simp] theorem setFab_sync (u : Fabric) : (setFab s u).sync = s.sync := rfl
@[simp] theorem setFab_ports (u : Fabric) : (setFab s u).ports = s.ports := rfl
@[simp] theorem setFab_bridge (u : Fabric) : (setFab s u).bridge = s.bridge := rfl
@[simp] theorem setFab_fab (u : Fabric) : (setFab s u).fab = u := rfl
@[simp] theorem setFab_faults (u : Fabric) : (setFab s u).faults = s.faults := rfl
@[simp] theorem setFab_hubs (u : Fabric) : (setFab s u).hubs = s.hubs := rfl
@[simp] theorem setFab_tally (u : Fabric) : (setFab s u).tally = s.tally := rfl
@[simp] theorem setFab_ledger (u : Fabric) : (setFab s u).ledger = s.ledger := rfl
@[simp] theorem setFab_bkg (u : Fabric) : (setFab s u).bkg = s.bkg := rfl
@[simp] theorem setFab_host (u : Fabric) : (setFab s u).host = s.host := rfl
@[simp] theorem setFab_power (u : Fabric) : (setFab s u).power = s.power := rfl
@[simp] theorem setFab_logBuf (u : Fabric) : (setFab s u).logBuf = s.logBuf := rfl
@[simp] theorem setFab_logSeq (u : Fabric) : (setFab s u).logSeq = s.logSeq := rfl
@[simp] theorem setFab_pldmQ (u : Fabric) : (setFab s u).pldmQ = s.pldmQ := rfl
@[simp] theorem setFab_pldmReceiver (u : Fabric) : (setFab s u).pldmReceiver = s.pldmReceiver := rfl
@[simp] theorem setFab_msixUnmasked (u : Fabric) : (setFab s u).msixUnmasked = s.msixUnmasked := rfl
@[simp] theorem setFab_msixPending (u : Fabric) : (setFab s u).msixPending = s.msixPending := rfl
@[simp] theorem setFab_msixTable (u : Fabric) : (setFab s u).msixTable = s.msixTable := rfl
@[simp] theorem setFab_out (u : Fabric) : (setFab s u).out = s.out := rfl
@[simp] theorem setFab_free (u : Fabric) : (setFab s u).free = s.free := rfl
@[simp] theorem setFab_pending (u : Fabric) : (setFab s u).pending = s.pending := rfl
@[simp] theorem rd_setFab (u : Fabric) (a : Nat) : rd (setFab s u) a = rd s a := rfl

@[simp] theorem setTally_build (u : Tally) : (setTally s u).build = s.build := rfl
@[simp] theorem setTally_straps (u : Tally) : (setTally s u).straps = s.straps := rfl
@[simp] theorem setTally_boot (u : Tally) : (setTally s u).boot = s.boot := rfl
@[simp] theorem setTally_fuses (u : Tally) : (setTally s u).fuses = s.fuses := rfl
@[simp] theorem setTally_mems (u : Tally) : (setTally s u).mems = s.mems := rfl
@[simp] theorem setTally_clock (u : Tally) : (setTally s u).clock = s.clock := rfl
@[simp] theorem setTally_tbu (u : Tally) : (setTally s u).tbu = s.tbu := rfl
@[simp] theorem setTally_regs (u : Tally) : (setTally s u).regs = s.regs := rfl
@[simp] theorem setTally_latches (u : Tally) : (setTally s u).latches = s.latches := rfl
@[simp] theorem setTally_sched (u : Tally) : (setTally s u).sched = s.sched := rfl
@[simp] theorem setTally_queues (u : Tally) : (setTally s u).queues = s.queues := rfl
@[simp] theorem setTally_tags (u : Tally) : (setTally s u).tags = s.tags := rfl
@[simp] theorem setTally_nextSlot (u : Tally) : (setTally s u).nextSlot = s.nextSlot := rfl
@[simp] theorem setTally_readWait (u : Tally) : (setTally s u).readWait = s.readWait := rfl
@[simp] theorem setTally_sup (u : Tally) : (setTally s u).sup = s.sup := rfl
@[simp] theorem setTally_fence (u : Tally) : (setTally s u).fence = s.fence := rfl
@[simp] theorem setTally_heldWrites (u : Tally) : (setTally s u).heldWrites = s.heldWrites := rfl
@[simp] theorem setTally_heldPackets (u : Tally) : (setTally s u).heldPackets = s.heldPackets := rfl
@[simp] theorem setTally_part (u : Tally) : (setTally s u).part = s.part := rfl
@[simp] theorem setTally_sync (u : Tally) : (setTally s u).sync = s.sync := rfl
@[simp] theorem setTally_ports (u : Tally) : (setTally s u).ports = s.ports := rfl
@[simp] theorem setTally_bridge (u : Tally) : (setTally s u).bridge = s.bridge := rfl
@[simp] theorem setTally_fab (u : Tally) : (setTally s u).fab = s.fab := rfl
@[simp] theorem setTally_faults (u : Tally) : (setTally s u).faults = s.faults := rfl
@[simp] theorem setTally_hubs (u : Tally) : (setTally s u).hubs = s.hubs := rfl
@[simp] theorem setTally_tally (u : Tally) : (setTally s u).tally = u := rfl
@[simp] theorem setTally_ledger (u : Tally) : (setTally s u).ledger = s.ledger := rfl
@[simp] theorem setTally_bkg (u : Tally) : (setTally s u).bkg = s.bkg := rfl
@[simp] theorem setTally_host (u : Tally) : (setTally s u).host = s.host := rfl
@[simp] theorem setTally_power (u : Tally) : (setTally s u).power = s.power := rfl
@[simp] theorem setTally_logBuf (u : Tally) : (setTally s u).logBuf = s.logBuf := rfl
@[simp] theorem setTally_logSeq (u : Tally) : (setTally s u).logSeq = s.logSeq := rfl
@[simp] theorem setTally_pldmQ (u : Tally) : (setTally s u).pldmQ = s.pldmQ := rfl
@[simp] theorem setTally_pldmReceiver (u : Tally) : (setTally s u).pldmReceiver = s.pldmReceiver := rfl
@[simp] theorem setTally_msixUnmasked (u : Tally) : (setTally s u).msixUnmasked = s.msixUnmasked := rfl
@[simp] theorem setTally_msixPending (u : Tally) : (setTally s u).msixPending = s.msixPending := rfl
@[simp] theorem setTally_msixTable (u : Tally) : (setTally s u).msixTable = s.msixTable := rfl
@[simp] theorem setTally_out (u : Tally) : (setTally s u).out = s.out := rfl
@[simp] theorem setTally_free (u : Tally) : (setTally s u).free = s.free := rfl
@[simp] theorem setTally_pending (u : Tally) : (setTally s u).pending = s.pending := rfl
@[simp] theorem rd_setTally (u : Tally) (a : Nat) : rd (setTally s u) a = rd s a := rfl

@[simp] theorem setBkg_build (u : Background) : (setBkg s u).build = s.build := rfl
@[simp] theorem setBkg_straps (u : Background) : (setBkg s u).straps = s.straps := rfl
@[simp] theorem setBkg_boot (u : Background) : (setBkg s u).boot = s.boot := rfl
@[simp] theorem setBkg_fuses (u : Background) : (setBkg s u).fuses = s.fuses := rfl
@[simp] theorem setBkg_mems (u : Background) : (setBkg s u).mems = s.mems := rfl
@[simp] theorem setBkg_clock (u : Background) : (setBkg s u).clock = s.clock := rfl
@[simp] theorem setBkg_tbu (u : Background) : (setBkg s u).tbu = s.tbu := rfl
@[simp] theorem setBkg_regs (u : Background) : (setBkg s u).regs = s.regs := rfl
@[simp] theorem setBkg_latches (u : Background) : (setBkg s u).latches = s.latches := rfl
@[simp] theorem setBkg_sched (u : Background) : (setBkg s u).sched = s.sched := rfl
@[simp] theorem setBkg_queues (u : Background) : (setBkg s u).queues = s.queues := rfl
@[simp] theorem setBkg_tags (u : Background) : (setBkg s u).tags = s.tags := rfl
@[simp] theorem setBkg_nextSlot (u : Background) : (setBkg s u).nextSlot = s.nextSlot := rfl
@[simp] theorem setBkg_readWait (u : Background) : (setBkg s u).readWait = s.readWait := rfl
@[simp] theorem setBkg_sup (u : Background) : (setBkg s u).sup = s.sup := rfl
@[simp] theorem setBkg_fence (u : Background) : (setBkg s u).fence = s.fence := rfl
@[simp] theorem setBkg_heldWrites (u : Background) : (setBkg s u).heldWrites = s.heldWrites := rfl
@[simp] theorem setBkg_heldPackets (u : Background) : (setBkg s u).heldPackets = s.heldPackets := rfl
@[simp] theorem setBkg_part (u : Background) : (setBkg s u).part = s.part := rfl
@[simp] theorem setBkg_sync (u : Background) : (setBkg s u).sync = s.sync := rfl
@[simp] theorem setBkg_ports (u : Background) : (setBkg s u).ports = s.ports := rfl
@[simp] theorem setBkg_bridge (u : Background) : (setBkg s u).bridge = s.bridge := rfl
@[simp] theorem setBkg_fab (u : Background) : (setBkg s u).fab = s.fab := rfl
@[simp] theorem setBkg_faults (u : Background) : (setBkg s u).faults = s.faults := rfl
@[simp] theorem setBkg_hubs (u : Background) : (setBkg s u).hubs = s.hubs := rfl
@[simp] theorem setBkg_tally (u : Background) : (setBkg s u).tally = s.tally := rfl
@[simp] theorem setBkg_ledger (u : Background) : (setBkg s u).ledger = s.ledger := rfl
@[simp] theorem setBkg_bkg (u : Background) : (setBkg s u).bkg = u := rfl
@[simp] theorem setBkg_host (u : Background) : (setBkg s u).host = s.host := rfl
@[simp] theorem setBkg_power (u : Background) : (setBkg s u).power = s.power := rfl
@[simp] theorem setBkg_logBuf (u : Background) : (setBkg s u).logBuf = s.logBuf := rfl
@[simp] theorem setBkg_logSeq (u : Background) : (setBkg s u).logSeq = s.logSeq := rfl
@[simp] theorem setBkg_pldmQ (u : Background) : (setBkg s u).pldmQ = s.pldmQ := rfl
@[simp] theorem setBkg_pldmReceiver (u : Background) : (setBkg s u).pldmReceiver = s.pldmReceiver := rfl
@[simp] theorem setBkg_msixUnmasked (u : Background) : (setBkg s u).msixUnmasked = s.msixUnmasked := rfl
@[simp] theorem setBkg_msixPending (u : Background) : (setBkg s u).msixPending = s.msixPending := rfl
@[simp] theorem setBkg_msixTable (u : Background) : (setBkg s u).msixTable = s.msixTable := rfl
@[simp] theorem setBkg_out (u : Background) : (setBkg s u).out = s.out := rfl
@[simp] theorem setBkg_free (u : Background) : (setBkg s u).free = s.free := rfl
@[simp] theorem setBkg_pending (u : Background) : (setBkg s u).pending = s.pending := rfl
@[simp] theorem rd_setBkg (u : Background) (a : Nat) : rd (setBkg s u) a = rd s a := rfl

@[simp] theorem setPower_build (u : Power) : (setPower s u).build = s.build := rfl
@[simp] theorem setPower_straps (u : Power) : (setPower s u).straps = s.straps := rfl
@[simp] theorem setPower_boot (u : Power) : (setPower s u).boot = s.boot := rfl
@[simp] theorem setPower_fuses (u : Power) : (setPower s u).fuses = s.fuses := rfl
@[simp] theorem setPower_mems (u : Power) : (setPower s u).mems = s.mems := rfl
@[simp] theorem setPower_clock (u : Power) : (setPower s u).clock = s.clock := rfl
@[simp] theorem setPower_tbu (u : Power) : (setPower s u).tbu = s.tbu := rfl
@[simp] theorem setPower_regs (u : Power) : (setPower s u).regs = s.regs := rfl
@[simp] theorem setPower_latches (u : Power) : (setPower s u).latches = s.latches := rfl
@[simp] theorem setPower_sched (u : Power) : (setPower s u).sched = s.sched := rfl
@[simp] theorem setPower_queues (u : Power) : (setPower s u).queues = s.queues := rfl
@[simp] theorem setPower_tags (u : Power) : (setPower s u).tags = s.tags := rfl
@[simp] theorem setPower_nextSlot (u : Power) : (setPower s u).nextSlot = s.nextSlot := rfl
@[simp] theorem setPower_readWait (u : Power) : (setPower s u).readWait = s.readWait := rfl
@[simp] theorem setPower_sup (u : Power) : (setPower s u).sup = s.sup := rfl
@[simp] theorem setPower_fence (u : Power) : (setPower s u).fence = s.fence := rfl
@[simp] theorem setPower_heldWrites (u : Power) : (setPower s u).heldWrites = s.heldWrites := rfl
@[simp] theorem setPower_heldPackets (u : Power) : (setPower s u).heldPackets = s.heldPackets := rfl
@[simp] theorem setPower_part (u : Power) : (setPower s u).part = s.part := rfl
@[simp] theorem setPower_sync (u : Power) : (setPower s u).sync = s.sync := rfl
@[simp] theorem setPower_ports (u : Power) : (setPower s u).ports = s.ports := rfl
@[simp] theorem setPower_bridge (u : Power) : (setPower s u).bridge = s.bridge := rfl
@[simp] theorem setPower_fab (u : Power) : (setPower s u).fab = s.fab := rfl
@[simp] theorem setPower_faults (u : Power) : (setPower s u).faults = s.faults := rfl
@[simp] theorem setPower_hubs (u : Power) : (setPower s u).hubs = s.hubs := rfl
@[simp] theorem setPower_tally (u : Power) : (setPower s u).tally = s.tally := rfl
@[simp] theorem setPower_ledger (u : Power) : (setPower s u).ledger = s.ledger := rfl
@[simp] theorem setPower_bkg (u : Power) : (setPower s u).bkg = s.bkg := rfl
@[simp] theorem setPower_host (u : Power) : (setPower s u).host = s.host := rfl
@[simp] theorem setPower_power (u : Power) : (setPower s u).power = u := rfl
@[simp] theorem setPower_logBuf (u : Power) : (setPower s u).logBuf = s.logBuf := rfl
@[simp] theorem setPower_logSeq (u : Power) : (setPower s u).logSeq = s.logSeq := rfl
@[simp] theorem setPower_pldmQ (u : Power) : (setPower s u).pldmQ = s.pldmQ := rfl
@[simp] theorem setPower_pldmReceiver (u : Power) : (setPower s u).pldmReceiver = s.pldmReceiver := rfl
@[simp] theorem setPower_msixUnmasked (u : Power) : (setPower s u).msixUnmasked = s.msixUnmasked := rfl
@[simp] theorem setPower_msixPending (u : Power) : (setPower s u).msixPending = s.msixPending := rfl
@[simp] theorem setPower_msixTable (u : Power) : (setPower s u).msixTable = s.msixTable := rfl
@[simp] theorem setPower_out (u : Power) : (setPower s u).out = s.out := rfl
@[simp] theorem setPower_free (u : Power) : (setPower s u).free = s.free := rfl
@[simp] theorem setPower_pending (u : Power) : (setPower s u).pending = s.pending := rfl
@[simp] theorem rd_setPower (u : Power) (a : Nat) : rd (setPower s u) a = rd s a := rfl

@[simp] theorem setHost_build (u : HostIf) : (setHost s u).build = s.build := rfl
@[simp] theorem setHost_straps (u : HostIf) : (setHost s u).straps = s.straps := rfl
@[simp] theorem setHost_boot (u : HostIf) : (setHost s u).boot = s.boot := rfl
@[simp] theorem setHost_fuses (u : HostIf) : (setHost s u).fuses = s.fuses := rfl
@[simp] theorem setHost_mems (u : HostIf) : (setHost s u).mems = s.mems := rfl
@[simp] theorem setHost_clock (u : HostIf) : (setHost s u).clock = s.clock := rfl
@[simp] theorem setHost_tbu (u : HostIf) : (setHost s u).tbu = s.tbu := rfl
@[simp] theorem setHost_regs (u : HostIf) : (setHost s u).regs = s.regs := rfl
@[simp] theorem setHost_latches (u : HostIf) : (setHost s u).latches = s.latches := rfl
@[simp] theorem setHost_sched (u : HostIf) : (setHost s u).sched = s.sched := rfl
@[simp] theorem setHost_queues (u : HostIf) : (setHost s u).queues = s.queues := rfl
@[simp] theorem setHost_tags (u : HostIf) : (setHost s u).tags = s.tags := rfl
@[simp] theorem setHost_nextSlot (u : HostIf) : (setHost s u).nextSlot = s.nextSlot := rfl
@[simp] theorem setHost_readWait (u : HostIf) : (setHost s u).readWait = s.readWait := rfl
@[simp] theorem setHost_sup (u : HostIf) : (setHost s u).sup = s.sup := rfl
@[simp] theorem setHost_fence (u : HostIf) : (setHost s u).fence = s.fence := rfl
@[simp] theorem setHost_heldWrites (u : HostIf) : (setHost s u).heldWrites = s.heldWrites := rfl
@[simp] theorem setHost_heldPackets (u : HostIf) : (setHost s u).heldPackets = s.heldPackets := rfl
@[simp] theorem setHost_part (u : HostIf) : (setHost s u).part = s.part := rfl
@[simp] theorem setHost_sync (u : HostIf) : (setHost s u).sync = s.sync := rfl
@[simp] theorem setHost_ports (u : HostIf) : (setHost s u).ports = s.ports := rfl
@[simp] theorem setHost_bridge (u : HostIf) : (setHost s u).bridge = s.bridge := rfl
@[simp] theorem setHost_fab (u : HostIf) : (setHost s u).fab = s.fab := rfl
@[simp] theorem setHost_faults (u : HostIf) : (setHost s u).faults = s.faults := rfl
@[simp] theorem setHost_hubs (u : HostIf) : (setHost s u).hubs = s.hubs := rfl
@[simp] theorem setHost_tally (u : HostIf) : (setHost s u).tally = s.tally := rfl
@[simp] theorem setHost_ledger (u : HostIf) : (setHost s u).ledger = s.ledger := rfl
@[simp] theorem setHost_bkg (u : HostIf) : (setHost s u).bkg = s.bkg := rfl
@[simp] theorem setHost_host (u : HostIf) : (setHost s u).host = u := rfl
@[simp] theorem setHost_power (u : HostIf) : (setHost s u).power = s.power := rfl
@[simp] theorem setHost_logBuf (u : HostIf) : (setHost s u).logBuf = s.logBuf := rfl
@[simp] theorem setHost_logSeq (u : HostIf) : (setHost s u).logSeq = s.logSeq := rfl
@[simp] theorem setHost_pldmQ (u : HostIf) : (setHost s u).pldmQ = s.pldmQ := rfl
@[simp] theorem setHost_pldmReceiver (u : HostIf) : (setHost s u).pldmReceiver = s.pldmReceiver := rfl
@[simp] theorem setHost_msixUnmasked (u : HostIf) : (setHost s u).msixUnmasked = s.msixUnmasked := rfl
@[simp] theorem setHost_msixPending (u : HostIf) : (setHost s u).msixPending = s.msixPending := rfl
@[simp] theorem setHost_msixTable (u : HostIf) : (setHost s u).msixTable = s.msixTable := rfl
@[simp] theorem setHost_out (u : HostIf) : (setHost s u).out = s.out := rfl
@[simp] theorem setHost_free (u : HostIf) : (setHost s u).free = s.free := rfl
@[simp] theorem setHost_pending (u : HostIf) : (setHost s u).pending = s.pending := rfl
@[simp] theorem rd_setHost (u : HostIf) (a : Nat) : rd (setHost s u) a = rd s a := rfl

@[simp] theorem setBoot_build (u : Boot) : (setBoot s u).build = s.build := rfl
@[simp] theorem setBoot_straps (u : Boot) : (setBoot s u).straps = s.straps := rfl
@[simp] theorem setBoot_boot (u : Boot) : (setBoot s u).boot = u := rfl
@[simp] theorem setBoot_fuses (u : Boot) : (setBoot s u).fuses = s.fuses := rfl
@[simp] theorem setBoot_mems (u : Boot) : (setBoot s u).mems = s.mems := rfl
@[simp] theorem setBoot_clock (u : Boot) : (setBoot s u).clock = s.clock := rfl
@[simp] theorem setBoot_tbu (u : Boot) : (setBoot s u).tbu = s.tbu := rfl
@[simp] theorem setBoot_regs (u : Boot) : (setBoot s u).regs = s.regs := rfl
@[simp] theorem setBoot_latches (u : Boot) : (setBoot s u).latches = s.latches := rfl
@[simp] theorem setBoot_sched (u : Boot) : (setBoot s u).sched = s.sched := rfl
@[simp] theorem setBoot_queues (u : Boot) : (setBoot s u).queues = s.queues := rfl
@[simp] theorem setBoot_tags (u : Boot) : (setBoot s u).tags = s.tags := rfl
@[simp] theorem setBoot_nextSlot (u : Boot) : (setBoot s u).nextSlot = s.nextSlot := rfl
@[simp] theorem setBoot_readWait (u : Boot) : (setBoot s u).readWait = s.readWait := rfl
@[simp] theorem setBoot_sup (u : Boot) : (setBoot s u).sup = s.sup := rfl
@[simp] theorem setBoot_fence (u : Boot) : (setBoot s u).fence = s.fence := rfl
@[simp] theorem setBoot_heldWrites (u : Boot) : (setBoot s u).heldWrites = s.heldWrites := rfl
@[simp] theorem setBoot_heldPackets (u : Boot) : (setBoot s u).heldPackets = s.heldPackets := rfl
@[simp] theorem setBoot_part (u : Boot) : (setBoot s u).part = s.part := rfl
@[simp] theorem setBoot_sync (u : Boot) : (setBoot s u).sync = s.sync := rfl
@[simp] theorem setBoot_ports (u : Boot) : (setBoot s u).ports = s.ports := rfl
@[simp] theorem setBoot_bridge (u : Boot) : (setBoot s u).bridge = s.bridge := rfl
@[simp] theorem setBoot_fab (u : Boot) : (setBoot s u).fab = s.fab := rfl
@[simp] theorem setBoot_faults (u : Boot) : (setBoot s u).faults = s.faults := rfl
@[simp] theorem setBoot_hubs (u : Boot) : (setBoot s u).hubs = s.hubs := rfl
@[simp] theorem setBoot_tally (u : Boot) : (setBoot s u).tally = s.tally := rfl
@[simp] theorem setBoot_ledger (u : Boot) : (setBoot s u).ledger = s.ledger := rfl
@[simp] theorem setBoot_bkg (u : Boot) : (setBoot s u).bkg = s.bkg := rfl
@[simp] theorem setBoot_host (u : Boot) : (setBoot s u).host = s.host := rfl
@[simp] theorem setBoot_power (u : Boot) : (setBoot s u).power = s.power := rfl
@[simp] theorem setBoot_logBuf (u : Boot) : (setBoot s u).logBuf = s.logBuf := rfl
@[simp] theorem setBoot_logSeq (u : Boot) : (setBoot s u).logSeq = s.logSeq := rfl
@[simp] theorem setBoot_pldmQ (u : Boot) : (setBoot s u).pldmQ = s.pldmQ := rfl
@[simp] theorem setBoot_pldmReceiver (u : Boot) : (setBoot s u).pldmReceiver = s.pldmReceiver := rfl
@[simp] theorem setBoot_msixUnmasked (u : Boot) : (setBoot s u).msixUnmasked = s.msixUnmasked := rfl
@[simp] theorem setBoot_msixPending (u : Boot) : (setBoot s u).msixPending = s.msixPending := rfl
@[simp] theorem setBoot_msixTable (u : Boot) : (setBoot s u).msixTable = s.msixTable := rfl
@[simp] theorem setBoot_out (u : Boot) : (setBoot s u).out = s.out := rfl
@[simp] theorem setBoot_free (u : Boot) : (setBoot s u).free = s.free := rfl
@[simp] theorem setBoot_pending (u : Boot) : (setBoot s u).pending = s.pending := rfl
@[simp] theorem rd_setBoot (u : Boot) (a : Nat) : rd (setBoot s u) a = rd s a := rfl

@[simp] theorem setStraps_build (u : Straps) : (setStraps s u).build = s.build := rfl
@[simp] theorem setStraps_straps (u : Straps) : (setStraps s u).straps = u := rfl
@[simp] theorem setStraps_boot (u : Straps) : (setStraps s u).boot = s.boot := rfl
@[simp] theorem setStraps_fuses (u : Straps) : (setStraps s u).fuses = s.fuses := rfl
@[simp] theorem setStraps_mems (u : Straps) : (setStraps s u).mems = s.mems := rfl
@[simp] theorem setStraps_clock (u : Straps) : (setStraps s u).clock = s.clock := rfl
@[simp] theorem setStraps_tbu (u : Straps) : (setStraps s u).tbu = s.tbu := rfl
@[simp] theorem setStraps_regs (u : Straps) : (setStraps s u).regs = s.regs := rfl
@[simp] theorem setStraps_latches (u : Straps) : (setStraps s u).latches = s.latches := rfl
@[simp] theorem setStraps_sched (u : Straps) : (setStraps s u).sched = s.sched := rfl
@[simp] theorem setStraps_queues (u : Straps) : (setStraps s u).queues = s.queues := rfl
@[simp] theorem setStraps_tags (u : Straps) : (setStraps s u).tags = s.tags := rfl
@[simp] theorem setStraps_nextSlot (u : Straps) : (setStraps s u).nextSlot = s.nextSlot := rfl
@[simp] theorem setStraps_readWait (u : Straps) : (setStraps s u).readWait = s.readWait := rfl
@[simp] theorem setStraps_sup (u : Straps) : (setStraps s u).sup = s.sup := rfl
@[simp] theorem setStraps_fence (u : Straps) : (setStraps s u).fence = s.fence := rfl
@[simp] theorem setStraps_heldWrites (u : Straps) : (setStraps s u).heldWrites = s.heldWrites := rfl
@[simp] theorem setStraps_heldPackets (u : Straps) : (setStraps s u).heldPackets = s.heldPackets := rfl
@[simp] theorem setStraps_part (u : Straps) : (setStraps s u).part = s.part := rfl
@[simp] theorem setStraps_sync (u : Straps) : (setStraps s u).sync = s.sync := rfl
@[simp] theorem setStraps_ports (u : Straps) : (setStraps s u).ports = s.ports := rfl
@[simp] theorem setStraps_bridge (u : Straps) : (setStraps s u).bridge = s.bridge := rfl
@[simp] theorem setStraps_fab (u : Straps) : (setStraps s u).fab = s.fab := rfl
@[simp] theorem setStraps_faults (u : Straps) : (setStraps s u).faults = s.faults := rfl
@[simp] theorem setStraps_hubs (u : Straps) : (setStraps s u).hubs = s.hubs := rfl
@[simp] theorem setStraps_tally (u : Straps) : (setStraps s u).tally = s.tally := rfl
@[simp] theorem setStraps_ledger (u : Straps) : (setStraps s u).ledger = s.ledger := rfl
@[simp] theorem setStraps_bkg (u : Straps) : (setStraps s u).bkg = s.bkg := rfl
@[simp] theorem setStraps_host (u : Straps) : (setStraps s u).host = s.host := rfl
@[simp] theorem setStraps_power (u : Straps) : (setStraps s u).power = s.power := rfl
@[simp] theorem setStraps_logBuf (u : Straps) : (setStraps s u).logBuf = s.logBuf := rfl
@[simp] theorem setStraps_logSeq (u : Straps) : (setStraps s u).logSeq = s.logSeq := rfl
@[simp] theorem setStraps_pldmQ (u : Straps) : (setStraps s u).pldmQ = s.pldmQ := rfl
@[simp] theorem setStraps_pldmReceiver (u : Straps) : (setStraps s u).pldmReceiver = s.pldmReceiver := rfl
@[simp] theorem setStraps_msixUnmasked (u : Straps) : (setStraps s u).msixUnmasked = s.msixUnmasked := rfl
@[simp] theorem setStraps_msixPending (u : Straps) : (setStraps s u).msixPending = s.msixPending := rfl
@[simp] theorem setStraps_msixTable (u : Straps) : (setStraps s u).msixTable = s.msixTable := rfl
@[simp] theorem setStraps_out (u : Straps) : (setStraps s u).out = s.out := rfl
@[simp] theorem setStraps_free (u : Straps) : (setStraps s u).free = s.free := rfl
@[simp] theorem setStraps_pending (u : Straps) : (setStraps s u).pending = s.pending := rfl
@[simp] theorem rd_setStraps (u : Straps) (a : Nat) : rd (setStraps s u) a = rd s a := rfl

@[simp] theorem setFuses_build (u : Fuses) : (setFuses s u).build = s.build := rfl
@[simp] theorem setFuses_straps (u : Fuses) : (setFuses s u).straps = s.straps := rfl
@[simp] theorem setFuses_boot (u : Fuses) : (setFuses s u).boot = s.boot := rfl
@[simp] theorem setFuses_fuses (u : Fuses) : (setFuses s u).fuses = u := rfl
@[simp] theorem setFuses_mems (u : Fuses) : (setFuses s u).mems = s.mems := rfl
@[simp] theorem setFuses_clock (u : Fuses) : (setFuses s u).clock = s.clock := rfl
@[simp] theorem setFuses_tbu (u : Fuses) : (setFuses s u).tbu = s.tbu := rfl
@[simp] theorem setFuses_regs (u : Fuses) : (setFuses s u).regs = s.regs := rfl
@[simp] theorem setFuses_latches (u : Fuses) : (setFuses s u).latches = s.latches := rfl
@[simp] theorem setFuses_sched (u : Fuses) : (setFuses s u).sched = s.sched := rfl
@[simp] theorem setFuses_queues (u : Fuses) : (setFuses s u).queues = s.queues := rfl
@[simp] theorem setFuses_tags (u : Fuses) : (setFuses s u).tags = s.tags := rfl
@[simp] theorem setFuses_nextSlot (u : Fuses) : (setFuses s u).nextSlot = s.nextSlot := rfl
@[simp] theorem setFuses_readWait (u : Fuses) : (setFuses s u).readWait = s.readWait := rfl
@[simp] theorem setFuses_sup (u : Fuses) : (setFuses s u).sup = s.sup := rfl
@[simp] theorem setFuses_fence (u : Fuses) : (setFuses s u).fence = s.fence := rfl
@[simp] theorem setFuses_heldWrites (u : Fuses) : (setFuses s u).heldWrites = s.heldWrites := rfl
@[simp] theorem setFuses_heldPackets (u : Fuses) : (setFuses s u).heldPackets = s.heldPackets := rfl
@[simp] theorem setFuses_part (u : Fuses) : (setFuses s u).part = s.part := rfl
@[simp] theorem setFuses_sync (u : Fuses) : (setFuses s u).sync = s.sync := rfl
@[simp] theorem setFuses_ports (u : Fuses) : (setFuses s u).ports = s.ports := rfl
@[simp] theorem setFuses_bridge (u : Fuses) : (setFuses s u).bridge = s.bridge := rfl
@[simp] theorem setFuses_fab (u : Fuses) : (setFuses s u).fab = s.fab := rfl
@[simp] theorem setFuses_faults (u : Fuses) : (setFuses s u).faults = s.faults := rfl
@[simp] theorem setFuses_hubs (u : Fuses) : (setFuses s u).hubs = s.hubs := rfl
@[simp] theorem setFuses_tally (u : Fuses) : (setFuses s u).tally = s.tally := rfl
@[simp] theorem setFuses_ledger (u : Fuses) : (setFuses s u).ledger = s.ledger := rfl
@[simp] theorem setFuses_bkg (u : Fuses) : (setFuses s u).bkg = s.bkg := rfl
@[simp] theorem setFuses_host (u : Fuses) : (setFuses s u).host = s.host := rfl
@[simp] theorem setFuses_power (u : Fuses) : (setFuses s u).power = s.power := rfl
@[simp] theorem setFuses_logBuf (u : Fuses) : (setFuses s u).logBuf = s.logBuf := rfl
@[simp] theorem setFuses_logSeq (u : Fuses) : (setFuses s u).logSeq = s.logSeq := rfl
@[simp] theorem setFuses_pldmQ (u : Fuses) : (setFuses s u).pldmQ = s.pldmQ := rfl
@[simp] theorem setFuses_pldmReceiver (u : Fuses) : (setFuses s u).pldmReceiver = s.pldmReceiver := rfl
@[simp] theorem setFuses_msixUnmasked (u : Fuses) : (setFuses s u).msixUnmasked = s.msixUnmasked := rfl
@[simp] theorem setFuses_msixPending (u : Fuses) : (setFuses s u).msixPending = s.msixPending := rfl
@[simp] theorem setFuses_msixTable (u : Fuses) : (setFuses s u).msixTable = s.msixTable := rfl
@[simp] theorem setFuses_out (u : Fuses) : (setFuses s u).out = s.out := rfl
@[simp] theorem setFuses_free (u : Fuses) : (setFuses s u).free = s.free := rfl
@[simp] theorem setFuses_pending (u : Fuses) : (setFuses s u).pending = s.pending := rfl
@[simp] theorem rd_setFuses (u : Fuses) (a : Nat) : rd (setFuses s u) a = rd s a := rfl

@[simp] theorem setClock_build (u : Clock) : (setClock s u).build = s.build := rfl
@[simp] theorem setClock_straps (u : Clock) : (setClock s u).straps = s.straps := rfl
@[simp] theorem setClock_boot (u : Clock) : (setClock s u).boot = s.boot := rfl
@[simp] theorem setClock_fuses (u : Clock) : (setClock s u).fuses = s.fuses := rfl
@[simp] theorem setClock_mems (u : Clock) : (setClock s u).mems = s.mems := rfl
@[simp] theorem setClock_clock (u : Clock) : (setClock s u).clock = u := rfl
@[simp] theorem setClock_tbu (u : Clock) : (setClock s u).tbu = s.tbu := rfl
@[simp] theorem setClock_regs (u : Clock) : (setClock s u).regs = s.regs := rfl
@[simp] theorem setClock_latches (u : Clock) : (setClock s u).latches = s.latches := rfl
@[simp] theorem setClock_sched (u : Clock) : (setClock s u).sched = s.sched := rfl
@[simp] theorem setClock_queues (u : Clock) : (setClock s u).queues = s.queues := rfl
@[simp] theorem setClock_tags (u : Clock) : (setClock s u).tags = s.tags := rfl
@[simp] theorem setClock_nextSlot (u : Clock) : (setClock s u).nextSlot = s.nextSlot := rfl
@[simp] theorem setClock_readWait (u : Clock) : (setClock s u).readWait = s.readWait := rfl
@[simp] theorem setClock_sup (u : Clock) : (setClock s u).sup = s.sup := rfl
@[simp] theorem setClock_fence (u : Clock) : (setClock s u).fence = s.fence := rfl
@[simp] theorem setClock_heldWrites (u : Clock) : (setClock s u).heldWrites = s.heldWrites := rfl
@[simp] theorem setClock_heldPackets (u : Clock) : (setClock s u).heldPackets = s.heldPackets := rfl
@[simp] theorem setClock_part (u : Clock) : (setClock s u).part = s.part := rfl
@[simp] theorem setClock_sync (u : Clock) : (setClock s u).sync = s.sync := rfl
@[simp] theorem setClock_ports (u : Clock) : (setClock s u).ports = s.ports := rfl
@[simp] theorem setClock_bridge (u : Clock) : (setClock s u).bridge = s.bridge := rfl
@[simp] theorem setClock_fab (u : Clock) : (setClock s u).fab = s.fab := rfl
@[simp] theorem setClock_faults (u : Clock) : (setClock s u).faults = s.faults := rfl
@[simp] theorem setClock_hubs (u : Clock) : (setClock s u).hubs = s.hubs := rfl
@[simp] theorem setClock_tally (u : Clock) : (setClock s u).tally = s.tally := rfl
@[simp] theorem setClock_ledger (u : Clock) : (setClock s u).ledger = s.ledger := rfl
@[simp] theorem setClock_bkg (u : Clock) : (setClock s u).bkg = s.bkg := rfl
@[simp] theorem setClock_host (u : Clock) : (setClock s u).host = s.host := rfl
@[simp] theorem setClock_power (u : Clock) : (setClock s u).power = s.power := rfl
@[simp] theorem setClock_logBuf (u : Clock) : (setClock s u).logBuf = s.logBuf := rfl
@[simp] theorem setClock_logSeq (u : Clock) : (setClock s u).logSeq = s.logSeq := rfl
@[simp] theorem setClock_pldmQ (u : Clock) : (setClock s u).pldmQ = s.pldmQ := rfl
@[simp] theorem setClock_pldmReceiver (u : Clock) : (setClock s u).pldmReceiver = s.pldmReceiver := rfl
@[simp] theorem setClock_msixUnmasked (u : Clock) : (setClock s u).msixUnmasked = s.msixUnmasked := rfl
@[simp] theorem setClock_msixPending (u : Clock) : (setClock s u).msixPending = s.msixPending := rfl
@[simp] theorem setClock_msixTable (u : Clock) : (setClock s u).msixTable = s.msixTable := rfl
@[simp] theorem setClock_out (u : Clock) : (setClock s u).out = s.out := rfl
@[simp] theorem setClock_free (u : Clock) : (setClock s u).free = s.free := rfl
@[simp] theorem setClock_pending (u : Clock) : (setClock s u).pending = s.pending := rfl
@[simp] theorem rd_setClock (u : Clock) (a : Nat) : rd (setClock s u) a = rd s a := rfl

@[simp] theorem setSched_build (u : Sched) : (setSched s u).build = s.build := rfl
@[simp] theorem setSched_straps (u : Sched) : (setSched s u).straps = s.straps := rfl
@[simp] theorem setSched_boot (u : Sched) : (setSched s u).boot = s.boot := rfl
@[simp] theorem setSched_fuses (u : Sched) : (setSched s u).fuses = s.fuses := rfl
@[simp] theorem setSched_mems (u : Sched) : (setSched s u).mems = s.mems := rfl
@[simp] theorem setSched_clock (u : Sched) : (setSched s u).clock = s.clock := rfl
@[simp] theorem setSched_tbu (u : Sched) : (setSched s u).tbu = s.tbu := rfl
@[simp] theorem setSched_regs (u : Sched) : (setSched s u).regs = s.regs := rfl
@[simp] theorem setSched_latches (u : Sched) : (setSched s u).latches = s.latches := rfl
@[simp] theorem setSched_sched (u : Sched) : (setSched s u).sched = u := rfl
@[simp] theorem setSched_queues (u : Sched) : (setSched s u).queues = s.queues := rfl
@[simp] theorem setSched_tags (u : Sched) : (setSched s u).tags = s.tags := rfl
@[simp] theorem setSched_nextSlot (u : Sched) : (setSched s u).nextSlot = s.nextSlot := rfl
@[simp] theorem setSched_readWait (u : Sched) : (setSched s u).readWait = s.readWait := rfl
@[simp] theorem setSched_sup (u : Sched) : (setSched s u).sup = s.sup := rfl
@[simp] theorem setSched_fence (u : Sched) : (setSched s u).fence = s.fence := rfl
@[simp] theorem setSched_heldWrites (u : Sched) : (setSched s u).heldWrites = s.heldWrites := rfl
@[simp] theorem setSched_heldPackets (u : Sched) : (setSched s u).heldPackets = s.heldPackets := rfl
@[simp] theorem setSched_part (u : Sched) : (setSched s u).part = s.part := rfl
@[simp] theorem setSched_sync (u : Sched) : (setSched s u).sync = s.sync := rfl
@[simp] theorem setSched_ports (u : Sched) : (setSched s u).ports = s.ports := rfl
@[simp] theorem setSched_bridge (u : Sched) : (setSched s u).bridge = s.bridge := rfl
@[simp] theorem setSched_fab (u : Sched) : (setSched s u).fab = s.fab := rfl
@[simp] theorem setSched_faults (u : Sched) : (setSched s u).faults = s.faults := rfl
@[simp] theorem setSched_hubs (u : Sched) : (setSched s u).hubs = s.hubs := rfl
@[simp] theorem setSched_tally (u : Sched) : (setSched s u).tally = s.tally := rfl
@[simp] theorem setSched_ledger (u : Sched) : (setSched s u).ledger = s.ledger := rfl
@[simp] theorem setSched_bkg (u : Sched) : (setSched s u).bkg = s.bkg := rfl
@[simp] theorem setSched_host (u : Sched) : (setSched s u).host = s.host := rfl
@[simp] theorem setSched_power (u : Sched) : (setSched s u).power = s.power := rfl
@[simp] theorem setSched_logBuf (u : Sched) : (setSched s u).logBuf = s.logBuf := rfl
@[simp] theorem setSched_logSeq (u : Sched) : (setSched s u).logSeq = s.logSeq := rfl
@[simp] theorem setSched_pldmQ (u : Sched) : (setSched s u).pldmQ = s.pldmQ := rfl
@[simp] theorem setSched_pldmReceiver (u : Sched) : (setSched s u).pldmReceiver = s.pldmReceiver := rfl
@[simp] theorem setSched_msixUnmasked (u : Sched) : (setSched s u).msixUnmasked = s.msixUnmasked := rfl
@[simp] theorem setSched_msixPending (u : Sched) : (setSched s u).msixPending = s.msixPending := rfl
@[simp] theorem setSched_msixTable (u : Sched) : (setSched s u).msixTable = s.msixTable := rfl
@[simp] theorem setSched_out (u : Sched) : (setSched s u).out = s.out := rfl
@[simp] theorem setSched_free (u : Sched) : (setSched s u).free = s.free := rfl
@[simp] theorem setSched_pending (u : Sched) : (setSched s u).pending = s.pending := rfl
@[simp] theorem rd_setSched (u : Sched) (a : Nat) : rd (setSched s u) a = rd s a := rfl

@[simp] theorem setQueue_build (q : Nat) (u : Queue) : (setQueue s q u).build = s.build := rfl
@[simp] theorem setQueue_straps (q : Nat) (u : Queue) : (setQueue s q u).straps = s.straps := rfl
@[simp] theorem setQueue_boot (q : Nat) (u : Queue) : (setQueue s q u).boot = s.boot := rfl
@[simp] theorem setQueue_fuses (q : Nat) (u : Queue) : (setQueue s q u).fuses = s.fuses := rfl
@[simp] theorem setQueue_mems (q : Nat) (u : Queue) : (setQueue s q u).mems = s.mems := rfl
@[simp] theorem setQueue_clock (q : Nat) (u : Queue) : (setQueue s q u).clock = s.clock := rfl
@[simp] theorem setQueue_tbu (q : Nat) (u : Queue) : (setQueue s q u).tbu = s.tbu := rfl
@[simp] theorem setQueue_regs (q : Nat) (u : Queue) : (setQueue s q u).regs = s.regs := rfl
@[simp] theorem setQueue_latches (q : Nat) (u : Queue) : (setQueue s q u).latches = s.latches := rfl
@[simp] theorem setQueue_sched (q : Nat) (u : Queue) : (setQueue s q u).sched = s.sched := rfl
@[simp] theorem setQueue_queues (q : Nat) (u : Queue) : (setQueue s q u).queues = SMap.put s.queues q u := rfl
@[simp] theorem setQueue_tags (q : Nat) (u : Queue) : (setQueue s q u).tags = s.tags := rfl
@[simp] theorem setQueue_nextSlot (q : Nat) (u : Queue) : (setQueue s q u).nextSlot = s.nextSlot := rfl
@[simp] theorem setQueue_readWait (q : Nat) (u : Queue) : (setQueue s q u).readWait = s.readWait := rfl
@[simp] theorem setQueue_sup (q : Nat) (u : Queue) : (setQueue s q u).sup = s.sup := rfl
@[simp] theorem setQueue_fence (q : Nat) (u : Queue) : (setQueue s q u).fence = s.fence := rfl
@[simp] theorem setQueue_heldWrites (q : Nat) (u : Queue) : (setQueue s q u).heldWrites = s.heldWrites := rfl
@[simp] theorem setQueue_heldPackets (q : Nat) (u : Queue) : (setQueue s q u).heldPackets = s.heldPackets := rfl
@[simp] theorem setQueue_part (q : Nat) (u : Queue) : (setQueue s q u).part = s.part := rfl
@[simp] theorem setQueue_sync (q : Nat) (u : Queue) : (setQueue s q u).sync = s.sync := rfl
@[simp] theorem setQueue_ports (q : Nat) (u : Queue) : (setQueue s q u).ports = s.ports := rfl
@[simp] theorem setQueue_bridge (q : Nat) (u : Queue) : (setQueue s q u).bridge = s.bridge := rfl
@[simp] theorem setQueue_fab (q : Nat) (u : Queue) : (setQueue s q u).fab = s.fab := rfl
@[simp] theorem setQueue_faults (q : Nat) (u : Queue) : (setQueue s q u).faults = s.faults := rfl
@[simp] theorem setQueue_hubs (q : Nat) (u : Queue) : (setQueue s q u).hubs = s.hubs := rfl
@[simp] theorem setQueue_tally (q : Nat) (u : Queue) : (setQueue s q u).tally = s.tally := rfl
@[simp] theorem setQueue_ledger (q : Nat) (u : Queue) : (setQueue s q u).ledger = s.ledger := rfl
@[simp] theorem setQueue_bkg (q : Nat) (u : Queue) : (setQueue s q u).bkg = s.bkg := rfl
@[simp] theorem setQueue_host (q : Nat) (u : Queue) : (setQueue s q u).host = s.host := rfl
@[simp] theorem setQueue_power (q : Nat) (u : Queue) : (setQueue s q u).power = s.power := rfl
@[simp] theorem setQueue_logBuf (q : Nat) (u : Queue) : (setQueue s q u).logBuf = s.logBuf := rfl
@[simp] theorem setQueue_logSeq (q : Nat) (u : Queue) : (setQueue s q u).logSeq = s.logSeq := rfl
@[simp] theorem setQueue_pldmQ (q : Nat) (u : Queue) : (setQueue s q u).pldmQ = s.pldmQ := rfl
@[simp] theorem setQueue_pldmReceiver (q : Nat) (u : Queue) : (setQueue s q u).pldmReceiver = s.pldmReceiver := rfl
@[simp] theorem setQueue_msixUnmasked (q : Nat) (u : Queue) : (setQueue s q u).msixUnmasked = s.msixUnmasked := rfl
@[simp] theorem setQueue_msixPending (q : Nat) (u : Queue) : (setQueue s q u).msixPending = s.msixPending := rfl
@[simp] theorem setQueue_msixTable (q : Nat) (u : Queue) : (setQueue s q u).msixTable = s.msixTable := rfl
@[simp] theorem setQueue_out (q : Nat) (u : Queue) : (setQueue s q u).out = s.out := rfl
@[simp] theorem setQueue_free (q : Nat) (u : Queue) : (setQueue s q u).free = s.free := rfl
@[simp] theorem setQueue_pending (q : Nat) (u : Queue) : (setQueue s q u).pending = s.pending := rfl
@[simp] theorem rd_setQueue (q : Nat) (u : Queue) (a : Nat) : rd (setQueue s q u) a = rd s a := rfl

@[simp] theorem setPort_build (q : Nat) (u : Port) : (setPort s q u).build = s.build := rfl
@[simp] theorem setPort_straps (q : Nat) (u : Port) : (setPort s q u).straps = s.straps := rfl
@[simp] theorem setPort_boot (q : Nat) (u : Port) : (setPort s q u).boot = s.boot := rfl
@[simp] theorem setPort_fuses (q : Nat) (u : Port) : (setPort s q u).fuses = s.fuses := rfl
@[simp] theorem setPort_mems (q : Nat) (u : Port) : (setPort s q u).mems = s.mems := rfl
@[simp] theorem setPort_clock (q : Nat) (u : Port) : (setPort s q u).clock = s.clock := rfl
@[simp] theorem setPort_tbu (q : Nat) (u : Port) : (setPort s q u).tbu = s.tbu := rfl
@[simp] theorem setPort_regs (q : Nat) (u : Port) : (setPort s q u).regs = s.regs := rfl
@[simp] theorem setPort_latches (q : Nat) (u : Port) : (setPort s q u).latches = s.latches := rfl
@[simp] theorem setPort_sched (q : Nat) (u : Port) : (setPort s q u).sched = s.sched := rfl
@[simp] theorem setPort_queues (q : Nat) (u : Port) : (setPort s q u).queues = s.queues := rfl
@[simp] theorem setPort_tags (q : Nat) (u : Port) : (setPort s q u).tags = s.tags := rfl
@[simp] theorem setPort_nextSlot (q : Nat) (u : Port) : (setPort s q u).nextSlot = s.nextSlot := rfl
@[simp] theorem setPort_readWait (q : Nat) (u : Port) : (setPort s q u).readWait = s.readWait := rfl
@[simp] theorem setPort_sup (q : Nat) (u : Port) : (setPort s q u).sup = s.sup := rfl
@[simp] theorem setPort_fence (q : Nat) (u : Port) : (setPort s q u).fence = s.fence := rfl
@[simp] theorem setPort_heldWrites (q : Nat) (u : Port) : (setPort s q u).heldWrites = s.heldWrites := rfl
@[simp] theorem setPort_heldPackets (q : Nat) (u : Port) : (setPort s q u).heldPackets = s.heldPackets := rfl
@[simp] theorem setPort_part (q : Nat) (u : Port) : (setPort s q u).part = s.part := rfl
@[simp] theorem setPort_sync (q : Nat) (u : Port) : (setPort s q u).sync = s.sync := rfl
@[simp] theorem setPort_ports (q : Nat) (u : Port) : (setPort s q u).ports = SMap.put s.ports q u := rfl
@[simp] theorem setPort_bridge (q : Nat) (u : Port) : (setPort s q u).bridge = s.bridge := rfl
@[simp] theorem setPort_fab (q : Nat) (u : Port) : (setPort s q u).fab = s.fab := rfl
@[simp] theorem setPort_faults (q : Nat) (u : Port) : (setPort s q u).faults = s.faults := rfl
@[simp] theorem setPort_hubs (q : Nat) (u : Port) : (setPort s q u).hubs = s.hubs := rfl
@[simp] theorem setPort_tally (q : Nat) (u : Port) : (setPort s q u).tally = s.tally := rfl
@[simp] theorem setPort_ledger (q : Nat) (u : Port) : (setPort s q u).ledger = s.ledger := rfl
@[simp] theorem setPort_bkg (q : Nat) (u : Port) : (setPort s q u).bkg = s.bkg := rfl
@[simp] theorem setPort_host (q : Nat) (u : Port) : (setPort s q u).host = s.host := rfl
@[simp] theorem setPort_power (q : Nat) (u : Port) : (setPort s q u).power = s.power := rfl
@[simp] theorem setPort_logBuf (q : Nat) (u : Port) : (setPort s q u).logBuf = s.logBuf := rfl
@[simp] theorem setPort_logSeq (q : Nat) (u : Port) : (setPort s q u).logSeq = s.logSeq := rfl
@[simp] theorem setPort_pldmQ (q : Nat) (u : Port) : (setPort s q u).pldmQ = s.pldmQ := rfl
@[simp] theorem setPort_pldmReceiver (q : Nat) (u : Port) : (setPort s q u).pldmReceiver = s.pldmReceiver := rfl
@[simp] theorem setPort_msixUnmasked (q : Nat) (u : Port) : (setPort s q u).msixUnmasked = s.msixUnmasked := rfl
@[simp] theorem setPort_msixPending (q : Nat) (u : Port) : (setPort s q u).msixPending = s.msixPending := rfl
@[simp] theorem setPort_msixTable (q : Nat) (u : Port) : (setPort s q u).msixTable = s.msixTable := rfl
@[simp] theorem setPort_out (q : Nat) (u : Port) : (setPort s q u).out = s.out := rfl
@[simp] theorem setPort_free (q : Nat) (u : Port) : (setPort s q u).free = s.free := rfl
@[simp] theorem setPort_pending (q : Nat) (u : Port) : (setPort s q u).pending = s.pending := rfl
@[simp] theorem rd_setPort (q : Nat) (u : Port) (a : Nat) : rd (setPort s q u) a = rd s a := rfl

@[simp] theorem setItem_build (q : Nat) (u : Item) : (setItem s q u).build = s.build := rfl
@[simp] theorem setItem_straps (q : Nat) (u : Item) : (setItem s q u).straps = s.straps := rfl
@[simp] theorem setItem_boot (q : Nat) (u : Item) : (setItem s q u).boot = s.boot := rfl
@[simp] theorem setItem_fuses (q : Nat) (u : Item) : (setItem s q u).fuses = s.fuses := rfl
@[simp] theorem setItem_mems (q : Nat) (u : Item) : (setItem s q u).mems = s.mems := rfl
@[simp] theorem setItem_clock (q : Nat) (u : Item) : (setItem s q u).clock = s.clock := rfl
@[simp] theorem setItem_tbu (q : Nat) (u : Item) : (setItem s q u).tbu = s.tbu := rfl
@[simp] theorem setItem_regs (q : Nat) (u : Item) : (setItem s q u).regs = s.regs := rfl
@[simp] theorem setItem_latches (q : Nat) (u : Item) : (setItem s q u).latches = s.latches := rfl
@[simp] theorem setItem_sched (q : Nat) (u : Item) : (setItem s q u).sched = { s.sched with items := SMap.put s.sched.items q u } := rfl
@[simp] theorem setItem_queues (q : Nat) (u : Item) : (setItem s q u).queues = s.queues := rfl
@[simp] theorem setItem_tags (q : Nat) (u : Item) : (setItem s q u).tags = s.tags := rfl
@[simp] theorem setItem_nextSlot (q : Nat) (u : Item) : (setItem s q u).nextSlot = s.nextSlot := rfl
@[simp] theorem setItem_readWait (q : Nat) (u : Item) : (setItem s q u).readWait = s.readWait := rfl
@[simp] theorem setItem_sup (q : Nat) (u : Item) : (setItem s q u).sup = s.sup := rfl
@[simp] theorem setItem_fence (q : Nat) (u : Item) : (setItem s q u).fence = s.fence := rfl
@[simp] theorem setItem_heldWrites (q : Nat) (u : Item) : (setItem s q u).heldWrites = s.heldWrites := rfl
@[simp] theorem setItem_heldPackets (q : Nat) (u : Item) : (setItem s q u).heldPackets = s.heldPackets := rfl
@[simp] theorem setItem_part (q : Nat) (u : Item) : (setItem s q u).part = s.part := rfl
@[simp] theorem setItem_sync (q : Nat) (u : Item) : (setItem s q u).sync = s.sync := rfl
@[simp] theorem setItem_ports (q : Nat) (u : Item) : (setItem s q u).ports = s.ports := rfl
@[simp] theorem setItem_bridge (q : Nat) (u : Item) : (setItem s q u).bridge = s.bridge := rfl
@[simp] theorem setItem_fab (q : Nat) (u : Item) : (setItem s q u).fab = s.fab := rfl
@[simp] theorem setItem_faults (q : Nat) (u : Item) : (setItem s q u).faults = s.faults := rfl
@[simp] theorem setItem_hubs (q : Nat) (u : Item) : (setItem s q u).hubs = s.hubs := rfl
@[simp] theorem setItem_tally (q : Nat) (u : Item) : (setItem s q u).tally = s.tally := rfl
@[simp] theorem setItem_ledger (q : Nat) (u : Item) : (setItem s q u).ledger = s.ledger := rfl
@[simp] theorem setItem_bkg (q : Nat) (u : Item) : (setItem s q u).bkg = s.bkg := rfl
@[simp] theorem setItem_host (q : Nat) (u : Item) : (setItem s q u).host = s.host := rfl
@[simp] theorem setItem_power (q : Nat) (u : Item) : (setItem s q u).power = s.power := rfl
@[simp] theorem setItem_logBuf (q : Nat) (u : Item) : (setItem s q u).logBuf = s.logBuf := rfl
@[simp] theorem setItem_logSeq (q : Nat) (u : Item) : (setItem s q u).logSeq = s.logSeq := rfl
@[simp] theorem setItem_pldmQ (q : Nat) (u : Item) : (setItem s q u).pldmQ = s.pldmQ := rfl
@[simp] theorem setItem_pldmReceiver (q : Nat) (u : Item) : (setItem s q u).pldmReceiver = s.pldmReceiver := rfl
@[simp] theorem setItem_msixUnmasked (q : Nat) (u : Item) : (setItem s q u).msixUnmasked = s.msixUnmasked := rfl
@[simp] theorem setItem_msixPending (q : Nat) (u : Item) : (setItem s q u).msixPending = s.msixPending := rfl
@[simp] theorem setItem_msixTable (q : Nat) (u : Item) : (setItem s q u).msixTable = s.msixTable := rfl
@[simp] theorem setItem_out (q : Nat) (u : Item) : (setItem s q u).out = s.out := rfl
@[simp] theorem setItem_free (q : Nat) (u : Item) : (setItem s q u).free = s.free := rfl
@[simp] theorem setItem_pending (q : Nat) (u : Item) : (setItem s q u).pending = s.pending := rfl
@[simp] theorem rd_setItem (q : Nat) (u : Item) (a : Nat) : rd (setItem s q u) a = rd s a := rfl

@[simp] theorem setSpoke_build (q : Nat) (u : Spoke) : (setSpoke s q u).build = s.build := rfl
@[simp] theorem setSpoke_straps (q : Nat) (u : Spoke) : (setSpoke s q u).straps = s.straps := rfl
@[simp] theorem setSpoke_boot (q : Nat) (u : Spoke) : (setSpoke s q u).boot = s.boot := rfl
@[simp] theorem setSpoke_fuses (q : Nat) (u : Spoke) : (setSpoke s q u).fuses = s.fuses := rfl
@[simp] theorem setSpoke_mems (q : Nat) (u : Spoke) : (setSpoke s q u).mems = s.mems := rfl
@[simp] theorem setSpoke_clock (q : Nat) (u : Spoke) : (setSpoke s q u).clock = s.clock := rfl
@[simp] theorem setSpoke_tbu (q : Nat) (u : Spoke) : (setSpoke s q u).tbu = s.tbu := rfl
@[simp] theorem setSpoke_regs (q : Nat) (u : Spoke) : (setSpoke s q u).regs = s.regs := rfl
@[simp] theorem setSpoke_latches (q : Nat) (u : Spoke) : (setSpoke s q u).latches = s.latches := rfl
@[simp] theorem setSpoke_sched (q : Nat) (u : Spoke) : (setSpoke s q u).sched = s.sched := rfl
@[simp] theorem setSpoke_queues (q : Nat) (u : Spoke) : (setSpoke s q u).queues = s.queues := rfl
@[simp] theorem setSpoke_tags (q : Nat) (u : Spoke) : (setSpoke s q u).tags = s.tags := rfl
@[simp] theorem setSpoke_nextSlot (q : Nat) (u : Spoke) : (setSpoke s q u).nextSlot = s.nextSlot := rfl
@[simp] theorem setSpoke_readWait (q : Nat) (u : Spoke) : (setSpoke s q u).readWait = s.readWait := rfl
@[simp] theorem setSpoke_sup (q : Nat) (u : Spoke) : (setSpoke s q u).sup = s.sup := rfl
@[simp] theorem setSpoke_fence (q : Nat) (u : Spoke) : (setSpoke s q u).fence = s.fence := rfl
@[simp] theorem setSpoke_heldWrites (q : Nat) (u : Spoke) : (setSpoke s q u).heldWrites = s.heldWrites := rfl
@[simp] theorem setSpoke_heldPackets (q : Nat) (u : Spoke) : (setSpoke s q u).heldPackets = s.heldPackets := rfl
@[simp] theorem setSpoke_part (q : Nat) (u : Spoke) : (setSpoke s q u).part = s.part := rfl
@[simp] theorem setSpoke_sync (q : Nat) (u : Spoke) : (setSpoke s q u).sync = s.sync := rfl
@[simp] theorem setSpoke_ports (q : Nat) (u : Spoke) : (setSpoke s q u).ports = s.ports := rfl
@[simp] theorem setSpoke_bridge (q : Nat) (u : Spoke) : (setSpoke s q u).bridge = s.bridge := rfl
@[simp] theorem setSpoke_fab (q : Nat) (u : Spoke) : (setSpoke s q u).fab = s.fab := rfl
@[simp] theorem setSpoke_faults (q : Nat) (u : Spoke) : (setSpoke s q u).faults = s.faults := rfl
@[simp] theorem setSpoke_hubs (q : Nat) (u : Spoke) : (setSpoke s q u).hubs = { s.hubs with spokes := SMap.put s.hubs.spokes q u } := rfl
@[simp] theorem setSpoke_tally (q : Nat) (u : Spoke) : (setSpoke s q u).tally = s.tally := rfl
@[simp] theorem setSpoke_ledger (q : Nat) (u : Spoke) : (setSpoke s q u).ledger = s.ledger := rfl
@[simp] theorem setSpoke_bkg (q : Nat) (u : Spoke) : (setSpoke s q u).bkg = s.bkg := rfl
@[simp] theorem setSpoke_host (q : Nat) (u : Spoke) : (setSpoke s q u).host = s.host := rfl
@[simp] theorem setSpoke_power (q : Nat) (u : Spoke) : (setSpoke s q u).power = s.power := rfl
@[simp] theorem setSpoke_logBuf (q : Nat) (u : Spoke) : (setSpoke s q u).logBuf = s.logBuf := rfl
@[simp] theorem setSpoke_logSeq (q : Nat) (u : Spoke) : (setSpoke s q u).logSeq = s.logSeq := rfl
@[simp] theorem setSpoke_pldmQ (q : Nat) (u : Spoke) : (setSpoke s q u).pldmQ = s.pldmQ := rfl
@[simp] theorem setSpoke_pldmReceiver (q : Nat) (u : Spoke) : (setSpoke s q u).pldmReceiver = s.pldmReceiver := rfl
@[simp] theorem setSpoke_msixUnmasked (q : Nat) (u : Spoke) : (setSpoke s q u).msixUnmasked = s.msixUnmasked := rfl
@[simp] theorem setSpoke_msixPending (q : Nat) (u : Spoke) : (setSpoke s q u).msixPending = s.msixPending := rfl
@[simp] theorem setSpoke_msixTable (q : Nat) (u : Spoke) : (setSpoke s q u).msixTable = s.msixTable := rfl
@[simp] theorem setSpoke_out (q : Nat) (u : Spoke) : (setSpoke s q u).out = s.out := rfl
@[simp] theorem setSpoke_free (q : Nat) (u : Spoke) : (setSpoke s q u).free = s.free := rfl
@[simp] theorem setSpoke_pending (q : Nat) (u : Spoke) : (setSpoke s q u).pending = s.pending := rfl
@[simp] theorem rd_setSpoke (q : Nat) (u : Spoke) (a : Nat) : rd (setSpoke s q u) a = rd s a := rfl

@[simp] theorem setSlot_build (q : Nat) (u : Slot) : (setSlot s q u).build = s.build := rfl
@[simp] theorem setSlot_straps (q : Nat) (u : Slot) : (setSlot s q u).straps = s.straps := rfl
@[simp] theorem setSlot_boot (q : Nat) (u : Slot) : (setSlot s q u).boot = s.boot := rfl
@[simp] theorem setSlot_fuses (q : Nat) (u : Slot) : (setSlot s q u).fuses = s.fuses := rfl
@[simp] theorem setSlot_mems (q : Nat) (u : Slot) : (setSlot s q u).mems = s.mems := rfl
@[simp] theorem setSlot_clock (q : Nat) (u : Slot) : (setSlot s q u).clock = s.clock := rfl
@[simp] theorem setSlot_tbu (q : Nat) (u : Slot) : (setSlot s q u).tbu = s.tbu := rfl
@[simp] theorem setSlot_regs (q : Nat) (u : Slot) : (setSlot s q u).regs = s.regs := rfl
@[simp] theorem setSlot_latches (q : Nat) (u : Slot) : (setSlot s q u).latches = s.latches := rfl
@[simp] theorem setSlot_sched (q : Nat) (u : Slot) : (setSlot s q u).sched = s.sched := rfl
@[simp] theorem setSlot_queues (q : Nat) (u : Slot) : (setSlot s q u).queues = s.queues := rfl
@[simp] theorem setSlot_tags (q : Nat) (u : Slot) : (setSlot s q u).tags = s.tags := rfl
@[simp] theorem setSlot_nextSlot (q : Nat) (u : Slot) : (setSlot s q u).nextSlot = s.nextSlot := rfl
@[simp] theorem setSlot_readWait (q : Nat) (u : Slot) : (setSlot s q u).readWait = s.readWait := rfl
@[simp] theorem setSlot_sup (q : Nat) (u : Slot) : (setSlot s q u).sup = s.sup := rfl
@[simp] theorem setSlot_fence (q : Nat) (u : Slot) : (setSlot s q u).fence = s.fence := rfl
@[simp] theorem setSlot_heldWrites (q : Nat) (u : Slot) : (setSlot s q u).heldWrites = s.heldWrites := rfl
@[simp] theorem setSlot_heldPackets (q : Nat) (u : Slot) : (setSlot s q u).heldPackets = s.heldPackets := rfl
@[simp] theorem setSlot_part (q : Nat) (u : Slot) : (setSlot s q u).part = s.part := rfl
@[simp] theorem setSlot_sync (q : Nat) (u : Slot) : (setSlot s q u).sync = s.sync := rfl
@[simp] theorem setSlot_ports (q : Nat) (u : Slot) : (setSlot s q u).ports = s.ports := rfl
@[simp] theorem setSlot_bridge (q : Nat) (u : Slot) : (setSlot s q u).bridge = s.bridge := rfl
@[simp] theorem setSlot_fab (q : Nat) (u : Slot) : (setSlot s q u).fab = s.fab := rfl
@[simp] theorem setSlot_faults (q : Nat) (u : Slot) : (setSlot s q u).faults = s.faults := rfl
@[simp] theorem setSlot_hubs (q : Nat) (u : Slot) : (setSlot s q u).hubs = s.hubs := rfl
@[simp] theorem setSlot_tally (q : Nat) (u : Slot) : (setSlot s q u).tally = s.tally := rfl
@[simp] theorem setSlot_ledger (q : Nat) (u : Slot) : (setSlot s q u).ledger = { s.ledger with slots := SMap.put s.ledger.slots q u } := rfl
@[simp] theorem setSlot_bkg (q : Nat) (u : Slot) : (setSlot s q u).bkg = s.bkg := rfl
@[simp] theorem setSlot_host (q : Nat) (u : Slot) : (setSlot s q u).host = s.host := rfl
@[simp] theorem setSlot_power (q : Nat) (u : Slot) : (setSlot s q u).power = s.power := rfl
@[simp] theorem setSlot_logBuf (q : Nat) (u : Slot) : (setSlot s q u).logBuf = s.logBuf := rfl
@[simp] theorem setSlot_logSeq (q : Nat) (u : Slot) : (setSlot s q u).logSeq = s.logSeq := rfl
@[simp] theorem setSlot_pldmQ (q : Nat) (u : Slot) : (setSlot s q u).pldmQ = s.pldmQ := rfl
@[simp] theorem setSlot_pldmReceiver (q : Nat) (u : Slot) : (setSlot s q u).pldmReceiver = s.pldmReceiver := rfl
@[simp] theorem setSlot_msixUnmasked (q : Nat) (u : Slot) : (setSlot s q u).msixUnmasked = s.msixUnmasked := rfl
@[simp] theorem setSlot_msixPending (q : Nat) (u : Slot) : (setSlot s q u).msixPending = s.msixPending := rfl
@[simp] theorem setSlot_msixTable (q : Nat) (u : Slot) : (setSlot s q u).msixTable = s.msixTable := rfl
@[simp] theorem setSlot_out (q : Nat) (u : Slot) : (setSlot s q u).out = s.out := rfl
@[simp] theorem setSlot_free (q : Nat) (u : Slot) : (setSlot s q u).free = s.free := rfl
@[simp] theorem setSlot_pending (q : Nat) (u : Slot) : (setSlot s q u).pending = s.pending := rfl
@[simp] theorem rd_setSlot (q : Nat) (u : Slot) (a : Nat) : rd (setSlot s q u) a = rd s a := rfl

@[simp] theorem drawn_build : (drawn s).build = s.build := rfl
@[simp] theorem drawn_straps : (drawn s).straps = s.straps := rfl
@[simp] theorem drawn_boot : (drawn s).boot = s.boot := rfl
@[simp] theorem drawn_fuses : (drawn s).fuses = s.fuses := rfl
@[simp] theorem drawn_mems : (drawn s).mems = s.mems := rfl
@[simp] theorem drawn_clock : (drawn s).clock = s.clock := rfl
@[simp] theorem drawn_tbu : (drawn s).tbu = s.tbu := rfl
@[simp] theorem drawn_regs : (drawn s).regs = s.regs := rfl
@[simp] theorem drawn_latches : (drawn s).latches = s.latches := rfl
@[simp] theorem drawn_sched : (drawn s).sched = s.sched := rfl
@[simp] theorem drawn_queues : (drawn s).queues = s.queues := rfl
@[simp] theorem drawn_tags : (drawn s).tags = s.tags := rfl
@[simp] theorem drawn_nextSlot : (drawn s).nextSlot = s.nextSlot := rfl
@[simp] theorem drawn_readWait : (drawn s).readWait = s.readWait := rfl
@[simp] theorem drawn_sup : (drawn s).sup = s.sup := rfl
@[simp] theorem drawn_fence : (drawn s).fence = s.fence := rfl
@[simp] theorem drawn_heldWrites : (drawn s).heldWrites = s.heldWrites := rfl
@[simp] theorem drawn_heldPackets : (drawn s).heldPackets = s.heldPackets := rfl
@[simp] theorem drawn_part : (drawn s).part = s.part := rfl
@[simp] theorem drawn_sync : (drawn s).sync = s.sync := rfl
@[simp] theorem drawn_ports : (drawn s).ports = s.ports := rfl
@[simp] theorem drawn_bridge : (drawn s).bridge = s.bridge := rfl
@[simp] theorem drawn_fab : (drawn s).fab = s.fab := rfl
@[simp] theorem drawn_faults : (drawn s).faults = s.faults := rfl
@[simp] theorem drawn_hubs : (drawn s).hubs = s.hubs := rfl
@[simp] theorem drawn_tally : (drawn s).tally = s.tally := rfl
@[simp] theorem drawn_ledger : (drawn s).ledger = s.ledger := rfl
@[simp] theorem drawn_bkg : (drawn s).bkg = s.bkg := rfl
@[simp] theorem drawn_host : (drawn s).host = s.host := rfl
@[simp] theorem drawn_power : (drawn s).power = s.power := rfl
@[simp] theorem drawn_logBuf : (drawn s).logBuf = s.logBuf := rfl
@[simp] theorem drawn_logSeq : (drawn s).logSeq = s.logSeq := rfl
@[simp] theorem drawn_pldmQ : (drawn s).pldmQ = s.pldmQ := rfl
@[simp] theorem drawn_pldmReceiver : (drawn s).pldmReceiver = s.pldmReceiver := rfl
@[simp] theorem drawn_msixUnmasked : (drawn s).msixUnmasked = s.msixUnmasked := rfl
@[simp] theorem drawn_msixPending : (drawn s).msixPending = s.msixPending := rfl
@[simp] theorem drawn_msixTable : (drawn s).msixTable = s.msixTable := rfl
@[simp] theorem drawn_out : (drawn s).out = s.out := rfl
@[simp] theorem drawn_free : (drawn s).free = s.free + 1 := rfl
@[simp] theorem drawn_pending : (drawn s).pending = s.pending := rfl
@[simp] theorem rd_drawn (a : Nat) : rd (drawn s) a = rd s a := rfl

@[simp] theorem emit_build (o : Output) : (emit s o).build = s.build := rfl
@[simp] theorem emit_straps (o : Output) : (emit s o).straps = s.straps := rfl
@[simp] theorem emit_boot (o : Output) : (emit s o).boot = s.boot := rfl
@[simp] theorem emit_fuses (o : Output) : (emit s o).fuses = s.fuses := rfl
@[simp] theorem emit_mems (o : Output) : (emit s o).mems = s.mems := rfl
@[simp] theorem emit_clock (o : Output) : (emit s o).clock = s.clock := rfl
@[simp] theorem emit_tbu (o : Output) : (emit s o).tbu = s.tbu := rfl
@[simp] theorem emit_regs (o : Output) : (emit s o).regs = s.regs := rfl
@[simp] theorem emit_latches (o : Output) : (emit s o).latches = s.latches := rfl
@[simp] theorem emit_sched (o : Output) : (emit s o).sched = s.sched := rfl
@[simp] theorem emit_queues (o : Output) : (emit s o).queues = s.queues := rfl
@[simp] theorem emit_tags (o : Output) : (emit s o).tags = s.tags := rfl
@[simp] theorem emit_nextSlot (o : Output) : (emit s o).nextSlot = s.nextSlot := rfl
@[simp] theorem emit_readWait (o : Output) : (emit s o).readWait = s.readWait := rfl
@[simp] theorem emit_sup (o : Output) : (emit s o).sup = s.sup := rfl
@[simp] theorem emit_fence (o : Output) : (emit s o).fence = s.fence := rfl
@[simp] theorem emit_heldWrites (o : Output) : (emit s o).heldWrites = s.heldWrites := rfl
@[simp] theorem emit_heldPackets (o : Output) : (emit s o).heldPackets = s.heldPackets := rfl
@[simp] theorem emit_part (o : Output) : (emit s o).part = s.part := rfl
@[simp] theorem emit_sync (o : Output) : (emit s o).sync = s.sync := rfl
@[simp] theorem emit_ports (o : Output) : (emit s o).ports = s.ports := rfl
@[simp] theorem emit_bridge (o : Output) : (emit s o).bridge = s.bridge := rfl
@[simp] theorem emit_fab (o : Output) : (emit s o).fab = s.fab := rfl
@[simp] theorem emit_faults (o : Output) : (emit s o).faults = s.faults := rfl
@[simp] theorem emit_hubs (o : Output) : (emit s o).hubs = s.hubs := rfl
@[simp] theorem emit_tally (o : Output) : (emit s o).tally = s.tally := rfl
@[simp] theorem emit_ledger (o : Output) : (emit s o).ledger = s.ledger := rfl
@[simp] theorem emit_bkg (o : Output) : (emit s o).bkg = s.bkg := rfl
@[simp] theorem emit_host (o : Output) : (emit s o).host = s.host := rfl
@[simp] theorem emit_power (o : Output) : (emit s o).power = s.power := rfl
@[simp] theorem emit_logBuf (o : Output) : (emit s o).logBuf = s.logBuf := rfl
@[simp] theorem emit_logSeq (o : Output) : (emit s o).logSeq = s.logSeq := rfl
@[simp] theorem emit_pldmQ (o : Output) : (emit s o).pldmQ = s.pldmQ := rfl
@[simp] theorem emit_pldmReceiver (o : Output) : (emit s o).pldmReceiver = s.pldmReceiver := rfl
@[simp] theorem emit_msixUnmasked (o : Output) : (emit s o).msixUnmasked = s.msixUnmasked := rfl
@[simp] theorem emit_msixPending (o : Output) : (emit s o).msixPending = s.msixPending := rfl
@[simp] theorem emit_msixTable (o : Output) : (emit s o).msixTable = s.msixTable := rfl
@[simp] theorem emit_out (o : Output) : (emit s o).out = o :: s.out := rfl
@[simp] theorem emit_free (o : Output) : (emit s o).free = s.free := rfl
@[simp] theorem emit_pending (o : Output) : (emit s o).pending = s.pending := rfl
@[simp] theorem rd_emit (o : Output) (a : Nat) : rd (emit s o) a = rd s a := rfl

@[simp] theorem wr_build (off : Nat) (v : Word) : (wr s off v).build = s.build := rfl
@[simp] theorem wr_straps (off : Nat) (v : Word) : (wr s off v).straps = s.straps := rfl
@[simp] theorem wr_boot (off : Nat) (v : Word) : (wr s off v).boot = s.boot := rfl
@[simp] theorem wr_fuses (off : Nat) (v : Word) : (wr s off v).fuses = s.fuses := rfl
@[simp] theorem wr_mems (off : Nat) (v : Word) : (wr s off v).mems = s.mems := rfl
@[simp] theorem wr_clock (off : Nat) (v : Word) : (wr s off v).clock = s.clock := rfl
@[simp] theorem wr_tbu (off : Nat) (v : Word) : (wr s off v).tbu = s.tbu := rfl
@[simp] theorem wr_regs (off : Nat) (v : Word) : (wr s off v).regs = SMap.put s.regs off v := rfl
@[simp] theorem wr_latches (off : Nat) (v : Word) : (wr s off v).latches = s.latches := rfl
@[simp] theorem wr_sched (off : Nat) (v : Word) : (wr s off v).sched = s.sched := rfl
@[simp] theorem wr_queues (off : Nat) (v : Word) : (wr s off v).queues = s.queues := rfl
@[simp] theorem wr_tags (off : Nat) (v : Word) : (wr s off v).tags = s.tags := rfl
@[simp] theorem wr_nextSlot (off : Nat) (v : Word) : (wr s off v).nextSlot = s.nextSlot := rfl
@[simp] theorem wr_readWait (off : Nat) (v : Word) : (wr s off v).readWait = s.readWait := rfl
@[simp] theorem wr_sup (off : Nat) (v : Word) : (wr s off v).sup = s.sup := rfl
@[simp] theorem wr_fence (off : Nat) (v : Word) : (wr s off v).fence = s.fence := rfl
@[simp] theorem wr_heldWrites (off : Nat) (v : Word) : (wr s off v).heldWrites = s.heldWrites := rfl
@[simp] theorem wr_heldPackets (off : Nat) (v : Word) : (wr s off v).heldPackets = s.heldPackets := rfl
@[simp] theorem wr_part (off : Nat) (v : Word) : (wr s off v).part = s.part := rfl
@[simp] theorem wr_sync (off : Nat) (v : Word) : (wr s off v).sync = s.sync := rfl
@[simp] theorem wr_ports (off : Nat) (v : Word) : (wr s off v).ports = s.ports := rfl
@[simp] theorem wr_bridge (off : Nat) (v : Word) : (wr s off v).bridge = s.bridge := rfl
@[simp] theorem wr_fab (off : Nat) (v : Word) : (wr s off v).fab = s.fab := rfl
@[simp] theorem wr_faults (off : Nat) (v : Word) : (wr s off v).faults = s.faults := rfl
@[simp] theorem wr_hubs (off : Nat) (v : Word) : (wr s off v).hubs = s.hubs := rfl
@[simp] theorem wr_tally (off : Nat) (v : Word) : (wr s off v).tally = s.tally := rfl
@[simp] theorem wr_ledger (off : Nat) (v : Word) : (wr s off v).ledger = s.ledger := rfl
@[simp] theorem wr_bkg (off : Nat) (v : Word) : (wr s off v).bkg = s.bkg := rfl
@[simp] theorem wr_host (off : Nat) (v : Word) : (wr s off v).host = s.host := rfl
@[simp] theorem wr_power (off : Nat) (v : Word) : (wr s off v).power = s.power := rfl
@[simp] theorem wr_logBuf (off : Nat) (v : Word) : (wr s off v).logBuf = s.logBuf := rfl
@[simp] theorem wr_logSeq (off : Nat) (v : Word) : (wr s off v).logSeq = s.logSeq := rfl
@[simp] theorem wr_pldmQ (off : Nat) (v : Word) : (wr s off v).pldmQ = s.pldmQ := rfl
@[simp] theorem wr_pldmReceiver (off : Nat) (v : Word) : (wr s off v).pldmReceiver = s.pldmReceiver := rfl
@[simp] theorem wr_msixUnmasked (off : Nat) (v : Word) : (wr s off v).msixUnmasked = s.msixUnmasked := rfl
@[simp] theorem wr_msixPending (off : Nat) (v : Word) : (wr s off v).msixPending = s.msixPending := rfl
@[simp] theorem wr_msixTable (off : Nat) (v : Word) : (wr s off v).msixTable = s.msixTable := rfl
@[simp] theorem wr_out (off : Nat) (v : Word) : (wr s off v).out = s.out := rfl
@[simp] theorem wr_free (off : Nat) (v : Word) : (wr s off v).free = s.free := rfl
@[simp] theorem wr_pending (off : Nat) (v : Word) : (wr s off v).pending = s.pending := rfl

@[simp] theorem memWrite_build (a : Nat) (bs : List Byte) : (memWrite s a bs).build = s.build := rfl
@[simp] theorem memWrite_straps (a : Nat) (bs : List Byte) : (memWrite s a bs).straps = s.straps := rfl
@[simp] theorem memWrite_boot (a : Nat) (bs : List Byte) : (memWrite s a bs).boot = s.boot := rfl
@[simp] theorem memWrite_fuses (a : Nat) (bs : List Byte) : (memWrite s a bs).fuses = s.fuses := rfl
@[simp] theorem memWrite_clock (a : Nat) (bs : List Byte) : (memWrite s a bs).clock = s.clock := rfl
@[simp] theorem memWrite_tbu (a : Nat) (bs : List Byte) : (memWrite s a bs).tbu = s.tbu := rfl
@[simp] theorem memWrite_regs (a : Nat) (bs : List Byte) : (memWrite s a bs).regs = s.regs := rfl
@[simp] theorem memWrite_latches (a : Nat) (bs : List Byte) : (memWrite s a bs).latches = s.latches := rfl
@[simp] theorem memWrite_sched (a : Nat) (bs : List Byte) : (memWrite s a bs).sched = s.sched := rfl
@[simp] theorem memWrite_queues (a : Nat) (bs : List Byte) : (memWrite s a bs).queues = s.queues := rfl
@[simp] theorem memWrite_tags (a : Nat) (bs : List Byte) : (memWrite s a bs).tags = s.tags := rfl
@[simp] theorem memWrite_nextSlot (a : Nat) (bs : List Byte) : (memWrite s a bs).nextSlot = s.nextSlot := rfl
@[simp] theorem memWrite_readWait (a : Nat) (bs : List Byte) : (memWrite s a bs).readWait = s.readWait := rfl
@[simp] theorem memWrite_sup (a : Nat) (bs : List Byte) : (memWrite s a bs).sup = s.sup := rfl
@[simp] theorem memWrite_fence (a : Nat) (bs : List Byte) : (memWrite s a bs).fence = s.fence := rfl
@[simp] theorem memWrite_heldWrites (a : Nat) (bs : List Byte) : (memWrite s a bs).heldWrites = s.heldWrites := rfl
@[simp] theorem memWrite_heldPackets (a : Nat) (bs : List Byte) : (memWrite s a bs).heldPackets = s.heldPackets := rfl
@[simp] theorem memWrite_part (a : Nat) (bs : List Byte) : (memWrite s a bs).part = s.part := rfl
@[simp] theorem memWrite_sync (a : Nat) (bs : List Byte) : (memWrite s a bs).sync = s.sync := rfl
@[simp] theorem memWrite_ports (a : Nat) (bs : List Byte) : (memWrite s a bs).ports = s.ports := rfl
@[simp] theorem memWrite_bridge (a : Nat) (bs : List Byte) : (memWrite s a bs).bridge = s.bridge := rfl
@[simp] theorem memWrite_fab (a : Nat) (bs : List Byte) : (memWrite s a bs).fab = s.fab := rfl
@[simp] theorem memWrite_faults (a : Nat) (bs : List Byte) : (memWrite s a bs).faults = s.faults := rfl
@[simp] theorem memWrite_hubs (a : Nat) (bs : List Byte) : (memWrite s a bs).hubs = s.hubs := rfl
@[simp] theorem memWrite_tally (a : Nat) (bs : List Byte) : (memWrite s a bs).tally = s.tally := rfl
@[simp] theorem memWrite_ledger (a : Nat) (bs : List Byte) : (memWrite s a bs).ledger = s.ledger := rfl
@[simp] theorem memWrite_bkg (a : Nat) (bs : List Byte) : (memWrite s a bs).bkg = s.bkg := rfl
@[simp] theorem memWrite_host (a : Nat) (bs : List Byte) : (memWrite s a bs).host = s.host := rfl
@[simp] theorem memWrite_power (a : Nat) (bs : List Byte) : (memWrite s a bs).power = s.power := rfl
@[simp] theorem memWrite_logBuf (a : Nat) (bs : List Byte) : (memWrite s a bs).logBuf = s.logBuf := rfl
@[simp] theorem memWrite_logSeq (a : Nat) (bs : List Byte) : (memWrite s a bs).logSeq = s.logSeq := rfl
@[simp] theorem memWrite_pldmQ (a : Nat) (bs : List Byte) : (memWrite s a bs).pldmQ = s.pldmQ := rfl
@[simp] theorem memWrite_pldmReceiver (a : Nat) (bs : List Byte) : (memWrite s a bs).pldmReceiver = s.pldmReceiver := rfl
@[simp] theorem memWrite_msixUnmasked (a : Nat) (bs : List Byte) : (memWrite s a bs).msixUnmasked = s.msixUnmasked := rfl
@[simp] theorem memWrite_msixPending (a : Nat) (bs : List Byte) : (memWrite s a bs).msixPending = s.msixPending := rfl
@[simp] theorem memWrite_msixTable (a : Nat) (bs : List Byte) : (memWrite s a bs).msixTable = s.msixTable := rfl
@[simp] theorem memWrite_out (a : Nat) (bs : List Byte) : (memWrite s a bs).out = s.out := rfl
@[simp] theorem memWrite_free (a : Nat) (bs : List Byte) : (memWrite s a bs).free = s.free := rfl
@[simp] theorem memWrite_pending (a : Nat) (bs : List Byte) : (memWrite s a bs).pending = s.pending := rfl
@[simp] theorem rd_memWrite (a0 : Nat) (bs : List Byte) (a : Nat) : rd (memWrite s a0 bs) a = rd s a := rfl

end Sys2Proof.Machine
end

