-- ==== Sys2Proof/Laws/Ops.lean ====
section
/-! SUPPORT. The fields of the state that the shared operations leave as they are, and what they do to registers: the lemmas
that proofs about commands cite instead of unfolding an operation. -/

namespace Sys2Proof.Machine

variable (s : State)

theorem mems_eq {m m' : Memories} (h1 : m.mem = m'.mem) (h2 : m.host = m'.host) (h3 : m.csram = m'.csram)
    (h4 : m.hsram = m'.hsram) (h5 : m.flash = m'.flash) (h6 : m.supData = m'.supData) (h7 : m.supCode = m'.supCode)
    (h8 : m.poisonMem = m'.poisonMem) (h9 : m.poisonCsram = m'.poisonCsram) (h10 : m.poisonHsram = m'.poisonHsram) :
    m = m' := by
  cases m; cases m'; simp_all

section
variable (evt bit : Nat)
theorem setEvent_frame : Within 0x100000000000000000000000000000000000000000000000000000000000000000000000000000000000000000000000000000000 s (setEvent s evt bit) :=
  setEvent_within (T := 0x100000000000000000000000000000000000000000000000000000000000000000000000000000000000000000000000000000000) Within.start _ _ (allowed_anyRegister _ (by unfold Has; decide))
@[simp] theorem setEvent_build : (setEvent s evt bit).build = s.build := (setEvent_frame s evt bit).build.resolve_left (by unfold Has; decide)
@[simp] theorem setEvent_straps : (setEvent s evt bit).straps = s.straps := (setEvent_frame s evt bit).straps.resolve_left (by unfold Has; decide)
@[simp] theorem setEvent_boot : (setEvent s evt bit).boot = s.boot := (setEvent_frame s evt bit).boot.resolve_left (by unfold Has; decide)
@[simp] theorem setEvent_fuses : (setEvent s evt bit).fuses = s.fuses := (setEvent_frame s evt bit).fuses.resolve_left (by unfold Has; decide)
@[simp] theorem setEvent_mems : (setEvent s evt bit).mems = s.mems :=
  have h := setEvent_frame s evt bit
  mems_eq (h.moduleMemory.resolve_left (by unfold Has; decide)) (h.hostMemory.resolve_left (by unfold Has; decide)) (h.coreSram.resolve_left (by unfold Has; decide)) (h.hubSram.resolve_left (by unfold Has; decide)) (h.flashMemory.resolve_left (by unfold Has; decide)) (h.supData.resolve_left (by unfold Has; decide)) (h.supCode.resolve_left (by unfold Has; decide)) (h.poisonMem.resolve_left (by unfold Has; decide)) (h.poisonCsram.resolve_left (by unfold Has; decide)) (h.poisonHsram.resolve_left (by unfold Has; decide))
@[simp] theorem setEvent_clock : (setEvent s evt bit).clock = s.clock := (setEvent_frame s evt bit).clock.resolve_left (by unfold Has; decide)
@[simp] theorem setEvent_tbu : (setEvent s evt bit).tbu = s.tbu := (setEvent_frame s evt bit).tbu.resolve_left (by unfold Has; decide)
@[simp] theorem setEvent_latches : (setEvent s evt bit).latches = s.latches := (setEvent_frame s evt bit).latches.resolve_left (by unfold Has; decide)
@[simp] theorem setEvent_sched : (setEvent s evt bit).sched = s.sched := (setEvent_frame s evt bit).sched.resolve_left (by unfold Has; decide)
@[simp] theorem setEvent_queues : (setEvent s evt bit).queues = s.queues := (setEvent_frame s evt bit).queues.resolve_left (by unfold Has; decide)
@[simp] theorem setEvent_tags : (setEvent s evt bit).tags = s.tags := (setEvent_frame s evt bit).tags.resolve_left (by unfold Has; decide)
@[simp] theorem setEvent_nextSlot : (setEvent s evt bit).nextSlot = s.nextSlot := (setEvent_frame s evt bit).nextSlot.resolve_left (by unfold Has; decide)
@[simp] theorem setEvent_readWait : (setEvent s evt bit).readWait = s.readWait := (setEvent_frame s evt bit).readWait.resolve_left (by unfold Has; decide)
@[simp] theorem setEvent_sup : (setEvent s evt bit).sup = s.sup := (setEvent_frame s evt bit).sup.resolve_left (by unfold Has; decide)
@[simp] theorem setEvent_fence : (setEvent s evt bit).fence = s.fence := (setEvent_frame s evt bit).fence.resolve_left (by unfold Has; decide)
@[simp] theorem setEvent_heldWrites : (setEvent s evt bit).heldWrites = s.heldWrites := (setEvent_frame s evt bit).heldWrites.resolve_left (by unfold Has; decide)
@[simp] theorem setEvent_heldPackets : (setEvent s evt bit).heldPackets = s.heldPackets := (setEvent_frame s evt bit).heldPackets.resolve_left (by unfold Has; decide)
@[simp] theorem setEvent_part : (setEvent s evt bit).part = s.part := (setEvent_frame s evt bit).part.resolve_left (by unfold Has; decide)
@[simp] theorem setEvent_sync : (setEvent s evt bit).sync = s.sync := (setEvent_frame s evt bit).sync.resolve_left (by unfold Has; decide)
@[simp] theorem setEvent_ports : (setEvent s evt bit).ports = s.ports := (setEvent_frame s evt bit).ports.resolve_left (by unfold Has; decide)
@[simp] theorem setEvent_bridge : (setEvent s evt bit).bridge = s.bridge := (setEvent_frame s evt bit).bridge.resolve_left (by unfold Has; decide)
@[simp] theorem setEvent_fab : (setEvent s evt bit).fab = s.fab := (setEvent_frame s evt bit).fab.resolve_left (by unfold Has; decide)
@[simp] theorem setEvent_faults : (setEvent s evt bit).faults = s.faults := (setEvent_frame s evt bit).faults.resolve_left (by unfold Has; decide)
@[simp] theorem setEvent_hubs : (setEvent s evt bit).hubs = s.hubs := (setEvent_frame s evt bit).hubs.resolve_left (by unfold Has; decide)
@[simp] theorem setEvent_tally : (setEvent s evt bit).tally = s.tally := (setEvent_frame s evt bit).tally.resolve_left (by unfold Has; decide)
@[simp] theorem setEvent_ledger : (setEvent s evt bit).ledger = s.ledger := (setEvent_frame s evt bit).ledger.resolve_left (by unfold Has; decide)
@[simp] theorem setEvent_bkg : (setEvent s evt bit).bkg = s.bkg := (setEvent_frame s evt bit).bkg.resolve_left (by unfold Has; decide)
@[simp] theorem setEvent_host : (setEvent s evt bit).host = s.host := (setEvent_frame s evt bit).host.resolve_left (by unfold Has; decide)
@[simp] theorem setEvent_power : (setEvent s evt bit).power = s.power := (setEvent_frame s evt bit).power.resolve_left (by unfold Has; decide)
@[simp] theorem setEvent_logBuf : (setEvent s evt bit).logBuf = s.logBuf := (setEvent_frame s evt bit).logBuf.resolve_left (by unfold Has; decide)
@[simp] theorem setEvent_logSeq : (setEvent s evt bit).logSeq = s.logSeq := (setEvent_frame s evt bit).logSeq.resolve_left (by unfold Has; decide)
@[simp] theorem setEvent_pldmQ : (setEvent s evt bit).pldmQ = s.pldmQ := (setEvent_frame s evt bit).pldmQ.resolve_left (by unfold Has; decide)
@[simp] theorem setEvent_pldmReceiver : (setEvent s evt bit).pldmReceiver = s.pldmReceiver := (setEvent_frame s evt bit).pldmReceiver.resolve_left (by unfold Has; decide)
@[simp] theorem setEvent_msixUnmasked : (setEvent s evt bit).msixUnmasked = s.msixUnmasked := (setEvent_frame s evt bit).msixUnmasked.resolve_left (by unfold Has; decide)
@[simp] theorem setEvent_msixPending : (setEvent s evt bit).msixPending = s.msixPending := (setEvent_frame s evt bit).msixPending.resolve_left (by unfold Has; decide)
@[simp] theorem setEvent_msixTable : (setEvent s evt bit).msixTable = s.msixTable := (setEvent_frame s evt bit).msixTable.resolve_left (by unfold Has; decide)
@[simp] theorem setEvent_out : (setEvent s evt bit).out = s.out := (setEvent_frame s evt bit).out.resolve_left (by unfold Has; decide)
@[simp] theorem setEvent_free : (setEvent s evt bit).free = s.free := (setEvent_frame s evt bit).free.resolve_left (by unfold Has; decide)
@[simp] theorem setEvent_pending : (setEvent s evt bit).pending = s.pending := (setEvent_frame s evt bit).pending.resolve_left (by unfold Has; decide)
end

section
variable (off n : Nat)
theorem bumpN_frame : Within 0x100000000000000000000000000000000000000000000000000000000000000000000000000000000000000000000000000000000 s (bumpN s off n) :=
  bumpN_within (T := 0x100000000000000000000000000000000000000000000000000000000000000000000000000000000000000000000000000000000) Within.start _ _ (allowed_anyRegister _ (by unfold Has; decide))
@[simp] theorem bumpN_build : (bumpN s off n).build = s.build := (bumpN_frame s off n).build.resolve_left (by unfold Has; decide)
@[simp] theorem bumpN_straps : (bumpN s off n).straps = s.straps := (bumpN_frame s off n).straps.resolve_left (by unfold Has; decide)
@[simp] theorem bumpN_boot : (bumpN s off n).boot = s.boot := (bumpN_frame s off n).boot.resolve_left (by unfold Has; decide)
@[simp] theorem bumpN_fuses : (bumpN s off n).fuses = s.fuses := (bumpN_frame s off n).fuses.resolve_left (by unfold Has; decide)
@[simp] theorem bumpN_mems : (bumpN s off n).mems = s.mems :=
  have h := bumpN_frame s off n
  mems_eq (h.moduleMemory.resolve_left (by unfold Has; decide)) (h.hostMemory.resolve_left (by unfold Has; decide)) (h.coreSram.resolve_left (by unfold Has; decide)) (h.hubSram.resolve_left (by unfold Has; decide)) (h.flashMemory.resolve_left (by unfold Has; decide)) (h.supData.resolve_left (by unfold Has; decide)) (h.supCode.resolve_left (by unfold Has; decide)) (h.poisonMem.resolve_left (by unfold Has; decide)) (h.poisonCsram.resolve_left (by unfold Has; decide)) (h.poisonHsram.resolve_left (by unfold Has; decide))
@[simp] theorem bumpN_clock : (bumpN s off n).clock = s.clock := (bumpN_frame s off n).clock.resolve_left (by unfold Has; decide)
@[simp] theorem bumpN_tbu : (bumpN s off n).tbu = s.tbu := (bumpN_frame s off n).tbu.resolve_left (by unfold Has; decide)
@[simp] theorem bumpN_latches : (bumpN s off n).latches = s.latches := (bumpN_frame s off n).latches.resolve_left (by unfold Has; decide)
@[simp] theorem bumpN_sched : (bumpN s off n).sched = s.sched := (bumpN_frame s off n).sched.resolve_left (by unfold Has; decide)
@[simp] theorem bumpN_queues : (bumpN s off n).queues = s.queues := (bumpN_frame s off n).queues.resolve_left (by unfold Has; decide)
@[simp] theorem bumpN_tags : (bumpN s off n).tags = s.tags := (bumpN_frame s off n).tags.resolve_left (by unfold Has; decide)
@[simp] theorem bumpN_nextSlot : (bumpN s off n).nextSlot = s.nextSlot := (bumpN_frame s off n).nextSlot.resolve_left (by unfold Has; decide)
@[simp] theorem bumpN_readWait : (bumpN s off n).readWait = s.readWait := (bumpN_frame s off n).readWait.resolve_left (by unfold Has; decide)
@[simp] theorem bumpN_sup : (bumpN s off n).sup = s.sup := (bumpN_frame s off n).sup.resolve_left (by unfold Has; decide)
@[simp] theorem bumpN_fence : (bumpN s off n).fence = s.fence := (bumpN_frame s off n).fence.resolve_left (by unfold Has; decide)
@[simp] theorem bumpN_heldWrites : (bumpN s off n).heldWrites = s.heldWrites := (bumpN_frame s off n).heldWrites.resolve_left (by unfold Has; decide)
@[simp] theorem bumpN_heldPackets : (bumpN s off n).heldPackets = s.heldPackets := (bumpN_frame s off n).heldPackets.resolve_left (by unfold Has; decide)
@[simp] theorem bumpN_part : (bumpN s off n).part = s.part := (bumpN_frame s off n).part.resolve_left (by unfold Has; decide)
@[simp] theorem bumpN_sync : (bumpN s off n).sync = s.sync := (bumpN_frame s off n).sync.resolve_left (by unfold Has; decide)
@[simp] theorem bumpN_ports : (bumpN s off n).ports = s.ports := (bumpN_frame s off n).ports.resolve_left (by unfold Has; decide)
@[simp] theorem bumpN_bridge : (bumpN s off n).bridge = s.bridge := (bumpN_frame s off n).bridge.resolve_left (by unfold Has; decide)
@[simp] theorem bumpN_fab : (bumpN s off n).fab = s.fab := (bumpN_frame s off n).fab.resolve_left (by unfold Has; decide)
@[simp] theorem bumpN_faults : (bumpN s off n).faults = s.faults := (bumpN_frame s off n).faults.resolve_left (by unfold Has; decide)
@[simp] theorem bumpN_hubs : (bumpN s off n).hubs = s.hubs := (bumpN_frame s off n).hubs.resolve_left (by unfold Has; decide)
@[simp] theorem bumpN_tally : (bumpN s off n).tally = s.tally := (bumpN_frame s off n).tally.resolve_left (by unfold Has; decide)
@[simp] theorem bumpN_ledger : (bumpN s off n).ledger = s.ledger := (bumpN_frame s off n).ledger.resolve_left (by unfold Has; decide)
@[simp] theorem bumpN_bkg : (bumpN s off n).bkg = s.bkg := (bumpN_frame s off n).bkg.resolve_left (by unfold Has; decide)
@[simp] theorem bumpN_host : (bumpN s off n).host = s.host := (bumpN_frame s off n).host.resolve_left (by unfold Has; decide)
@[simp] theorem bumpN_power : (bumpN s off n).power = s.power := (bumpN_frame s off n).power.resolve_left (by unfold Has; decide)
@[simp] theorem bumpN_logBuf : (bumpN s off n).logBuf = s.logBuf := (bumpN_frame s off n).logBuf.resolve_left (by unfold Has; decide)
@[simp] theorem bumpN_logSeq : (bumpN s off n).logSeq = s.logSeq := (bumpN_frame s off n).logSeq.resolve_left (by unfold Has; decide)
@[simp] theorem bumpN_pldmQ : (bumpN s off n).pldmQ = s.pldmQ := (bumpN_frame s off n).pldmQ.resolve_left (by unfold Has; decide)
@[simp] theorem bumpN_pldmReceiver : (bumpN s off n).pldmReceiver = s.pldmReceiver := (bumpN_frame s off n).pldmReceiver.resolve_left (by unfold Has; decide)
@[simp] theorem bumpN_msixUnmasked : (bumpN s off n).msixUnmasked = s.msixUnmasked := (bumpN_frame s off n).msixUnmasked.resolve_left (by unfold Has; decide)
@[simp] theorem bumpN_msixPending : (bumpN s off n).msixPending = s.msixPending := (bumpN_frame s off n).msixPending.resolve_left (by unfold Has; decide)
@[simp] theorem bumpN_msixTable : (bumpN s off n).msixTable = s.msixTable := (bumpN_frame s off n).msixTable.resolve_left (by unfold Has; decide)
@[simp] theorem bumpN_out : (bumpN s off n).out = s.out := (bumpN_frame s off n).out.resolve_left (by unfold Has; decide)
@[simp] theorem bumpN_free : (bumpN s off n).free = s.free := (bumpN_frame s off n).free.resolve_left (by unfold Has; decide)
@[simp] theorem bumpN_pending : (bumpN s off n).pending = s.pending := (bumpN_frame s off n).pending.resolve_left (by unfold Has; decide)
end

section
variable (off : Nat)
theorem bump_frame : Within 0x100000000000000000000000000000000000000000000000000000000000000000000000000000000000000000000000000000000 s (bump s off) :=
  bump_within (T := 0x100000000000000000000000000000000000000000000000000000000000000000000000000000000000000000000000000000000) Within.start _ (allowed_anyRegister _ (by unfold Has; decide))
@[simp] theorem bump_build : (bump s off).build = s.build := (bump_frame s off).build.resolve_left (by unfold Has; decide)
@[simp] theorem bump_straps : (bump s off).straps = s.straps := (bump_frame s off).straps.resolve_left (by unfold Has; decide)
@[simp] theorem bump_boot : (bump s off).boot = s.boot := (bump_frame s off).boot.resolve_left (by unfold Has; decide)
@[simp] theorem bump_fuses : (bump s off).fuses = s.fuses := (bump_frame s off).fuses.resolve_left (by unfold Has; decide)
@[simp] theorem bump_mems : (bump s off).mems = s.mems :=
  have h := bump_frame s off
  mems_eq (h.moduleMemory.resolve_left (by unfold Has; decide)) (h.hostMemory.resolve_left (by unfold Has; decide)) (h.coreSram.resolve_left (by unfold Has; decide)) (h.hubSram.resolve_left (by unfold Has; decide)) (h.flashMemory.resolve_left (by unfold Has; decide)) (h.supData.resolve_left (by unfold Has; decide)) (h.supCode.resolve_left (by unfold Has; decide)) (h.poisonMem.resolve_left (by unfold Has; decide)) (h.poisonCsram.resolve_left (by unfold Has; decide)) (h.poisonHsram.resolve_left (by unfold Has; decide))
@[simp] theorem bump_clock : (bump s off).clock = s.clock := (bump_frame s off).clock.resolve_left (by unfold Has; decide)
@[simp] theorem bump_tbu : (bump s off).tbu = s.tbu := (bump_frame s off).tbu.resolve_left (by unfold Has; decide)
@[simp] theorem bump_latches : (bump s off).latches = s.latches := (bump_frame s off).latches.resolve_left (by unfold Has; decide)
@[simp] theorem bump_sched : (bump s off).sched = s.sched := (bump_frame s off).sched.resolve_left (by unfold Has; decide)
@[simp] theorem bump_queues : (bump s off).queues = s.queues := (bump_frame s off).queues.resolve_left (by unfold Has; decide)
@[simp] theorem bump_tags : (bump s off).tags = s.tags := (bump_frame s off).tags.resolve_left (by unfold Has; decide)
@[simp] theorem bump_nextSlot : (bump s off).nextSlot = s.nextSlot := (bump_frame s off).nextSlot.resolve_left (by unfold Has; decide)
@[simp] theorem bump_readWait : (bump s off).readWait = s.readWait := (bump_frame s off).readWait.resolve_left (by unfold Has; decide)
@[simp] theorem bump_sup : (bump s off).sup = s.sup := (bump_frame s off).sup.resolve_left (by unfold Has; decide)
@[simp] theorem bump_fence : (bump s off).fence = s.fence := (bump_frame s off).fence.resolve_left (by unfold Has; decide)
@[simp] theorem bump_heldWrites : (bump s off).heldWrites = s.heldWrites := (bump_frame s off).heldWrites.resolve_left (by unfold Has; decide)
@[simp] theorem bump_heldPackets : (bump s off).heldPackets = s.heldPackets := (bump_frame s off).heldPackets.resolve_left (by unfold Has; decide)
@[simp] theorem bump_part : (bump s off).part = s.part := (bump_frame s off).part.resolve_left (by unfold Has; decide)
@[simp] theorem bump_sync : (bump s off).sync = s.sync := (bump_frame s off).sync.resolve_left (by unfold Has; decide)
@[simp] theorem bump_ports : (bump s off).ports = s.ports := (bump_frame s off).ports.resolve_left (by unfold Has; decide)
@[simp] theorem bump_bridge : (bump s off).bridge = s.bridge := (bump_frame s off).bridge.resolve_left (by unfold Has; decide)
@[simp] theorem bump_fab : (bump s off).fab = s.fab := (bump_frame s off).fab.resolve_left (by unfold Has; decide)
@[simp] theorem bump_faults : (bump s off).faults = s.faults := (bump_frame s off).faults.resolve_left (by unfold Has; decide)
@[simp] theorem bump_hubs : (bump s off).hubs = s.hubs := (bump_frame s off).hubs.resolve_left (by unfold Has; decide)
@[simp] theorem bump_tally : (bump s off).tally = s.tally := (bump_frame s off).tally.resolve_left (by unfold Has; decide)
@[simp] theorem bump_ledger : (bump s off).ledger = s.ledger := (bump_frame s off).ledger.resolve_left (by unfold Has; decide)
@[simp] theorem bump_bkg : (bump s off).bkg = s.bkg := (bump_frame s off).bkg.resolve_left (by unfold Has; decide)
@[simp] theorem bump_host : (bump s off).host = s.host := (bump_frame s off).host.resolve_left (by unfold Has; decide)
@[simp] theorem bump_power : (bump s off).power = s.power := (bump_frame s off).power.resolve_left (by unfold Has; decide)
@[simp] theorem bump_logBuf : (bump s off).logBuf = s.logBuf := (bump_frame s off).logBuf.resolve_left (by unfold Has; decide)
@[simp] theorem bump_logSeq : (bump s off).logSeq = s.logSeq := (bump_frame s off).logSeq.resolve_left (by unfold Has; decide)
@[simp] theorem bump_pldmQ : (bump s off).pldmQ = s.pldmQ := (bump_frame s off).pldmQ.resolve_left (by unfold Has; decide)
@[simp] theorem bump_pldmReceiver : (bump s off).pldmReceiver = s.pldmReceiver := (bump_frame s off).pldmReceiver.resolve_left (by unfold Has; decide)
@[simp] theorem bump_msixUnmasked : (bump s off).msixUnmasked = s.msixUnmasked := (bump_frame s off).msixUnmasked.resolve_left (by unfold Has; decide)
@[simp] theorem bump_msixPending : (bump s off).msixPending = s.msixPending := (bump_frame s off).msixPending.resolve_left (by unfold Has; decide)
@[simp] theorem bump_msixTable : (bump s off).msixTable = s.msixTable := (bump_frame s off).msixTable.resolve_left (by unfold Has; decide)
@[simp] theorem bump_out : (bump s off).out = s.out := (bump_frame s off).out.resolve_left (by unfold Has; decide)
@[simp] theorem bump_free : (bump s off).free = s.free := (bump_frame s off).free.resolve_left (by unfold Has; decide)
@[simp] theorem bump_pending : (bump s off).pending = s.pending := (bump_frame s off).pending.resolve_left (by unfold Has; decide)
end

section
variable (offs : List Nat)
theorem zeroRegs_frame : Within 0x100000000000000000000000000000000000000000000000000000000000000000000000000000000000000000000000000000000 s (zeroRegs s offs) :=
  zeroRegs_within (T := 0x100000000000000000000000000000000000000000000000000000000000000000000000000000000000000000000000000000000) Within.start _ (fun o _ => allowed_anyRegister o (by unfold Has; decide))
@[simp] theorem zeroRegs_build : (zeroRegs s offs).build = s.build := (zeroRegs_frame s offs).build.resolve_left (by unfold Has; decide)
@[simp] theorem zeroRegs_straps : (zeroRegs s offs).straps = s.straps := (zeroRegs_frame s offs).straps.resolve_left (by unfold Has; decide)
@[simp] theorem zeroRegs_boot : (zeroRegs s offs).boot = s.boot := (zeroRegs_frame s offs).boot.resolve_left (by unfold Has; decide)
@[simp] theorem zeroRegs_fuses : (zeroRegs s offs).fuses = s.fuses := (zeroRegs_frame s offs).fuses.resolve_left (by unfold Has; decide)
@[simp] theorem zeroRegs_mems : (zeroRegs s offs).mems = s.mems :=
  have h := zeroRegs_frame s offs
  mems_eq (h.moduleMemory.resolve_left (by unfold Has; decide)) (h.hostMemory.resolve_left (by unfold Has; decide)) (h.coreSram.resolve_left (by unfold Has; decide)) (h.hubSram.resolve_left (by unfold Has; decide)) (h.flashMemory.resolve_left (by unfold Has; decide)) (h.supData.resolve_left (by unfold Has; decide)) (h.supCode.resolve_left (by unfold Has; decide)) (h.poisonMem.resolve_left (by unfold Has; decide)) (h.poisonCsram.resolve_left (by unfold Has; decide)) (h.poisonHsram.resolve_left (by unfold Has; decide))
@[simp] theorem zeroRegs_clock : (zeroRegs s offs).clock = s.clock := (zeroRegs_frame s offs).clock.resolve_left (by unfold Has; decide)
@[simp] theorem zeroRegs_tbu : (zeroRegs s offs).tbu = s.tbu := (zeroRegs_frame s offs).tbu.resolve_left (by unfold Has; decide)
@[simp] theorem zeroRegs_latches : (zeroRegs s offs).latches = s.latches := (zeroRegs_frame s offs).latches.resolve_left (by unfold Has; decide)
@[simp] theorem zeroRegs_sched : (zeroRegs s offs).sched = s.sched := (zeroRegs_frame s offs).sched.resolve_left (by unfold Has; decide)
@[simp] theorem zeroRegs_queues : (zeroRegs s offs).queues = s.queues := (zeroRegs_frame s offs).queues.resolve_left (by unfold Has; decide)
@[simp] theorem zeroRegs_tags : (zeroRegs s offs).tags = s.tags := (zeroRegs_frame s offs).tags.resolve_left (by unfold Has; decide)
@[simp] theorem zeroRegs_nextSlot : (zeroRegs s offs).nextSlot = s.nextSlot := (zeroRegs_frame s offs).nextSlot.resolve_left (by unfold Has; decide)
@[simp] theorem zeroRegs_readWait : (zeroRegs s offs).readWait = s.readWait := (zeroRegs_frame s offs).readWait.resolve_left (by unfold Has; decide)
@[simp] theorem zeroRegs_sup : (zeroRegs s offs).sup = s.sup := (zeroRegs_frame s offs).sup.resolve_left (by unfold Has; decide)
@[simp] theorem zeroRegs_fence : (zeroRegs s offs).fence = s.fence := (zeroRegs_frame s offs).fence.resolve_left (by unfold Has; decide)
@[simp] theorem zeroRegs_heldWrites : (zeroRegs s offs).heldWrites = s.heldWrites := (zeroRegs_frame s offs).heldWrites.resolve_left (by unfold Has; decide)
@[simp] theorem zeroRegs_heldPackets : (zeroRegs s offs).heldPackets = s.heldPackets := (zeroRegs_frame s offs).heldPackets.resolve_left (by unfold Has; decide)
@[simp] theorem zeroRegs_part : (zeroRegs s offs).part = s.part := (zeroRegs_frame s offs).part.resolve_left (by unfold Has; decide)
@[simp] theorem zeroRegs_sync : (zeroRegs s offs).sync = s.sync := (zeroRegs_frame s offs).sync.resolve_left (by unfold Has; decide)
@[simp] theorem zeroRegs_ports : (zeroRegs s offs).ports = s.ports := (zeroRegs_frame s offs).ports.resolve_left (by unfold Has; decide)
@[simp] theorem zeroRegs_bridge : (zeroRegs s offs).bridge = s.bridge := (zeroRegs_frame s offs).bridge.resolve_left (by unfold Has; decide)
@[simp] theorem zeroRegs_fab : (zeroRegs s offs).fab = s.fab := (zeroRegs_frame s offs).fab.resolve_left (by unfold Has; decide)
@[simp] theorem zeroRegs_faults : (zeroRegs s offs).faults = s.faults := (zeroRegs_frame s offs).faults.resolve_left (by unfold Has; decide)
@[simp] theorem zeroRegs_hubs : (zeroRegs s offs).hubs = s.hubs := (zeroRegs_frame s offs).hubs.resolve_left (by unfold Has; decide)
@[simp] theorem zeroRegs_tally : (zeroRegs s offs).tally = s.tally := (zeroRegs_frame s offs).tally.resolve_left (by unfold Has; decide)
@[simp] theorem zeroRegs_ledger : (zeroRegs s offs).ledger = s.ledger := (zeroRegs_frame s offs).ledger.resolve_left (by unfold Has; decide)
@[simp] theorem zeroRegs_bkg : (zeroRegs s offs).bkg = s.bkg := (zeroRegs_frame s offs).bkg.resolve_left (by unfold Has; decide)
@[simp] theorem zeroRegs_host : (zeroRegs s offs).host = s.host := (zeroRegs_frame s offs).host.resolve_left (by unfold Has; decide)
@[simp] theorem zeroRegs_power : (zeroRegs s offs).power = s.power := (zeroRegs_frame s offs).power.resolve_left (by unfold Has; decide)
@[simp] theorem zeroRegs_logBuf : (zeroRegs s offs).logBuf = s.logBuf := (zeroRegs_frame s offs).logBuf.resolve_left (by unfold Has; decide)
@[simp] theorem zeroRegs_logSeq : (zeroRegs s offs).logSeq = s.logSeq := (zeroRegs_frame s offs).logSeq.resolve_left (by unfold Has; decide)
@[simp] theorem zeroRegs_pldmQ : (zeroRegs s offs).pldmQ = s.pldmQ := (zeroRegs_frame s offs).pldmQ.resolve_left (by unfold Has; decide)
@[simp] theorem zeroRegs_pldmReceiver : (zeroRegs s offs).pldmReceiver = s.pldmReceiver := (zeroRegs_frame s offs).pldmReceiver.resolve_left (by unfold Has; decide)
@[simp] theorem zeroRegs_msixUnmasked : (zeroRegs s offs).msixUnmasked = s.msixUnmasked := (zeroRegs_frame s offs).msixUnmasked.resolve_left (by unfold Has; decide)
@[simp] theorem zeroRegs_msixPending : (zeroRegs s offs).msixPending = s.msixPending := (zeroRegs_frame s offs).msixPending.resolve_left (by unfold Has; decide)
@[simp] theorem zeroRegs_msixTable : (zeroRegs s offs).msixTable = s.msixTable := (zeroRegs_frame s offs).msixTable.resolve_left (by unfold Has; decide)
@[simp] theorem zeroRegs_out : (zeroRegs s offs).out = s.out := (zeroRegs_frame s offs).out.resolve_left (by unfold Has; decide)
@[simp] theorem zeroRegs_free : (zeroRegs s offs).free = s.free := (zeroRegs_frame s offs).free.resolve_left (by unfold Has; decide)
@[simp] theorem zeroRegs_pending : (zeroRegs s offs).pending = s.pending := (zeroRegs_frame s offs).pending.resolve_left (by unfold Has; decide)
end

section
variable (ph : Nat)
theorem setPhase_frame : Within 0xa00000004 s (setPhase s ph) :=
  setPhase_within (T := 0xa00000004) Within.start _ (by decide)
@[simp] theorem setPhase_build : (setPhase s ph).build = s.build := (setPhase_frame s ph).build.resolve_left (by unfold Has; decide)
@[simp] theorem setPhase_straps : (setPhase s ph).straps = s.straps := (setPhase_frame s ph).straps.resolve_left (by unfold Has; decide)
@[simp] theorem setPhase_fuses : (setPhase s ph).fuses = s.fuses := (setPhase_frame s ph).fuses.resolve_left (by unfold Has; decide)
@[simp] theorem setPhase_mems : (setPhase s ph).mems = s.mems :=
  have h := setPhase_frame s ph
  mems_eq (h.moduleMemory.resolve_left (by unfold Has; decide)) (h.hostMemory.resolve_left (by unfold Has; decide)) (h.coreSram.resolve_left (by unfold Has; decide)) (h.hubSram.resolve_left (by unfold Has; decide)) (h.flashMemory.resolve_left (by unfold Has; decide)) (h.supData.resolve_left (by unfold Has; decide)) (h.supCode.resolve_left (by unfold Has; decide)) (h.poisonMem.resolve_left (by unfold Has; decide)) (h.poisonCsram.resolve_left (by unfold Has; decide)) (h.poisonHsram.resolve_left (by unfold Has; decide))
@[simp] theorem setPhase_clock : (setPhase s ph).clock = s.clock := (setPhase_frame s ph).clock.resolve_left (by unfold Has; decide)
@[simp] theorem setPhase_tbu : (setPhase s ph).tbu = s.tbu := (setPhase_frame s ph).tbu.resolve_left (by unfold Has; decide)
@[simp] theorem rd_setPhase (x : Nat) : rd (setPhase s ph) x = rd s x := by
  unfold rd SMap.get
  rw [((setPhase_frame s ph).regs x).resolve_left (fun ⟨q, h, hc⟩ => by
    cases q <;> first | exact hc.elim | exact absurd h (by unfold Has; decide))]
@[simp] theorem setPhase_latches : (setPhase s ph).latches = s.latches := (setPhase_frame s ph).latches.resolve_left (by unfold Has; decide)
@[simp] theorem setPhase_sched : (setPhase s ph).sched = s.sched := (setPhase_frame s ph).sched.resolve_left (by unfold Has; decide)
@[simp] theorem setPhase_queues : (setPhase s ph).queues = s.queues := (setPhase_frame s ph).queues.resolve_left (by unfold Has; decide)
@[simp] theorem setPhase_tags : (setPhase s ph).tags = s.tags := (setPhase_frame s ph).tags.resolve_left (by unfold Has; decide)
@[simp] theorem setPhase_nextSlot : (setPhase s ph).nextSlot = s.nextSlot := (setPhase_frame s ph).nextSlot.resolve_left (by unfold Has; decide)
@[simp] theorem setPhase_readWait : (setPhase s ph).readWait = s.readWait := (setPhase_frame s ph).readWait.resolve_left (by unfold Has; decide)
@[simp] theorem setPhase_sup : (setPhase s ph).sup = s.sup := (setPhase_frame s ph).sup.resolve_left (by unfold Has; decide)
@[simp] theorem setPhase_fence : (setPhase s ph).fence = s.fence := (setPhase_frame s ph).fence.resolve_left (by unfold Has; decide)
@[simp] theorem setPhase_heldWrites : (setPhase s ph).heldWrites = s.heldWrites := (setPhase_frame s ph).heldWrites.resolve_left (by unfold Has; decide)
@[simp] theorem setPhase_heldPackets : (setPhase s ph).heldPackets = s.heldPackets := (setPhase_frame s ph).heldPackets.resolve_left (by unfold Has; decide)
@[simp] theorem setPhase_part : (setPhase s ph).part = s.part := (setPhase_frame s ph).part.resolve_left (by unfold Has; decide)
@[simp] theorem setPhase_sync : (setPhase s ph).sync = s.sync := (setPhase_frame s ph).sync.resolve_left (by unfold Has; decide)
@[simp] theorem setPhase_ports : (setPhase s ph).ports = s.ports := (setPhase_frame s ph).ports.resolve_left (by unfold Has; decide)
@[simp] theorem setPhase_bridge : (setPhase s ph).bridge = s.bridge := (setPhase_frame s ph).bridge.resolve_left (by unfold Has; decide)
@[simp] theorem setPhase_fab : (setPhase s ph).fab = s.fab := (setPhase_frame s ph).fab.resolve_left (by unfold Has; decide)
@[simp] theorem setPhase_faults : (setPhase s ph).faults = s.faults := (setPhase_frame s ph).faults.resolve_left (by unfold Has; decide)
@[simp] theorem setPhase_hubs : (setPhase s ph).hubs = s.hubs := (setPhase_frame s ph).hubs.resolve_left (by unfold Has; decide)
@[simp] theorem setPhase_tally : (setPhase s ph).tally = s.tally := (setPhase_frame s ph).tally.resolve_left (by unfold Has; decide)
@[simp] theorem setPhase_ledger : (setPhase s ph).ledger = s.ledger := (setPhase_frame s ph).ledger.resolve_left (by unfold Has; decide)
@[simp] theorem setPhase_bkg : (setPhase s ph).bkg = s.bkg := (setPhase_frame s ph).bkg.resolve_left (by unfold Has; decide)
@[simp] theorem setPhase_host : (setPhase s ph).host = s.host := (setPhase_frame s ph).host.resolve_left (by unfold Has; decide)
@[simp] theorem setPhase_power : (setPhase s ph).power = s.power := (setPhase_frame s ph).power.resolve_left (by unfold Has; decide)
@[simp] theorem setPhase_logBuf : (setPhase s ph).logBuf = s.logBuf := (setPhase_frame s ph).logBuf.resolve_left (by unfold Has; decide)
@[simp] theorem setPhase_logSeq : (setPhase s ph).logSeq = s.logSeq := (setPhase_frame s ph).logSeq.resolve_left (by unfold Has; decide)
@[simp] theorem setPhase_pldmQ : (setPhase s ph).pldmQ = s.pldmQ := (setPhase_frame s ph).pldmQ.resolve_left (by unfold Has; decide)
@[simp] theorem setPhase_pldmReceiver : (setPhase s ph).pldmReceiver = s.pldmReceiver := (setPhase_frame s ph).pldmReceiver.resolve_left (by unfold Has; decide)
@[simp] theorem setPhase_msixUnmasked : (setPhase s ph).msixUnmasked = s.msixUnmasked := (setPhase_frame s ph).msixUnmasked.resolve_left (by unfold Has; decide)
@[simp] theorem setPhase_msixTable : (setPhase s ph).msixTable = s.msixTable := (setPhase_frame s ph).msixTable.resolve_left (by unfold Has; decide)
@[simp] theorem setPhase_free : (setPhase s ph).free = s.free := (setPhase_frame s ph).free.resolve_left (by unfold Has; decide)
@[simp] theorem setPhase_pending : (setPhase s ph).pending = s.pending := (setPhase_frame s ph).pending.resolve_left (by unfold Has; decide)
end

section
variable (w : Nat)
theorem signalDevice_frame : Within 0xa00000000 s (signalDevice s w) :=
  signalDevice_within (T := 0xa00000000) Within.start _ (by decide)
@[simp] theorem signalDevice_build : (signalDevice s w).build = s.build := (signalDevice_frame s w).build.resolve_left (by unfold Has; decide)
@[simp] theorem signalDevice_straps : (signalDevice s w).straps = s.straps := (signalDevice_frame s w).straps.resolve_left (by unfold Has; decide)
@[simp] theorem signalDevice_boot : (signalDevice s w).boot = s.boot := (signalDevice_frame s w).boot.resolve_left (by unfold Has; decide)
@[simp] theorem signalDevice_fuses : (signalDevice s w).fuses = s.fuses := (signalDevice_frame s w).fuses.resolve_left (by unfold Has; decide)
@[simp] theorem signalDevice_mems : (signalDevice s w).mems = s.mems :=
  have h := signalDevice_frame s w
  mems_eq (h.moduleMemory.resolve_left (by unfold Has; decide)) (h.hostMemory.resolve_left (by unfold Has; decide)) (h.coreSram.resolve_left (by unfold Has; decide)) (h.hubSram.resolve_left (by unfold Has; decide)) (h.flashMemory.resolve_left (by unfold Has; decide)) (h.supData.resolve_left (by unfold Has; decide)) (h.supCode.resolve_left (by unfold Has; decide)) (h.poisonMem.resolve_left (by unfold Has; decide)) (h.poisonCsram.resolve_left (by unfold Has; decide)) (h.poisonHsram.resolve_left (by unfold Has; decide))
@[simp] theorem signalDevice_clock : (signalDevice s w).clock = s.clock := (signalDevice_frame s w).clock.resolve_left (by unfold Has; decide)
@[simp] theorem signalDevice_tbu : (signalDevice s w).tbu = s.tbu := (signalDevice_frame s w).tbu.resolve_left (by unfold Has; decide)
@[simp] theorem rd_signalDevice (x : Nat) : rd (signalDevice s w) x = rd s x := by
  unfold rd SMap.get
  rw [((signalDevice_frame s w).regs x).resolve_left (fun ⟨q, h, hc⟩ => by
    cases q <;> first | exact hc.elim | exact absurd h (by unfold Has; decide))]
@[simp] theorem signalDevice_latches : (signalDevice s w).latches = s.latches := (signalDevice_frame s w).latches.resolve_left (by unfold Has; decide)
@[simp] theorem signalDevice_sched : (signalDevice s w).sched = s.sched := (signalDevice_frame s w).sched.resolve_left (by unfold Has; decide)
@[simp] theorem signalDevice_queues : (signalDevice s w).queues = s.queues := (signalDevice_frame s w).queues.resolve_left (by unfold Has; decide)
@[simp] theorem signalDevice_tags : (signalDevice s w).tags = s.tags := (signalDevice_frame s w).tags.resolve_left (by unfold Has; decide)
@[simp] theorem signalDevice_nextSlot : (signalDevice s w).nextSlot = s.nextSlot := (signalDevice_frame s w).nextSlot.resolve_left (by unfold Has; decide)
@[simp] theorem signalDevice_readWait : (signalDevice s w).readWait = s.readWait := (signalDevice_frame s w).readWait.resolve_left (by unfold Has; decide)
@[simp] theorem signalDevice_sup : (signalDevice s w).sup = s.sup := (signalDevice_frame s w).sup.resolve_left (by unfold Has; decide)
@[simp] theorem signalDevice_fence : (signalDevice s w).fence = s.fence := (signalDevice_frame s w).fence.resolve_left (by unfold Has; decide)
@[simp] theorem signalDevice_heldWrites : (signalDevice s w).heldWrites = s.heldWrites := (signalDevice_frame s w).heldWrites.resolve_left (by unfold Has; decide)
@[simp] theorem signalDevice_heldPackets : (signalDevice s w).heldPackets = s.heldPackets := (signalDevice_frame s w).heldPackets.resolve_left (by unfold Has; decide)
@[simp] theorem signalDevice_part : (signalDevice s w).part = s.part := (signalDevice_frame s w).part.resolve_left (by unfold Has; decide)
@[simp] theorem signalDevice_sync : (signalDevice s w).sync = s.sync := (signalDevice_frame s w).sync.resolve_left (by unfold Has; decide)
@[simp] theorem signalDevice_ports : (signalDevice s w).ports = s.ports := (signalDevice_frame s w).ports.resolve_left (by unfold Has; decide)
@[simp] theorem signalDevice_bridge : (signalDevice s w).bridge = s.bridge := (signalDevice_frame s w).bridge.resolve_left (by unfold Has; decide)
@[simp] theorem signalDevice_fab : (signalDevice s w).fab = s.fab := (signalDevice_frame s w).fab.resolve_left (by unfold Has; decide)
@[simp] theorem signalDevice_faults : (signalDevice s w).faults = s.faults := (signalDevice_frame s w).faults.resolve_left (by unfold Has; decide)
@[simp] theorem signalDevice_hubs : (signalDevice s w).hubs = s.hubs := (signalDevice_frame s w).hubs.resolve_left (by unfold Has; decide)
@[simp] theorem signalDevice_tally : (signalDevice s w).tally = s.tally := (signalDevice_frame s w).tally.resolve_left (by unfold Has; decide)
@[simp] theorem signalDevice_ledger : (signalDevice s w).ledger = s.ledger := (signalDevice_frame s w).ledger.resolve_left (by unfold Has; decide)
@[simp] theorem signalDevice_bkg : (signalDevice s w).bkg = s.bkg := (signalDevice_frame s w).bkg.resolve_left (by unfold Has; decide)
@[simp] theorem signalDevice_host : (signalDevice s w).host = s.host := (signalDevice_frame s w).host.resolve_left (by unfold Has; decide)
@[simp] theorem signalDevice_power : (signalDevice s w).power = s.power := (signalDevice_frame s w).power.resolve_left (by unfold Has; decide)
@[simp] theorem signalDevice_logBuf : (signalDevice s w).logBuf = s.logBuf := (signalDevice_frame s w).logBuf.resolve_left (by unfold Has; decide)
@[simp] theorem signalDevice_logSeq : (signalDevice s w).logSeq = s.logSeq := (signalDevice_frame s w).logSeq.resolve_left (by unfold Has; decide)
@[simp] theorem signalDevice_pldmQ : (signalDevice s w).pldmQ = s.pldmQ := (signalDevice_frame s w).pldmQ.resolve_left (by unfold Has; decide)
@[simp] theorem signalDevice_pldmReceiver : (signalDevice s w).pldmReceiver = s.pldmReceiver := (signalDevice_frame s w).pldmReceiver.resolve_left (by unfold Has; decide)
@[simp] theorem signalDevice_msixUnmasked : (signalDevice s w).msixUnmasked = s.msixUnmasked := (signalDevice_frame s w).msixUnmasked.resolve_left (by unfold Has; decide)
@[simp] theorem signalDevice_msixTable : (signalDevice s w).msixTable = s.msixTable := (signalDevice_frame s w).msixTable.resolve_left (by unfold Has; decide)
@[simp] theorem signalDevice_free : (signalDevice s w).free = s.free := (signalDevice_frame s w).free.resolve_left (by unfold Has; decide)
@[simp] theorem signalDevice_pending : (signalDevice s w).pending = s.pending := (signalDevice_frame s w).pending.resolve_left (by unfold Has; decide)
end

section
variable (e : EventRec)
theorem sendPldm_frame : Within 0x110000000000000000000000000000000000000000000000000000000000000000000000000000000840000000 s (sendPldm s e) :=
  sendPldm_within (T := 0x110000000000000000000000000000000000000000000000000000000000000000000000000000000840000000) Within.start _ (by decide)
@[simp] theorem sendPldm_build : (sendPldm s e).build = s.build := (sendPldm_frame s e).build.resolve_left (by unfold Has; decide)
@[simp] theorem sendPldm_straps : (sendPldm s e).straps = s.straps := (sendPldm_frame s e).straps.resolve_left (by unfold Has; decide)
@[simp] theorem sendPldm_boot : (sendPldm s e).boot = s.boot := (sendPldm_frame s e).boot.resolve_left (by unfold Has; decide)
@[simp] theorem sendPldm_fuses : (sendPldm s e).fuses = s.fuses := (sendPldm_frame s e).fuses.resolve_left (by unfold Has; decide)
@[simp] theorem sendPldm_mems : (sendPldm s e).mems = s.mems :=
  have h := sendPldm_frame s e
  mems_eq (h.moduleMemory.resolve_left (by unfold Has; decide)) (h.hostMemory.resolve_left (by unfold Has; decide)) (h.coreSram.resolve_left (by unfold Has; decide)) (h.hubSram.resolve_left (by unfold Has; decide)) (h.flashMemory.resolve_left (by unfold Has; decide)) (h.supData.resolve_left (by unfold Has; decide)) (h.supCode.resolve_left (by unfold Has; decide)) (h.poisonMem.resolve_left (by unfold Has; decide)) (h.poisonCsram.resolve_left (by unfold Has; decide)) (h.poisonHsram.resolve_left (by unfold Has; decide))
@[simp] theorem sendPldm_clock : (sendPldm s e).clock = s.clock := (sendPldm_frame s e).clock.resolve_left (by unfold Has; decide)
@[simp] theorem sendPldm_tbu : (sendPldm s e).tbu = s.tbu := (sendPldm_frame s e).tbu.resolve_left (by unfold Has; decide)
@[simp] theorem sendPldm_latches : (sendPldm s e).latches = s.latches := (sendPldm_frame s e).latches.resolve_left (by unfold Has; decide)
@[simp] theorem sendPldm_sched : (sendPldm s e).sched = s.sched := (sendPldm_frame s e).sched.resolve_left (by unfold Has; decide)
@[simp] theorem sendPldm_queues : (sendPldm s e).queues = s.queues := (sendPldm_frame s e).queues.resolve_left (by unfold Has; decide)
@[simp] theorem sendPldm_tags : (sendPldm s e).tags = s.tags := (sendPldm_frame s e).tags.resolve_left (by unfold Has; decide)
@[simp] theorem sendPldm_nextSlot : (sendPldm s e).nextSlot = s.nextSlot := (sendPldm_frame s e).nextSlot.resolve_left (by unfold Has; decide)
@[simp] theorem sendPldm_readWait : (sendPldm s e).readWait = s.readWait := (sendPldm_frame s e).readWait.resolve_left (by unfold Has; decide)
@[simp] theorem sendPldm_sup : (sendPldm s e).sup = s.sup := (sendPldm_frame s e).sup.resolve_left (by unfold Has; decide)
@[simp] theorem sendPldm_fence : (sendPldm s e).fence = s.fence := (sendPldm_frame s e).fence.resolve_left (by unfold Has; decide)
@[simp] theorem sendPldm_heldWrites : (sendPldm s e).heldWrites = s.heldWrites := (sendPldm_frame s e).heldWrites.resolve_left (by unfold Has; decide)
@[simp] theorem sendPldm_heldPackets : (sendPldm s e).heldPackets = s.heldPackets := (sendPldm_frame s e).heldPackets.resolve_left (by unfold Has; decide)
@[simp] theorem sendPldm_part : (sendPldm s e).part = s.part := (sendPldm_frame s e).part.resolve_left (by unfold Has; decide)
@[simp] theorem sendPldm_sync : (sendPldm s e).sync = s.sync := (sendPldm_frame s e).sync.resolve_left (by unfold Has; decide)
@[simp] theorem sendPldm_ports : (sendPldm s e).ports = s.ports := (sendPldm_frame s e).ports.resolve_left (by unfold Has; decide)
@[simp] theorem sendPldm_bridge : (sendPldm s e).bridge = s.bridge := (sendPldm_frame s e).bridge.resolve_left (by unfold Has; decide)
@[simp] theorem sendPldm_fab : (sendPldm s e).fab = s.fab := (sendPldm_frame s e).fab.resolve_left (by unfold Has; decide)
@[simp] theorem sendPldm_faults : (sendPldm s e).faults = s.faults := (sendPldm_frame s e).faults.resolve_left (by unfold Has; decide)
@[simp] theorem sendPldm_hubs : (sendPldm s e).hubs = s.hubs := (sendPldm_frame s e).hubs.resolve_left (by unfold Has; decide)
@[simp] theorem sendPldm_tally : (sendPldm s e).tally = s.tally := (sendPldm_frame s e).tally.resolve_left (by unfold Has; decide)
@[simp] theorem sendPldm_ledger : (sendPldm s e).ledger = s.ledger := (sendPldm_frame s e).ledger.resolve_left (by unfold Has; decide)
@[simp] theorem sendPldm_bkg : (sendPldm s e).bkg = s.bkg := (sendPldm_frame s e).bkg.resolve_left (by unfold Has; decide)
@[simp] theorem sendPldm_host : (sendPldm s e).host = s.host := (sendPldm_frame s e).host.resolve_left (by unfold Has; decide)
@[simp] theorem sendPldm_power : (sendPldm s e).power = s.power := (sendPldm_frame s e).power.resolve_left (by unfold Has; decide)
@[simp] theorem sendPldm_logBuf : (sendPldm s e).logBuf = s.logBuf := (sendPldm_frame s e).logBuf.resolve_left (by unfold Has; decide)
@[simp] theorem sendPldm_logSeq : (sendPldm s e).logSeq = s.logSeq := (sendPldm_frame s e).logSeq.resolve_left (by unfold Has; decide)
@[simp] theorem sendPldm_pldmReceiver : (sendPldm s e).pldmReceiver = s.pldmReceiver := (sendPldm_frame s e).pldmReceiver.resolve_left (by unfold Has; decide)
@[simp] theorem sendPldm_msixUnmasked : (sendPldm s e).msixUnmasked = s.msixUnmasked := (sendPldm_frame s e).msixUnmasked.resolve_left (by unfold Has; decide)
@[simp] theorem sendPldm_msixPending : (sendPldm s e).msixPending = s.msixPending := (sendPldm_frame s e).msixPending.resolve_left (by unfold Has; decide)
@[simp] theorem sendPldm_msixTable : (sendPldm s e).msixTable = s.msixTable := (sendPldm_frame s e).msixTable.resolve_left (by unfold Has; decide)
@[simp] theorem sendPldm_free : (sendPldm s e).free = s.free := (sendPldm_frame s e).free.resolve_left (by unfold Has; decide)
@[simp] theorem sendPldm_pending : (sendPldm s e).pending = s.pending := (sendPldm_frame s e).pending.resolve_left (by unfold Has; decide)
end

section
variable (c : Nat)
theorem raiseAlarms_frame : Within 0x808000000 s (raiseAlarms s c) :=
  raiseAlarms_within (T := 0x808000000) Within.start _ (by decide)
@[simp] theorem raiseAlarms_build : (raiseAlarms s c).build = s.build := (raiseAlarms_frame s c).build.resolve_left (by unfold Has; decide)
@[simp] theorem raiseAlarms_straps : (raiseAlarms s c).straps = s.straps := (raiseAlarms_frame s c).straps.resolve_left (by unfold Has; decide)
@[simp] theorem raiseAlarms_boot : (raiseAlarms s c).boot = s.boot := (raiseAlarms_frame s c).boot.resolve_left (by unfold Has; decide)
@[simp] theorem raiseAlarms_fuses : (raiseAlarms s c).fuses = s.fuses := (raiseAlarms_frame s c).fuses.resolve_left (by unfold Has; decide)
@[simp] theorem raiseAlarms_mems : (raiseAlarms s c).mems = s.mems :=
  have h := raiseAlarms_frame s c
  mems_eq (h.moduleMemory.resolve_left (by unfold Has; decide)) (h.hostMemory.resolve_left (by unfold Has; decide)) (h.coreSram.resolve_left (by unfold Has; decide)) (h.hubSram.resolve_left (by unfold Has; decide)) (h.flashMemory.resolve_left (by unfold Has; decide)) (h.supData.resolve_left (by unfold Has; decide)) (h.supCode.resolve_left (by unfold Has; decide)) (h.poisonMem.resolve_left (by unfold Has; decide)) (h.poisonCsram.resolve_left (by unfold Has; decide)) (h.poisonHsram.resolve_left (by unfold Has; decide))
@[simp] theorem raiseAlarms_clock : (raiseAlarms s c).clock = s.clock := (raiseAlarms_frame s c).clock.resolve_left (by unfold Has; decide)
@[simp] theorem raiseAlarms_tbu : (raiseAlarms s c).tbu = s.tbu := (raiseAlarms_frame s c).tbu.resolve_left (by unfold Has; decide)
@[simp] theorem rd_raiseAlarms (x : Nat) : rd (raiseAlarms s c) x = rd s x := by
  unfold rd SMap.get
  rw [((raiseAlarms_frame s c).regs x).resolve_left (fun ⟨q, h, hc⟩ => by
    cases q <;> first | exact hc.elim | exact absurd h (by unfold Has; decide))]
@[simp] theorem raiseAlarms_latches : (raiseAlarms s c).latches = s.latches := (raiseAlarms_frame s c).latches.resolve_left (by unfold Has; decide)
@[simp] theorem raiseAlarms_sched : (raiseAlarms s c).sched = s.sched := (raiseAlarms_frame s c).sched.resolve_left (by unfold Has; decide)
@[simp] theorem raiseAlarms_queues : (raiseAlarms s c).queues = s.queues := (raiseAlarms_frame s c).queues.resolve_left (by unfold Has; decide)
@[simp] theorem raiseAlarms_tags : (raiseAlarms s c).tags = s.tags := (raiseAlarms_frame s c).tags.resolve_left (by unfold Has; decide)
@[simp] theorem raiseAlarms_nextSlot : (raiseAlarms s c).nextSlot = s.nextSlot := (raiseAlarms_frame s c).nextSlot.resolve_left (by unfold Has; decide)
@[simp] theorem raiseAlarms_readWait : (raiseAlarms s c).readWait = s.readWait := (raiseAlarms_frame s c).readWait.resolve_left (by unfold Has; decide)
@[simp] theorem raiseAlarms_sup : (raiseAlarms s c).sup = s.sup := (raiseAlarms_frame s c).sup.resolve_left (by unfold Has; decide)
@[simp] theorem raiseAlarms_fence : (raiseAlarms s c).fence = s.fence := (raiseAlarms_frame s c).fence.resolve_left (by unfold Has; decide)
@[simp] theorem raiseAlarms_heldWrites : (raiseAlarms s c).heldWrites = s.heldWrites := (raiseAlarms_frame s c).heldWrites.resolve_left (by unfold Has; decide)
@[simp] theorem raiseAlarms_heldPackets : (raiseAlarms s c).heldPackets = s.heldPackets := (raiseAlarms_frame s c).heldPackets.resolve_left (by unfold Has; decide)
@[simp] theorem raiseAlarms_part : (raiseAlarms s c).part = s.part := (raiseAlarms_frame s c).part.resolve_left (by unfold Has; decide)
@[simp] theorem raiseAlarms_sync : (raiseAlarms s c).sync = s.sync := (raiseAlarms_frame s c).sync.resolve_left (by unfold Has; decide)
@[simp] theorem raiseAlarms_ports : (raiseAlarms s c).ports = s.ports := (raiseAlarms_frame s c).ports.resolve_left (by unfold Has; decide)
@[simp] theorem raiseAlarms_bridge : (raiseAlarms s c).bridge = s.bridge := (raiseAlarms_frame s c).bridge.resolve_left (by unfold Has; decide)
@[simp] theorem raiseAlarms_fab : (raiseAlarms s c).fab = s.fab := (raiseAlarms_frame s c).fab.resolve_left (by unfold Has; decide)
@[simp] theorem raiseAlarms_faults : (raiseAlarms s c).faults = s.faults := (raiseAlarms_frame s c).faults.resolve_left (by unfold Has; decide)
@[simp] theorem raiseAlarms_hubs : (raiseAlarms s c).hubs = s.hubs := (raiseAlarms_frame s c).hubs.resolve_left (by unfold Has; decide)
@[simp] theorem raiseAlarms_tally : (raiseAlarms s c).tally = s.tally := (raiseAlarms_frame s c).tally.resolve_left (by unfold Has; decide)
@[simp] theorem raiseAlarms_ledger : (raiseAlarms s c).ledger = s.ledger := (raiseAlarms_frame s c).ledger.resolve_left (by unfold Has; decide)
@[simp] theorem raiseAlarms_bkg : (raiseAlarms s c).bkg = s.bkg := (raiseAlarms_frame s c).bkg.resolve_left (by unfold Has; decide)
@[simp] theorem raiseAlarms_host : (raiseAlarms s c).host = s.host := (raiseAlarms_frame s c).host.resolve_left (by unfold Has; decide)
@[simp] theorem raiseAlarms_logBuf : (raiseAlarms s c).logBuf = s.logBuf := (raiseAlarms_frame s c).logBuf.resolve_left (by unfold Has; decide)
@[simp] theorem raiseAlarms_logSeq : (raiseAlarms s c).logSeq = s.logSeq := (raiseAlarms_frame s c).logSeq.resolve_left (by unfold Has; decide)
@[simp] theorem raiseAlarms_pldmQ : (raiseAlarms s c).pldmQ = s.pldmQ := (raiseAlarms_frame s c).pldmQ.resolve_left (by unfold Has; decide)
@[simp] theorem raiseAlarms_pldmReceiver : (raiseAlarms s c).pldmReceiver = s.pldmReceiver := (raiseAlarms_frame s c).pldmReceiver.resolve_left (by unfold Has; decide)
@[simp] theorem raiseAlarms_msixUnmasked : (raiseAlarms s c).msixUnmasked = s.msixUnmasked := (raiseAlarms_frame s c).msixUnmasked.resolve_left (by unfold Has; decide)
@[simp] theorem raiseAlarms_msixPending : (raiseAlarms s c).msixPending = s.msixPending := (raiseAlarms_frame s c).msixPending.resolve_left (by unfold Has; decide)
@[simp] theorem raiseAlarms_msixTable : (raiseAlarms s c).msixTable = s.msixTable := (raiseAlarms_frame s c).msixTable.resolve_left (by unfold Has; decide)
@[simp] theorem raiseAlarms_free : (raiseAlarms s c).free = s.free := (raiseAlarms_frame s c).free.resolve_left (by unfold Has; decide)
@[simp] theorem raiseAlarms_pending : (raiseAlarms s c).pending = s.pending := (raiseAlarms_frame s c).pending.resolve_left (by unfold Has; decide)
end

section
variable (c : EvClass)
theorem assertAlert_frame : Within 0x20000000000000000000000000000000000000000000000000000000000000000000000000000000a08000000 s (assertAlert s c) :=
  assertAlert_within (T := 0x20000000000000000000000000000000000000000000000000000000000000000000000000000000a08000000) Within.start _ (by decide)
@[simp] theorem assertAlert_build : (assertAlert s c).build = s.build := (assertAlert_frame s c).build.resolve_left (by unfold Has; decide)
@[simp] theorem assertAlert_straps : (assertAlert s c).straps = s.straps := (assertAlert_frame s c).straps.resolve_left (by unfold Has; decide)
@[simp] theorem assertAlert_boot : (assertAlert s c).boot = s.boot := (assertAlert_frame s c).boot.resolve_left (by unfold Has; decide)
@[simp] theorem assertAlert_fuses : (assertAlert s c).fuses = s.fuses := (assertAlert_frame s c).fuses.resolve_left (by unfold Has; decide)
@[simp] theorem assertAlert_mems : (assertAlert s c).mems = s.mems :=
  have h := assertAlert_frame s c
  mems_eq (h.moduleMemory.resolve_left (by unfold Has; decide)) (h.hostMemory.resolve_left (by unfold Has; decide)) (h.coreSram.resolve_left (by unfold Has; decide)) (h.hubSram.resolve_left (by unfold Has; decide)) (h.flashMemory.resolve_left (by unfold Has; decide)) (h.supData.resolve_left (by unfold Has; decide)) (h.supCode.resolve_left (by unfold Has; decide)) (h.poisonMem.resolve_left (by unfold Has; decide)) (h.poisonCsram.resolve_left (by unfold Has; decide)) (h.poisonHsram.resolve_left (by unfold Has; decide))
@[simp] theorem assertAlert_clock : (assertAlert s c).clock = s.clock := (assertAlert_frame s c).clock.resolve_left (by unfold Has; decide)
@[simp] theorem assertAlert_tbu : (assertAlert s c).tbu = s.tbu := (assertAlert_frame s c).tbu.resolve_left (by unfold Has; decide)
@[simp] theorem assertAlert_latches : (assertAlert s c).latches = s.latches := (assertAlert_frame s c).latches.resolve_left (by unfold Has; decide)
@[simp] theorem assertAlert_sched : (assertAlert s c).sched = s.sched := (assertAlert_frame s c).sched.resolve_left (by unfold Has; decide)
@[simp] theorem assertAlert_queues : (assertAlert s c).queues = s.queues := (assertAlert_frame s c).queues.resolve_left (by unfold Has; decide)
@[simp] theorem assertAlert_tags : (assertAlert s c).tags = s.tags := (assertAlert_frame s c).tags.resolve_left (by unfold Has; decide)
@[simp] theorem assertAlert_nextSlot : (assertAlert s c).nextSlot = s.nextSlot := (assertAlert_frame s c).nextSlot.resolve_left (by unfold Has; decide)
@[simp] theorem assertAlert_readWait : (assertAlert s c).readWait = s.readWait := (assertAlert_frame s c).readWait.resolve_left (by unfold Has; decide)
@[simp] theorem assertAlert_sup : (assertAlert s c).sup = s.sup := (assertAlert_frame s c).sup.resolve_left (by unfold Has; decide)
@[simp] theorem assertAlert_fence : (assertAlert s c).fence = s.fence := (assertAlert_frame s c).fence.resolve_left (by unfold Has; decide)
@[simp] theorem assertAlert_heldWrites : (assertAlert s c).heldWrites = s.heldWrites := (assertAlert_frame s c).heldWrites.resolve_left (by unfold Has; decide)
@[simp] theorem assertAlert_heldPackets : (assertAlert s c).heldPackets = s.heldPackets := (assertAlert_frame s c).heldPackets.resolve_left (by unfold Has; decide)
@[simp] theorem assertAlert_part : (assertAlert s c).part = s.part := (assertAlert_frame s c).part.resolve_left (by unfold Has; decide)
@[simp] theorem assertAlert_sync : (assertAlert s c).sync = s.sync := (assertAlert_frame s c).sync.resolve_left (by unfold Has; decide)
@[simp] theorem assertAlert_ports : (assertAlert s c).ports = s.ports := (assertAlert_frame s c).ports.resolve_left (by unfold Has; decide)
@[simp] theorem assertAlert_bridge : (assertAlert s c).bridge = s.bridge := (assertAlert_frame s c).bridge.resolve_left (by unfold Has; decide)
@[simp] theorem assertAlert_fab : (assertAlert s c).fab = s.fab := (assertAlert_frame s c).fab.resolve_left (by unfold Has; decide)
@[simp] theorem assertAlert_faults : (assertAlert s c).faults = s.faults := (assertAlert_frame s c).faults.resolve_left (by unfold Has; decide)
@[simp] theorem assertAlert_hubs : (assertAlert s c).hubs = s.hubs := (assertAlert_frame s c).hubs.resolve_left (by unfold Has; decide)
@[simp] theorem assertAlert_tally : (assertAlert s c).tally = s.tally := (assertAlert_frame s c).tally.resolve_left (by unfold Has; decide)
@[simp] theorem assertAlert_ledger : (assertAlert s c).ledger = s.ledger := (assertAlert_frame s c).ledger.resolve_left (by unfold Has; decide)
@[simp] theorem assertAlert_bkg : (assertAlert s c).bkg = s.bkg := (assertAlert_frame s c).bkg.resolve_left (by unfold Has; decide)
@[simp] theorem assertAlert_host : (assertAlert s c).host = s.host := (assertAlert_frame s c).host.resolve_left (by unfold Has; decide)
@[simp] theorem assertAlert_logBuf : (assertAlert s c).logBuf = s.logBuf := (assertAlert_frame s c).logBuf.resolve_left (by unfold Has; decide)
@[simp] theorem assertAlert_logSeq : (assertAlert s c).logSeq = s.logSeq := (assertAlert_frame s c).logSeq.resolve_left (by unfold Has; decide)
@[simp] theorem assertAlert_pldmQ : (assertAlert s c).pldmQ = s.pldmQ := (assertAlert_frame s c).pldmQ.resolve_left (by unfold Has; decide)
@[simp] theorem assertAlert_pldmReceiver : (assertAlert s c).pldmReceiver = s.pldmReceiver := (assertAlert_frame s c).pldmReceiver.resolve_left (by unfold Has; decide)
@[simp] theorem assertAlert_msixUnmasked : (assertAlert s c).msixUnmasked = s.msixUnmasked := (assertAlert_frame s c).msixUnmasked.resolve_left (by unfold Has; decide)
@[simp] theorem assertAlert_msixTable : (assertAlert s c).msixTable = s.msixTable := (assertAlert_frame s c).msixTable.resolve_left (by unfold Has; decide)
@[simp] theorem assertAlert_free : (assertAlert s c).free = s.free := (assertAlert_frame s c).free.resolve_left (by unfold Has; decide)
@[simp] theorem assertAlert_pending : (assertAlert s c).pending = s.pending := (assertAlert_frame s c).pending.resolve_left (by unfold Has; decide)
end

section
variable (evt bit : Nat) (c : EvClass) (alert pldm : Bool) (t : Nat)
theorem raise_frame : Within 0x100000000000000130000800200000000000000000000000000000000000000000000000000000000000000000000000a78000000 s (raise s evt bit c alert pldm t) :=
  raise_within (T := 0x100000000000000130000800200000000000000000000000000000000000000000000000000000000000000000000000a78000000) Within.start _ _ _ _ _ _ (by decide) (allowed_anyRegister _ (by unfold Has; decide))
@[simp] theorem raise_build : (raise s evt bit c alert pldm t).build = s.build := (raise_frame s evt bit c alert pldm t).build.resolve_left (by unfold Has; decide)
@[simp] theorem raise_straps : (raise s evt bit c alert pldm t).straps = s.straps := (raise_frame s evt bit c alert pldm t).straps.resolve_left (by unfold Has; decide)
@[simp] theorem raise_boot : (raise s evt bit c alert pldm t).boot = s.boot := (raise_frame s evt bit c alert pldm t).boot.resolve_left (by unfold Has; decide)
@[simp] theorem raise_fuses : (raise s evt bit c alert pldm t).fuses = s.fuses := (raise_frame s evt bit c alert pldm t).fuses.resolve_left (by unfold Has; decide)
@[simp] theorem raise_mems : (raise s evt bit c alert pldm t).mems = s.mems :=
  have h := raise_frame s evt bit c alert pldm t
  mems_eq (h.moduleMemory.resolve_left (by unfold Has; decide)) (h.hostMemory.resolve_left (by unfold Has; decide)) (h.coreSram.resolve_left (by unfold Has; decide)) (h.hubSram.resolve_left (by unfold Has; decide)) (h.flashMemory.resolve_left (by unfold Has; decide)) (h.supData.resolve_left (by unfold Has; decide)) (h.supCode.resolve_left (by unfold Has; decide)) (h.poisonMem.resolve_left (by unfold Has; decide)) (h.poisonCsram.resolve_left (by unfold Has; decide)) (h.poisonHsram.resolve_left (by unfold Has; decide))
@[simp] theorem raise_clock : (raise s evt bit c alert pldm t).clock = s.clock := (raise_frame s evt bit c alert pldm t).clock.resolve_left (by unfold Has; decide)
@[simp] theorem raise_tbu : (raise s evt bit c alert pldm t).tbu = s.tbu := (raise_frame s evt bit c alert pldm t).tbu.resolve_left (by unfold Has; decide)
@[simp] theorem raise_latches : (raise s evt bit c alert pldm t).latches = s.latches := (raise_frame s evt bit c alert pldm t).latches.resolve_left (by unfold Has; decide)
@[simp] theorem raise_sched : (raise s evt bit c alert pldm t).sched = s.sched := (raise_frame s evt bit c alert pldm t).sched.resolve_left (by unfold Has; decide)
@[simp] theorem raise_queues : (raise s evt bit c alert pldm t).queues = s.queues := (raise_frame s evt bit c alert pldm t).queues.resolve_left (by unfold Has; decide)
@[simp] theorem raise_tags : (raise s evt bit c alert pldm t).tags = s.tags := (raise_frame s evt bit c alert pldm t).tags.resolve_left (by unfold Has; decide)
@[simp] theorem raise_nextSlot : (raise s evt bit c alert pldm t).nextSlot = s.nextSlot := (raise_frame s evt bit c alert pldm t).nextSlot.resolve_left (by unfold Has; decide)
@[simp] theorem raise_readWait : (raise s evt bit c alert pldm t).readWait = s.readWait := (raise_frame s evt bit c alert pldm t).readWait.resolve_left (by unfold Has; decide)
@[simp] theorem raise_sup : (raise s evt bit c alert pldm t).sup = s.sup := (raise_frame s evt bit c alert pldm t).sup.resolve_left (by unfold Has; decide)
@[simp] theorem raise_fence : (raise s evt bit c alert pldm t).fence = s.fence := (raise_frame s evt bit c alert pldm t).fence.resolve_left (by unfold Has; decide)
@[simp] theorem raise_heldWrites : (raise s evt bit c alert pldm t).heldWrites = s.heldWrites := (raise_frame s evt bit c alert pldm t).heldWrites.resolve_left (by unfold Has; decide)
@[simp] theorem raise_heldPackets : (raise s evt bit c alert pldm t).heldPackets = s.heldPackets := (raise_frame s evt bit c alert pldm t).heldPackets.resolve_left (by unfold Has; decide)
@[simp] theorem raise_part : (raise s evt bit c alert pldm t).part = s.part := (raise_frame s evt bit c alert pldm t).part.resolve_left (by unfold Has; decide)
@[simp] theorem raise_sync : (raise s evt bit c alert pldm t).sync = s.sync := (raise_frame s evt bit c alert pldm t).sync.resolve_left (by unfold Has; decide)
@[simp] theorem raise_ports : (raise s evt bit c alert pldm t).ports = s.ports := (raise_frame s evt bit c alert pldm t).ports.resolve_left (by unfold Has; decide)
@[simp] theorem raise_bridge : (raise s evt bit c alert pldm t).bridge = s.bridge := (raise_frame s evt bit c alert pldm t).bridge.resolve_left (by unfold Has; decide)
@[simp] theorem raise_fab : (raise s evt bit c alert pldm t).fab = s.fab := (raise_frame s evt bit c alert pldm t).fab.resolve_left (by unfold Has; decide)
@[simp] theorem raise_faults : (raise s evt bit c alert pldm t).faults = s.faults := (raise_frame s evt bit c alert pldm t).faults.resolve_left (by unfold Has; decide)
@[simp] theorem raise_hubs : (raise s evt bit c alert pldm t).hubs = s.hubs := (raise_frame s evt bit c alert pldm t).hubs.resolve_left (by unfold Has; decide)
@[simp] theorem raise_tally : (raise s evt bit c alert pldm t).tally = s.tally := (raise_frame s evt bit c alert pldm t).tally.resolve_left (by unfold Has; decide)
@[simp] theorem raise_ledger : (raise s evt bit c alert pldm t).ledger = s.ledger := (raise_frame s evt bit c alert pldm t).ledger.resolve_left (by unfold Has; decide)
@[simp] theorem raise_bkg : (raise s evt bit c alert pldm t).bkg = s.bkg := (raise_frame s evt bit c alert pldm t).bkg.resolve_left (by unfold Has; decide)
@[simp] theorem raise_host : (raise s evt bit c alert pldm t).host = s.host := (raise_frame s evt bit c alert pldm t).host.resolve_left (by unfold Has; decide)
@[simp] theorem raise_pldmReceiver : (raise s evt bit c alert pldm t).pldmReceiver = s.pldmReceiver := (raise_frame s evt bit c alert pldm t).pldmReceiver.resolve_left (by unfold Has; decide)
@[simp] theorem raise_msixUnmasked : (raise s evt bit c alert pldm t).msixUnmasked = s.msixUnmasked := (raise_frame s evt bit c alert pldm t).msixUnmasked.resolve_left (by unfold Has; decide)
@[simp] theorem raise_msixTable : (raise s evt bit c alert pldm t).msixTable = s.msixTable := (raise_frame s evt bit c alert pldm t).msixTable.resolve_left (by unfold Has; decide)
@[simp] theorem raise_free : (raise s evt bit c alert pldm t).free = s.free := (raise_frame s evt bit c alert pldm t).free.resolve_left (by unfold Has; decide)
@[simp] theorem raise_pending : (raise s evt bit c alert pldm t).pending = s.pending := (raise_frame s evt bit c alert pldm t).pending.resolve_left (by unfold Has; decide)
end

section
variable (b : Bound) (n p : Nat) (src : Requester) (addr t : Nat)
theorem fenceRefuseN_frame : Within 0x13000080020000000000000000000000000000000000000000000000001f807000000000000000000a78002000 s (fenceRefuseN s b n p src addr t) :=
  fenceRefuseN_within (T := 0x13000080020000000000000000000000000000000000000000000000001f807000000000000000000a78002000) Within.start _ _ _ _ _ _ (by decide)
@[simp] theorem fenceRefuseN_build : (fenceRefuseN s b n p src addr t).build = s.build := (fenceRefuseN_frame s b n p src addr t).build.resolve_left (by unfold Has; decide)
@[simp] theorem fenceRefuseN_straps : (fenceRefuseN s b n p src addr t).straps = s.straps := (fenceRefuseN_frame s b n p src addr t).straps.resolve_left (by unfold Has; decide)
@[simp] theorem fenceRefuseN_boot : (fenceRefuseN s b n p src addr t).boot = s.boot := (fenceRefuseN_frame s b n p src addr t).boot.resolve_left (by unfold Has; decide)
@[simp] theorem fenceRefuseN_fuses : (fenceRefuseN s b n p src addr t).fuses = s.fuses := (fenceRefuseN_frame s b n p src addr t).fuses.resolve_left (by unfold Has; decide)
@[simp] theorem fenceRefuseN_mems : (fenceRefuseN s b n p src addr t).mems = s.mems :=
  have h := fenceRefuseN_frame s b n p src addr t
  mems_eq (h.moduleMemory.resolve_left (by unfold Has; decide)) (h.hostMemory.resolve_left (by unfold Has; decide)) (h.coreSram.resolve_left (by unfold Has; decide)) (h.hubSram.resolve_left (by unfold Has; decide)) (h.flashMemory.resolve_left (by unfold Has; decide)) (h.supData.resolve_left (by unfold Has; decide)) (h.supCode.resolve_left (by unfold Has; decide)) (h.poisonMem.resolve_left (by unfold Has; decide)) (h.poisonCsram.resolve_left (by unfold Has; decide)) (h.poisonHsram.resolve_left (by unfold Has; decide))
@[simp] theorem fenceRefuseN_clock : (fenceRefuseN s b n p src addr t).clock = s.clock := (fenceRefuseN_frame s b n p src addr t).clock.resolve_left (by unfold Has; decide)
@[simp] theorem fenceRefuseN_tbu : (fenceRefuseN s b n p src addr t).tbu = s.tbu := (fenceRefuseN_frame s b n p src addr t).tbu.resolve_left (by unfold Has; decide)
@[simp] theorem fenceRefuseN_latches : (fenceRefuseN s b n p src addr t).latches = s.latches := (fenceRefuseN_frame s b n p src addr t).latches.resolve_left (by unfold Has; decide)
@[simp] theorem fenceRefuseN_sched : (fenceRefuseN s b n p src addr t).sched = s.sched := (fenceRefuseN_frame s b n p src addr t).sched.resolve_left (by unfold Has; decide)
@[simp] theorem fenceRefuseN_queues : (fenceRefuseN s b n p src addr t).queues = s.queues := (fenceRefuseN_frame s b n p src addr t).queues.resolve_left (by unfold Has; decide)
@[simp] theorem fenceRefuseN_tags : (fenceRefuseN s b n p src addr t).tags = s.tags := (fenceRefuseN_frame s b n p src addr t).tags.resolve_left (by unfold Has; decide)
@[simp] theorem fenceRefuseN_nextSlot : (fenceRefuseN s b n p src addr t).nextSlot = s.nextSlot := (fenceRefuseN_frame s b n p src addr t).nextSlot.resolve_left (by unfold Has; decide)
@[simp] theorem fenceRefuseN_readWait : (fenceRefuseN s b n p src addr t).readWait = s.readWait := (fenceRefuseN_frame s b n p src addr t).readWait.resolve_left (by unfold Has; decide)
@[simp] theorem fenceRefuseN_sup : (fenceRefuseN s b n p src addr t).sup = s.sup := (fenceRefuseN_frame s b n p src addr t).sup.resolve_left (by unfold Has; decide)
@[simp] theorem fenceRefuseN_heldWrites : (fenceRefuseN s b n p src addr t).heldWrites = s.heldWrites := (fenceRefuseN_frame s b n p src addr t).heldWrites.resolve_left (by unfold Has; decide)
@[simp] theorem fenceRefuseN_heldPackets : (fenceRefuseN s b n p src addr t).heldPackets = s.heldPackets := (fenceRefuseN_frame s b n p src addr t).heldPackets.resolve_left (by unfold Has; decide)
@[simp] theorem fenceRefuseN_part : (fenceRefuseN s b n p src addr t).part = s.part := (fenceRefuseN_frame s b n p src addr t).part.resolve_left (by unfold Has; decide)
@[simp] theorem fenceRefuseN_sync : (fenceRefuseN s b n p src addr t).sync = s.sync := (fenceRefuseN_frame s b n p src addr t).sync.resolve_left (by unfold Has; decide)
@[simp] theorem fenceRefuseN_ports : (fenceRefuseN s b n p src addr t).ports = s.ports := (fenceRefuseN_frame s b n p src addr t).ports.resolve_left (by unfold Has; decide)
@[simp] theorem fenceRefuseN_bridge : (fenceRefuseN s b n p src addr t).bridge = s.bridge := (fenceRefuseN_frame s b n p src addr t).bridge.resolve_left (by unfold Has; decide)
@[simp] theorem fenceRefuseN_fab : (fenceRefuseN s b n p src addr t).fab = s.fab := (fenceRefuseN_frame s b n p src addr t).fab.resolve_left (by unfold Has; decide)
@[simp] theorem fenceRefuseN_faults : (fenceRefuseN s b n p src addr t).faults = s.faults := (fenceRefuseN_frame s b n p src addr t).faults.resolve_left (by unfold Has; decide)
@[simp] theorem fenceRefuseN_hubs : (fenceRefuseN s b n p src addr t).hubs = s.hubs := (fenceRefuseN_frame s b n p src addr t).hubs.resolve_left (by unfold Has; decide)
@[simp] theorem fenceRefuseN_tally : (fenceRefuseN s b n p src addr t).tally = s.tally := (fenceRefuseN_frame s b n p src addr t).tally.resolve_left (by unfold Has; decide)
@[simp] theorem fenceRefuseN_ledger : (fenceRefuseN s b n p src addr t).ledger = s.ledger := (fenceRefuseN_frame s b n p src addr t).ledger.resolve_left (by unfold Has; decide)
@[simp] theorem fenceRefuseN_bkg : (fenceRefuseN s b n p src addr t).bkg = s.bkg := (fenceRefuseN_frame s b n p src addr t).bkg.resolve_left (by unfold Has; decide)
@[simp] theorem fenceRefuseN_host : (fenceRefuseN s b n p src addr t).host = s.host := (fenceRefuseN_frame s b n p src addr t).host.resolve_left (by unfold Has; decide)
@[simp] theorem fenceRefuseN_pldmReceiver : (fenceRefuseN s b n p src addr t).pldmReceiver = s.pldmReceiver := (fenceRefuseN_frame s b n p src addr t).pldmReceiver.resolve_left (by unfold Has; decide)
@[simp] theorem fenceRefuseN_msixUnmasked : (fenceRefuseN s b n p src addr t).msixUnmasked = s.msixUnmasked := (fenceRefuseN_frame s b n p src addr t).msixUnmasked.resolve_left (by unfold Has; decide)
@[simp] theorem fenceRefuseN_msixTable : (fenceRefuseN s b n p src addr t).msixTable = s.msixTable := (fenceRefuseN_frame s b n p src addr t).msixTable.resolve_left (by unfold Has; decide)
@[simp] theorem fenceRefuseN_free : (fenceRefuseN s b n p src addr t).free = s.free := (fenceRefuseN_frame s b n p src addr t).free.resolve_left (by unfold Has; decide)
@[simp] theorem fenceRefuseN_pending : (fenceRefuseN s b n p src addr t).pending = s.pending := (fenceRefuseN_frame s b n p src addr t).pending.resolve_left (by unfold Has; decide)
end

section
variable (b : Bound) (p : Nat) (src : Requester) (addr t : Nat)
theorem fenceRefuse_frame : Within 0x13000080020000000000000000000000000000000000000000000000001f807000000000000000000a78002000 s (fenceRefuse s b p src addr t) :=
  fenceRefuse_within (T := 0x13000080020000000000000000000000000000000000000000000000001f807000000000000000000a78002000) Within.start _ _ _ _ _ (by decide)
@[simp] theorem fenceRefuse_build : (fenceRefuse s b p src addr t).build = s.build := (fenceRefuse_frame s b p src addr t).build.resolve_left (by unfold Has; decide)
@[simp] theorem fenceRefuse_straps : (fenceRefuse s b p src addr t).straps = s.straps := (fenceRefuse_frame s b p src addr t).straps.resolve_left (by unfold Has; decide)
@[simp] theorem fenceRefuse_boot : (fenceRefuse s b p src addr t).boot = s.boot := (fenceRefuse_frame s b p src addr t).boot.resolve_left (by unfold Has; decide)
@[simp] theorem fenceRefuse_fuses : (fenceRefuse s b p src addr t).fuses = s.fuses := (fenceRefuse_frame s b p src addr t).fuses.resolve_left (by unfold Has; decide)
@[simp] theorem fenceRefuse_mems : (fenceRefuse s b p src addr t).mems = s.mems :=
  have h := fenceRefuse_frame s b p src addr t
  mems_eq (h.moduleMemory.resolve_left (by unfold Has; decide)) (h.hostMemory.resolve_left (by unfold Has; decide)) (h.coreSram.resolve_left (by unfold Has; decide)) (h.hubSram.resolve_left (by unfold Has; decide)) (h.flashMemory.resolve_left (by unfold Has; decide)) (h.supData.resolve_left (by unfold Has; decide)) (h.supCode.resolve_left (by unfold Has; decide)) (h.poisonMem.resolve_left (by unfold Has; decide)) (h.poisonCsram.resolve_left (by unfold Has; decide)) (h.poisonHsram.resolve_left (by unfold Has; decide))
@[simp] theorem fenceRefuse_clock : (fenceRefuse s b p src addr t).clock = s.clock := (fenceRefuse_frame s b p src addr t).clock.resolve_left (by unfold Has; decide)
@[simp] theorem fenceRefuse_tbu : (fenceRefuse s b p src addr t).tbu = s.tbu := (fenceRefuse_frame s b p src addr t).tbu.resolve_left (by unfold Has; decide)
@[simp] theorem fenceRefuse_latches : (fenceRefuse s b p src addr t).latches = s.latches := (fenceRefuse_frame s b p src addr t).latches.resolve_left (by unfold Has; decide)
@[simp] theorem fenceRefuse_sched : (fenceRefuse s b p src addr t).sched = s.sched := (fenceRefuse_frame s b p src addr t).sched.resolve_left (by unfold Has; decide)
@[simp] theorem fenceRefuse_queues : (fenceRefuse s b p src addr t).queues = s.queues := (fenceRefuse_frame s b p src addr t).queues.resolve_left (by unfold Has; decide)
@[simp] theorem fenceRefuse_tags : (fenceRefuse s b p src addr t).tags = s.tags := (fenceRefuse_frame s b p src addr t).tags.resolve_left (by unfold Has; decide)
@[simp] theorem fenceRefuse_nextSlot : (fenceRefuse s b p src addr t).nextSlot = s.nextSlot := (fenceRefuse_frame s b p src addr t).nextSlot.resolve_left (by unfold Has; decide)
@[simp] theorem fenceRefuse_readWait : (fenceRefuse s b p src addr t).readWait = s.readWait := (fenceRefuse_frame s b p src addr t).readWait.resolve_left (by unfold Has; decide)
@[simp] theorem fenceRefuse_sup : (fenceRefuse s b p src addr t).sup = s.sup := (fenceRefuse_frame s b p src addr t).sup.resolve_left (by unfold Has; decide)
@[simp] theorem fenceRefuse_heldWrites : (fenceRefuse s b p src addr t).heldWrites = s.heldWrites := (fenceRefuse_frame s b p src addr t).heldWrites.resolve_left (by unfold Has; decide)
@[simp] theorem fenceRefuse_heldPackets : (fenceRefuse s b p src addr t).heldPackets = s.heldPackets := (fenceRefuse_frame s b p src addr t).heldPackets.resolve_left (by unfold Has; decide)
@[simp] theorem fenceRefuse_part : (fenceRefuse s b p src addr t).part = s.part := (fenceRefuse_frame s b p src addr t).part.resolve_left (by unfold Has; decide)
@[simp] theorem fenceRefuse_sync : (fenceRefuse s b p src addr t).sync = s.sync := (fenceRefuse_frame s b p src addr t).sync.resolve_left (by unfold Has; decide)
@[simp] theorem fenceRefuse_ports : (fenceRefuse s b p src addr t).ports = s.ports := (fenceRefuse_frame s b p src addr t).ports.resolve_left (by unfold Has; decide)
@[simp] theorem fenceRefuse_bridge : (fenceRefuse s b p src addr t).bridge = s.bridge := (fenceRefuse_frame s b p src addr t).bridge.resolve_left (by unfold Has; decide)
@[simp] theorem fenceRefuse_fab : (fenceRefuse s b p src addr t).fab = s.fab := (fenceRefuse_frame s b p src addr t).fab.resolve_left (by unfold Has; decide)
@[simp] theorem fenceRefuse_faults : (fenceRefuse s b p src addr t).faults = s.faults := (fenceRefuse_frame s b p src addr t).faults.resolve_left (by unfold Has; decide)
@[simp] theorem fenceRefuse_hubs : (fenceRefuse s b p src addr t).hubs = s.hubs := (fenceRefuse_frame s b p src addr t).hubs.resolve_left (by unfold Has; decide)
@[simp] theorem fenceRefuse_tally : (fenceRefuse s b p src addr t).tally = s.tally := (fenceRefuse_frame s b p src addr t).tally.resolve_left (by unfold Has; decide)
@[simp] theorem fenceRefuse_ledger : (fenceRefuse s b p src addr t).ledger = s.ledger := (fenceRefuse_frame s b p src addr t).ledger.resolve_left (by unfold Has; decide)
@[simp] theorem fenceRefuse_bkg : (fenceRefuse s b p src addr t).bkg = s.bkg := (fenceRefuse_frame s b p src addr t).bkg.resolve_left (by unfold Has; decide)
@[simp] theorem fenceRefuse_host : (fenceRefuse s b p src addr t).host = s.host := (fenceRefuse_frame s b p src addr t).host.resolve_left (by unfold Has; decide)
@[simp] theorem fenceRefuse_pldmReceiver : (fenceRefuse s b p src addr t).pldmReceiver = s.pldmReceiver := (fenceRefuse_frame s b p src addr t).pldmReceiver.resolve_left (by unfold Has; decide)
@[simp] theorem fenceRefuse_msixUnmasked : (fenceRefuse s b p src addr t).msixUnmasked = s.msixUnmasked := (fenceRefuse_frame s b p src addr t).msixUnmasked.resolve_left (by unfold Has; decide)
@[simp] theorem fenceRefuse_msixTable : (fenceRefuse s b p src addr t).msixTable = s.msixTable := (fenceRefuse_frame s b p src addr t).msixTable.resolve_left (by unfold Has; decide)
@[simp] theorem fenceRefuse_free : (fenceRefuse s b p src addr t).free = s.free := (fenceRefuse_frame s b p src addr t).free.resolve_left (by unfold Has; decide)
@[simp] theorem fenceRefuse_pending : (fenceRefuse s b p src addr t).pending = s.pending := (fenceRefuse_frame s b p src addr t).pending.resolve_left (by unfold Has; decide)
end

section
variable (p addr n : Nat)
theorem translate_frame : Within 0x4000000 s (translate s p addr n) :=
  translate_within (T := 0x4000000) Within.start _ _ _ (by decide)
@[simp] theorem translate_build : (translate s p addr n).build = s.build := (translate_frame s p addr n).build.resolve_left (by unfold Has; decide)
@[simp] theorem translate_straps : (translate s p addr n).straps = s.straps := (translate_frame s p addr n).straps.resolve_left (by unfold Has; decide)
@[simp] theorem translate_boot : (translate s p addr n).boot = s.boot := (translate_frame s p addr n).boot.resolve_left (by unfold Has; decide)
@[simp] theorem translate_fuses : (translate s p addr n).fuses = s.fuses := (translate_frame s p addr n).fuses.resolve_left (by unfold Has; decide)
@[simp] theorem translate_mems : (translate s p addr n).mems = s.mems :=
  have h := translate_frame s p addr n
  mems_eq (h.moduleMemory.resolve_left (by unfold Has; decide)) (h.hostMemory.resolve_left (by unfold Has; decide)) (h.coreSram.resolve_left (by unfold Has; decide)) (h.hubSram.resolve_left (by unfold Has; decide)) (h.flashMemory.resolve_left (by unfold Has; decide)) (h.supData.resolve_left (by unfold Has; decide)) (h.supCode.resolve_left (by unfold Has; decide)) (h.poisonMem.resolve_left (by unfold Has; decide)) (h.poisonCsram.resolve_left (by unfold Has; decide)) (h.poisonHsram.resolve_left (by unfold Has; decide))
@[simp] theorem translate_clock : (translate s p addr n).clock = s.clock := (translate_frame s p addr n).clock.resolve_left (by unfold Has; decide)
@[simp] theorem translate_tbu : (translate s p addr n).tbu = s.tbu := (translate_frame s p addr n).tbu.resolve_left (by unfold Has; decide)
@[simp] theorem rd_translate (x : Nat) : rd (translate s p addr n) x = rd s x := by
  unfold rd SMap.get
  rw [((translate_frame s p addr n).regs x).resolve_left (fun ⟨q, h, hc⟩ => by
    cases q <;> first | exact hc.elim | exact absurd h (by unfold Has; decide))]
@[simp] theorem translate_latches : (translate s p addr n).latches = s.latches := (translate_frame s p addr n).latches.resolve_left (by unfold Has; decide)
@[simp] theorem translate_sched : (translate s p addr n).sched = s.sched := (translate_frame s p addr n).sched.resolve_left (by unfold Has; decide)
@[simp] theorem translate_queues : (translate s p addr n).queues = s.queues := (translate_frame s p addr n).queues.resolve_left (by unfold Has; decide)
@[simp] theorem translate_tags : (translate s p addr n).tags = s.tags := (translate_frame s p addr n).tags.resolve_left (by unfold Has; decide)
@[simp] theorem translate_nextSlot : (translate s p addr n).nextSlot = s.nextSlot := (translate_frame s p addr n).nextSlot.resolve_left (by unfold Has; decide)
@[simp] theorem translate_readWait : (translate s p addr n).readWait = s.readWait := (translate_frame s p addr n).readWait.resolve_left (by unfold Has; decide)
@[simp] theorem translate_sup : (translate s p addr n).sup = s.sup := (translate_frame s p addr n).sup.resolve_left (by unfold Has; decide)
@[simp] theorem translate_fence : (translate s p addr n).fence = s.fence := (translate_frame s p addr n).fence.resolve_left (by unfold Has; decide)
@[simp] theorem translate_heldWrites : (translate s p addr n).heldWrites = s.heldWrites := (translate_frame s p addr n).heldWrites.resolve_left (by unfold Has; decide)
@[simp] theorem translate_heldPackets : (translate s p addr n).heldPackets = s.heldPackets := (translate_frame s p addr n).heldPackets.resolve_left (by unfold Has; decide)
@[simp] theorem translate_part : (translate s p addr n).part = s.part := (translate_frame s p addr n).part.resolve_left (by unfold Has; decide)
@[simp] theorem translate_sync : (translate s p addr n).sync = s.sync := (translate_frame s p addr n).sync.resolve_left (by unfold Has; decide)
@[simp] theorem translate_ports : (translate s p addr n).ports = s.ports := (translate_frame s p addr n).ports.resolve_left (by unfold Has; decide)
@[simp] theorem translate_bridge : (translate s p addr n).bridge = s.bridge := (translate_frame s p addr n).bridge.resolve_left (by unfold Has; decide)
@[simp] theorem translate_fab : (translate s p addr n).fab = s.fab := (translate_frame s p addr n).fab.resolve_left (by unfold Has; decide)
@[simp] theorem translate_faults : (translate s p addr n).faults = s.faults := (translate_frame s p addr n).faults.resolve_left (by unfold Has; decide)
@[simp] theorem translate_hubs : (translate s p addr n).hubs = s.hubs := (translate_frame s p addr n).hubs.resolve_left (by unfold Has; decide)
@[simp] theorem translate_tally : (translate s p addr n).tally = s.tally := (translate_frame s p addr n).tally.resolve_left (by unfold Has; decide)
@[simp] theorem translate_ledger : (translate s p addr n).ledger = s.ledger := (translate_frame s p addr n).ledger.resolve_left (by unfold Has; decide)
@[simp] theorem translate_bkg : (translate s p addr n).bkg = s.bkg := (translate_frame s p addr n).bkg.resolve_left (by unfold Has; decide)
@[simp] theorem translate_power : (translate s p addr n).power = s.power := (translate_frame s p addr n).power.resolve_left (by unfold Has; decide)
@[simp] theorem translate_logBuf : (translate s p addr n).logBuf = s.logBuf := (translate_frame s p addr n).logBuf.resolve_left (by unfold Has; decide)
@[simp] theorem translate_logSeq : (translate s p addr n).logSeq = s.logSeq := (translate_frame s p addr n).logSeq.resolve_left (by unfold Has; decide)
@[simp] theorem translate_pldmQ : (translate s p addr n).pldmQ = s.pldmQ := (translate_frame s p addr n).pldmQ.resolve_left (by unfold Has; decide)
@[simp] theorem translate_pldmReceiver : (translate s p addr n).pldmReceiver = s.pldmReceiver := (translate_frame s p addr n).pldmReceiver.resolve_left (by unfold Has; decide)
@[simp] theorem translate_msixUnmasked : (translate s p addr n).msixUnmasked = s.msixUnmasked := (translate_frame s p addr n).msixUnmasked.resolve_left (by unfold Has; decide)
@[simp] theorem translate_msixPending : (translate s p addr n).msixPending = s.msixPending := (translate_frame s p addr n).msixPending.resolve_left (by unfold Has; decide)
@[simp] theorem translate_msixTable : (translate s p addr n).msixTable = s.msixTable := (translate_frame s p addr n).msixTable.resolve_left (by unfold Has; decide)
@[simp] theorem translate_out : (translate s p addr n).out = s.out := (translate_frame s p addr n).out.resolve_left (by unfold Has; decide)
@[simp] theorem translate_free : (translate s p addr n).free = s.free := (translate_frame s p addr n).free.resolve_left (by unfold Has; decide)
@[simp] theorem translate_pending : (translate s p addr n).pending = s.pending := (translate_frame s p addr n).pending.resolve_left (by unfold Has; decide)
end

section
variable (p addr : Nat) (bs : List Byte) (t : Nat)
theorem hostWrite_frame : Within 0x13000080020000000000000000000000000000000000000000000000001f807000000000000000008a7c006000 s (hostWrite s p addr bs t) :=
  hostWrite_within (T := 0x13000080020000000000000000000000000000000000000000000000001f807000000000000000008a7c006000) Within.start _ _ _ _ (by decide)
@[simp] theorem hostWrite_build : (hostWrite s p addr bs t).build = s.build := (hostWrite_frame s p addr bs t).build.resolve_left (by unfold Has; decide)
@[simp] theorem hostWrite_straps : (hostWrite s p addr bs t).straps = s.straps := (hostWrite_frame s p addr bs t).straps.resolve_left (by unfold Has; decide)
@[simp] theorem hostWrite_boot : (hostWrite s p addr bs t).boot = s.boot := (hostWrite_frame s p addr bs t).boot.resolve_left (by unfold Has; decide)
@[simp] theorem hostWrite_fuses : (hostWrite s p addr bs t).fuses = s.fuses := (hostWrite_frame s p addr bs t).fuses.resolve_left (by unfold Has; decide)
@[simp] theorem hostWrite_clock : (hostWrite s p addr bs t).clock = s.clock := (hostWrite_frame s p addr bs t).clock.resolve_left (by unfold Has; decide)
@[simp] theorem hostWrite_tbu : (hostWrite s p addr bs t).tbu = s.tbu := (hostWrite_frame s p addr bs t).tbu.resolve_left (by unfold Has; decide)
@[simp] theorem hostWrite_latches : (hostWrite s p addr bs t).latches = s.latches := (hostWrite_frame s p addr bs t).latches.resolve_left (by unfold Has; decide)
@[simp] theorem hostWrite_sched : (hostWrite s p addr bs t).sched = s.sched := (hostWrite_frame s p addr bs t).sched.resolve_left (by unfold Has; decide)
@[simp] theorem hostWrite_queues : (hostWrite s p addr bs t).queues = s.queues := (hostWrite_frame s p addr bs t).queues.resolve_left (by unfold Has; decide)
@[simp] theorem hostWrite_tags : (hostWrite s p addr bs t).tags = s.tags := (hostWrite_frame s p addr bs t).tags.resolve_left (by unfold Has; decide)
@[simp] theorem hostWrite_nextSlot : (hostWrite s p addr bs t).nextSlot = s.nextSlot := (hostWrite_frame s p addr bs t).nextSlot.resolve_left (by unfold Has; decide)
@[simp] theorem hostWrite_readWait : (hostWrite s p addr bs t).readWait = s.readWait := (hostWrite_frame s p addr bs t).readWait.resolve_left (by unfold Has; decide)
@[simp] theorem hostWrite_sup : (hostWrite s p addr bs t).sup = s.sup := (hostWrite_frame s p addr bs t).sup.resolve_left (by unfold Has; decide)
@[simp] theorem hostWrite_heldPackets : (hostWrite s p addr bs t).heldPackets = s.heldPackets := (hostWrite_frame s p addr bs t).heldPackets.resolve_left (by unfold Has; decide)
@[simp] theorem hostWrite_part : (hostWrite s p addr bs t).part = s.part := (hostWrite_frame s p addr bs t).part.resolve_left (by unfold Has; decide)
@[simp] theorem hostWrite_sync : (hostWrite s p addr bs t).sync = s.sync := (hostWrite_frame s p addr bs t).sync.resolve_left (by unfold Has; decide)
@[simp] theorem hostWrite_ports : (hostWrite s p addr bs t).ports = s.ports := (hostWrite_frame s p addr bs t).ports.resolve_left (by unfold Has; decide)
@[simp] theorem hostWrite_bridge : (hostWrite s p addr bs t).bridge = s.bridge := (hostWrite_frame s p addr bs t).bridge.resolve_left (by unfold Has; decide)
@[simp] theorem hostWrite_fab : (hostWrite s p addr bs t).fab = s.fab := (hostWrite_frame s p addr bs t).fab.resolve_left (by unfold Has; decide)
@[simp] theorem hostWrite_faults : (hostWrite s p addr bs t).faults = s.faults := (hostWrite_frame s p addr bs t).faults.resolve_left (by unfold Has; decide)
@[simp] theorem hostWrite_hubs : (hostWrite s p addr bs t).hubs = s.hubs := (hostWrite_frame s p addr bs t).hubs.resolve_left (by unfold Has; decide)
@[simp] theorem hostWrite_tally : (hostWrite s p addr bs t).tally = s.tally := (hostWrite_frame s p addr bs t).tally.resolve_left (by unfold Has; decide)
@[simp] theorem hostWrite_ledger : (hostWrite s p addr bs t).ledger = s.ledger := (hostWrite_frame s p addr bs t).ledger.resolve_left (by unfold Has; decide)
@[simp] theorem hostWrite_bkg : (hostWrite s p addr bs t).bkg = s.bkg := (hostWrite_frame s p addr bs t).bkg.resolve_left (by unfold Has; decide)
@[simp] theorem hostWrite_pldmReceiver : (hostWrite s p addr bs t).pldmReceiver = s.pldmReceiver := (hostWrite_frame s p addr bs t).pldmReceiver.resolve_left (by unfold Has; decide)
@[simp] theorem hostWrite_msixUnmasked : (hostWrite s p addr bs t).msixUnmasked = s.msixUnmasked := (hostWrite_frame s p addr bs t).msixUnmasked.resolve_left (by unfold Has; decide)
@[simp] theorem hostWrite_msixTable : (hostWrite s p addr bs t).msixTable = s.msixTable := (hostWrite_frame s p addr bs t).msixTable.resolve_left (by unfold Has; decide)
@[simp] theorem hostWrite_free : (hostWrite s p addr bs t).free = s.free := (hostWrite_frame s p addr bs t).free.resolve_left (by unfold Has; decide)
@[simp] theorem hostWrite_pending : (hostWrite s p addr bs t).pending = s.pending := (hostWrite_frame s p addr bs t).pending.resolve_left (by unfold Has; decide)
end

/-! ## Registers -/

theorem rd_wr (k a : Nat) (v : Word) : rd (wr s k v) a = if a = k then v else rd s a := by
  unfold rd wr SMap.get
  by_cases h : a = k
  · subst h; simp
  · simp [SMap.get?_put, h]

@[simp] theorem rd_wr_same (k : Nat) (v : Word) : rd (wr s k v) k = v := by simp [rd_wr]

theorem rd_wr_other {k a : Nat} (v : Word) (h : a ≠ k) : rd (wr s k v) a = rd s a := by simp [rd_wr, h]

/-- A register outside the places of an operation reads as before. -/
theorem rd_within {T : Nat} {s s' : State} (h : Within T s s') {a : Nat} (ha : ¬ Allowed T a) : rd s' a = rd s a := by
  unfold rd SMap.get
  rw [(h.regs a).resolve_left ha]

theorem rd_zeroRegs (offs : List Nat) (a : Nat) : rd (zeroRegs s offs) a = if a ∈ offs then 0#32 else rd s a := by
  unfold zeroRegs
  induction offs generalizing s with
  | nil => rfl
  | cons x xs ih =>
    have h := ih { s with regs := SMap.put s.regs x 0#32 }
    rw [List.foldl_cons]
    refine h.trans ?_
    by_cases hx : a = x
    · subst hx
      have e : rd { s with regs := SMap.put s.regs a 0#32 } a = 0#32 := rd_wr_same s a 0#32
      simp [e]
    · have e : rd { s with regs := SMap.put s.regs x 0#32 } a = rd s a := rd_wr_other s 0#32 hx
      simp [hx, e]

@[simp] theorem rd_bumpN (k n a : Nat) : rd (bumpN s k n) a = if a = k then addSat (rd s k) n else rd s a := rd_wr s k a _

@[simp] theorem rd_bump (k a : Nat) : rd (bump s k) a = if a = k then addSat (rd s k) 1 else rd s a := rd_wr s k a _

@[simp] theorem rd_setEvent (e b a : Nat) : rd (setEvent s e b) a = if a = e then setBitW (rd s e) b else rd s a :=
  rd_wr s e a _

/-- The registers that making an event can change beside the event's own: those of a dropped log record, of a dropped
PLDM event, and the alert summary. -/
def eventRegs : List Nat :=
  [Reg.BKG_EVENT, Reg.BKG_LOG_DROP_COUNT, Reg.HST_EVENT, Reg.HST_ALERT_STATUS, Reg.HST_PLDM_EVENT_DROP_COUNT]

theorem rd_logEvent {a : Nat} (ha : a ∉ eventRegs) (e : EventRec) : rd (logEvent s e) a = rd s a := by
  simp only [eventRegs, List.mem_cons, List.not_mem_nil, or_false, not_or] at ha
  unfold logEvent
  split
  · rfl
  · simp [ha.1, ha.2.1]

theorem rd_sendPldm {a : Nat} (ha : a ∉ eventRegs) (e : EventRec) : rd (sendPldm s e) a = rd s a := by
  simp only [eventRegs, List.mem_cons, List.not_mem_nil, or_false, not_or] at ha
  unfold sendPldm
  split
  · rfl
  · split
    · rfl
    · simp [ha.2.2.1, ha.2.2.2.2]

theorem rd_assertAlert {a : Nat} (ha : a ∉ eventRegs) (c : EvClass) : rd (assertAlert s c) a = rd s a := by
  simp only [eventRegs, List.mem_cons, List.not_mem_nil, or_false, not_or] at ha
  unfold assertAlert
  dsimp only
  split <;> split <;> simp [rd_wr, ha.2.2.2.1]

/-- An event sets its bit in its register and leaves every register outside `eventRegs` as it was. -/
theorem rd_raise {a : Nat} (ha : a ∉ eventRegs) (evt bit : Nat) (c : EvClass) (alert pldm : Bool) (t : Nat) :
    rd (raise s evt bit c alert pldm t) a = if a = evt then setBitW (rd s evt) bit else rd s a := by
  unfold raise
  dsimp only
  have h : ∀ b : Bool, rd (if b = true then sendPldm (logEvent (setEvent s evt bit) (eventRec (setEvent s evt bit) evt bit c
      alert t)) (eventRec (setEvent s evt bit) evt bit c alert t) else setEvent s evt bit) a =
      if a = evt then setBitW (rd s evt) bit else rd s a := by
    intro b
    cases b
    · simp
    · simp [rd_sendPldm _ ha, rd_logEvent _ ha]
  split
  · rw [rd_assertAlert _ ha, h]
  · exact h _

theorem rd_fenceLog {a : Nat} (h0 : a ≠ Reg.FENCE_VLOG_0) (h1 : a ≠ Reg.FENCE_VLOG_1) (b : Bound) (p : Nat)
    (src : Requester) (addr : Nat) : rd (fenceLog s b p src addr) a = rd s a := by
  unfold fenceLog
  split
  · rfl
  · unfold rd SMap.get
    simp [SMap.get?_put, h0, h1]

@[simp] theorem rd_noteBound (b : Bound) (a : Nat) : rd (noteBound s b) a = rd s a := by
  unfold noteBound
  split <;> rfl

/-- A Fence refusal: its bound's counter goes up, saturating, and its event bit is set; registers other than those, the
Fence's log and `eventRegs` stay. -/
theorem rd_fenceRefuseN {a : Nat} (ha : a ∉ eventRegs) (h0 : a ≠ Reg.FENCE_VLOG_0) (h1 : a ≠ Reg.FENCE_VLOG_1)
    (b : Bound) (n p : Nat) (src : Requester) (addr t : Nat) :
    rd (fenceRefuseN s b n p src addr t) a =
      if a = Reg.FENCE_EVENT then setBitW (rd s Reg.FENCE_EVENT) b.bit
      else if a = b.counter then addSat (rd s b.counter) n else rd s a := by
  unfold fenceRefuseN
  dsimp only
  rw [rd_raise _ ha, rd_fenceLog _ (by decide) (by decide), rd_fenceLog _ h0 h1, rd_bumpN, rd_bumpN]
  have e : Reg.FENCE_EVENT ≠ b.counter := by cases b <;> decide
  simp [e]

theorem rd_fenceRefuse {a : Nat} (ha : a ∉ eventRegs) (h0 : a ≠ Reg.FENCE_VLOG_0) (h1 : a ≠ Reg.FENCE_VLOG_1)
    (b : Bound) (p : Nat) (src : Requester) (addr t : Nat) :
    rd (fenceRefuse s b p src addr t) a =
      if a = Reg.FENCE_EVENT then setBitW (rd s Reg.FENCE_EVENT) b.bit
      else if a = b.counter then addSat (rd s b.counter) 1 else rd s a := rd_fenceRefuseN s ha h0 h1 b 1 p src addr t

end Sys2Proof.Machine
end

