-- ==== Sys2Proof/Laws/Items.lean ====
section
/-! SUPPORT. How a work item ends: ending one changes nothing of the schedule but the phase of
that item and, for an item of a standing entry, the status that its dependents inherit. -/

namespace Sys2Proof.Machine

variable {s : State}

/-- The schedule stays, but items may have ended. -/
structure OnlyEnd (s s' : State) : Prop where
  rest : s'.sched = { s.sched with items := s'.sched.items, standingDone := s'.sched.standingDone }
  items : ∀ j, item s' j = item s j ∨ item s' j = { item s j with ph := .done }

theorem OnlyEnd.refl : OnlyEnd s s := ⟨rfl, fun _ => .inl rfl⟩

theorem OnlyEnd.of_sched {s' : State} (h : s'.sched = s.sched) : OnlyEnd s s' := by
  refine ⟨by rw [h], fun j => .inl ?_⟩
  unfold item
  rw [h]

theorem OnlyEnd.trans {s' s'' : State} (h : OnlyEnd s s') (h' : OnlyEnd s' s'') : OnlyEnd s s'' := by
  refine ⟨?_, fun j => ?_⟩
  · have e := h'.rest
    rw [h.rest] at e
    exact e
  · rcases h.items j with a | a <;> rcases h'.items j with b | b <;> rw [a] at b <;> simp [b]

theorem OnlyEnd.done {s' : State} (h : OnlyEnd s s') {j : Nat} (hj : (item s j).ph = .done) : (item s' j).ph = .done := by
  rcases h.items j with a | a <;> rw [a]
  exact hj

theorem item_setItem (i j : Nat) (v : Item) : item (setItem s i v) j = if j = i then v else item s j := by
  unfold item SMap.get
  rw [setItem_sched]
  dsimp only
  rw [SMap.get?_put]
  split <;> rfl

theorem haltItem_sched (i : Nat) (st : Status) (t : Nat) :
    (haltItem s i st t).sched = { s.sched with items := SMap.put s.sched.items i { item s i with ph := .done } } := by
  have w1 : ∀ (x : State) (l : List Nat), (l.foldl (fun s l => withdrawWaits s t l) x).sched = x.sched := fun x l =>
    (foldl_within (T := 0x20000) (fun _ _ h => withdrawWaits_within h _ _ (by decide)) Within.start l).sched.resolve_left
      (by unfold Has; decide)
  have w2 : ∀ x f, (abandonReads x f).sched = x.sched := fun x f =>
    (abandonReads_within (T := 0xa00) Within.start f (by decide)).sched.resolve_left (by unfold Has; decide)
  have w3 : ∀ x d, (endCollective x i d st).sched = x.sched := fun x d =>
    (endCollective_within (T := 0x2c8000000000130000800200000000000000000000000100000000200000000000000000000000000000000000000a78540000) Within.start i d st (by decide)).sched.resolve_left (by unfold Has; decide)
  unfold haltItem
  dsimp only
  rw [w3, w2, w1, setItem_sched]

theorem completeStanding_sched (z : Standing) (n : Nat) (st : Status) (d : Nat) (late invalid inherited : Bool) (t : Nat) :
    (completeStanding s z n st d late invalid inherited t).sched =
      { s.sched with standingDone := SMap.put s.sched.standingDone n st } := by
  have w1 : ∀ x, (countStatus x st t).sched = x.sched := fun x =>
    (countStatus_within (T := 0x130000800200000000000000000000000000000000000000000007a00000000000000000000000000a78000000) Within.start st t (by decide)).sched.resolve_left (by unfold Has; decide)
  have w2 : ∀ x q r, (writeRec x q r t).sched = x.sched := fun x q r =>
    (writeRec_within (T := 0x13000080020000000000000000000000000000000000000000000000001f80700000000000000020ca7c006100) Within.start q r t (by decide)).sched.resolve_left (by unfold Has; decide)
  unfold completeStanding
  dsimp only
  split
  · rw [w2, w1]
  · exact w1 _

/-- The record of an item changes the schedule in the status of a standing entry alone. -/
theorem recordItem_sched (it : Item) (st : Status) (d : Nat) (invalid : Bool) (t : Nat) :
    (recordItem s it st d invalid t).sched =
      { s.sched with standingDone := (recordItem s it st d invalid t).sched.standingDone } := by
  have w1 : ∀ q i ds l, (completeEntry s q i ds st d l invalid false t).sched = s.sched := fun q i ds l =>
    (completeEntry_within (T := 0x130000800200000000000000000000000000000000000000000007a0001f80700000000000000020da7c006f00) Within.start q i ds st d l invalid false t (by decide)).sched.resolve_left
      (by unfold Has; decide)
  have w2 : ∀ src, (ledgerItemFailed s src st d t).sched = s.sched := fun src =>
    (ledgerItemFailed_within (T := 0x2c0000000000130000800200000000000804000000000100000000000000000007a0001f80700000000000000020da7d546f00) Within.start src st d t (by decide)).sched.resolve_left (by unfold Has; decide)
  unfold recordItem
  dsimp only
  split
  · rfl
  · split
    · rw [w1]
    · rw [completeStanding_sched]
    · rw [w2]

/-- An item that ends becomes done, and the schedule is otherwise untouched but for the status of a standing entry. -/
theorem endItem_sched (i : Nat) (c : List (Status × Nat)) (bad : Option Bool) (t : Nat) :
    (endItem s i c bad t).sched = (if (item s i).ph = .done then s.sched else
      { s.sched with
        items := SMap.put s.sched.items i { item s i with ph := .done }
        standingDone := (endItem s i c bad t).sched.standingDone }) := by
  have w2 : ∀ x it st d, (setDone x it st d t).2.sched = x.sched := fun x it st d =>
    (setDone_within (T := 0x1300008002000000000000000000000000000000000000d8000000000000000000000000000000000a78020000) Within.start it st d t (by decide)).sched.resolve_left (by unfold Has; decide)
  by_cases h : (item s i).ph = .done
  · simp [endItem, h]
  · have hb : ((item s i).ph == ItemPhase.done) = false := by simpa using h
    have w0 : ∀ (b : Prop) [Decidable b], (if b then bump s Reg.TICK_OVERRUN_COUNT else s).sched = s.sched := by
      intro b _
      split <;> rfl
    rw [if_neg h]
    unfold endItem
    dsimp only
    rw [hb]
    simp only [Bool.false_eq_true, if_false]
    rw [recordItem_sched, haltItem_sched, w2, w0]
    unfold item
    rw [w2, w0]

theorem endItem_onlyEnd (i : Nat) (c : List (Status × Nat)) (bad : Option Bool) (t : Nat) :
    OnlyEnd s (endItem s i c bad t) := by
  have e := endItem_sched (s := s) i c bad t
  by_cases h : (item s i).ph = .done
  · rw [if_pos h] at e
    exact OnlyEnd.of_sched e
  · rw [if_neg h] at e
    refine ⟨by rw [e], fun j => ?_⟩
    unfold item SMap.get
    rw [e]
    dsimp only
    rw [SMap.get?_put]
    by_cases hj : j = i
    · subst hj
      exact .inr (by simp [item, SMap.get])
    · exact .inl (by simp [hj])

theorem endItem_done (i : Nat) (c : List (Status × Nat)) (bad : Option Bool) (t : Nat) :
    (item (endItem s i c bad t) i).ph = .done := by
  have e := endItem_sched (s := s) i c bad t
  by_cases h : (item s i).ph = .done
  · rw [if_pos h] at e
    unfold item
    rw [e]
    exact h
  · rw [if_neg h] at e
    unfold item SMap.get
    rw [e]
    simp

theorem foldl_onlyEnd {β : Type} {f : State → β → State} (hf : ∀ s x, OnlyEnd s (f s x)) (l : List β) :
    OnlyEnd s (l.foldl f s) := by
  induction l generalizing s with
  | nil => exact OnlyEnd.refl
  | cons x xs ih => exact (hf s x).trans ih

theorem skipPeriodic_onlyEnd (e t : Nat) : OnlyEnd s (skipPeriodic e t s) := by
  unfold skipPeriodic
  refine foldl_onlyEnd (fun x i => ?_) _
  have h : OnlyEnd x (bump x Reg.TICK_SKIP_COUNT) := OnlyEnd.of_sched rfl
  exact h.trans (endItem_onlyEnd _ _ _ _)

theorem endWork_onlyEnd (i : Nat) (c : List (Status × Nat)) (bad : Option Bool) (t : Nat) :
    OnlyEnd s (endWork s i c bad t) := by
  unfold endWork
  dsimp only
  split
  · split
    · exact (endItem_onlyEnd i c bad t).trans (skipPeriodic_onlyEnd _ _)
    · exact endItem_onlyEnd i c bad t
  · exact endItem_onlyEnd i c bad t

/-- The item that ends is done, whatever else its end leaves out. -/
theorem endWork_done (i : Nat) (c : List (Status × Nat)) (bad : Option Bool) (t : Nat) :
    (item (endWork s i c bad t) i).ph = .done := by
  have h := endItem_done (s := s) i c bad t
  unfold endWork
  dsimp only
  split
  · split
    · exact (skipPeriodic_onlyEnd _ _).done h
    · exact h
  · exact h

theorem enterLane_onlyEnd (t stream : Nat) : OnlyEnd s (enterLane s t stream) := by
  unfold enterLane
  refine foldl_onlyEnd (fun s i => ?_) _
  split
  · exact OnlyEnd.refl
  · dsimp only
    split
    · exact OnlyEnd.of_sched (by simp [freshBuffer])
    · exact endItem_onlyEnd _ _ _ _

theorem finishItem_onlyEnd (i : Nat) (c : List (Status × Nat)) (bad : Option Bool) (t : Nat) :
    OnlyEnd s (finishItem s i c bad t) :=
  (endWork_onlyEnd i c bad t).trans (foldl_onlyEnd (fun _ _ => enterLane_onlyEnd _ _) _)

/-- An item that finishes is done. -/
theorem finishItem_done (i : Nat) (c : List (Status × Nat)) (bad : Option Bool) (t : Nat) :
    (item (finishItem s i c bad t) i).ph = .done :=
  (foldl_onlyEnd (fun _ _ => enterLane_onlyEnd _ _) _).done (endWork_done i c bad t)

end Sys2Proof.Machine
end

