-- ==== Sys2Proof/Laws/Keeps.lean ====
section
/-! SUPPORT. What almost every operation leaves alone: the build, straps and fuses, the flash, the queue of waiting
commands, the lock points, the tick's number, and the tables of the image; and the canonical form of memories, which every
operation keeps. `Keeps p s0 s` says it of a state `s` reached from `s0`, seen through a projection `p` of the anchor
(so that an operation which changes one part of the anchor still has its say about the rest). The files Keeps<X>.lean
hold one lemma per operation of Machine/<X>.lean, each in a form that chains. -/

namespace Sys2Proof.Machine

/-- The parts of the state that only a few commands change. -/
structure Anchor where
  build : Build
  straps : Straps
  fuses : Fuses
  flash : Mem
  pending : List Instr
  cfgLocked : Bool
  ucodeLocked : Bool
  serviceable : Bool
  running : Bool
  seq : Nat
  index : Nat
  windows : SMap Window
  allocs : SMap Alloc
  groups : SMap Group
  routes : Routes
  ldgParts : SMap LdgPart
  models : SMap Model

/-- The anchor of a state. -/
abbrev anchor (s : State) : Anchor :=
  { build := s.build, straps := s.straps, fuses := s.fuses, flash := s.mems.flash, pending := s.pending
    cfgLocked := s.boot.cfgLocked, ucodeLocked := s.boot.ucodeLocked, serviceable := s.boot.serviceable
    running := s.clock.running, seq := s.clock.seq, index := s.clock.index
    windows := s.fence.windows, allocs := s.fence.allocs, groups := s.hubs.groups, routes := s.fab.routes
    ldgParts := s.ledger.parts, models := s.ledger.models }

/-- `s` has the anchor of `s0`, seen through `p`, and the canonical form that `s0` has. -/
structure Keeps {α : Type} (p : Anchor → α) (s0 s : State) : Prop where
  same : p (anchor s) = p (anchor s0)
  wf : MemoriesWf s0 → MemoriesWf s

/-- An outcome whose next state, if it has one, keeps the anchor and the canonical form. -/
def KeepsOut {α : Type} (p : Anchor → α) (s0 : State) (o : Host.Outcome State Fault Refusal) : Prop :=
  match o with
  | .next s => Keeps p s0 s
  | .fault _ => True
  | .refused _ => True

section
variable {α : Type} {p : Anchor → α} {s0 s : State}

theorem Keeps.start : Keeps p s s := ⟨rfl, id⟩

theorem Keeps.trans {s' : State} (h : Keeps p s0 s) (h' : Keeps p s s') : Keeps p s0 s' :=
  ⟨h'.same.trans h.same, fun x => h'.wf (h.wf x)⟩

theorem KeepsOut.next (h : Keeps p s0 s) : KeepsOut p s0 (.next s) := h

theorem KeepsOut.fault (r : Fault) : KeepsOut p s0 (.fault r) := trivial

/-- A record update outside the anchor, the memories and the registers. -/
theorem Keeps.upd_iff {boot clock tbu latches sched queues tags nextSlot readWait sup fence heldWrites heldPackets part sync
    ports bridge fab faults hubs tally ledger bkg host power logBuf logSeq pldmQ pldmReceiver msixUnmasked
    msixPending msixTable out free}
    (hbootCfgLocked : boot.cfgLocked = s.boot.cfgLocked) (hbootUcodeLocked : boot.ucodeLocked =
    s.boot.ucodeLocked) (hbootServiceable : boot.serviceable = s.boot.serviceable) (hclockRunning :
    clock.running = s.clock.running) (hclockSeq : clock.seq = s.clock.seq) (hclockIndex : clock.index =
    s.clock.index) (hfenceWindows : fence.windows = s.fence.windows) (hfenceAllocs : fence.allocs =
    s.fence.allocs) (hhubsGroups : hubs.groups = s.hubs.groups) (hfabRoutes : fab.routes = s.fab.routes)
    (hledgerParts : ledger.parts = s.ledger.parts) (hledgerModels : ledger.models = s.ledger.models) :
    Keeps p s0 (State.mk s.build s.straps boot s.fuses s.mems clock tbu s.regs latches sched queues tags nextSlot readWait sup fence
      heldWrites heldPackets part sync ports bridge fab faults hubs tally ledger bkg host power logBuf logSeq
      pldmQ pldmReceiver msixUnmasked msixPending msixTable out free s.pending) ↔ Keeps p s0 s := by
  have e : anchor (State.mk s.build s.straps boot s.fuses s.mems clock tbu s.regs latches sched queues tags nextSlot readWait sup fence
      heldWrites heldPackets part sync ports bridge fab faults hubs tally ledger bkg host power logBuf logSeq
      pldmQ pldmReceiver msixUnmasked msixPending msixTable out free s.pending) = anchor s := by
    simp only [anchor, *]
  constructor
  · intro h
    exact ⟨by rw [← h.same, e], h.wf⟩
  · intro h
    exact ⟨by rw [e, h.same], h.wf⟩

/-- A projection that does not look at the tables of the image. -/
def BlindToTables (p : Anchor → α) : Prop :=
  ∀ (a : Anchor) (w : SMap Window) (l : SMap Alloc) (g : SMap Group) (r : Routes) (lp : SMap LdgPart) (m : SMap Model),
    p { a with windows := w, allocs := l, groups := g, routes := r, ldgParts := lp, models := m } = p a

/-- A projection that does not look at the lock points. -/
def BlindToLocks (p : Anchor → α) : Prop :=
  ∀ (a : Anchor) (c u v : Bool), p { a with cfgLocked := c, ucodeLocked := u, serviceable := v } = p a

/-- A projection that does not look at the tick. -/
def BlindToTick (p : Anchor → α) : Prop :=
  ∀ (a : Anchor) (r : Bool) (q i : Nat), p { a with running := r, seq := q, index := i } = p a

/-- A projection that does not look at the straps. -/
def BlindToStraps (p : Anchor → α) : Prop := ∀ (a : Anchor) (x : Straps), p { a with straps := x } = p a

/-- A projection that does not look at the fuses. -/
def BlindToFuses (p : Anchor → α) : Prop := ∀ (a : Anchor) (x : Fuses), p { a with fuses := x } = p a

/-- A projection that does not look at the flash. -/
def BlindToFlash (p : Anchor → α) : Prop := ∀ (a : Anchor) (m : Mem), p { a with flash := m } = p a

/-- A record update outside the anchor but for the tables, seen through a projection blind to them. -/
theorem Keeps.updTables_iff (hp : BlindToTables p)
    {boot clock tbu latches sched queues tags nextSlot readWait sup fence heldWrites heldPackets part sync
    ports bridge fab faults hubs tally ledger bkg host power logBuf logSeq pldmQ pldmReceiver msixUnmasked
    msixPending msixTable out free}
    (hbootCfgLocked : boot.cfgLocked = s.boot.cfgLocked) (hbootUcodeLocked : boot.ucodeLocked =
    s.boot.ucodeLocked) (hbootServiceable : boot.serviceable = s.boot.serviceable) (hclockRunning :
    clock.running = s.clock.running) (hclockSeq : clock.seq = s.clock.seq) (hclockIndex : clock.index =
    s.clock.index) :
    Keeps p s0 (State.mk s.build s.straps boot s.fuses s.mems clock tbu s.regs latches sched queues tags nextSlot readWait sup fence
      heldWrites heldPackets part sync ports bridge fab faults hubs tally ledger bkg host power logBuf logSeq
      pldmQ pldmReceiver msixUnmasked msixPending msixTable out free s.pending) ↔ Keeps p s0 s := by
  have e : p (anchor (State.mk s.build s.straps boot s.fuses s.mems clock tbu s.regs latches sched queues tags nextSlot readWait sup fence
      heldWrites heldPackets part sync ports bridge fab faults hubs tally ledger bkg host power logBuf logSeq
      pldmQ pldmReceiver msixUnmasked msixPending msixTable out free s.pending)) = p (anchor s) := by
    rw [← hp (anchor s) fence.windows fence.allocs hubs.groups fab.routes ledger.parts ledger.models]
    simp only [anchor, *]
  constructor
  · intro h
    exact ⟨by rw [← h.same, e], h.wf⟩
  · intro h
    exact ⟨by rw [e, h.same], h.wf⟩

/-- An update of the registers alone that keeps their order. -/
theorem Keeps.updRegs (h : Keeps p s0 s) {r : SMap Word} (hr : SMap.sorted s.regs = true → SMap.sorted r = true) :
    Keeps p s0 { s with regs := r } :=
  ⟨h.same, fun w => by
    obtain ⟨h1, h2, h3, h4, h5, h6, h7, h8⟩ := h.wf w
    exact ⟨h1, h2, h3, h4, h5, h6, h7, hr h8⟩⟩

/-- A register put into the register map of an update. -/
theorem Keeps.updPut {build straps boot fuses mems clock tbu regs latches sched queues tags nextSlot readWait sup fence
    heldWrites heldPackets part sync ports bridge fab faults hubs tally ledger bkg host power logBuf logSeq
    pldmQ pldmReceiver msixUnmasked msixPending msixTable out free pending}
    {k : Nat} {v : Word}
    (h : Keeps p s0 (State.mk build straps boot fuses mems clock tbu regs latches sched queues tags nextSlot readWait sup fence heldWrites
      heldPackets part sync ports bridge fab faults hubs tally ledger bkg host power logBuf logSeq pldmQ
      pldmReceiver msixUnmasked msixPending msixTable out free pending)) :
    Keeps p s0 (State.mk build straps boot fuses mems clock tbu (SMap.put regs k v) latches sched queues tags nextSlot readWait
      sup fence heldWrites heldPackets part sync ports bridge fab faults hubs tally ledger bkg host power
      logBuf logSeq pldmQ pldmReceiver msixUnmasked msixPending msixTable out free pending) :=
  h.updRegs (SMap.sorted_put k v)

/-- An update of the memories alone that leaves the flash and keeps the canonical form. -/
theorem Keeps.updMems (h : Keeps p s0 s) {m : Memories} (hf : m.flash = s.mems.flash)
    (hw : MemoriesWf s → MemoriesWf { s with mems := m }) : Keeps p s0 { s with mems := m } :=
  ⟨by rw [← h.same]; simp only [anchor, hf], fun w => hw (h.wf w)⟩

/-- An update of the flash, seen through a projection blind to it. -/
theorem Keeps.updFlash (hp : BlindToFlash p) (h : Keeps p s0 s) (m : Mem)
    (hw : Mem.wf 0xFF#8 s.mems.flash = true → Mem.wf 0xFF#8 m = true) :
    Keeps p s0 { s with mems := { s.mems with flash := m } } :=
  ⟨(hp (anchor s) m).trans h.same, fun w => by
    obtain ⟨h1, h2, h3, h4, h5, h6⟩ := h.wf w
    exact ⟨h1, h2, h3, h4, hw h5, h6⟩⟩

theorem Keeps.ite {c : Prop} [Decidable c] {s' : State} (h : Keeps p s0 s) (h' : Keeps p s0 s') :
    Keeps p s0 (if c then s else s') := by
  split
  · exact h
  · exact h'

theorem KeepsOut.ite {c : Prop} [Decidable c] {o o' : Host.Outcome State Fault Refusal} (h : KeepsOut p s0 o)
    (h' : KeepsOut p s0 o') : KeepsOut p s0 (if c then o else o') := by
  split
  · exact h
  · exact h'

theorem foldl_keeps {β : Type} {f : State → β → State} (hf : ∀ s x, Keeps p s0 s → Keeps p s0 (f s x)) (h : Keeps p s0 s)
    (l : List β) : Keeps p s0 (l.foldl f s) := by
  induction l generalizing s with
  | nil => exact h
  | cons x xs ih => exact ih (hf s x h)

/-- A fold over a list that carries a state and something beside it. -/
theorem foldl_fst_keeps {β γ : Type} {f : State × γ → β → State × γ}
    (hf : ∀ a x, Keeps p s0 a.1 → Keeps p s0 (f a x).1) {a : State × γ} (h : Keeps p s0 a.1) (l : List β) :
    Keeps p s0 (l.foldl f a).1 := by
  induction l generalizing a with
  | nil => exact h
  | cons x xs ih => exact ih (hf a x h)

theorem foldl_snd_keeps {β γ : Type} {f : γ × State → β → γ × State}
    (hf : ∀ a x, Keeps p s0 a.2 → Keeps p s0 (f a x).2) {a : γ × State} (h : Keeps p s0 a.2) (l : List β) :
    Keeps p s0 (l.foldl f a).2 := by
  induction l generalizing a with
  | nil => exact h
  | cons x xs ih => exact ih (hf a x h)

end

end Sys2Proof.Machine
end

