-- ==== Sys2Proof/Laws/KeepsOps.lean ====
section
/-! SUPPORT. Every operation of Machine/Ops.lean keeps the anchor (Laws/Keeps.lean). -/

namespace Sys2Proof.Machine

variable {α : Type} {p : Anchor → α} {s0 s : State}

theorem wr_keeps (h : Keeps p s0 s) (off : Nat) (v : Word) : Keeps p s0 (wr s off v) :=
  h.updRegs (SMap.sorted_put off v)

theorem bumpN_keeps (h : Keeps p s0 s) (off : Nat) (n : Nat) :
    Keeps p s0 (bumpN s off n) := by
  unfold bumpN
  try dsimp only
  repeat' (
    first
      | with_reducible exact h | with_reducible rfl | with_reducible apply wr_keeps
      | (with_reducible apply foldl_keeps; intro _ _ h) | simp only [Keeps.upd_iff] | with_reducible apply Keeps.ite
      | split)

theorem bump_keeps (h : Keeps p s0 s) (off : Nat) :
    Keeps p s0 (bump s off) := by
  unfold bump
  try dsimp only
  repeat' (
    first
      | with_reducible exact h | with_reducible rfl | with_reducible apply bumpN_keeps
      | (with_reducible apply foldl_keeps; intro _ _ h) | simp only [Keeps.upd_iff] | with_reducible apply Keeps.ite
      | split)

theorem zeroRegs_keeps (h : Keeps p s0 s) (offs : List Nat) : Keeps p s0 (zeroRegs s offs) :=
  h.updRegs (SMap.sorted_foldl_put offs id (fun _ => 0#32))

theorem emit_keeps (h : Keeps p s0 s) (o : Output) : Keeps p s0 (emit s o) := by
  unfold emit
  try dsimp only
  repeat' (
    first
      | with_reducible exact h | with_reducible rfl | (with_reducible apply foldl_keeps; intro _ _ h)
      | simp only [Keeps.upd_iff] | with_reducible apply Keeps.ite | split | dsimp only)

theorem drawn_keeps (h : Keeps p s0 s) : Keeps p s0 (drawn s) := by
  unfold drawn
  try dsimp only
  repeat' (
    first
      | with_reducible exact h | with_reducible rfl | (with_reducible apply foldl_keeps; intro _ _ h)
      | simp only [Keeps.upd_iff] | with_reducible apply Keeps.ite | split | dsimp only)

theorem signalVector_keeps (h : Keeps p s0 s) (fn : Nat) (vec : Nat) : Keeps p s0 (signalVector s fn vec) := by
  unfold signalVector
  try dsimp only
  repeat' (
    first
      | with_reducible exact h | with_reducible rfl | (with_reducible apply foldl_keeps; intro _ _ h)
      | simp only [Keeps.upd_iff] | with_reducible apply Keeps.ite | split | dsimp only)

theorem signalDevice_keeps (h : Keeps p s0 s) (which : Nat) : Keeps p s0 (signalDevice s which) := by
  unfold signalDevice
  try dsimp only
  repeat' (
    first
      | with_reducible exact h | with_reducible rfl | with_reducible apply signalVector_keeps
      | (with_reducible apply foldl_keeps; intro _ _ h) | with_reducible apply Keeps.ite | split | dsimp only)

theorem setEvent_keeps (h : Keeps p s0 s) (evt : Nat) (bit : Nat) :
    Keeps p s0 (setEvent s evt bit) := by
  unfold setEvent
  try dsimp only
  repeat' (
    first
      | with_reducible exact h | with_reducible rfl | with_reducible apply wr_keeps
      | (with_reducible apply foldl_keeps; intro _ _ h) | simp only [Keeps.upd_iff] | with_reducible apply Keeps.ite
      | split)

theorem logEvent_keeps (h : Keeps p s0 s) (e : EventRec) : Keeps p s0 (logEvent s e) := by
  unfold logEvent
  try dsimp only
  repeat' (
    first
      | with_reducible exact h | with_reducible rfl | with_reducible apply bump_keeps
      | with_reducible apply setEvent_keeps | (with_reducible apply foldl_keeps; intro _ _ h)
      | simp only [Keeps.upd_iff] | with_reducible apply Keeps.ite | split | dsimp only)

theorem sendPldm_keeps (h : Keeps p s0 s) (e : EventRec) : Keeps p s0 (sendPldm s e) := by
  unfold sendPldm
  try dsimp only
  repeat' (
    first
      | with_reducible exact h | with_reducible rfl | with_reducible apply bump_keeps
      | with_reducible apply setEvent_keeps | (with_reducible apply foldl_keeps; intro _ _ h)
      | simp only [Keeps.upd_iff] | with_reducible apply Keeps.ite | split | dsimp only)

theorem raiseAlarms_keeps (h : Keeps p s0 s) (c : Nat) : Keeps p s0 (raiseAlarms s c) := by
  unfold raiseAlarms
  try dsimp only
  repeat' (
    first
      | with_reducible exact h | with_reducible rfl | with_reducible apply emit_keeps
      | (with_reducible apply foldl_keeps; intro _ _ h) | simp only [Keeps.upd_iff] | with_reducible apply Keeps.ite
      | split | dsimp only)

theorem dropAlarms_keeps (h : Keeps p s0 s) (c : Nat) : Keeps p s0 (dropAlarms s c) := by
  unfold dropAlarms
  try dsimp only
  repeat' (
    first
      | with_reducible exact h | with_reducible rfl | with_reducible apply emit_keeps
      | (with_reducible apply foldl_keeps; intro _ _ h) | simp only [Keeps.upd_iff] | with_reducible apply Keeps.ite
      | split | dsimp only)

theorem assertAlert_keeps (h : Keeps p s0 s) (c : EvClass) : Keeps p s0 (assertAlert s c) := by
  unfold assertAlert
  try dsimp only
  repeat' (
    first
      | with_reducible exact h | with_reducible rfl | with_reducible apply raiseAlarms_keeps
      | with_reducible apply wr_keeps | with_reducible apply emit_keeps | with_reducible apply signalDevice_keeps
      | (with_reducible apply foldl_keeps; intro _ _ h) | with_reducible apply Keeps.ite | split | dsimp only)

theorem raise_keeps (h : Keeps p s0 s) (evt : Nat) (bit : Nat) (c : EvClass) (alert : Bool) (pldm : Bool) (t : Nat) :
    Keeps p s0 (raise s evt bit c alert pldm t) := by
  unfold raise
  try dsimp only
  repeat' (
    first
      | with_reducible exact h | with_reducible rfl | with_reducible apply setEvent_keeps
      | with_reducible apply logEvent_keeps | with_reducible apply sendPldm_keeps
      | with_reducible apply assertAlert_keeps | (with_reducible apply foldl_keeps; intro _ _ h)
      | simp only [Keeps.upd_iff] | with_reducible apply Keeps.ite | split)

theorem fenceLog_keeps (h : Keeps p s0 s) (b : Bound) (p_ : Nat) (src : Requester) (addr : Nat) :
    Keeps p s0 (fenceLog s b p_ src addr) := by
  unfold fenceLog
  try dsimp only
  repeat' (
    first
      | with_reducible exact h | with_reducible rfl | (with_reducible apply foldl_keeps; intro _ _ h)
      | with_reducible apply Keeps.updPut | simp only [Keeps.upd_iff] | with_reducible apply Keeps.ite | split)

theorem noteBound_keeps (h : Keeps p s0 s) (b : Bound) : Keeps p s0 (noteBound s b) := by
  unfold noteBound
  try dsimp only
  repeat' (
    first
      | with_reducible exact h | with_reducible rfl | (with_reducible apply foldl_keeps; intro _ _ h)
      | simp only [Keeps.upd_iff] | with_reducible apply Keeps.ite | split | dsimp only)

theorem fenceRefuseN_keeps (h : Keeps p s0 s) (b : Bound) (n : Nat) (p_ : Nat) (src : Requester) (addr : Nat) (t :
    Nat) : Keeps p s0 (fenceRefuseN s b n p_ src addr t) := by
  unfold fenceRefuseN
  try dsimp only
  repeat' (
    first
      | with_reducible exact h | with_reducible rfl | with_reducible apply fenceLog_keeps
      | with_reducible apply bumpN_keeps | with_reducible apply noteBound_keeps | with_reducible apply raise_keeps
      | (with_reducible apply foldl_keeps; intro _ _ h) | with_reducible apply Keeps.ite | split | dsimp only)

theorem fenceRefuse_keeps (h : Keeps p s0 s) (b : Bound) (p_ : Nat) (src : Requester) (addr : Nat) (t : Nat) : Keeps p
    s0 (fenceRefuse s b p_ src addr t) := by
  unfold fenceRefuse
  try dsimp only
  repeat' (
    first
      | with_reducible exact h | with_reducible rfl | with_reducible apply fenceRefuseN_keeps
      | (with_reducible apply foldl_keeps; intro _ _ h) | with_reducible apply Keeps.ite | split | dsimp only)

theorem translate_keeps (h : Keeps p s0 s) (p_ : Nat) (addr : Nat) (n : Nat) : Keeps p s0 (translate s p_ addr n) :=
    by
  unfold translate
  try dsimp only
  repeat' (
    first
      | with_reducible exact h | with_reducible rfl | (with_reducible apply foldl_keeps; intro _ _ h)
      | simp only [Keeps.upd_iff] | with_reducible apply Keeps.ite | split | dsimp only)

theorem Keeps.memHost (h : Keeps p s0 s) (a : Nat) (bs : List Byte) :
    Keeps p s0 { s with mems := { s.mems with host := Mem.writeN 0#8 s.mems.host a bs } } :=
  h.updMems rfl (fun ⟨h1, h2, h3⟩ => ⟨h1, Mem.wf_writeN bs a h2, h3⟩)

theorem hostPacket_keeps (h : Keeps p s0 s) (p_ addr : Nat) (bs : List Byte) (t : Nat) :
    Keeps p s0 (hostPacket s p_ addr bs t) := by
  unfold hostPacket
  dsimp only
  split
  · have h1 := (translate_keeps h p_ addr bs.length).memHost addr bs
    exact ⟨h1.same, h1.wf⟩
  · apply fenceRefuse_keeps
    simpa only [Keeps.upd_iff] using h

theorem hostWrite_keeps (h : Keeps p s0 s) (p_ addr : Nat) (bs : List Byte) (t : Nat) :
    Keeps p s0 (hostWrite s p_ addr bs t) := by
  unfold hostWrite
  split
  · exact h
  · split
    · exact hostPacket_keeps h _ _ _ _
    · apply foldl_keeps
      · intro _ _ h
        exact hostPacket_keeps h _ _ _ _
      · exact h

theorem memWrite_keeps (h : Keeps p s0 s) (a : Nat) (bs : List Byte) : Keeps p s0 (memWrite s a bs) :=
  h.updMems rfl (fun ⟨h1, h2⟩ => ⟨Mem.wf_writeN bs a h1, h2⟩)

theorem spaceWrite_keeps (h : Keeps p s0 s) (host : Bool) (p_ : Nat) (addr : Nat) (bs : List Byte) (t : Nat) : Keeps p
    s0 (spaceWrite s host p_ addr bs t) := by
  unfold spaceWrite
  try dsimp only
  repeat' (
    first
      | with_reducible exact h | with_reducible rfl | with_reducible apply hostWrite_keeps
      | with_reducible apply memWrite_keeps | (with_reducible apply foldl_keeps; intro _ _ h)
      | with_reducible apply Keeps.ite | split | dsimp only)

theorem setQueue_keeps (h : Keeps p s0 s) (q : Nat) (v : Queue) : Keeps p s0 (setQueue s q v) := by
  unfold setQueue
  try dsimp only
  repeat' (
    first
      | with_reducible exact h | with_reducible rfl | (with_reducible apply foldl_keeps; intro _ _ h)
      | simp only [Keeps.upd_iff] | with_reducible apply Keeps.ite | split | dsimp only)

theorem setPort_keeps (h : Keeps p s0 s) (n : Nat) (v : Port) : Keeps p s0 (setPort s n v) := by
  unfold setPort
  try dsimp only
  repeat' (
    first
      | with_reducible exact h | with_reducible rfl | (with_reducible apply foldl_keeps; intro _ _ h)
      | simp only [Keeps.upd_iff] | with_reducible apply Keeps.ite | split | dsimp only)

theorem setItem_keeps (h : Keeps p s0 s) (i : Nat) (v : Item) : Keeps p s0 (setItem s i v) := by
  unfold setItem
  try dsimp only
  repeat' (
    first
      | with_reducible exact h | with_reducible rfl | (with_reducible apply foldl_keeps; intro _ _ h)
      | simp only [Keeps.upd_iff] | with_reducible apply Keeps.ite | split | dsimp only)

theorem addGround_keeps (h : Keeps p s0 s) (i : Nat) (st : Status) (d : Nat) : Keeps p s0 (addGround s i st d) := by
  unfold addGround
  try dsimp only
  repeat' (
    first
      | with_reducible exact h | with_reducible rfl | with_reducible apply setItem_keeps
      | (with_reducible apply foldl_keeps; intro _ _ h) | with_reducible apply Keeps.ite | split | dsimp only)

theorem setPhase_keeps (h : Keeps p s0 s) (ph : Nat) : Keeps p s0 (setPhase s ph) := by
  unfold setPhase
  try dsimp only
  repeat' (
    first
      | with_reducible exact h | with_reducible rfl | with_reducible apply signalDevice_keeps
      | (with_reducible apply foldl_keeps; intro _ _ h) | simp only [Keeps.upd_iff] | with_reducible apply Keeps.ite
      | split | dsimp only)

end Sys2Proof.Machine
end

