-- ==== Sys2Proof/Laws/KeepsRecords.lean ====
section
/-! SUPPORT. Every operation of Machine/Records.lean keeps the anchor (Laws/Keeps.lean). -/

namespace Sys2Proof.Machine

variable {α : Type} {p : Anchor → α} {s0 s : State}

theorem issueRead_keeps (h : Keeps p s0 s) (u : ReadUse) (addr : Nat) (len : Nat) : Keeps p s0 (issueRead s u addr
    len) := by
  unfold issueRead
  try dsimp only
  repeat' (
    first
      | with_reducible exact h | with_reducible rfl | with_reducible apply translate_keeps
      | (with_reducible apply foldl_keeps; intro _ _ h) | simp only [Keeps.upd_iff] | with_reducible apply Keeps.ite
      | split | dsimp only)

theorem issueWaiting_keeps (h : Keeps p s0 s) : Keeps p s0 (issueWaiting s) := by
  unfold issueWaiting
  try dsimp only
  repeat' (
    first
      | with_reducible exact h | with_reducible rfl | with_reducible apply issueRead_keeps
      | (with_reducible apply foldl_keeps; intro _ _ h) | simp only [Keeps.upd_iff] | with_reducible apply Keeps.ite
      | split | dsimp only)

theorem abandonReads_keeps (h : Keeps p s0 s) (p_ : ReadUse → Bool) : Keeps p s0 (abandonReads s p_) := by
  unfold abandonReads
  try dsimp only
  repeat' (
    first
      | with_reducible exact h | with_reducible rfl | (with_reducible apply foldl_keeps; intro _ _ h)
      | simp only [Keeps.upd_iff] | with_reducible apply Keeps.ite | split | dsimp only)

theorem countStatus_keeps (h : Keeps p s0 s) (st : Status) (t : Nat) : Keeps p s0 (countStatus s st t) := by
  unfold countStatus
  try dsimp only
  repeat' (
    first
      | with_reducible exact h | with_reducible rfl | with_reducible apply raise_keeps
      | with_reducible apply bump_keeps | (with_reducible apply foldl_keeps; intro _ _ h)
      | with_reducible apply Keeps.ite | split | dsimp only)

theorem writeRec_keeps (h : Keeps p s0 s) (q : Nat) (r : Rec) (t : Nat) : Keeps p s0 (writeRec s q r t) := by
  unfold writeRec
  try dsimp only
  repeat' (
    first
      | with_reducible exact h | with_reducible rfl | with_reducible apply spaceWrite_keeps
      | with_reducible apply fenceRefuse_keeps | with_reducible apply setQueue_keeps
      | with_reducible apply signalVector_keeps | (with_reducible apply foldl_keeps; intro _ _ h)
      | with_reducible apply Keeps.ite | split | dsimp only)

theorem closeEntry_keeps (h : Keeps p s0 s) (q : Nat) (i : Nat) (d : Desc) (st : Status) (detail : Nat) (late : Bool)
    (invalid : Bool) (inherited : Bool) (t : Nat) : Keeps p s0 (closeEntry s q i d st detail late invalid inherited t)
    := by
  unfold closeEntry
  try dsimp only
  repeat' (
    first
      | with_reducible exact h | with_reducible rfl | with_reducible apply setQueue_keeps
      | with_reducible apply countStatus_keeps | with_reducible apply writeRec_keeps
      | (with_reducible apply foldl_keeps; intro _ _ h) | with_reducible apply Keeps.ite | split | dsimp only)

theorem fetchOne_keeps (h : Keeps p s0 s) (q : Nat) (t : Nat) : Keeps p s0 (fetchOne s q t) := by
  unfold fetchOne
  try dsimp only
  repeat' (
    first
      | with_reducible exact h | with_reducible rfl | with_reducible apply setQueue_keeps
      | with_reducible apply issueRead_keeps | with_reducible apply closeEntry_keeps
      | with_reducible apply fenceRefuse_keeps | with_reducible apply drawn_keeps
      | (with_reducible apply foldl_keeps; intro _ _ h) | with_reducible apply Keeps.ite | split | dsimp only)

theorem startFetch_keeps (h : Keeps p s0 s) (q : Nat) (t : Nat) : Keeps p s0 (startFetch s q t) := by
  unfold startFetch
  try dsimp only
  repeat' (
    first
      | with_reducible exact h | with_reducible rfl | with_reducible apply fetchOne_keeps
      | (with_reducible apply foldl_keeps; intro _ _ h) | with_reducible apply Keeps.ite | split | dsimp only)

theorem completeEntry_keeps (h : Keeps p s0 s) (q : Nat) (i : Nat) (d : Desc) (st : Status) (detail : Nat) (late :
    Bool) (invalid : Bool) (inherited : Bool) (t : Nat) : Keeps p s0 (completeEntry s q i d st detail late invalid
    inherited t) := by
  unfold completeEntry
  try dsimp only
  repeat' (
    first
      | with_reducible exact h | with_reducible rfl | with_reducible apply startFetch_keeps
      | with_reducible apply closeEntry_keeps | (with_reducible apply foldl_keeps; intro _ _ h)
      | with_reducible apply Keeps.ite | split | dsimp only)

theorem completeStanding_keeps (h : Keeps p s0 s) (e : Standing) (n : Nat) (st : Status) (detail : Nat) (late : Bool)
    (invalid : Bool) (inherited : Bool) (t : Nat) : Keeps p s0 (completeStanding s e n st detail late invalid
    inherited t) := by
  unfold completeStanding
  try dsimp only
  repeat' (
    first
      | with_reducible exact h | with_reducible rfl | with_reducible apply countStatus_keeps
      | with_reducible apply writeRec_keeps | with_reducible apply bump_keeps
      | (with_reducible apply foldl_keeps; intro _ _ h) | simp only [Keeps.upd_iff] | with_reducible apply Keeps.ite
      | split | dsimp only)

theorem writeAborted_keeps (h : Keeps p s0 s) (q : Nat) (p_ : PendingRec) (t : Nat) : Keeps p s0 (writeAborted s q p_
    t) := by
  unfold writeAborted
  try dsimp only
  repeat' (
    first
      | with_reducible exact h | with_reducible rfl | with_reducible apply writeRec_keeps
      | with_reducible apply countStatus_keeps | (with_reducible apply foldl_keeps; intro _ _ h)
      | with_reducible apply Keeps.ite | split | dsimp only)

end Sys2Proof.Machine
end

