-- ==== Sys2Proof/Laws/KeepsSupervisor.lean ====
section
/-! SUPPORT. Every operation of Machine/Supervisor.lean keeps the anchor (Laws/Keeps.lean). -/

namespace Sys2Proof.Machine

variable {α : Type} {p : Anchor → α} {s0 s : State}

theorem setSup_keeps (h : Keeps p s0 s) (u : Sup) : Keeps p s0 (setSup s u) := by
  unfold setSup
  try dsimp only
  repeat' (
    first
      | with_reducible exact h | with_reducible rfl | (with_reducible apply foldl_keeps; intro _ _ h)
      | simp only [Keeps.upd_iff] | with_reducible apply Keeps.ite | split | dsimp only)

theorem raiseIn_keeps (h : Keeps p s0 s) (block : Nat) (alert : Bool) (t : Nat) : Keeps p s0 (raiseIn s block alert t)
    := by
  unfold raiseIn
  try dsimp only
  repeat' (
    first
      | with_reducible exact h | with_reducible rfl | with_reducible apply sendPldm_keeps
      | with_reducible apply logEvent_keeps | with_reducible apply drawn_keeps
      | with_reducible apply assertAlert_keeps | (with_reducible apply foldl_keeps; intro _ _ h)
      | with_reducible apply Keeps.ite | split | dsimp only)

theorem raiseSup_keeps (h : Keeps p s0 s) (alert : Bool) (t : Nat) : Keeps p s0 (raiseSup s alert t) := by
  unfold raiseSup
  try dsimp only
  repeat' (
    first
      | with_reducible exact h | with_reducible rfl | with_reducible apply raiseIn_keeps
      | (with_reducible apply foldl_keeps; intro _ _ h) | with_reducible apply Keeps.ite | split | dsimp only)

theorem Keeps.memsSup (h : Keeps p s0 s) (bs : List Byte) :
    Keeps p s0 { s with mems := { s.mems with supData := Mem.writeN 0#8 [] 0 bs } } :=
  h.updMems rfl (fun ⟨h1, h2, h3, h4, h5, _, h7⟩ => ⟨h1, h2, h3, h4, h5, Mem.wf_writeN _ _ (by decide), h7⟩)

theorem supReset_keeps (h : Keeps p s0 s) (cause : Nat) : Keeps p s0 (supReset s cause) := by
  have h1 := fun b => Keeps.memsSup (setSup_keeps h b) (Mem.readN 0#8 s.mems.supCode s.sup.codeLen s.sup.dataLen)
  exact bump_keeps (wr_keeps (h1 _) _ _) _

theorem declareCheckLost_keeps (h : Keeps p s0 s) (t : Nat) : Keeps p s0 (declareCheckLost s t) := by
  unfold declareCheckLost
  try dsimp only
  repeat' (
    first
      | with_reducible exact h | with_reducible rfl | with_reducible apply raiseSup_keeps
      | with_reducible apply setSup_keeps | (with_reducible apply foldl_keeps; intro _ _ h)
      | with_reducible apply Keeps.ite | split | dsimp only)

theorem execComparatorMismatch_keeps (t : Nat) : KeepsOut p s (execComparatorMismatch t s) := by
  have h : Keeps p s s := Keeps.start
  unfold execComparatorMismatch
  try dsimp only
  repeat' (
    first
      | with_reducible exact h | with_reducible rfl | with_reducible exact KeepsOut.fault _
      | with_reducible apply KeepsOut.next | with_reducible apply raiseSup_keeps
      | with_reducible apply supReset_keeps | with_reducible apply bump_keeps
      | (with_reducible apply foldl_keeps; intro _ _ h) | with_reducible apply Keeps.ite
      | with_reducible apply KeepsOut.ite | split | dsimp only)

theorem execDelayParityError_keeps (t : Nat) : KeepsOut p s (execDelayParityError t s) := by
  have h : Keeps p s s := Keeps.start
  unfold execDelayParityError
  try dsimp only
  repeat' (
    first
      | with_reducible exact h | with_reducible rfl | with_reducible exact KeepsOut.fault _
      | with_reducible apply KeepsOut.next | with_reducible apply declareCheckLost_keeps
      | with_reducible apply wr_keeps | (with_reducible apply foldl_keeps; intro _ _ h)
      | with_reducible apply Keeps.ite | with_reducible apply KeepsOut.ite | split | dsimp only)

theorem execComparatorSelfTest_keeps (lane : Option Nat) (parityMissed : Bool) (t : Nat) : KeepsOut p s
    (execComparatorSelfTest lane parityMissed t s) := by
  have h : Keeps p s s := Keeps.start
  unfold execComparatorSelfTest
  try dsimp only
  repeat' (
    first
      | with_reducible exact h | with_reducible rfl | with_reducible exact KeepsOut.fault _
      | with_reducible apply KeepsOut.next | with_reducible apply wr_keeps
      | with_reducible apply declareCheckLost_keeps | (with_reducible apply foldl_keeps; intro _ _ h)
      | with_reducible apply Keeps.ite | with_reducible apply KeepsOut.ite | split | dsimp only)

theorem execWatchdogFire_keeps (mismatch : Bool) (t : Nat) : KeepsOut p s (execWatchdogFire mismatch t s) := by
  have h : Keeps p s s := Keeps.start
  unfold execWatchdogFire
  try dsimp only
  repeat' (
    first
      | with_reducible exact h | with_reducible rfl | with_reducible exact KeepsOut.fault _
      | with_reducible apply KeepsOut.next | with_reducible apply bump_keeps | with_reducible apply raiseSup_keeps
      | with_reducible apply supReset_keeps | (with_reducible apply foldl_keeps; intro _ _ h)
      | with_reducible apply Keeps.ite | with_reducible apply KeepsOut.ite | split | dsimp only)

theorem execWatchdogKick_keeps (v : Word) : KeepsOut p s (execWatchdogKick v s) := by
  have h : Keeps p s s := Keeps.start
  unfold execWatchdogKick
  try dsimp only
  repeat' (
    first
      | with_reducible exact h | with_reducible rfl | with_reducible exact KeepsOut.fault _
      | with_reducible apply KeepsOut.next | with_reducible apply setSup_keeps | with_reducible apply bump_keeps
      | (with_reducible apply foldl_keeps; intro _ _ h) | with_reducible apply Keeps.ite
      | with_reducible apply KeepsOut.ite | split | dsimp only)

theorem execSupervisorEntry_keeps : KeepsOut p s (execSupervisorEntry s) := by
  have h : Keeps p s s := Keeps.start
  unfold execSupervisorEntry
  try dsimp only
  repeat' (
    first
      | with_reducible exact h | with_reducible rfl | with_reducible exact KeepsOut.fault _
      | with_reducible apply KeepsOut.next | with_reducible apply setSup_keeps
      | (with_reducible apply foldl_keeps; intro _ _ h) | with_reducible apply Keeps.ite
      | with_reducible apply KeepsOut.ite | split | dsimp only)

theorem execSupRelease_keeps : KeepsOut p s (execSupRelease s) := by
  have h : Keeps p s s := Keeps.start
  unfold execSupRelease
  try dsimp only
  repeat' (
    first
      | with_reducible exact h | with_reducible rfl | with_reducible exact KeepsOut.fault _
      | with_reducible apply KeepsOut.next | with_reducible apply supReset_keeps | with_reducible apply setSup_keeps
      | (with_reducible apply foldl_keeps; intro _ _ h) | with_reducible apply Keeps.ite
      | with_reducible apply KeepsOut.ite | split | dsimp only)

theorem restartFailed_keeps (h : Keeps p s0 s) (t : Nat) : Keeps p s0 (restartFailed s t) := by
  unfold restartFailed
  try dsimp only
  repeat' (
    first
      | with_reducible exact h | with_reducible rfl | with_reducible apply supReset_keeps
      | with_reducible apply setSup_keeps | with_reducible apply raiseSup_keeps
      | (with_reducible apply foldl_keeps; intro _ _ h) | with_reducible apply Keeps.ite | split | dsimp only)

theorem execSupervisorBusError_keeps (addr : Nat) (t : Nat) : KeepsOut p s (execSupervisorBusError addr t s) := by
  have h : Keeps p s s := Keeps.start
  unfold execSupervisorBusError
  try dsimp only
  repeat' (
    first
      | with_reducible exact h | with_reducible rfl | with_reducible exact KeepsOut.fault _
      | with_reducible apply KeepsOut.next | with_reducible apply emit_keeps
      | with_reducible apply fenceRefuse_keeps | (with_reducible apply foldl_keeps; intro _ _ h)
      | with_reducible apply Keeps.ite | with_reducible apply KeepsOut.ite | split | dsimp only)

theorem badAccess_keeps (h : Keeps p s0 s) (t : Nat) : Keeps p s0 (badAccess s t) := by
  unfold badAccess
  try dsimp only
  repeat' (
    first
      | with_reducible exact h | with_reducible rfl | with_reducible apply raise_keeps
      | with_reducible apply bump_keeps | (with_reducible apply foldl_keeps; intro _ _ h)
      | with_reducible apply Keeps.ite | split | dsimp only)

theorem execBarRefusedAccess_keeps (read : Bool) (bytes : Nat) (t : Nat) : KeepsOut p s (execBarRefusedAccess read
    bytes t s) := by
  have h : Keeps p s s := Keeps.start
  unfold execBarRefusedAccess
  try dsimp only
  repeat' (
    first
      | with_reducible exact h | with_reducible rfl | with_reducible exact KeepsOut.fault _
      | with_reducible apply KeepsOut.next | with_reducible apply badAccess_keeps | with_reducible apply emit_keeps
      | (with_reducible apply foldl_keeps; intro _ _ h) | with_reducible apply Keeps.ite
      | with_reducible apply KeepsOut.ite | split | dsimp only)

theorem execFencePartActiveWrite_keeps (v : Word) (t : Nat) : KeepsOut p s (execFencePartActiveWrite v t s) := by
  have h : Keeps p s s := Keeps.start
  unfold execFencePartActiveWrite
  try dsimp only
  repeat' (
    first
      | with_reducible exact h | with_reducible rfl | with_reducible exact KeepsOut.fault _
      | with_reducible apply KeepsOut.next | with_reducible apply fenceRefuse_keeps | with_reducible apply wr_keeps
      | (with_reducible apply foldl_keeps; intro _ _ h) | simp only [Keeps.upd_iff] | with_reducible apply Keeps.ite
      | with_reducible apply KeepsOut.ite | split | dsimp only)

theorem execEgressCapWrite_keeps (p_ : Nat) (v : Word) (t : Nat) : KeepsOut p s (execEgressCapWrite p_ v t s) := by
  have h : Keeps p s s := Keeps.start
  unfold execEgressCapWrite
  try dsimp only
  repeat' (
    first
      | with_reducible exact h | with_reducible rfl | with_reducible exact KeepsOut.fault _
      | with_reducible apply KeepsOut.next | with_reducible apply wr_keeps | with_reducible apply fenceRefuse_keeps
      | (with_reducible apply foldl_keeps; intro _ _ h) | with_reducible apply Keeps.ite
      | with_reducible apply KeepsOut.ite | split | dsimp only)

theorem execTableReloadComplete_keeps (entry : Nat) (passed : Bool) : KeepsOut p s (execTableReloadComplete entry
    passed s) := by
  have h : Keeps p s s := Keeps.start
  unfold execTableReloadComplete
  try dsimp only
  repeat' (
    first
      | with_reducible exact h | with_reducible rfl | with_reducible exact KeepsOut.fault _
      | with_reducible apply KeepsOut.next | (with_reducible apply foldl_keeps; intro _ _ h)
      | simp only [Keeps.upd_iff] | with_reducible apply Keeps.ite | with_reducible apply KeepsOut.ite | split
      | dsimp only)

theorem reportReject_keeps (h : Keeps p s0 s) (log0 : Word) (log1 : Word) (bit : Nat) (c : EvClass) (t : Nat) :
    Keeps p s0 (reportReject s log0 log1 bit c t) := by
  unfold reportReject
  try dsimp only
  repeat' (
    first
      | with_reducible exact h | with_reducible rfl | with_reducible apply setEvent_keeps
      | with_reducible apply raise_keeps | (with_reducible apply foldl_keeps; intro _ _ h)
      | with_reducible apply Keeps.updPut | simp only [Keeps.upd_iff] | with_reducible apply Keeps.ite | split)

theorem packetReject_keeps (h : Keeps p s0 s) (point : Nat) (reason : Nat) (part : Nat) (key : Nat) (src : Nat) (opTag
    : Nat) (t : Nat) : Keeps p s0 (packetReject s point reason part key src opTag t) := by
  unfold packetReject
  try dsimp only
  repeat' (
    first
      | with_reducible exact h | with_reducible rfl | with_reducible apply bump_keeps
      | with_reducible apply reportReject_keeps | (with_reducible apply foldl_keeps; intro _ _ h)
      | with_reducible apply Keeps.ite | split | dsimp only)

theorem syncReject_keeps (h : Keeps p s0 s) (issuerPart : Nat) (owner : Nat) (flag : Nat) (t : Nat) : Keeps p s0
    (syncReject s issuerPart owner flag t) := by
  unfold syncReject
  try dsimp only
  repeat' (
    first
      | with_reducible exact h | with_reducible rfl | with_reducible apply reportReject_keeps
      | with_reducible apply bump_keeps | (with_reducible apply foldl_keeps; intro _ _ h)
      | with_reducible apply Keeps.ite | split | dsimp only)

end Sys2Proof.Machine
end

