-- ==== Sys2Proof/Laws/KeepsSend.lean ====
section
/-! SUPPORT. Every operation of Machine/Send.lean keeps the anchor (Laws/Keeps.lean). -/

namespace Sys2Proof.Machine

variable {α : Type} {p : Anchor → α} {s0 s : State}

theorem passRx_keeps (h : Keeps p s0 s) (n : Nat) (p_ : Packet) : Keeps p s0 (passRx s n p_) := by
  unfold passRx
  try dsimp only
  repeat' (
    first
      | with_reducible exact h | with_reducible rfl | with_reducible apply setPort_keeps
      | (with_reducible apply foldl_keeps; intro _ _ h) | with_reducible apply Keeps.ite | split | dsimp only)

theorem transmit_keeps (h : Keeps p s0 s) (n : Nat) (w : TxWait) : Keeps p s0 (transmit s n w) := by
  unfold transmit
  try dsimp only
  repeat' (
    first
      | with_reducible exact h | with_reducible rfl | with_reducible apply setPort_keeps
      | with_reducible apply passRx_keeps | with_reducible apply emit_keeps
      | (with_reducible apply foldl_keeps; intro _ _ h) | simp only [Keeps.upd_iff] | with_reducible apply Keeps.ite
      | split | dsimp only)

theorem preemptSpoke_keeps (h : Keeps p s0 s) (i : Nat) : Keeps p s0 (preemptSpoke s i) := by
  unfold preemptSpoke
  try dsimp only
  repeat' (
    first
      | with_reducible exact h | with_reducible rfl | with_reducible apply raise_keeps
      | with_reducible apply wr_keeps | with_reducible apply bump_keeps
      | (with_reducible apply foldl_keeps; intro _ _ h) | simp only [Keeps.upd_iff] | with_reducible apply Keeps.ite
      | split | dsimp only)

theorem preempt_keeps (h : Keeps p s0 s) (i : Nat) (hub : Nat) (b : Nat) : Keeps p s0 (preempt s i hub b) := by
  unfold preempt
  try dsimp only
  repeat' (
    first
      | with_reducible exact h | with_reducible rfl | with_reducible apply preemptSpoke_keeps
      | (with_reducible apply foldl_keeps; intro _ _ h) | with_reducible apply Keeps.ite | split | dsimp only)

theorem drainPort_keeps (h : Keeps p s0 s) (n k : Nat) : Keeps p s0 (drainPort s n k) := by
  induction k generalizing s with
  | zero => exact h
  | succ k ih =>
    unfold drainPort
    split
    · exact h
    · refine ih (transmit_keeps (setPort_keeps ?_ n _) n _)
      split
      · exact preempt_keeps h _ _ _
      · exact h

theorem toPort_keeps (h : Keeps p s0 s) (n : Nat) (w : TxWait) : Keeps p s0 (toPort s n w) := by
  unfold toPort
  try dsimp only
  repeat' (
    first
      | with_reducible exact h | with_reducible rfl | with_reducible apply setPort_keeps
      | with_reducible apply drainPort_keeps | (with_reducible apply foldl_keeps; intro _ _ h)
      | with_reducible apply Keeps.ite | split | dsimp only)

theorem routeOut_keeps (h : Keeps p s0 s) (die : Nat) (w : TxWait) : Keeps p s0 (routeOut s die w) := by
  unfold routeOut
  try dsimp only
  repeat' (
    first
      | with_reducible exact h | with_reducible rfl | with_reducible apply bump_keeps
      | with_reducible apply toPort_keeps | (with_reducible apply foldl_keeps; intro _ _ h)
      | with_reducible apply Keeps.ite | split | dsimp only)

theorem sendOwn_keeps (h : Keeps p s0 s) (q : Nat) (die : Nat) (p_ : Packet) (t : Nat) : Keeps p s0 (sendOwn s q die
    p_ t) := by
  unfold sendOwn
  try dsimp only
  repeat' (
    first
      | with_reducible exact h | with_reducible rfl | with_reducible apply routeOut_keeps
      | with_reducible apply fenceRefuse_keeps | (with_reducible apply foldl_keeps; intro _ _ h)
      | simp only [Keeps.upd_iff] | with_reducible apply Keeps.ite | split | dsimp only)

theorem sendCtl_keeps (h : Keeps p s0 s) (dst : Nat) (opTag : Nat) (m : Msg) : Keeps p s0 (sendCtl s dst opTag m) :=
    by
  unfold sendCtl
  try dsimp only
  repeat' (
    first
      | with_reducible exact h | with_reducible rfl | with_reducible apply routeOut_keeps
      | (with_reducible apply foldl_keeps; intro _ _ h) | with_reducible apply Keeps.ite | split | dsimp only)

theorem flood_keeps (h : Keeps p s0 s) (except : Option Nat) (m : Msg) : Keeps p s0 (flood s except m) := by
  unfold flood
  try dsimp only
  repeat' (
    first
      | with_reducible exact h | with_reducible rfl | with_reducible apply toPort_keeps
      | (with_reducible apply foldl_keeps; intro _ _ h) | with_reducible apply Keeps.ite | split | dsimp only)

end Sys2Proof.Machine
end

