-- ==== Sys2Proof/Laws/KeepsGroups.lean ====
section
/-! SUPPORT. Every operation of Machine/Groups.lean keeps the anchor (Laws/Keeps.lean). -/

namespace Sys2Proof.Machine

variable {α : Type} {p : Anchor → α} {s0 s : State}

theorem setSpoke_keeps (h : Keeps p s0 s) (i : Nat) (p_ : Spoke) : Keeps p s0 (setSpoke s i p_) := by
  unfold setSpoke
  try dsimp only
  repeat' (
    first
      | with_reducible exact h | with_reducible rfl | (with_reducible apply foldl_keeps; intro _ _ h)
      | simp only [Keeps.upd_iff] | with_reducible apply Keeps.ite | split | dsimp only)

theorem setOp_keeps (h : Keeps p s0 s) (i : Nat) (p_ : Spoke) (op : CollOp) : Keeps p s0 (setOp s i p_ op) := by
  unfold setOp
  try dsimp only
  repeat' (
    first
      | with_reducible exact h | with_reducible rfl | with_reducible apply setSpoke_keeps
      | (with_reducible apply foldl_keeps; intro _ _ h) | with_reducible apply Keeps.ite | split | dsimp only)

theorem notePeak_keeps (h : Keeps p s0 s) (stream : Nat) : Keeps p s0 (notePeak s stream) := by
  unfold notePeak
  simp only [Keeps.upd_iff]
  exact h

end Sys2Proof.Machine
end

