-- ==== Sys2Proof/Laws/KeepsLedgerBase.lean ====
section
/-! SUPPORT. Every operation of Machine/LedgerBase.lean keeps the anchor (Laws/Keeps.lean). -/

namespace Sys2Proof.Machine

variable {α : Type} {p : Anchor → α} {s0 s : State}

theorem setLdg_keeps (h : Keeps p s0 s) (l : Ledger) (h1 : l.parts = s.ledger.parts) (h2 : l.models = s.ledger.models) :
    Keeps p s0 (setLdg s l) := by
  unfold setLdg
  simpa only [Keeps.upd_iff, h1, h2] using h

theorem setSlot_keeps (h : Keeps p s0 s) (k : Nat) (v : Slot) : Keeps p s0 (setSlot s k v) := by
  unfold setSlot
  try dsimp only
  repeat' (
    first
      | with_reducible exact h | with_reducible rfl | with_reducible apply setLdg_keeps
      | (with_reducible apply foldl_keeps; intro _ _ h) | with_reducible apply Keeps.ite | split | rfl | dsimp only)

theorem setRun_keeps (h : Keeps p s0 s) (m : Nat) (r : ModelRun) : Keeps p s0 (setRun s m r) := by
  unfold setRun
  try dsimp only
  repeat' (
    first
      | with_reducible exact h | with_reducible rfl | with_reducible apply setLdg_keeps
      | (with_reducible apply foldl_keeps; intro _ _ h) | with_reducible apply Keeps.ite | split | rfl | dsimp only)

theorem sendUpdate_keeps (h : Keeps p s0 s) (m : Nat) (k : Nat) (st : Nat) (masked : Bool) : Keeps p s0 (sendUpdate s
    m k st masked) := by
  unfold sendUpdate
  try dsimp only
  repeat' (
    first
      | with_reducible exact h | with_reducible rfl | with_reducible apply sendCtl_keeps
      | (with_reducible apply foldl_keeps; intro _ _ h) | with_reducible apply Keeps.ite | split | dsimp only)

theorem setSlotSt_keeps (h : Keeps p s0 s) (k : Nat) (st : Nat) : Keeps p s0 (setSlotSt s k st) := by
  unfold setSlotSt
  try dsimp only
  repeat' (
    first
      | with_reducible exact h | with_reducible rfl | with_reducible apply sendUpdate_keeps
      | with_reducible apply setSlot_keeps | (with_reducible apply foldl_keeps; intro _ _ h)
      | with_reducible apply Keeps.ite | split | dsimp only)

theorem releasePages_keeps (h : Keeps p s0 s) (k : Nat) : Keeps p s0 (releasePages s k) := by
  unfold releasePages
  try dsimp only
  repeat' (
    first
      | with_reducible exact h | with_reducible rfl | with_reducible apply setSlot_keeps
      | with_reducible apply setLdg_keeps | (with_reducible apply foldl_keeps; intro _ _ h)
      | with_reducible apply Keeps.ite | split | rfl | dsimp only)

theorem takePages_keeps (h : Keeps p s0 s) (k : Nat) (l : List Nat) : Keeps p s0 (takePages s k l) := by
  unfold takePages
  try dsimp only
  repeat' (
    first
      | with_reducible exact h | with_reducible rfl | with_reducible apply setSlot_keeps
      | with_reducible apply setLdg_keeps | (with_reducible apply foldl_keeps; intro _ _ h)
      | with_reducible apply Keeps.ite | split | rfl | dsimp only)

theorem freeSlot_keeps (h : Keeps p s0 s) (k : Nat) : Keeps p s0 (freeSlot s k) := by
  unfold freeSlot
  try dsimp only
  repeat' (
    first
      | with_reducible exact h | with_reducible rfl | with_reducible apply releasePages_keeps
      | with_reducible apply sendUpdate_keeps | with_reducible apply setLdg_keeps
      | (with_reducible apply foldl_keeps; intro _ _ h) | with_reducible apply Keeps.ite | split | rfl | dsimp only)

theorem endControl_keeps (h : Keeps p s0 s) (c : Nat × Nat × Desc) (steps : Nat) (st : Status) (d : Nat) (t : Nat) :
    Keeps p s0 (endControl s c steps st d t) := by
  unfold endControl
  try dsimp only
  repeat' (
    first
      | with_reducible exact h | with_reducible rfl | with_reducible apply completeEntry_keeps
      | (with_reducible apply foldl_keeps; intro _ _ h) | with_reducible apply Keeps.ite | split | dsimp only)

theorem endRequest_keeps (h : Keeps p s0 s) (k : Nat) (st : Status) (d : Nat) (t : Nat) : Keeps p s0 (endRequest s k
    st d t) := by
  unfold endRequest
  try dsimp only
  repeat' (
    first
      | with_reducible exact h | with_reducible rfl | with_reducible apply freeSlot_keeps
      | with_reducible apply abandonReads_keeps | with_reducible apply endControl_keeps
      | with_reducible apply completeEntry_keeps | (with_reducible apply foldl_keeps; intro _ _ h)
      | with_reducible apply Keeps.ite | split | dsimp only)

theorem beginPause_keeps (h : Keeps p s0 s) (k : Nat) : Keeps p s0 (beginPause s k) := by
  unfold beginPause
  try dsimp only
  repeat' (
    first
      | with_reducible exact h | with_reducible rfl | with_reducible apply setSlotSt_keeps
      | with_reducible apply setSlot_keeps | (with_reducible apply foldl_keeps; intro _ _ h)
      | with_reducible apply Keeps.ite | split | dsimp only)

theorem settleSlot_keeps (h : Keeps p s0 s) (k : Nat) (t : Nat) : Keeps p s0 (settleSlot s k t) := by
  unfold settleSlot
  try dsimp only
  repeat' (
    first
      | with_reducible exact h | with_reducible rfl | with_reducible apply endRequest_keeps
      | with_reducible apply beginPause_keeps | (with_reducible apply foldl_keeps; intro _ _ h)
      | with_reducible apply Keeps.ite | split | dsimp only)

theorem stepOver_keeps (h : Keeps p s0 s) (m : Nat) (t : Nat) : Keeps p s0 (stepOver s m t) := by
  unfold stepOver
  try dsimp only
  repeat' (
    first
      | with_reducible exact h | with_reducible rfl | with_reducible apply setRun_keeps
      | with_reducible apply settleSlot_keeps | (with_reducible apply foldl_keeps; intro _ _ h)
      | with_reducible apply Keeps.ite | split | dsimp only)

theorem tellDecode_keeps (h : Keeps p s0 s) (k : Nat) (st : Status) (d : Nat) : Keeps p s0 (tellDecode s k st d) := by
  unfold tellDecode
  try dsimp only
  repeat' (
    first
      | with_reducible exact h | with_reducible rfl | with_reducible apply sendCtl_keeps
      | (with_reducible apply foldl_keeps; intro _ _ h) | with_reducible apply Keeps.ite | split | dsimp only)

theorem stepFailed_keeps (h : Keeps p s0 s) (m : Nat) (rows : List Nat) (isStep : Bool) (st : Status) (d : Nat) (t :
    Nat) : Keeps p s0 (stepFailed s m rows isStep st d t) := by
  unfold stepFailed
  try dsimp only
  repeat' (
    first
      | with_reducible exact h | with_reducible rfl | with_reducible apply raise_keeps
      | with_reducible apply bump_keeps | with_reducible apply setRun_keeps | with_reducible apply stepOver_keeps
      | with_reducible apply settleSlot_keeps | with_reducible apply endRequest_keeps
      | with_reducible apply tellDecode_keeps | (with_reducible apply foldl_keeps; intro _ _ h)
      | with_reducible apply Keeps.ite | split | dsimp only)

theorem pauseFailed_keeps (h : Keeps p s0 s) (k : Nat) (st : Status) (d : Nat) (t : Nat) : Keeps p s0 (pauseFailed s k
    st d t) := by
  unfold pauseFailed
  try dsimp only
  repeat' (
    first
      | with_reducible exact h | with_reducible rfl | with_reducible apply endControl_keeps
      | with_reducible apply setSlotSt_keeps | with_reducible apply setSlot_keeps
      | (with_reducible apply foldl_keeps; intro _ _ h) | with_reducible apply Keeps.ite | split | dsimp only)

theorem ledgerItemFailed_keeps (h : Keeps p s0 s) (src : ItemSrc) (st : Status) (d : Nat) (t : Nat) : Keeps p s0
    (ledgerItemFailed s src st d t) := by
  unfold ledgerItemFailed
  try dsimp only
  repeat' (
    first
      | with_reducible exact h | with_reducible rfl | with_reducible apply stepFailed_keeps
      | with_reducible apply pauseFailed_keeps | (with_reducible apply foldl_keeps; intro _ _ h)
      | with_reducible apply Keeps.ite | split | dsimp only)

end Sys2Proof.Machine
end

