-- ==== Sys2Proof/Laws/KeepsSyncHome.lean ====
section
/-! SUPPORT. Every operation of Machine/SyncHome.lean keeps the anchor (Laws/Keeps.lean). -/

namespace Sys2Proof.Machine

variable {α : Type} {p : Anchor → α} {s0 s : State}

theorem setSync_keeps (h : Keeps p s0 s) (y : Sync) : Keeps p s0 (setSync s y) := by
  unfold setSync
  try dsimp only
  repeat' (
    first
      | with_reducible exact h | with_reducible rfl | (with_reducible apply foldl_keeps; intro _ _ h)
      | simp only [Keeps.upd_iff] | with_reducible apply Keeps.ite | split | dsimp only)

theorem applySet_keeps (h : Keeps p s0 s) (f : Nat) (by_ : Setter) : Keeps p s0 (applySet s f by_) := by
  unfold applySet
  try dsimp only
  repeat' (
    first
      | with_reducible exact h | with_reducible rfl | with_reducible apply setSync_keeps
      | (with_reducible apply foldl_keeps; intro _ _ h) | with_reducible apply Keeps.ite | split | dsimp only)

theorem applyClear_keeps (h : Keeps p s0 s) (f : Nat) : Keeps p s0 (applyClear s f) := by
  unfold applyClear
  try dsimp only
  repeat' (
    first
      | with_reducible exact h | with_reducible rfl | with_reducible apply setSync_keeps
      | (with_reducible apply foldl_keeps; intro _ _ h) | with_reducible apply Keeps.ite | split | dsimp only)

theorem endSpin_keeps (h : Keeps p s0 s) (issuer : Nat) (t : Nat) : Keeps p s0 (endSpin s issuer t) := by
  unfold endSpin
  try dsimp only
  repeat' (
    first
      | with_reducible exact h | with_reducible rfl | with_reducible apply setSync_keeps
      | (with_reducible apply foldl_keeps; intro _ _ h) | with_reducible apply Keeps.ite | split | dsimp only)

theorem withdrawWaits_keeps (h : Keeps p s0 s) (t : Nat) (issuer : Nat) : Keeps p s0 (withdrawWaits s t issuer) := by
  unfold withdrawWaits
  try dsimp only
  repeat' (
    first
      | with_reducible exact h | with_reducible rfl | with_reducible apply endSpin_keeps
      | with_reducible apply setSync_keeps | (with_reducible apply foldl_keeps; intro _ _ h)
      | with_reducible apply Keeps.ite | split | dsimp only)

theorem syncFault_keeps (h : Keeps p s0 s) (f : Nat) (under : Bool) (p_ : Nat) (issuer : Nat) (t : Nat) : Keeps p s0
    (syncFault s f under p_ issuer t) := by
  unfold syncFault
  try dsimp only
  repeat' (
    first
      | with_reducible exact h | with_reducible rfl | with_reducible apply bump_keeps
      | with_reducible apply setSync_keeps | with_reducible apply wr_keeps | with_reducible apply raise_keeps
      | (with_reducible apply foldl_keeps; intro _ _ h) | with_reducible apply Keeps.ite | split | dsimp only)

theorem overflowG1_keeps (h : Keeps p s0 s) (t : Nat) : Keeps p s0 (overflowG1 s t) := by
  unfold overflowG1
  try dsimp only
  repeat' (
    first
      | with_reducible exact h | with_reducible rfl | with_reducible apply raise_keeps
      | with_reducible apply bump_keeps | (with_reducible apply foldl_keeps; intro _ _ h)
      | with_reducible apply Keeps.ite | split | dsimp only)

end Sys2Proof.Machine
end

