-- ==== Sys2Proof/Laws/KeepsItems.lean ====
section
/-! SUPPORT. Every operation of Machine/Items.lean keeps the anchor (Laws/Keeps.lean). -/

namespace Sys2Proof.Machine

variable {α : Type} {p : Anchor → α} {s0 s : State}

theorem sendWithdraw_keeps (h : Keeps p s0 s) (tag : Nat) (tree : Nat) (members : List Nat) (rank : Option Nat) :
    Keeps p s0 (sendWithdraw s tag tree members rank) := by
  unfold sendWithdraw
  try dsimp only
  repeat' (
    first
      | with_reducible exact h | with_reducible rfl | with_reducible apply sendCtl_keeps
      | with_reducible apply bump_keeps | with_reducible apply emit_keeps
      | (with_reducible apply foldl_keeps; intro _ _ h) | with_reducible apply Keeps.ite | split | dsimp only)

theorem endCollective_keeps (h : Keeps p s0 s) (i : Nat) (d : Desc) (st : Status) : Keeps p s0 (endCollective s i d
    st) := by
  unfold endCollective
  try dsimp only
  repeat' (
    first
      | with_reducible exact h | with_reducible rfl | with_reducible apply wr_keeps
      | with_reducible apply sendWithdraw_keeps | (with_reducible apply foldl_keeps; intro _ _ h)
      | simp only [Keeps.upd_iff] | with_reducible apply Keeps.ite | split | dsimp only)

theorem setDone_keeps (h : Keeps p s0 s) (it : Item) (st : Status) (d : Nat) (t : Nat) : Keeps p s0 (setDone s it st d
    t).2 := by
  unfold setDone
  try dsimp only
  repeat' (
    first
      | with_reducible exact h | with_reducible rfl | with_reducible apply overflowG1_keeps
      | with_reducible apply syncFault_keeps | with_reducible apply applySet_keeps
      | (with_reducible apply foldl_keeps; intro _ _ h) | (with_reducible apply foldl_fst_keeps; intro _ _ h)
      | (with_reducible apply foldl_snd_keeps; intro _ _ h) | with_reducible apply Keeps.ite | split | dsimp only)

theorem recordItem_keeps (h : Keeps p s0 s) (it : Item) (st : Status) (d : Nat) (invalid : Bool) (t : Nat) : Keeps p
    s0 (recordItem s it st d invalid t) := by
  unfold recordItem
  try dsimp only
  repeat' (
    first
      | with_reducible exact h | with_reducible rfl | with_reducible apply bump_keeps
      | with_reducible apply completeEntry_keeps | with_reducible apply completeStanding_keeps
      | with_reducible apply ledgerItemFailed_keeps | (with_reducible apply foldl_keeps; intro _ _ h)
      | with_reducible apply Keeps.ite | split | dsimp only)

theorem haltItem_keeps (h : Keeps p s0 s) (i : Nat) (st : Status) (t : Nat) : Keeps p s0 (haltItem s i st t) := by
  unfold haltItem
  try dsimp only
  repeat' (
    first
      | with_reducible exact h | with_reducible rfl | with_reducible apply withdrawWaits_keeps
      | with_reducible apply setItem_keeps | with_reducible apply endCollective_keeps
      | with_reducible apply abandonReads_keeps | (with_reducible apply foldl_keeps; intro _ _ h)
      | with_reducible apply Keeps.ite | split | dsimp only)

theorem endItem_keeps (h : Keeps p s0 s) (i : Nat) (causes : List (Status × Nat)) (bad : Option Bool) (t : Nat) :
    Keeps p s0 (endItem s i causes bad t) := by
  unfold endItem
  try dsimp only
  repeat' (
    first
      | with_reducible exact h | with_reducible rfl | with_reducible apply bump_keeps
      | with_reducible apply setDone_keeps | with_reducible apply haltItem_keeps
      | with_reducible apply recordItem_keeps | (with_reducible apply foldl_keeps; intro _ _ h)
      | (with_reducible apply foldl_fst_keeps; intro _ _ h) | (with_reducible apply foldl_snd_keeps; intro _ _ h)
      | with_reducible apply Keeps.ite | split | dsimp only)

theorem skipPeriodic_keeps (h : Keeps p s0 s) (e : Nat) (t : Nat) : Keeps p s0 (skipPeriodic e t s) := by
  unfold skipPeriodic
  try dsimp only
  repeat' (
    first
      | with_reducible exact h | with_reducible rfl | with_reducible apply endItem_keeps
      | with_reducible apply bump_keeps | (with_reducible apply foldl_keeps; intro _ _ h)
      | with_reducible apply Keeps.ite | split | dsimp only)

theorem endWork_keeps (h : Keeps p s0 s) (i : Nat) (causes : List (Status × Nat)) (bad : Option Bool) (t : Nat) :
    Keeps p s0 (endWork s i causes bad t) := by
  unfold endWork
  try dsimp only
  repeat' (
    first
      | with_reducible exact h | with_reducible rfl | with_reducible apply endItem_keeps
      | with_reducible apply skipPeriodic_keeps | (with_reducible apply foldl_keeps; intro _ _ h)
      | with_reducible apply Keeps.ite | split | dsimp only)

theorem freshBuffer_keeps (h : Keeps p s0 s) (stream : Nat) : Keeps p s0 (freshBuffer s stream) :=
  h.updMems rfl id

theorem enterLane_keeps (h : Keeps p s0 s) (t : Nat) (stream : Nat) : Keeps p s0 (enterLane s t stream) := by
  unfold enterLane
  try dsimp only
  repeat' (
    first
      | with_reducible exact h | with_reducible rfl | with_reducible apply setSpoke_keeps
      | with_reducible apply freshBuffer_keeps | with_reducible apply endItem_keeps
      | (with_reducible apply foldl_keeps; intro _ _ h) | with_reducible apply Keeps.ite | split | dsimp only)

theorem finishItem_keeps (h : Keeps p s0 s) (i : Nat) (causes : List (Status × Nat)) (bad : Option Bool) (t : Nat) :
    Keeps p s0 (finishItem s i causes bad t) := by
  unfold finishItem
  try dsimp only
  repeat' (
    first
      | with_reducible exact h | with_reducible rfl | with_reducible apply enterLane_keeps
      | with_reducible apply endWork_keeps | (with_reducible apply foldl_keeps; intro _ _ h)
      | with_reducible apply Keeps.ite | split | dsimp only)

theorem abortIssuer_keeps (h : Keeps p s0 s) (issuer : Nat) (st : Status) (d : Nat) (bad : Bool) (t : Nat) : Keeps p
    s0 (abortIssuer s issuer st d bad t) := by
  unfold abortIssuer
  try dsimp only
  repeat' (
    first
      | with_reducible exact h | with_reducible rfl | with_reducible apply finishItem_keeps
      | (with_reducible apply foldl_keeps; intro _ _ h) | with_reducible apply Keeps.ite | split | dsimp only)

end Sys2Proof.Machine
end

