-- ==== Sys2Proof/Laws/KeepsSyncFlags.lean ====
section
/-! SUPPORT. Every operation of Machine/SyncFlags.lean keeps the anchor (Laws/Keeps.lean). -/

namespace Sys2Proof.Machine

variable {α : Type} {p : Anchor → α} {s0 s : State}

theorem flagReject_keeps (h : Keeps p s0 s) (issuer : Nat) (f : Nat) (t : Nat) : Keeps p s0 (flagReject s issuer f t)
    := by
  unfold flagReject
  try dsimp only
  repeat' (
    first
      | with_reducible exact h | with_reducible rfl | with_reducible apply abortIssuer_keeps
      | with_reducible apply syncReject_keeps | (with_reducible apply foldl_keeps; intro _ _ h)
      | with_reducible apply Keeps.ite | split | dsimp only)

theorem doSet_keeps (h : Keeps p s0 s) (issuer : Nat) (f : Nat) (t : Nat) : Keeps p s0 (doSet s issuer f t) := by
  unfold doSet
  try dsimp only
  repeat' (
    first
      | with_reducible exact h | with_reducible rfl | with_reducible apply abortIssuer_keeps
      | with_reducible apply flagReject_keeps | with_reducible apply overflowG1_keeps
      | with_reducible apply syncFault_keeps | with_reducible apply applySet_keeps
      | (with_reducible apply foldl_keeps; intro _ _ h) | with_reducible apply Keeps.ite | split | dsimp only)

theorem doClear_keeps (h : Keeps p s0 s) (issuer : Nat) (f : Nat) (t : Nat) : Keeps p s0 (doClear s issuer f t) := by
  unfold doClear
  try dsimp only
  repeat' (
    first
      | with_reducible exact h | with_reducible rfl | with_reducible apply abortIssuer_keeps
      | with_reducible apply flagReject_keeps | with_reducible apply applyClear_keeps
      | with_reducible apply syncFault_keeps | (with_reducible apply foldl_keeps; intro _ _ h)
      | with_reducible apply Keeps.ite | split | dsimp only)

theorem doWait_keeps (h : Keeps p s0 s) (issuer : Nat) (f : Nat) (clr : Bool) (t : Nat) : Keeps p s0 (doWait s issuer
    f clr t) := by
  unfold doWait
  try dsimp only
  repeat' (
    first
      | with_reducible exact h | with_reducible rfl | with_reducible apply abortIssuer_keeps
      | with_reducible apply flagReject_keeps | with_reducible apply setSync_keeps
      | (with_reducible apply foldl_keeps; intro _ _ h) | with_reducible apply Keeps.ite | split | dsimp only)

theorem execFlagSet_keeps (issuer : Nat) (flag : Nat) (t : Nat) : KeepsOut p s (execFlagSet issuer flag t s) := by
  have h : Keeps p s s := Keeps.start
  unfold execFlagSet
  try dsimp only
  repeat' (
    first
      | with_reducible exact h | with_reducible rfl | with_reducible exact KeepsOut.fault _
      | with_reducible apply KeepsOut.next | with_reducible apply doSet_keeps
      | (with_reducible apply foldl_keeps; intro _ _ h) | with_reducible apply Keeps.ite
      | with_reducible apply KeepsOut.ite | split | dsimp only)

theorem execFlagClear_keeps (issuer : Nat) (flag : Nat) (t : Nat) : KeepsOut p s (execFlagClear issuer flag t s) := by
  have h : Keeps p s s := Keeps.start
  unfold execFlagClear
  try dsimp only
  repeat' (
    first
      | with_reducible exact h | with_reducible rfl | with_reducible exact KeepsOut.fault _
      | with_reducible apply KeepsOut.next | with_reducible apply doClear_keeps
      | (with_reducible apply foldl_keeps; intro _ _ h) | with_reducible apply Keeps.ite
      | with_reducible apply KeepsOut.ite | split | dsimp only)

theorem execFlagWait_keeps (issuer : Nat) (flag : Nat) (t : Nat) : KeepsOut p s (execFlagWait issuer flag t s) := by
  have h : Keeps p s s := Keeps.start
  unfold execFlagWait
  try dsimp only
  repeat' (
    first
      | with_reducible exact h | with_reducible rfl | with_reducible exact KeepsOut.fault _
      | with_reducible apply KeepsOut.next | with_reducible apply doWait_keeps
      | (with_reducible apply foldl_keeps; intro _ _ h) | with_reducible apply Keeps.ite
      | with_reducible apply KeepsOut.ite | split | dsimp only)

theorem execFlagWaitClr_keeps (issuer : Nat) (flag : Nat) (t : Nat) : KeepsOut p s (execFlagWaitClr issuer flag t s)
    := by
  have h : Keeps p s s := Keeps.start
  unfold execFlagWaitClr
  try dsimp only
  repeat' (
    first
      | with_reducible exact h | with_reducible rfl | with_reducible exact KeepsOut.fault _
      | with_reducible apply KeepsOut.next | with_reducible apply doWait_keeps
      | (with_reducible apply foldl_keeps; intro _ _ h) | with_reducible apply Keeps.ite
      | with_reducible apply KeepsOut.ite | split | dsimp only)

theorem execTileSet_keeps (core : Nat) (flag : Nat) (t : Nat) : KeepsOut p s (execTileSet core flag t s) := by
  have h : Keeps p s s := Keeps.start
  unfold execTileSet
  try dsimp only
  repeat' (
    first
      | with_reducible exact h | with_reducible rfl | with_reducible exact KeepsOut.fault _
      | with_reducible apply KeepsOut.next | with_reducible apply doSet_keeps
      | with_reducible apply syncReject_keeps | with_reducible apply abortIssuer_keeps
      | (with_reducible apply foldl_keeps; intro _ _ h) | with_reducible apply Keeps.ite
      | with_reducible apply KeepsOut.ite | split | dsimp only)

theorem execWaiterRelease_keeps (issuer : Nat) (t : Nat) : KeepsOut p s (execWaiterRelease issuer t s) := by
  have h : Keeps p s s := Keeps.start
  unfold execWaiterRelease
  try dsimp only
  repeat' (
    first
      | with_reducible exact h | with_reducible rfl | with_reducible exact KeepsOut.fault _
      | with_reducible apply KeepsOut.next | with_reducible apply endSpin_keeps | with_reducible apply setSync_keeps
      | with_reducible apply setSpoke_keeps | (with_reducible apply foldl_keeps; intro _ _ h)
      | with_reducible apply Keeps.ite | with_reducible apply KeepsOut.ite | split | dsimp only)

theorem auditManual_keeps (h : Keeps p s0 s) (f : Nat) (part : Nat) (set : Bool) (src : Requester) (result : Nat) (t :
    Nat) : Keeps p s0 (auditManual s f part set src result t) := by
  unfold auditManual
  try dsimp only
  repeat' (
    first
      | with_reducible exact h | with_reducible rfl | with_reducible apply setSync_keeps
      | with_reducible apply raise_keeps | with_reducible apply bump_keeps
      | (with_reducible apply foldl_keeps; intro _ _ h) | with_reducible apply Keeps.ite | split | dsimp only)

theorem manualOp_keeps (h : Keeps p s0 s) (f : Nat) (part : Nat) (set : Bool) (src : Requester) (t : Nat) : Keeps p s0
    (manualOp s f part set src t) := by
  unfold manualOp
  try dsimp only
  repeat' (
    first
      | with_reducible exact h | with_reducible rfl | with_reducible apply auditManual_keeps
      | with_reducible apply applySet_keeps | with_reducible apply applyClear_keeps
      | with_reducible apply fenceRefuse_keeps | (with_reducible apply foldl_keeps; intro _ _ h)
      | with_reducible apply Keeps.ite | split | dsimp only)

theorem execManualSet_keeps (flag : Nat) (part : Nat) (src : Requester) (t : Nat) : KeepsOut p s (execManualSet flag
    part src t s) := by
  have h : Keeps p s s := Keeps.start
  unfold execManualSet
  try dsimp only
  repeat' (
    first
      | with_reducible exact h | with_reducible rfl | with_reducible exact KeepsOut.fault _
      | with_reducible apply KeepsOut.next | with_reducible apply manualOp_keeps
      | (with_reducible apply foldl_keeps; intro _ _ h) | with_reducible apply Keeps.ite
      | with_reducible apply KeepsOut.ite | split | dsimp only)

theorem execManualClear_keeps (flag : Nat) (part : Nat) (src : Requester) (t : Nat) : KeepsOut p s (execManualClear
    flag part src t s) := by
  have h : Keeps p s s := Keeps.start
  unfold execManualClear
  try dsimp only
  repeat' (
    first
      | with_reducible exact h | with_reducible rfl | with_reducible exact KeepsOut.fault _
      | with_reducible apply KeepsOut.next | with_reducible apply manualOp_keeps
      | (with_reducible apply foldl_keeps; intro _ _ h) | with_reducible apply Keeps.ite
      | with_reducible apply KeepsOut.ite | split | dsimp only)

end Sys2Proof.Machine
end

