-- ==== Sys2Proof/Laws/KeepsCollective.lean ====
section
/-! SUPPORT. Every operation of Machine/Collective.lean keeps the anchor (Laws/Keeps.lean). -/

namespace Sys2Proof.Machine

variable {α : Type} {p : Anchor → α} {s0 s : State}

theorem sendBridge_keeps (h : Keeps p s0 s) (stream : Nat) (part : Nat) (p_ : Packet) (t : Nat) : Keeps p s0
    (sendBridge s stream part p_ t) := by
  unfold sendBridge
  try dsimp only
  repeat' (
    first
      | with_reducible exact h | with_reducible rfl | with_reducible apply toPort_keeps
      | with_reducible apply packetReject_keeps | with_reducible apply emit_keeps
      | with_reducible apply preempt_keeps | (with_reducible apply foldl_keeps; intro _ _ h)
      | with_reducible apply Keeps.ite | split | dsimp only)

theorem sendColl_keeps (h : Keeps p s0 s) (stream : Nat) (o : CollOp) (ptype : Nat) (dst : Nat × Nat) (tag : Nat)
    (offset : Nat) (m : Msg) (data : List Byte) (t : Nat) : Keeps p s0 (sendColl s stream o ptype dst tag offset m
    data t) := by
  unfold sendColl
  try dsimp only
  repeat' (
    first
      | with_reducible exact h | with_reducible rfl | with_reducible apply sendOwn_keeps
      | with_reducible apply sendBridge_keeps | (with_reducible apply foldl_keeps; intro _ _ h)
      | with_reducible apply Keeps.ite | split | dsimp only)

theorem sendDown_keeps (h : Keeps p s0 s) (stream : Nat) (o : CollOp) (m : Msg) (t : Nat) : Keeps p s0 (sendDown s
    stream o m t) := by
  unfold sendDown
  try dsimp only
  repeat' (
    first
      | with_reducible exact h | with_reducible rfl | with_reducible apply sendColl_keeps
      | (with_reducible apply foldl_keeps; intro _ _ h) | with_reducible apply Keeps.ite | split | dsimp only)

theorem sendUp_keeps (h : Keeps p s0 s) (stream : Nat) (o : CollOp) (tag : Nat) (m : Msg) (t : Nat) : Keeps p s0
    (sendUp s stream o tag m t) := by
  unfold sendUp
  try dsimp only
  repeat' (
    first
      | with_reducible exact h | with_reducible rfl | with_reducible apply sendColl_keeps
      | (with_reducible apply foldl_keeps; intro _ _ h) | with_reducible apply Keeps.ite | split | dsimp only)

theorem updOp_keeps (h : Keeps p s0 s) (stream : Nat) (f : CollOp → CollOp) : Keeps p s0 (updOp s stream f) := by
  unfold updOp
  try dsimp only
  repeat' (
    first
      | with_reducible exact h | with_reducible rfl | with_reducible apply setOp_keeps
      | (with_reducible apply foldl_keeps; intro _ _ h) | with_reducible apply Keeps.ite | split | dsimp only)

theorem restartSpoke_keeps (h : Keeps p s0 s) (i : Nat) (cause : Nat) (t : Nat) : Keeps p s0 (restartSpoke s i cause
    t) := by
  unfold restartSpoke
  try dsimp only
  repeat' (
    first
      | with_reducible exact h | with_reducible rfl | with_reducible apply raise_keeps
      | with_reducible apply wr_keeps | with_reducible apply bump_keeps | with_reducible apply setSpoke_keeps
      | with_reducible apply withdrawWaits_keeps | (with_reducible apply foldl_keeps; intro _ _ h)
      | with_reducible apply Keeps.ite | split | dsimp only)

theorem logMissing_keeps (h : Keeps p s0 s) (stream : Nat) (o : CollOp) (rank : Nat) (cause : Nat) (after : Bool) (t :
    Nat) : Keeps p s0 (logMissing s stream o rank cause after t) := by
  unfold logMissing
  try dsimp only
  repeat' (
    first
      | with_reducible exact h | with_reducible rfl | with_reducible apply wr_keeps
      | (with_reducible apply foldl_keeps; intro _ _ h) | simp only [Keeps.upd_iff] | with_reducible apply Keeps.ite
      | split | dsimp only)

theorem countMissing_keeps (h : Keeps p s0 s) (stream : Nat) (o : CollOp) (rank : Nat) (cause : Nat) (after : Bool) (t
    : Nat) : Keeps p s0 (countMissing s stream o rank cause after t) := by
  unfold countMissing
  try dsimp only
  repeat' (
    first
      | with_reducible exact h | with_reducible rfl | with_reducible apply updOp_keeps
      | with_reducible apply logMissing_keeps | with_reducible apply raise_keeps | with_reducible apply bump_keeps
      | (with_reducible apply foldl_keeps; intro _ _ h) | with_reducible apply Keeps.ite | split | dsimp only)

theorem leaveOut_keeps (h : Keeps p s0 s) (stream : Nat) (o : CollOp) (rank : Nat) (cause : Nat) (t : Nat) : Keeps p
    s0 (leaveOut s stream o rank cause t) := by
  unfold leaveOut
  try dsimp only
  repeat' (
    first
      | with_reducible exact h | with_reducible rfl | with_reducible apply updOp_keeps
      | with_reducible apply countMissing_keeps | (with_reducible apply foldl_keeps; intro _ _ h)
      | with_reducible apply Keeps.ite | split | dsimp only)

theorem dropMember_keeps (h : Keeps p s0 s) (stream : Nat) (rank : Nat) (cause : Nat) (t : Nat) : Keeps p s0
    (dropMember s stream rank cause t) := by
  unfold dropMember
  try dsimp only
  repeat' (
    first
      | with_reducible exact h | with_reducible rfl | with_reducible apply leaveOut_keeps
      | with_reducible apply updOp_keeps | with_reducible apply countMissing_keeps
      | (with_reducible apply foldl_keeps; intro _ _ h) | with_reducible apply Keeps.ite | split | dsimp only)

theorem loseMember_keeps (h : Keeps p s0 s) (stream : Nat) (rank : Nat) (cause : Nat) (t : Nat) : Keeps p s0
    (loseMember s stream rank cause t) := by
  unfold loseMember
  try dsimp only
  repeat' (
    first
      | with_reducible exact h | with_reducible rfl | with_reducible apply dropMember_keeps
      | with_reducible apply restartSpoke_keeps | (with_reducible apply foldl_keeps; intro _ _ h)
      | with_reducible apply Keeps.ite | split | dsimp only)

theorem formSeal_keeps (h : Keeps p s0 s) (stream : Nat) (t : Nat) : Keeps p s0 (formSeal s stream t) := by
  unfold formSeal
  try dsimp only
  repeat' (
    first
      | with_reducible exact h | with_reducible rfl | with_reducible apply setOp_keeps
      | with_reducible apply sendDown_keeps | (with_reducible apply foldl_keeps; intro _ _ h)
      | with_reducible apply Keeps.ite | split | dsimp only)

theorem sealWhenReady_keeps (h : Keeps p s0 s) (stream : Nat) (t : Nat) : Keeps p s0 (sealWhenReady s stream t) := by
  unfold sealWhenReady
  try dsimp only
  repeat' (
    first
      | with_reducible exact h | with_reducible rfl | with_reducible apply formSeal_keeps
      | (with_reducible apply foldl_keeps; intro _ _ h) | with_reducible apply Keeps.ite | split | dsimp only)

theorem armRound_keeps (h : Keeps p s0 s) (stream : Nat) (t : Nat) : Keeps p s0 (armRound s stream t) := by
  unfold armRound
  try dsimp only
  repeat' (
    first
      | with_reducible exact h | with_reducible rfl | with_reducible apply updOp_keeps
      | with_reducible apply leaveOut_keeps | with_reducible apply sealWhenReady_keeps
      | with_reducible apply sendUp_keeps | (with_reducible apply foldl_keeps; intro _ _ h)
      | with_reducible apply Keeps.ite | split | dsimp only)

theorem beginArm_keeps (h : Keeps p s0 s) (stream : Nat) (t : Nat) : Keeps p s0 (beginArm s stream t) := by
  unfold beginArm
  try dsimp only
  repeat' (
    first
      | with_reducible exact h | with_reducible rfl | with_reducible apply finishItem_keeps
      | with_reducible apply armRound_keeps | with_reducible apply setOp_keeps
      | (with_reducible apply foldl_keeps; intro _ _ h) | with_reducible apply Keeps.ite | split | dsimp only)

theorem execArmMessageRx_keeps (stream : Nat) (a : ArmMsg) (t : Nat) : KeepsOut p s (execArmMessageRx stream a t s) :=
    by
  have h : Keeps p s s := Keeps.start
  unfold execArmMessageRx
  try dsimp only
  repeat' (
    first
      | with_reducible exact h | with_reducible rfl | with_reducible exact KeepsOut.fault _
      | with_reducible apply KeepsOut.next | with_reducible apply sendUp_keeps | with_reducible apply updOp_keeps
      | with_reducible apply raise_keeps | with_reducible apply bump_keeps
      | with_reducible apply sealWhenReady_keeps | with_reducible apply leaveOut_keeps
      | (with_reducible apply foldl_keeps; intro _ _ h) | with_reducible apply Keeps.ite
      | with_reducible apply KeepsOut.ite | split | dsimp only)

theorem countConseq_keeps (h : Keeps p s0 s) (t : Nat) : Keeps p s0 (countConseq s t) := by
  unfold countConseq
  try dsimp only
  repeat' (
    first
      | with_reducible exact h | with_reducible rfl | with_reducible apply raise_keeps
      | with_reducible apply bump_keeps | (with_reducible apply foldl_keeps; intro _ _ h)
      | with_reducible apply Keeps.ite | split | dsimp only)

theorem noteTimeout_keeps (h : Keeps p s0 s) (tag : Nat) : Keeps p s0 (noteTimeout s tag) := by
  unfold noteTimeout
  try dsimp only
  repeat' (
    first
      | with_reducible exact h | with_reducible rfl | (with_reducible apply foldl_keeps; intro _ _ h)
      | simp only [Keeps.upd_iff] | with_reducible apply Keeps.ite | split | dsimp only)

theorem closedTimeout_keeps (h : Keeps p s0 s) (stream : Nat) (t : Nat) : Keeps p s0 (closedTimeout s stream t) := by
  unfold closedTimeout
  try dsimp only
  repeat' (
    first
      | with_reducible exact h | with_reducible rfl | with_reducible apply countConseq_keeps
      | (with_reducible apply foldl_keeps; intro _ _ h) | simp only [Keeps.upd_iff] | with_reducible apply Keeps.ite
      | split | dsimp only)

theorem execArmStepTimeout_keeps (stream : Nat) (t : Nat) : KeepsOut p s (execArmStepTimeout stream t s) := by
  have h : Keeps p s s := Keeps.start
  unfold execArmStepTimeout
  try dsimp only
  repeat' (
    first
      | with_reducible exact h | with_reducible rfl | with_reducible exact KeepsOut.fault _
      | with_reducible apply KeepsOut.next | with_reducible apply closedTimeout_keeps
      | with_reducible apply updOp_keeps | with_reducible apply countConseq_keeps
      | with_reducible apply leaveOut_keeps | with_reducible apply noteTimeout_keeps
      | with_reducible apply formSeal_keeps | (with_reducible apply foldl_keeps; intro _ _ h)
      | with_reducible apply Keeps.ite | with_reducible apply KeepsOut.ite | split | dsimp only)

theorem execSealRx_keeps (stream : Nat) (bitmap : Nat) (sGran : Nat) (counts : List Nat) (reSeal : Option Nat) (t :
    Nat) : KeepsOut p s (execSealRx stream bitmap sGran counts reSeal t s) := by
  have h : Keeps p s s := Keeps.start
  unfold execSealRx
  try dsimp only
  repeat' (
    first
      | with_reducible exact h | with_reducible rfl | with_reducible exact KeepsOut.fault _
      | with_reducible apply KeepsOut.next | with_reducible apply sendDown_keeps | with_reducible apply updOp_keeps
      | with_reducible apply finishItem_keeps | (with_reducible apply foldl_keeps; intro _ _ h)
      | with_reducible apply Keeps.ite | with_reducible apply KeepsOut.ite | split | dsimp only)

theorem execDataStepTimeout_keeps (stream : Nat) (rank : Nat) (t : Nat) : KeepsOut p s (execDataStepTimeout stream
    rank t s) := by
  have h : Keeps p s s := Keeps.start
  unfold execDataStepTimeout
  try dsimp only
  repeat' (
    first
      | with_reducible exact h | with_reducible rfl | with_reducible exact KeepsOut.fault _
      | with_reducible apply KeepsOut.next | with_reducible apply closedTimeout_keeps
      | with_reducible apply countConseq_keeps | with_reducible apply loseMember_keeps
      | with_reducible apply noteTimeout_keeps | (with_reducible apply foldl_keeps; intro _ _ h)
      | with_reducible apply Keeps.ite | with_reducible apply KeepsOut.ite | split | dsimp only)

theorem reArm_keeps (h : Keeps p s0 s) (stream : Nat) (t : Nat) : Keeps p s0 (reArm s stream t) := by
  unfold reArm
  try dsimp only
  repeat' (
    first
      | with_reducible exact h | with_reducible rfl | with_reducible apply updOp_keeps
      | with_reducible apply sendUp_keeps | (with_reducible apply foldl_keeps; intro _ _ h)
      | with_reducible apply Keeps.ite | split | dsimp only)

theorem switchTree_keeps (h : Keeps p s0 s) (stream : Nat) (f : Nat) (member : Bool) (t : Nat) : Keeps p s0
    (switchTree s stream f member t) := by
  unfold switchTree
  try dsimp only
  repeat' (
    first
      | with_reducible exact h | with_reducible rfl | with_reducible apply loseMember_keeps
      | with_reducible apply raise_keeps | with_reducible apply finishItem_keeps | with_reducible apply bump_keeps
      | with_reducible apply updOp_keeps | with_reducible apply beginArm_keeps | with_reducible apply reArm_keeps
      | (with_reducible apply foldl_keeps; intro _ _ h) | with_reducible apply Keeps.ite | split | dsimp only)

theorem execWithdrawNoticeRx_keeps (stream : Nat) (rank : Nat) (src : Nat) (t : Nat) : KeepsOut p s
    (execWithdrawNoticeRx stream rank src t s) := by
  have h : Keeps p s s := Keeps.start
  unfold execWithdrawNoticeRx
  try dsimp only
  repeat' (
    first
      | with_reducible exact h | with_reducible rfl | with_reducible exact KeepsOut.fault _
      | with_reducible apply KeepsOut.next | with_reducible apply raise_keeps | with_reducible apply bump_keeps
      | with_reducible apply sealWhenReady_keeps | with_reducible apply loseMember_keeps
      | with_reducible apply switchTree_keeps | (with_reducible apply foldl_keeps; intro _ _ h)
      | with_reducible apply Keeps.ite | with_reducible apply KeepsOut.ite | split | dsimp only)

theorem execReArmRx_keeps (stream : Nat) (rank : Nat) (lowest : Nat) (t : Nat) : KeepsOut p s (execReArmRx stream rank
    lowest t s) := by
  have h : Keeps p s s := Keeps.start
  unfold execReArmRx
  try dsimp only
  repeat' (
    first
      | with_reducible exact h | with_reducible rfl | with_reducible exact KeepsOut.fault _
      | with_reducible apply KeepsOut.next | with_reducible apply setOp_keeps | with_reducible apply sendUp_keeps
      | (with_reducible apply foldl_keeps; intro _ _ h) | with_reducible apply Keeps.ite
      | with_reducible apply KeepsOut.ite | split | dsimp only)

theorem lateContribution_keeps (h : Keeps p s0 s) (t : Nat) : Keeps p s0 (lateContribution s t) := by
  unfold lateContribution
  try dsimp only
  repeat' (
    first
      | with_reducible exact h | with_reducible rfl | with_reducible apply raise_keeps
      | with_reducible apply bump_keeps | (with_reducible apply foldl_keeps; intro _ _ h)
      | with_reducible apply Keeps.ite | split | dsimp only)

theorem writeResult_keeps (h : Keeps p s0 s) (stream : Nat) (part : Nat) (dst : Nat) (bs : List Byte) (t : Nat) :
    Keeps p s0 (writeResult s stream part dst bs t).1 := by
  unfold writeResult
  try dsimp only
  repeat' (
    first
      | with_reducible exact h | with_reducible rfl | with_reducible apply updOp_keeps
      | with_reducible apply memWrite_keeps | with_reducible apply fenceRefuse_keeps
      | (with_reducible apply foldl_keeps; intro _ _ h) | (with_reducible apply foldl_fst_keeps; intro _ _ h)
      | (with_reducible apply foldl_snd_keeps; intro _ _ h) | with_reducible apply Keeps.ite | split | dsimp only)

theorem execDataPhaseStart_keeps (stream : Nat) (t : Nat) : KeepsOut p s (execDataPhaseStart stream t s) := by
  have h : Keeps p s s := Keeps.start
  unfold execDataPhaseStart
  try dsimp only
  repeat' (
    first
      | with_reducible exact h | with_reducible rfl | with_reducible exact KeepsOut.fault _
      | with_reducible apply KeepsOut.next | with_reducible apply setOp_keeps
      | with_reducible apply writeResult_keeps | with_reducible apply setItem_keeps
      | with_reducible apply finishItem_keeps | (with_reducible apply foldl_keeps; intro _ _ h)
      | (with_reducible apply foldl_fst_keeps; intro _ _ h) | (with_reducible apply foldl_snd_keeps; intro _ _ h)
      | with_reducible apply Keeps.ite | with_reducible apply KeepsOut.ite | split | dsimp only)

end Sys2Proof.Machine
end

