-- ==== Sys2Proof/Laws/KeepsSpoke.lean ====
section
/-! SUPPORT. Every operation of Machine/Spoke.lean keeps the anchor (Laws/Keeps.lean). -/

namespace Sys2Proof.Machine

variable {α : Type} {p : Anchor → α} {s0 s : State}

theorem endRoutine_keeps (h : Keeps p s0 s) (p_ : Spoke) (status : Nat) (t : Nat) : Keeps p s0 (endRoutine s p_ status
    t) := by
  unfold endRoutine
  try dsimp only
  repeat' (
    first
      | with_reducible exact h | with_reducible rfl | with_reducible apply finishItem_keeps
      | (with_reducible apply foldl_keeps; intro _ _ h) | with_reducible apply Keeps.ite | split | dsimp only)

theorem execWord_keeps (h : Keeps p s0 s) (i : Nat) (p_ : Spoke) (m : Micro) (t : Nat) : Keeps p s0 (execWord s i p_ m
    t) := by
  unfold execWord
  try dsimp only
  repeat' (
    first
      | with_reducible exact h | with_reducible rfl | with_reducible apply setSpoke_keeps
      | with_reducible apply endSpin_keeps | with_reducible apply doSet_keeps | with_reducible apply doClear_keeps
      | with_reducible apply endRoutine_keeps | (with_reducible apply foldl_keeps; intro _ _ h)
      | with_reducible apply Keeps.ite | split | dsimp only)

theorem lockMiss_keeps (h : Keeps p s0 s) (i : Nat) (p_ : Spoke) (t : Nat) : Keeps p s0 (lockMiss s i p_ t).2 := by
  unfold lockMiss
  try dsimp only
  repeat' (
    first
      | with_reducible exact h | with_reducible rfl | with_reducible apply raise_keeps
      | with_reducible apply bump_keeps | (with_reducible apply foldl_keeps; intro _ _ h)
      | (with_reducible apply foldl_fst_keeps; intro _ _ h) | (with_reducible apply foldl_snd_keeps; intro _ _ h)
      | with_reducible apply Keeps.ite | split | dsimp only)

theorem stallWord_keeps (h : Keeps p s0 s) (i : Nat) (p_ : Spoke) (m : Micro) (t : Nat) : Keeps p s0 (stallWord s i p_
    m t) := by
  unfold stallWord
  try dsimp only
  repeat' (
    first
      | with_reducible exact h | with_reducible rfl | with_reducible apply lockMiss_keeps
      | with_reducible apply setSpoke_keeps | with_reducible apply doWait_keeps | with_reducible apply setSync_keeps
      | (with_reducible apply foldl_keeps; intro _ _ h) | (with_reducible apply foldl_fst_keeps; intro _ _ h)
      | (with_reducible apply foldl_snd_keeps; intro _ _ h) | with_reducible apply Keeps.ite | split | dsimp only)

theorem meetWord_keeps (h : Keeps p s0 s) (i : Nat) (p_ : Spoke) (m : Micro) (t : Nat) : Keeps p s0 (meetWord s i p_ m
    t) := by
  unfold meetWord
  try dsimp only
  repeat' (
    first
      | with_reducible exact h | with_reducible rfl | with_reducible apply execWord_keeps
      | with_reducible apply applyClear_keeps | with_reducible apply stallWord_keeps
      | (with_reducible apply foldl_keeps; intro _ _ h) | with_reducible apply Keeps.ite | split | dsimp only)

theorem aluStart_keeps (h : Keeps p s0 s) (h_ : Nat) : Keeps p s0 (aluStart s h_) := by
  unfold aluStart
  try dsimp only
  repeat' (
    first
      | with_reducible exact h | with_reducible rfl | with_reducible apply preempt_keeps
      | (with_reducible apply foldl_keeps; intro _ _ h) | simp only [Keeps.upd_iff] | with_reducible apply Keeps.ite
      | split | dsimp only)

theorem startComb_keeps (h : Keeps p s0 s) (i : Nat) (m : Micro) : Keeps p s0 (startComb s i m) := by
  unfold startComb
  try dsimp only
  repeat' (
    first
      | with_reducible exact h | with_reducible rfl | with_reducible apply aluStart_keeps
      | (with_reducible apply foldl_keeps; intro _ _ h) | with_reducible apply Keeps.ite | split | dsimp only)

theorem illegalWord_keeps (h : Keeps p s0 s) (i : Nat) (p_ : Spoke) (t : Nat) : Keeps p s0 (illegalWord s i p_ t) :=
    by
  unfold illegalWord
  try dsimp only
  repeat' (
    first
      | with_reducible exact h | with_reducible rfl | with_reducible apply bump_keeps
      | with_reducible apply wr_keeps | with_reducible apply finishItem_keeps | with_reducible apply raise_keeps
      | (with_reducible apply foldl_keeps; intro _ _ h) | with_reducible apply Keeps.ite | split | dsimp only)

theorem fetchUe_keeps (h : Keeps p s0 s) (i : Nat) (p_ : Spoke) (t : Nat) : Keeps p s0 (fetchUe s i p_ t) := by
  unfold fetchUe
  try dsimp only
  repeat' (
    first
      | with_reducible exact h | with_reducible rfl | with_reducible apply raise_keeps
      | with_reducible apply bump_keeps | with_reducible apply setSpoke_keeps
      | (with_reducible apply foldl_keeps; intro _ _ h) | simp only [Keeps.upd_iff] | with_reducible apply Keeps.ite
      | split | dsimp only)

theorem doMicro_keeps (h : Keeps p s0 s) (i : Nat) (op : Nat) (ecc : Nat) (t : Nat) : Keeps p s0 (doMicro s i op ecc
    t) := by
  unfold doMicro
  try dsimp only
  repeat' (
    first
      | with_reducible exact h | with_reducible rfl | with_reducible apply illegalWord_keeps
      | with_reducible apply finishItem_keeps | with_reducible apply lockMiss_keeps
      | with_reducible apply setSpoke_keeps | with_reducible apply fetchUe_keeps | with_reducible apply raise_keeps
      | with_reducible apply bump_keeps | with_reducible apply restartSpoke_keeps
      | with_reducible apply startComb_keeps | with_reducible apply meetWord_keeps
      | (with_reducible apply foldl_keeps; intro _ _ h) | (with_reducible apply foldl_fst_keeps; intro _ _ h)
      | (with_reducible apply foldl_snd_keeps; intro _ _ h) | with_reducible apply Keeps.ite | split | dsimp only)

theorem execMicroNop_keeps (i : Nat) (ecc : Nat) (t : Nat) : KeepsOut p s (execMicroNop i ecc t s) := by
  have h : Keeps p s s := Keeps.start
  unfold execMicroNop
  try dsimp only
  repeat' (
    first
      | with_reducible exact h | with_reducible rfl | with_reducible exact KeepsOut.fault _
      | with_reducible apply KeepsOut.next | with_reducible apply doMicro_keeps
      | (with_reducible apply foldl_keeps; intro _ _ h) | with_reducible apply Keeps.ite
      | with_reducible apply KeepsOut.ite | split | dsimp only)

theorem execMicroLdi_keeps (i : Nat) (ecc : Nat) (t : Nat) : KeepsOut p s (execMicroLdi i ecc t s) := by
  have h : Keeps p s s := Keeps.start
  unfold execMicroLdi
  try dsimp only
  repeat' (
    first
      | with_reducible exact h | with_reducible rfl | with_reducible exact KeepsOut.fault _
      | with_reducible apply KeepsOut.next | with_reducible apply doMicro_keeps
      | (with_reducible apply foldl_keeps; intro _ _ h) | with_reducible apply Keeps.ite
      | with_reducible apply KeepsOut.ite | split | dsimp only)

theorem execMicroLdctx_keeps (i : Nat) (ecc : Nat) (t : Nat) : KeepsOut p s (execMicroLdctx i ecc t s) := by
  have h : Keeps p s s := Keeps.start
  unfold execMicroLdctx
  try dsimp only
  repeat' (
    first
      | with_reducible exact h | with_reducible rfl | with_reducible exact KeepsOut.fault _
      | with_reducible apply KeepsOut.next | with_reducible apply doMicro_keeps
      | (with_reducible apply foldl_keeps; intro _ _ h) | with_reducible apply Keeps.ite
      | with_reducible apply KeepsOut.ite | split | dsimp only)

theorem execMicroAdd_keeps (i : Nat) (ecc : Nat) (t : Nat) : KeepsOut p s (execMicroAdd i ecc t s) := by
  have h : Keeps p s s := Keeps.start
  unfold execMicroAdd
  try dsimp only
  repeat' (
    first
      | with_reducible exact h | with_reducible rfl | with_reducible exact KeepsOut.fault _
      | with_reducible apply KeepsOut.next | with_reducible apply doMicro_keeps
      | (with_reducible apply foldl_keeps; intro _ _ h) | with_reducible apply Keeps.ite
      | with_reducible apply KeepsOut.ite | split | dsimp only)

theorem execMicroSub_keeps (i : Nat) (ecc : Nat) (t : Nat) : KeepsOut p s (execMicroSub i ecc t s) := by
  have h : Keeps p s s := Keeps.start
  unfold execMicroSub
  try dsimp only
  repeat' (
    first
      | with_reducible exact h | with_reducible rfl | with_reducible exact KeepsOut.fault _
      | with_reducible apply KeepsOut.next | with_reducible apply doMicro_keeps
      | (with_reducible apply foldl_keeps; intro _ _ h) | with_reducible apply Keeps.ite
      | with_reducible apply KeepsOut.ite | split | dsimp only)

theorem execMicroAnd_keeps (i : Nat) (ecc : Nat) (t : Nat) : KeepsOut p s (execMicroAnd i ecc t s) := by
  have h : Keeps p s s := Keeps.start
  unfold execMicroAnd
  try dsimp only
  repeat' (
    first
      | with_reducible exact h | with_reducible rfl | with_reducible exact KeepsOut.fault _
      | with_reducible apply KeepsOut.next | with_reducible apply doMicro_keeps
      | (with_reducible apply foldl_keeps; intro _ _ h) | with_reducible apply Keeps.ite
      | with_reducible apply KeepsOut.ite | split | dsimp only)

theorem execMicroOr_keeps (i : Nat) (ecc : Nat) (t : Nat) : KeepsOut p s (execMicroOr i ecc t s) := by
  have h : Keeps p s s := Keeps.start
  unfold execMicroOr
  try dsimp only
  repeat' (
    first
      | with_reducible exact h | with_reducible rfl | with_reducible exact KeepsOut.fault _
      | with_reducible apply KeepsOut.next | with_reducible apply doMicro_keeps
      | (with_reducible apply foldl_keeps; intro _ _ h) | with_reducible apply Keeps.ite
      | with_reducible apply KeepsOut.ite | split | dsimp only)

theorem execMicroShl_keeps (i : Nat) (ecc : Nat) (t : Nat) : KeepsOut p s (execMicroShl i ecc t s) := by
  have h : Keeps p s s := Keeps.start
  unfold execMicroShl
  try dsimp only
  repeat' (
    first
      | with_reducible exact h | with_reducible rfl | with_reducible exact KeepsOut.fault _
      | with_reducible apply KeepsOut.next | with_reducible apply doMicro_keeps
      | (with_reducible apply foldl_keeps; intro _ _ h) | with_reducible apply Keeps.ite
      | with_reducible apply KeepsOut.ite | split | dsimp only)

theorem execMicroShr_keeps (i : Nat) (ecc : Nat) (t : Nat) : KeepsOut p s (execMicroShr i ecc t s) := by
  have h : Keeps p s s := Keeps.start
  unfold execMicroShr
  try dsimp only
  repeat' (
    first
      | with_reducible exact h | with_reducible rfl | with_reducible exact KeepsOut.fault _
      | with_reducible apply KeepsOut.next | with_reducible apply doMicro_keeps
      | (with_reducible apply foldl_keeps; intro _ _ h) | with_reducible apply Keeps.ite
      | with_reducible apply KeepsOut.ite | split | dsimp only)

theorem execMicroGrant_keeps (i : Nat) (ecc : Nat) (t : Nat) : KeepsOut p s (execMicroGrant i ecc t s) := by
  have h : Keeps p s s := Keeps.start
  unfold execMicroGrant
  try dsimp only
  repeat' (
    first
      | with_reducible exact h | with_reducible rfl | with_reducible exact KeepsOut.fault _
      | with_reducible apply KeepsOut.next | with_reducible apply doMicro_keeps
      | (with_reducible apply foldl_keeps; intro _ _ h) | with_reducible apply Keeps.ite
      | with_reducible apply KeepsOut.ite | split | dsimp only)

theorem execMicroRead_keeps (i : Nat) (ecc : Nat) (t : Nat) : KeepsOut p s (execMicroRead i ecc t s) := by
  have h : Keeps p s s := Keeps.start
  unfold execMicroRead
  try dsimp only
  repeat' (
    first
      | with_reducible exact h | with_reducible rfl | with_reducible exact KeepsOut.fault _
      | with_reducible apply KeepsOut.next | with_reducible apply doMicro_keeps
      | (with_reducible apply foldl_keeps; intro _ _ h) | with_reducible apply Keeps.ite
      | with_reducible apply KeepsOut.ite | split | dsimp only)

theorem execMicroComb_keeps (i : Nat) (ecc : Nat) (t : Nat) : KeepsOut p s (execMicroComb i ecc t s) := by
  have h : Keeps p s s := Keeps.start
  unfold execMicroComb
  try dsimp only
  repeat' (
    first
      | with_reducible exact h | with_reducible rfl | with_reducible exact KeepsOut.fault _
      | with_reducible apply KeepsOut.next | with_reducible apply doMicro_keeps
      | (with_reducible apply foldl_keeps; intro _ _ h) | with_reducible apply Keeps.ite
      | with_reducible apply KeepsOut.ite | split | dsimp only)

theorem execMicroFill_keeps (i : Nat) (ecc : Nat) (t : Nat) : KeepsOut p s (execMicroFill i ecc t s) := by
  have h : Keeps p s s := Keeps.start
  unfold execMicroFill
  try dsimp only
  repeat' (
    first
      | with_reducible exact h | with_reducible rfl | with_reducible exact KeepsOut.fault _
      | with_reducible apply KeepsOut.next | with_reducible apply doMicro_keeps
      | (with_reducible apply foldl_keeps; intro _ _ h) | with_reducible apply Keeps.ite
      | with_reducible apply KeepsOut.ite | split | dsimp only)

theorem execMicroSend_keeps (i : Nat) (ecc : Nat) (t : Nat) : KeepsOut p s (execMicroSend i ecc t s) := by
  have h : Keeps p s s := Keeps.start
  unfold execMicroSend
  try dsimp only
  repeat' (
    first
      | with_reducible exact h | with_reducible rfl | with_reducible exact KeepsOut.fault _
      | with_reducible apply KeepsOut.next | with_reducible apply doMicro_keeps
      | (with_reducible apply foldl_keeps; intro _ _ h) | with_reducible apply Keeps.ite
      | with_reducible apply KeepsOut.ite | split | dsimp only)

theorem execMicroWrite_keeps (i : Nat) (ecc : Nat) (t : Nat) : KeepsOut p s (execMicroWrite i ecc t s) := by
  have h : Keeps p s s := Keeps.start
  unfold execMicroWrite
  try dsimp only
  repeat' (
    first
      | with_reducible exact h | with_reducible rfl | with_reducible exact KeepsOut.fault _
      | with_reducible apply KeepsOut.next | with_reducible apply doMicro_keeps
      | (with_reducible apply foldl_keeps; intro _ _ h) | with_reducible apply Keeps.ite
      | with_reducible apply KeepsOut.ite | split | dsimp only)

theorem execMicroSetf_keeps (i : Nat) (ecc : Nat) (t : Nat) : KeepsOut p s (execMicroSetf i ecc t s) := by
  have h : Keeps p s s := Keeps.start
  unfold execMicroSetf
  try dsimp only
  repeat' (
    first
      | with_reducible exact h | with_reducible rfl | with_reducible exact KeepsOut.fault _
      | with_reducible apply KeepsOut.next | with_reducible apply doMicro_keeps
      | (with_reducible apply foldl_keeps; intro _ _ h) | with_reducible apply Keeps.ite
      | with_reducible apply KeepsOut.ite | split | dsimp only)

theorem execMicroClrf_keeps (i : Nat) (ecc : Nat) (t : Nat) : KeepsOut p s (execMicroClrf i ecc t s) := by
  have h : Keeps p s s := Keeps.start
  unfold execMicroClrf
  try dsimp only
  repeat' (
    first
      | with_reducible exact h | with_reducible rfl | with_reducible exact KeepsOut.fault _
      | with_reducible apply KeepsOut.next | with_reducible apply doMicro_keeps
      | (with_reducible apply foldl_keeps; intro _ _ h) | with_reducible apply Keeps.ite
      | with_reducible apply KeepsOut.ite | split | dsimp only)

theorem execMicroEnd_keeps (i : Nat) (ecc : Nat) (t : Nat) : KeepsOut p s (execMicroEnd i ecc t s) := by
  have h : Keeps p s s := Keeps.start
  unfold execMicroEnd
  try dsimp only
  repeat' (
    first
      | with_reducible exact h | with_reducible rfl | with_reducible exact KeepsOut.fault _
      | with_reducible apply KeepsOut.next | with_reducible apply doMicro_keeps
      | (with_reducible apply foldl_keeps; intro _ _ h) | with_reducible apply Keeps.ite
      | with_reducible apply KeepsOut.ite | split | dsimp only)

theorem execWaitConditionTrue_keeps (i : Nat) (t : Nat) : KeepsOut p s (execWaitConditionTrue i t s) := by
  have h : Keeps p s s := Keeps.start
  unfold execWaitConditionTrue
  try dsimp only
  repeat' (
    first
      | with_reducible exact h | with_reducible rfl | with_reducible exact KeepsOut.fault _
      | with_reducible apply KeepsOut.next | with_reducible apply startComb_keeps
      | with_reducible apply execWord_keeps | (with_reducible apply foldl_keeps; intro _ _ h)
      | with_reducible apply Keeps.ite | with_reducible apply KeepsOut.ite | split | dsimp only)

theorem execSpokeRestart_keeps (i : Nat) : KeepsOut p s (execSpokeRestart i s) := by
  have h : Keeps p s s := Keeps.start
  unfold execSpokeRestart
  try dsimp only
  repeat' (
    first
      | with_reducible exact h | with_reducible rfl | with_reducible exact KeepsOut.fault _
      | with_reducible apply KeepsOut.next | with_reducible apply setSpoke_keeps
      | (with_reducible apply foldl_keeps; intro _ _ h) | with_reducible apply Keeps.ite
      | with_reducible apply KeepsOut.ite | split | dsimp only)

theorem wakeStalled_keeps (h : Keeps p s0 s) (key : Nat) (bad : Bool) (t : Nat) : Keeps p s0 (wakeStalled s key bad t)
    := by
  unfold wakeStalled
  try dsimp only
  repeat' (
    first
      | with_reducible exact h | with_reducible rfl | with_reducible apply setSpoke_keeps
      | with_reducible apply finishItem_keeps | with_reducible apply restartSpoke_keeps
      | (with_reducible apply foldl_keeps; intro _ _ h) | with_reducible apply Keeps.ite | split | dsimp only)

theorem execCsBlockReloadComplete_keeps (h_ : Nat) (blk : Nat) (flashOk : Bool) (t : Nat) : KeepsOut p s
    (execCsBlockReloadComplete h_ blk flashOk t s) := by
  have h : Keeps p s s := Keeps.start
  unfold execCsBlockReloadComplete
  try dsimp only
  repeat' (
    first
      | with_reducible exact h | with_reducible rfl | with_reducible exact KeepsOut.fault _
      | with_reducible apply KeepsOut.next | with_reducible apply raise_keeps | with_reducible apply bump_keeps
      | with_reducible apply wakeStalled_keeps | with_reducible apply wr_keeps
      | (with_reducible apply foldl_keeps; intro _ _ h) | simp only [Keeps.upd_iff] | with_reducible apply Keeps.ite
      | with_reducible apply KeepsOut.ite | split | dsimp only)

theorem putSlot_keeps (h : Keeps p s0 s) (stream : Nat) (key : Nat) (b : SlotBuf) : Keeps p s0 (putSlot s stream key
    b) := by
  unfold putSlot
  try dsimp only
  repeat' (
    first
      | with_reducible exact h | with_reducible rfl | with_reducible apply updOp_keeps
      | (with_reducible apply foldl_keeps; intro _ _ h) | with_reducible apply Keeps.ite | split | dsimp only)

theorem dropEngine_keeps (h : Keeps p s0 s) (stream : Nat) (k : Nat) : Keeps p s0 (dropEngine s stream k) := by
  unfold dropEngine
  try dsimp only
  repeat' (
    first
      | with_reducible exact h | with_reducible rfl | with_reducible apply updOp_keeps
      | (with_reducible apply foldl_keeps; intro _ _ h) | with_reducible apply Keeps.ite | split | dsimp only)

theorem hubSramUe_keeps (h : Keeps p s0 s) (item : Nat) (t : Nat) : Keeps p s0 (hubSramUe s item t) := by
  unfold hubSramUe
  try dsimp only
  repeat' (
    first
      | with_reducible exact h | with_reducible rfl | with_reducible apply finishItem_keeps
      | (with_reducible apply foldl_keeps; intro _ _ h) | with_reducible apply Keeps.ite | split | dsimp only)

theorem sendSegment_keeps (h : Keeps p s0 s) (stream : Nat) (dst : Nat × Nat) (seg : Nat) (o : CollOp) (inAcc : Bool)
    (bs : List Byte) (t : Nat) : Keeps p s0 (sendSegment s stream dst seg o inAcc bs t) := by
  unfold sendSegment
  try dsimp only
  repeat' (
    first
      | with_reducible exact h | with_reducible rfl | with_reducible apply sendColl_keeps
      | (with_reducible apply foldl_keeps; intro _ _ h) | with_reducible apply Keeps.ite | split | dsimp only)

theorem takeSlot_keeps (h : Keeps p s0 s) (stream : Nat) (key : Nat) (b : SlotBuf) : Keeps p s0 (takeSlot s stream key
    b) := by
  unfold takeSlot
  try dsimp only
  repeat' (
    first
      | with_reducible exact h | with_reducible rfl | with_reducible apply putSlot_keeps
      | (with_reducible apply foldl_keeps; intro _ _ h) | with_reducible apply Keeps.ite | split | dsimp only)

theorem completeEngine_keeps (h : Keeps p s0 s) (stream : Nat) (k : Nat) (p_ : Spoke) (e : EngOp) (t : Nat) : Keeps p
    s0 (completeEngine s stream k p_ e t) := by
  unfold completeEngine
  try dsimp only
  repeat' (
    first
      | with_reducible exact h | with_reducible rfl | with_reducible apply dropEngine_keeps
      | with_reducible apply updOp_keeps | with_reducible apply sendColl_keeps
      | with_reducible apply finishItem_keeps | with_reducible apply fenceRefuse_keeps
      | with_reducible apply notePeak_keeps | with_reducible apply putSlot_keeps
      | with_reducible apply takeSlot_keeps | with_reducible apply sendSegment_keeps
      | with_reducible apply writeResult_keeps | with_reducible apply setItem_keeps
      | (with_reducible apply foldl_keeps; intro _ _ h) | (with_reducible apply foldl_fst_keeps; intro _ _ h)
      | (with_reducible apply foldl_snd_keeps; intro _ _ h) | simp only [Keeps.upd_iff]
      | with_reducible apply Keeps.ite | split | dsimp only)

theorem execEngineOpComplete_keeps (stream : Nat) (k : Nat) (t : Nat) : KeepsOut p s (execEngineOpComplete stream k t
    s) := by
  have h : Keeps p s s := Keeps.start
  unfold execEngineOpComplete
  try dsimp only
  repeat' (
    first
      | with_reducible exact h | with_reducible rfl | with_reducible exact KeepsOut.fault _
      | with_reducible apply KeepsOut.next | with_reducible apply aluStart_keeps
      | with_reducible apply completeEngine_keeps | (with_reducible apply foldl_keeps; intro _ _ h)
      | with_reducible apply Keeps.ite | with_reducible apply KeepsOut.ite | split | dsimp only)

theorem writeAgain_keeps (h : Keeps p s0 s) (stream : Nat) (pos : Nat) (seg : Nat) (t : Nat) : Keeps p s0 (writeAgain
    s stream pos seg t) := by
  unfold writeAgain
  try dsimp only
  repeat' (
    first
      | with_reducible exact h | with_reducible rfl | with_reducible apply writeResult_keeps
      | with_reducible apply updOp_keeps | with_reducible apply finishItem_keeps
      | (with_reducible apply foldl_keeps; intro _ _ h) | (with_reducible apply foldl_fst_keeps; intro _ _ h)
      | (with_reducible apply foldl_snd_keeps; intro _ _ h) | with_reducible apply Keeps.ite | split | dsimp only)

theorem execSegmentRx_keeps (stream : Nat) (pos : Nat) (src : Nat) (seg : Nat) (inAcc : Bool) (data : List Byte)
    (result : Option Nat) (t : Nat) : KeepsOut p s (execSegmentRx stream pos src seg inAcc data result t s) := by
  have h : Keeps p s s := Keeps.start
  unfold execSegmentRx
  try dsimp only
  repeat' (
    first
      | with_reducible exact h | with_reducible rfl | with_reducible exact KeepsOut.fault _
      | with_reducible apply KeepsOut.next | with_reducible apply lateContribution_keeps
      | with_reducible apply raise_keeps | with_reducible apply bump_keeps | with_reducible apply aluStart_keeps
      | with_reducible apply writeAgain_keeps | with_reducible apply notePeak_keeps
      | with_reducible apply setOp_keeps | (with_reducible apply foldl_keeps; intro _ _ h)
      | with_reducible apply Keeps.ite | with_reducible apply KeepsOut.ite | split | dsimp only)

theorem execSegmentCreditRx_keeps (stream : Nat) (dir : Nat) (peer : Nat) (seg : Nat) : KeepsOut p s
    (execSegmentCreditRx stream dir peer seg s) := by
  have h : Keeps p s s := Keeps.start
  unfold execSegmentCreditRx
  try dsimp only
  repeat' (
    first
      | with_reducible exact h | with_reducible rfl | with_reducible exact KeepsOut.fault _
      | with_reducible apply KeepsOut.next | with_reducible apply updOp_keeps
      | (with_reducible apply foldl_keeps; intro _ _ h) | with_reducible apply Keeps.ite
      | with_reducible apply KeepsOut.ite | split | dsimp only)

theorem resendUp_keeps (h : Keeps p s0 s) (stream : Nat) (j0 : Nat) (t : Nat) : Keeps p s0 (resendUp s stream j0 t) :=
    by
  unfold resendUp
  try dsimp only
  repeat' (
    first
      | with_reducible exact h | with_reducible rfl | with_reducible apply sendSegment_keeps
      | (with_reducible apply foldl_keeps; intro _ _ h) | with_reducible apply Keeps.ite | split | dsimp only)

theorem execTreeResume_keeps (stream : Nat) (j0 : Nat) (t : Nat) : KeepsOut p s (execTreeResume stream j0 t s) := by
  have h : Keeps p s s := Keeps.start
  unfold execTreeResume
  try dsimp only
  repeat' (
    first
      | with_reducible exact h | with_reducible rfl | with_reducible exact KeepsOut.fault _
      | with_reducible apply KeepsOut.next | with_reducible apply dropMember_keeps
      | with_reducible apply sendDown_keeps | with_reducible apply restartSpoke_keeps
      | with_reducible apply updOp_keeps | with_reducible apply resendUp_keeps | with_reducible apply setOp_keeps
      | (with_reducible apply foldl_keeps; intro _ _ h) | with_reducible apply Keeps.ite
      | with_reducible apply KeepsOut.ite | split | dsimp only)

end Sys2Proof.Machine
end

