-- ==== Sys2Proof/Laws/KeepsFlows.lean ====
section
/-! SUPPORT. Every operation of Machine/Flows.lean keeps the anchor (Laws/Keeps.lean). -/

namespace Sys2Proof.Machine

variable {α : Type} {p : Anchor → α} {s0 s : State}

theorem setFab_keeps (h : Keeps p s0 s) (f : Fabric) (h1 : f.routes = s.fab.routes) : Keeps p s0 (setFab s f) := by
  unfold setFab
  simpa only [Keeps.upd_iff, h1] using h

theorem putFlow_keeps (h : Keeps p s0 s) (f : OutFlow) : Keeps p s0 (putFlow s f) := by
  unfold putFlow
  try dsimp only
  repeat' (
    first
      | with_reducible exact h | with_reducible rfl | with_reducible apply setFab_keeps
      | (with_reducible apply foldl_keeps; intro _ _ h) | with_reducible apply Keeps.ite | split | rfl | dsimp only)

theorem sendPiece_keeps (h : Keeps p s0 s) (part : Nat) (chan : Nat) (dst : Nat) (transfer : Nat) (t : Nat) (fence :
    Bool) (x : Piece) : Keeps p s0 (sendPiece part chan dst transfer t fence s x) := by
  unfold sendPiece
  try dsimp only
  repeat' (
    first
      | with_reducible exact h | with_reducible rfl | with_reducible apply putFlow_keeps
      | with_reducible apply sendOwn_keeps | (with_reducible apply foldl_keeps; intro _ _ h)
      | with_reducible apply Keeps.ite | split | dsimp only)

theorem forgetTag_keeps (h : Keeps p s0 s) (g : Nat) : Keeps p s0 (forgetTag s g) := by
  unfold forgetTag
  try dsimp only
  repeat' (
    first
      | with_reducible exact h | with_reducible rfl | (with_reducible apply foldl_keeps; intro _ _ h)
      | simp only [Keeps.upd_iff] | with_reducible apply Keeps.ite | split | dsimp only)

theorem stagePieces_keeps (h : Keeps p s0 s) (tr : Transfer) (t : Nat) (l : List Piece) :
    Keeps p s0 (stagePieces tr t l s).1 := by
  induction l generalizing s with
  | nil => exact h
  | cons x l ih =>
    unfold stagePieces
    dsimp only
    split
    · exact ih (sendPiece_keeps h _ _ _ _ _ _ _)
    · exact h

theorem setWaiting_keeps (h : Keeps p s0 s) (tr : Transfer) (l : List Piece) : Keeps p s0 (setWaiting s tr l) := by
  unfold setWaiting
  try dsimp only
  repeat' (
    first
      | with_reducible exact h | with_reducible rfl | with_reducible apply setFab_keeps
      | (with_reducible apply foldl_keeps; intro _ _ h) | with_reducible apply Keeps.ite | split | rfl | dsimp only)

theorem fillStage_keeps (h : Keeps p s0 s) (t : Nat) : Keeps p s0 (fillStage s t) := by
  unfold fillStage
  try dsimp only
  repeat' (
    first
      | with_reducible exact h | with_reducible rfl | with_reducible apply stagePieces_keeps
      | with_reducible apply setWaiting_keeps | (with_reducible apply foldl_keeps; intro _ _ h)
      | (with_reducible apply foldl_fst_keeps; intro _ _ h) | (with_reducible apply foldl_snd_keeps; intro _ _ h)
      | with_reducible apply Keeps.ite | split | dsimp only)

theorem startTransfer_keeps (h : Keeps p s0 s) (part : Nat) (chan : Nat) (dst : Nat) (order : Nat) (staged : Bool)
    (pieces : List Piece) (t : Nat) : Keeps p s0 (startTransfer s part chan dst order staged pieces t) := by
  unfold startTransfer
  try dsimp only
  repeat' (
    first
      | with_reducible exact h | with_reducible rfl | with_reducible apply forgetTag_keeps
      | with_reducible apply setFab_keeps | with_reducible apply fillStage_keeps
      | with_reducible apply sendPiece_keeps | (with_reducible apply foldl_keeps; intro _ _ h)
      | with_reducible apply Keeps.ite | split | rfl | dsimp only)

theorem endTransfer_keeps (h : Keeps p s0 s) (tr : Transfer) (st : Status) (d : Nat) : Keeps p s0 (endTransfer s tr st
    d) := by
  unfold endTransfer
  try dsimp only
  repeat' (
    first
      | with_reducible exact h | with_reducible rfl | with_reducible apply setFab_keeps
      | (with_reducible apply foldl_keeps; intro _ _ h) | with_reducible apply Keeps.ite | split | rfl | dsimp only)

theorem resendOne_keeps (h : Keeps p s0 s) (f : OutFlow) (t : Nat) (u : Sent) : Keeps p s0 (resendOne f t s u) := by
  unfold resendOne
  try dsimp only
  repeat' (
    first
      | with_reducible exact h | with_reducible rfl | with_reducible apply sendOwn_keeps
      | with_reducible apply bump_keeps | (with_reducible apply foldl_keeps; intro _ _ h)
      | with_reducible apply Keeps.ite | split | dsimp only)

theorem resendFlow_keeps (h : Keeps p s0 s) (f : OutFlow) (t : Nat) : Keeps p s0 (resendFlow s f t) := by
  unfold resendFlow
  try dsimp only
  repeat' (
    first
      | with_reducible exact h | with_reducible rfl | with_reducible apply resendOne_keeps
      | (with_reducible apply foldl_keeps; intro _ _ h) | with_reducible apply Keeps.ite | split | dsimp only)

theorem renewVias_keeps (h : Keeps p s0 s) : Keeps p s0 (renewVias s) := by
  unfold renewVias
  try dsimp only
  repeat' (
    first
      | with_reducible exact h | with_reducible rfl | with_reducible apply setFab_keeps
      | (with_reducible apply foldl_keeps; intro _ _ h) | with_reducible apply Keeps.ite | split | rfl | dsimp only)

theorem ackFlow_keeps (h : Keeps p s0 s) (part : Nat) (chan : Nat) (dst : Nat) (next : Nat) : Keeps p s0 (ackFlow s
    part chan dst next) := by
  unfold ackFlow
  try dsimp only
  repeat' (
    first
      | with_reducible exact h | with_reducible rfl | with_reducible apply putFlow_keeps
      | with_reducible apply endTransfer_keeps | (with_reducible apply foldl_keeps; intro _ _ h)
      | with_reducible apply Keeps.ite | split | dsimp only)

theorem flowTimeout_keeps (h : Keeps p s0 s) (f : OutFlow) (t : Nat) : Keeps p s0 (flowTimeout s f t) := by
  unfold flowTimeout
  try dsimp only
  repeat' (
    first
      | with_reducible exact h | with_reducible rfl | with_reducible apply countConseq_keeps
      | with_reducible apply putFlow_keeps | with_reducible apply raise_keeps
      | with_reducible apply endTransfer_keeps | with_reducible apply noteTimeout_keeps
      | with_reducible apply resendFlow_keeps | (with_reducible apply foldl_keeps; intro _ _ h)
      | with_reducible apply Keeps.ite | split | dsimp only)

theorem severModule_keeps (h : Keeps p s0 s) (t : Nat) : Keeps p s0 (severModule s t) := by
  unfold severModule
  try dsimp only
  repeat' (
    first
      | with_reducible exact h | with_reducible rfl | with_reducible apply finishItem_keeps
      | (with_reducible apply foldl_keeps; intro _ _ h) | simp only [Keeps.upd_iff] | with_reducible apply Keeps.ite
      | split | dsimp only)

theorem dropUnreachable_keeps (h : Keeps p s0 s) : Keeps p s0 (dropUnreachable s) := by
  unfold dropUnreachable
  try dsimp only
  repeat' (
    first
      | with_reducible exact h | with_reducible rfl | with_reducible apply endTransfer_keeps
      | (with_reducible apply foldl_keeps; intro _ _ h) | with_reducible apply Keeps.ite | split | dsimp only)

theorem dropVia_keeps (h : Keeps p s0 s) (m : Nat) : Keeps p s0 (dropVia s m) := by
  unfold dropVia
  try dsimp only
  repeat' (
    first
      | with_reducible exact h | with_reducible rfl | with_reducible apply setFab_keeps
      | (with_reducible apply foldl_keeps; intro _ _ h) | with_reducible apply Keeps.ite | split | rfl | dsimp only)

theorem moduleDown_keeps (h : Keeps p s0 s) (m : Nat) (from_ : Option Nat) (t : Nat) : Keeps p s0 (moduleDown s m
    from_ t) := by
  unfold moduleDown
  try dsimp only
  repeat' (
    first
      | with_reducible exact h | with_reducible rfl | with_reducible apply setFab_keeps
      | with_reducible apply flood_keeps | with_reducible apply raise_keeps | with_reducible apply bump_keeps
      | with_reducible apply severModule_keeps | with_reducible apply switchTree_keeps
      | with_reducible apply dropUnreachable_keeps | with_reducible apply dropVia_keeps
      | (with_reducible apply foldl_keeps; intro _ _ h) | with_reducible apply Keeps.ite | split | rfl | dsimp only)

theorem checkNeighbour_keeps (h : Keeps p s0 s) (n : Nat) (lost : Bool) (t : Nat) : Keeps p s0 (checkNeighbour s n
    lost t) := by
  unfold checkNeighbour
  try dsimp only
  repeat' (
    first
      | with_reducible exact h | with_reducible rfl | with_reducible apply dropUnreachable_keeps
      | with_reducible apply moduleDown_keeps | (with_reducible apply foldl_keeps; intro _ _ h)
      | with_reducible apply Keeps.ite | split | dsimp only)

theorem ageLedger_keeps (h : Keeps p s0 s) : Keeps p s0 (ageLedger s) := by
  unfold ageLedger
  try dsimp only
  repeat' (
    first
      | with_reducible exact h | with_reducible rfl | (with_reducible apply foldl_keeps; intro _ _ h)
      | simp only [Keeps.upd_iff] | with_reducible apply Keeps.ite | split | dsimp only)

theorem closeTag_keeps (h : Keeps p s0 s) (tag : Nat) : Keeps p s0 (closeTag s tag) := by
  unfold closeTag
  try dsimp only
  repeat' (
    first
      | with_reducible exact h | with_reducible rfl | (with_reducible apply foldl_keeps; intro _ _ h)
      | simp only [Keeps.upd_iff] | with_reducible apply Keeps.ite | split | dsimp only)

theorem lateFault_keeps (h : Keeps p s0 s) (tag : Nat) (t : Nat) : Keeps p s0 (lateFault s tag t) := by
  unfold lateFault
  try dsimp only
  repeat' (
    first
      | with_reducible exact h | with_reducible rfl | with_reducible apply countConseq_keeps
      | with_reducible apply wr_keeps | (with_reducible apply foldl_keeps; intro _ _ h)
      | with_reducible apply Keeps.ite | split | dsimp only)

theorem faultOwn_keeps (h : Keeps p s0 s) (ptype : Nat) (tag : Nat) (t : Nat) : Keeps p s0 (faultOwn s ptype tag t) :=
    by
  unfold faultOwn
  try dsimp only
  repeat' (
    first
      | with_reducible exact h | with_reducible rfl | with_reducible apply resendFlow_keeps
      | with_reducible apply putFlow_keeps | with_reducible apply finishItem_keeps
      | with_reducible apply closeTag_keeps | (with_reducible apply foldl_keeps; intro _ _ h)
      | with_reducible apply Keeps.ite | split | dsimp only)

theorem logFault_keeps (h : Keeps p s0 s) (port : Nat) (tag : Nat) (rx : Bool) : Keeps p s0 (logFault s port tag rx)
    := by
  unfold logFault
  try dsimp only
  repeat' (
    first
      | with_reducible exact h | with_reducible rfl | with_reducible apply wr_keeps
      | (with_reducible apply foldl_keeps; intro _ _ h) | with_reducible apply Keeps.ite | split | dsimp only)

theorem faultContribution_keeps (h : Keeps p s0 s) (p_ : Packet) (t : Nat) : Keeps p s0 (faultContribution s p_ t) :=
    by
  unfold faultContribution
  try dsimp only
  repeat' (
    first
      | with_reducible exact h | with_reducible rfl | with_reducible apply sealWhenReady_keeps
      | with_reducible apply loseMember_keeps | (with_reducible apply foldl_keeps; intro _ _ h)
      | with_reducible apply Keeps.ite | split | dsimp only)

theorem reportOp_keeps (h : Keeps p s0 s) (port : Nat) (rx : Bool) (t : Nat) (p_ : Packet) : Keeps p s0 (reportOp port
    rx t s p_) := by
  unfold reportOp
  try dsimp only
  repeat' (
    first
      | with_reducible exact h | with_reducible rfl | with_reducible apply logFault_keeps
      | with_reducible apply bump_keeps | with_reducible apply lateFault_keeps
      | with_reducible apply faultContribution_keeps | with_reducible apply faultOwn_keeps
      | with_reducible apply sendCtl_keeps | (with_reducible apply foldl_keeps; intro _ _ h)
      | simp only [Keeps.upd_iff] | with_reducible apply Keeps.ite | split | dsimp only)

theorem reportPort_keeps (h : Keeps p s0 s) (n : Nat) (replay : List Flit) (rx : Option Packet) (t : Nat) : Keeps p s0
    (reportPort s n replay rx t) := by
  unfold reportPort
  try dsimp only
  repeat' (
    first
      | with_reducible exact h | with_reducible rfl | with_reducible apply reportOp_keeps
      | (with_reducible apply foldl_keeps; intro _ _ h) | with_reducible apply Keeps.ite | split | dsimp only)

end Sys2Proof.Machine
end

