-- ==== Sys2Proof/Laws/KeepsMasks.lean ====
section
/-! SUPPORT. Every operation of Machine/Masks.lean keeps the anchor (Laws/Keeps.lean). -/

namespace Sys2Proof.Machine

variable {α : Type} {p : Anchor → α} {s0 s : State}

theorem autoFail_keeps (h : Keeps p s0 s) (t : Nat) : Keeps p s0 (autoFail s t) := by
  unfold autoFail
  try dsimp only
  repeat' (
    first
      | with_reducible exact h | with_reducible rfl | with_reducible apply raise_keeps
      | (with_reducible apply foldl_keeps; intro _ _ h) | with_reducible apply Keeps.ite | split | dsimp only)

theorem execAutoLoad_keeps (n : Nat) (t : Nat) : KeepsOut p s (execAutoLoad n t s) := by
  have h : Keeps p s s := Keeps.start
  unfold execAutoLoad
  try dsimp only
  repeat' (
    first
      | with_reducible exact h | with_reducible rfl | with_reducible exact KeepsOut.fault _
      | with_reducible apply KeepsOut.next | with_reducible apply autoFail_keeps | with_reducible apply wr_keeps
      | (with_reducible apply foldl_keeps; intro _ _ h) | with_reducible apply Keeps.ite
      | with_reducible apply KeepsOut.ite | split | dsimp only)

theorem execAutoUnload_keeps (n : Nat) (t : Nat) : KeepsOut p s (execAutoUnload n t s) := by
  have h : Keeps p s s := Keeps.start
  unfold execAutoUnload
  try dsimp only
  repeat' (
    first
      | with_reducible exact h | with_reducible rfl | with_reducible exact KeepsOut.fault _
      | with_reducible apply KeepsOut.next | with_reducible apply autoFail_keeps | with_reducible apply wr_keeps
      | (with_reducible apply foldl_keeps; intro _ _ h) | with_reducible apply Keeps.ite
      | with_reducible apply KeepsOut.ite | split | dsimp only)

theorem execAutoValidationDone_keeps (t : Nat) : KeepsOut p s (execAutoValidationDone t s) := by
  have h : Keeps p s s := Keeps.start
  unfold execAutoValidationDone
  try dsimp only
  repeat' (
    first
      | with_reducible exact h | with_reducible rfl | with_reducible exact KeepsOut.fault _
      | with_reducible apply KeepsOut.next | with_reducible apply wr_keeps | with_reducible apply autoFail_keeps
      | (with_reducible apply foldl_keeps; intro _ _ h) | with_reducible apply Keeps.ite
      | with_reducible apply KeepsOut.ite | split | dsimp only)

theorem execAdapterRegister_keeps (a : Nat) (v : Word) (t : Nat) : KeepsOut p s (execAdapterRegister a v t s) := by
  have h : Keeps p s s := Keeps.start
  unfold execAdapterRegister
  try dsimp only
  repeat' (
    first
      | with_reducible exact h | with_reducible rfl | with_reducible exact KeepsOut.fault _
      | with_reducible apply KeepsOut.next | with_reducible apply wr_keeps | with_reducible apply raise_keeps
      | with_reducible apply bump_keeps | (with_reducible apply foldl_keeps; intro _ _ h)
      | with_reducible apply Keeps.ite | with_reducible apply KeepsOut.ite | split | dsimp only)

end Sys2Proof.Machine
end

