-- ==== Sys2Proof/Laws/KeepsLedger.lean ====
section
/-! SUPPORT. Every operation of Machine/Ledger.lean keeps the anchor (Laws/Keeps.lean). -/

namespace Sys2Proof.Machine

variable {α : Type} {p : Anchor → α} {s0 s : State}

theorem refuseClaim_keeps (h : Keeps p s0 s) (code : Nat) (t : Nat) : Keeps p s0 (refuseClaim s code t) := by
  unfold refuseClaim
  try dsimp only
  repeat' (
    first
      | with_reducible exact h | with_reducible rfl | with_reducible apply bump_keeps
      | with_reducible apply wr_keeps | with_reducible apply raise_keeps
      | (with_reducible apply foldl_keeps; intro _ _ h) | with_reducible apply Keeps.ite | split | dsimp only)

theorem shipFailed_keeps (h : Keeps p s0 s) (k : Nat) (st : Status) (d : Nat) (t : Nat) : Keeps p s0 (shipFailed s k
    st d t) := by
  unfold shipFailed
  try dsimp only
  repeat' (
    first
      | with_reducible exact h | with_reducible rfl | with_reducible apply endRequest_keeps
      | with_reducible apply tellDecode_keeps | with_reducible apply raise_keeps | with_reducible apply bump_keeps
      | (with_reducible apply foldl_keeps; intro _ _ h) | with_reducible apply Keeps.ite | split | dsimp only)

theorem reapTransfers_keeps (h : Keeps p s0 s) (t : Nat) : Keeps p s0 (reapTransfers s t) := by
  unfold reapTransfers
  try dsimp only
  repeat' (
    first
      | with_reducible exact h | with_reducible rfl | with_reducible apply setFab_keeps
      | with_reducible apply freeSlot_keeps | with_reducible apply shipFailed_keeps
      | with_reducible apply fillStage_keeps | (with_reducible apply foldl_keeps; intro _ _ h)
      | with_reducible apply Keeps.ite | split | rfl | dsimp only)

theorem promptKnown_keeps (h : Keeps p s0 s) (k : Nat) (bs : List Byte) (t : Nat) : Keeps p s0 (promptKnown s k bs t)
    := by
  unfold promptKnown
  try dsimp only
  repeat' (
    first
      | with_reducible exact h | with_reducible rfl | with_reducible apply wr_keeps
      | with_reducible apply reapTransfers_keeps | with_reducible apply startTransfer_keeps
      | (with_reducible apply foldl_keeps; intro _ _ h) | with_reducible apply Keeps.ite | split | dsimp only)

theorem readPrompt_keeps (h : Keeps p s0 s) (k : Nat) (t : Nat) : Keeps p s0 (readPrompt s k t) := by
  unfold readPrompt
  try dsimp only
  repeat' (
    first
      | with_reducible exact h | with_reducible rfl | with_reducible apply endRequest_keeps
      | with_reducible apply fenceRefuse_keeps | with_reducible apply issueRead_keeps
      | with_reducible apply promptKnown_keeps | (with_reducible apply foldl_keeps; intro _ _ h)
      | with_reducible apply Keeps.ite | split | dsimp only)

theorem promptPiece_keeps (h : Keeps p s0 s) (k : Nat) (off : Nat) (bs : List Byte) (t : Nat) : Keeps p s0
    (promptPiece s k off bs t) := by
  unfold promptPiece
  try dsimp only
  repeat' (
    first
      | with_reducible exact h | with_reducible rfl | with_reducible apply setSlot_keeps
      | with_reducible apply promptKnown_keeps | (with_reducible apply foldl_keeps; intro _ _ h)
      | with_reducible apply Keeps.ite | split | dsimp only)

theorem execLdgAdmit_keeps (v : Word) (t : Nat) : KeepsOut p s (execLdgAdmit v t s) := by
  have h : Keeps p s s := Keeps.start
  unfold execLdgAdmit
  try dsimp only
  repeat' (
    first
      | with_reducible exact h | with_reducible rfl | with_reducible exact KeepsOut.fault _
      | with_reducible apply KeepsOut.next | with_reducible apply wr_keeps | with_reducible apply refuseClaim_keeps
      | with_reducible apply takePages_keeps | with_reducible apply setSlot_keeps
      | with_reducible apply setLdg_keeps | with_reducible apply startFetch_keeps
      | with_reducible apply setQueue_keeps | with_reducible apply sendUpdate_keeps
      | with_reducible apply readPrompt_keeps | with_reducible apply bump_keeps
      | (with_reducible apply foldl_keeps; intro _ _ h) | with_reducible apply Keeps.ite
      | with_reducible apply KeepsOut.ite | split | rfl | dsimp only)

theorem writeBatch_keeps (h : Keeps p s0 s) (m : Nat) (kind : Nat) (tick : Nat) (md : Model) (recs : List BatchRec) (t
    : Nat) : Keeps p s0 (writeBatch s m kind tick md recs t) := by
  unfold writeBatch
  try dsimp only
  repeat' (
    first
      | with_reducible exact h | with_reducible rfl | with_reducible apply raise_keeps
      | with_reducible apply bump_keeps | with_reducible apply setRun_keeps | with_reducible apply hostWrite_keeps
      | with_reducible apply fenceRefuse_keeps | with_reducible apply wr_keeps | with_reducible apply setLdg_keeps
      | (with_reducible apply foldl_keeps; intro _ _ h) | with_reducible apply Keeps.ite | split | rfl | dsimp only)

theorem execOutputRingEnable_keeps (p_ : Nat) (v : Word) : KeepsOut p s (execOutputRingEnable p_ v s) := by
  have h : Keeps p s s := Keeps.start
  unfold execOutputRingEnable
  try dsimp only
  repeat' (
    first
      | with_reducible exact h | with_reducible rfl | with_reducible exact KeepsOut.fault _
      | with_reducible apply KeepsOut.next | with_reducible apply wr_keeps
      | (with_reducible apply foldl_keeps; intro _ _ h) | with_reducible apply Keeps.ite
      | with_reducible apply KeepsOut.ite | split | dsimp only)

theorem execLdgOutHeadWrite_keeps (p_ : Nat) (v : Word) : KeepsOut p s (execLdgOutHeadWrite p_ v s) := by
  have h : Keeps p s s := Keeps.start
  unfold execLdgOutHeadWrite
  try dsimp only
  repeat' (
    first
      | with_reducible exact h | with_reducible rfl | with_reducible exact KeepsOut.fault _
      | with_reducible apply KeepsOut.next | with_reducible apply setLdg_keeps | with_reducible apply wr_keeps
      | (with_reducible apply foldl_keeps; intro _ _ h) | with_reducible apply Keeps.ite
      | with_reducible apply KeepsOut.ite | split | rfl | dsimp only)

theorem writeCandidates_keeps (h : Keeps p s0 s) (k : Nat) (tick : Nat) (md : Model) (logits : List Nat) (t : Nat) :
    Keeps p s0 (writeCandidates s k tick md logits t) := by
  unfold writeCandidates
  try dsimp only
  repeat' (
    first
      | with_reducible exact h | with_reducible rfl | with_reducible apply setSlot_keeps
      | with_reducible apply hostWrite_keeps | with_reducible apply fenceRefuse_keeps
      | (with_reducible apply foldl_keeps; intro _ _ h) | with_reducible apply Keeps.ite | split | dsimp only)

theorem emitTokens_keeps (h : Keeps p s0 s) (k : Nat) (toks : List Nat) : Keeps p s0 (emitTokens s k toks) := by
  unfold emitTokens
  try dsimp only
  repeat' (
    first
      | with_reducible exact h | with_reducible rfl | with_reducible apply wr_keeps
      | with_reducible apply setSlot_keeps | (with_reducible apply foldl_keeps; intro _ _ h)
      | with_reducible apply Keeps.ite | split | dsimp only)

theorem emitRow_keeps (h : Keeps p s0 s) (k : Nat) (md : Model) (toks : List Nat) (none_ : Bool) (t : Nat) : Keeps p
    s0 (emitRow s k md toks none_ t).2 := by
  unfold emitRow
  try dsimp only
  repeat' (
    first
      | with_reducible exact h | with_reducible rfl | with_reducible apply emitTokens_keeps
      | with_reducible apply raise_keeps | with_reducible apply bump_keeps | with_reducible apply setSlot_keeps
      | (with_reducible apply foldl_keeps; intro _ _ h) | (with_reducible apply foldl_fst_keeps; intro _ _ h)
      | (with_reducible apply foldl_snd_keeps; intro _ _ h) | with_reducible apply Keeps.ite | split | dsimp only)

theorem deferMask_keeps (h : Keeps p s0 s) (m : Nat) (k : Nat) : Keeps p s0 (deferMask s m k) := by
  unfold deferMask
  try dsimp only
  repeat' (
    first
      | with_reducible exact h | with_reducible rfl | with_reducible apply setRun_keeps
      | (with_reducible apply foldl_keeps; intro _ _ h) | with_reducible apply Keeps.ite | split | dsimp only)

theorem endSoon_keeps (h : Keeps p s0 s) (k : Nat) (st : Status) (d : Nat) (t : Nat) : Keeps p s0 (endSoon s k st d t)
    := by
  unfold endSoon
  try dsimp only
  repeat' (
    first
      | with_reducible exact h | with_reducible rfl | with_reducible apply deferMask_keeps
      | with_reducible apply setSlot_keeps | with_reducible apply sendUpdate_keeps
      | with_reducible apply settleSlot_keeps | (with_reducible apply foldl_keeps; intro _ _ h)
      | with_reducible apply Keeps.ite | split | dsimp only)

theorem withdrawOrder_keeps (h : Keeps p s0 s) (k : Nat) : Keeps p s0 (withdrawOrder s k) := by
  unfold withdrawOrder
  try dsimp only
  repeat' (
    first
      | with_reducible exact h | with_reducible rfl | with_reducible apply sendCtl_keeps
      | (with_reducible apply foldl_keeps; intro _ _ h) | with_reducible apply Keeps.ite | split | dsimp only)

theorem cancelSlot_keeps (h : Keeps p s0 s) (k : Nat) (t : Nat) : Keeps p s0 (cancelSlot s k t) := by
  unfold cancelSlot
  try dsimp only
  repeat' (
    first
      | with_reducible exact h | with_reducible rfl | with_reducible apply bump_keeps
      | with_reducible apply endSoon_keeps | with_reducible apply withdrawOrder_keeps
      | with_reducible apply endRequest_keeps | (with_reducible apply foldl_keeps; intro _ _ h)
      | with_reducible apply Keeps.ite | split | dsimp only)

theorem dropQueueRequests_keeps (h : Keeps p s0 s) (q : Nat) (t : Nat) : Keeps p s0 (dropQueueRequests s q t) := by
  unfold dropQueueRequests
  try dsimp only
  repeat' (
    first
      | with_reducible exact h | with_reducible rfl | with_reducible apply withdrawOrder_keeps
      | with_reducible apply setSlot_keeps | with_reducible apply endSoon_keeps
      | with_reducible apply endRequest_keeps | (with_reducible apply foldl_keeps; intro _ _ h)
      | with_reducible apply Keeps.ite | split | dsimp only)

theorem dropPartRequests_keeps (h : Keeps p s0 s) (p_ : Nat) (t : Nat) : Keeps p s0 (dropPartRequests s p_ t) := by
  unfold dropPartRequests
  try dsimp only
  repeat' (
    first
      | with_reducible exact h | with_reducible rfl | with_reducible apply endRequest_keeps
      | with_reducible apply withdrawOrder_keeps | (with_reducible apply foldl_keeps; intro _ _ h)
      | with_reducible apply Keeps.ite | split | dsimp only)

end Sys2Proof.Machine
end

