-- ==== Sys2Proof/Laws/KeepsServing.lean ====
section
/-! SUPPORT. Every operation of Machine/Serving.lean keeps the anchor (Laws/Keeps.lean). -/

namespace Sys2Proof.Machine

variable {α : Type} {p : Anchor → α} {s0 s : State}

theorem startRow_keeps (h : Keeps p s0 s) (inTick : Nat) (t : Nat) (k : Nat) : Keeps p s0 (startRow inTick t s k) :=
    by
  unfold startRow
  try dsimp only
  repeat' (
    first
      | with_reducible exact h | with_reducible rfl | with_reducible apply setSlot_keeps
      | with_reducible apply raise_keeps | with_reducible apply bump_keeps
      | (with_reducible apply foldl_keeps; intro _ _ h) | with_reducible apply Keeps.ite | split | dsimp only)

theorem applyUpdate_keeps (h : Keeps p s0 s) (m : Nat) (u : SlotUpdate) : Keeps p s0 (applyUpdate m s u) := by
  unfold applyUpdate
  try dsimp only
  repeat' (
    first
      | with_reducible exact h | with_reducible rfl | with_reducible apply setLdg_keeps
      | with_reducible apply setSlot_keeps | (with_reducible apply foldl_keeps; intro _ _ h)
      | with_reducible apply Keeps.ite | split | rfl | dsimp only)

theorem applyUpdates_keeps (h : Keeps p s0 s) (m : Nat) : Keeps p s0 (applyUpdates s m) := by
  unfold applyUpdates
  try dsimp only
  repeat' (
    first
      | with_reducible exact h | with_reducible rfl | with_reducible apply applyUpdate_keeps
      | with_reducible apply setRun_keeps | (with_reducible apply foldl_keeps; intro _ _ h)
      | with_reducible apply Keeps.ite | split | dsimp only)

theorem Keeps.memsCsram (h : Keeps p s0 s) (a : Nat) (bs : List Byte) :
    Keeps p s0 { s with mems := { s.mems with csram := Mem.writeN 0#8 s.mems.csram a bs } } :=
  h.updMems rfl (fun ⟨h1, h2, h3, h4⟩ => ⟨h1, h2, Mem.wf_writeN bs a h3, h4⟩)

theorem writeMask_keeps (h : Keeps p s0 s) (m : Nat) (md : Model) (it : Item) : Keeps p s0 (writeMask m md s it) := by
  unfold writeMask
  dsimp only
  split
  · split
    · exact h.memsCsram _ _
    · exact memWrite_keeps h _ _
  · exact h

theorem writeMasks_keeps (h : Keeps p s0 s) (m : Nat) (md : Model) : Keeps p s0 (writeMasks s m md) := by
  unfold writeMasks
  try dsimp only
  repeat' (
    first
      | with_reducible exact h | with_reducible rfl | with_reducible apply writeMask_keeps
      | (with_reducible apply foldl_keeps; intro _ _ h) | with_reducible apply Keeps.ite | split | dsimp only)

theorem beginStep_keeps (h : Keeps p s0 s) (i : Nat) (m : Nat) (t : Nat) : Keeps p s0 (beginStep s i m t) := by
  unfold beginStep
  try dsimp only
  repeat' (
    first
      | with_reducible exact h | with_reducible rfl | with_reducible apply applyUpdates_keeps
      | with_reducible apply setSlot_keeps | with_reducible apply startRow_keeps | with_reducible apply setRun_keeps
      | with_reducible apply sendUpdate_keeps | with_reducible apply writeMasks_keeps
      | with_reducible apply memWrite_keeps | with_reducible apply finishItem_keeps
      | with_reducible apply fenceRefuse_keeps | (with_reducible apply foldl_keeps; intro _ _ h)
      | with_reducible apply Keeps.ite | split | dsimp only)

theorem execMicrostepBoundary_keeps (m : Nat) : KeepsOut p s (execMicrostepBoundary m s) := by
  have h : Keeps p s s := Keeps.start
  unfold execMicrostepBoundary
  try dsimp only
  repeat' (
    first
      | with_reducible exact h | with_reducible rfl | with_reducible exact KeepsOut.fault _
      | with_reducible apply KeepsOut.next | with_reducible apply applyUpdates_keeps
      | with_reducible apply setRun_keeps | with_reducible apply writeMasks_keeps
      | (with_reducible apply foldl_keeps; intro _ _ h) | with_reducible apply Keeps.ite
      | with_reducible apply KeepsOut.ite | split | dsimp only)

theorem execSlotUpdateRx_keeps (m : Nat) (k : Nat) (st : Nat) (masked : Bool) (step : Nat) (microstep : Nat) (t : Nat)
    : KeepsOut p s (execSlotUpdateRx m k st masked step microstep t s) := by
  have h : Keeps p s s := Keeps.start
  unfold execSlotUpdateRx
  try dsimp only
  repeat' (
    first
      | with_reducible exact h | with_reducible rfl | with_reducible exact KeepsOut.fault _
      | with_reducible apply KeepsOut.next | with_reducible apply setRun_keeps | with_reducible apply raise_keeps
      | with_reducible apply bump_keeps | (with_reducible apply foldl_keeps; intro _ _ h)
      | with_reducible apply Keeps.ite | with_reducible apply KeepsOut.ite | split | dsimp only)

theorem draftRow_keeps (h : Keeps p s0 s) (md : Model) (rows : List (Nat × List (List Nat))) (k : Nat) : Keeps p s0
    (draftRow md rows s k) := by
  unfold draftRow
  try dsimp only
  repeat' (
    first
      | with_reducible exact h | with_reducible rfl | with_reducible apply setSlot_keeps
      | (with_reducible apply foldl_keeps; intro _ _ h) | with_reducible apply Keeps.ite | split | dsimp only)

theorem decodeRow_keeps {a : List BatchRec × State} (h : Keeps p s0 a.2) (md : Model)
    (rows : List (Nat × List (List Nat))) (tick t k : Nat) : Keeps p s0 (decodeRow md rows tick t a k).2 := by
  unfold decodeRow
  dsimp only
  split
  · dsimp only
    split
    · exact setSlot_keeps (emitRow_keeps h _ _ _ _ _) _ _
    · exact writeCandidates_keeps (emitRow_keeps h _ _ _ _ _) _ _ _ _ _
  · dsimp only
    split
    · exact bumpN_keeps (bump_keeps (setSlot_keeps (emitRow_keeps h _ _ _ _ _) _ _) _) _ _
    · exact setSlot_keeps (emitRow_keeps h _ _ _ _ _) _ _

theorem endModelless_keeps (h : Keeps p s0 s) (i : Nat) (t : Nat) : Keeps p s0 (endModelless s i t) := by
  unfold endModelless
  try dsimp only
  repeat' (
    first
      | with_reducible exact h | with_reducible rfl | with_reducible apply finishItem_keeps
      | (with_reducible apply foldl_keeps; intro _ _ h) | with_reducible apply Keeps.ite | split | dsimp only)

theorem execDecodeStepEnd_keeps (i : Nat) (rows : List (Nat × List (List Nat))) (t : Nat) : KeepsOut p s
    (execDecodeStepEnd i rows t s) := by
  have h : Keeps p s s := Keeps.start
  unfold execDecodeStepEnd
  try dsimp only
  repeat' (
    first
      | with_reducible exact h | with_reducible rfl | with_reducible exact KeepsOut.fault _
      | with_reducible apply KeepsOut.next | with_reducible apply endModelless_keeps
      | with_reducible apply finishItem_keeps | with_reducible apply stepOver_keeps
      | with_reducible apply draftRow_keeps | with_reducible apply decodeRow_keeps
      | with_reducible apply writeBatch_keeps | with_reducible apply setRun_keeps
      | (with_reducible apply foldl_keeps; intro _ _ h) | (with_reducible apply foldl_fst_keeps; intro _ _ h)
      | (with_reducible apply foldl_snd_keeps; intro _ _ h) | with_reducible apply Keeps.ite
      | with_reducible apply KeepsOut.ite | split | dsimp only)

theorem chargeClass_keeps (h : Keeps p s0 s) (m : Nat) (md : Model) (c : Nat) (q : Nat) : Keeps p s0 (chargeClass s m
    md c q) := by
  unfold chargeClass
  try dsimp only
  repeat' (
    first
      | with_reducible exact h | with_reducible rfl | with_reducible apply setRun_keeps
      | (with_reducible apply foldl_keeps; intro _ _ h) | with_reducible apply Keeps.ite | split | dsimp only)

theorem resumeDone_keeps (h : Keeps p s0 s) (k : Nat) (t : Nat) : Keeps p s0 (resumeDone s k t) := by
  unfold resumeDone
  try dsimp only
  repeat' (
    first
      | with_reducible exact h | with_reducible rfl | with_reducible apply endControl_keeps
      | with_reducible apply setSlot_keeps | (with_reducible apply foldl_keeps; intro _ _ h)
      | with_reducible apply Keeps.ite | split | dsimp only)

theorem startShip_keeps (h : Keeps p s0 s) (k : Nat) (md : Model) (logits : List Nat) (t : Nat) : Keeps p s0
    (startShip s k md logits t) := by
  unfold startShip
  try dsimp only
  repeat' (
    first
      | with_reducible exact h | with_reducible rfl | with_reducible apply setSlot_keeps
      | with_reducible apply startTransfer_keeps | (with_reducible apply foldl_keeps; intro _ _ h)
      | with_reducible apply Keeps.ite | split | dsimp only)

theorem promptDone_keeps (h : Keeps p s0 s) (k : Nat) (tick : Nat) (md : Model) (logits : List Nat) (t : Nat) : Keeps
    p s0 (promptDone s k tick md logits t) := by
  unfold promptDone
  try dsimp only
  repeat' (
    first
      | with_reducible exact h | with_reducible rfl | with_reducible apply setSlotSt_keeps
      | with_reducible apply decodeRow_keeps | with_reducible apply writeBatch_keeps
      | (with_reducible apply foldl_keeps; intro _ _ h) | (with_reducible apply foldl_fst_keeps; intro _ _ h)
      | (with_reducible apply foldl_snd_keeps; intro _ _ h) | with_reducible apply Keeps.ite | split | dsimp only)

theorem execPrefillChunkEnd_keeps (i : Nat) (logits : List Nat) (t : Nat) : KeepsOut p s (execPrefillChunkEnd i logits
    t s) := by
  have h : Keeps p s s := Keeps.start
  unfold execPrefillChunkEnd
  try dsimp only
  repeat' (
    first
      | with_reducible exact h | with_reducible rfl | with_reducible exact KeepsOut.fault _
      | with_reducible apply KeepsOut.next | with_reducible apply endModelless_keeps
      | with_reducible apply finishItem_keeps | with_reducible apply chargeClass_keeps
      | with_reducible apply setRun_keeps | with_reducible apply setSlot_keeps
      | with_reducible apply settleSlot_keeps | with_reducible apply resumeDone_keeps
      | with_reducible apply setSlotSt_keeps | with_reducible apply reapTransfers_keeps
      | with_reducible apply startShip_keeps | with_reducible apply promptDone_keeps
      | (with_reducible apply foldl_keeps; intro _ _ h) | with_reducible apply Keeps.ite
      | with_reducible apply KeepsOut.ite | split | dsimp only)

theorem execColdPauseComplete_keeps (k : Nat) (t : Nat) : KeepsOut p s (execColdPauseComplete k t s) := by
  have h : Keeps p s s := Keeps.start
  unfold execColdPauseComplete
  try dsimp only
  repeat' (
    first
      | with_reducible exact h | with_reducible rfl | with_reducible exact KeepsOut.fault _
      | with_reducible apply KeepsOut.next | with_reducible apply endRequest_keeps
      | with_reducible apply hostWrite_keeps | with_reducible apply fenceRefuse_keeps
      | with_reducible apply setSlotSt_keeps | with_reducible apply releasePages_keeps
      | with_reducible apply endControl_keeps | with_reducible apply setSlot_keeps
      | with_reducible apply pauseFailed_keeps | (with_reducible apply foldl_keeps; intro _ _ h)
      | (with_reducible apply foldl_fst_keeps; intro _ _ h) | (with_reducible apply foldl_snd_keeps; intro _ _ h)
      | with_reducible apply Keeps.ite | with_reducible apply KeepsOut.ite | split | dsimp only)

theorem execSummaryStoreComplete_keeps (i : Nat) (t : Nat) : KeepsOut p s (execSummaryStoreComplete i t s) := by
  have h : Keeps p s s := Keeps.start
  unfold execSummaryStoreComplete
  try dsimp only
  repeat' (
    first
      | with_reducible exact h | with_reducible rfl | with_reducible exact KeepsOut.fault _
      | with_reducible apply KeepsOut.next | with_reducible apply finishItem_keeps
      | with_reducible apply chargeClass_keeps | with_reducible apply takePages_keeps
      | with_reducible apply releasePages_keeps | with_reducible apply setSlotSt_keeps
      | with_reducible apply endControl_keeps | with_reducible apply setSlot_keeps
      | (with_reducible apply foldl_keeps; intro _ _ h) | with_reducible apply Keeps.ite
      | with_reducible apply KeepsOut.ite | split | dsimp only)

theorem execPauseTtlExpiry_keeps (k : Nat) (t : Nat) : KeepsOut p s (execPauseTtlExpiry k t s) := by
  have h : Keeps p s s := Keeps.start
  unfold execPauseTtlExpiry
  try dsimp only
  repeat' (
    first
      | with_reducible exact h | with_reducible rfl | with_reducible exact KeepsOut.fault _
      | with_reducible apply KeepsOut.next | with_reducible apply raise_keeps | with_reducible apply bump_keeps
      | with_reducible apply endRequest_keeps | (with_reducible apply foldl_keeps; intro _ _ h)
      | with_reducible apply Keeps.ite | with_reducible apply KeepsOut.ite | split | dsimp only)

theorem execColdResumeComplete_keeps (k : Nat) (fail : Option ReadFail) (t : Nat) : KeepsOut p s
    (execColdResumeComplete k fail t s) := by
  have h : Keeps p s s := Keeps.start
  unfold execColdResumeComplete
  try dsimp only
  repeat' (
    first
      | with_reducible exact h | with_reducible rfl | with_reducible exact KeepsOut.fault _
      | with_reducible apply KeepsOut.next | with_reducible apply endRequest_keeps
      | with_reducible apply resumeDone_keeps | with_reducible apply setSlotSt_keeps
      | (with_reducible apply foldl_keeps; intro _ _ h) | with_reducible apply Keeps.ite
      | with_reducible apply KeepsOut.ite | split | dsimp only)

theorem takePause_keeps (h : Keeps p s0 s) (q : Nat) (c : CacheSlot) (t : Nat) : Keeps p s0 (takePause s q c t) := by
  unfold takePause
  try dsimp only
  repeat' (
    first
      | with_reducible exact h | with_reducible rfl | with_reducible apply completeEntry_keeps
      | with_reducible apply startFetch_keeps | with_reducible apply setQueue_keeps
      | with_reducible apply setSlot_keeps | with_reducible apply beginPause_keeps
      | (with_reducible apply foldl_keeps; intro _ _ h) | with_reducible apply Keeps.ite | split | dsimp only)

theorem takeResume_keeps (h : Keeps p s0 s) (q : Nat) (c : CacheSlot) (t : Nat) : Keeps p s0 (takeResume s q c t) :=
    by
  unfold takeResume
  try dsimp only
  repeat' (
    first
      | with_reducible exact h | with_reducible rfl | with_reducible apply completeEntry_keeps
      | with_reducible apply startFetch_keeps | with_reducible apply setQueue_keeps
      | with_reducible apply takePages_keeps | with_reducible apply setSlot_keeps
      | with_reducible apply setSlotSt_keeps | with_reducible apply issueRead_keeps
      | with_reducible apply endRequest_keeps | with_reducible apply fenceRefuse_keeps
      | (with_reducible apply foldl_keeps; intro _ _ h) | with_reducible apply Keeps.ite | split | dsimp only)

theorem tickTtl_keeps (h : Keeps p s0 s) : Keeps p s0 (tickTtl s) := by
  unfold tickTtl
  try dsimp only
  repeat' (
    first
      | with_reducible exact h | with_reducible rfl | with_reducible apply setLdg_keeps
      | (with_reducible apply foldl_keeps; intro _ _ h) | with_reducible apply Keeps.ite | split | rfl | dsimp only)

theorem tickStalls_keeps (h : Keeps p s0 s) (t : Nat) : Keeps p s0 (tickStalls s t) := by
  unfold tickStalls
  try dsimp only
  repeat' (
    first
      | with_reducible exact h | with_reducible rfl | with_reducible apply setRun_keeps
      | with_reducible apply raise_keeps | with_reducible apply bump_keeps
      | (with_reducible apply foldl_keeps; intro _ _ h) | with_reducible apply Keeps.ite | split | dsimp only)

theorem gateLedger_keeps (h : Keeps p s0 s) (t : Nat) : Keeps p s0 (gateLedger s t) := by
  unfold gateLedger
  try dsimp only
  repeat' (
    first
      | with_reducible exact h | with_reducible rfl | with_reducible apply setSlotSt_keeps
      | with_reducible apply setSlot_keeps | with_reducible apply setLdg_keeps
      | with_reducible apply issueRead_keeps | with_reducible apply fenceRefuse_keeps
      | (with_reducible apply foldl_keeps; intro _ _ h) | with_reducible apply Keeps.ite | split | rfl | dsimp only)

theorem takeReturn_keeps (h : Keeps p s0 s) (k : Nat) (bs : List Byte) (t : Nat) : Keeps p s0 (takeReturn s k bs t) :=
    by
  unfold takeReturn
  try dsimp only
  repeat' (
    first
      | with_reducible exact h | with_reducible rfl | with_reducible apply setSlot_keeps
      | with_reducible apply raise_keeps | with_reducible apply bump_keeps
      | (with_reducible apply foldl_keeps; intro _ _ h) | with_reducible apply Keeps.ite | split | dsimp only)

theorem refuseOrder_keeps (h : Keeps p s0 s) (o : Order) (t : Nat) : Keeps p s0 (refuseOrder s o t) := by
  unfold refuseOrder
  try dsimp only
  repeat' (
    first
      | with_reducible exact h | with_reducible rfl | with_reducible apply raise_keeps
      | with_reducible apply bump_keeps | with_reducible apply sendCtl_keeps
      | (with_reducible apply foldl_keeps; intro _ _ h) | with_reducible apply Keeps.ite | split | dsimp only)

theorem execOrderRx_keeps (bytes : List Byte) (src : Nat) (key : Nat) (t : Nat) : KeepsOut p s (execOrderRx bytes src
    key t s) := by
  have h : Keeps p s s := Keeps.start
  unfold execOrderRx
  try dsimp only
  repeat' (
    first
      | with_reducible exact h | with_reducible rfl | with_reducible exact KeepsOut.fault _
      | with_reducible apply KeepsOut.next | with_reducible apply setRun_keeps
      | with_reducible apply refuseOrder_keeps | (with_reducible apply foldl_keeps; intro _ _ h)
      | with_reducible apply Keeps.ite | with_reducible apply KeepsOut.ite | split | dsimp only)

theorem execLdgOrderAdmit_keeps (v : Word) (t : Nat) : KeepsOut p s (execLdgOrderAdmit v t s) := by
  have h : Keeps p s s := Keeps.start
  unfold execLdgOrderAdmit
  try dsimp only
  repeat' (
    first
      | with_reducible exact h | with_reducible rfl | with_reducible exact KeepsOut.fault _
      | with_reducible apply KeepsOut.next | with_reducible apply wr_keeps | with_reducible apply refuseClaim_keeps
      | with_reducible apply takePages_keeps | with_reducible apply setSlot_keeps
      | with_reducible apply setRun_keeps | with_reducible apply setLdg_keeps
      | (with_reducible apply foldl_keeps; intro _ _ h) | with_reducible apply Keeps.ite
      | with_reducible apply KeepsOut.ite | split | rfl | dsimp only)

theorem execOrderRefuseNoticeRx_keeps (k : Nat) (reason : Nat) (t : Nat) : KeepsOut p s (execOrderRefuseNoticeRx k
    reason t s) := by
  have h : Keeps p s s := Keeps.start
  unfold execOrderRefuseNoticeRx
  try dsimp only
  repeat' (
    first
      | with_reducible exact h | with_reducible rfl | with_reducible exact KeepsOut.fault _
      | with_reducible apply KeepsOut.next | with_reducible apply endRequest_keeps
      | with_reducible apply shipFailed_keeps | (with_reducible apply foldl_keeps; intro _ _ h)
      | with_reducible apply Keeps.ite | with_reducible apply KeepsOut.ite | split | dsimp only)

theorem execOrderQueueTimeout_keeps (m : Nat) (t : Nat) : KeepsOut p s (execOrderQueueTimeout m t s) := by
  have h : Keeps p s s := Keeps.start
  unfold execOrderQueueTimeout
  try dsimp only
  repeat' (
    first
      | with_reducible exact h | with_reducible rfl | with_reducible exact KeepsOut.fault _
      | with_reducible apply KeepsOut.next | with_reducible apply refuseOrder_keeps
      | with_reducible apply setRun_keeps | (with_reducible apply foldl_keeps; intro _ _ h)
      | with_reducible apply Keeps.ite | with_reducible apply KeepsOut.ite | split | dsimp only)

theorem dropTransfers_keeps (h : Keeps p s0 s) (k : Nat) : Keeps p s0 (dropTransfers s k) := by
  unfold dropTransfers
  try dsimp only
  repeat' (
    first
      | with_reducible exact h | with_reducible rfl | with_reducible apply endTransfer_keeps
      | with_reducible apply setFab_keeps | (with_reducible apply foldl_keeps; intro _ _ h)
      | with_reducible apply Keeps.ite | split | rfl | dsimp only)

theorem execOrderWithdrawRx_keeps (src : Nat) (decSlot : Nat) : KeepsOut p s (execOrderWithdrawRx src decSlot s) := by
  have h : Keeps p s s := Keeps.start
  unfold execOrderWithdrawRx
  try dsimp only
  repeat' (
    first
      | with_reducible exact h | with_reducible rfl | with_reducible exact KeepsOut.fault _
      | with_reducible apply KeepsOut.next | with_reducible apply setLdg_keeps | with_reducible apply setSlot_keeps
      | with_reducible apply freeSlot_keeps | with_reducible apply dropTransfers_keeps
      | (with_reducible apply foldl_keeps; intro _ _ h) | with_reducible apply Keeps.ite
      | with_reducible apply KeepsOut.ite | split | rfl | dsimp only)

theorem writePages_keeps (h : Keeps p s0 s) (p_ size : Nat) (bs : List Byte) (l : List Nat) :
    Keeps p s0 (writePages s p_ size bs l) := by
  induction l generalizing s bs with
  | nil => exact h
  | cons pg l ih => exact ih (memWrite_keeps h _ _) _

theorem execKvShipComplete_keeps (k : Nat) (pages : List Byte) (token : Option Nat) (autoSt : Nat) (t : Nat) :
    KeepsOut p s (execKvShipComplete k pages token autoSt t s) := by
  have h : Keeps p s s := Keeps.start
  unfold execKvShipComplete
  try dsimp only
  repeat' (
    first
      | with_reducible exact h | with_reducible rfl | with_reducible exact KeepsOut.fault _
      | with_reducible apply KeepsOut.next | with_reducible apply writePages_keeps
      | with_reducible apply emitRow_keeps | with_reducible apply setSlot_keeps | with_reducible apply wr_keeps
      | with_reducible apply settleSlot_keeps | with_reducible apply writeBatch_keeps
      | (with_reducible apply foldl_keeps; intro _ _ h) | (with_reducible apply foldl_fst_keeps; intro _ _ h)
      | (with_reducible apply foldl_snd_keeps; intro _ _ h) | with_reducible apply Keeps.ite
      | with_reducible apply KeepsOut.ite | split | dsimp only)

theorem execKvShipTimeout_keeps (k : Nat) (t : Nat) : KeepsOut p s (execKvShipTimeout k t s) := by
  have h : Keeps p s s := Keeps.start
  unfold execKvShipTimeout
  try dsimp only
  repeat' (
    first
      | with_reducible exact h | with_reducible rfl | with_reducible exact KeepsOut.fault _
      | with_reducible apply KeepsOut.next | with_reducible apply shipFailed_keeps
      | with_reducible apply dropTransfers_keeps | (with_reducible apply foldl_keeps; intro _ _ h)
      | with_reducible apply Keeps.ite | with_reducible apply KeepsOut.ite | split | dsimp only)

end Sys2Proof.Machine
end

