-- ==== Sys2Proof/Laws/KeepsLink.lean ====
section
/-! SUPPORT. Every operation of Machine/Link.lean keeps the anchor (Laws/Keeps.lean). -/

namespace Sys2Proof.Machine

variable {α : Type} {p : Anchor → α} {s0 s : State}

theorem rerouteWaiting_keeps (h : Keeps p s0 s) (n : Nat) (l : List TxWait) : Keeps p s0 (rerouteWaiting s n l) := by
  unfold rerouteWaiting
  try dsimp only
  repeat' (
    first
      | with_reducible exact h | with_reducible rfl | with_reducible apply routeOut_keeps
      | (with_reducible apply foldl_keeps; intro _ _ h) | with_reducible apply Keeps.ite | split | dsimp only)

theorem abortEgress_keeps (h : Keeps p s0 s) (n : Nat) (p_ : Packet) : Keeps p s0 (abortEgress s n p_) := by
  unfold abortEgress
  try dsimp only
  repeat' (
    first
      | with_reducible exact h | with_reducible rfl | with_reducible apply setPort_keeps
      | with_reducible apply emit_keeps | (with_reducible apply foldl_keeps; intro _ _ h)
      | with_reducible apply Keeps.ite | split | dsimp only)

theorem endCrossing_keeps (h : Keeps p s0 s) (t : Nat) : Keeps p s0 (endCrossing s t) := by
  unfold endCrossing
  try dsimp only
  repeat' (
    first
      | with_reducible exact h | with_reducible rfl | with_reducible apply finishItem_keeps
      | (with_reducible apply foldl_keeps; intro _ _ h) | with_reducible apply Keeps.ite | split | dsimp only)

theorem portFault_keeps (h : Keeps p s0 s) (n : Nat) (report : Bool) (lost : Bool) (t : Nat) : Keeps p s0 (portFault s
    n report lost t) := by
  unfold portFault
  try dsimp only
  repeat' (
    first
      | with_reducible exact h | with_reducible rfl | with_reducible apply abortEgress_keeps
      | with_reducible apply raise_keeps | with_reducible apply setPort_keeps
      | with_reducible apply reportPort_keeps | with_reducible apply rerouteWaiting_keeps
      | with_reducible apply endCrossing_keeps | with_reducible apply reapTransfers_keeps
      | with_reducible apply checkNeighbour_keeps | (with_reducible apply foldl_keeps; intro _ _ h)
      | with_reducible apply Keeps.ite | split | dsimp only)

theorem exhaust_keeps (h : Keeps p s0 s) (n : Nat) (t : Nat) : Keeps p s0 (exhaust s n t) := by
  unfold exhaust
  try dsimp only
  repeat' (
    first
      | with_reducible exact h | with_reducible rfl | with_reducible apply raise_keeps
      | with_reducible apply bump_keeps | with_reducible apply portFault_keeps | with_reducible apply emit_keeps
      | (with_reducible apply foldl_keeps; intro _ _ h) | with_reducible apply Keeps.ite | split | dsimp only)

theorem replayFrom_keeps (h : Keeps p s0 s) (n : Nat) (q : Nat) : Keeps p s0 (replayFrom s n q) := by
  unfold replayFrom
  try dsimp only
  repeat' (
    first
      | with_reducible exact h | with_reducible rfl | with_reducible apply emit_keeps
      | with_reducible apply bump_keeps | (with_reducible apply foldl_keeps; intro _ _ h)
      | with_reducible apply Keeps.ite | split | dsimp only)

theorem acceptReturns_keeps (h : Keeps p s0 s) (n : Nat) (f : Flit) : Keeps p s0 (acceptReturns s n f) := by
  unfold acceptReturns
  try dsimp only
  repeat' (
    first
      | with_reducible exact h | with_reducible rfl | with_reducible apply setPort_keeps
      | with_reducible apply drainPort_keeps | (with_reducible apply foldl_keeps; intro _ _ h)
      | with_reducible apply Keeps.ite | split | dsimp only)

theorem sendIdle_keeps (h : Keeps p s0 s) (n : Nat) : Keeps p s0 (sendIdle s n) := by
  unfold sendIdle
  try dsimp only
  repeat' (
    first
      | with_reducible exact h | with_reducible rfl | with_reducible apply emit_keeps
      | with_reducible apply setPort_keeps | (with_reducible apply foldl_keeps; intro _ _ h)
      | with_reducible apply Keeps.ite | split | dsimp only)

theorem execNakRx_keeps (n : Nat) (q : Nat) (t : Nat) : KeepsOut p s (execNakRx n q t s) := by
  have h : Keeps p s s := Keeps.start
  unfold execNakRx
  try dsimp only
  repeat' (
    first
      | with_reducible exact h | with_reducible rfl | with_reducible exact KeepsOut.fault _
      | with_reducible apply KeepsOut.next | with_reducible apply replayFrom_keeps
      | with_reducible apply setPort_keeps | with_reducible apply exhaust_keeps
      | (with_reducible apply foldl_keeps; intro _ _ h) | with_reducible apply Keeps.ite
      | with_reducible apply KeepsOut.ite | split | dsimp only)

theorem execAckTimerExpiry_keeps (n : Nat) (t : Nat) : KeepsOut p s (execAckTimerExpiry n t s) := by
  have h : Keeps p s s := Keeps.start
  unfold execAckTimerExpiry
  try dsimp only
  repeat' (
    first
      | with_reducible exact h | with_reducible rfl | with_reducible exact KeepsOut.fault _
      | with_reducible apply KeepsOut.next | with_reducible apply replayFrom_keeps
      | with_reducible apply setPort_keeps | with_reducible apply exhaust_keeps
      | (with_reducible apply foldl_keeps; intro _ _ h) | with_reducible apply Keeps.ite
      | with_reducible apply KeepsOut.ite | split | dsimp only)

theorem execReplayBudgetExpiry_keeps (n : Nat) (t : Nat) : KeepsOut p s (execReplayBudgetExpiry n t s) := by
  have h : Keeps p s s := Keeps.start
  unfold execReplayBudgetExpiry
  try dsimp only
  repeat' (
    first
      | with_reducible exact h | with_reducible rfl | with_reducible exact KeepsOut.fault _
      | with_reducible apply KeepsOut.next | with_reducible apply exhaust_keeps
      | (with_reducible apply foldl_keeps; intro _ _ h) | with_reducible apply Keeps.ite
      | with_reducible apply KeepsOut.ite | split | dsimp only)

theorem execFaultRx_keeps (n : Nat) (t : Nat) : KeepsOut p s (execFaultRx n t s) := by
  have h : Keeps p s s := Keeps.start
  unfold execFaultRx
  try dsimp only
  repeat' (
    first
      | with_reducible exact h | with_reducible rfl | with_reducible exact KeepsOut.fault _
      | with_reducible apply KeepsOut.next | with_reducible apply raise_keeps | with_reducible apply bump_keeps
      | with_reducible apply portFault_keeps | (with_reducible apply foldl_keeps; intro _ _ h)
      | with_reducible apply Keeps.ite | with_reducible apply KeepsOut.ite | split | dsimp only)

theorem execAbortFlitRx_keeps (n : Nat) (p_ : Packet) (t : Nat) : KeepsOut p s (execAbortFlitRx n p_ t s) := by
  have h : Keeps p s s := Keeps.start
  unfold execAbortFlitRx
  try dsimp only
  repeat' (
    first
      | with_reducible exact h | with_reducible rfl | with_reducible exact KeepsOut.fault _
      | with_reducible apply KeepsOut.next | with_reducible apply passRx_keeps
      | with_reducible apply abortEgress_keeps | with_reducible apply setPort_keeps
      | with_reducible apply reapTransfers_keeps | with_reducible apply reportOp_keeps
      | (with_reducible apply foldl_keeps; intro _ _ h) | with_reducible apply Keeps.ite
      | with_reducible apply KeepsOut.ite | split | dsimp only)

theorem execSignalLoss_keeps (n : Nat) (lost : Bool) (t : Nat) : KeepsOut p s (execSignalLoss n lost t s) := by
  have h : Keeps p s s := Keeps.start
  unfold execSignalLoss
  try dsimp only
  repeat' (
    first
      | with_reducible exact h | with_reducible rfl | with_reducible exact KeepsOut.fault _
      | with_reducible apply KeepsOut.next | with_reducible apply setPort_keeps
      | with_reducible apply portFault_keeps | (with_reducible apply foldl_keeps; intro _ _ h)
      | with_reducible apply Keeps.ite | with_reducible apply KeepsOut.ite | split | dsimp only)

theorem trainPort_keeps (h : Keeps p s0 s) (n : Nat) : Keeps p s0 (trainPort s n) := by
  unfold trainPort
  try dsimp only
  repeat' (
    first
      | with_reducible exact h | with_reducible rfl | with_reducible apply emit_keeps
      | with_reducible apply setPort_keeps | (with_reducible apply foldl_keeps; intro _ _ h)
      | with_reducible apply Keeps.ite | split | dsimp only)

theorem execSignalDetect_keeps (n : Nat) : KeepsOut p s (execSignalDetect n s) := by
  have h : Keeps p s s := Keeps.start
  unfold execSignalDetect
  try dsimp only
  repeat' (
    first
      | with_reducible exact h | with_reducible rfl | with_reducible exact KeepsOut.fault _
      | with_reducible apply KeepsOut.next | with_reducible apply trainPort_keeps
      | (with_reducible apply foldl_keeps; intro _ _ h) | with_reducible apply Keeps.ite
      | with_reducible apply KeepsOut.ite | split | dsimp only)

theorem execPortBringupStart_keeps (n : Nat) : KeepsOut p s (execPortBringupStart n s) := by
  have h : Keeps p s s := Keeps.start
  unfold execPortBringupStart
  try dsimp only
  repeat' (
    first
      | with_reducible exact h | with_reducible rfl | with_reducible exact KeepsOut.fault _
      | with_reducible apply KeepsOut.next | with_reducible apply trainPort_keeps
      | with_reducible apply setPort_keeps | (with_reducible apply foldl_keeps; intro _ _ h)
      | with_reducible apply Keeps.ite | with_reducible apply KeepsOut.ite | split | dsimp only)

theorem execTrainingFrameRx_keeps (n : Nat) : KeepsOut p s (execTrainingFrameRx n s) := by
  have h : Keeps p s s := Keeps.start
  unfold execTrainingFrameRx
  try dsimp only
  repeat' (
    first
      | with_reducible exact h | with_reducible rfl | with_reducible exact KeepsOut.fault _
      | with_reducible apply KeepsOut.next | with_reducible apply emit_keeps | with_reducible apply trainPort_keeps
      | (with_reducible apply foldl_keeps; intro _ _ h) | with_reducible apply Keeps.ite
      | with_reducible apply KeepsOut.ite | split | dsimp only)

theorem execHoldRx_keeps (n : Nat) : KeepsOut p s (execHoldRx n s) := by
  have h : Keeps p s s := Keeps.start
  unfold execHoldRx
  try dsimp only
  repeat' (
    first
      | with_reducible exact h | with_reducible rfl | with_reducible exact KeepsOut.fault _
      | with_reducible apply KeepsOut.next | with_reducible apply setPort_keeps
      | (with_reducible apply foldl_keeps; intro _ _ h) | with_reducible apply Keeps.ite
      | with_reducible apply KeepsOut.ite | split | dsimp only)

theorem execHoldRetry_keeps (n : Nat) : KeepsOut p s (execHoldRetry n s) := by
  have h : Keeps p s s := Keeps.start
  unfold execHoldRetry
  try dsimp only
  repeat' (
    first
      | with_reducible exact h | with_reducible rfl | with_reducible exact KeepsOut.fault _
      | with_reducible apply KeepsOut.next | with_reducible apply emit_keeps
      | (with_reducible apply foldl_keeps; intro _ _ h) | with_reducible apply Keeps.ite
      | with_reducible apply KeepsOut.ite | split | dsimp only)

theorem refusePort_keeps (h : Keeps p s0 s) (n : Nat) (reason : Nat) (t : Nat) : Keeps p s0 (refusePort s n reason t)
    := by
  unfold refusePort
  try dsimp only
  repeat' (
    first
      | with_reducible exact h | with_reducible rfl | with_reducible apply raise_keeps
      | with_reducible apply setPort_keeps | (with_reducible apply foldl_keeps; intro _ _ h)
      | with_reducible apply Keeps.ite | split | dsimp only)

theorem readyWhenDone_keeps (h : Keeps p s0 s) (n : Nat) : Keeps p s0 (readyWhenDone s n) := by
  unfold readyWhenDone
  try dsimp only
  repeat' (
    first
      | with_reducible exact h | with_reducible rfl | with_reducible apply setPort_keeps
      | (with_reducible apply foldl_keeps; intro _ _ h) | with_reducible apply Keeps.ite | split | dsimp only)

theorem execBringupComplete_keeps (n : Nat) (mask : Nat) : KeepsOut p s (execBringupComplete n mask s) := by
  have h : Keeps p s s := Keeps.start
  unfold execBringupComplete
  try dsimp only
  repeat' (
    first
      | with_reducible exact h | with_reducible rfl | with_reducible exact KeepsOut.fault _
      | with_reducible apply KeepsOut.next | with_reducible apply setPort_keeps | with_reducible apply emit_keeps
      | with_reducible apply bump_keeps | (with_reducible apply foldl_keeps; intro _ _ h)
      | with_reducible apply Keeps.ite | with_reducible apply KeepsOut.ite | split | dsimp only)

theorem execCapRx_keeps (n : Nat) (c : Cap) (t : Nat) : KeepsOut p s (execCapRx n c t s) := by
  have h : Keeps p s s := Keeps.start
  unfold execCapRx
  try dsimp only
  repeat' (
    first
      | with_reducible exact h | with_reducible rfl | with_reducible exact KeepsOut.fault _
      | with_reducible apply KeepsOut.next | with_reducible apply setPort_keeps | with_reducible apply emit_keeps
      | with_reducible apply refusePort_keeps | with_reducible apply readyWhenDone_keeps
      | (with_reducible apply foldl_keeps; intro _ _ h) | with_reducible apply Keeps.ite
      | with_reducible apply KeepsOut.ite | split | dsimp only)

theorem execCapAckRx_keeps (n : Nat) : KeepsOut p s (execCapAckRx n s) := by
  have h : Keeps p s s := Keeps.start
  unfold execCapAckRx
  try dsimp only
  repeat' (
    first
      | with_reducible exact h | with_reducible rfl | with_reducible exact KeepsOut.fault _
      | with_reducible apply KeepsOut.next | with_reducible apply readyWhenDone_keeps
      | with_reducible apply setPort_keeps | (with_reducible apply foldl_keeps; intro _ _ h)
      | with_reducible apply Keeps.ite | with_reducible apply KeepsOut.ite | split | dsimp only)

theorem execCapRefuseRx_keeps (n : Nat) (reason : Nat) (t : Nat) : KeepsOut p s (execCapRefuseRx n reason t s) := by
  have h : Keeps p s s := Keeps.start
  unfold execCapRefuseRx
  try dsimp only
  repeat' (
    first
      | with_reducible exact h | with_reducible rfl | with_reducible exact KeepsOut.fault _
      | with_reducible apply KeepsOut.next | with_reducible apply refusePort_keeps
      | (with_reducible apply foldl_keeps; intro _ _ h) | with_reducible apply Keeps.ite
      | with_reducible apply KeepsOut.ite | split | dsimp only)

theorem setWidth_keeps (h : Keeps p s0 s) (n : Nat) (mask : Nat) (t : Nat) : Keeps p s0 (setWidth s n mask t) := by
  unfold setWidth
  try dsimp only
  repeat' (
    first
      | with_reducible exact h | with_reducible rfl | with_reducible apply portFault_keeps
      | with_reducible apply setPort_keeps | with_reducible apply raise_keeps
      | (with_reducible apply foldl_keeps; intro _ _ h) | with_reducible apply Keeps.ite | split | dsimp only)

theorem replayAll_keeps (h : Keeps p s0 s) (n : Nat) : Keeps p s0 (replayAll s n) := by
  unfold replayAll
  try dsimp only
  repeat' (
    first
      | with_reducible exact h | with_reducible rfl | with_reducible apply replayFrom_keeps
      | (with_reducible apply foldl_keeps; intro _ _ h) | with_reducible apply Keeps.ite | split | dsimp only)

theorem askWidth_keeps (h : Keeps p s0 s) (n : Nat) (mask : Nat) : Keeps p s0 (askWidth s n mask) := by
  unfold askWidth
  try dsimp only
  repeat' (
    first
      | with_reducible exact h | with_reducible rfl | with_reducible apply emit_keeps
      | with_reducible apply setPort_keeps | (with_reducible apply foldl_keeps; intro _ _ h)
      | with_reducible apply Keeps.ite | split | dsimp only)

theorem execWidthReqRx_keeps (n : Nat) (mask : Nat) (t : Nat) : KeepsOut p s (execWidthReqRx n mask t s) := by
  have h : Keeps p s s := Keeps.start
  unfold execWidthReqRx
  try dsimp only
  repeat' (
    first
      | with_reducible exact h | with_reducible rfl | with_reducible exact KeepsOut.fault _
      | with_reducible apply KeepsOut.next | with_reducible apply replayAll_keeps
      | with_reducible apply setWidth_keeps | with_reducible apply emit_keeps
      | (with_reducible apply foldl_keeps; intro _ _ h) | with_reducible apply Keeps.ite
      | with_reducible apply KeepsOut.ite | split | dsimp only)

theorem execWidthAckRx_keeps (n : Nat) (mask : Nat) (t : Nat) : KeepsOut p s (execWidthAckRx n mask t s) := by
  have h : Keeps p s s := Keeps.start
  unfold execWidthAckRx
  try dsimp only
  repeat' (
    first
      | with_reducible exact h | with_reducible rfl | with_reducible exact KeepsOut.fault _
      | with_reducible apply KeepsOut.next | with_reducible apply replayAll_keeps
      | with_reducible apply setWidth_keeps | with_reducible apply setPort_keeps
      | (with_reducible apply foldl_keeps; intro _ _ h) | with_reducible apply Keeps.ite
      | with_reducible apply KeepsOut.ite | split | dsimp only)

theorem execLaneSignalLoss_keeps (n : Nat) (lane : Nat) (t : Nat) : KeepsOut p s (execLaneSignalLoss n lane t s) := by
  have h : Keeps p s s := Keeps.start
  unfold execLaneSignalLoss
  try dsimp only
  repeat' (
    first
      | with_reducible exact h | with_reducible rfl | with_reducible exact KeepsOut.fault _
      | with_reducible apply KeepsOut.next | with_reducible apply portFault_keeps
      | with_reducible apply setPort_keeps | with_reducible apply askWidth_keeps
      | (with_reducible apply foldl_keeps; intro _ _ h) | with_reducible apply Keeps.ite
      | with_reducible apply KeepsOut.ite | split | dsimp only)

theorem retrainPort_keeps (h : Keeps p s0 s) (n : Nat) : Keeps p s0 (retrainPort s n) := by
  unfold retrainPort
  try dsimp only
  repeat' (
    first
      | with_reducible exact h | with_reducible rfl | with_reducible apply emit_keeps
      | with_reducible apply setPort_keeps | (with_reducible apply foldl_keeps; intro _ _ h)
      | with_reducible apply Keeps.ite | split | dsimp only)

theorem execPortRetrainTimer_keeps (n : Nat) : KeepsOut p s (execPortRetrainTimer n s) := by
  have h : Keeps p s s := Keeps.start
  unfold execPortRetrainTimer
  try dsimp only
  repeat' (
    first
      | with_reducible exact h | with_reducible rfl | with_reducible exact KeepsOut.fault _
      | with_reducible apply KeepsOut.next | with_reducible apply retrainPort_keeps
      | (with_reducible apply foldl_keeps; intro _ _ h) | with_reducible apply Keeps.ite
      | with_reducible apply KeepsOut.ite | split | dsimp only)

theorem execPortRetry_keeps (n : Nat) : KeepsOut p s (execPortRetry n s) := by
  have h : Keeps p s s := Keeps.start
  unfold execPortRetry
  try dsimp only
  repeat' (
    first
      | with_reducible exact h | with_reducible rfl | with_reducible exact KeepsOut.fault _
      | with_reducible apply KeepsOut.next | with_reducible apply retrainPort_keeps
      | with_reducible apply setPort_keeps | (with_reducible apply foldl_keeps; intro _ _ h)
      | with_reducible apply Keeps.ite | with_reducible apply KeepsOut.ite | split | dsimp only)

theorem execLinkFaultNoticeRx_keeps (tag : Nat) (t : Nat) : KeepsOut p s (execLinkFaultNoticeRx tag t s) := by
  have h : Keeps p s s := Keeps.start
  unfold execLinkFaultNoticeRx
  try dsimp only
  repeat' (
    first
      | with_reducible exact h | with_reducible rfl | with_reducible exact KeepsOut.fault _
      | with_reducible apply KeepsOut.next | with_reducible apply raise_keeps | with_reducible apply bump_keeps
      | with_reducible apply lateFault_keeps | with_reducible apply reapTransfers_keeps
      | with_reducible apply faultOwn_keeps | (with_reducible apply foldl_keeps; intro _ _ h)
      | simp only [Keeps.upd_iff] | with_reducible apply Keeps.ite | with_reducible apply KeepsOut.ite | split
      | dsimp only)

theorem execBridgeFail_keeps (tx : List Packet) (rx : List Packet) (t : Nat) : KeepsOut p s (execBridgeFail tx rx t s)
    := by
  have h : Keeps p s s := Keeps.start
  unfold execBridgeFail
  try dsimp only
  repeat' (
    first
      | with_reducible exact h | with_reducible rfl | with_reducible exact KeepsOut.fault _
      | with_reducible apply KeepsOut.next | with_reducible apply raise_keeps | with_reducible apply bump_keeps
      | with_reducible apply reportOp_keeps | with_reducible apply reapTransfers_keeps
      | (with_reducible apply foldl_keeps; intro _ _ h) | simp only [Keeps.upd_iff] | with_reducible apply Keeps.ite
      | with_reducible apply KeepsOut.ite | split | dsimp only)

theorem execBridgeRetrain_keeps (ok : Bool) : KeepsOut p s (execBridgeRetrain ok s) := by
  have h : Keeps p s s := Keeps.start
  unfold execBridgeRetrain
  try dsimp only
  repeat' (
    first
      | with_reducible exact h | with_reducible rfl | with_reducible exact KeepsOut.fault _
      | with_reducible apply KeepsOut.next | (with_reducible apply foldl_keeps; intro _ _ h)
      | simp only [Keeps.upd_iff] | with_reducible apply Keeps.ite | with_reducible apply KeepsOut.ite | split
      | dsimp only)

end Sys2Proof.Machine
end

