-- ==== Sys2Proof/Laws/KeepsFabric.lean ====
section
/-! SUPPORT. Every operation of Machine/Fabric.lean keeps the anchor (Laws/Keeps.lean). -/

namespace Sys2Proof.Machine

variable {α : Type} {p : Anchor → α} {s0 s : State}

theorem noteReject_keeps (h : Keeps p s0 s) (g : Nat) : Keeps p s0 (noteReject s g) := by
  unfold noteReject
  try dsimp only
  repeat' (
    first
      | with_reducible exact h | with_reducible rfl | (with_reducible apply foldl_keeps; intro _ _ h)
      | simp only [Keeps.upd_iff] | with_reducible apply Keeps.ite | split | dsimp only)

theorem keyRejectOwn_keeps (h : Keeps p s0 s) (tag : Nat) (reason : Nat) (t : Nat) : Keeps p s0 (keyRejectOwn s tag
    reason t) := by
  unfold keyRejectOwn
  try dsimp only
  repeat' (
    first
      | with_reducible exact h | with_reducible rfl | with_reducible apply finishItem_keeps
      | with_reducible apply closeTag_keeps | with_reducible apply noteReject_keeps
      | with_reducible apply endTransfer_keeps | with_reducible apply reapTransfers_keeps
      | with_reducible apply setFab_keeps | (with_reducible apply foldl_keeps; intro _ _ h)
      | with_reducible apply Keeps.ite | split | rfl | dsimp only)

theorem rejectPacket_keeps (h : Keeps p s0 s) (point : Nat) (reason : Nat) (part : Nat) (p_ : Packet) (t : Nat) :
    Keeps p s0 (rejectPacket s point reason part p_ t) := by
  unfold rejectPacket
  try dsimp only
  repeat' (
    first
      | with_reducible exact h | with_reducible rfl | with_reducible apply packetReject_keeps
      | with_reducible apply keyRejectOwn_keeps | with_reducible apply noteReject_keeps
      | with_reducible apply sendCtl_keeps | with_reducible apply bump_keeps
      | (with_reducible apply foldl_keeps; intro _ _ h) | with_reducible apply Keeps.ite | split | dsimp only)

theorem execKeyRejectNoticeRx_keeps (tag : Nat) (reason : Nat) (t : Nat) : KeepsOut p s (execKeyRejectNoticeRx tag
    reason t s) := by
  have h : Keeps p s s := Keeps.start
  unfold execKeyRejectNoticeRx
  try dsimp only
  repeat' (
    first
      | with_reducible exact h | with_reducible rfl | with_reducible exact KeepsOut.fault _
      | with_reducible apply KeepsOut.next | with_reducible apply raise_keeps | with_reducible apply bump_keeps
      | with_reducible apply keyRejectOwn_keeps | (with_reducible apply foldl_keeps; intro _ _ h)
      | with_reducible apply Keeps.ite | with_reducible apply KeepsOut.ite | split | dsimp only)

theorem putInFlow_keeps (h : Keeps p s0 s) (f : InFlow) : Keeps p s0 (putInFlow s f) := by
  unfold putInFlow
  try dsimp only
  repeat' (
    first
      | with_reducible exact h | with_reducible rfl | with_reducible apply setFab_keeps
      | (with_reducible apply foldl_keeps; intro _ _ h) | with_reducible apply Keeps.ite | split | rfl | dsimp only)

theorem deliver_keeps (h : Keeps p s0 s) (p_ : Packet) : Keeps p s0 (deliver s p_) := by
  unfold deliver
  try dsimp only
  repeat' (
    first
      | with_reducible exact h | with_reducible rfl | with_reducible apply setFab_keeps
      | (with_reducible apply foldl_keeps; intro _ _ h) | with_reducible apply Keeps.ite | split | rfl | dsimp only)

theorem ackInFlow_keeps (h : Keeps p s0 s) (f : InFlow) : Keeps p s0 (ackInFlow s f) := by
  unfold ackInFlow
  try dsimp only
  repeat' (
    first
      | with_reducible exact h | with_reducible rfl | with_reducible apply sendCtl_keeps
      | with_reducible apply putInFlow_keeps | (with_reducible apply foldl_keeps; intro _ _ h)
      | with_reducible apply Keeps.ite | split | dsimp only)

theorem advance_keeps (h : Keeps p s0 s) (f : InFlow) : Keeps p s0 (advance s f) := by
  unfold advance
  try dsimp only
  repeat' (
    first
      | with_reducible exact h | with_reducible rfl | with_reducible apply ackInFlow_keeps
      | with_reducible apply putInFlow_keeps | (with_reducible apply foldl_keeps; intro _ _ h)
      | with_reducible apply Keeps.ite | split | dsimp only)

theorem useReorder_keeps (h : Keeps p s0 s) (h_ : Nat) (ovf : Bool) (add : Nat) (sub : Nat) : Keeps p s0 (useReorder s
    h_ ovf add sub) := by
  unfold useReorder
  try dsimp only
  repeat' (
    first
      | with_reducible exact h | with_reducible rfl | with_reducible apply setFab_keeps
      | (with_reducible apply foldl_keeps; intro _ _ h) | with_reducible apply Keeps.ite | split | rfl | dsimp only)

theorem drainFlow_keeps (h : Keeps p s0 s) (key chan src n : Nat) : Keeps p s0 (drainFlow key chan src n s) := by
  induction n generalizing s with
  | zero => exact h
  | succ n ih =>
    unfold drainFlow
    dsimp only
    split
    · exact ih (advance_keeps (useReorder_keeps (deliver_keeps h _) _ _ _ _) _)
    · split
      · exact ih (advance_keeps h _)
      · split
        · refine ih (advance_keeps (setFab_keeps (deliver_keeps h _) _ ?_) _)
          rfl
        · exact h

theorem recvStrict_keeps (h : Keeps p s0 s) (p_ : Packet) : Keeps p s0 (recvStrict s p_) := by
  unfold recvStrict
  try dsimp only
  repeat' (
    first
      | with_reducible exact h | with_reducible rfl | with_reducible apply advance_keeps
      | with_reducible apply deliver_keeps | with_reducible apply sendCtl_keeps | with_reducible apply bump_keeps
      | with_reducible apply putInFlow_keeps | with_reducible apply ackInFlow_keeps
      | (with_reducible apply foldl_keeps; intro _ _ h) | with_reducible apply Keeps.ite | split | dsimp only)

theorem recvSpray_keeps (h : Keeps p s0 s) (p_ : Packet) (t : Nat) : Keeps p s0 (recvSpray s p_ t) := by
  unfold recvSpray
  try dsimp only
  repeat' (
    first
      | with_reducible exact h | with_reducible rfl | with_reducible apply drainFlow_keeps
      | with_reducible apply advance_keeps | with_reducible apply deliver_keeps
      | with_reducible apply ackInFlow_keeps | with_reducible apply putInFlow_keeps
      | with_reducible apply setFab_keeps | with_reducible apply raise_keeps | with_reducible apply bump_keeps
      | with_reducible apply useReorder_keeps | (with_reducible apply foldl_keeps; intro _ _ h)
      | with_reducible apply Keeps.ite | split | rfl | dsimp only)

theorem acceptPacket_keeps (h : Keeps p s0 s) (p_ : Packet) (t : Nat) : Keeps p s0 (acceptPacket s p_ t) := by
  unfold acceptPacket
  try dsimp only
  repeat' (
    first
      | with_reducible exact h | with_reducible rfl | with_reducible apply recvStrict_keeps
      | with_reducible apply recvSpray_keeps | with_reducible apply deliver_keeps
      | (with_reducible apply foldl_keeps; intro _ _ h) | with_reducible apply Keeps.ite | split | dsimp only)

theorem endArriving_keeps (h : Keeps p s0 s) (n : Nat) (t : Nat) : Keeps p s0 (endArriving s n t) := by
  unfold endArriving
  try dsimp only
  repeat' (
    first
      | with_reducible exact h | with_reducible rfl | with_reducible apply acceptPacket_keeps
      | with_reducible apply setPort_keeps | (with_reducible apply foldl_keeps; intro _ _ h)
      | with_reducible apply Keeps.ite | split | dsimp only)

theorem execFlitRx_keeps (n : Nat) (crcOk : Bool) (f : Flit) (fec : Nat × Nat) (t : Nat) : KeepsOut p s (execFlitRx n
    crcOk f fec t s) := by
  have h : Keeps p s s := Keeps.start
  unfold execFlitRx
  try dsimp only
  repeat' (
    first
      | with_reducible exact h | with_reducible rfl | with_reducible exact KeepsOut.fault _
      | with_reducible apply KeepsOut.next | with_reducible apply bumpN_keeps
      | with_reducible apply acceptReturns_keeps | with_reducible apply setPort_keeps
      | with_reducible apply sendIdle_keeps | with_reducible apply endArriving_keeps
      | with_reducible apply bump_keeps | with_reducible apply emit_keeps | with_reducible apply exhaust_keeps
      | (with_reducible apply foldl_keeps; intro _ _ h) | with_reducible apply Keeps.ite
      | with_reducible apply KeepsOut.ite | split | dsimp only)

theorem forward_keeps (h : Keeps p s0 s) (n : Nat) (p0 : Packet) (p_ : Packet) (t : Nat) : Keeps p s0 (forward s n p0
    p_ t) := by
  unfold forward
  try dsimp only
  repeat' (
    first
      | with_reducible exact h | with_reducible rfl | with_reducible apply raise_keeps
      | with_reducible apply bump_keeps | with_reducible apply routeOut_keeps
      | (with_reducible apply foldl_keeps; intro _ _ h) | with_reducible apply Keeps.ite | split | dsimp only)

theorem takeArriving_keeps (h : Keeps p s0 s) (n : Nat) (p0 : Packet) (p_ : Packet) (t : Nat) : Keeps p s0
    (takeArriving s n p0 p_ t) := by
  unfold takeArriving
  try dsimp only
  repeat' (
    first
      | with_reducible exact h | with_reducible rfl | with_reducible apply setPort_keeps
      | with_reducible apply acceptPacket_keeps | (with_reducible apply foldl_keeps; intro _ _ h)
      | with_reducible apply Keeps.ite | split | dsimp only)

theorem arrive_keeps (h : Keeps p s0 s) (n : Nat) (p0 : Packet) (t : Nat) : Keeps p s0 (arrive s n p0 t) := by
  unfold arrive
  try dsimp only
  repeat' (
    first
      | with_reducible exact h | with_reducible rfl | with_reducible apply rejectPacket_keeps
      | with_reducible apply bump_keeps | with_reducible apply takeArriving_keeps
      | with_reducible apply forward_keeps | (with_reducible apply foldl_keeps; intro _ _ h)
      | with_reducible apply Keeps.ite | split | dsimp only)

theorem execPacketArrive_keeps (n : Nat) (p_ : Packet) (t : Nat) : KeepsOut p s (execPacketArrive n p_ t s) := by
  have h : Keeps p s s := Keeps.start
  unfold execPacketArrive
  try dsimp only
  repeat' (
    first
      | with_reducible exact h | with_reducible rfl | with_reducible exact KeepsOut.fault _
      | with_reducible apply KeepsOut.next | with_reducible apply arrive_keeps | with_reducible apply passRx_keeps
      | (with_reducible apply foldl_keeps; intro _ _ h) | with_reducible apply Keeps.ite
      | with_reducible apply KeepsOut.ite | split | dsimp only)

theorem execE2eAckRx_keeps (key : Nat) (chan : Nat) (dst : Nat) (next : Nat) (t : Nat) : KeepsOut p s (execE2eAckRx
    key chan dst next t s) := by
  have h : Keeps p s s := Keeps.start
  unfold execE2eAckRx
  try dsimp only
  repeat' (
    first
      | with_reducible exact h | with_reducible rfl | with_reducible exact KeepsOut.fault _
      | with_reducible apply KeepsOut.next | with_reducible apply reapTransfers_keeps
      | with_reducible apply ackFlow_keeps | (with_reducible apply foldl_keeps; intro _ _ h)
      | with_reducible apply Keeps.ite | with_reducible apply KeepsOut.ite | split | dsimp only)

theorem execE2eNakRx_keeps (key : Nat) (chan : Nat) (dst : Nat) (t : Nat) : KeepsOut p s (execE2eNakRx key chan dst t
    s) := by
  have h : Keeps p s s := Keeps.start
  unfold execE2eNakRx
  try dsimp only
  repeat' (
    first
      | with_reducible exact h | with_reducible rfl | with_reducible exact KeepsOut.fault _
      | with_reducible apply KeepsOut.next | with_reducible apply resendFlow_keeps
      | (with_reducible apply foldl_keeps; intro _ _ h) | with_reducible apply Keeps.ite
      | with_reducible apply KeepsOut.ite | split | dsimp only)

theorem execE2eAckTimer_keeps (key : Nat) (chan : Nat) (src : Nat) : KeepsOut p s (execE2eAckTimer key chan src s) :=
    by
  have h : Keeps p s s := Keeps.start
  unfold execE2eAckTimer
  try dsimp only
  repeat' (
    first
      | with_reducible exact h | with_reducible rfl | with_reducible exact KeepsOut.fault _
      | with_reducible apply KeepsOut.next | with_reducible apply ackInFlow_keeps
      | (with_reducible apply foldl_keeps; intro _ _ h) | with_reducible apply Keeps.ite
      | with_reducible apply KeepsOut.ite | split | dsimp only)

theorem execE2eTimeout_keeps (key : Nat) (chan : Nat) (dst : Nat) (t : Nat) : KeepsOut p s (execE2eTimeout key chan
    dst t s) := by
  have h : Keeps p s s := Keeps.start
  unfold execE2eTimeout
  try dsimp only
  repeat' (
    first
      | with_reducible exact h | with_reducible rfl | with_reducible exact KeepsOut.fault _
      | with_reducible apply KeepsOut.next | with_reducible apply reapTransfers_keeps
      | with_reducible apply flowTimeout_keeps | (with_reducible apply foldl_keeps; intro _ _ h)
      | with_reducible apply Keeps.ite | with_reducible apply KeepsOut.ite | split | dsimp only)

theorem execNodeDownRx_keeps (n : Nat) (m : Nat) (t : Nat) : KeepsOut p s (execNodeDownRx n m t s) := by
  have h : Keeps p s s := Keeps.start
  unfold execNodeDownRx
  try dsimp only
  repeat' (
    first
      | with_reducible exact h | with_reducible rfl | with_reducible exact KeepsOut.fault _
      | with_reducible apply KeepsOut.next | with_reducible apply setPort_keeps
      | with_reducible apply reapTransfers_keeps | with_reducible apply moduleDown_keeps
      | (with_reducible apply foldl_keeps; intro _ _ h) | with_reducible apply Keeps.ite
      | with_reducible apply KeepsOut.ite | split | dsimp only)

theorem admitModules_keeps (h : Keeps p s0 s) : Keeps p s0 (admitModules s) := by
  unfold admitModules
  try dsimp only
  repeat' (
    first
      | with_reducible exact h | with_reducible rfl | with_reducible apply setFab_keeps
      | (with_reducible apply foldl_keeps; intro _ _ h) | with_reducible apply Keeps.ite | split | rfl | dsimp only)

theorem dropInFlow_keeps (h : Keeps p s0 s) (f : InFlow) : Keeps p s0 (dropInFlow s f) := by
  unfold dropInFlow
  try dsimp only
  repeat' (
    first
      | with_reducible exact h | with_reducible rfl | with_reducible apply useReorder_keeps
      | with_reducible apply setFab_keeps | (with_reducible apply foldl_keeps; intro _ _ h)
      | with_reducible apply Keeps.ite | split | rfl | dsimp only)

theorem restartFlows_keeps (h : Keeps p s0 s) (m : Nat) : Keeps p s0 (restartFlows s m) := by
  unfold restartFlows
  try dsimp only
  repeat' (
    first
      | with_reducible exact h | with_reducible rfl | with_reducible apply dropInFlow_keeps
      | with_reducible apply setFab_keeps | (with_reducible apply foldl_keeps; intro _ _ h)
      | with_reducible apply Keeps.ite | split | rfl | dsimp only)

theorem moduleUp_keeps (h : Keeps p s0 s) (m : Nat) (from_ : Option Nat) (t : Nat) : Keeps p s0 (moduleUp s m from_ t)
    := by
  unfold moduleUp
  try dsimp only
  repeat' (
    first
      | with_reducible exact h | with_reducible rfl | with_reducible apply setFab_keeps
      | with_reducible apply restartFlows_keeps | with_reducible apply raise_keeps
      | with_reducible apply flood_keeps | with_reducible apply admitModules_keeps
      | (with_reducible apply foldl_keeps; intro _ _ h) | with_reducible apply Keeps.ite | split | rfl | dsimp only)

theorem execNodeUpRx_keeps (n : Nat) (m : Nat) (t : Nat) : KeepsOut p s (execNodeUpRx n m t s) := by
  have h : Keeps p s s := Keeps.start
  unfold execNodeUpRx
  try dsimp only
  repeat' (
    first
      | with_reducible exact h | with_reducible rfl | with_reducible exact KeepsOut.fault _
      | with_reducible apply KeepsOut.next | with_reducible apply moduleUp_keeps
      | (with_reducible apply foldl_keeps; intro _ _ h) | with_reducible apply Keeps.ite
      | with_reducible apply KeepsOut.ite | split | dsimp only)

theorem joinPort_keeps (h : Keeps p s0 s) (n : Nat) (t : Nat) : Keeps p s0 (joinPort s n t) := by
  unfold joinPort
  try dsimp only
  repeat' (
    first
      | with_reducible exact h | with_reducible rfl | with_reducible apply setPort_keeps
      | with_reducible apply raise_keeps | with_reducible apply moduleUp_keeps
      | (with_reducible apply foldl_keeps; intro _ _ h) | with_reducible apply Keeps.ite | split | dsimp only)

theorem execJoinRx_keeps (n : Nat) (m : Nat) (epoch : Nat) (crc : Nat) (t : Nat) : KeepsOut p s (execJoinRx n m epoch
    crc t s) := by
  have h : Keeps p s s := Keeps.start
  unfold execJoinRx
  try dsimp only
  repeat' (
    first
      | with_reducible exact h | with_reducible rfl | with_reducible exact KeepsOut.fault _
      | with_reducible apply KeepsOut.next | with_reducible apply raise_keeps | with_reducible apply setPort_keeps
      | with_reducible apply joinPort_keeps | (with_reducible apply foldl_keeps; intro _ _ h)
      | with_reducible apply Keeps.ite | with_reducible apply KeepsOut.ite | split | dsimp only)

theorem sendJoins_keeps (h : Keeps p s0 s) : Keeps p s0 (sendJoins s) := by
  unfold sendJoins
  try dsimp only
  repeat' (
    first
      | with_reducible exact h | with_reducible rfl | with_reducible apply setPort_keeps
      | with_reducible apply toPort_keeps | (with_reducible apply foldl_keeps; intro _ _ h)
      | with_reducible apply Keeps.ite | split | dsimp only)

end Sys2Proof.Machine
end

