-- ==== Sys2Proof/Laws/KeepsBackground.lean ====
section
/-! SUPPORT. Every operation of Machine/Background.lean keeps the anchor (Laws/Keeps.lean). -/

namespace Sys2Proof.Machine

variable {α : Type} {p : Anchor → α} {s0 s : State}

theorem setBkg_keeps (h : Keeps p s0 s) (b : Background) : Keeps p s0 (setBkg s b) := by
  unfold setBkg
  try dsimp only
  repeat' (
    first
      | with_reducible exact h | with_reducible rfl | (with_reducible apply foldl_keeps; intro _ _ h)
      | simp only [Keeps.upd_iff] | with_reducible apply Keeps.ite | split | dsimp only)

theorem bkgEvent_keeps (h : Keeps p s0 s) (bit : Nat) (t : Nat) : Keeps p s0 (bkgEvent s bit t) := by
  unfold bkgEvent
  try dsimp only
  repeat' (
    first
      | with_reducible exact h | with_reducible rfl | with_reducible apply raise_keeps
      | (with_reducible apply foldl_keeps; intro _ _ h) | with_reducible apply Keeps.ite | split | dsimp only)

theorem logTelemetry_keeps (h : Keeps p s0 s) (id : Nat) (t : Nat) : Keeps p s0 (logTelemetry s id t) := by
  unfold logTelemetry
  try dsimp only
  repeat' (
    first
      | with_reducible exact h | with_reducible rfl | with_reducible apply bump_keeps
      | with_reducible apply bkgEvent_keeps | (with_reducible apply foldl_keeps; intro _ _ h)
      | simp only [Keeps.upd_iff] | with_reducible apply Keeps.ite | split | dsimp only)

theorem markMem_keeps (h : Keeps p s0 s) (line : Nat) : Keeps p s0 (markMem s line) := h.updMems rfl id

theorem markCsram_keeps (h : Keeps p s0 s) (line : Nat) : Keeps p s0 (markCsram s line) := h.updMems rfl id

theorem markHsram_keeps (h : Keeps p s0 s) (w : Nat) : Keeps p s0 (markHsram s w) := h.updMems rfl id

theorem dropOvf_keeps (h : Keeps p s0 s) (h_ : Nat) : Keeps p s0 (dropOvf s h_) := by
  unfold dropOvf
  try dsimp only
  repeat' (
    first
      | with_reducible exact h | with_reducible rfl | with_reducible apply setFab_keeps
      | with_reducible apply useReorder_keeps | (with_reducible apply foldl_keeps; intro _ _ h)
      | with_reducible apply Keeps.ite | split | rfl | dsimp only)

theorem hsramUser_keeps (h : Keeps p s0 s) (w : Nat) (t : Nat) : Keeps p s0 (hsramUser s w t) := by
  unfold hsramUser
  try dsimp only
  repeat' (
    first
      | with_reducible exact h | with_reducible rfl | with_reducible apply hubSramUe_keeps
      | with_reducible apply dropOvf_keeps | with_reducible apply reapTransfers_keeps
      | with_reducible apply endTransfer_keeps | (with_reducible apply foldl_keeps; intro _ _ h)
      | with_reducible apply Keeps.ite | split | dsimp only)

theorem startReload_keeps (h : Keeps p s0 s) (b : Nat) : Keeps p s0 (startReload s b) := by
  unfold startReload
  try dsimp only
  repeat' (
    first
      | with_reducible exact h | with_reducible rfl | (with_reducible apply foldl_keeps; intro _ _ h)
      | simp only [Keeps.upd_iff] | with_reducible apply Keeps.ite | split | dsimp only)

theorem patrolFinding_keeps (h : Keeps p s0 s) (t : Nat) (f : Finding) : Keeps p s0 (patrolFinding t s f) := by
  unfold patrolFinding
  try dsimp only
  repeat' (
    first
      | with_reducible exact h | with_reducible rfl | with_reducible apply bkgEvent_keeps
      | with_reducible apply bump_keeps | with_reducible apply markMem_keeps | with_reducible apply wr_keeps
      | with_reducible apply markCsram_keeps | with_reducible apply raise_keeps
      | with_reducible apply markHsram_keeps | with_reducible apply hsramUser_keeps
      | with_reducible apply endRequest_keeps | with_reducible apply startReload_keeps
      | (with_reducible apply foldl_keeps; intro _ _ h) | simp only [Keeps.upd_iff] | with_reducible apply Keeps.ite
      | split | dsimp only)

theorem stopPatrol_keeps (h : Keeps p s0 s) (m : Nat) (c : Nat) : Keeps p s0 (stopPatrol m s c) := by
  unfold stopPatrol
  try dsimp only
  repeat' (
    first
      | with_reducible exact h | with_reducible rfl | with_reducible apply setBkg_keeps
      | with_reducible apply wr_keeps | (with_reducible apply foldl_keeps; intro _ _ h)
      | with_reducible apply Keeps.ite | split | dsimp only)

theorem stopChores_keeps (h : Keeps p s0 s) (t : Nat) : Keeps p s0 (stopChores s t) := by
  unfold stopChores
  try dsimp only
  repeat' (
    first
      | with_reducible exact h | with_reducible rfl | with_reducible apply stopPatrol_keeps
      | with_reducible apply drawn_keeps | with_reducible apply setBkg_keeps
      | (with_reducible apply foldl_keeps; intro _ _ h) | with_reducible apply Keeps.ite | split | dsimp only)

theorem execChoreStart_keeps (found : List Finding) (t : Nat) : KeepsOut p s (execChoreStart found t s) := by
  have h : Keeps p s s := Keeps.start
  unfold execChoreStart
  try dsimp only
  repeat' (
    first
      | with_reducible exact h | with_reducible rfl | with_reducible exact KeepsOut.fault _
      | with_reducible apply KeepsOut.next | with_reducible apply patrolFinding_keeps
      | with_reducible apply setBkg_keeps | with_reducible apply stopChores_keeps
      | with_reducible apply logTelemetry_keeps | with_reducible apply bump_keeps | with_reducible apply wr_keeps
      | (with_reducible apply foldl_keeps; intro _ _ h) | with_reducible apply Keeps.ite
      | with_reducible apply KeepsOut.ite | split | dsimp only)

theorem execChoreStop_keeps (t : Nat) : KeepsOut p s (execChoreStop t s) := by
  have h : Keeps p s s := Keeps.start
  unfold execChoreStop
  try dsimp only
  repeat' (
    first
      | with_reducible exact h | with_reducible rfl | with_reducible exact KeepsOut.fault _
      | with_reducible apply KeepsOut.next | with_reducible apply stopChores_keeps
      | (with_reducible apply foldl_keeps; intro _ _ h) | with_reducible apply Keeps.ite
      | with_reducible apply KeepsOut.ite | split | dsimp only)

theorem execLaneRecalStart_keeps (n : Nat) : KeepsOut p s (execLaneRecalStart n s) := by
  have h : Keeps p s s := Keeps.start
  unfold execLaneRecalStart
  try dsimp only
  repeat' (
    first
      | with_reducible exact h | with_reducible rfl | with_reducible exact KeepsOut.fault _
      | with_reducible apply KeepsOut.next | with_reducible apply askWidth_keeps
      | with_reducible apply setPort_keeps | (with_reducible apply foldl_keeps; intro _ _ h)
      | with_reducible apply Keeps.ite | with_reducible apply KeepsOut.ite | split | dsimp only)

theorem execLaneRecalDone_keeps (n : Nat) (ok : Bool) (t : Nat) : KeepsOut p s (execLaneRecalDone n ok t s) := by
  have h : Keeps p s s := Keeps.start
  unfold execLaneRecalDone
  try dsimp only
  repeat' (
    first
      | with_reducible exact h | with_reducible rfl | with_reducible exact KeepsOut.fault _
      | with_reducible apply KeepsOut.next | with_reducible apply setPort_keeps | with_reducible apply bump_keeps
      | with_reducible apply askWidth_keeps | with_reducible apply bkgEvent_keeps
      | with_reducible apply setWidth_keeps | (with_reducible apply foldl_keeps; intro _ _ h)
      | with_reducible apply Keeps.ite | with_reducible apply KeepsOut.ite | split | dsimp only)

theorem startErase_keeps (h : Keeps p s0 s) : Keeps p s0 (startErase s) := by
  unfold startErase
  try dsimp only
  repeat' (
    first
      | with_reducible exact h | with_reducible rfl | with_reducible apply setBkg_keeps
      | (with_reducible apply foldl_keeps; intro _ _ h) | with_reducible apply Keeps.ite | split | dsimp only)

theorem execLogPageProgram_keeps : KeepsOut p s (execLogPageProgram s) := by
  have h : Keeps p s s := Keeps.start
  unfold execLogPageProgram
  try dsimp only
  repeat' (
    first
      | with_reducible exact h | with_reducible rfl | with_reducible exact KeepsOut.fault _
      | with_reducible apply KeepsOut.next | with_reducible apply startErase_keeps
      | with_reducible apply setBkg_keeps | (with_reducible apply foldl_keeps; intro _ _ h)
      | with_reducible apply Keeps.ite | with_reducible apply KeepsOut.ite | split | dsimp only)

theorem retireSector_keeps (hp : BlindToFlash p) (h : Keeps p s0 s) (k t : Nat) : Keeps p s0 (retireSector s k t) := by
  have h1 := h.updFlash hp (Mem.write 0xFF#8 s.mems.flash (sectorAddr k + 12) 0#8) (Mem.wf_write _ _)
  have h2 := fun b v => bkgEvent_keeps (bump_keeps (wr_keeps (setBkg_keeps h1 b) Reg.BKG_LOG_USABLE v)
    Reg.BKG_SECTOR_RETIRED_COUNT) 8 t
  exact Keeps.ite (bkgEvent_keeps (wr_keeps (h2 _ _) _ _) _ _) (h2 _ _)

theorem programDone_keeps (hp : BlindToFlash p) (h : Keeps p s0 s) (addr : Nat) (bs : List Byte) :
    Keeps p s0 (programDone s addr bs) := by
  have h1 : ∀ m : Mem, (Mem.wf 0xFF#8 s.mems.flash = true → Mem.wf 0xFF#8 m = true) →
      Keeps p s0 { s with mems := { s.mems with flash := m } } := fun m => h.updFlash hp m
  have h2 : ∀ (m : Mem) (n : Nat), (Mem.wf 0xFF#8 s.mems.flash = true → Mem.wf 0xFF#8 m = true) →
      Keeps p s0 { s with mems := { s.mems with flash := m }, logBuf := s.logBuf.drop n } :=
    fun m n hm => ⟨(h1 m hm).same, (h1 m hm).wf⟩
  unfold programDone
  dsimp only
  refine wr_keeps (setBkg_keeps (h2 _ _ ?_) _) _ _
  intro hw
  split
  · split
    · exact Mem.wf_writeN _ _ hw
    · exact Mem.wf_write _ _ (Mem.wf_writeN _ _ hw)
  · exact Mem.wf_writeN _ _ hw

theorem execFlashOpComplete_keeps (hp : BlindToFlash p) (ok : Bool) (t : Nat) :
    KeepsOut p s (execFlashOpComplete ok t s) := by
  have h : Keeps p s s := Keeps.start
  unfold execFlashOpComplete
  split
  · exact h
  · split
    · exact h
    · split
      · exact startErase_keeps (programDone_keeps hp h _ _)
      · exact startErase_keeps (retireSector_keeps hp (setBkg_keeps h _) _ _)
    · dsimp only
      split
      · have h1 := fun b => Keeps.updFlash hp (setBkg_keeps h b)
        split
        · exact retireSector_keeps hp (setBkg_keeps (h1 _ _ (Mem.wf_filter _)) _) _ _
        · exact setBkg_keeps (h1 _ _ (Mem.wf_filter _)) _
      · exact retireSector_keeps hp (setBkg_keeps h _) _ _

theorem recoverLog_keeps (h : Keeps p s0 s) : Keeps p s0 (recoverLog s) := by
  unfold recoverLog
  try dsimp only
  repeat' (
    first
      | with_reducible exact h | with_reducible rfl | with_reducible apply setBkg_keeps
      | with_reducible apply wr_keeps | with_reducible apply bkgEvent_keeps
      | (with_reducible apply foldl_keeps; intro _ _ h) | with_reducible apply Keeps.ite | split | dsimp only)

theorem execTelemetrySample_keeps (t : Nat) : KeepsOut p s (execTelemetrySample t s) := by
  have h : Keeps p s s := Keeps.start
  unfold execTelemetrySample
  try dsimp only
  repeat' (
    first
      | with_reducible exact h | with_reducible rfl | with_reducible exact KeepsOut.fault _
      | with_reducible apply KeepsOut.next | with_reducible apply setBkg_keeps | with_reducible apply drawn_keeps
      | with_reducible apply wr_keeps | with_reducible apply bkgEvent_keeps | with_reducible apply bump_keeps
      | (with_reducible apply foldl_keeps; intro _ _ h) | with_reducible apply Keeps.ite
      | with_reducible apply KeepsOut.ite | split | dsimp only)

theorem execHwTimerExpiry_keeps (k : Nat) : KeepsOut p s (execHwTimerExpiry k s) := by
  have h : Keeps p s s := Keeps.start
  unfold execHwTimerExpiry
  try dsimp only
  repeat' (
    first
      | with_reducible exact h | with_reducible rfl | with_reducible exact KeepsOut.fault _
      | with_reducible apply KeepsOut.next | with_reducible apply setBkg_keeps
      | (with_reducible apply foldl_keeps; intro _ _ h) | simp only [Keeps.upd_iff] | with_reducible apply Keeps.ite
      | with_reducible apply KeepsOut.ite | split | dsimp only)

end Sys2Proof.Machine
end

