-- ==== Sys2Proof/Laws/KeepsImage.lean ====
section
/-! SUPPORT. Every operation of Machine/Image.lean keeps the anchor (Laws/Keeps.lean). -/

namespace Sys2Proof.Machine

variable {α : Type} {p : Anchor → α} {s0 s : State}

theorem flashWrite_keeps (hp : BlindToFlash p) (h : Keeps p s0 s) (a : Nat) (bs : List Byte) :
    Keeps p s0 (flashWrite s a bs) := h.updFlash hp _ (Mem.wf_writeN bs a)

theorem rewriteDirectory_keeps (hpFlash : BlindToFlash p) (h : Keeps p s0 s) (f : Directory → Directory) : Keeps p s0
    (rewriteDirectory s f) := by
  unfold rewriteDirectory
  try dsimp only
  repeat' (
    first
      | with_reducible exact h | with_reducible rfl | with_reducible apply flashWrite_keeps hpFlash
      | (with_reducible apply foldl_keeps; intro _ _ h) | with_reducible apply Keeps.ite | split | dsimp only)

theorem clearRwl_keeps (h : Keeps p s0 s) : Keeps p s0 (clearRwl s) := by
  unfold clearRwl
  dsimp only
  apply Keeps.updRegs h
  intro hs
  exact SMap.sorted_foldl_put (List.filter _ (State.resetRegs s.build s.straps)) Prod.fst Prod.snd (SMap.sorted_filter _ hs)

theorem clearTables_keeps (hp : BlindToTables p) (h : Keeps p s0 s) :
    Keeps p s0 (clearTables s) := by
  unfold clearTables
  try dsimp only
  repeat' (
    first
      | with_reducible exact h | with_reducible rfl | with_reducible apply clearRwl_keeps
      | (with_reducible apply foldl_keeps; intro _ _ h) | simp only [Keeps.updTables_iff hp]
      | with_reducible apply Keeps.ite | split)

theorem loadRegisters_keeps (hp : BlindToTables p) (h : Keeps p s0 s) (x : Nat × Nat) :
    Keeps p s0 (loadRegisters s x) := by
  unfold loadRegisters
  try dsimp only
  repeat' (
    first
      | with_reducible exact h | with_reducible rfl | with_reducible apply wr_keeps
      | (with_reducible apply foldl_keeps; intro _ _ h) | simp only [Keeps.updTables_iff hp]
      | with_reducible apply Keeps.ite | split)

theorem loadPartitions_keeps (hp : BlindToTables p) (h : Keeps p s0 s) (x : Nat × Nat) :
    Keeps p s0 (loadPartitions s x) := by
  unfold loadPartitions
  try dsimp only
  repeat' (
    first
      | with_reducible exact h | with_reducible rfl | with_reducible apply wr_keeps
      | (with_reducible apply foldl_keeps; intro _ _ h) | simp only [Keeps.updTables_iff hp]
      | with_reducible apply Keeps.ite | split)

theorem loadAllocs_keeps (hp : BlindToTables p) (h : Keeps p s0 s) (x : Nat × Nat) :
    Keeps p s0 (loadAllocs s x) := by
  unfold loadAllocs
  try dsimp only
  repeat' (
    first
      | with_reducible exact h | with_reducible rfl | (with_reducible apply foldl_keeps; intro _ _ h)
      | simp only [Keeps.updTables_iff hp] | with_reducible apply Keeps.ite | split)

theorem loadWindows_keeps (hp : BlindToTables p) (h : Keeps p s0 s) (x : Nat × Nat) :
    Keeps p s0 (loadWindows s x) := by
  unfold loadWindows
  try dsimp only
  repeat' (
    first
      | with_reducible exact h | with_reducible rfl | (with_reducible apply foldl_keeps; intro _ _ h)
      | simp only [Keeps.updTables_iff hp] | with_reducible apply Keeps.ite | split)

theorem loadGroups_keeps (hp : BlindToTables p) (h : Keeps p s0 s) (x : Nat × Nat) :
    Keeps p s0 (loadGroups s x) := by
  unfold loadGroups
  try dsimp only
  repeat' (
    first
      | with_reducible exact h | with_reducible rfl | (with_reducible apply foldl_keeps; intro _ _ h)
      | simp only [Keeps.updTables_iff hp] | with_reducible apply Keeps.ite | split)

theorem loadRoutes_keeps (hp : BlindToTables p) (h : Keeps p s0 s) (x : Nat × Nat) :
    Keeps p s0 (loadRoutes s x) := by
  unfold loadRoutes
  try dsimp only
  repeat' (
    first
      | with_reducible exact h | with_reducible rfl | (with_reducible apply foldl_keeps; intro _ _ h)
      | simp only [Keeps.updTables_iff hp] | with_reducible apply Keeps.ite | split)

theorem loadSchedule_keeps (hp : BlindToTables p) (h : Keeps p s0 s) (x : Nat × Nat) :
    Keeps p s0 (loadSchedule s x) := by
  unfold loadSchedule
  try dsimp only
  repeat' (
    first
      | with_reducible exact h | with_reducible rfl | (with_reducible apply foldl_keeps; intro _ _ h)
      | simp only [Keeps.updTables_iff hp] | with_reducible apply Keeps.ite | split)

theorem loadMicrocode_keeps (hp : BlindToTables p) (h : Keeps p s0 s) (x : Nat × Nat) :
    Keeps p s0 (loadMicrocode s x) := by
  unfold loadMicrocode
  try dsimp only
  repeat' (
    first
      | with_reducible exact h | with_reducible rfl | with_reducible apply wr_keeps
      | (with_reducible apply foldl_keeps; intro _ _ h) | simp only [Keeps.updTables_iff hp]
      | with_reducible apply Keeps.ite | split)

theorem loadFirmware_keeps (hp : BlindToTables p) (h : Keeps p s0 s) (x : Nat × Nat) : Keeps p s0 (loadFirmware s x) := by
  have _ := hp
  have h1 : ∀ (u : Sup) (a b : List Byte), Keeps p s0 { s with
      sup := u
      mems := { s.mems with supCode := Mem.writeN 0#8 [] 0 a, supData := Mem.writeN 0#8 [] 0 b } } := fun u a b => by
    have h2 := h.updMems (m := { s.mems with supCode := Mem.writeN 0#8 [] 0 a, supData := Mem.writeN 0#8 [] 0 b }) rfl
      (fun ⟨h1, h2, h3, h4, h5, _, _, h8⟩ =>
        ⟨h1, h2, h3, h4, h5, Mem.wf_writeN _ _ (by decide), Mem.wf_writeN _ _ (by decide), h8⟩)
    exact ⟨h2.same, h2.wf⟩
  exact wr_keeps (h1 _ _ _) _ _

theorem loadLedger_keeps (hp : BlindToTables p) (h : Keeps p s0 s) (x : Nat × Nat) :
    Keeps p s0 (loadLedger s x) := by
  unfold loadLedger
  try dsimp only
  repeat' (
    first
      | with_reducible exact h | with_reducible rfl | (with_reducible apply foldl_keeps; intro _ _ h)
      | simp only [Keeps.updTables_iff hp] | with_reducible apply Keeps.ite | split)

theorem loadBootParams_keeps (hp : BlindToTables p) (h : Keeps p s0 s) (x : Nat × Nat) :
    Keeps p s0 (loadBootParams s x) := by
  unfold loadBootParams
  try dsimp only
  repeat' (
    first
      | with_reducible exact h | with_reducible rfl | (with_reducible apply foldl_keeps; intro _ _ h)
      | simp only [Keeps.updTables_iff hp] | with_reducible apply Keeps.ite | split)

theorem loadImage_keeps (hp : BlindToTables p) (h : Keeps p s0 s) (l : List (Nat × Nat × Nat)) :
    Keeps p s0 (loadImage s l) := by
  unfold loadImage
  try dsimp only
  repeat' (
    first
      | with_reducible exact h | with_reducible rfl | with_reducible apply clearTables_keeps hp
      | with_reducible apply loadRegisters_keeps hp | with_reducible apply loadPartitions_keeps hp
      | with_reducible apply loadAllocs_keeps hp | with_reducible apply loadWindows_keeps hp
      | with_reducible apply loadGroups_keeps hp | with_reducible apply loadRoutes_keeps hp
      | with_reducible apply loadSchedule_keeps hp | with_reducible apply loadMicrocode_keeps hp
      | with_reducible apply loadFirmware_keeps hp | with_reducible apply loadLedger_keeps hp
      | with_reducible apply loadBootParams_keeps hp | (with_reducible apply foldl_keeps; intro _ _ h)
      | simp only [Keeps.updTables_iff hp] | with_reducible apply Keeps.ite | split)

end Sys2Proof.Machine
end

