-- ==== Sys2Proof/Laws/KeepsTally.lean ====
section
/-! SUPPORT. Every operation of Machine/Tally.lean keeps the anchor (Laws/Keeps.lean). -/

namespace Sys2Proof.Machine

variable {α : Type} {p : Anchor → α} {s0 s : State}

theorem setTally_keeps (h : Keeps p s0 s) (y : Tally) : Keeps p s0 (setTally s y) := by
  unfold setTally
  try dsimp only
  repeat' (
    first
      | with_reducible exact h | with_reducible rfl | (with_reducible apply foldl_keeps; intro _ _ h)
      | simp only [Keeps.upd_iff] | with_reducible apply Keeps.ite | split | dsimp only)

theorem tlyEvent_keeps (h : Keeps p s0 s) (bit : Nat) (t : Nat) : Keeps p s0 (tlyEvent s bit t) := by
  unfold tlyEvent
  try dsimp only
  repeat' (
    first
      | with_reducible exact h | with_reducible rfl | with_reducible apply raise_keeps
      | (with_reducible apply foldl_keeps; intro _ _ h) | with_reducible apply Keeps.ite | split | dsimp only)

theorem areaWrite_keeps (h : Keeps p s0 s) (p_ : Nat) (a : Nat) (bs : List Byte) (t : Nat) : Keeps p s0 (areaWrite s
    p_ a bs t) := by
  unfold areaWrite
  try dsimp only
  repeat' (
    first
      | with_reducible exact h | with_reducible rfl | with_reducible apply memWrite_keeps
      | with_reducible apply fenceRefuse_keeps | (with_reducible apply foldl_keeps; intro _ _ h)
      | with_reducible apply Keeps.ite | split | dsimp only)

theorem writeEntry_keeps (h : Keeps p s0 s) (port : Nat) (i : Nat) (p_ : Nat) (st : Nat) (m : Meas) (wants : Bool)
    (first : Bool) (missed : Nat) (t : Nat) : Keeps p s0 (writeEntry s port i p_ st m wants first missed t) := by
  unfold writeEntry
  try dsimp only
  repeat' (
    first
      | with_reducible exact h | with_reducible rfl | with_reducible apply bump_keeps
      | with_reducible apply setTally_keeps | with_reducible apply areaWrite_keeps | with_reducible apply wr_keeps
      | with_reducible apply tlyEvent_keeps | (with_reducible apply foldl_keeps; intro _ _ h)
      | with_reducible apply Keeps.ite | split | dsimp only)

theorem judge_keeps (h : Keeps p s0 s) (port : Nat) (i : Nat) (m : Meas) (t : Nat) : Keeps p s0 (judge s port i m t)
    := by
  unfold judge
  try dsimp only
  repeat' (
    first
      | with_reducible exact h | with_reducible rfl | with_reducible apply bump_keeps
      | with_reducible apply writeEntry_keeps | with_reducible apply tlyEvent_keeps | with_reducible apply wr_keeps
      | with_reducible apply bumpN_keeps | (with_reducible apply foldl_keeps; intro _ _ h)
      | with_reducible apply Keeps.ite | split | dsimp only)

theorem matchStream_keeps (h : Keeps p s0 s) (port : Nat) (m : Meas) (t : Nat) : Keeps p s0 (matchStream s port m t)
    := by
  unfold matchStream
  try dsimp only
  repeat' (
    first
      | with_reducible exact h | with_reducible rfl | with_reducible apply judge_keeps
      | with_reducible apply tlyEvent_keeps | with_reducible apply bump_keeps
      | (with_reducible apply foldl_keeps; intro _ _ h) | with_reducible apply Keeps.ite | split | dsimp only)

theorem forwardFrame_keeps (h : Keeps p s0 s) (n : Nat) (fr : List Byte) (t : Nat) : Keeps p s0 (forwardFrame s n fr
    t) := by
  unfold forwardFrame
  try dsimp only
  repeat' (
    first
      | with_reducible exact h | with_reducible rfl | with_reducible apply tlyEvent_keeps
      | with_reducible apply bump_keeps | with_reducible apply fenceRefuse_keeps
      | with_reducible apply hostWrite_keeps | with_reducible apply wr_keeps | with_reducible apply setTally_keeps
      | (with_reducible apply foldl_keeps; intro _ _ h) | with_reducible apply Keeps.ite | split | dsimp only)

theorem malformed_keeps (h : Keeps p s0 s) : Keeps p s0 (malformed s) := by
  unfold malformed
  try dsimp only
  repeat' (
    first
      | with_reducible exact h | with_reducible rfl | with_reducible apply bump_keeps
      | (with_reducible apply foldl_keeps; intro _ _ h) | with_reducible apply Keeps.ite | split | dsimp only)

theorem corrupt_keeps (h : Keeps p s0 s) (t : Nat) : Keeps p s0 (corrupt s t) := by
  unfold corrupt
  try dsimp only
  repeat' (
    first
      | with_reducible exact h | with_reducible rfl | with_reducible apply tlyEvent_keeps
      | with_reducible apply bump_keeps | (with_reducible apply foldl_keeps; intro _ _ h)
      | with_reducible apply Keeps.ite | split | dsimp only)

theorem c37Data_keeps (h : Keeps p s0 s) (n : Nat) (fr : List Byte) (t : Nat) : Keeps p s0 (c37Data s n fr t) := by
  unfold c37Data
  try dsimp only
  repeat' (
    first
      | with_reducible exact h | with_reducible rfl | with_reducible apply tlyEvent_keeps
      | with_reducible apply bump_keeps | with_reducible apply judge_keeps
      | (with_reducible apply foldl_keeps; intro _ _ h) | with_reducible apply Keeps.ite | split | dsimp only)

theorem c37Frame_keeps (h : Keeps p s0 s) (n : Nat) (fr : List Byte) (t : Nat) : Keeps p s0 (c37Frame s n fr t) := by
  unfold c37Frame
  try dsimp only
  repeat' (
    first
      | with_reducible exact h | with_reducible rfl | with_reducible apply malformed_keeps
      | with_reducible apply corrupt_keeps | with_reducible apply c37Data_keeps | with_reducible apply bump_keeps
      | with_reducible apply forwardFrame_keeps | (with_reducible apply foldl_keeps; intro _ _ h)
      | with_reducible apply Keeps.ite | split | dsimp only)

theorem dropBlock_keeps (h : Keeps p s0 s) (n : Nat) : Keeps p s0 (dropBlock s n) := by
  unfold dropBlock
  try dsimp only
  repeat' (
    first
      | with_reducible exact h | with_reducible rfl | with_reducible apply setTally_keeps
      | (with_reducible apply foldl_keeps; intro _ _ h) | with_reducible apply Keeps.ite | split | dsimp only)

theorem takeSegment_keeps (h : Keeps p s0 s) (n : Nat) (b : TallyBlock) (sg : List Byte) (t : Nat) : Keeps p s0
    (takeSegment s n b sg t) := by
  unfold takeSegment
  try dsimp only
  repeat' (
    first
      | with_reducible exact h | with_reducible rfl | with_reducible apply malformed_keeps
      | with_reducible apply dropBlock_keeps | with_reducible apply setTally_keeps
      | with_reducible apply corrupt_keeps | with_reducible apply matchStream_keeps
      | (with_reducible apply foldl_keeps; intro _ _ h) | with_reducible apply Keeps.ite | split | dsimp only)

theorem freshSegment_keeps (h : Keeps p s0 s) (n : Nat) (sg : List Byte) (t : Nat) : Keeps p s0 (freshSegment s n sg
    t) := by
  unfold freshSegment
  try dsimp only
  repeat' (
    first
      | with_reducible exact h | with_reducible rfl | with_reducible apply bump_keeps
      | with_reducible apply takeSegment_keeps | (with_reducible apply foldl_keeps; intro _ _ h)
      | with_reducible apply Keeps.ite | split | dsimp only)

theorem nativeSegment_keeps (h : Keeps p s0 s) (n : Nat) (sg : List Byte) (t : Nat) : Keeps p s0 (nativeSegment s n sg
    t) := by
  unfold nativeSegment
  try dsimp only
  repeat' (
    first
      | with_reducible exact h | with_reducible rfl | with_reducible apply takeSegment_keeps
      | with_reducible apply freshSegment_keeps | with_reducible apply tlyEvent_keeps
      | with_reducible apply bump_keeps | with_reducible apply dropBlock_keeps
      | (with_reducible apply foldl_keeps; intro _ _ h) | with_reducible apply Keeps.ite | split | dsimp only)

theorem execIngestFrameRx_keeps (n : Nat) (fr : List Byte) (t : Nat) : KeepsOut p s (execIngestFrameRx n fr t s) := by
  have h : Keeps p s s := Keeps.start
  unfold execIngestFrameRx
  try dsimp only
  repeat' (
    first
      | with_reducible exact h | with_reducible rfl | with_reducible exact KeepsOut.fault _
      | with_reducible apply KeepsOut.next | with_reducible apply bump_keeps
      | with_reducible apply nativeSegment_keeps | with_reducible apply c37Frame_keeps
      | (with_reducible apply foldl_keeps; intro _ _ h) | with_reducible apply Keeps.ite
      | with_reducible apply KeepsOut.ite | split | dsimp only)

theorem sealSets_keeps (h : Keeps p s0 s) (k : Nat) (b : Nat) : Keeps p s0 (sealSets s k b) := by
  unfold sealSets
  try dsimp only
  repeat' (
    first
      | with_reducible exact h | with_reducible rfl | with_reducible apply bump_keeps
      | with_reducible apply dropBlock_keeps | with_reducible apply areaWrite_keeps
      | with_reducible apply setTally_keeps | (with_reducible apply foldl_keeps; intro _ _ h)
      | with_reducible apply Keeps.ite | split | dsimp only)

theorem checkAreas_keeps (h : Keeps p s0 s) (t : Nat) : Keeps p s0 (checkAreas s t) := by
  unfold checkAreas
  try dsimp only
  repeat' (
    first
      | with_reducible exact h | with_reducible rfl | with_reducible apply tlyEvent_keeps
      | with_reducible apply wr_keeps | (with_reducible apply foldl_keeps; intro _ _ h)
      | with_reducible apply Keeps.ite | split | dsimp only)

theorem execIngestLinkDown_keeps (n : Nat) (t : Nat) : KeepsOut p s (execIngestLinkDown n t s) := by
  have h : Keeps p s s := Keeps.start
  unfold execIngestLinkDown
  try dsimp only
  repeat' (
    first
      | with_reducible exact h | with_reducible rfl | with_reducible exact KeepsOut.fault _
      | with_reducible apply KeepsOut.next | with_reducible apply tlyEvent_keeps | with_reducible apply wr_keeps
      | (with_reducible apply foldl_keeps; intro _ _ h) | with_reducible apply Keeps.ite
      | with_reducible apply KeepsOut.ite | split | dsimp only)

theorem execIngestLinkUp_keeps (n : Nat) : KeepsOut p s (execIngestLinkUp n s) := by
  have h : Keeps p s s := Keeps.start
  unfold execIngestLinkUp
  try dsimp only
  repeat' (
    first
      | with_reducible exact h | with_reducible rfl | with_reducible exact KeepsOut.fault _
      | with_reducible apply KeepsOut.next | with_reducible apply wr_keeps
      | (with_reducible apply foldl_keeps; intro _ _ h) | with_reducible apply Keeps.ite
      | with_reducible apply KeepsOut.ite | split | dsimp only)

theorem execTlyStreamWrite_keeps (i : Nat) (w : Nat) (v : Word) (src : Requester) (t : Nat) : KeepsOut p s
    (execTlyStreamWrite i w v src t s) := by
  have h : Keeps p s s := Keeps.start
  unfold execTlyStreamWrite
  try dsimp only
  repeat' (
    first
      | with_reducible exact h | with_reducible rfl | with_reducible exact KeepsOut.fault _
      | with_reducible apply KeepsOut.next | with_reducible apply fenceRefuse_keeps | with_reducible apply wr_keeps
      | (with_reducible apply foldl_keeps; intro _ _ h) | with_reducible apply Keeps.ite
      | with_reducible apply KeepsOut.ite | split | dsimp only)

theorem execTlyFwdHeadWrite_keeps (n : Nat) (v : Word) : KeepsOut p s (execTlyFwdHeadWrite n v s) := by
  have h : Keeps p s s := Keeps.start
  unfold execTlyFwdHeadWrite
  try dsimp only
  repeat' (
    first
      | with_reducible exact h | with_reducible rfl | with_reducible exact KeepsOut.fault _
      | with_reducible apply KeepsOut.next | with_reducible apply setTally_keeps | with_reducible apply wr_keeps
      | (with_reducible apply foldl_keeps; intro _ _ h) | with_reducible apply Keeps.ite
      | with_reducible apply KeepsOut.ite | split | dsimp only)

end Sys2Proof.Machine
end

