-- ==== Sys2Proof/Laws/KeepsTimebase.lean ====
section
/-! SUPPORT. Every operation of Machine/Timebase.lean keeps the anchor (Laws/Keeps.lean). -/

namespace Sys2Proof.Machine

variable {α : Type} {p : Anchor → α} {s0 s : State}

theorem setTbu_keeps (h : Keeps p s0 s) (u : Tbu) : Keeps p s0 (setTbu s u) := by
  unfold setTbu
  try dsimp only
  repeat' (
    first
      | with_reducible exact h | with_reducible rfl | (with_reducible apply foldl_keeps; intro _ _ h)
      | simp only [Keeps.upd_iff] | with_reducible apply Keeps.ite | split | dsimp only)

theorem setCorr_keeps (h : Keeps p s0 s) (c : Int) (t : Nat) : Keeps p s0 (setCorr s c t) := by
  unfold setCorr
  try dsimp only
  repeat' (
    first
      | with_reducible exact h | with_reducible rfl | with_reducible apply setTbu_keeps
      | (with_reducible apply foldl_keeps; intro _ _ h) | with_reducible apply Keeps.ite | split | dsimp only)

theorem enterQuality_keeps (h : Keeps p s0 s) (q : Quality) (t : Nat) : Keeps p s0 (enterQuality s q t) := by
  unfold enterQuality
  try dsimp only
  repeat' (
    first
      | with_reducible exact h | with_reducible rfl | with_reducible apply raise_keeps
      | with_reducible apply setTbu_keeps | (with_reducible apply foldl_keeps; intro _ _ h)
      | with_reducible apply Keeps.ite | split | dsimp only)

theorem setSource_keeps (h : Keeps p s0 s) (src : Nat) (t : Nat) : Keeps p s0 (setSource s src t) := by
  unfold setSource
  try dsimp only
  repeat' (
    first
      | with_reducible exact h | with_reducible rfl | with_reducible apply setTbu_keeps
      | with_reducible apply raise_keeps | (with_reducible apply foldl_keeps; intro _ _ h)
      | with_reducible apply Keeps.ite | split | dsimp only)

theorem stopSlew_keeps (h : Keeps p s0 s) (t : Nat) : Keeps p s0 (stopSlew s t) := by
  unfold stopSlew
  try dsimp only
  repeat' (
    first
      | with_reducible exact h | with_reducible rfl | with_reducible apply setTbu_keeps
      | (with_reducible apply foldl_keeps; intro _ _ h) | with_reducible apply Keeps.ite | split | dsimp only)

theorem enterLocked_keeps (h : Keeps p s0 s) (t : Nat) : Keeps p s0 (enterLocked s t) := by
  unfold enterLocked
  try dsimp only
  repeat' (
    first
      | with_reducible exact h | with_reducible rfl | with_reducible apply stopSlew_keeps
      | with_reducible apply enterQuality_keeps | with_reducible apply setTbu_keeps
      | (with_reducible apply foldl_keeps; intro _ _ h) | with_reducible apply Keeps.ite | split | dsimp only)

theorem slewFrom_keeps (h : Keeps p s0 s) (off : Int) (t : Nat) : Keeps p s0 (slewFrom s off t) := by
  unfold slewFrom
  try dsimp only
  repeat' (
    first
      | with_reducible exact h | with_reducible rfl | with_reducible apply setTbu_keeps
      | (with_reducible apply foldl_keeps; intro _ _ h) | with_reducible apply Keeps.ite | split | dsimp only)

theorem reacquireWith_keeps (h : Keeps p s0 s) (off : Int) (t : Nat) : Keeps p s0 (reacquireWith s off t) := by
  unfold reacquireWith
  try dsimp only
  repeat' (
    first
      | with_reducible exact h | with_reducible rfl | with_reducible apply stopSlew_keeps
      | with_reducible apply setTbu_keeps | with_reducible apply raise_keeps | with_reducible apply slewFrom_keeps
      | (with_reducible apply foldl_keeps; intro _ _ h) | with_reducible apply Keeps.ite | split | dsimp only)

theorem steer_keeps (h : Keeps p s0 s) (off : Int) (t : Nat) : Keeps p s0 (steer s off t) := by
  unfold steer
  try dsimp only
  repeat' (
    first
      | with_reducible exact h | with_reducible rfl | with_reducible apply setTbu_keeps
      | with_reducible apply setCorr_keeps | with_reducible apply reacquireWith_keeps
      | with_reducible apply enterQuality_keeps | with_reducible apply enterLocked_keeps
      | (with_reducible apply foldl_keeps; intro _ _ h) | with_reducible apply Keeps.ite | split | dsimp only)

theorem measured_keeps (h : Keeps p s0 s) (off : Int) (t : Nat) : Keeps p s0 (measured s off t) := by
  unfold measured
  try dsimp only
  repeat' (
    first
      | with_reducible exact h | with_reducible rfl | with_reducible apply setTbu_keeps
      | with_reducible apply steer_keeps | (with_reducible apply foldl_keeps; intro _ _ h)
      | with_reducible apply Keeps.ite | split | dsimp only)

theorem setEpochRecord_keeps (h : Keeps p s0 s) (r : List Word) : Keeps p s0 (setEpochRecord s r) := by
  unfold setEpochRecord
  try dsimp only
  repeat' (
    first
      | with_reducible exact h | with_reducible rfl | with_reducible apply wr_keeps
      | (with_reducible apply foldl_keeps; intro _ _ h) | with_reducible apply Keeps.ite | split | dsimp only)

theorem latchEpoch_keeps (h : Keeps p s0 s) (discont : Bool) (t : Nat) : Keeps p s0 (latchEpoch s discont t) := by
  unfold latchEpoch
  try dsimp only
  repeat' (
    first
      | with_reducible exact h | with_reducible rfl | with_reducible apply setEpochRecord_keeps
      | with_reducible apply emit_keeps | (with_reducible apply foldl_keeps; intro _ _ h)
      | simp only [Keeps.upd_iff] | with_reducible apply Keeps.ite | split | dsimp only)

theorem commitEdge_keeps (h : Keeps p s0 s) : Keeps p s0 (commitEdge s) := by
  unfold commitEdge
  try dsimp only
  repeat' (
    first
      | with_reducible exact h | with_reducible rfl | with_reducible apply latchEpoch_keeps
      | (with_reducible apply foldl_keeps; intro _ _ h) | simp only [Keeps.upd_iff] | with_reducible apply Keeps.ite
      | split | dsimp only)

theorem beforeLatch_keeps (h : Keeps p s0 s) (t : Nat) : Keeps p s0 (beforeLatch s t) := by
  unfold beforeLatch
  try dsimp only
  repeat' (
    first
      | with_reducible exact h | with_reducible rfl | with_reducible apply commitEdge_keeps
      | with_reducible apply setEpochRecord_keeps | (with_reducible apply foldl_keeps; intro _ _ h)
      | simp only [Keeps.upd_iff] | with_reducible apply Keeps.ite | split | dsimp only)

theorem setTimescale_keeps (h : Keeps p s0 s) (off : Int) (t : Nat) : Keeps p s0 (setTimescale s off t) := by
  unfold setTimescale
  try dsimp only
  repeat' (
    first
      | with_reducible exact h | with_reducible rfl | with_reducible apply enterQuality_keeps
      | (with_reducible apply foldl_keeps; intro _ _ h) | simp only [Keeps.upd_iff] | with_reducible apply Keeps.ite
      | split | dsimp only)

theorem holdMeasurement_keeps (h : Keeps p s0 s) (src : Nat) (t : Nat) : Keeps p s0 (holdMeasurement s src t) := by
  unfold holdMeasurement
  try dsimp only
  repeat' (
    first
      | with_reducible exact h | with_reducible rfl | with_reducible apply setTbu_keeps
      | (with_reducible apply foldl_keeps; intro _ _ h) | with_reducible apply Keeps.ite | split | dsimp only)

theorem sourceQualified_keeps (h : Keeps p s0 s) (steers : Bool) (t : Nat) : Keeps p s0 (sourceQualified s steers t)
    := by
  unfold sourceQualified
  try dsimp only
  repeat' (
    first
      | with_reducible exact h | with_reducible rfl | with_reducible apply enterQuality_keeps
      | with_reducible apply setSource_keeps | with_reducible apply setTbu_keeps | with_reducible apply raise_keeps
      | with_reducible apply bump_keeps | with_reducible apply measured_keeps
      | with_reducible apply holdMeasurement_keeps | with_reducible apply setTimescale_keeps
      | (with_reducible apply foldl_keeps; intro _ _ h) | with_reducible apply Keeps.ite | split | dsimp only)

theorem enterFreewheel_keeps (h : Keeps p s0 s) (t : Nat) : Keeps p s0 (enterFreewheel s t) := by
  unfold enterFreewheel
  try dsimp only
  repeat' (
    first
      | with_reducible exact h | with_reducible rfl | with_reducible apply stopSlew_keeps
      | with_reducible apply setCorr_keeps | with_reducible apply drawn_keeps | with_reducible apply setTbu_keeps
      | with_reducible apply enterQuality_keeps | (with_reducible apply foldl_keeps; intro _ _ h)
      | with_reducible apply Keeps.ite | split | dsimp only)

theorem sourceLost_keeps (h : Keeps p s0 s) (t : Nat) : Keeps p s0 (sourceLost s t) := by
  unfold sourceLost
  try dsimp only
  repeat' (
    first
      | with_reducible exact h | with_reducible rfl | with_reducible apply enterFreewheel_keeps
      | with_reducible apply reacquireWith_keeps | with_reducible apply enterQuality_keeps
      | with_reducible apply holdMeasurement_keeps | with_reducible apply setTbu_keeps
      | with_reducible apply setSource_keeps | with_reducible apply slewFrom_keeps
      | (with_reducible apply foldl_keeps; intro _ _ h) | with_reducible apply Keeps.ite | split | dsimp only)

theorem ppsTaken_keeps (h : Keeps p s0 s) (t : Nat) : Keeps p s0 (ppsTaken s t) := by
  unfold ppsTaken
  try dsimp only
  repeat' (
    first
      | with_reducible exact h | with_reducible rfl | with_reducible apply setTbu_keeps
      | with_reducible apply sourceQualified_keeps | with_reducible apply measured_keeps
      | with_reducible apply beforeLatch_keeps | (with_reducible apply foldl_keeps; intro _ _ h)
      | with_reducible apply Keeps.ite | split | dsimp only)

theorem execPpsInEdge_keeps (falling : Bool) (t : Nat) : KeepsOut p s (execPpsInEdge falling t s) := by
  have h : Keeps p s s := Keeps.start
  unfold execPpsInEdge
  try dsimp only
  repeat' (
    first
      | with_reducible exact h | with_reducible rfl | with_reducible exact KeepsOut.fault _
      | with_reducible apply KeepsOut.next | with_reducible apply ppsTaken_keeps
      | (with_reducible apply foldl_keeps; intro _ _ h) | with_reducible apply Keeps.ite
      | with_reducible apply KeepsOut.ite | split | dsimp only)

theorem execPpsInLoss_keeps (t : Nat) : KeepsOut p s (execPpsInLoss t s) := by
  have h : Keeps p s s := Keeps.start
  unfold execPpsInLoss
  try dsimp only
  repeat' (
    first
      | with_reducible exact h | with_reducible rfl | with_reducible exact KeepsOut.fault _
      | with_reducible apply KeepsOut.next | with_reducible apply setTbu_keeps
      | with_reducible apply beforeLatch_keeps | with_reducible apply sourceLost_keeps
      | (with_reducible apply foldl_keeps; intro _ _ h) | with_reducible apply Keeps.ite
      | with_reducible apply KeepsOut.ite | split | dsimp only)

theorem execRef10mQualify_keeps (t : Nat) : KeepsOut p s (execRef10mQualify t s) := by
  have h : Keeps p s s := Keeps.start
  unfold execRef10mQualify
  try dsimp only
  repeat' (
    first
      | with_reducible exact h | with_reducible rfl | with_reducible exact KeepsOut.fault _
      | with_reducible apply KeepsOut.next | with_reducible apply setTbu_keeps
      | with_reducible apply beforeLatch_keeps | with_reducible apply setSource_keeps
      | (with_reducible apply foldl_keeps; intro _ _ h) | with_reducible apply Keeps.ite
      | with_reducible apply KeepsOut.ite | split | dsimp only)

theorem execRef10mLoss_keeps (t : Nat) : KeepsOut p s (execRef10mLoss t s) := by
  have h : Keeps p s s := Keeps.start
  unfold execRef10mLoss
  try dsimp only
  repeat' (
    first
      | with_reducible exact h | with_reducible rfl | with_reducible exact KeepsOut.fault _
      | with_reducible apply KeepsOut.next | with_reducible apply setTbu_keeps
      | with_reducible apply beforeLatch_keeps | with_reducible apply setSource_keeps
      | (with_reducible apply foldl_keeps; intro _ _ h) | with_reducible apply Keeps.ite
      | with_reducible apply KeepsOut.ite | split | dsimp only)

theorem ptpCheck_keeps (h : Keeps p s0 s) (t : Nat) : Keeps p s0 (ptpCheck s t) := by
  unfold ptpCheck
  try dsimp only
  repeat' (
    first
      | with_reducible exact h | with_reducible rfl | with_reducible apply beforeLatch_keeps
      | with_reducible apply sourceQualified_keeps | with_reducible apply setTbu_keeps
      | (with_reducible apply foldl_keeps; intro _ _ h) | with_reducible apply Keeps.ite | split | dsimp only)

theorem execPtpSyncRx_keeps (interval : Nat) (rawOffset : Int) (t : Nat) : KeepsOut p s (execPtpSyncRx interval
    rawOffset t s) := by
  have h : Keeps p s s := Keeps.start
  unfold execPtpSyncRx
  try dsimp only
  repeat' (
    first
      | with_reducible exact h | with_reducible rfl | with_reducible exact KeepsOut.fault _
      | with_reducible apply KeepsOut.next | with_reducible apply setTbu_keeps | with_reducible apply ptpCheck_keeps
      | (with_reducible apply foldl_keeps; intro _ _ h) | with_reducible apply Keeps.ite
      | with_reducible apply KeepsOut.ite | split | dsimp only)

theorem execPtpAnnounceRx_keeps (interval : Nat) (domain : Nat) (traceable : Bool) (clockClass : Nat) (utc : Int)
    (leap61 : Bool) (leap59 : Bool) (t : Nat) : KeepsOut p s (execPtpAnnounceRx interval domain traceable clockClass
    utc leap61 leap59 t s) := by
  have h : Keeps p s s := Keeps.start
  unfold execPtpAnnounceRx
  try dsimp only
  repeat' (
    first
      | with_reducible exact h | with_reducible rfl | with_reducible exact KeepsOut.fault _
      | with_reducible apply KeepsOut.next | with_reducible apply setTbu_keeps | with_reducible apply ptpCheck_keeps
      | (with_reducible apply foldl_keeps; intro _ _ h) | with_reducible apply Keeps.ite
      | with_reducible apply KeepsOut.ite | split | dsimp only)

theorem execPtpLoss_keeps (t : Nat) : KeepsOut p s (execPtpLoss t s) := by
  have h : Keeps p s s := Keeps.start
  unfold execPtpLoss
  try dsimp only
  repeat' (
    first
      | with_reducible exact h | with_reducible rfl | with_reducible exact KeepsOut.fault _
      | with_reducible apply KeepsOut.next | with_reducible apply setTbu_keeps
      | with_reducible apply beforeLatch_keeps | with_reducible apply sourceLost_keeps
      | (with_reducible apply foldl_keeps; intro _ _ h) | with_reducible apply Keeps.ite
      | with_reducible apply KeepsOut.ite | split | dsimp only)

theorem execPtpMeasurement_keeps (t : Nat) : KeepsOut p s (execPtpMeasurement t s) := by
  have h : Keeps p s s := Keeps.start
  unfold execPtpMeasurement
  try dsimp only
  repeat' (
    first
      | with_reducible exact h | with_reducible rfl | with_reducible exact KeepsOut.fault _
      | with_reducible apply KeepsOut.next | with_reducible apply setTbu_keeps | with_reducible apply drawn_keeps
      | with_reducible apply beforeLatch_keeps | with_reducible apply measured_keeps
      | (with_reducible apply foldl_keeps; intro _ _ h) | with_reducible apply Keeps.ite
      | with_reducible apply KeepsOut.ite | split | dsimp only)

theorem execRevertHoldOffExpiry_keeps (t : Nat) : KeepsOut p s (execRevertHoldOffExpiry t s) := by
  have h : Keeps p s s := Keeps.start
  unfold execRevertHoldOffExpiry
  try dsimp only
  repeat' (
    first
      | with_reducible exact h | with_reducible rfl | with_reducible exact KeepsOut.fault _
      | with_reducible apply KeepsOut.next | with_reducible apply beforeLatch_keeps
      | with_reducible apply setSource_keeps | (with_reducible apply foldl_keeps; intro _ _ h)
      | with_reducible apply Keeps.ite | with_reducible apply KeepsOut.ite | split | dsimp only)

theorem execUntraceableEntry_keeps (t : Nat) : KeepsOut p s (execUntraceableEntry t s) := by
  have h : Keeps p s s := Keeps.start
  unfold execUntraceableEntry
  try dsimp only
  repeat' (
    first
      | with_reducible exact h | with_reducible rfl | with_reducible exact KeepsOut.fault _
      | with_reducible apply KeepsOut.next | with_reducible apply beforeLatch_keeps
      | with_reducible apply enterQuality_keeps | (with_reducible apply foldl_keeps; intro _ _ h)
      | with_reducible apply Keeps.ite | with_reducible apply KeepsOut.ite | split | dsimp only)

theorem execLabelSubmit_keeps (hi : Word) : KeepsOut p s (execLabelSubmit hi s) := by
  have h : Keeps p s s := Keeps.start
  unfold execLabelSubmit
  try dsimp only
  repeat' (
    first
      | with_reducible exact h | with_reducible rfl | with_reducible exact KeepsOut.fault _
      | with_reducible apply KeepsOut.next | with_reducible apply bump_keeps | with_reducible apply setTbu_keeps
      | (with_reducible apply foldl_keeps; intro _ _ h) | with_reducible apply Keeps.ite
      | with_reducible apply KeepsOut.ite | split | dsimp only)

theorem execSnap_keeps (t : Nat) : KeepsOut p s (execSnap t s) := by
  have h : Keeps p s s := Keeps.start
  unfold execSnap
  try dsimp only
  repeat' (
    first
      | with_reducible exact h | with_reducible rfl | with_reducible exact KeepsOut.fault _
      | with_reducible apply KeepsOut.next | with_reducible apply setTbu_keeps
      | (with_reducible apply foldl_keeps; intro _ _ h) | with_reducible apply Keeps.ite
      | with_reducible apply KeepsOut.ite | split | dsimp only)

theorem execPpsOutRise_keeps (t : Nat) : KeepsOut p s (execPpsOutRise t s) := by
  have h : Keeps p s s := Keeps.start
  unfold execPpsOutRise
  try dsimp only
  repeat' (
    first
      | with_reducible exact h | with_reducible rfl | with_reducible exact KeepsOut.fault _
      | with_reducible apply KeepsOut.next | with_reducible apply emit_keeps
      | (with_reducible apply foldl_keeps; intro _ _ h) | with_reducible apply Keeps.ite
      | with_reducible apply KeepsOut.ite | split | dsimp only)

theorem execLeapSecond_keeps : KeepsOut p s (execLeapSecond s) := by
  have h : Keeps p s s := Keeps.start
  unfold execLeapSecond
  try dsimp only
  repeat' (
    first
      | with_reducible exact h | with_reducible rfl | with_reducible exact KeepsOut.fault _
      | with_reducible apply KeepsOut.next | with_reducible apply setTbu_keeps
      | (with_reducible apply foldl_keeps; intro _ _ h) | with_reducible apply Keeps.ite
      | with_reducible apply KeepsOut.ite | split | dsimp only)

theorem slewTick_keeps (h : Keeps p s0 s) : Keeps p s0 (slewTick s) := by
  unfold slewTick
  try dsimp only
  repeat' (
    first
      | with_reducible exact h | with_reducible rfl | with_reducible apply setTbu_keeps
      | (with_reducible apply foldl_keeps; intro _ _ h) | with_reducible apply Keeps.ite | split | dsimp only)

theorem applyStep_keeps (h : Keeps p s0 s) (t : Nat) : Keeps p s0 (applyStep s t).2 := by
  unfold applyStep
  try dsimp only
  repeat' (
    first
      | with_reducible exact h | with_reducible rfl | with_reducible apply setTbu_keeps
      | with_reducible apply drawn_keeps | with_reducible apply raise_keeps
      | (with_reducible apply foldl_keeps; intro _ _ h) | (with_reducible apply foldl_fst_keeps; intro _ _ h)
      | (with_reducible apply foldl_snd_keeps; intro _ _ h) | with_reducible apply Keeps.ite | split | dsimp only)

theorem useDeferred_keeps (h : Keeps p s0 s) (t : Nat) : Keeps p s0 (useDeferred s t) := by
  unfold useDeferred
  try dsimp only
  repeat' (
    first
      | with_reducible exact h | with_reducible rfl | with_reducible apply steer_keeps
      | with_reducible apply setTbu_keeps | (with_reducible apply foldl_keeps; intro _ _ h)
      | with_reducible apply Keeps.ite | split | dsimp only)

end Sys2Proof.Machine
end

