-- ==== Sys2Proof/Laws/KeepsBoot.lean ====
section
/-! SUPPORT. Every operation of Machine/Boot.lean keeps the anchor (Laws/Keeps.lean). -/

namespace Sys2Proof.Machine

variable {α : Type} {p : Anchor → α} {s0 s : State}

theorem setBoot_keeps (h : Keeps p s0 s) (b : Boot) (h1 : b.cfgLocked = s.boot.cfgLocked)
    (h2 : b.ucodeLocked = s.boot.ucodeLocked) (h3 : b.serviceable = s.boot.serviceable) :
    Keeps p s0 (setBoot s b) := by
  unfold setBoot
  simpa only [Keeps.upd_iff, h1, h2, h3] using h

theorem lockBoot_keeps (hp : BlindToLocks p) (h : Keeps p s0 s) (b : Boot) : Keeps p s0 (setBoot s b) :=
  ⟨(hp (anchor s) b.cfgLocked b.ucodeLocked b.serviceable).trans h.same, h.wf⟩

theorem setStraps_keeps (hp : BlindToStraps p) (h : Keeps p s0 s) (x : Straps) : Keeps p s0 (setStraps s x) :=
  ⟨(hp (anchor s) x).trans h.same, h.wf⟩

theorem setFuses_keeps (hp : BlindToFuses p) (h : Keeps p s0 s) (x : Fuses) : Keeps p s0 (setFuses s x) :=
  ⟨(hp (anchor s) x).trans h.same, h.wf⟩

theorem clearAll_keeps (hpLocks : BlindToLocks p) (hpTick : BlindToTick p) (hpTables : BlindToTables p)
    (h : Keeps p s0 s) (causes : Word) : Keeps p s0 (clearAll s causes) := by
  have h1 : ∀ (f : State), f = State.fresh s.build s.straps s.fuses s.mems.flash s.mems.host → ∀ (hf : HostIf),
      Keeps p s0 { f with
        host := hf, regs := SMap.put f.regs Reg.PWR_RESET_CAUSE causes, out := s.out, free := s.free
        pending := s.pending } := by
    intro f hf hh
    subst hf
    refine ⟨?_, fun w => ?_⟩
    · exact ((hpLocks _ false false false).trans ((hpTick _ false 0 0).trans
        (hpTables (anchor s) [] [] [] Routes.none [] []))).trans h.same
    · obtain ⟨_, h2, _, _, h5, _⟩ := h.wf w
      exact ⟨rfl, h2, rfl, rfl, h5, rfl, rfl, SMap.sorted_put _ _ rfl⟩
  unfold clearAll
  exact Keeps.ite (h1 _ rfl _) (emit_keeps (h1 _ rfl _) _)

theorem moduleReset_keeps (hpLocks : BlindToLocks p) (hpTick : BlindToTick p) (hpTables : BlindToTables p) (h : Keeps
    p s0 s) (own : Nat) : Keeps p s0 (moduleReset s own) := by
  unfold moduleReset
  try dsimp only
  repeat' (
    first
      | with_reducible exact h | with_reducible rfl | with_reducible apply clearAll_keeps hpLocks hpTick hpTables
      | with_reducible apply setBoot_keeps | (with_reducible apply foldl_keeps; intro _ _ h)
      | with_reducible apply Keeps.ite | split | rfl | dsimp only)

theorem execPowerOn_keeps (hpLocks : BlindToLocks p) (hpTick : BlindToTick p) (hpTables : BlindToTables p) : KeepsOut
    p s (execPowerOn s) := by
  have h : Keeps p s s := Keeps.start
  unfold execPowerOn
  try dsimp only
  repeat' (
    first
      | with_reducible exact h | with_reducible rfl | with_reducible exact KeepsOut.fault _
      | with_reducible apply KeepsOut.next | with_reducible apply clearAll_keeps hpLocks hpTick hpTables
      | with_reducible apply setBoot_keeps | (with_reducible apply foldl_keeps; intro _ _ h)
      | with_reducible apply Keeps.ite | with_reducible apply KeepsOut.ite | split | rfl | dsimp only)

theorem execResetNAssert_keeps (hpLocks : BlindToLocks p) (hpTick : BlindToTick p) (hpTables : BlindToTables p) (lowNs
    : Nat) : KeepsOut p s (execResetNAssert lowNs s) := by
  have h : Keeps p s s := Keeps.start
  unfold execResetNAssert
  try dsimp only
  repeat' (
    first
      | with_reducible exact h | with_reducible rfl | with_reducible exact KeepsOut.fault _
      | with_reducible apply KeepsOut.next | with_reducible apply moduleReset_keeps hpLocks hpTick hpTables
      | with_reducible apply setBoot_keeps | (with_reducible apply foldl_keeps; intro _ _ h)
      | with_reducible apply Keeps.ite | with_reducible apply KeepsOut.ite | split | rfl | dsimp only)

theorem execRailProtectReset_keeps (hpLocks : BlindToLocks p) (hpTick : BlindToTick p) (hpTables : BlindToTables p) :
    KeepsOut p s (execRailProtectReset s) := by
  have h : Keeps p s s := Keeps.start
  unfold execRailProtectReset
  try dsimp only
  repeat' (
    first
      | with_reducible exact h | with_reducible rfl | with_reducible exact KeepsOut.fault _
      | with_reducible apply KeepsOut.next | with_reducible apply moduleReset_keeps hpLocks hpTick hpTables
      | with_reducible apply setBoot_keeps | (with_reducible apply foldl_keeps; intro _ _ h)
      | with_reducible apply Keeps.ite | with_reducible apply KeepsOut.ite | split | rfl | dsimp only)

theorem execThermalTrip_keeps (hpLocks : BlindToLocks p) (hpTick : BlindToTick p) (hpTables : BlindToTables p) :
    KeepsOut p s (execThermalTrip s) := by
  have h : Keeps p s s := Keeps.start
  unfold execThermalTrip
  try dsimp only
  repeat' (
    first
      | with_reducible exact h | with_reducible rfl | with_reducible exact KeepsOut.fault _
      | with_reducible apply KeepsOut.next | with_reducible apply moduleReset_keeps hpLocks hpTick hpTables
      | with_reducible apply emit_keeps | with_reducible apply setBoot_keeps
      | (with_reducible apply foldl_keeps; intro _ _ h) | with_reducible apply Keeps.ite
      | with_reducible apply KeepsOut.ite | split | rfl | dsimp only)

theorem setSlotCode_keeps (h : Keeps p s0 s) (k : Nat) (code : Nat) : Keeps p s0 (setSlotCode s k code) := by
  unfold setSlotCode
  try dsimp only
  repeat' (
    first
      | with_reducible exact h | with_reducible rfl | with_reducible apply wr_keeps
      | (with_reducible apply foldl_keeps; intro _ _ h) | with_reducible apply Keeps.ite | split | dsimp only)

theorem bootFail_keeps (h : Keeps p s0 s) (t : Nat) : Keeps p s0 (bootFail s t) := by
  unfold bootFail
  try dsimp only
  repeat' (
    first
      | with_reducible exact h | with_reducible rfl | with_reducible apply raiseIn_keeps
      | with_reducible apply setPhase_keeps | (with_reducible apply foldl_keeps; intro _ _ h)
      | with_reducible apply Keeps.ite | split | dsimp only)

theorem flashDead_keeps (h : Keeps p s0 s) (t : Nat) : Keeps p s0 (flashDead s t) := by
  unfold flashDead
  try dsimp only
  repeat' (
    first
      | with_reducible exact h | with_reducible rfl | with_reducible apply bootFail_keeps
      | with_reducible apply wr_keeps | with_reducible apply setBoot_keeps
      | (with_reducible apply foldl_keeps; intro _ _ h) | with_reducible apply Keeps.ite | split | rfl | dsimp only)

theorem directoryCodes_keeps (h : Keeps p s0 s) : Keeps p s0 (directoryCodes s) := by
  unfold directoryCodes
  try dsimp only
  repeat' (
    first
      | with_reducible exact h | with_reducible rfl | with_reducible apply setSlotCode_keeps
      | (with_reducible apply foldl_keeps; intro _ _ h) | with_reducible apply Keeps.ite | split | dsimp only)

theorem startSlot_keeps (hpFlash : BlindToFlash p) (h : Keeps p s0 s) (t : Nat) : Keeps p s0 (startSlot s t) := by
  unfold startSlot
  try dsimp only
  repeat' (
    first
      | with_reducible exact h | with_reducible rfl | with_reducible apply bootFail_keeps
      | with_reducible apply rewriteDirectory_keeps hpFlash | with_reducible apply setBoot_keeps
      | with_reducible apply setPhase_keeps | with_reducible apply wr_keeps
      | (with_reducible apply foldl_keeps; intro _ _ h) | with_reducible apply Keeps.ite | split | rfl | dsimp only)

theorem slotFail_keeps (hpFlash : BlindToFlash p) (h : Keeps p s0 s) (code : Nat) (t : Nat) : Keeps p s0 (slotFail s
    code t) := by
  unfold slotFail
  try dsimp only
  repeat' (
    first
      | with_reducible exact h | with_reducible rfl | with_reducible apply setSlotCode_keeps
      | with_reducible apply bootFail_keeps | with_reducible apply startSlot_keeps hpFlash
      | with_reducible apply raiseIn_keeps | (with_reducible apply foldl_keeps; intro _ _ h)
      | simp only [Keeps.upd_iff] | with_reducible apply Keeps.ite | split | dsimp only)

theorem releaseBoot_keeps (hpLocks : BlindToLocks p) (hpTick : BlindToTick p) (hpTables : BlindToTables p) (hpStraps :
    BlindToStraps p) (hpFlash : BlindToFlash p) (h : Keeps p s0 s) (g1 : Bool) (bootSel : Nat) (modId : Nat) (sfdpOk :
    Bool) (t : Nat) : Keeps p s0 (releaseBoot s g1 bootSel modId sfdpOk t) := by
  unfold releaseBoot
  try dsimp only
  repeat' (
    first
      | with_reducible exact h | with_reducible rfl | with_reducible apply clearAll_keeps hpLocks hpTick hpTables
      | with_reducible apply setStraps_keeps hpStraps | with_reducible apply setBoot_keeps
      | with_reducible apply flashDead_keeps | with_reducible apply directoryCodes_keeps
      | with_reducible apply startSlot_keeps hpFlash | (with_reducible apply foldl_keeps; intro _ _ h)
      | with_reducible apply Keeps.ite | split | rfl | dsimp only)

theorem execResetRelease_keeps (hpLocks : BlindToLocks p) (hpTick : BlindToTick p) (hpTables : BlindToTables p)
    (hpStraps : BlindToStraps p) (hpFlash : BlindToFlash p) (g1 : Bool) (bootSel : Nat) (modId : Nat) (sfdpOk : Bool)
    (t : Nat) : KeepsOut p s (execResetRelease g1 bootSel modId sfdpOk t s) := by
  have h : Keeps p s s := Keeps.start
  unfold execResetRelease
  try dsimp only
  repeat' (
    first
      | with_reducible exact h | with_reducible rfl | with_reducible exact KeepsOut.fault _
      | with_reducible apply KeepsOut.next | with_reducible apply setBoot_keeps
      | with_reducible apply releaseBoot_keeps hpLocks hpTick hpTables hpStraps hpFlash
      | (with_reducible apply foldl_keeps; intro _ _ h) | with_reducible apply Keeps.ite
      | with_reducible apply KeepsOut.ite | split | rfl | dsimp only)

theorem execRailHoldRelease_keeps (hpLocks : BlindToLocks p) (hpTick : BlindToTick p) (hpTables : BlindToTables p)
    (hpStraps : BlindToStraps p) (hpFlash : BlindToFlash p) (g1 : Bool) (bootSel : Nat) (modId : Nat) (sfdpOk : Bool)
    (t : Nat) : KeepsOut p s (execRailHoldRelease g1 bootSel modId sfdpOk t s) := by
  have h : Keeps p s s := Keeps.start
  unfold execRailHoldRelease
  try dsimp only
  repeat' (
    first
      | with_reducible exact h | with_reducible rfl | with_reducible exact KeepsOut.fault _
      | with_reducible apply KeepsOut.next | with_reducible apply setBoot_keeps
      | with_reducible apply releaseBoot_keeps hpLocks hpTick hpTables hpStraps hpFlash
      | (with_reducible apply foldl_keeps; intro _ _ h) | with_reducible apply Keeps.ite
      | with_reducible apply KeepsOut.ite | split | rfl | dsimp only)

theorem execThermalHoldRelease_keeps (hpLocks : BlindToLocks p) (hpTick : BlindToTick p) (hpTables : BlindToTables p)
    (hpStraps : BlindToStraps p) (hpFlash : BlindToFlash p) (g1 : Bool) (bootSel : Nat) (modId : Nat) (sfdpOk : Bool)
    (t : Nat) : KeepsOut p s (execThermalHoldRelease g1 bootSel modId sfdpOk t s) := by
  have h : Keeps p s s := Keeps.start
  unfold execThermalHoldRelease
  try dsimp only
  repeat' (
    first
      | with_reducible exact h | with_reducible rfl | with_reducible exact KeepsOut.fault _
      | with_reducible apply KeepsOut.next | with_reducible apply emit_keeps | with_reducible apply setBoot_keeps
      | with_reducible apply releaseBoot_keeps hpLocks hpTick hpTables hpStraps hpFlash
      | (with_reducible apply foldl_keeps; intro _ _ h) | with_reducible apply Keeps.ite
      | with_reducible apply KeepsOut.ite | split | rfl | dsimp only)

theorem execFlashReadTimeout_keeps (t : Nat) : KeepsOut p s (execFlashReadTimeout t s) := by
  have h : Keeps p s s := Keeps.start
  unfold execFlashReadTimeout
  try dsimp only
  repeat' (
    first
      | with_reducible exact h | with_reducible rfl | with_reducible exact KeepsOut.fault _
      | with_reducible apply KeepsOut.next | with_reducible apply flashDead_keeps
      | (with_reducible apply foldl_keeps; intro _ _ h) | with_reducible apply Keeps.ite
      | with_reducible apply KeepsOut.ite | split | dsimp only)

theorem freezeMeasurements_keeps (h : Keeps p s0 s) (k : Nat) (digest : List Byte) : Keeps p s0 (freezeMeasurements s
    k digest) := by
  unfold freezeMeasurements
  try dsimp only
  repeat' (
    first
      | with_reducible exact h | with_reducible rfl | with_reducible apply wr_keeps
      | (with_reducible apply foldl_keeps; intro _ _ h) | simp only [Keeps.upd_iff] | with_reducible apply Keeps.ite
      | split | dsimp only)

theorem execImageReadComplete_keeps (hpFlash : BlindToFlash p) (pub : List Byte) (t : Nat) : KeepsOut p s
    (execImageReadComplete pub t s) := by
  have h : Keeps p s s := Keeps.start
  unfold execImageReadComplete
  try dsimp only
  repeat' (
    first
      | with_reducible exact h | with_reducible rfl | with_reducible exact KeepsOut.fault _
      | with_reducible apply KeepsOut.next | with_reducible apply setPhase_keeps
      | with_reducible apply slotFail_keeps hpFlash | with_reducible apply freezeMeasurements_keeps
      | with_reducible apply wr_keeps | with_reducible apply setBoot_keeps
      | (with_reducible apply foldl_keeps; intro _ _ h) | with_reducible apply Keeps.ite
      | with_reducible apply KeepsOut.ite | split | rfl | dsimp only)

theorem portsAtLoad_keeps (h : Keeps p s0 s) : Keeps p s0 (portsAtLoad s) := by
  unfold portsAtLoad
  try dsimp only
  repeat' (
    first
      | with_reducible exact h | with_reducible rfl | with_reducible apply setPort_keeps
      | (with_reducible apply foldl_keeps; intro _ _ h) | with_reducible apply Keeps.ite | split | dsimp only)

theorem execLoadComplete_keeps (hpLocks : BlindToLocks p) (hpTables : BlindToTables p) : KeepsOut p s
    (execLoadComplete s) := by
  have h : Keeps p s s := Keeps.start
  unfold execLoadComplete
  try dsimp only
  repeat' (
    first
      | with_reducible exact h | with_reducible rfl | with_reducible exact KeepsOut.fault _
      | with_reducible apply KeepsOut.next | with_reducible apply loadImage_keeps hpTables
      | with_reducible apply lockBoot_keeps hpLocks | with_reducible apply portsAtLoad_keeps
      | with_reducible apply recoverLog_keeps | with_reducible apply setPhase_keeps
      | (with_reducible apply foldl_keeps; intro _ _ h) | simp only [Keeps.upd_iff] | with_reducible apply Keeps.ite
      | with_reducible apply KeepsOut.ite | split | rfl | dsimp only)

theorem openWindow_keeps (h : Keeps p s0 s) : Keeps p s0 (openWindow s) := by
  unfold openWindow
  try dsimp only
  repeat' (
    first
      | with_reducible exact h | with_reducible rfl | with_reducible apply setPhase_keeps
      | (with_reducible apply foldl_keeps; intro _ _ h) | with_reducible apply Keeps.ite | split | dsimp only)

theorem execHwTrainingComplete_keeps (failed : Nat) (t : Nat) : KeepsOut p s (execHwTrainingComplete failed t s) := by
  have h : Keeps p s s := Keeps.start
  unfold execHwTrainingComplete
  try dsimp only
  repeat' (
    first
      | with_reducible exact h | with_reducible rfl | with_reducible exact KeepsOut.fault _
      | with_reducible apply KeepsOut.next | with_reducible apply openWindow_keeps
      | with_reducible apply setBoot_keeps | with_reducible apply raiseIn_keeps
      | with_reducible apply setPhase_keeps | with_reducible apply wr_keeps
      | (with_reducible apply foldl_keeps; intro _ _ h) | with_reducible apply Keeps.ite
      | with_reducible apply KeepsOut.ite | split | rfl | dsimp only)

theorem execFwInitBudgetExpiry_keeps (hpFlash : BlindToFlash p) (t : Nat) : KeepsOut p s (execFwInitBudgetExpiry t s)
    := by
  have h : Keeps p s s := Keeps.start
  unfold execFwInitBudgetExpiry
  try dsimp only
  repeat' (
    first
      | with_reducible exact h | with_reducible rfl | with_reducible exact KeepsOut.fault _
      | with_reducible apply KeepsOut.next | with_reducible apply slotFail_keeps hpFlash
      | with_reducible apply restartFailed_keeps | (with_reducible apply foldl_keeps; intro _ _ h)
      | with_reducible apply Keeps.ite | with_reducible apply KeepsOut.ite | split | dsimp only)

theorem execSupReady_keeps (ready : Bool) : KeepsOut p s (execSupReady ready s) := by
  have h : Keeps p s s := Keeps.start
  unfold execSupReady
  try dsimp only
  repeat' (
    first
      | with_reducible exact h | with_reducible rfl | with_reducible exact KeepsOut.fault _
      | with_reducible apply KeepsOut.next | with_reducible apply openWindow_keeps
      | with_reducible apply setBoot_keeps | (with_reducible apply foldl_keeps; intro _ _ h)
      | simp only [Keeps.upd_iff] | with_reducible apply Keeps.ite | with_reducible apply KeepsOut.ite | split | rfl
      | dsimp only)

theorem armFirstTick_keeps (h : Keeps p s0 s) (t : Nat) : Keeps p s0 (armFirstTick s t) := by
  unfold armFirstTick
  try dsimp only
  repeat' (
    first
      | with_reducible exact h | with_reducible rfl | with_reducible apply setBoot_keeps
      | (with_reducible apply foldl_keeps; intro _ _ h) | simp only [Keeps.upd_iff] | with_reducible apply Keeps.ite
      | split | rfl | dsimp only)

theorem configLock_keeps (hpLocks : BlindToLocks p) (h : Keeps p s0 s) (t : Nat) : Keeps p s0 (configLock s t) := by
  unfold configLock
  try dsimp only
  repeat' (
    first
      | with_reducible exact h | with_reducible rfl | with_reducible apply lockBoot_keeps hpLocks
      | with_reducible apply wr_keeps | with_reducible apply checkAreas_keeps
      | with_reducible apply raiseAlarms_keeps | with_reducible apply setPhase_keeps
      | with_reducible apply armFirstTick_keeps | (with_reducible apply foldl_keeps; intro _ _ h)
      | simp only [Keeps.upd_iff] | with_reducible apply Keeps.ite | split | rfl | dsimp only)

theorem execConfigLock_keeps (hpLocks : BlindToLocks p) (t : Nat) : KeepsOut p s (execConfigLock t s) := by
  have h : Keeps p s s := Keeps.start
  unfold execConfigLock
  try dsimp only
  repeat' (
    first
      | with_reducible exact h | with_reducible rfl | with_reducible exact KeepsOut.fault _
      | with_reducible apply KeepsOut.next | with_reducible apply configLock_keeps hpLocks
      | (with_reducible apply foldl_keeps; intro _ _ h) | with_reducible apply Keeps.ite
      | with_reducible apply KeepsOut.ite | split | dsimp only)

theorem execLockWindowExpiry_keeps (hpLocks : BlindToLocks p) (t : Nat) : KeepsOut p s (execLockWindowExpiry t s) :=
    by
  have h : Keeps p s s := Keeps.start
  unfold execLockWindowExpiry
  try dsimp only
  repeat' (
    first
      | with_reducible exact h | with_reducible rfl | with_reducible exact KeepsOut.fault _
      | with_reducible apply KeepsOut.next | with_reducible apply configLock_keeps hpLocks
      | (with_reducible apply foldl_keeps; intro _ _ h) | with_reducible apply Keeps.ite
      | with_reducible apply KeepsOut.ite | split | dsimp only)

theorem execConfirm_keeps (hpFuses : BlindToFuses p) (hpFlash : BlindToFlash p) : KeepsOut p s (execConfirm s) := by
  have h : Keeps p s s := Keeps.start
  unfold execConfirm
  try dsimp only
  repeat' (
    first
      | with_reducible exact h | with_reducible rfl | with_reducible exact KeepsOut.fault _
      | with_reducible apply KeepsOut.next | with_reducible apply rewriteDirectory_keeps hpFlash
      | with_reducible apply setFuses_keeps hpFuses | with_reducible apply setBoot_keeps
      | with_reducible apply wr_keeps | (with_reducible apply foldl_keeps; intro _ _ h)
      | with_reducible apply Keeps.ite | with_reducible apply KeepsOut.ite | split | rfl | dsimp only)

end Sys2Proof.Machine
end

