-- ==== Sys2Proof/Laws/KeepsPower.lean ====
section
/-! SUPPORT. Every operation of Machine/Power.lean keeps the anchor (Laws/Keeps.lean). -/

namespace Sys2Proof.Machine

variable {α : Type} {p : Anchor → α} {s0 s : State}

theorem setPower_keeps (h : Keeps p s0 s) (p_ : Power) : Keeps p s0 (setPower s p_) := by
  unfold setPower
  try dsimp only
  repeat' (
    first
      | with_reducible exact h | with_reducible rfl | (with_reducible apply foldl_keeps; intro _ _ h)
      | simp only [Keeps.upd_iff] | with_reducible apply Keeps.ite | split | dsimp only)

theorem pwrEvent_keeps (h : Keeps p s0 s) (bit : Nat) (t : Nat) : Keeps p s0 (pwrEvent s bit t) := by
  unfold pwrEvent
  try dsimp only
  repeat' (
    first
      | with_reducible exact h | with_reducible rfl | with_reducible apply raise_keeps
      | (with_reducible apply foldl_keeps; intro _ _ h) | with_reducible apply Keeps.ite | split | dsimp only)

theorem execPwrLimitWrite_keeps (v : Word) (src : Requester) (t : Nat) : KeepsOut p s (execPwrLimitWrite v src t s) :=
    by
  have h : Keeps p s s := Keeps.start
  unfold execPwrLimitWrite
  try dsimp only
  repeat' (
    first
      | with_reducible exact h | with_reducible rfl | with_reducible exact KeepsOut.fault _
      | with_reducible apply KeepsOut.next | with_reducible apply wr_keeps | with_reducible apply fenceRefuse_keeps
      | (with_reducible apply foldl_keeps; intro _ _ h) | with_reducible apply Keeps.ite
      | with_reducible apply KeepsOut.ite | split | dsimp only)

theorem execLimiterInterval_keeps (drawn : Nat) (t : Nat) : KeepsOut p s (execLimiterInterval drawn t s) := by
  have h : Keeps p s s := Keeps.start
  unfold execLimiterInterval
  try dsimp only
  repeat' (
    first
      | with_reducible exact h | with_reducible rfl | with_reducible exact KeepsOut.fault _
      | with_reducible apply KeepsOut.next | with_reducible apply setPower_keeps
      | (with_reducible apply foldl_keeps; intro _ _ h) | with_reducible apply Keeps.ite
      | with_reducible apply KeepsOut.ite | split | dsimp only)

theorem takeReading_keeps (h : Keeps p s0 s) (l : List Reading) (t : Nat) (e : Nat × Nat) :
    Keeps p s0 (takeReading l t s e) := by
  unfold takeReading
  try dsimp only
  repeat' (
    first
      | with_reducible exact h | with_reducible rfl | with_reducible apply wr_keeps
      | with_reducible apply pwrEvent_keeps | (with_reducible apply foldl_keeps; intro _ _ h)
      | simp only [Keeps.upd_iff] | with_reducible apply Keeps.ite | split)

theorem pwrCount_keeps (h : Keeps p s0 s) (on : Bool) (reg : Nat) (bit : Nat) (t : Nat) :
    Keeps p s0 (pwrCount s on reg bit t) := by
  unfold pwrCount
  try dsimp only
  repeat' (
    first
      | with_reducible exact h | with_reducible rfl | with_reducible apply bump_keeps
      | with_reducible apply pwrEvent_keeps | (with_reducible apply foldl_keeps; intro _ _ h)
      | simp only [Keeps.upd_iff] | with_reducible apply Keeps.ite | split)

theorem powerEdge_keeps (h : Keeps p s0 s) (readings : List Reading) (drawn : Nat) (len : Nat) (t : Nat) :
    Keeps p s0 (powerEdge s readings drawn len t) := by
  unfold powerEdge
  try dsimp only
  repeat' (
    first
      | with_reducible exact h | with_reducible rfl | with_reducible apply wr_keeps | with_reducible apply drawn_keeps
      | with_reducible apply setPower_keeps | with_reducible apply takeReading_keeps
      | with_reducible apply pwrCount_keeps | (with_reducible apply foldl_keeps; intro _ _ h)
      | simp only [Keeps.upd_iff] | with_reducible apply Keeps.ite | split)

theorem execRailFault_keeps (t : Nat) : KeepsOut p s (execRailFault t s) := by
  have h : Keeps p s s := Keeps.start
  unfold execRailFault
  try dsimp only
  repeat' (
    first
      | with_reducible exact h | with_reducible rfl | with_reducible exact KeepsOut.fault _
      | with_reducible apply KeepsOut.next | with_reducible apply pwrEvent_keeps | with_reducible apply wr_keeps
      | (with_reducible apply foldl_keeps; intro _ _ h) | with_reducible apply Keeps.ite
      | with_reducible apply KeepsOut.ite | split | dsimp only)

theorem execAlarmMinTimeExpiry_keeps (ball : Nat) : KeepsOut p s (execAlarmMinTimeExpiry ball s) := by
  have h : Keeps p s s := Keeps.start
  unfold execAlarmMinTimeExpiry
  try dsimp only
  repeat' (
    first
      | with_reducible exact h | with_reducible rfl | with_reducible exact KeepsOut.fault _
      | with_reducible apply KeepsOut.next | with_reducible apply setPower_keeps
      | with_reducible apply dropAlarms_keeps | (with_reducible apply foldl_keeps; intro _ _ h)
      | with_reducible apply Keeps.ite | with_reducible apply KeepsOut.ite | split | dsimp only)

end Sys2Proof.Machine
end

