-- ==== Sys2Proof/Laws/KeepsQueues.lean ====
section
/-! SUPPORT. Every operation of Machine/Queues.lean keeps the anchor (Laws/Keeps.lean). -/

namespace Sys2Proof.Machine

variable {α : Type} {p : Anchor → α} {s0 s : State}

theorem dropFetches_keeps (h : Keeps p s0 s) (q : Nat) : Keeps p s0 (dropFetches s q) := by
  unfold dropFetches
  try dsimp only
  repeat' (
    first
      | with_reducible exact h | with_reducible rfl | (with_reducible apply foldl_keeps; intro _ _ h)
      | simp only [Keeps.upd_iff] | with_reducible apply Keeps.ite | split | dsimp only)

theorem enterCache_keeps (h : Keeps p s0 s) (q : Nat) (i : Nat) (raw : List Byte) (t : Nat) : Keeps p s0 (enterCache s
    q i raw t) := by
  unfold enterCache
  try dsimp only
  repeat' (
    first
      | with_reducible exact h | with_reducible rfl | with_reducible apply setQueue_keeps
      | with_reducible apply dropFetches_keeps | with_reducible apply fenceRefuse_keeps
      | with_reducible apply cancelSlot_keeps | with_reducible apply completeEntry_keeps
      | (with_reducible apply foldl_keeps; intro _ _ h) | with_reducible apply Keeps.ite | split | dsimp only)

theorem enterReady_keeps (h : Keeps p s0 s) (q : Nat) (t : Nat) : Keeps p s0 (enterReady s q t) := by
  unfold enterReady
  try dsimp only
  repeat' (
    first
      | with_reducible exact h | with_reducible rfl | with_reducible apply enterCache_keeps
      | (with_reducible apply foldl_keeps; intro _ _ h) | with_reducible apply Keeps.ite | split | dsimp only)

theorem fetchArrived_keeps (h : Keeps p s0 s) (q : Nat) (i : Nat) (raw : List Byte) (t : Nat) : Keeps p s0
    (fetchArrived s q i raw t) := by
  unfold fetchArrived
  try dsimp only
  repeat' (
    first
      | with_reducible exact h | with_reducible rfl | with_reducible apply enterReady_keeps
      | with_reducible apply setQueue_keeps | (with_reducible apply foldl_keeps; intro _ _ h)
      | with_reducible apply Keeps.ite | split | dsimp only)

theorem fetchFailed_keeps (h : Keeps p s0 s) (q : Nat) (i : Nat) (code : Nat) (t : Nat) : Keeps p s0 (fetchFailed s q
    i code t) := by
  unfold fetchFailed
  try dsimp only
  repeat' (
    first
      | with_reducible exact h | with_reducible rfl | with_reducible apply setQueue_keeps
      | with_reducible apply drawn_keeps | with_reducible apply raise_keeps | with_reducible apply dropFetches_keeps
      | with_reducible apply completeEntry_keeps | (with_reducible apply foldl_keeps; intro _ _ h)
      | with_reducible apply Keeps.ite | split | dsimp only)

theorem execDescriptorFetchComplete_keeps (q : Nat) (i : Nat) (ok : Bool) (t : Nat) : KeepsOut p s
    (execDescriptorFetchComplete q i ok t s) := by
  have h : Keeps p s s := Keeps.start
  unfold execDescriptorFetchComplete
  try dsimp only
  repeat' (
    first
      | with_reducible exact h | with_reducible rfl | with_reducible exact KeepsOut.fault _
      | with_reducible apply KeepsOut.next | with_reducible apply fetchArrived_keeps
      | with_reducible apply fetchFailed_keeps | (with_reducible apply foldl_keeps; intro _ _ h)
      | with_reducible apply Keeps.ite | with_reducible apply KeepsOut.ite | split | dsimp only)

theorem readFailed_keeps (h : Keeps p s0 s) (k : Nat) (u : ReadUse) (f : ReadFail) (t : Nat) : Keeps p s0 (readFailed
    s k u f t) := by
  unfold readFailed
  try dsimp only
  repeat' (
    first
      | with_reducible exact h | with_reducible rfl | with_reducible apply fetchFailed_keeps
      | with_reducible apply finishItem_keeps | with_reducible apply endRequest_keeps
      | (with_reducible apply foldl_keeps; intro _ _ h) | simp only [Keeps.upd_iff] | with_reducible apply Keeps.ite
      | split | dsimp only)

theorem copyWrite_keeps (h : Keeps p s0 s) (i : Nat) (dst : Nat) (bs : List Byte) (t : Nat) : Keeps p s0 (copyWrite s
    i dst bs t) := by
  unfold copyWrite
  try dsimp only
  repeat' (
    first
      | with_reducible exact h | with_reducible rfl | with_reducible apply setItem_keeps
      | with_reducible apply spaceWrite_keeps | (with_reducible apply foldl_keeps; intro _ _ h)
      | with_reducible apply Keeps.ite | split | dsimp only)

theorem readArrived_keeps (h : Keeps p s0 s) (k : Nat) (u : ReadUse) (bs : List Byte) (t : Nat) : Keeps p s0
    (readArrived s k u bs t) := by
  unfold readArrived
  try dsimp only
  repeat' (
    first
      | with_reducible exact h | with_reducible rfl | with_reducible apply fetchArrived_keeps
      | with_reducible apply copyWrite_keeps | with_reducible apply promptPiece_keeps
      | with_reducible apply setSlot_keeps | with_reducible apply memWrite_keeps
      | with_reducible apply takeReturn_keeps | (with_reducible apply foldl_keeps; intro _ _ h)
      | simp only [Keeps.upd_iff] | with_reducible apply Keeps.ite | split | dsimp only)

theorem execHostReadCompletion_keeps (tag : Nat) (fail : Option ReadFail) (data : List Byte) (t : Nat) : KeepsOut p s
    (execHostReadCompletion tag fail data t s) := by
  have h : Keeps p s s := Keeps.start
  unfold execHostReadCompletion
  try dsimp only
  repeat' (
    first
      | with_reducible exact h | with_reducible rfl | with_reducible exact KeepsOut.fault _
      | with_reducible apply KeepsOut.next | with_reducible apply issueWaiting_keeps
      | with_reducible apply readFailed_keeps | with_reducible apply readArrived_keeps
      | with_reducible apply raise_keeps | with_reducible apply bump_keeps
      | (with_reducible apply foldl_keeps; intro _ _ h) | with_reducible apply Keeps.ite
      | with_reducible apply KeepsOut.ite | split | dsimp only)

theorem execCompletionTimeout_keeps (k : Nat) (t : Nat) : KeepsOut p s (execCompletionTimeout k t s) := by
  have h : Keeps p s s := Keeps.start
  unfold execCompletionTimeout
  try dsimp only
  repeat' (
    first
      | with_reducible exact h | with_reducible rfl | with_reducible exact KeepsOut.fault _
      | with_reducible apply KeepsOut.next | with_reducible apply issueWaiting_keeps
      | with_reducible apply readFailed_keeps | (with_reducible apply foldl_keeps; intro _ _ h)
      | with_reducible apply Keeps.ite | with_reducible apply KeepsOut.ite | split | dsimp only)

theorem execTagQuarantineEnd_keeps (k : Nat) : KeepsOut p s (execTagQuarantineEnd k s) := by
  have h : Keeps p s s := Keeps.start
  unfold execTagQuarantineEnd
  try dsimp only
  repeat' (
    first
      | with_reducible exact h | with_reducible rfl | with_reducible exact KeepsOut.fault _
      | with_reducible apply KeepsOut.next | with_reducible apply issueWaiting_keeps
      | (with_reducible apply foldl_keeps; intro _ _ h) | simp only [Keeps.upd_iff] | with_reducible apply Keeps.ite
      | with_reducible apply KeepsOut.ite | split | dsimp only)

theorem execQueueEnable_keeps (q : Nat) (t : Nat) : KeepsOut p s (execQueueEnable q t s) := by
  have h : Keeps p s s := Keeps.start
  unfold execQueueEnable
  try dsimp only
  repeat' (
    first
      | with_reducible exact h | with_reducible rfl | with_reducible exact KeepsOut.fault _
      | with_reducible apply KeepsOut.next | with_reducible apply setQueue_keeps | with_reducible apply raise_keeps
      | (with_reducible apply foldl_keeps; intro _ _ h) | simp only [Keeps.upd_iff] | with_reducible apply Keeps.ite
      | with_reducible apply KeepsOut.ite | split | dsimp only)

theorem stopItems_keeps (h : Keeps p s0 s) (l : List Nat) (t : Nat) : Keeps p s0 (stopItems s l t) := by
  unfold stopItems
  try dsimp only
  repeat' (
    first
      | with_reducible exact h | with_reducible rfl | with_reducible apply enterLane_keeps
      | with_reducible apply haltItem_keeps | (with_reducible apply foldl_keeps; intro _ _ h)
      | with_reducible apply Keeps.ite | split | dsimp only)

theorem stopQueueWork_keeps (h : Keeps p s0 s) (q : Nat) (t : Nat) : Keeps p s0 (stopQueueWork s q t) := by
  unfold stopQueueWork
  try dsimp only
  repeat' (
    first
      | with_reducible exact h | with_reducible rfl | with_reducible apply stopItems_keeps
      | with_reducible apply setLdg_keeps | with_reducible apply abandonReads_keeps
      | with_reducible apply dropQueueRequests_keeps | (with_reducible apply foldl_keeps; intro _ _ h)
      | simp only [Keeps.upd_iff] | with_reducible apply Keeps.ite | split | rfl | dsimp only)

theorem finishStop_keeps (h : Keeps p s0 s) (q : Nat) : Keeps p s0 (finishStop s q) := by
  unfold finishStop
  try dsimp only
  repeat' (
    first
      | with_reducible exact h | with_reducible rfl | with_reducible apply zeroRegs_keeps
      | with_reducible apply setQueue_keeps | (with_reducible apply foldl_keeps; intro _ _ h)
      | with_reducible apply Keeps.ite | split | dsimp only)

theorem shutdownPoint_keeps (h : Keeps p s0 s) (q : Nat) (t : Nat) : Keeps p s0 (shutdownPoint s q t) := by
  unfold shutdownPoint
  try dsimp only
  repeat' (
    first
      | with_reducible exact h | with_reducible rfl | with_reducible apply stopQueueWork_keeps
      | with_reducible apply finishStop_keeps | with_reducible apply setQueue_keeps
      | (with_reducible apply foldl_keeps; intro _ _ h) | simp only [Keeps.upd_iff] | with_reducible apply Keeps.ite
      | split | dsimp only)

theorem execQueueShutdown_keeps (q : Nat) : KeepsOut p s (execQueueShutdown q s) := by
  have h : Keeps p s s := Keeps.start
  unfold execQueueShutdown
  try dsimp only
  repeat' (
    first
      | with_reducible exact h | with_reducible rfl | with_reducible exact KeepsOut.fault _
      | with_reducible apply KeepsOut.next | with_reducible apply setQueue_keeps
      | (with_reducible apply foldl_keeps; intro _ _ h) | with_reducible apply Keeps.ite
      | with_reducible apply KeepsOut.ite | split | dsimp only)

theorem execQueueReset_keeps (q : Nat) (t : Nat) : KeepsOut p s (execQueueReset q t s) := by
  have h : Keeps p s s := Keeps.start
  unfold execQueueReset
  try dsimp only
  repeat' (
    first
      | with_reducible exact h | with_reducible rfl | with_reducible exact KeepsOut.fault _
      | with_reducible apply KeepsOut.next | with_reducible apply shutdownPoint_keeps
      | with_reducible apply setQueue_keeps | (with_reducible apply foldl_keeps; intro _ _ h)
      | with_reducible apply Keeps.ite | with_reducible apply KeepsOut.ite | split | dsimp only)

theorem execAbortedRecordsWrite_keeps (q : Nat) (t : Nat) : KeepsOut p s (execAbortedRecordsWrite q t s) := by
  have h : Keeps p s s := Keeps.start
  unfold execAbortedRecordsWrite
  try dsimp only
  repeat' (
    first
      | with_reducible exact h | with_reducible rfl | with_reducible exact KeepsOut.fault _
      | with_reducible apply KeepsOut.next | with_reducible apply finishStop_keeps
      | with_reducible apply writeAborted_keeps | with_reducible apply setQueue_keeps
      | (with_reducible apply foldl_keeps; intro _ _ h) | with_reducible apply Keeps.ite
      | with_reducible apply KeepsOut.ite | split | dsimp only)

theorem execQueueInvalidate_keeps (q : Nat) (t : Nat) : KeepsOut p s (execQueueInvalidate q t s) := by
  have h : Keeps p s s := Keeps.start
  unfold execQueueInvalidate
  try dsimp only
  repeat' (
    first
      | with_reducible exact h | with_reducible rfl | with_reducible exact KeepsOut.fault _
      | with_reducible apply KeepsOut.next | with_reducible apply startFetch_keeps
      | with_reducible apply dropFetches_keeps | with_reducible apply setQueue_keeps
      | (with_reducible apply foldl_keeps; intro _ _ h) | with_reducible apply Keeps.ite
      | with_reducible apply KeepsOut.ite | split | dsimp only)

theorem doorbellResult_keeps (h : Keeps p s0 s) (q : Nat) (result : Nat) (retry : Nat) : Keeps p s0 (doorbellResult s
    q result retry) := by
  unfold doorbellResult
  try dsimp only
  repeat' (
    first
      | with_reducible exact h | with_reducible rfl | with_reducible apply setQueue_keeps
      | with_reducible apply bump_keeps | (with_reducible apply foldl_keeps; intro _ _ h)
      | with_reducible apply Keeps.ite | split | dsimp only)

theorem doorbellEarly_keeps (h : Keeps p s0 s) (q : Nat) (t : Nat) : Keeps p s0 (doorbellEarly s q t) := by
  unfold doorbellEarly
  try dsimp only
  repeat' (
    first
      | with_reducible exact h | with_reducible rfl | with_reducible apply bump_keeps
      | with_reducible apply doorbellResult_keeps | (with_reducible apply foldl_keeps; intro _ _ h)
      | with_reducible apply Keeps.ite | split | dsimp only)

theorem notReady_keeps (h : Keeps p s0 s) {s' : State} (q : Nat) (t : Nat) (e : notReady s q t = some s') : Keeps p s0 s' := by
  unfold notReady at e
  split at e
  · cases e; exact doorbellEarly_keeps h _ _
  · split at e
    · cases e; exact doorbellResult_keeps h _ _ _
    · split at e
      · cases e; exact doorbellResult_keeps h _ _ _
      · cases e

theorem tailWrite_keeps (h : Keeps p s0 s) (q : Nat) (v : Nat) (t : Nat) : Keeps p s0 (tailWrite s q v t) := by
  unfold tailWrite
  dsimp only
  split
  · rename_i s' e
    exact notReady_keeps h q t e
  · split
    · exact doorbellResult_keeps h _ _ _
    · exact startFetch_keeps (doorbellResult_keeps (setQueue_keeps h _ _) _ _ _) _ _

theorem headWrite_keeps (h : Keeps p s0 s) (q : Nat) (v : Nat) (t : Nat) : Keeps p s0 (headWrite s q v t) := by
  unfold headWrite
  dsimp only
  split
  · rename_i s' e
    split at e
    · exact notReady_keeps h q t e
    · cases e
  · split
    · exact doorbellResult_keeps h _ _ _
    · exact doorbellResult_keeps (setQueue_keeps h _ _) _ _ _

theorem execDoorbellSqTail_keeps (q : Nat) (v : Word) (t : Nat) : KeepsOut p s (execDoorbellSqTail q v t s) := by
  have h : Keeps p s s := Keeps.start
  unfold execDoorbellSqTail
  try dsimp only
  repeat' (
    first
      | with_reducible exact h | with_reducible rfl | with_reducible exact KeepsOut.fault _
      | with_reducible apply KeepsOut.next | with_reducible apply setQueue_keeps
      | with_reducible apply tailWrite_keeps | (with_reducible apply foldl_keeps; intro _ _ h)
      | with_reducible apply Keeps.ite | with_reducible apply KeepsOut.ite | split | dsimp only)

theorem execDoorbellCqHead_keeps (q : Nat) (v : Word) (t : Nat) : KeepsOut p s (execDoorbellCqHead q v t s) := by
  have h : Keeps p s s := Keeps.start
  unfold execDoorbellCqHead
  try dsimp only
  repeat' (
    first
      | with_reducible exact h | with_reducible rfl | with_reducible exact KeepsOut.fault _
      | with_reducible apply KeepsOut.next | with_reducible apply setQueue_keeps
      | with_reducible apply headWrite_keeps | (with_reducible apply foldl_keeps; intro _ _ h)
      | with_reducible apply Keeps.ite | with_reducible apply KeepsOut.ite | split | dsimp only)

theorem execInvalidateComplete_keeps (q : Nat) (t : Nat) : KeepsOut p s (execInvalidateComplete q t s) := by
  have h : Keeps p s s := Keeps.start
  unfold execInvalidateComplete
  try dsimp only
  repeat' (
    first
      | with_reducible exact h | with_reducible rfl | with_reducible exact KeepsOut.fault _
      | with_reducible apply KeepsOut.next | with_reducible apply headWrite_keeps
      | with_reducible apply tailWrite_keeps | with_reducible apply setQueue_keeps
      | (with_reducible apply foldl_keeps; intro _ _ h) | with_reducible apply Keeps.ite
      | with_reducible apply KeepsOut.ite | split | dsimp only)

theorem descArrives_keeps (op : Nat) (q : Nat) (raw : List Byte) (t : Nat) : KeepsOut p s (descArrives op q raw t s)
    := by
  have h : Keeps p s s := Keeps.start
  unfold descArrives
  try dsimp only
  repeat' (
    first
      | with_reducible exact h | with_reducible rfl | with_reducible exact KeepsOut.fault _
      | with_reducible apply KeepsOut.next | with_reducible apply issueWaiting_keeps
      | with_reducible apply fetchArrived_keeps | (with_reducible apply foldl_keeps; intro _ _ h)
      | simp only [Keeps.upd_iff] | with_reducible apply Keeps.ite | with_reducible apply KeepsOut.ite | split
      | dsimp only)

theorem execNop_keeps (q : Nat) (raw : List Byte) (t : Nat) : KeepsOut p s (execNop q raw t s) := by
  have h : Keeps p s s := Keeps.start
  unfold execNop
  try dsimp only
  repeat' (
    first
      | with_reducible exact h | with_reducible rfl | with_reducible exact KeepsOut.fault _
      | with_reducible apply KeepsOut.next | with_reducible apply descArrives_keeps
      | (with_reducible apply foldl_keeps; intro _ _ h) | with_reducible apply Keeps.ite
      | with_reducible apply KeepsOut.ite | split | dsimp only)

theorem execBarrier_keeps (q : Nat) (raw : List Byte) (t : Nat) : KeepsOut p s (execBarrier q raw t s) := by
  have h : Keeps p s s := Keeps.start
  unfold execBarrier
  try dsimp only
  repeat' (
    first
      | with_reducible exact h | with_reducible rfl | with_reducible exact KeepsOut.fault _
      | with_reducible apply KeepsOut.next | with_reducible apply descArrives_keeps
      | (with_reducible apply foldl_keeps; intro _ _ h) | with_reducible apply Keeps.ite
      | with_reducible apply KeepsOut.ite | split | dsimp only)

theorem execServeSubmit_keeps (q : Nat) (raw : List Byte) (t : Nat) : KeepsOut p s (execServeSubmit q raw t s) := by
  have h : Keeps p s s := Keeps.start
  unfold execServeSubmit
  try dsimp only
  repeat' (
    first
      | with_reducible exact h | with_reducible rfl | with_reducible exact KeepsOut.fault _
      | with_reducible apply KeepsOut.next | with_reducible apply descArrives_keeps
      | (with_reducible apply foldl_keeps; intro _ _ h) | with_reducible apply Keeps.ite
      | with_reducible apply KeepsOut.ite | split | dsimp only)

theorem execServeCancel_keeps (q : Nat) (raw : List Byte) (t : Nat) : KeepsOut p s (execServeCancel q raw t s) := by
  have h : Keeps p s s := Keeps.start
  unfold execServeCancel
  try dsimp only
  repeat' (
    first
      | with_reducible exact h | with_reducible rfl | with_reducible exact KeepsOut.fault _
      | with_reducible apply KeepsOut.next | with_reducible apply descArrives_keeps
      | (with_reducible apply foldl_keeps; intro _ _ h) | with_reducible apply Keeps.ite
      | with_reducible apply KeepsOut.ite | split | dsimp only)

theorem execServePause_keeps (q : Nat) (raw : List Byte) (t : Nat) : KeepsOut p s (execServePause q raw t s) := by
  have h : Keeps p s s := Keeps.start
  unfold execServePause
  try dsimp only
  repeat' (
    first
      | with_reducible exact h | with_reducible rfl | with_reducible exact KeepsOut.fault _
      | with_reducible apply KeepsOut.next | with_reducible apply descArrives_keeps
      | (with_reducible apply foldl_keeps; intro _ _ h) | with_reducible apply Keeps.ite
      | with_reducible apply KeepsOut.ite | split | dsimp only)

theorem execServeResume_keeps (q : Nat) (raw : List Byte) (t : Nat) : KeepsOut p s (execServeResume q raw t s) := by
  have h : Keeps p s s := Keeps.start
  unfold execServeResume
  try dsimp only
  repeat' (
    first
      | with_reducible exact h | with_reducible rfl | with_reducible exact KeepsOut.fault _
      | with_reducible apply KeepsOut.next | with_reducible apply descArrives_keeps
      | (with_reducible apply foldl_keeps; intro _ _ h) | with_reducible apply Keeps.ite
      | with_reducible apply KeepsOut.ite | split | dsimp only)

theorem kernelAccess_keeps {a : State × Bool} (h : Keeps p s0 a.1) (i t : Nat) (x : Bool × Nat × List Byte) :
    Keeps p s0 (kernelAccess i t a x).1 := by
  unfold kernelAccess
  dsimp only
  repeat' (
    first
      | with_reducible exact h | with_reducible apply finishItem_keeps | with_reducible apply fenceRefuse_keeps
      | with_reducible apply setItem_keeps | with_reducible apply memWrite_keeps | split | dsimp only)

theorem execCompute_keeps (i : Nat) (accesses : List (Bool × Nat × List Byte)) (t : Nat) : KeepsOut p s (execCompute i
    accesses t s) := by
  have h : Keeps p s s := Keeps.start
  unfold execCompute
  try dsimp only
  repeat' (
    first
      | with_reducible exact h | with_reducible rfl | with_reducible exact KeepsOut.fault _
      | with_reducible apply KeepsOut.next | with_reducible apply finishItem_keeps
      | with_reducible apply fenceRefuse_keeps | with_reducible apply kernelAccess_keeps
      | (with_reducible apply foldl_keeps; intro _ _ h) | (with_reducible apply foldl_fst_keeps; intro _ _ h)
      | (with_reducible apply foldl_snd_keeps; intro _ _ h) | with_reducible apply Keeps.ite
      | with_reducible apply KeepsOut.ite | split | dsimp only)

theorem execCopy_keeps (i : Nat) (t : Nat) : KeepsOut p s (execCopy i t s) := by
  have h : Keeps p s s := Keeps.start
  unfold execCopy
  try dsimp only
  repeat' (
    first
      | with_reducible exact h | with_reducible rfl | with_reducible exact KeepsOut.fault _
      | with_reducible apply KeepsOut.next | with_reducible apply finishItem_keeps
      | with_reducible apply fenceRefuse_keeps | with_reducible apply issueRead_keeps
      | with_reducible apply copyWrite_keeps | (with_reducible apply foldl_keeps; intro _ _ h)
      | with_reducible apply Keeps.ite | with_reducible apply KeepsOut.ite | split | dsimp only)

end Sys2Proof.Machine
end

