-- ==== Sys2Proof/Laws/KeepsCadence.lean ====
section
/-! SUPPORT. Every operation of Machine/Cadence.lean keeps the anchor (Laws/Keeps.lean). -/

namespace Sys2Proof.Machine

variable {α : Type} {p : Anchor → α} {s0 s : State}

theorem setClock_keeps (h : Keeps p s0 s) (c : Clock) (h1 : c.running = s.clock.running) (h2 : c.seq = s.clock.seq)
    (h3 : c.index = s.clock.index) : Keeps p s0 (setClock s c) := by
  unfold setClock
  simpa only [Keeps.upd_iff, h1, h2, h3] using h

theorem tickClock_keeps (hp : BlindToTick p) (h : Keeps p s0 s) (c : Clock) : Keeps p s0 (setClock s c) :=
  ⟨(hp (anchor s) c.running c.seq c.index).trans h.same, h.wf⟩

theorem setSched_keeps (h : Keeps p s0 s) (x : Sched) : Keeps p s0 (setSched s x) := by
  unfold setSched
  try dsimp only
  repeat' (
    first
      | with_reducible exact h | with_reducible rfl | (with_reducible apply foldl_keeps; intro _ _ h)
      | simp only [Keeps.upd_iff] | with_reducible apply Keeps.ite | split | dsimp only)

theorem egressEdge_keeps (h : Keeps p s0 s) : Keeps p s0 (egressEdge s) := by
  unfold egressEdge
  try dsimp only
  repeat' (
    first
      | with_reducible exact h | with_reducible rfl | with_reducible apply wr_keeps
      | (with_reducible apply foldl_keeps; intro _ _ h) | simp only [Keeps.upd_iff] | with_reducible apply Keeps.ite
      | split | dsimp only)

theorem egressRelease_keeps (h : Keeps p s0 s) (t : Nat) : Keeps p s0 (egressRelease s t) := by
  unfold egressRelease
  try dsimp only
  repeat' (
    first
      | with_reducible exact h | with_reducible rfl | with_reducible apply hostWrite_keeps
      | with_reducible apply sendOwn_keeps | (with_reducible apply foldl_keeps; intro _ _ h)
      | simp only [Keeps.upd_iff] | with_reducible apply Keeps.ite | split | dsimp only)

theorem peaksEdge_keeps (h : Keeps p s0 s) : Keeps p s0 (peaksEdge s) := by
  unfold peaksEdge
  try dsimp only
  repeat' (
    first
      | with_reducible exact h | with_reducible rfl | with_reducible apply wr_keeps
      | with_reducible apply drawn_keeps | (with_reducible apply foldl_keeps; intro _ _ h)
      | simp only [Keeps.upd_iff] | with_reducible apply Keeps.ite | split | dsimp only)

theorem spinEdge_keeps (h : Keeps p s0 s) (len : Nat) : Keeps p s0 (spinEdge s len) := by
  unfold spinEdge
  try dsimp only
  repeat' (
    first
      | with_reducible exact h | with_reducible rfl | with_reducible apply wr_keeps
      | with_reducible apply setSync_keeps | (with_reducible apply foldl_keeps; intro _ _ h)
      | with_reducible apply Keeps.ite | split | dsimp only)

theorem bridgeEdge_keeps (h : Keeps p s0 s) (t : Nat) : Keeps p s0 (bridgeEdge s t) := by
  unfold bridgeEdge
  try dsimp only
  repeat' (
    first
      | with_reducible exact h | with_reducible rfl | with_reducible apply raise_keeps
      | with_reducible apply endCrossing_keeps | (with_reducible apply foldl_keeps; intro _ _ h)
      | simp only [Keeps.upd_iff] | with_reducible apply Keeps.ite | split | dsimp only)

theorem supEdge_keeps (h : Keeps p s0 s) : Keeps p s0 (supEdge s) := by
  unfold supEdge
  try dsimp only
  repeat' (
    first
      | with_reducible exact h | with_reducible rfl | (with_reducible apply foldl_keeps; intro _ _ h)
      | simp only [Keeps.upd_iff] | with_reducible apply Keeps.ite | split | dsimp only)

theorem strobe_keeps (h : Keeps p s0 s) (readings : List Reading) (drawnUj : Nat) (prevLen : Nat) : Keeps p s0 (strobe
    s readings drawnUj prevLen) := by
  unfold strobe
  try dsimp only
  repeat' (
    first
      | with_reducible exact h | with_reducible rfl | with_reducible apply slewTick_keeps
      | with_reducible apply emit_keeps | with_reducible apply supEdge_keeps | with_reducible apply bridgeEdge_keeps
      | with_reducible apply spinEdge_keeps | with_reducible apply peaksEdge_keeps
      | with_reducible apply egressEdge_keeps | with_reducible apply ageLedger_keeps
      | with_reducible apply tickStalls_keeps | with_reducible apply tickTtl_keeps
      | with_reducible apply powerEdge_keeps | with_reducible apply egressRelease_keeps
      | with_reducible apply sendJoins_keeps | with_reducible apply renewVias_keeps
      | (with_reducible apply foldl_keeps; intro _ _ h) | simp only [Keeps.upd_iff] | with_reducible apply Keeps.ite
      | split | dsimp only)

theorem markLate_keeps (h : Keeps p s0 s) : Keeps p s0 (markLate s) := by
  unfold markLate
  try dsimp only
  repeat' (
    first
      | with_reducible exact h | with_reducible rfl | with_reducible apply bump_keeps
      | with_reducible apply setItem_keeps | (with_reducible apply foldl_keeps; intro _ _ h)
      | with_reducible apply Keeps.ite | split | dsimp only)

theorem bankSwap_keeps (h : Keeps p s0 s) : Keeps p s0 (bankSwap s) := by
  unfold bankSwap
  try dsimp only
  repeat' (
    first
      | with_reducible exact h | with_reducible rfl | with_reducible apply setClock_keeps
      | with_reducible apply setSched_keeps | (with_reducible apply foldl_keeps; intro _ _ h)
      | with_reducible apply Keeps.ite | split | rfl | dsimp only)

theorem epochEdge_keeps (h : Keeps p s0 s) : Keeps p s0 (epochEdge s) := by
  unfold epochEdge
  try dsimp only
  repeat' (
    first
      | with_reducible exact h | with_reducible rfl | with_reducible apply commitEdge_keeps
      | with_reducible apply setSched_keeps | (with_reducible apply foldl_keeps; intro _ _ h)
      | with_reducible apply Keeps.ite | split | dsimp only)

theorem applyActivation_keeps (h : Keeps p s0 s) (t : Nat) : Keeps p s0 (applyActivation s t) := by
  unfold applyActivation
  try dsimp only
  repeat' (
    first
      | with_reducible exact h | with_reducible rfl | with_reducible apply dropPartRequests_keeps
      | (with_reducible apply foldl_keeps; intro _ _ h) | simp only [Keeps.upd_iff] | with_reducible apply Keeps.ite
      | split | dsimp only)

theorem completeAtGate_keeps (h : Keeps p s0 s) (q : Nat) (i : Nat) (d : Desc) (st : Status) (detail : Nat) (inherited
    : Bool) (t : Nat) : Keeps p s0 (completeAtGate s q i d st detail inherited t) := by
  unfold completeAtGate
  try dsimp only
  repeat' (
    first
      | with_reducible exact h | with_reducible rfl | with_reducible apply completeEntry_keeps
      | with_reducible apply sendWithdraw_keeps | (with_reducible apply foldl_keeps; intro _ _ h)
      | with_reducible apply Keeps.ite | split | dsimp only)

theorem completeInherited_keeps (h : Keeps p s0 s) (q : Nat) (i : Nat) (d : Desc) (st : Status) (t : Nat) : Keeps p s0
    (completeInherited s q i d st t) := by
  unfold completeInherited
  try dsimp only
  repeat' (
    first
      | with_reducible exact h | with_reducible rfl | with_reducible apply completeAtGate_keeps
      | with_reducible apply drawn_keeps | (with_reducible apply foldl_keeps; intro _ _ h)
      | with_reducible apply Keeps.ite | split | dsimp only)

theorem gateEntry_keeps (h : Keeps p s0 s) (q : Nat) (t : Nat) (c : CacheSlot) : Keeps p s0 (gateEntry q t s c) := by
  unfold gateEntry
  try dsimp only
  repeat' (
    first
      | with_reducible exact h | with_reducible rfl | with_reducible apply completeAtGate_keeps
      | with_reducible apply completeInherited_keeps | with_reducible apply completeEntry_keeps
      | with_reducible apply takePause_keeps | with_reducible apply takeResume_keeps
      | (with_reducible apply foldl_keeps; intro _ _ h) | with_reducible apply Keeps.ite | split | dsimp only)

theorem gateBarriers_keeps (h : Keeps p s0 s) (q t n : Nat) : Keeps p s0 (gateBarriers q t s n) := by
  induction n generalizing s with
  | zero => exact h
  | succ n ih =>
    unfold gateBarriers
    repeat' (
      first
        | with_reducible exact h | with_reducible apply ih | with_reducible apply completeInherited_keeps
        | with_reducible apply completeEntry_keeps | with_reducible apply Keeps.ite | split | dsimp only)

theorem addItem_keeps (h : Keeps p s0 s) (it : Item) : Keeps p s0 (addItem s it) := by
  unfold addItem
  try dsimp only
  repeat' (
    first
      | with_reducible exact h | with_reducible rfl | with_reducible apply setSched_keeps
      | (with_reducible apply foldl_keeps; intro _ _ h) | with_reducible apply Keeps.ite | split | dsimp only)

theorem refuseInactive_keeps (h : Keeps p s0 s) (p_ : Nat) (t : Nat) : Keeps p s0 (refuseInactive s p_ t) := by
  unfold refuseInactive
  try dsimp only
  repeat' (
    first
      | with_reducible exact h | with_reducible rfl | with_reducible apply fenceRefuse_keeps
      | (with_reducible apply foldl_keeps; intro _ _ h) | with_reducible apply Keeps.ite | split | dsimp only)

theorem releaseEntry_keeps (h : Keeps p s0 s) (it : OvlItem) (c : CacheSlot) (order : Nat) (t : Nat) : Keeps p s0
    (releaseEntry s it c order t) := by
  unfold releaseEntry
  try dsimp only
  repeat' (
    first
      | with_reducible exact h | with_reducible rfl | with_reducible apply completeAtGate_keeps
      | with_reducible apply refuseInactive_keeps | with_reducible apply completeInherited_keeps
      | with_reducible apply addItem_keeps | (with_reducible apply foldl_keeps; intro _ _ h)
      | with_reducible apply Keeps.ite | split | dsimp only)

theorem releaseServe_keeps (h : Keeps p s0 s) (it : OvlItem) (order : Nat) (t : Nat) : Keeps p s0 (releaseServe s it
    order t) := by
  unfold releaseServe
  try dsimp only
  repeat' (
    first
      | with_reducible exact h | with_reducible rfl | with_reducible apply refuseInactive_keeps
      | with_reducible apply addItem_keeps | (with_reducible apply foldl_keeps; intro _ _ h)
      | with_reducible apply Keeps.ite | split | dsimp only)

theorem gatePosted_keeps (h : Keeps p s0 s) (q : Nat) (t : Nat) (i : Nat) : Keeps p s0 (gatePosted q t s i) := by
  unfold gatePosted
  try dsimp only
  repeat' (
    first
      | with_reducible exact h | with_reducible rfl | with_reducible apply releaseEntry_keeps
      | with_reducible apply gateEntry_keeps | (with_reducible apply foldl_keeps; intro _ _ h)
      | with_reducible apply Keeps.ite | split | dsimp only)

theorem releaseServes_keeps (h : Keeps p s0 s) (t : Nat) : Keeps p s0 (releaseServes s t) := by
  unfold releaseServes
  try dsimp only
  repeat' (
    first
      | with_reducible exact h | with_reducible rfl | with_reducible apply setSched_keeps
      | with_reducible apply releaseServe_keeps | (with_reducible apply foldl_keeps; intro _ _ h)
      | with_reducible apply Keeps.ite | split | dsimp only)

theorem gateStanding_keeps (h : Keeps p s0 s) (z : Standing) (n : Nat) (st : Status) (d : Nat) (inherited : Bool) (t :
    Nat) : Keeps p s0 (gateStanding s z n st d inherited t) := by
  unfold gateStanding
  try dsimp only
  repeat' (
    first
      | with_reducible exact h | with_reducible rfl | with_reducible apply bump_keeps
      | with_reducible apply completeStanding_keeps | (with_reducible apply foldl_keeps; intro _ _ h)
      | with_reducible apply Keeps.ite | split | dsimp only)

theorem releaseStanding_keeps (h : Keeps p s0 s) (t : Nat) : Keeps p s0 (releaseStanding s t) := by
  unfold releaseStanding
  try dsimp only
  repeat' (
    first
      | with_reducible exact h | with_reducible rfl | with_reducible apply gateStanding_keeps
      | with_reducible apply refuseInactive_keeps | with_reducible apply drawn_keeps
      | with_reducible apply addItem_keeps | (with_reducible apply foldl_keeps; intro _ _ h)
      | with_reducible apply Keeps.ite | split | dsimp only)

theorem admissionGate_keeps (h : Keeps p s0 s) (t : Nat) : Keeps p s0 (admissionGate s t) := by
  unfold admissionGate
  try dsimp only
  repeat' (
    first
      | with_reducible exact h | with_reducible rfl | with_reducible apply applyActivation_keeps
      | with_reducible apply shutdownPoint_keeps | with_reducible apply gatePosted_keeps
      | with_reducible apply releaseStanding_keeps | with_reducible apply releaseServes_keeps
      | with_reducible apply gateBarriers_keeps | with_reducible apply reapTransfers_keeps
      | with_reducible apply gateLedger_keeps | (with_reducible apply foldl_keeps; intro _ _ h)
      | with_reducible apply Keeps.ite | split | dsimp only)

theorem armStreams_keeps (h : Keeps p s0 s) (t : Nat) : Keeps p s0 (armStreams s t) := by
  unfold armStreams
  try dsimp only
  repeat' (
    first
      | with_reducible exact h | with_reducible rfl | with_reducible apply setLdg_keeps
      | with_reducible apply enterLane_keeps | (with_reducible apply foldl_keeps; intro _ _ h)
      | with_reducible apply Keeps.ite | split | rfl | dsimp only)

theorem tickInterrupt_keeps (h : Keeps p s0 s) : Keeps p s0 (tickInterrupt s) := by
  unfold tickInterrupt
  try dsimp only
  repeat' (
    first
      | with_reducible exact h | with_reducible rfl | with_reducible apply emit_keeps
      | with_reducible apply signalVector_keeps | with_reducible apply setQueue_keeps
      | with_reducible apply setLdg_keeps | (with_reducible apply foldl_keeps; intro _ _ h)
      | simp only [Keeps.upd_iff] | with_reducible apply Keeps.ite | split | rfl | dsimp only)

theorem edgeSequence_keeps (h : Keeps p s0 s) (readings : List Reading) (drawnUj : Nat) (prevLen : Nat) (prev : Option
    (Nat × Nat)) : Keeps p s0 (edgeSequence s readings drawnUj prevLen prev) := by
  unfold edgeSequence
  try dsimp only
  repeat' (
    first
      | with_reducible exact h | with_reducible rfl | with_reducible apply strobe_keeps
      | with_reducible apply sealSets_keeps | with_reducible apply epochEdge_keeps
      | with_reducible apply bankSwap_keeps | with_reducible apply markLate_keeps
      | with_reducible apply tickInterrupt_keeps | with_reducible apply armStreams_keeps
      | with_reducible apply admissionGate_keeps | (with_reducible apply foldl_keeps; intro _ _ h)
      | with_reducible apply Keeps.ite | split | dsimp only)

theorem nextTick_keeps (hpTick : BlindToTick p) (h : Keeps p s0 s) : Keeps p s0 (nextTick s) := by
  unfold nextTick
  try dsimp only
  repeat' (
    first
      | with_reducible exact h | with_reducible rfl | with_reducible apply tickClock_keeps hpTick
      | with_reducible apply setSched_keeps | (with_reducible apply foldl_keeps; intro _ _ h)
      | with_reducible apply Keeps.ite | split | rfl | dsimp only)

theorem execTickEdge_keeps (hpTick : BlindToTick p) (readings : List Reading) (drawnUj : Nat) : KeepsOut p s
    (execTickEdge readings drawnUj s) := by
  have h : Keeps p s s := Keeps.start
  unfold execTickEdge
  try dsimp only
  repeat' (
    first
      | with_reducible exact h | with_reducible rfl | with_reducible exact KeepsOut.fault _
      | with_reducible apply KeepsOut.next | with_reducible apply edgeSequence_keeps
      | with_reducible apply nextTick_keeps hpTick | (with_reducible apply foldl_keeps; intro _ _ h)
      | with_reducible apply Keeps.ite | with_reducible apply KeepsOut.ite | split | dsimp only)

theorem firstTick_keeps (hpTick : BlindToTick p) (h : Keeps p s0 s) (from_ : Nat) : Keeps p s0 (firstTick s from_) :=
    by
  unfold firstTick
  try dsimp only
  repeat' (
    first
      | with_reducible exact h | with_reducible rfl | with_reducible apply tickClock_keeps hpTick
      | (with_reducible apply foldl_keeps; intro _ _ h) | simp only [Keeps.upd_iff] | with_reducible apply Keeps.ite
      | split | rfl | dsimp only)

theorem untracedStart_keeps (h : Keeps p s0 s) : Keeps p s0 (untracedStart s) := by
  unfold untracedStart
  try dsimp only
  repeat' (
    first
      | with_reducible exact h | with_reducible rfl | with_reducible apply enterQuality_keeps
      | (with_reducible apply foldl_keeps; intro _ _ h) | with_reducible apply Keeps.ite | split | dsimp only)

theorem execFirstTick_keeps (hpLocks : BlindToLocks p) (hpTick : BlindToTick p) (readings : List Reading) : KeepsOut p
    s (execFirstTick readings s) := by
  have h : Keeps p s s := Keeps.start
  unfold execFirstTick
  try dsimp only
  repeat' (
    first
      | with_reducible exact h | with_reducible rfl | with_reducible exact KeepsOut.fault _
      | with_reducible apply KeepsOut.next | with_reducible apply edgeSequence_keeps
      | with_reducible apply untracedStart_keeps | with_reducible apply firstTick_keeps hpTick
      | with_reducible apply wr_keeps | with_reducible apply setPhase_keeps
      | with_reducible apply lockBoot_keeps hpLocks | (with_reducible apply foldl_keeps; intro _ _ h)
      | with_reducible apply Keeps.ite | with_reducible apply KeepsOut.ite | split | rfl | dsimp only)

theorem stepTick_keeps (hpTick : BlindToTick p) (h : Keeps p s0 s) (t : Nat) : Keeps p s0 (stepTick s t) := by
  unfold stepTick
  try dsimp only
  repeat' (
    first
      | with_reducible exact h | with_reducible rfl | with_reducible apply applyStep_keeps
      | with_reducible apply tickClock_keeps hpTick | with_reducible apply useDeferred_keeps
      | with_reducible apply latchEpoch_keeps | (with_reducible apply foldl_keeps; intro _ _ h)
      | (with_reducible apply foldl_fst_keeps; intro _ _ h) | (with_reducible apply foldl_snd_keeps; intro _ _ h)
      | with_reducible apply Keeps.ite | split | rfl | dsimp only)

theorem execMaintenanceSlotOpen_keeps (hpTick : BlindToTick p) : KeepsOut p s (execMaintenanceSlotOpen s) := by
  have h : Keeps p s s := Keeps.start
  unfold execMaintenanceSlotOpen
  try dsimp only
  repeat' (
    first
      | with_reducible exact h | with_reducible rfl | with_reducible exact KeepsOut.fault _
      | with_reducible apply KeepsOut.next | with_reducible apply stepTick_keeps hpTick
      | with_reducible apply setSync_keeps | with_reducible apply admitModules_keeps
      | with_reducible apply setClock_keeps | (with_reducible apply foldl_keeps; intro _ _ h)
      | with_reducible apply Keeps.ite | with_reducible apply KeepsOut.ite | split | rfl | dsimp only)

theorem guardItem_keeps (h : Keeps p s0 s) (t : Nat) (i : Nat) : Keeps p s0 (guardItem t s i) := by
  unfold guardItem
  try dsimp only
  repeat' (
    first
      | with_reducible exact h | with_reducible rfl | with_reducible apply endWork_keeps
      | (with_reducible apply foldl_keeps; intro _ _ h) | with_reducible apply Keeps.ite | split | dsimp only)

theorem skipSteps_keeps (h : Keeps p s0 s) : Keeps p s0 (skipSteps s) := by
  unfold skipSteps
  try dsimp only
  repeat' (
    first
      | with_reducible exact h | with_reducible rfl | with_reducible apply setSched_keeps
      | (with_reducible apply foldl_keeps; intro _ _ h) | with_reducible apply Keeps.ite | split | dsimp only)

theorem execGraceDeadline_keeps : KeepsOut p s (execGraceDeadline s) := by
  have h : Keeps p s s := Keeps.start
  unfold execGraceDeadline
  try dsimp only
  repeat' (
    first
      | with_reducible exact h | with_reducible rfl | with_reducible exact KeepsOut.fault _
      | with_reducible apply KeepsOut.next | with_reducible apply skipSteps_keeps
      | with_reducible apply guardItem_keeps | with_reducible apply enterLane_keeps
      | (with_reducible apply foldl_keeps; intro _ _ h) | with_reducible apply Keeps.ite
      | with_reducible apply KeepsOut.ite | split | dsimp only)

theorem execItemStart_keeps (i : Nat) (t : Nat) : KeepsOut p s (execItemStart i t s) := by
  have h : Keeps p s s := Keeps.start
  unfold execItemStart
  try dsimp only
  repeat' (
    first
      | with_reducible exact h | with_reducible rfl | with_reducible exact KeepsOut.fault _
      | with_reducible apply KeepsOut.next | with_reducible apply setItem_keeps
      | with_reducible apply beginStep_keeps | with_reducible apply beginArm_keeps
      | (with_reducible apply foldl_keeps; intro _ _ h) | with_reducible apply Keeps.ite
      | with_reducible apply KeepsOut.ite | split | dsimp only)

theorem execWorkItemComplete_keeps (i : Nat) (t : Nat) : KeepsOut p s (execWorkItemComplete i t s) := by
  have h : Keeps p s s := Keeps.start
  unfold execWorkItemComplete
  try dsimp only
  repeat' (
    first
      | with_reducible exact h | with_reducible rfl | with_reducible exact KeepsOut.fault _
      | with_reducible apply KeepsOut.next | with_reducible apply finishItem_keeps
      | (with_reducible apply foldl_keeps; intro _ _ h) | with_reducible apply Keeps.ite
      | with_reducible apply KeepsOut.ite | split | dsimp only)

theorem ovlStatus_keeps (h : Keeps p s0 s) (item : Nat) (result : Nat) : Keeps p s0 (ovlStatus s item result) := by
  unfold ovlStatus
  try dsimp only
  repeat' (
    first
      | with_reducible exact h | with_reducible rfl | with_reducible apply setSched_keeps
      | (with_reducible apply foldl_keeps; intro _ _ h) | with_reducible apply Keeps.ite | split | dsimp only)

theorem acceptOverlay_keeps (h : Keeps p s0 s) (l : List OvlItem) (t : Nat) : Keeps p s0 (acceptOverlay s l t) := by
  unfold acceptOverlay
  try dsimp only
  repeat' (
    first
      | with_reducible exact h | with_reducible rfl | with_reducible apply setSched_keeps
      | with_reducible apply setQueue_keeps | with_reducible apply startFetch_keeps
      | (with_reducible apply foldl_keeps; intro _ _ h) | with_reducible apply Keeps.ite | split | dsimp only)

theorem checkOverlay_keeps (h : Keeps p s0 s) (n : Nat) (t : Nat) : Keeps p s0 (checkOverlay s n t) := by
  unfold checkOverlay
  try dsimp only
  repeat' (
    first
      | with_reducible exact h | with_reducible rfl | with_reducible apply ovlStatus_keeps
      | with_reducible apply fenceRefuseN_keeps | with_reducible apply raise_keeps | with_reducible apply bump_keeps
      | with_reducible apply acceptOverlay_keeps | (with_reducible apply foldl_keeps; intro _ _ h)
      | with_reducible apply Keeps.ite | split | dsimp only)

theorem execOverlayCommit_keeps (t : Nat) : KeepsOut p s (execOverlayCommit t s) := by
  have h : Keeps p s s := Keeps.start
  unfold execOverlayCommit
  try dsimp only
  repeat' (
    first
      | with_reducible exact h | with_reducible rfl | with_reducible exact KeepsOut.fault _
      | with_reducible apply KeepsOut.next | with_reducible apply ovlStatus_keeps | with_reducible apply bump_keeps
      | with_reducible apply raise_keeps | with_reducible apply fenceRefuse_keeps
      | with_reducible apply checkOverlay_keeps | (with_reducible apply foldl_keeps; intro _ _ h)
      | with_reducible apply Keeps.ite | with_reducible apply KeepsOut.ite | split | dsimp only)

end Sys2Proof.Machine
end

