-- ==== Sys2Proof/Laws/KeepsClears.lean ====
section
/-! SUPPORT. Every operation of Machine/Clears.lean keeps the anchor (Laws/Keeps.lean). -/

namespace Sys2Proof.Machine

variable {α : Type} {p : Anchor → α} {s0 s : State}

theorem execTickCountClr_keeps : KeepsOut p s (execTickCountClr s) := by
  have h : Keeps p s s := Keeps.start
  unfold execTickCountClr
  try dsimp only
  repeat' (
    first
      | with_reducible exact h | with_reducible rfl | with_reducible exact KeepsOut.fault _
      | with_reducible apply KeepsOut.next | with_reducible apply zeroRegs_keeps
      | (with_reducible apply foldl_keeps; intro _ _ h) | with_reducible apply Keeps.ite
      | with_reducible apply KeepsOut.ite | split | dsimp only)

theorem execTbuCountClr_keeps : KeepsOut p s (execTbuCountClr s) := by
  have h : Keeps p s s := Keeps.start
  unfold execTbuCountClr
  try dsimp only
  repeat' (
    first
      | with_reducible exact h | with_reducible rfl | with_reducible exact KeepsOut.fault _
      | with_reducible apply KeepsOut.next | with_reducible apply zeroRegs_keeps
      | (with_reducible apply foldl_keeps; intro _ _ h) | with_reducible apply Keeps.ite
      | with_reducible apply KeepsOut.ite | split | dsimp only)

theorem execSupCountClr_keeps : KeepsOut p s (execSupCountClr s) := by
  have h : Keeps p s s := Keeps.start
  unfold execSupCountClr
  try dsimp only
  repeat' (
    first
      | with_reducible exact h | with_reducible rfl | with_reducible exact KeepsOut.fault _
      | with_reducible apply KeepsOut.next | with_reducible apply zeroRegs_keeps
      | (with_reducible apply foldl_keeps; intro _ _ h) | with_reducible apply Keeps.ite
      | with_reducible apply KeepsOut.ite | split | dsimp only)

theorem execFenceCountClr_keeps : KeepsOut p s (execFenceCountClr s) := by
  have h : Keeps p s s := Keeps.start
  unfold execFenceCountClr
  try dsimp only
  repeat' (
    first
      | with_reducible exact h | with_reducible rfl | with_reducible exact KeepsOut.fault _
      | with_reducible apply KeepsOut.next | with_reducible apply zeroRegs_keeps
      | (with_reducible apply foldl_keeps; intro _ _ h) | with_reducible apply Keeps.ite
      | with_reducible apply KeepsOut.ite | split | dsimp only)

theorem execFenceVlogClr_keeps : KeepsOut p s (execFenceVlogClr s) := by
  have h : Keeps p s s := Keeps.start
  unfold execFenceVlogClr
  try dsimp only
  repeat' (
    first
      | with_reducible exact h | with_reducible rfl | with_reducible exact KeepsOut.fault _
      | with_reducible apply KeepsOut.next | with_reducible apply zeroRegs_keeps
      | (with_reducible apply foldl_keeps; intro _ _ h) | simp only [Keeps.upd_iff] | with_reducible apply Keeps.ite
      | with_reducible apply KeepsOut.ite | split | dsimp only)

theorem execPartCountClr_keeps : KeepsOut p s (execPartCountClr s) := by
  have h : Keeps p s s := Keeps.start
  unfold execPartCountClr
  try dsimp only
  repeat' (
    first
      | with_reducible exact h | with_reducible rfl | with_reducible exact KeepsOut.fault _
      | with_reducible apply KeepsOut.next | with_reducible apply zeroRegs_keeps
      | (with_reducible apply foldl_keeps; intro _ _ h) | with_reducible apply Keeps.ite
      | with_reducible apply KeepsOut.ite | split | dsimp only)

theorem execPartLogClr_keeps : KeepsOut p s (execPartLogClr s) := by
  have h : Keeps p s s := Keeps.start
  unfold execPartLogClr
  try dsimp only
  repeat' (
    first
      | with_reducible exact h | with_reducible rfl | with_reducible exact KeepsOut.fault _
      | with_reducible apply KeepsOut.next | with_reducible apply zeroRegs_keeps
      | (with_reducible apply foldl_keeps; intro _ _ h) | simp only [Keeps.upd_iff] | with_reducible apply Keeps.ite
      | with_reducible apply KeepsOut.ite | split | dsimp only)

theorem execWqCountClr_keeps : KeepsOut p s (execWqCountClr s) := by
  have h : Keeps p s s := Keeps.start
  unfold execWqCountClr
  try dsimp only
  repeat' (
    first
      | with_reducible exact h | with_reducible rfl | with_reducible exact KeepsOut.fault _
      | with_reducible apply KeepsOut.next | with_reducible apply zeroRegs_keeps
      | (with_reducible apply foldl_keeps; intro _ _ h) | with_reducible apply Keeps.ite
      | with_reducible apply KeepsOut.ite | split | dsimp only)

theorem execSyncCountClr_keeps : KeepsOut p s (execSyncCountClr s) := by
  have h : Keeps p s s := Keeps.start
  unfold execSyncCountClr
  try dsimp only
  repeat' (
    first
      | with_reducible exact h | with_reducible rfl | with_reducible exact KeepsOut.fault _
      | with_reducible apply KeepsOut.next | with_reducible apply zeroRegs_keeps
      | (with_reducible apply foldl_keeps; intro _ _ h) | with_reducible apply Keeps.ite
      | with_reducible apply KeepsOut.ite | split | dsimp only)

theorem execSyncFaultLogClr_keeps : KeepsOut p s (execSyncFaultLogClr s) := by
  have h : Keeps p s s := Keeps.start
  unfold execSyncFaultLogClr
  try dsimp only
  repeat' (
    first
      | with_reducible exact h | with_reducible rfl | with_reducible exact KeepsOut.fault _
      | with_reducible apply KeepsOut.next | with_reducible apply zeroRegs_keeps
      | (with_reducible apply foldl_keeps; intro _ _ h) | simp only [Keeps.upd_iff] | with_reducible apply Keeps.ite
      | with_reducible apply KeepsOut.ite | split | dsimp only)

theorem execSyncAuditWrapClr_keeps : KeepsOut p s (execSyncAuditWrapClr s) := by
  have h : Keeps p s s := Keeps.start
  unfold execSyncAuditWrapClr
  try dsimp only
  repeat' (
    first
      | with_reducible exact h | with_reducible rfl | with_reducible exact KeepsOut.fault _
      | with_reducible apply KeepsOut.next | (with_reducible apply foldl_keeps; intro _ _ h)
      | simp only [Keeps.upd_iff] | with_reducible apply Keeps.ite | with_reducible apply KeepsOut.ite | split
      | dsimp only)

theorem execHubCollCountClr_keeps : KeepsOut p s (execHubCollCountClr s) := by
  have h : Keeps p s s := Keeps.start
  unfold execHubCollCountClr
  try dsimp only
  repeat' (
    first
      | with_reducible exact h | with_reducible rfl | with_reducible exact KeepsOut.fault _
      | with_reducible apply KeepsOut.next | with_reducible apply zeroRegs_keeps
      | (with_reducible apply foldl_keeps; intro _ _ h) | with_reducible apply Keeps.ite
      | with_reducible apply KeepsOut.ite | split | dsimp only)

theorem execHubCollLogClr_keeps : KeepsOut p s (execHubCollLogClr s) := by
  have h : Keeps p s s := Keeps.start
  unfold execHubCollLogClr
  try dsimp only
  repeat' (
    first
      | with_reducible exact h | with_reducible rfl | with_reducible exact KeepsOut.fault _
      | with_reducible apply KeepsOut.next | with_reducible apply zeroRegs_keeps
      | (with_reducible apply foldl_keeps; intro _ _ h) | simp only [Keeps.upd_iff] | with_reducible apply Keeps.ite
      | with_reducible apply KeepsOut.ite | split | dsimp only)

theorem execHubCountClr_keeps (h_ : Nat) : KeepsOut p s (execHubCountClr h_ s) := by
  have h : Keeps p s s := Keeps.start
  unfold execHubCountClr
  try dsimp only
  repeat' (
    first
      | with_reducible exact h | with_reducible rfl | with_reducible exact KeepsOut.fault _
      | with_reducible apply KeepsOut.next | with_reducible apply zeroRegs_keeps
      | (with_reducible apply foldl_keeps; intro _ _ h) | with_reducible apply Keeps.ite
      | with_reducible apply KeepsOut.ite | split | dsimp only)

theorem execSpkCountClr_keeps (h_ : Nat) : KeepsOut p s (execSpkCountClr h_ s) := by
  have h : Keeps p s s := Keeps.start
  unfold execSpkCountClr
  try dsimp only
  repeat' (
    first
      | with_reducible exact h | with_reducible rfl | with_reducible exact KeepsOut.fault _
      | with_reducible apply KeepsOut.next | with_reducible apply zeroRegs_keeps
      | (with_reducible apply foldl_keeps; intro _ _ h) | with_reducible apply Keeps.ite
      | with_reducible apply KeepsOut.ite | split | dsimp only)

theorem execSpkLogClr_keeps (h_ : Nat) : KeepsOut p s (execSpkLogClr h_ s) := by
  have h : Keeps p s s := Keeps.start
  unfold execSpkLogClr
  try dsimp only
  repeat' (
    first
      | with_reducible exact h | with_reducible rfl | with_reducible exact KeepsOut.fault _
      | with_reducible apply KeepsOut.next | with_reducible apply zeroRegs_keeps
      | (with_reducible apply foldl_keeps; intro _ _ h) | with_reducible apply Keeps.ite
      | with_reducible apply KeepsOut.ite | split | dsimp only)

theorem execLnkCountClr_keeps : KeepsOut p s (execLnkCountClr s) := by
  have h : Keeps p s s := Keeps.start
  unfold execLnkCountClr
  try dsimp only
  repeat' (
    first
      | with_reducible exact h | with_reducible rfl | with_reducible exact KeepsOut.fault _
      | with_reducible apply KeepsOut.next | with_reducible apply zeroRegs_keeps
      | (with_reducible apply foldl_keeps; intro _ _ h) | with_reducible apply Keeps.ite
      | with_reducible apply KeepsOut.ite | split | dsimp only)

theorem execLnkLogClr_keeps : KeepsOut p s (execLnkLogClr s) := by
  have h : Keeps p s s := Keeps.start
  unfold execLnkLogClr
  try dsimp only
  repeat' (
    first
      | with_reducible exact h | with_reducible rfl | with_reducible exact KeepsOut.fault _
      | with_reducible apply KeepsOut.next | with_reducible apply zeroRegs_keeps
      | (with_reducible apply foldl_keeps; intro _ _ h) | with_reducible apply Keeps.ite
      | with_reducible apply KeepsOut.ite | split | dsimp only)

theorem execFabCountClr_keeps : KeepsOut p s (execFabCountClr s) := by
  have h : Keeps p s s := Keeps.start
  unfold execFabCountClr
  try dsimp only
  repeat' (
    first
      | with_reducible exact h | with_reducible rfl | with_reducible exact KeepsOut.fault _
      | with_reducible apply KeepsOut.next | with_reducible apply zeroRegs_keeps
      | (with_reducible apply foldl_keeps; intro _ _ h) | with_reducible apply Keeps.ite
      | with_reducible apply KeepsOut.ite | split | dsimp only)

theorem execTlyCountClr_keeps : KeepsOut p s (execTlyCountClr s) := by
  have h : Keeps p s s := Keeps.start
  unfold execTlyCountClr
  try dsimp only
  repeat' (
    first
      | with_reducible exact h | with_reducible rfl | with_reducible exact KeepsOut.fault _
      | with_reducible apply KeepsOut.next | with_reducible apply zeroRegs_keeps
      | (with_reducible apply foldl_keeps; intro _ _ h) | with_reducible apply Keeps.ite
      | with_reducible apply KeepsOut.ite | split | dsimp only)

theorem execLdgCountClr_keeps : KeepsOut p s (execLdgCountClr s) := by
  have h : Keeps p s s := Keeps.start
  unfold execLdgCountClr
  try dsimp only
  repeat' (
    first
      | with_reducible exact h | with_reducible rfl | with_reducible exact KeepsOut.fault _
      | with_reducible apply KeepsOut.next | with_reducible apply zeroRegs_keeps
      | (with_reducible apply foldl_keeps; intro _ _ h) | with_reducible apply Keeps.ite
      | with_reducible apply KeepsOut.ite | split | dsimp only)

theorem execMskCountClr_keeps : KeepsOut p s (execMskCountClr s) := by
  have h : Keeps p s s := Keeps.start
  unfold execMskCountClr
  try dsimp only
  repeat' (
    first
      | with_reducible exact h | with_reducible rfl | with_reducible exact KeepsOut.fault _
      | with_reducible apply KeepsOut.next | with_reducible apply zeroRegs_keeps
      | (with_reducible apply foldl_keeps; intro _ _ h) | with_reducible apply Keeps.ite
      | with_reducible apply KeepsOut.ite | split | dsimp only)

theorem execBkgCountClr_keeps : KeepsOut p s (execBkgCountClr s) := by
  have h : Keeps p s s := Keeps.start
  unfold execBkgCountClr
  try dsimp only
  repeat' (
    first
      | with_reducible exact h | with_reducible rfl | with_reducible exact KeepsOut.fault _
      | with_reducible apply KeepsOut.next | with_reducible apply zeroRegs_keeps
      | (with_reducible apply foldl_keeps; intro _ _ h) | with_reducible apply Keeps.ite
      | with_reducible apply KeepsOut.ite | split | dsimp only)

theorem execBkgLogClr_keeps : KeepsOut p s (execBkgLogClr s) := by
  have h : Keeps p s s := Keeps.start
  unfold execBkgLogClr
  try dsimp only
  repeat' (
    first
      | with_reducible exact h | with_reducible rfl | with_reducible exact KeepsOut.fault _
      | with_reducible apply KeepsOut.next | with_reducible apply zeroRegs_keeps
      | (with_reducible apply foldl_keeps; intro _ _ h) | with_reducible apply Keeps.ite
      | with_reducible apply KeepsOut.ite | split | dsimp only)

theorem execHstCountClr_keeps : KeepsOut p s (execHstCountClr s) := by
  have h : Keeps p s s := Keeps.start
  unfold execHstCountClr
  try dsimp only
  repeat' (
    first
      | with_reducible exact h | with_reducible rfl | with_reducible exact KeepsOut.fault _
      | with_reducible apply KeepsOut.next | with_reducible apply zeroRegs_keeps
      | (with_reducible apply foldl_keeps; intro _ _ h) | with_reducible apply Keeps.ite
      | with_reducible apply KeepsOut.ite | split | dsimp only)

theorem execPwrCountClr_keeps : KeepsOut p s (execPwrCountClr s) := by
  have h : Keeps p s s := Keeps.start
  unfold execPwrCountClr
  try dsimp only
  repeat' (
    first
      | with_reducible exact h | with_reducible rfl | with_reducible exact KeepsOut.fault _
      | with_reducible apply KeepsOut.next | with_reducible apply zeroRegs_keeps
      | (with_reducible apply foldl_keeps; intro _ _ h) | with_reducible apply Keeps.ite
      | with_reducible apply KeepsOut.ite | split | dsimp only)

end Sys2Proof.Machine
end

