-- ==== Sys2Proof/Laws/KeepsCollRun.lean ====
section
/-! SUPPORT. What the operations of Machine/CollRun.lean leave alone (Laws/Keeps.lean). -/

namespace Sys2Proof.Machine

variable {α : Type} {p : Anchor → α} {s0 s : State}

theorem sendParts_keeps (h : Keeps p s0 s) (stream : Nat) (o : CollOp) (t : Nat) : Keeps p s0 (sendParts s stream o t)
    := by
  unfold sendParts
  try dsimp only
  repeat' (
    first
      | with_reducible exact h | with_reducible rfl | with_reducible apply sendSegment_keeps
      | (with_reducible apply foldl_keeps; intro _ _ h) | with_reducible apply Keeps.ite | split | dsimp only)

theorem takeTile_keeps (h : Keeps p s0 s) (stream : Nat) (o : CollOp) : Keeps p s0 (takeTile s stream o) := by
  unfold takeTile
  try dsimp only
  repeat' (
    first
      | with_reducible exact h | with_reducible rfl | with_reducible apply updOp_keeps
      | with_reducible apply applyClear_keeps | (with_reducible apply foldl_keeps; intro _ _ h)
      | with_reducible apply Keeps.ite | split | dsimp only)

theorem finishRun_keeps (h : Keeps p s0 s) (i : Nat) (stream : Nat) (o0 : CollOp) (others : List (Nat × List Byte)) (t
    : Nat) : Keeps p s0 (finishRun s i stream o0 others t) := by
  unfold finishRun
  try dsimp only
  repeat' (
    first
      | with_reducible exact h | with_reducible rfl | with_reducible apply lateContribution_keeps
      | with_reducible apply updOp_keeps | with_reducible apply finishItem_keeps
      | with_reducible apply fenceRefuse_keeps | with_reducible apply sendParts_keeps
      | with_reducible apply writeResult_keeps | with_reducible apply setItem_keeps
      | (with_reducible apply foldl_keeps; intro _ _ h) | (with_reducible apply foldl_fst_keeps; intro _ _ h)
      | (with_reducible apply foldl_snd_keeps; intro _ _ h) | with_reducible apply Keeps.ite | split | dsimp only)

theorem runCollective_keeps (h : Keeps p s0 s) (code : Nat) (i : Nat) (others : List (Nat × List Byte)) (t : Nat) :
    Keeps p s0 (runCollective s code i others t) := by
  unfold runCollective
  try dsimp only
  repeat' (
    first
      | with_reducible exact h | with_reducible rfl | with_reducible apply finishItem_keeps
      | with_reducible apply takeTile_keeps | with_reducible apply finishRun_keeps
      | (with_reducible apply foldl_keeps; intro _ _ h) | (with_reducible apply foldl_fst_keeps; intro _ _ h)
      | (with_reducible apply foldl_snd_keeps; intro _ _ h) | with_reducible apply Keeps.ite | split | dsimp only)

theorem execAllReduce_keeps (i : Nat) (others : List (Nat × List Byte)) (t : Nat) : KeepsOut p s (execAllReduce i
    others t s) := by
  have h : Keeps p s s := Keeps.start
  unfold execAllReduce
  try dsimp only
  repeat' (
    first
      | with_reducible exact h | with_reducible rfl | with_reducible exact KeepsOut.fault _
      | with_reducible apply KeepsOut.next | with_reducible apply runCollective_keeps
      | (with_reducible apply foldl_keeps; intro _ _ h) | with_reducible apply Keeps.ite
      | with_reducible apply KeepsOut.ite | split | dsimp only)

theorem execReduce_keeps (i : Nat) (others : List (Nat × List Byte)) (t : Nat) : KeepsOut p s (execReduce i others t
    s) := by
  have h : Keeps p s s := Keeps.start
  unfold execReduce
  try dsimp only
  repeat' (
    first
      | with_reducible exact h | with_reducible rfl | with_reducible exact KeepsOut.fault _
      | with_reducible apply KeepsOut.next | with_reducible apply runCollective_keeps
      | (with_reducible apply foldl_keeps; intro _ _ h) | with_reducible apply Keeps.ite
      | with_reducible apply KeepsOut.ite | split | dsimp only)

theorem execReduceScatter_keeps (i : Nat) (others : List (Nat × List Byte)) (t : Nat) : KeepsOut p s
    (execReduceScatter i others t s) := by
  have h : Keeps p s s := Keeps.start
  unfold execReduceScatter
  try dsimp only
  repeat' (
    first
      | with_reducible exact h | with_reducible rfl | with_reducible exact KeepsOut.fault _
      | with_reducible apply KeepsOut.next | with_reducible apply runCollective_keeps
      | (with_reducible apply foldl_keeps; intro _ _ h) | with_reducible apply Keeps.ite
      | with_reducible apply KeepsOut.ite | split | dsimp only)

theorem execAllGather_keeps (i : Nat) (others : List (Nat × List Byte)) (t : Nat) : KeepsOut p s (execAllGather i
    others t s) := by
  have h : Keeps p s s := Keeps.start
  unfold execAllGather
  try dsimp only
  repeat' (
    first
      | with_reducible exact h | with_reducible rfl | with_reducible exact KeepsOut.fault _
      | with_reducible apply KeepsOut.next | with_reducible apply runCollective_keeps
      | (with_reducible apply foldl_keeps; intro _ _ h) | with_reducible apply Keeps.ite
      | with_reducible apply KeepsOut.ite | split | dsimp only)

theorem execGather_keeps (i : Nat) (others : List (Nat × List Byte)) (t : Nat) : KeepsOut p s (execGather i others t
    s) := by
  have h : Keeps p s s := Keeps.start
  unfold execGather
  try dsimp only
  repeat' (
    first
      | with_reducible exact h | with_reducible rfl | with_reducible exact KeepsOut.fault _
      | with_reducible apply KeepsOut.next | with_reducible apply runCollective_keeps
      | (with_reducible apply foldl_keeps; intro _ _ h) | with_reducible apply Keeps.ite
      | with_reducible apply KeepsOut.ite | split | dsimp only)

theorem execScatter_keeps (i : Nat) (others : List (Nat × List Byte)) (t : Nat) : KeepsOut p s (execScatter i others t
    s) := by
  have h : Keeps p s s := Keeps.start
  unfold execScatter
  try dsimp only
  repeat' (
    first
      | with_reducible exact h | with_reducible rfl | with_reducible exact KeepsOut.fault _
      | with_reducible apply KeepsOut.next | with_reducible apply runCollective_keeps
      | (with_reducible apply foldl_keeps; intro _ _ h) | with_reducible apply Keeps.ite
      | with_reducible apply KeepsOut.ite | split | dsimp only)

theorem execBroadcast_keeps (i : Nat) (others : List (Nat × List Byte)) (t : Nat) : KeepsOut p s (execBroadcast i
    others t s) := by
  have h : Keeps p s s := Keeps.start
  unfold execBroadcast
  try dsimp only
  repeat' (
    first
      | with_reducible exact h | with_reducible rfl | with_reducible exact KeepsOut.fault _
      | with_reducible apply KeepsOut.next | with_reducible apply runCollective_keeps
      | (with_reducible apply foldl_keeps; intro _ _ h) | with_reducible apply Keeps.ite
      | with_reducible apply KeepsOut.ite | split | dsimp only)

theorem execAllToAll_keeps (i : Nat) (others : List (Nat × List Byte)) (t : Nat) : KeepsOut p s (execAllToAll i others
    t s) := by
  have h : Keeps p s s := Keeps.start
  unfold execAllToAll
  try dsimp only
  repeat' (
    first
      | with_reducible exact h | with_reducible rfl | with_reducible exact KeepsOut.fault _
      | with_reducible apply KeepsOut.next | with_reducible apply runCollective_keeps
      | (with_reducible apply foldl_keeps; intro _ _ h) | with_reducible apply Keeps.ite
      | with_reducible apply KeepsOut.ite | split | dsimp only)

theorem execSend_keeps (i : Nat) (t : Nat) : KeepsOut p s (execSend i t s) := by
  have h : Keeps p s s := Keeps.start
  unfold execSend
  try dsimp only
  repeat' (
    first
      | with_reducible exact h | with_reducible rfl | with_reducible exact KeepsOut.fault _
      | with_reducible apply KeepsOut.next | with_reducible apply runCollective_keeps
      | (with_reducible apply foldl_keeps; intro _ _ h) | with_reducible apply Keeps.ite
      | with_reducible apply KeepsOut.ite | split | dsimp only)

theorem execRecv_keeps (i : Nat) (others : List (Nat × List Byte)) (t : Nat) : KeepsOut p s (execRecv i others t s) :=
    by
  have h : Keeps p s s := Keeps.start
  unfold execRecv
  try dsimp only
  repeat' (
    first
      | with_reducible exact h | with_reducible rfl | with_reducible exact KeepsOut.fault _
      | with_reducible apply KeepsOut.next | with_reducible apply runCollective_keeps
      | (with_reducible apply foldl_keeps; intro _ _ h) | with_reducible apply Keeps.ite
      | with_reducible apply KeepsOut.ite | split | dsimp only)

theorem execStream_keeps (i : Nat) (c : Nat) (data : List Byte) (t : Nat) : KeepsOut p s (execStream i c data t s) :=
    by
  have h : Keeps p s s := Keeps.start
  unfold execStream
  try dsimp only
  repeat' (
    first
      | with_reducible exact h | with_reducible rfl | with_reducible exact KeepsOut.fault _
      | with_reducible apply KeepsOut.next | with_reducible apply updOp_keeps
      | with_reducible apply finishItem_keeps | with_reducible apply fenceRefuse_keeps
      | with_reducible apply sendColl_keeps | with_reducible apply lateContribution_keeps
      | with_reducible apply writeResult_keeps | with_reducible apply doSet_keeps
      | with_reducible apply setItem_keeps | (with_reducible apply foldl_keeps; intro _ _ h)
      | (with_reducible apply foldl_fst_keeps; intro _ _ h) | (with_reducible apply foldl_snd_keeps; intro _ _ h)
      | with_reducible apply Keeps.ite | with_reducible apply KeepsOut.ite | split | dsimp only)

end Sys2Proof.Machine
end

