-- ==== Sys2Proof/Laws/KeepsManagement.lean ====
section
/-! SUPPORT. Every operation of Machine/Management.lean keeps the anchor (Laws/Keeps.lean). -/

namespace Sys2Proof.Machine

variable {α : Type} {p : Anchor → α} {s0 s : State}

theorem setHost_keeps (h : Keeps p s0 s) (h_ : HostIf) : Keeps p s0 (setHost s h_) := by
  unfold setHost
  try dsimp only
  repeat' (
    first
      | with_reducible exact h | with_reducible rfl | (with_reducible apply foldl_keeps; intro _ _ h)
      | simp only [Keeps.upd_iff] | with_reducible apply Keeps.ite | split | dsimp only)

theorem reply_keeps (h : Keeps p s0 s) (kind : String) (code : Nat) (data : List Byte) : Keeps p s0 (reply s kind code
    data) := by
  unfold reply
  try dsimp only
  repeat' (
    first
      | with_reducible exact h | with_reducible rfl | with_reducible apply emit_keeps
      | (with_reducible apply foldl_keeps; intro _ _ h) | with_reducible apply Keeps.ite | split | dsimp only)

theorem resetMsix_keeps (h : Keeps p s0 s) (fn : Nat) : Keeps p s0 (resetMsix s fn) := by
  unfold resetMsix
  try dsimp only
  repeat' (
    first
      | with_reducible exact h | with_reducible rfl | (with_reducible apply foldl_keeps; intro _ _ h)
      | simp only [Keeps.upd_iff] | with_reducible apply Keeps.ite | split | dsimp only)

theorem flrRequests_keeps (h : Keeps p s0 s) (t : Nat) : Keeps p s0 (flrRequests s t) := by
  unfold flrRequests
  try dsimp only
  repeat' (
    first
      | with_reducible exact h | with_reducible rfl | with_reducible apply setSlot_keeps
      | with_reducible apply endSoon_keeps | with_reducible apply endRequest_keeps
      | (with_reducible apply foldl_keeps; intro _ _ h) | with_reducible apply Keeps.ite | split | dsimp only)

theorem flrQueue_keeps (h : Keeps p s0 s) (q : Nat) (t : Nat) : Keeps p s0 (flrQueue s q t) := by
  unfold flrQueue
  try dsimp only
  repeat' (
    first
      | with_reducible exact h | with_reducible rfl | with_reducible apply zeroRegs_keeps
      | with_reducible apply setQueue_keeps | with_reducible apply stopQueueWork_keeps
      | (with_reducible apply foldl_keeps; intro _ _ h) | with_reducible apply Keeps.ite | split | dsimp only)

theorem flrRings_keeps (h : Keeps p s0 s) : Keeps p s0 (flrRings s) := by
  unfold flrRings
  try dsimp only
  repeat' (
    first
      | with_reducible exact h | with_reducible rfl | with_reducible apply wr_keeps
      | with_reducible apply zeroRegs_keeps | (with_reducible apply foldl_keeps; intro _ _ h)
      | simp only [Keeps.upd_iff] | with_reducible apply Keeps.ite | split | dsimp only)

theorem flrPf0_keeps (h : Keeps p s0 s) (t : Nat) : Keeps p s0 (flrPf0 s t) := by
  unfold flrPf0
  try dsimp only
  repeat' (
    first
      | with_reducible exact h | with_reducible rfl | with_reducible apply setHost_keeps
      | with_reducible apply flrRequests_keeps | with_reducible apply stopItems_keeps
      | with_reducible apply flrQueue_keeps | with_reducible apply abandonReads_keeps
      | with_reducible apply resetMsix_keeps | with_reducible apply flrRings_keeps
      | with_reducible apply zeroRegs_keeps | (with_reducible apply foldl_keeps; intro _ _ h)
      | simp only [Keeps.upd_iff] | with_reducible apply Keeps.ite | split | dsimp only)

theorem execFlrPf0_keeps (t : Nat) : KeepsOut p s (execFlrPf0 t s) := by
  have h : Keeps p s s := Keeps.start
  unfold execFlrPf0
  try dsimp only
  repeat' (
    first
      | with_reducible exact h | with_reducible rfl | with_reducible exact KeepsOut.fault _
      | with_reducible apply KeepsOut.next | with_reducible apply flrPf0_keeps
      | (with_reducible apply foldl_keeps; intro _ _ h) | with_reducible apply Keeps.ite
      | with_reducible apply KeepsOut.ite | split | dsimp only)

theorem execFlrPf1_keeps : KeepsOut p s (execFlrPf1 s) := by
  have h : Keeps p s s := Keeps.start
  unfold execFlrPf1
  try dsimp only
  repeat' (
    first
      | with_reducible exact h | with_reducible rfl | with_reducible exact KeepsOut.fault _
      | with_reducible apply KeepsOut.next | with_reducible apply resetMsix_keeps
      | (with_reducible apply foldl_keeps; intro _ _ h) | with_reducible apply Keeps.ite
      | with_reducible apply KeepsOut.ite | split | dsimp only)

theorem pcieDown_keeps (h : Keeps p s0 s) (t : Nat) : Keeps p s0 (pcieDown s t) := by
  unfold pcieDown
  try dsimp only
  repeat' (
    first
      | with_reducible exact h | with_reducible rfl | with_reducible apply raise_keeps
      | (with_reducible apply foldl_keeps; intro _ _ h) | with_reducible apply Keeps.ite | split | dsimp only)

theorem execPerstNAssert_keeps (t : Nat) : KeepsOut p s (execPerstNAssert t s) := by
  have h : Keeps p s s := Keeps.start
  unfold execPerstNAssert
  try dsimp only
  repeat' (
    first
      | with_reducible exact h | with_reducible rfl | with_reducible exact KeepsOut.fault _
      | with_reducible apply KeepsOut.next | with_reducible apply resetMsix_keeps
      | with_reducible apply flrPf0_keeps | with_reducible apply setHost_keeps | with_reducible apply pcieDown_keeps
      | with_reducible apply wr_keeps | (with_reducible apply foldl_keeps; intro _ _ h)
      | with_reducible apply Keeps.ite | with_reducible apply KeepsOut.ite | split | dsimp only)

theorem execPerstNDeassert_keeps : KeepsOut p s (execPerstNDeassert s) := by
  have h : Keeps p s s := Keeps.start
  unfold execPerstNDeassert
  try dsimp only
  repeat' (
    first
      | with_reducible exact h | with_reducible rfl | with_reducible exact KeepsOut.fault _
      | with_reducible apply KeepsOut.next | with_reducible apply setHost_keeps
      | (with_reducible apply foldl_keeps; intro _ _ h) | with_reducible apply Keeps.ite
      | with_reducible apply KeepsOut.ite | split | dsimp only)

theorem execPcieLinkUp_keeps (rate : Nat) (width : Nat) (flit : Bool) (ats : Bool) : KeepsOut p s (execPcieLinkUp rate
    width flit ats s) := by
  have h : Keeps p s s := Keeps.start
  unfold execPcieLinkUp
  try dsimp only
  repeat' (
    first
      | with_reducible exact h | with_reducible rfl | with_reducible exact KeepsOut.fault _
      | with_reducible apply KeepsOut.next | with_reducible apply issueWaiting_keeps | with_reducible apply wr_keeps
      | with_reducible apply setHost_keeps | (with_reducible apply foldl_keeps; intro _ _ h)
      | with_reducible apply Keeps.ite | with_reducible apply KeepsOut.ite | split | dsimp only)

theorem execPcieLinkDown_keeps (t : Nat) : KeepsOut p s (execPcieLinkDown t s) := by
  have h : Keeps p s s := Keeps.start
  unfold execPcieLinkDown
  try dsimp only
  repeat' (
    first
      | with_reducible exact h | with_reducible rfl | with_reducible exact KeepsOut.fault _
      | with_reducible apply KeepsOut.next | with_reducible apply pcieDown_keeps | with_reducible apply wr_keeps
      | (with_reducible apply foldl_keeps; intro _ _ h) | with_reducible apply Keeps.ite
      | with_reducible apply KeepsOut.ite | split | dsimp only)

theorem execAtsInvalidateRequest_keeps (page : Nat) (count : Nat) : KeepsOut p s (execAtsInvalidateRequest page count
    s) := by
  have h : Keeps p s s := Keeps.start
  unfold execAtsInvalidateRequest
  try dsimp only
  repeat' (
    first
      | with_reducible exact h | with_reducible rfl | with_reducible exact KeepsOut.fault _
      | with_reducible apply KeepsOut.next | with_reducible apply setHost_keeps
      | (with_reducible apply foldl_keeps; intro _ _ h) | with_reducible apply Keeps.ite
      | with_reducible apply KeepsOut.ite | split | dsimp only)

theorem execAtsInvalidateComplete_keeps (page : Nat) : KeepsOut p s (execAtsInvalidateComplete page s) := by
  have h : Keeps p s s := Keeps.start
  unfold execAtsInvalidateComplete
  try dsimp only
  repeat' (
    first
      | with_reducible exact h | with_reducible rfl | with_reducible exact KeepsOut.fault _
      | with_reducible apply KeepsOut.next | with_reducible apply reply_keeps | with_reducible apply setHost_keeps
      | (with_reducible apply foldl_keeps; intro _ _ h) | with_reducible apply Keeps.ite
      | with_reducible apply KeepsOut.ite | split | dsimp only)

theorem execIdeIntegrityFail_keeps (t : Nat) : KeepsOut p s (execIdeIntegrityFail t s) := by
  have h : Keeps p s s := Keeps.start
  unfold execIdeIntegrityFail
  try dsimp only
  repeat' (
    first
      | with_reducible exact h | with_reducible rfl | with_reducible exact KeepsOut.fault _
      | with_reducible apply KeepsOut.next | with_reducible apply setHost_keeps | with_reducible apply wr_keeps
      | with_reducible apply raise_keeps | with_reducible apply bump_keeps
      | (with_reducible apply foldl_keeps; intro _ _ h) | with_reducible apply Keeps.ite
      | with_reducible apply KeepsOut.ite | split | dsimp only)

theorem execIdeKmKSetGo_keeps (keySet : Nat) : KeepsOut p s (execIdeKmKSetGo keySet s) := by
  have h : Keeps p s s := Keeps.start
  unfold execIdeKmKSetGo
  try dsimp only
  repeat' (
    first
      | with_reducible exact h | with_reducible rfl | with_reducible exact KeepsOut.fault _
      | with_reducible apply KeepsOut.next | with_reducible apply setHost_keeps | with_reducible apply wr_keeps
      | (with_reducible apply foldl_keeps; intro _ _ h) | with_reducible apply Keeps.ite
      | with_reducible apply KeepsOut.ite | split | dsimp only)

theorem execSetEndpointId_keeps (ep : Nat) (eid : Nat) : KeepsOut p s (execSetEndpointId ep eid s) := by
  have h : Keeps p s s := Keeps.start
  unfold execSetEndpointId
  try dsimp only
  repeat' (
    first
      | with_reducible exact h | with_reducible rfl | with_reducible exact KeepsOut.fault _
      | with_reducible apply KeepsOut.next | with_reducible apply reply_keeps | with_reducible apply wr_keeps
      | (with_reducible apply foldl_keeps; intro _ _ h) | with_reducible apply Keeps.ite
      | with_reducible apply KeepsOut.ite | split | dsimp only)

theorem execI3cEntdaa_keeps (ep : Nat) : KeepsOut p s (execI3cEntdaa ep s) := by
  have h : Keeps p s s := Keeps.start
  unfold execI3cEntdaa
  try dsimp only
  repeat' (
    first
      | with_reducible exact h | with_reducible rfl | with_reducible exact KeepsOut.fault _
      | with_reducible apply KeepsOut.next | with_reducible apply setHost_keeps
      | (with_reducible apply foldl_keeps; intro _ _ h) | with_reducible apply Keeps.ite
      | with_reducible apply KeepsOut.ite | split | dsimp only)

theorem pldm_keeps {f : State → State} (hf : ∀ s, Keeps p s0 s → Keeps p s0 (f s)) (h : Keeps p s0 s) (ep : Nat)
    (kind : String) : Keeps p s0 (pldm s ep kind f) := by
  unfold pldm
  exact Keeps.ite h (Keeps.ite (reply_keeps h _ _ _) (hf _ h))

theorem execGetSensorReading_keeps (ep : Nat) (id : Nat) (t : Nat) :
    KeepsOut p s (execGetSensorReading ep id t s) := by
  have h : Keeps p s s := Keeps.start
  unfold execGetSensorReading
  try dsimp only
  repeat' (
    first
      | with_reducible exact h | with_reducible rfl | with_reducible exact KeepsOut.fault _
      | with_reducible apply KeepsOut.next | with_reducible apply reply_keeps
      | (with_reducible apply pldm_keeps; intro _ h) | (with_reducible apply foldl_keeps; intro _ _ h)
      | simp only [Keeps.upd_iff] | with_reducible apply KeepsOut.ite | with_reducible apply Keeps.ite | split)

theorem sendHeld_keeps (h : Keeps p s0 s) : Keeps p s0 (sendHeld s) := by
  unfold sendHeld
  try dsimp only
  repeat' (
    first
      | with_reducible exact h | with_reducible rfl | (with_reducible apply foldl_keeps; intro _ _ h)
      | simp only [Keeps.upd_iff] | with_reducible apply Keeps.ite | split | dsimp only)

theorem execSetEventReceiver_keeps (ep : Nat) (receiver : Option Nat) :
    KeepsOut p s (execSetEventReceiver ep receiver s) := by
  have h : Keeps p s s := Keeps.start
  unfold execSetEventReceiver
  try dsimp only
  repeat' (
    first
      | with_reducible exact h | with_reducible rfl | with_reducible exact KeepsOut.fault _
      | with_reducible apply KeepsOut.next | with_reducible apply sendHeld_keeps | with_reducible apply reply_keeps
      | (with_reducible apply pldm_keeps; intro _ h) | (with_reducible apply foldl_keeps; intro _ _ h)
      | simp only [Keeps.upd_iff] | with_reducible apply KeepsOut.ite | with_reducible apply Keeps.ite | split)

theorem execPollForPlatformEventMessage_keeps (ep : Nat) :
    KeepsOut p s (execPollForPlatformEventMessage ep s) := by
  have h : Keeps p s s := Keeps.start
  unfold execPollForPlatformEventMessage
  try dsimp only
  repeat' (
    first
      | with_reducible exact h | with_reducible rfl | with_reducible exact KeepsOut.fault _
      | with_reducible apply KeepsOut.next | with_reducible apply reply_keeps
      | (with_reducible apply pldm_keeps; intro _ h) | (with_reducible apply foldl_keeps; intro _ _ h)
      | simp only [Keeps.upd_iff] | with_reducible apply KeepsOut.ite | with_reducible apply Keeps.ite | split)

theorem setUpdate_keeps (h : Keeps p s0 s) (st : Nat) (code : Nat) : Keeps p s0 (setUpdate s st code) := by
  unfold setUpdate
  try dsimp only
  repeat' (
    first
      | with_reducible exact h | with_reducible rfl | with_reducible apply wr_keeps
      | (with_reducible apply foldl_keeps; intro _ _ h) | with_reducible apply Keeps.ite | split | dsimp only)

theorem endUpdate_keeps (h : Keeps p s0 s) : Keeps p s0 (endUpdate s) := by
  unfold endUpdate
  try dsimp only
  repeat' (
    first
      | with_reducible exact h | with_reducible rfl | with_reducible apply setHost_keeps
      | (with_reducible apply foldl_keeps; intro _ _ h) | with_reducible apply Keeps.ite | split | dsimp only)

theorem updateRefused_keeps (h : Keeps p s0 s) (kind : String) (t : Nat) : Keeps p s0 (updateRefused s kind t) := by
  unfold updateRefused
  try dsimp only
  repeat' (
    first
      | with_reducible exact h | with_reducible rfl | with_reducible apply raise_keeps
      | with_reducible apply reply_keeps | with_reducible apply endUpdate_keeps
      | with_reducible apply setUpdate_keeps | (with_reducible apply foldl_keeps; intro _ _ h)
      | with_reducible apply Keeps.ite | split | dsimp only)

theorem execRequestUpdate_keeps (hp : BlindToFlash p) (ep : Nat) (len : Nat) (t : Nat) :
    KeepsOut p s (execRequestUpdate ep len t s) := by
  have h : Keeps p s s := Keeps.start
  unfold execRequestUpdate
  try dsimp only
  repeat' (
    first
      | with_reducible exact h | with_reducible rfl | with_reducible exact KeepsOut.fault _
      | with_reducible apply KeepsOut.next | with_reducible apply wr_keeps
      | with_reducible apply rewriteDirectory_keeps hp | with_reducible apply setHost_keeps
      | with_reducible apply reply_keeps | (with_reducible apply pldm_keeps; intro _ h)
      | with_reducible apply updateRefused_keeps | (with_reducible apply foldl_keeps; intro _ _ h)
      | simp only [Keeps.upd_iff] | with_reducible apply KeepsOut.ite | with_reducible apply Keeps.ite | split)

theorem execFirmwareDataRx_keeps (hpFlash : BlindToFlash p) (data : List Byte) (t : Nat) : KeepsOut p s
    (execFirmwareDataRx data t s) := by
  have h : Keeps p s s := Keeps.start
  unfold execFirmwareDataRx
  try dsimp only
  repeat' (
    first
      | with_reducible exact h | with_reducible rfl | with_reducible exact KeepsOut.fault _
      | with_reducible apply KeepsOut.next | with_reducible apply updateRefused_keeps
      | with_reducible apply flashWrite_keeps hpFlash | with_reducible apply setHost_keeps
      | with_reducible apply setUpdate_keeps | (with_reducible apply foldl_keeps; intro _ _ h)
      | with_reducible apply Keeps.ite | with_reducible apply KeepsOut.ite | split | dsimp only)

theorem execVerifyComplete_keeps (pub : List Byte) (t : Nat) : KeepsOut p s (execVerifyComplete pub t s) := by
  have h : Keeps p s s := Keeps.start
  unfold execVerifyComplete
  try dsimp only
  repeat' (
    first
      | with_reducible exact h | with_reducible rfl | with_reducible exact KeepsOut.fault _
      | with_reducible apply KeepsOut.next | with_reducible apply reply_keeps | with_reducible apply setUpdate_keeps
      | with_reducible apply raise_keeps | with_reducible apply endUpdate_keeps
      | (with_reducible apply foldl_keeps; intro _ _ h) | with_reducible apply Keeps.ite
      | with_reducible apply KeepsOut.ite | split | dsimp only)

theorem execActivateFirmware_keeps (hp : BlindToFlash p) (ep : Nat) (t : Nat) :
    KeepsOut p s (execActivateFirmware ep t s) := by
  have h : Keeps p s s := Keeps.start
  unfold execActivateFirmware
  try dsimp only
  repeat' (
    first
      | with_reducible exact h | with_reducible rfl | with_reducible exact KeepsOut.fault _
      | with_reducible apply KeepsOut.next | with_reducible apply raise_keeps
      | with_reducible apply rewriteDirectory_keeps hp | with_reducible apply reply_keeps
      | (with_reducible apply pldm_keeps; intro _ h) | with_reducible apply setUpdate_keeps
      | with_reducible apply endUpdate_keeps | with_reducible apply updateRefused_keeps
      | (with_reducible apply foldl_keeps; intro _ _ h) | simp only [Keeps.upd_iff]
      | with_reducible apply KeepsOut.ite | with_reducible apply Keeps.ite | split)

theorem execSpdmGetMeasurements_keeps (ep : Nat) (index : Nat) : KeepsOut p s (execSpdmGetMeasurements ep index s) :=
    by
  have h : Keeps p s s := Keeps.start
  unfold execSpdmGetMeasurements
  try dsimp only
  repeat' (
    first
      | with_reducible exact h | with_reducible rfl | with_reducible exact KeepsOut.fault _
      | with_reducible apply KeepsOut.next | with_reducible apply reply_keeps | with_reducible apply drawn_keeps
      | (with_reducible apply foldl_keeps; intro _ _ h) | with_reducible apply Keeps.ite
      | with_reducible apply KeepsOut.ite | split | dsimp only)

theorem execSpdmKeyExchange_keeps (ep : Nat) : KeepsOut p s (execSpdmKeyExchange ep s) := by
  have h : Keeps p s s := Keeps.start
  unfold execSpdmKeyExchange
  try dsimp only
  repeat' (
    first
      | with_reducible exact h | with_reducible rfl | with_reducible exact KeepsOut.fault _
      | with_reducible apply KeepsOut.next | with_reducible apply reply_keeps | with_reducible apply setHost_keeps
      | with_reducible apply drawn_keeps | (with_reducible apply foldl_keeps; intro _ _ h)
      | with_reducible apply Keeps.ite | with_reducible apply KeepsOut.ite | split | dsimp only)

theorem execSpdmChallenge_keeps (ep : Nat) (certSlot : Nat) : KeepsOut p s (execSpdmChallenge ep certSlot s) := by
  have h : Keeps p s s := Keeps.start
  unfold execSpdmChallenge
  try dsimp only
  repeat' (
    first
      | with_reducible exact h | with_reducible rfl | with_reducible exact KeepsOut.fault _
      | with_reducible apply KeepsOut.next | with_reducible apply reply_keeps | with_reducible apply drawn_keeps
      | (with_reducible apply foldl_keeps; intro _ _ h) | with_reducible apply Keeps.ite
      | with_reducible apply KeepsOut.ite | split | dsimp only)

theorem execSpdmGetCertificate_keeps (ep : Nat) (certSlot : Nat) : KeepsOut p s (execSpdmGetCertificate ep certSlot s)
    := by
  have h : Keeps p s s := Keeps.start
  unfold execSpdmGetCertificate
  try dsimp only
  repeat' (
    first
      | with_reducible exact h | with_reducible rfl | with_reducible exact KeepsOut.fault _
      | with_reducible apply KeepsOut.next | with_reducible apply reply_keeps
      | (with_reducible apply foldl_keeps; intro _ _ h) | with_reducible apply Keeps.ite
      | with_reducible apply KeepsOut.ite | split | dsimp only)

theorem execLogRead_keeps (v : Word) : KeepsOut p s (execLogRead v s) := by
  have h : Keeps p s s := Keeps.start
  unfold execLogRead
  try dsimp only
  repeat' (
    first
      | with_reducible exact h | with_reducible rfl | with_reducible exact KeepsOut.fault _
      | with_reducible apply KeepsOut.next | with_reducible apply wr_keeps | with_reducible apply setHost_keeps
      | (with_reducible apply foldl_keeps; intro _ _ h) | with_reducible apply Keeps.ite
      | with_reducible apply KeepsOut.ite | split | dsimp only)

theorem execLogReadComplete_keeps : KeepsOut p s (execLogReadComplete s) := by
  have h : Keeps p s s := Keeps.start
  unfold execLogReadComplete
  try dsimp only
  repeat' (
    first
      | with_reducible exact h | with_reducible rfl | with_reducible exact KeepsOut.fault _
      | with_reducible apply KeepsOut.next | with_reducible apply wr_keeps | with_reducible apply setHost_keeps
      | (with_reducible apply foldl_keeps; intro _ _ h) | with_reducible apply Keeps.ite
      | with_reducible apply KeepsOut.ite | split | dsimp only)

end Sys2Proof.Machine
end

