-- ==== Sys2Proof/Laws/KeepsViews.lean ====
section
/-! SUPPORT. Every operation of Machine/Views.lean keeps the anchor (Laws/Keeps.lean). -/

namespace Sys2Proof.Machine

variable {α : Type} {p : Anchor → α} {s0 s : State}

theorem execPairLoRead_keeps (off : Nat) (wide : Bool) (src : Requester) (t : Nat) : KeepsOut p s (execPairLoRead off
    wide src t s) := by
  have h : Keeps p s s := Keeps.start
  unfold execPairLoRead
  try dsimp only
  repeat' (
    first
      | with_reducible exact h | with_reducible rfl | with_reducible exact KeepsOut.fault _
      | with_reducible apply KeepsOut.next | with_reducible apply emit_keeps | with_reducible apply badAccess_keeps
      | (with_reducible apply foldl_keeps; intro _ _ h) | simp only [Keeps.upd_iff] | with_reducible apply Keeps.ite
      | with_reducible apply KeepsOut.ite | split | dsimp only)

end Sys2Proof.Machine
end

