-- ==== Sys2Proof/Laws/KeepsRegisterWrite.lean ====
section
/-! SUPPORT. Every operation of Machine/RegisterWrite.lean keeps the anchor (Laws/Keeps.lean). -/

namespace Sys2Proof.Machine

variable {α : Type} {p : Anchor → α} {s0 s : State}

/-- An optional outcome that, where there is one, keeps the anchor. -/
def KeepsOpt (p : Anchor → α) (s0 : State) (x : Option (Host.Outcome State Fault Refusal)) : Prop :=
  match x with
  | some o => KeepsOut p s0 o
  | none => True

theorem KeepsOpt.none : KeepsOpt p s0 none := trivial

theorem KeepsOpt.some {o : Host.Outcome State Fault Refusal} (h : KeepsOut p s0 o) : KeepsOpt p s0 (some o) := h

theorem KeepsOpt.ite {c : Prop} [Decidable c] {o o' : Option (Host.Outcome State Fault Refusal)} (h : KeepsOpt p s0 o)
    (h' : KeepsOpt p s0 o') : KeepsOpt p s0 (if c then o else o') := by
  split
  · exact h
  · exact h'

theorem KeepsOut.after {o : Host.Outcome State Fault Refusal} (h : Keeps p s0 s) (k : KeepsOut p s o) : KeepsOut p s0 o := by
  cases o with
  | next s' => exact h.trans k
  | fault _ => trivial
  | refused _ => trivial

theorem onBit_keeps (v : Word) (i : Nat) {f : State → Host.Outcome State Fault Refusal} (hf : KeepsOut p s (f s)) :
    KeepsOut p s (onBit v i f s) := by
  unfold onBit
  exact KeepsOut.ite hf (KeepsOut.next Keeps.start)

theorem andThen_keeps {o : Host.Outcome State Fault Refusal} {f : State → Host.Outcome State Fault Refusal}
    (ho : KeepsOut p s0 o) (hf : ∀ s, KeepsOut p s (f s)) : KeepsOut p s0 (andThen o f) := by
  cases o with
  | next s' => exact KeepsOut.after ho (hf s')
  | fault _ => trivial
  | refused _ => trivial

theorem plainWrite_keeps (h : Keeps p s0 s) (off : Nat) (mask : Nat) (v : Word) :
    Keeps p s0 (plainWrite s off mask v) := by
  unfold plainWrite
  try dsimp only
  repeat' (
    first
      | with_reducible exact h | with_reducible rfl | with_reducible apply wr_keeps
      | (with_reducible apply foldl_keeps; intro _ _ h) | simp only [Keeps.upd_iff] | with_reducible apply Keeps.ite
      | split)

theorem clearBits_keeps (h : Keeps p s0 s) (off : Nat) (mask : Nat) (v : Word) :
    Keeps p s0 (clearBits s off mask v) := by
  unfold clearBits
  try dsimp only
  repeat' (
    first
      | with_reducible exact h | with_reducible rfl | with_reducible apply wr_keeps
      | (with_reducible apply foldl_keeps; intro _ _ h) | simp only [Keeps.upd_iff] | with_reducible apply Keeps.ite
      | split)

theorem clearAlerts_keeps (h : Keeps p s0 s) (v : Word) : Keeps p s0 (clearAlerts s v) := by
  unfold clearAlerts
  try dsimp only
  repeat' (
    first
      | with_reducible exact h | with_reducible rfl | with_reducible apply clearBits_keeps
      | with_reducible apply dropAlarms_keeps | with_reducible apply emit_keeps
      | (with_reducible apply foldl_keeps; intro _ _ h) | with_reducible apply Keeps.ite | split | dsimp only)

theorem writeTick_keeps (off : Nat) (v : Word) (t : Nat) :
    KeepsOpt p s (writeTick off v t s) := by
  have h : Keeps p s s := Keeps.start
  unfold writeTick
  try dsimp only
  repeat' (
    first
      | with_reducible exact h | with_reducible rfl | with_reducible exact KeepsOut.fault _
      | with_reducible apply KeepsOut.next | with_reducible apply setSched_keeps
      | with_reducible apply execOverlayCommit_keeps | with_reducible apply execTickCountClr_keeps
      | with_reducible apply onBit_keeps | (with_reducible apply foldl_keeps; intro _ _ h) | simp only [Keeps.upd_iff]
      | with_reducible exact KeepsOpt.none | with_reducible apply KeepsOpt.some
      | with_reducible apply KeepsOpt.ite | with_reducible apply KeepsOut.ite | with_reducible apply Keeps.ite | split)

theorem writeGuard_keeps (off : Nat) (v : Word) (t : Nat) :
    KeepsOpt p s (writeGuard off v t s) := by
  have h : Keeps p s s := Keeps.start
  unfold writeGuard
  try dsimp only
  repeat' (
    first
      | with_reducible exact h | with_reducible rfl | with_reducible exact KeepsOut.fault _
      | with_reducible apply KeepsOut.next | (with_reducible apply andThen_keeps; rotate_left; intro _)
      | with_reducible apply execWatchdogKick_keeps | with_reducible apply execSupRelease_keeps
      | with_reducible apply execFencePartActiveWrite_keeps | with_reducible apply execEgressCapWrite_keeps
      | with_reducible apply execSupReady_keeps | with_reducible apply execSupCountClr_keeps
      | with_reducible apply execFenceCountClr_keeps | with_reducible apply execFenceVlogClr_keeps
      | with_reducible apply execPartCountClr_keeps | with_reducible apply execPartLogClr_keeps
      | with_reducible apply onBit_keeps | (with_reducible apply foldl_keeps; intro _ _ h) | simp only [Keeps.upd_iff]
      | with_reducible exact KeepsOpt.none | with_reducible apply KeepsOpt.some
      | with_reducible apply KeepsOpt.ite | with_reducible apply KeepsOut.ite | with_reducible apply Keeps.ite | split)

theorem writeQueueCfg_keeps (h : Keeps p s0 s) (q : Nat) (off : Nat) (mask : Nat) (v : Word) :
    Keeps p s0 (writeQueueCfg q off mask v s) := by
  unfold writeQueueCfg
  try dsimp only
  repeat' (
    first
      | with_reducible exact h | with_reducible rfl | with_reducible apply setQueue_keeps
      | with_reducible apply plainWrite_keeps | (with_reducible apply foldl_keeps; intro _ _ h)
      | simp only [Keeps.upd_iff] | with_reducible apply Keeps.ite | split)

theorem writeWq_keeps (off : Nat) (mask : Nat) (v : Word) (t : Nat) :
    KeepsOpt p s (writeWq off mask v t s) := by
  have h : Keeps p s s := Keeps.start
  unfold writeWq
  try dsimp only
  repeat' (
    first
      | with_reducible exact h | with_reducible rfl | with_reducible exact KeepsOut.fault _
      | with_reducible apply KeepsOut.next | (with_reducible apply andThen_keeps; rotate_left; intro _)
      | with_reducible apply execQueueEnable_keeps | with_reducible apply execQueueShutdown_keeps
      | with_reducible apply execQueueReset_keeps | with_reducible apply execQueueInvalidate_keeps
      | with_reducible apply execDoorbellSqTail_keeps | with_reducible apply execDoorbellCqHead_keeps
      | with_reducible apply execWqCountClr_keeps | with_reducible apply onBit_keeps
      | with_reducible apply writeQueueCfg_keeps | (with_reducible apply foldl_keeps; intro _ _ h)
      | simp only [Keeps.upd_iff] | with_reducible exact KeepsOpt.none | with_reducible apply KeepsOpt.some
      | with_reducible apply KeepsOpt.ite | with_reducible apply KeepsOut.ite | with_reducible apply Keeps.ite | split)

theorem writeSync_keeps (off : Nat) (v : Word) (src : Requester) (t : Nat) :
    KeepsOpt p s (writeSync off v src t s) := by
  have h : Keeps p s s := Keeps.start
  unfold writeSync
  try dsimp only
  repeat' (
    first
      | with_reducible exact h | with_reducible rfl | with_reducible exact KeepsOut.fault _
      | with_reducible apply KeepsOut.next | (with_reducible apply andThen_keeps; rotate_left; intro _)
      | with_reducible apply execManualSet_keeps | with_reducible apply execManualClear_keeps
      | with_reducible apply execSyncCountClr_keeps | with_reducible apply execSyncFaultLogClr_keeps
      | with_reducible apply execSyncAuditWrapClr_keeps | with_reducible apply onBit_keeps
      | (with_reducible apply foldl_keeps; intro _ _ h) | simp only [Keeps.upd_iff]
      | with_reducible exact KeepsOpt.none | with_reducible apply KeepsOpt.some
      | with_reducible apply KeepsOpt.ite | with_reducible apply KeepsOut.ite | with_reducible apply Keeps.ite | split)

theorem writeHub_keeps (h_ : Nat) (off : Nat) (v : Word) :
    KeepsOpt p s (writeHub h_ off v s) := by
  have h : Keeps p s s := Keeps.start
  unfold writeHub
  try dsimp only
  repeat' (
    first
      | with_reducible exact h | with_reducible rfl | with_reducible exact KeepsOut.fault _
      | with_reducible apply KeepsOut.next | with_reducible apply execHubCollCountClr_keeps
      | with_reducible apply execHubCollLogClr_keeps | with_reducible apply execHubCountClr_keeps
      | with_reducible apply execSpkCountClr_keeps | with_reducible apply execSpkLogClr_keeps
      | with_reducible apply onBit_keeps | (with_reducible apply foldl_keeps; intro _ _ h) | simp only [Keeps.upd_iff]
      | with_reducible exact KeepsOpt.none | with_reducible apply KeepsOpt.some
      | with_reducible apply KeepsOpt.ite | with_reducible apply KeepsOut.ite | with_reducible apply Keeps.ite | split)

theorem writeLinks_keeps (off : Nat) (v : Word) :
    KeepsOpt p s (writeLinks off v s) := by
  have h : Keeps p s s := Keeps.start
  unfold writeLinks
  try dsimp only
  repeat' (
    first
      | with_reducible exact h | with_reducible rfl | with_reducible exact KeepsOut.fault _
      | with_reducible apply KeepsOut.next | with_reducible apply execPortRetry_keeps
      | with_reducible apply execLnkCountClr_keeps | with_reducible apply execLnkLogClr_keeps
      | with_reducible apply execFabCountClr_keeps | with_reducible apply onBit_keeps
      | (with_reducible apply foldl_keeps; intro _ _ h) | simp only [Keeps.upd_iff]
      | with_reducible exact KeepsOpt.none | with_reducible apply KeepsOpt.some
      | with_reducible apply KeepsOpt.ite | with_reducible apply KeepsOut.ite | with_reducible apply Keeps.ite | split)

theorem writeTly_keeps (off : Nat) (v : Word) (src : Requester) (t : Nat) :
    KeepsOpt p s (writeTly off v src t s) := by
  have h : Keeps p s s := Keeps.start
  unfold writeTly
  try dsimp only
  repeat' (
    first
      | with_reducible exact h | with_reducible rfl | with_reducible exact KeepsOut.fault _
      | with_reducible apply KeepsOut.next | with_reducible apply execTlyStreamWrite_keeps
      | with_reducible apply execTlyFwdHeadWrite_keeps | with_reducible apply execTlyCountClr_keeps
      | with_reducible apply onBit_keeps | (with_reducible apply foldl_keeps; intro _ _ h) | simp only [Keeps.upd_iff]
      | with_reducible exact KeepsOpt.none | with_reducible apply KeepsOpt.some
      | with_reducible apply KeepsOpt.ite | with_reducible apply KeepsOut.ite | with_reducible apply Keeps.ite | split)

theorem writeLdg_keeps (off : Nat) (v : Word) (t : Nat) :
    KeepsOpt p s (writeLdg off v t s) := by
  have h : Keeps p s s := Keeps.start
  unfold writeLdg
  try dsimp only
  repeat' (
    first
      | with_reducible exact h | with_reducible rfl | with_reducible exact KeepsOut.fault _
      | with_reducible apply KeepsOut.next | with_reducible apply execLdgAdmit_keeps
      | with_reducible apply execOutputRingEnable_keeps | with_reducible apply execLdgOutHeadWrite_keeps
      | with_reducible apply execLdgOrderAdmit_keeps | with_reducible apply execLdgCountClr_keeps
      | with_reducible apply onBit_keeps | (with_reducible apply foldl_keeps; intro _ _ h) | simp only [Keeps.upd_iff]
      | with_reducible exact KeepsOpt.none | with_reducible apply KeepsOpt.some
      | with_reducible apply KeepsOpt.ite | with_reducible apply KeepsOut.ite | with_reducible apply Keeps.ite | split)

theorem writeMsk_keeps (off : Nat) (v : Word) (t : Nat) :
    KeepsOpt p s (writeMsk off v t s) := by
  have h : Keeps p s s := Keeps.start
  unfold writeMsk
  try dsimp only
  repeat' (
    first
      | with_reducible exact h | with_reducible rfl | with_reducible exact KeepsOut.fault _
      | with_reducible apply KeepsOut.next | with_reducible apply execAutoLoad_keeps
      | with_reducible apply execAutoUnload_keeps | with_reducible apply execAdapterRegister_keeps
      | with_reducible apply execMskCountClr_keeps | with_reducible apply onBit_keeps
      | (with_reducible apply foldl_keeps; intro _ _ h) | simp only [Keeps.upd_iff]
      | with_reducible exact KeepsOpt.none | with_reducible apply KeepsOpt.some
      | with_reducible apply KeepsOpt.ite | with_reducible apply KeepsOut.ite | with_reducible apply Keeps.ite | split)

theorem writeTimer_keeps (h : Keeps p s0 s) (k : Nat) (off : Nat) (v : Word) (src : Requester) (t : Nat) :
    Keeps p s0 (writeTimer k off v src t s) := by
  unfold writeTimer
  try dsimp only
  repeat' (
    first
      | with_reducible exact h | with_reducible rfl | with_reducible apply wr_keeps
      | with_reducible apply badAccess_keeps | with_reducible apply setBkg_keeps
      | (with_reducible apply foldl_keeps; intro _ _ h) | simp only [Keeps.upd_iff] | with_reducible apply Keeps.ite
      | split)

theorem writeBkg_keeps (off : Nat) (v : Word) (src : Requester) (t : Nat) :
    KeepsOpt p s (writeBkg off v src t s) := by
  have h : Keeps p s s := Keeps.start
  unfold writeBkg
  try dsimp only
  repeat' (
    first
      | with_reducible exact h | with_reducible rfl | with_reducible exact KeepsOut.fault _
      | with_reducible apply KeepsOut.next | with_reducible apply execBkgCountClr_keeps
      | with_reducible apply execBkgLogClr_keeps | with_reducible apply onBit_keeps
      | with_reducible apply writeTimer_keeps | (with_reducible apply foldl_keeps; intro _ _ h)
      | simp only [Keeps.upd_iff] | with_reducible exact KeepsOpt.none | with_reducible apply KeepsOpt.some
      | with_reducible apply KeepsOpt.ite | with_reducible apply KeepsOut.ite | with_reducible apply Keeps.ite | split)

theorem writeHst_keeps (hpLocks : BlindToLocks p) (hpFuses : BlindToFuses p) (hpFlash : BlindToFlash p) (off : Nat)
    (v : Word) (src : Requester) (t : Nat) : KeepsOpt p s (writeHst off v src t s) := by
  have h : Keeps p s s := Keeps.start
  unfold writeHst
  refine KeepsOpt.ite (KeepsOpt.some (onBit_keeps _ _ execHstCountClr_keeps)) ?_
  refine KeepsOpt.ite (KeepsOpt.some (KeepsOut.next (clearAlerts_keeps h _))) ?_
  refine KeepsOpt.ite (KeepsOpt.some (execLogRead_keeps _)) ?_
  refine KeepsOpt.ite (KeepsOpt.some (andThen_keeps (onBit_keeps _ _ (execConfigLock_keeps hpLocks _))
    (fun s => onBit_keeps _ _ (execConfirm_keeps hpFuses hpFlash)))) ?_
  refine KeepsOpt.ite (KeepsOpt.some (execPwrLimitWrite_keeps _ _ _)) ?_
  exact KeepsOpt.ite (KeepsOpt.some (onBit_keeps _ _ execPwrCountClr_keeps)) KeepsOpt.none

theorem ownWrite_keeps (hpLocks : BlindToLocks p) (hpFuses : BlindToFuses p) (hpFlash : BlindToFlash p) (off : Nat) (mask : Nat) (v : Word) (src : Requester) (t : Nat) :
    KeepsOpt p s (ownWrite off mask v src t s) := by
  have h : Keeps p s s := Keeps.start
  unfold ownWrite
  try dsimp only
  repeat' (
    first
      | with_reducible exact h | with_reducible rfl | with_reducible exact KeepsOut.fault _
      | with_reducible apply KeepsOut.next | with_reducible apply execLabelSubmit_keeps
      | with_reducible apply execSnap_keeps | with_reducible apply execTbuCountClr_keeps
      | with_reducible apply onBit_keeps | with_reducible apply writeTick_keeps
      | with_reducible apply writeGuard_keeps | with_reducible apply writeWq_keeps
      | with_reducible apply writeSync_keeps | with_reducible apply writeHub_keeps
      | with_reducible apply writeLinks_keeps | with_reducible apply writeTly_keeps
      | with_reducible apply writeLdg_keeps | with_reducible apply writeMsk_keeps
      | with_reducible apply writeBkg_keeps | with_reducible apply writeHst_keeps hpLocks hpFuses hpFlash
      | (with_reducible apply foldl_keeps; intro _ _ h) | simp only [Keeps.upd_iff]
      | with_reducible exact KeepsOpt.none | with_reducible apply KeepsOpt.some
      | with_reducible apply KeepsOpt.ite | with_reducible apply KeepsOut.ite | with_reducible apply Keeps.ite | split)

theorem takeWrite_keeps (hpLocks : BlindToLocks p) (hpFuses : BlindToFuses p) (hpFlash : BlindToFlash p) (off : Nat)
    (r : RegRow) (v : Word) (src : Requester) (t : Nat) : KeepsOut p s (takeWrite off r v src t s) := by
  have h : Keeps p s s := Keeps.start
  have h1 := ownWrite_keeps (s := s) hpLocks hpFuses hpFlash off (regMask s off r) v src t
  unfold takeWrite
  dsimp only
  split
  · rename_i o e
    rw [e] at h1
    exact h1
  · split
    · exact h
    · exact h
    · exact clearBits_keeps h _ _ _
    · exact plainWrite_keeps h _ _ _
    · exact plainWrite_keeps h _ _ _
    · exact plainWrite_keeps h _ _ _

theorem writeBar_keeps (hpLocks : BlindToLocks p) (hpFuses : BlindToFuses p) (hpFlash : BlindToFlash p) (off : Nat) (v : Word) (src : Requester) (t : Nat) :
    KeepsOut p s (writeBar off v src t s) := by
  have h : Keeps p s s := Keeps.start
  unfold writeBar
  try dsimp only
  repeat' (
    first
      | with_reducible exact h | with_reducible rfl | with_reducible exact KeepsOut.fault _
      | with_reducible apply KeepsOut.next | with_reducible apply fenceRefuse_keeps
      | with_reducible apply badAccess_keeps | with_reducible apply takeWrite_keeps hpLocks hpFuses hpFlash
      | (with_reducible apply foldl_keeps; intro _ _ h) | simp only [Keeps.upd_iff]
      | with_reducible apply KeepsOut.ite | with_reducible apply Keeps.ite | split)

theorem writeMsix_keeps (h : Keeps p s0 s) (fn : Nat) (off : Nat) (v : Word) : Keeps p s0 (writeMsix fn off v s) := by
  unfold writeMsix
  try dsimp only
  repeat' (
    first
      | with_reducible exact h | with_reducible rfl | with_reducible apply emit_keeps
      | (with_reducible apply foldl_keeps; intro _ _ h) | simp only [Keeps.upd_iff] | with_reducible apply Keeps.ite
      | split | dsimp only)

theorem execRegisterWrite_keeps (hpLocks : BlindToLocks p) (hpFuses : BlindToFuses p) (hpFlash : BlindToFlash p) (space : RegSpace) (off : Nat) (v : Word) (hi : Option Word) (src : Requester) (t : Nat) :
    KeepsOut p s (execRegisterWrite space off v hi src t s) := by
  have h : Keeps p s s := Keeps.start
  unfold execRegisterWrite
  try dsimp only
  repeat' (
    first
      | with_reducible exact h | with_reducible rfl | with_reducible exact KeepsOut.fault _
      | with_reducible apply KeepsOut.next | (with_reducible apply andThen_keeps; rotate_left; intro _)
      | with_reducible apply badAccess_keeps | with_reducible apply writeBar_keeps hpLocks hpFuses hpFlash
      | with_reducible apply writeMsix_keeps | (with_reducible apply foldl_keeps; intro _ _ h)
      | simp only [Keeps.upd_iff] | with_reducible apply KeepsOut.ite | with_reducible apply Keeps.ite | split)

end Sys2Proof.Machine
end

