-- ==== Sys2Proof/Laws/Places.lean ====
section
/-! SUPPORT. A register outside the rows of a mask: a test on numbers that says so. -/

namespace Sys2Proof.Machine

/-- The first register of a row, and the distance of its registers (0 for one register), by the index of its place. -/
def rowTable0 : List (Nat × Nat) := [
  (0x100000, 0), (0x100004, 0), (0x100008, 0), (0x100010, 0), (0x100014, 0), (0x100018, 0), (0x10001c, 0),
  (0x100020, 0), (0x100024, 4), (0x100034, 0), (0x100038, 0), (0x100040, 0), (0x100044, 0), (0x100048, 0),
  (0x10004c, 0), (0x100050, 0), (0x100054, 0), (0x100058, 0), (0x10005c, 0), (0x100060, 0), (0x100064, 0),
  (0x110000, 0), (0x110004, 0), (0x110008, 0), (0x110010, 0), (0x110014, 0), (0x110018, 0), (0x11001c, 0),
  (0x110020, 0), (0x110024, 0), (0x110028, 0), (0x110030, 0), (0x110034, 0), (0x110038, 0), (0x11003c, 0),
  (0x110040, 0), (0x110044, 0), (0x110048, 0), (0x110050, 0), (0x110054, 0), (0x110058, 0), (0x11005c, 0),
  (0x110060, 0), (0x110070, 0), (0x110074, 0), (0x110078, 0)]

def rowTable1 : List (Nat × Nat) := [
  (0x11007c, 0), (0x118000, 4), (0x120000, 0), (0x120004, 0), (0x120008, 0), (0x12000c, 0), (0x120010, 0),
  (0x120014, 0), (0x120020, 0), (0x120024, 0), (0x120028, 0), (0x12002c, 0), (0x120030, 0), (0x130000, 0),
  (0x130004, 0), (0x130008, 0), (0x13000c, 0), (0x130010, 0), (0x130014, 0), (0x130018, 0), (0x13001c, 0),
  (0x130040, 4), (0x130060, 4), (0x130080, 8), (0x130084, 8), (0x1300c0, 0), (0x1300c4, 0), (0x1300c8, 0),
  (0x1300cc, 0), (0x1300d0, 0), (0x1300d4, 0), (0x1300e0, 0), (0x140000, 4), (0x140020, 0), (0x140024, 0),
  (0x140028, 0), (0x140030, 0), (0x140034, 0), (0x140038, 0), (0x140040, 4), (0x140080, 4), (0x1400c0, 0),
  (0x1400c4, 0), (0x1400c8, 0), (0x1400cc, 0), (0x1400e0, 0)]

def rowTable2 : List (Nat × Nat) := [
  (0x200000, 0), (0x200004, 0), (0x200010, 0), (0x200014, 0), (0x200018, 0), (0x20001c, 0), (0x200020, 0),
  (0x200024, 0), (0x200028, 0), (0x20002c, 0), (0x200030, 0), (0x201000, 64), (0x201004, 64), (0x201008, 64),
  (0x20100c, 64), (0x201010, 64), (0x201014, 64), (0x201018, 64), (0x20101c, 64), (0x201020, 64), (0x201024, 64),
  (0x201028, 64), (0x20102c, 64), (0x201030, 64), (0x204000, 4), (0x280000, 4096), (0x280004, 4096),
  (0x280008, 4096), (0x300000, 4), (0x300200, 0), (0x300204, 0), (0x300208, 0), (0x30020c, 0), (0x300210, 0),
  (0x300220, 0), (0x300224, 0), (0x300228, 0), (0x30022c, 0), (0x300230, 0), (0x300240, 0), (0x300400, 4),
  (0x400e00, 0), (0x400e04, 0), (0x400e08, 0), (0x400e0c, 0), (0x400e10, 0)]

def rowTable3 : List (Nat × Nat) := [
  (0x400e20, 0), (0x400e24, 0), (0x400e28, 0), (0x400e2c, 0), (0x400e30, 0), (0x400e40, 0), (0x600000, 0),
  (0x600004, 0), (0x600008, 0), (0x60000c, 0), (0x600010, 0), (0x600014, 0), (0x600018, 0), (0x60001c, 0),
  (0x600020, 0), (0x600030, 0), (0x600034, 0), (0x600038, 0), (0x60003c, 0), (0x600040, 0), (0x600100, 64),
  (0x600104, 64), (0x600108, 64), (0x60010c, 64), (0x600110, 64), (0x600114, 64), (0x600118, 64), (0x60011c, 64),
  (0x700000, 0), (0x700004, 0), (0x700008, 0), (0x700010, 4), (0x700020, 0), (0x700024, 0), (0x700028, 0),
  (0x70002c, 0), (0x700030, 0), (0x700034, 0), (0x700038, 0), (0x70003c, 0), (0x700040, 0), (0x800000, 0),
  (0x800004, 0), (0x800008, 4), (0x800010, 0), (0x800014, 0)]

def rowTable4 : List (Nat × Nat) := [
  (0x800040, 16), (0x800044, 16), (0x800048, 16), (0x8000c0, 32), (0x8000c4, 32), (0x8000c8, 32), (0x8000cc, 32),
  (0x8000d0, 32), (0x800100, 0), (0x800104, 0), (0x800108, 0), (0x80010c, 0), (0x800110, 0), (0x800114, 0),
  (0x800118, 0), (0x80011c, 0), (0x800120, 0), (0x800124, 0), (0x800128, 0), (0x80012c, 0), (0x800130, 0),
  (0x800134, 0), (0x800138, 0), (0x80013c, 0), (0x800140, 0), (0x800144, 0), (0x800148, 0), (0x80014c, 0),
  (0x800160, 0), (0x810000, 16), (0x810004, 16), (0x810008, 16), (0x81000c, 16), (0x900000, 0), (0x900004, 0),
  (0x900008, 0), (0x90000c, 0), (0x900010, 0), (0x900020, 0), (0x900024, 0), (0x900028, 0), (0x90002c, 0),
  (0x900030, 0), (0x900034, 0), (0x900038, 0), (0x90003c, 0)]

def rowTable5 : List (Nat × Nat) := [
  (0x900040, 0), (0x900050, 0), (0x900054, 0), (0x900100, 32), (0x900104, 32), (0x900108, 32), (0x90010c, 32),
  (0x900110, 32), (0x900114, 32), (0x900118, 32), (0x90011c, 32), (0x910000, 4), (0x980000, 0), (0x980004, 0),
  (0x980008, 0), (0x980010, 0), (0x980014, 0), (0x980018, 0), (0x98001c, 0), (0x980020, 0), (0x980024, 0),
  (0x980028, 0), (0x98002c, 0), (0x980030, 0), (0x980100, 16), (0x980104, 16), (0x980108, 16), (0x98010c, 16),
  (0x980800, 32), (0x980804, 32), (0x980808, 32), (0x98080c, 32), (0x980810, 32), (0x980814, 32), (0x980818, 32),
  (0x98081c, 32), (0x981000, 16), (0x981004, 16), (0x981008, 16), (0x98100c, 16), (0x984000, 4), (0xa00000, 0),
  (0xa00004, 0), (0xa00008, 0), (0xa00010, 0), (0xa00014, 0)]

def rowTable6 : List (Nat × Nat) := [
  (0xa00018, 0), (0xa0001c, 0), (0xa00020, 0), (0xa00024, 0), (0xa00028, 0), (0xa0002c, 0), (0xa00030, 0),
  (0xa00034, 0), (0xa00038, 0), (0xa0003c, 0), (0xa00040, 0), (0xa00044, 0), (0xa00048, 0), (0xa0004c, 0),
  (0xa00060, 0), (0xa00064, 0), (0xa00068, 0), (0xa0006c, 0), (0xa00070, 0), (0xa00080, 0), (0xa00084, 0),
  (0xa00088, 0), (0xa000f0, 0), (0xa00200, 16), (0xa00204, 16), (0xa00208, 16), (0xb00000, 0), (0xb00004, 0),
  (0xb00008, 0), (0xb0000c, 0), (0xb00010, 0), (0xb00014, 0), (0xb00018, 0), (0xb0001c, 0), (0xb00020, 0),
  (0xb00030, 0), (0xb00040, 0), (0xb00044, 0), (0xb00100, 0), (0xb00104, 0), (0xb00108, 0), (0xb0010c, 0),
  (0xb00110, 0), (0xb00114, 0), (0xb00118, 0), (0xb0011c, 0)]

def rowTable7 : List (Nat × Nat) := [
  (0xb00120, 0), (0xb00124, 0), (0xb00130, 4), (0xb00400, 4), (0xc00000, 0), (0xc00004, 0), (0xc00008, 0),
  (0xc0000c, 0), (0xc00010, 0), (0xc00014, 0), (0xc00018, 0), (0xc0001c, 0), (0xc00020, 4), (0xc00030, 4),
  (0xc00040, 4), (0xc00080, 0), (0xc00084, 0), (0xc00088, 0), (0xc000a0, 0), (0x400000, 1048576),
  (0x400004, 1048576), (0x400008, 1048576), (0x40000c, 1048576), (0x400010, 1048576), (0x400014, 1048576),
  (0x400020, 1048576), (0x400100, 16), (0x400104, 16), (0x400108, 16), (0x40010c, 16), (0x408000, 64),
  (0x408004, 64), (0x408008, 64), (0x40800c, 64), (0x408010, 64), (0x408400, 1048576), (0x408404, 1048576),
  (0x408408, 1048576), (0x40840c, 1048576), (0x408410, 1048576), (0x408414, 1048576), (0x408418, 1048576),
  (0x40841c, 1048576), (0x408420, 4), (0x408440, 1048576), (0x410000, 4)]

def rowTable : List (Nat × Nat) := rowTable0 ++ rowTable1 ++ rowTable2 ++ rowTable3 ++ rowTable4 ++ rowTable5 ++ rowTable6 ++ rowTable7

/-- The place with index `i` may cover the register at `a`. -/
def mayCover (i a : Nat) : Bool :=
  if i = 416 then true
  else if i < 48 then false
  else match rowTable[i - 48]? with
    | some (b, st) => decide (b ≤ a) && (if st = 0 then decide (a = b) else decide ((a - b) % st = 0))
    | none => false

theorem mayCover_row {i a b st : Nat} (hi : i ≠ 416) (ho : ¬ i < 48) (h : rowTable[i - 48]? = some (b, st))
    (hb : b ≤ a) (hs : if st = 0 then a = b else (a - b) % st = 0) : mayCover i a = true := by
  unfold mayCover
  rw [if_neg hi, if_neg ho, h]
  simp only [hb, decide_true, Bool.true_and]
  split at hs
  · simp [*]
  · simp [*]

theorem mayCover_of {q : Place} {a : Nat} (h : q.covers a) : mayCover q.ctorIdx a = true := by
  cases q
  case build => exact h.elim
  case straps => exact h.elim
  case boot => exact h.elim
  case fuses => exact h.elim
  case clock => exact h.elim
  case tbu => exact h.elim
  case latches => exact h.elim
  case sched => exact h.elim
  case queues => exact h.elim
  case tags => exact h.elim
  case nextSlot => exact h.elim
  case readWait => exact h.elim
  case sup => exact h.elim
  case fence => exact h.elim
  case heldWrites => exact h.elim
  case heldPackets => exact h.elim
  case part => exact h.elim
  case sync => exact h.elim
  case ports => exact h.elim
  case bridge => exact h.elim
  case fab => exact h.elim
  case faults => exact h.elim
  case hubs => exact h.elim
  case tally => exact h.elim
  case ledger => exact h.elim
  case bkg => exact h.elim
  case host => exact h.elim
  case power => exact h.elim
  case logBuf => exact h.elim
  case logSeq => exact h.elim
  case pldmQ => exact h.elim
  case pldmReceiver => exact h.elim
  case msixUnmasked => exact h.elim
  case msixPending => exact h.elim
  case msixTable => exact h.elim
  case out => exact h.elim
  case free => exact h.elim
  case pending => exact h.elim
  case moduleMemory => exact h.elim
  case hostMemory => exact h.elim
  case coreSram => exact h.elim
  case hubSram => exact h.elim
  case flashMemory => exact h.elim
  case supData => exact h.elim
  case supCode => exact h.elim
  case poisonMem => exact h.elim
  case poisonCsram => exact h.elim
  case poisonHsram => exact h.elim
  case TBU_CFG => exact mayCover_row (b := 0x100000) (st := 0) (by decide) (by decide) rfl (Nat.le_of_eq h.symm) h
  case TBU_LIMITS => exact mayCover_row (b := 0x100004) (st := 0) (by decide) (by decide) rfl (Nat.le_of_eq h.symm) h
  case TBU_COMP => exact mayCover_row (b := 0x100008) (st := 0) (by decide) (by decide) rfl (Nat.le_of_eq h.symm) h
  case TBU_QUALITY => exact mayCover_row (b := 0x100010) (st := 0) (by decide) (by decide) rfl (Nat.le_of_eq h.symm) h
  case TBU_BOUND_NS => exact mayCover_row (b := 0x100014) (st := 0) (by decide) (by decide) rfl (Nat.le_of_eq h.symm) h
  case TBU_OFFSET_NS => exact mayCover_row (b := 0x100018) (st := 0) (by decide) (by decide) rfl (Nat.le_of_eq h.symm) h
  case TBU_FREQ_CORR => exact mayCover_row (b := 0x10001c) (st := 0) (by decide) (by decide) rfl (Nat.le_of_eq h.symm) h
  case TBU_SNAP_CTRL => exact mayCover_row (b := 0x100020) (st := 0) (by decide) (by decide) rfl (Nat.le_of_eq h.symm) h
  case TBU_SNAP =>
    obtain ⟨i, h⟩ := h
    unfold Reg.TBU_SNAP at h
    exact mayCover_row (b := 0x100024) (st := 4) (by decide) (by decide) rfl (by omega) (by rw [if_neg (by decide)]; omega)
  case TBU_FW_ELAPSED => exact mayCover_row (b := 0x100034) (st := 0) (by decide) (by decide) rfl (Nat.le_of_eq h.symm) h
  case TBU_UTC_OFFSET => exact mayCover_row (b := 0x100038) (st := 0) (by decide) (by decide) rfl (Nat.le_of_eq h.symm) h
  case TBU_LABEL_LO => exact mayCover_row (b := 0x100040) (st := 0) (by decide) (by decide) rfl (Nat.le_of_eq h.symm) h
  case TBU_LABEL_HI => exact mayCover_row (b := 0x100044) (st := 0) (by decide) (by decide) rfl (Nat.le_of_eq h.symm) h
  case TBU_SEED_LO => exact mayCover_row (b := 0x100048) (st := 0) (by decide) (by decide) rfl (Nat.le_of_eq h.symm) h
  case TBU_SEED_HI => exact mayCover_row (b := 0x10004c) (st := 0) (by decide) (by decide) rfl (Nat.le_of_eq h.symm) h
  case TBU_LAST_STEP_LO => exact mayCover_row (b := 0x100050) (st := 0) (by decide) (by decide) rfl (Nat.le_of_eq h.symm) h
  case TBU_LAST_STEP_HI => exact mayCover_row (b := 0x100054) (st := 0) (by decide) (by decide) rfl (Nat.le_of_eq h.symm) h
  case TBU_EVENT => exact mayCover_row (b := 0x100058) (st := 0) (by decide) (by decide) rfl (Nat.le_of_eq h.symm) h
  case TBU_BOUND_EXCEED_COUNT => exact mayCover_row (b := 0x10005c) (st := 0) (by decide) (by decide) rfl (Nat.le_of_eq h.symm) h
  case TBU_LABEL_IGNORED_COUNT => exact mayCover_row (b := 0x100060) (st := 0) (by decide) (by decide) rfl (Nat.le_of_eq h.symm) h
  case TBU_CTRL => exact mayCover_row (b := 0x100064) (st := 0) (by decide) (by decide) rfl (Nat.le_of_eq h.symm) h
  case TICK_CFG => exact mayCover_row (b := 0x110000) (st := 0) (by decide) (by decide) rfl (Nat.le_of_eq h.symm) h
  case TICK_EPOCHCFG => exact mayCover_row (b := 0x110004) (st := 0) (by decide) (by decide) rfl (Nat.le_of_eq h.symm) h
  case TICK_STATUS => exact mayCover_row (b := 0x110008) (st := 0) (by decide) (by decide) rfl (Nat.le_of_eq h.symm) h
  case TICK_SEQ_LO => exact mayCover_row (b := 0x110010) (st := 0) (by decide) (by decide) rfl (Nat.le_of_eq h.symm) h
  case TICK_SEQ_HI => exact mayCover_row (b := 0x110014) (st := 0) (by decide) (by decide) rfl (Nat.le_of_eq h.symm) h
  case TICK_INDEX_LO => exact mayCover_row (b := 0x110018) (st := 0) (by decide) (by decide) rfl (Nat.le_of_eq h.symm) h
  case TICK_INDEX_HI => exact mayCover_row (b := 0x11001c) (st := 0) (by decide) (by decide) rfl (Nat.le_of_eq h.symm) h
  case TICK_EPOCH_LO => exact mayCover_row (b := 0x110020) (st := 0) (by decide) (by decide) rfl (Nat.le_of_eq h.symm) h
  case TICK_EPOCH_HI => exact mayCover_row (b := 0x110024) (st := 0) (by decide) (by decide) rfl (Nat.le_of_eq h.symm) h
  case TICK_STRETCH_NS => exact mayCover_row (b := 0x110028) (st := 0) (by decide) (by decide) rfl (Nat.le_of_eq h.symm) h
  case TICK_LATE_COUNT => exact mayCover_row (b := 0x110030) (st := 0) (by decide) (by decide) rfl (Nat.le_of_eq h.symm) h
  case TICK_OVERRUN_COUNT => exact mayCover_row (b := 0x110034) (st := 0) (by decide) (by decide) rfl (Nat.le_of_eq h.symm) h
  case TICK_SKIP_COUNT => exact mayCover_row (b := 0x110038) (st := 0) (by decide) (by decide) rfl (Nat.le_of_eq h.symm) h
  case TICK_SCHED_LATE_COUNT => exact mayCover_row (b := 0x11003c) (st := 0) (by decide) (by decide) rfl (Nat.le_of_eq h.symm) h
  case TICK_SCHED_REJECT_COUNT => exact mayCover_row (b := 0x110040) (st := 0) (by decide) (by decide) rfl (Nat.le_of_eq h.symm) h
  case TICK_CTRL => exact mayCover_row (b := 0x110044) (st := 0) (by decide) (by decide) rfl (Nat.le_of_eq h.symm) h
  case TICK_EVENT => exact mayCover_row (b := 0x110048) (st := 0) (by decide) (by decide) rfl (Nat.le_of_eq h.symm) h
  case TICK_OVL_CTRL => exact mayCover_row (b := 0x110050) (st := 0) (by decide) (by decide) rfl (Nat.le_of_eq h.symm) h
  case TICK_OVL_COUNT => exact mayCover_row (b := 0x110054) (st := 0) (by decide) (by decide) rfl (Nat.le_of_eq h.symm) h
  case TICK_OVL_TARGET_LO => exact mayCover_row (b := 0x110058) (st := 0) (by decide) (by decide) rfl (Nat.le_of_eq h.symm) h
  case TICK_OVL_TARGET_HI => exact mayCover_row (b := 0x11005c) (st := 0) (by decide) (by decide) rfl (Nat.le_of_eq h.symm) h
  case TICK_OVL_STATUS => exact mayCover_row (b := 0x110060) (st := 0) (by decide) (by decide) rfl (Nat.le_of_eq h.symm) h
  case TICK_EPOCH_REC_0 => exact mayCover_row (b := 0x110070) (st := 0) (by decide) (by decide) rfl (Nat.le_of_eq h.symm) h
  case TICK_EPOCH_REC_1 => exact mayCover_row (b := 0x110074) (st := 0) (by decide) (by decide) rfl (Nat.le_of_eq h.symm) h
  case TICK_EPOCH_REC_2 => exact mayCover_row (b := 0x110078) (st := 0) (by decide) (by decide) rfl (Nat.le_of_eq h.symm) h
  case TICK_EPOCH_REC_3 => exact mayCover_row (b := 0x11007c) (st := 0) (by decide) (by decide) rfl (Nat.le_of_eq h.symm) h
  case TICK_OVL_WINDOW =>
    obtain ⟨i, h⟩ := h
    unfold Reg.TICK_OVL_WINDOW at h
    exact mayCover_row (b := 0x118000) (st := 4) (by decide) (by decide) rfl (by omega) (by rw [if_neg (by decide)]; omega)
  case SUP_STATUS => exact mayCover_row (b := 0x120000) (st := 0) (by decide) (by decide) rfl (Nat.le_of_eq h.symm) h
  case SUP_WDOG_CFG => exact mayCover_row (b := 0x120004) (st := 0) (by decide) (by decide) rfl (Nat.le_of_eq h.symm) h
  case SUP_WDOG_KICK => exact mayCover_row (b := 0x120008) (st := 0) (by decide) (by decide) rfl (Nat.le_of_eq h.symm) h
  case SUP_RESET_CAUSE => exact mayCover_row (b := 0x12000c) (st := 0) (by decide) (by decide) rfl (Nat.le_of_eq h.symm) h
  case SUP_CHECK_STATUS => exact mayCover_row (b := 0x120010) (st := 0) (by decide) (by decide) rfl (Nat.le_of_eq h.symm) h
  case SUP_FW_VERSION => exact mayCover_row (b := 0x120014) (st := 0) (by decide) (by decide) rfl (Nat.le_of_eq h.symm) h
  case SUP_RESET_COUNT => exact mayCover_row (b := 0x120020) (st := 0) (by decide) (by decide) rfl (Nat.le_of_eq h.symm) h
  case SUP_MISMATCH_COUNT => exact mayCover_row (b := 0x120024) (st := 0) (by decide) (by decide) rfl (Nat.le_of_eq h.symm) h
  case SUP_KICK_BAD_COUNT => exact mayCover_row (b := 0x120028) (st := 0) (by decide) (by decide) rfl (Nat.le_of_eq h.symm) h
  case SUP_OVERLAY_HELD_COUNT => exact mayCover_row (b := 0x12002c) (st := 0) (by decide) (by decide) rfl (Nat.le_of_eq h.symm) h
  case SUP_CTRL => exact mayCover_row (b := 0x120030) (st := 0) (by decide) (by decide) rfl (Nat.le_of_eq h.symm) h
  case FENCE_STATUS => exact mayCover_row (b := 0x130000) (st := 0) (by decide) (by decide) rfl (Nat.le_of_eq h.symm) h
  case FENCE_EVENT => exact mayCover_row (b := 0x130004) (st := 0) (by decide) (by decide) rfl (Nat.le_of_eq h.symm) h
  case FENCE_VLOG_0 => exact mayCover_row (b := 0x130008) (st := 0) (by decide) (by decide) rfl (Nat.le_of_eq h.symm) h
  case FENCE_VLOG_1 => exact mayCover_row (b := 0x13000c) (st := 0) (by decide) (by decide) rfl (Nat.le_of_eq h.symm) h
  case FENCE_VLOG_CLR => exact mayCover_row (b := 0x130010) (st := 0) (by decide) (by decide) rfl (Nat.le_of_eq h.symm) h
  case FENCE_PART_ACTIVE => exact mayCover_row (b := 0x130014) (st := 0) (by decide) (by decide) rfl (Nat.le_of_eq h.symm) h
  case FENCE_EGRESS_FLOOR => exact mayCover_row (b := 0x130018) (st := 0) (by decide) (by decide) rfl (Nat.le_of_eq h.symm) h
  case FENCE_PART_INIT => exact mayCover_row (b := 0x13001c) (st := 0) (by decide) (by decide) rfl (Nat.le_of_eq h.symm) h
  case FENCE_EGRESS_CEIL =>
    obtain ⟨i, h⟩ := h
    unfold Reg.FENCE_EGRESS_CEIL at h
    exact mayCover_row (b := 0x130040) (st := 4) (by decide) (by decide) rfl (by omega) (by rw [if_neg (by decide)]; omega)
  case FENCE_EGRESS_CAP =>
    obtain ⟨i, h⟩ := h
    unfold Reg.FENCE_EGRESS_CAP at h
    exact mayCover_row (b := 0x130060) (st := 4) (by decide) (by decide) rfl (by omega) (by rw [if_neg (by decide)]; omega)
  case FENCE_EGRESS_USED_AETHIL =>
    obtain ⟨i, h⟩ := h
    unfold Reg.FENCE_EGRESS_USED_AETHIL at h
    exact mayCover_row (b := 0x130080) (st := 8) (by decide) (by decide) rfl (by omega) (by rw [if_neg (by decide)]; omega)
  case FENCE_EGRESS_USED_PCIE =>
    obtain ⟨i, h⟩ := h
    unfold Reg.FENCE_EGRESS_USED_PCIE at h
    exact mayCover_row (b := 0x130084) (st := 8) (by decide) (by decide) rfl (by omega) (by rw [if_neg (by decide)]; omega)
  case FENCE_COUNT_PART => exact mayCover_row (b := 0x1300c0) (st := 0) (by decide) (by decide) rfl (Nat.le_of_eq h.symm) h
  case FENCE_COUNT_TIME => exact mayCover_row (b := 0x1300c4) (st := 0) (by decide) (by decide) rfl (Nat.le_of_eq h.symm) h
  case FENCE_COUNT_UCODE => exact mayCover_row (b := 0x1300c8) (st := 0) (by decide) (by decide) rfl (Nat.le_of_eq h.symm) h
  case FENCE_COUNT_WINDOW => exact mayCover_row (b := 0x1300cc) (st := 0) (by decide) (by decide) rfl (Nat.le_of_eq h.symm) h
  case FENCE_COUNT_LOCK => exact mayCover_row (b := 0x1300d0) (st := 0) (by decide) (by decide) rfl (Nat.le_of_eq h.symm) h
  case FENCE_COUNT_EGRESS => exact mayCover_row (b := 0x1300d4) (st := 0) (by decide) (by decide) rfl (Nat.le_of_eq h.symm) h
  case FENCE_CTRL => exact mayCover_row (b := 0x1300e0) (st := 0) (by decide) (by decide) rfl (Nat.le_of_eq h.symm) h
  case PART_KEY =>
    obtain ⟨i, h⟩ := h
    unfold Reg.PART_KEY at h
    exact mayCover_row (b := 0x140000) (st := 4) (by decide) (by decide) rfl (by omega) (by rw [if_neg (by decide)]; omega)
  case PART_CFG => exact mayCover_row (b := 0x140020) (st := 0) (by decide) (by decide) rfl (Nat.le_of_eq h.symm) h
  case PART_STATUS => exact mayCover_row (b := 0x140024) (st := 0) (by decide) (by decide) rfl (Nat.le_of_eq h.symm) h
  case PART_EVENT => exact mayCover_row (b := 0x140028) (st := 0) (by decide) (by decide) rfl (Nat.le_of_eq h.symm) h
  case PART_REJECT_LOG_0 => exact mayCover_row (b := 0x140030) (st := 0) (by decide) (by decide) rfl (Nat.le_of_eq h.symm) h
  case PART_REJECT_LOG_1 => exact mayCover_row (b := 0x140034) (st := 0) (by decide) (by decide) rfl (Nat.le_of_eq h.symm) h
  case PART_LOG_CLR => exact mayCover_row (b := 0x140038) (st := 0) (by decide) (by decide) rfl (Nat.le_of_eq h.symm) h
  case PART_PORT_ALLOW =>
    obtain ⟨i, h⟩ := h
    unfold Reg.PART_PORT_ALLOW at h
    exact mayCover_row (b := 0x140040) (st := 4) (by decide) (by decide) rfl (by omega) (by rw [if_neg (by decide)]; omega)
  case PART_REJECT_PORT_COUNT =>
    obtain ⟨i, h⟩ := h
    unfold Reg.PART_REJECT_PORT_COUNT at h
    exact mayCover_row (b := 0x140080) (st := 4) (by decide) (by decide) rfl (by omega) (by rw [if_neg (by decide)]; omega)
  case PART_REJECT_HUB_COUNT => exact mayCover_row (b := 0x1400c0) (st := 0) (by decide) (by decide) rfl (Nat.le_of_eq h.symm) h
  case PART_REJECT_SYNC_COUNT => exact mayCover_row (b := 0x1400c4) (st := 0) (by decide) (by decide) rfl (Nat.le_of_eq h.symm) h
  case PART_NOTICE_TX_COUNT => exact mayCover_row (b := 0x1400c8) (st := 0) (by decide) (by decide) rfl (Nat.le_of_eq h.symm) h
  case PART_NOTICE_RX_COUNT => exact mayCover_row (b := 0x1400cc) (st := 0) (by decide) (by decide) rfl (Nat.le_of_eq h.symm) h
  case PART_CTRL => exact mayCover_row (b := 0x1400e0) (st := 0) (by decide) (by decide) rfl (Nat.le_of_eq h.symm) h
  case WQ_STATUS => exact mayCover_row (b := 0x200000) (st := 0) (by decide) (by decide) rfl (Nat.le_of_eq h.symm) h
  case WQ_EVENT => exact mayCover_row (b := 0x200004) (st := 0) (by decide) (by decide) rfl (Nat.le_of_eq h.symm) h
  case WQ_LATE_CPL_COUNT => exact mayCover_row (b := 0x200010) (st := 0) (by decide) (by decide) rfl (Nat.le_of_eq h.symm) h
  case WQ_DESC_INVALID_COUNT => exact mayCover_row (b := 0x200014) (st := 0) (by decide) (by decide) rfl (Nat.le_of_eq h.symm) h
  case WQ_NOT_ADMITTED_COUNT => exact mayCover_row (b := 0x200018) (st := 0) (by decide) (by decide) rfl (Nat.le_of_eq h.symm) h
  case WQ_ABORTED_COUNT => exact mayCover_row (b := 0x20001c) (st := 0) (by decide) (by decide) rfl (Nat.le_of_eq h.symm) h
  case WQ_POISONED_COUNT => exact mayCover_row (b := 0x200020) (st := 0) (by decide) (by decide) rfl (Nat.le_of_eq h.symm) h
  case WQ_DB_REFUSED_COUNT => exact mayCover_row (b := 0x200024) (st := 0) (by decide) (by decide) rfl (Nat.le_of_eq h.symm) h
  case WQ_STANDING_UNREPORTED_COUNT => exact mayCover_row (b := 0x200028) (st := 0) (by decide) (by decide) rfl (Nat.le_of_eq h.symm) h
  case WQ_TAG_QUARANTINED => exact mayCover_row (b := 0x20002c) (st := 0) (by decide) (by decide) rfl (Nat.le_of_eq h.symm) h
  case WQ_CTRL => exact mayCover_row (b := 0x200030) (st := 0) (by decide) (by decide) rfl (Nat.le_of_eq h.symm) h
  case WQ_Q_SQ_BASE_LO =>
    obtain ⟨i, h⟩ := h
    unfold Reg.WQ_Q_SQ_BASE_LO at h
    exact mayCover_row (b := 0x201000) (st := 64) (by decide) (by decide) rfl (by omega) (by rw [if_neg (by decide)]; omega)
  case WQ_Q_SQ_BASE_HI =>
    obtain ⟨i, h⟩ := h
    unfold Reg.WQ_Q_SQ_BASE_HI at h
    exact mayCover_row (b := 0x201004) (st := 64) (by decide) (by decide) rfl (by omega) (by rw [if_neg (by decide)]; omega)
  case WQ_Q_CQ_BASE_LO =>
    obtain ⟨i, h⟩ := h
    unfold Reg.WQ_Q_CQ_BASE_LO at h
    exact mayCover_row (b := 0x201008) (st := 64) (by decide) (by decide) rfl (by omega) (by rw [if_neg (by decide)]; omega)
  case WQ_Q_CQ_BASE_HI =>
    obtain ⟨i, h⟩ := h
    unfold Reg.WQ_Q_CQ_BASE_HI at h
    exact mayCover_row (b := 0x20100c) (st := 64) (by decide) (by decide) rfl (by omega) (by rw [if_neg (by decide)]; omega)
  case WQ_Q_CFG =>
    obtain ⟨i, h⟩ := h
    unfold Reg.WQ_Q_CFG at h
    exact mayCover_row (b := 0x201010) (st := 64) (by decide) (by decide) rfl (by omega) (by rw [if_neg (by decide)]; omega)
  case WQ_Q_CTRL =>
    obtain ⟨i, h⟩ := h
    unfold Reg.WQ_Q_CTRL at h
    exact mayCover_row (b := 0x201014) (st := 64) (by decide) (by decide) rfl (by omega) (by rw [if_neg (by decide)]; omega)
  case WQ_Q_STATUS =>
    obtain ⟨i, h⟩ := h
    unfold Reg.WQ_Q_STATUS at h
    exact mayCover_row (b := 0x201018) (st := 64) (by decide) (by decide) rfl (by omega) (by rw [if_neg (by decide)]; omega)
  case WQ_Q_INDEX =>
    obtain ⟨i, h⟩ := h
    unfold Reg.WQ_Q_INDEX at h
    exact mayCover_row (b := 0x20101c) (st := 64) (by decide) (by decide) rfl (by omega) (by rw [if_neg (by decide)]; omega)
  case WQ_Q_CQ_HEAD =>
    obtain ⟨i, h⟩ := h
    unfold Reg.WQ_Q_CQ_HEAD at h
    exact mayCover_row (b := 0x201020) (st := 64) (by decide) (by decide) rfl (by omega) (by rw [if_neg (by decide)]; omega)
  case WQ_Q_CACHE_IDX_0 =>
    obtain ⟨i, h⟩ := h
    unfold Reg.WQ_Q_CACHE_IDX_0 at h
    exact mayCover_row (b := 0x201024) (st := 64) (by decide) (by decide) rfl (by omega) (by rw [if_neg (by decide)]; omega)
  case WQ_Q_CACHE_IDX_1 =>
    obtain ⟨i, h⟩ := h
    unfold Reg.WQ_Q_CACHE_IDX_1 at h
    exact mayCover_row (b := 0x201028) (st := 64) (by decide) (by decide) rfl (by omega) (by rw [if_neg (by decide)]; omega)
  case WQ_Q_CACHE_IDX_2 =>
    obtain ⟨i, h⟩ := h
    unfold Reg.WQ_Q_CACHE_IDX_2 at h
    exact mayCover_row (b := 0x20102c) (st := 64) (by decide) (by decide) rfl (by omega) (by rw [if_neg (by decide)]; omega)
  case WQ_Q_CACHE_IDX_3 =>
    obtain ⟨i, h⟩ := h
    unfold Reg.WQ_Q_CACHE_IDX_3 at h
    exact mayCover_row (b := 0x201030) (st := 64) (by decide) (by decide) rfl (by omega) (by rw [if_neg (by decide)]; omega)
  case WQ_CACHE =>
    obtain ⟨i, h⟩ := h
    unfold Reg.WQ_CACHE at h
    exact mayCover_row (b := 0x204000) (st := 4) (by decide) (by decide) rfl (by omega) (by rw [if_neg (by decide)]; omega)
  case WQ_DB_SQ_TAIL =>
    obtain ⟨i, h⟩ := h
    unfold Reg.WQ_DB_SQ_TAIL at h
    exact mayCover_row (b := 0x280000) (st := 4096) (by decide) (by decide) rfl (by omega) (by rw [if_neg (by decide)]; omega)
  case WQ_DB_CQ_HEAD =>
    obtain ⟨i, h⟩ := h
    unfold Reg.WQ_DB_CQ_HEAD at h
    exact mayCover_row (b := 0x280004) (st := 4096) (by decide) (by decide) rfl (by omega) (by rw [if_neg (by decide)]; omega)
  case WQ_DB_STATUS =>
    obtain ⟨i, h⟩ := h
    unfold Reg.WQ_DB_STATUS at h
    exact mayCover_row (b := 0x280008) (st := 4096) (by decide) (by decide) rfl (by omega) (by rw [if_neg (by decide)]; omega)
  case SYNC_STATE =>
    obtain ⟨i, h⟩ := h
    unfold Reg.SYNC_STATE at h
    exact mayCover_row (b := 0x300000) (st := 4) (by decide) (by decide) rfl (by omega) (by rw [if_neg (by decide)]; omega)
  case SYNC_DBG_OP => exact mayCover_row (b := 0x300200) (st := 0) (by decide) (by decide) rfl (Nat.le_of_eq h.symm) h
  case SYNC_STATUS => exact mayCover_row (b := 0x300204) (st := 0) (by decide) (by decide) rfl (Nat.le_of_eq h.symm) h
  case SYNC_EVENT => exact mayCover_row (b := 0x300208) (st := 0) (by decide) (by decide) rfl (Nat.le_of_eq h.symm) h
  case SYNC_FAULT_LOG => exact mayCover_row (b := 0x30020c) (st := 0) (by decide) (by decide) rfl (Nat.le_of_eq h.symm) h
  case SYNC_LOG_CLR => exact mayCover_row (b := 0x300210) (st := 0) (by decide) (by decide) rfl (Nat.le_of_eq h.symm) h
  case SYNC_OVERFLOW_COUNT => exact mayCover_row (b := 0x300220) (st := 0) (by decide) (by decide) rfl (Nat.le_of_eq h.symm) h
  case SYNC_UNDERFLOW_COUNT => exact mayCover_row (b := 0x300224) (st := 0) (by decide) (by decide) rfl (Nat.le_of_eq h.symm) h
  case SYNC_DBG_COUNT => exact mayCover_row (b := 0x300228) (st := 0) (by decide) (by decide) rfl (Nat.le_of_eq h.symm) h
  case SYNC_SPIN_CORE_US => exact mayCover_row (b := 0x30022c) (st := 0) (by decide) (by decide) rfl (Nat.le_of_eq h.symm) h
  case SYNC_SPIN_SPOKE_US => exact mayCover_row (b := 0x300230) (st := 0) (by decide) (by decide) rfl (Nat.le_of_eq h.symm) h
  case SYNC_CTRL => exact mayCover_row (b := 0x300240) (st := 0) (by decide) (by decide) rfl (Nat.le_of_eq h.symm) h
  case SYNC_AUDIT =>
    obtain ⟨i, h⟩ := h
    unfold Reg.SYNC_AUDIT at h
    exact mayCover_row (b := 0x300400) (st := 4) (by decide) (by decide) rfl (by omega) (by rw [if_neg (by decide)]; omega)
  case HUB_COLL_EVENT => exact mayCover_row (b := 0x400e00) (st := 0) (by decide) (by decide) rfl (Nat.le_of_eq h.symm) h
  case HUB_COLL_LOG_0 => exact mayCover_row (b := 0x400e04) (st := 0) (by decide) (by decide) rfl (Nat.le_of_eq h.symm) h
  case HUB_COLL_LOG_1 => exact mayCover_row (b := 0x400e08) (st := 0) (by decide) (by decide) rfl (Nat.le_of_eq h.symm) h
  case HUB_COLL_LOG_CLR => exact mayCover_row (b := 0x400e0c) (st := 0) (by decide) (by decide) rfl (Nat.le_of_eq h.symm) h
  case HUB_COLL_STATUS => exact mayCover_row (b := 0x400e10) (st := 0) (by decide) (by decide) rfl (Nat.le_of_eq h.symm) h
  case HUB_MEMBER_MISSING_COUNT => exact mayCover_row (b := 0x400e20) (st := 0) (by decide) (by decide) rfl (Nat.le_of_eq h.symm) h
  case HUB_SIG_MISMATCH_COUNT => exact mayCover_row (b := 0x400e24) (st := 0) (by decide) (by decide) rfl (Nat.le_of_eq h.symm) h
  case HUB_LATE_CONTRIB_COUNT => exact mayCover_row (b := 0x400e28) (st := 0) (by decide) (by decide) rfl (Nat.le_of_eq h.symm) h
  case HUB_WITHDRAW_TX_COUNT => exact mayCover_row (b := 0x400e2c) (st := 0) (by decide) (by decide) rfl (Nat.le_of_eq h.symm) h
  case HUB_WITHDRAW_RX_COUNT => exact mayCover_row (b := 0x400e30) (st := 0) (by decide) (by decide) rfl (Nat.le_of_eq h.symm) h
  case HUB_COLL_CTRL => exact mayCover_row (b := 0x400e40) (st := 0) (by decide) (by decide) rfl (Nat.le_of_eq h.symm) h
  case LNK_PORT_EN => exact mayCover_row (b := 0x600000) (st := 0) (by decide) (by decide) rfl (Nat.le_of_eq h.symm) h
  case LNK_EVENT => exact mayCover_row (b := 0x600004) (st := 0) (by decide) (by decide) rfl (Nat.le_of_eq h.symm) h
  case LNK_FAULT_LOG_0 => exact mayCover_row (b := 0x600008) (st := 0) (by decide) (by decide) rfl (Nat.le_of_eq h.symm) h
  case LNK_FAULT_LOG_1 => exact mayCover_row (b := 0x60000c) (st := 0) (by decide) (by decide) rfl (Nat.le_of_eq h.symm) h
  case LNK_LOG_CLR => exact mayCover_row (b := 0x600010) (st := 0) (by decide) (by decide) rfl (Nat.le_of_eq h.symm) h
  case LNK_CONSEQ_COUNT => exact mayCover_row (b := 0x600014) (st := 0) (by decide) (by decide) rfl (Nat.le_of_eq h.symm) h
  case LNK_FAULT_OP_COUNT => exact mayCover_row (b := 0x600018) (st := 0) (by decide) (by decide) rfl (Nat.le_of_eq h.symm) h
  case LNK_NOTICE_TX_COUNT => exact mayCover_row (b := 0x60001c) (st := 0) (by decide) (by decide) rfl (Nat.le_of_eq h.symm) h
  case LNK_NOTICE_RX_COUNT => exact mayCover_row (b := 0x600020) (st := 0) (by decide) (by decide) rfl (Nat.le_of_eq h.symm) h
  case LNK_BRIDGE_STATUS => exact mayCover_row (b := 0x600030) (st := 0) (by decide) (by decide) rfl (Nat.le_of_eq h.symm) h
  case LNK_DETOUR_CFG => exact mayCover_row (b := 0x600034) (st := 0) (by decide) (by decide) rfl (Nat.le_of_eq h.symm) h
  case LNK_BRIDGE_FAULT_COUNT => exact mayCover_row (b := 0x600038) (st := 0) (by decide) (by decide) rfl (Nat.le_of_eq h.symm) h
  case LNK_ISO_ITEM_COUNT => exact mayCover_row (b := 0x60003c) (st := 0) (by decide) (by decide) rfl (Nat.le_of_eq h.symm) h
  case LNK_CTRL => exact mayCover_row (b := 0x600040) (st := 0) (by decide) (by decide) rfl (Nat.le_of_eq h.symm) h
  case LNK_PORT_STATUS =>
    obtain ⟨i, h⟩ := h
    unfold Reg.LNK_PORT_STATUS at h
    exact mayCover_row (b := 0x600100) (st := 64) (by decide) (by decide) rfl (by omega) (by rw [if_neg (by decide)]; omega)
  case LNK_PORT_CTRL =>
    obtain ⟨i, h⟩ := h
    unfold Reg.LNK_PORT_CTRL at h
    exact mayCover_row (b := 0x600104) (st := 64) (by decide) (by decide) rfl (by omega) (by rw [if_neg (by decide)]; omega)
  case LNK_CRC_ERR_COUNT =>
    obtain ⟨i, h⟩ := h
    unfold Reg.LNK_CRC_ERR_COUNT at h
    exact mayCover_row (b := 0x600108) (st := 64) (by decide) (by decide) rfl (by omega) (by rw [if_neg (by decide)]; omega)
  case LNK_REPLAY_COUNT =>
    obtain ⟨i, h⟩ := h
    unfold Reg.LNK_REPLAY_COUNT at h
    exact mayCover_row (b := 0x60010c) (st := 64) (by decide) (by decide) rfl (by omega) (by rw [if_neg (by decide)]; omega)
  case LNK_EXHAUST_COUNT =>
    obtain ⟨i, h⟩ := h
    unfold Reg.LNK_EXHAUST_COUNT at h
    exact mayCover_row (b := 0x600110) (st := 64) (by decide) (by decide) rfl (by omega) (by rw [if_neg (by decide)]; omega)
  case LNK_FEC_CORR_COUNT =>
    obtain ⟨i, h⟩ := h
    unfold Reg.LNK_FEC_CORR_COUNT at h
    exact mayCover_row (b := 0x600114) (st := 64) (by decide) (by decide) rfl (by omega) (by rw [if_neg (by decide)]; omega)
  case LNK_FEC_UNCORR_COUNT =>
    obtain ⟨i, h⟩ := h
    unfold Reg.LNK_FEC_UNCORR_COUNT at h
    exact mayCover_row (b := 0x600118) (st := 64) (by decide) (by decide) rfl (by omega) (by rw [if_neg (by decide)]; omega)
  case LNK_TRAIN_FAIL_COUNT =>
    obtain ⟨i, h⟩ := h
    unfold Reg.LNK_TRAIN_FAIL_COUNT at h
    exact mayCover_row (b := 0x60011c) (st := 64) (by decide) (by decide) rfl (by omega) (by rw [if_neg (by decide)]; omega)
  case FAB_STATUS => exact mayCover_row (b := 0x700000) (st := 0) (by decide) (by decide) rfl (Nat.le_of_eq h.symm) h
  case FAB_NODE_UP => exact mayCover_row (b := 0x700004) (st := 0) (by decide) (by decide) rfl (Nat.le_of_eq h.symm) h
  case FAB_EVENT => exact mayCover_row (b := 0x700008) (st := 0) (by decide) (by decide) rfl (Nat.le_of_eq h.symm) h
  case FAB_ROB_PEAK =>
    obtain ⟨i, h⟩ := h
    unfold Reg.FAB_ROB_PEAK at h
    exact mayCover_row (b := 0x700010) (st := 4) (by decide) (by decide) rfl (by omega) (by rw [if_neg (by decide)]; omega)
  case FAB_TTL_DROP_COUNT => exact mayCover_row (b := 0x700020) (st := 0) (by decide) (by decide) rfl (Nat.le_of_eq h.symm) h
  case FAB_E2E_RESEND_COUNT => exact mayCover_row (b := 0x700024) (st := 0) (by decide) (by decide) rfl (Nat.le_of_eq h.symm) h
  case FAB_GAP_COUNT => exact mayCover_row (b := 0x700028) (st := 0) (by decide) (by decide) rfl (Nat.le_of_eq h.symm) h
  case FAB_ROB_DIRECT_COUNT => exact mayCover_row (b := 0x70002c) (st := 0) (by decide) (by decide) rfl (Nat.le_of_eq h.symm) h
  case FAB_FENCE_DROP_COUNT => exact mayCover_row (b := 0x700030) (st := 0) (by decide) (by decide) rfl (Nat.le_of_eq h.symm) h
  case FAB_TREE_SWITCH_COUNT => exact mayCover_row (b := 0x700034) (st := 0) (by decide) (by decide) rfl (Nat.le_of_eq h.symm) h
  case FAB_UNREACH_COUNT => exact mayCover_row (b := 0x700038) (st := 0) (by decide) (by decide) rfl (Nat.le_of_eq h.symm) h
  case FAB_NODE_DOWN_COUNT => exact mayCover_row (b := 0x70003c) (st := 0) (by decide) (by decide) rfl (Nat.le_of_eq h.symm) h
  case FAB_CTRL => exact mayCover_row (b := 0x700040) (st := 0) (by decide) (by decide) rfl (Nat.le_of_eq h.symm) h
  case TLY_CFG => exact mayCover_row (b := 0x800000) (st := 0) (by decide) (by decide) rfl (Nat.le_of_eq h.symm) h
  case TLY_UDP_PORTS => exact mayCover_row (b := 0x800004) (st := 0) (by decide) (by decide) rfl (Nat.le_of_eq h.symm) h
  case TLY_PORT_IP =>
    obtain ⟨i, h⟩ := h
    unfold Reg.TLY_PORT_IP at h
    exact mayCover_row (b := 0x800008) (st := 4) (by decide) (by decide) rfl (by omega) (by rw [if_neg (by decide)]; omega)
  case TLY_STATUS => exact mayCover_row (b := 0x800010) (st := 0) (by decide) (by decide) rfl (Nat.le_of_eq h.symm) h
  case TLY_EVENT => exact mayCover_row (b := 0x800014) (st := 0) (by decide) (by decide) rfl (Nat.le_of_eq h.symm) h
  case TLY_AREA_BASE_LO =>
    obtain ⟨i, h⟩ := h
    unfold Reg.TLY_AREA_BASE_LO at h
    exact mayCover_row (b := 0x800040) (st := 16) (by decide) (by decide) rfl (by omega) (by rw [if_neg (by decide)]; omega)
  case TLY_AREA_BASE_HI =>
    obtain ⟨i, h⟩ := h
    unfold Reg.TLY_AREA_BASE_HI at h
    exact mayCover_row (b := 0x800044) (st := 16) (by decide) (by decide) rfl (by omega) (by rw [if_neg (by decide)]; omega)
  case TLY_AREA_CFG =>
    obtain ⟨i, h⟩ := h
    unfold Reg.TLY_AREA_CFG at h
    exact mayCover_row (b := 0x800048) (st := 16) (by decide) (by decide) rfl (by omega) (by rw [if_neg (by decide)]; omega)
  case TLY_FWD_BASE_LO =>
    obtain ⟨i, h⟩ := h
    unfold Reg.TLY_FWD_BASE_LO at h
    exact mayCover_row (b := 0x8000c0) (st := 32) (by decide) (by decide) rfl (by omega) (by rw [if_neg (by decide)]; omega)
  case TLY_FWD_BASE_HI =>
    obtain ⟨i, h⟩ := h
    unfold Reg.TLY_FWD_BASE_HI at h
    exact mayCover_row (b := 0x8000c4) (st := 32) (by decide) (by decide) rfl (by omega) (by rw [if_neg (by decide)]; omega)
  case TLY_FWD_CFG =>
    obtain ⟨i, h⟩ := h
    unfold Reg.TLY_FWD_CFG at h
    exact mayCover_row (b := 0x8000c8) (st := 32) (by decide) (by decide) rfl (by omega) (by rw [if_neg (by decide)]; omega)
  case TLY_FWD_TAIL =>
    obtain ⟨i, h⟩ := h
    unfold Reg.TLY_FWD_TAIL at h
    exact mayCover_row (b := 0x8000cc) (st := 32) (by decide) (by decide) rfl (by omega) (by rw [if_neg (by decide)]; omega)
  case TLY_FWD_HEAD =>
    obtain ⟨i, h⟩ := h
    unfold Reg.TLY_FWD_HEAD at h
    exact mayCover_row (b := 0x8000d0) (st := 32) (by decide) (by decide) rfl (by omega) (by rw [if_neg (by decide)]; omega)
  case TLY_RX_0_COUNT => exact mayCover_row (b := 0x800100) (st := 0) (by decide) (by decide) rfl (Nat.le_of_eq h.symm) h
  case TLY_RX_1_COUNT => exact mayCover_row (b := 0x800104) (st := 0) (by decide) (by decide) rfl (Nat.le_of_eq h.symm) h
  case TLY_NOT_MEAS_COUNT => exact mayCover_row (b := 0x800108) (st := 0) (by decide) (by decide) rfl (Nat.le_of_eq h.symm) h
  case TLY_MALFORMED_COUNT => exact mayCover_row (b := 0x80010c) (st := 0) (by decide) (by decide) rfl (Nat.le_of_eq h.symm) h
  case TLY_CORRUPT_COUNT => exact mayCover_row (b := 0x800110) (st := 0) (by decide) (by decide) rfl (Nat.le_of_eq h.symm) h
  case TLY_CMD_DROP_COUNT => exact mayCover_row (b := 0x800114) (st := 0) (by decide) (by decide) rfl (Nat.le_of_eq h.symm) h
  case TLY_FWD_COUNT => exact mayCover_row (b := 0x800118) (st := 0) (by decide) (by decide) rfl (Nat.le_of_eq h.symm) h
  case TLY_FWD_DROP_COUNT => exact mayCover_row (b := 0x80011c) (st := 0) (by decide) (by decide) rfl (Nat.le_of_eq h.symm) h
  case TLY_UNKNOWN_COUNT => exact mayCover_row (b := 0x800120) (st := 0) (by decide) (by decide) rfl (Nat.le_of_eq h.symm) h
  case TLY_INACTIVE_COUNT => exact mayCover_row (b := 0x800124) (st := 0) (by decide) (by decide) rfl (Nat.le_of_eq h.symm) h
  case TLY_INTERLEAVED_COUNT => exact mayCover_row (b := 0x800128) (st := 0) (by decide) (by decide) rfl (Nat.le_of_eq h.symm) h
  case TLY_ORPHAN_COUNT => exact mayCover_row (b := 0x80012c) (st := 0) (by decide) (by decide) rfl (Nat.le_of_eq h.symm) h
  case TLY_TRUNCATED_COUNT => exact mayCover_row (b := 0x800130) (st := 0) (by decide) (by decide) rfl (Nat.le_of_eq h.symm) h
  case TLY_STALE_COUNT => exact mayCover_row (b := 0x800134) (st := 0) (by decide) (by decide) rfl (Nat.le_of_eq h.symm) h
  case TLY_EARLY_COUNT => exact mayCover_row (b := 0x800138) (st := 0) (by decide) (by decide) rfl (Nat.le_of_eq h.symm) h
  case TLY_REPEAT_COUNT => exact mayCover_row (b := 0x80013c) (st := 0) (by decide) (by decide) rfl (Nat.le_of_eq h.symm) h
  case TLY_OLD_COUNT => exact mayCover_row (b := 0x800140) (st := 0) (by decide) (by decide) rfl (Nat.le_of_eq h.symm) h
  case TLY_GAP_COUNT => exact mayCover_row (b := 0x800144) (st := 0) (by decide) (by decide) rfl (Nat.le_of_eq h.symm) h
  case TLY_MISSED_COUNT => exact mayCover_row (b := 0x800148) (st := 0) (by decide) (by decide) rfl (Nat.le_of_eq h.symm) h
  case TLY_DROPPED_COUNT => exact mayCover_row (b := 0x80014c) (st := 0) (by decide) (by decide) rfl (Nat.le_of_eq h.symm) h
  case TLY_CTRL => exact mayCover_row (b := 0x800160) (st := 0) (by decide) (by decide) rfl (Nat.le_of_eq h.symm) h
  case TLY_STREAM_W0 =>
    obtain ⟨i, h⟩ := h
    unfold Reg.TLY_STREAM_W0 at h
    exact mayCover_row (b := 0x810000) (st := 16) (by decide) (by decide) rfl (by omega) (by rw [if_neg (by decide)]; omega)
  case TLY_STREAM_W1 =>
    obtain ⟨i, h⟩ := h
    unfold Reg.TLY_STREAM_W1 at h
    exact mayCover_row (b := 0x810004) (st := 16) (by decide) (by decide) rfl (by omega) (by rw [if_neg (by decide)]; omega)
  case TLY_STREAM_W2 =>
    obtain ⟨i, h⟩ := h
    unfold Reg.TLY_STREAM_W2 at h
    exact mayCover_row (b := 0x810008) (st := 16) (by decide) (by decide) rfl (by omega) (by rw [if_neg (by decide)]; omega)
  case TLY_STREAM_W3 =>
    obtain ⟨i, h⟩ := h
    unfold Reg.TLY_STREAM_W3 at h
    exact mayCover_row (b := 0x81000c) (st := 16) (by decide) (by decide) rfl (by omega) (by rw [if_neg (by decide)]; omega)
  case LDG_STATUS => exact mayCover_row (b := 0x900000) (st := 0) (by decide) (by decide) rfl (Nat.le_of_eq h.symm) h
  case LDG_EVENT => exact mayCover_row (b := 0x900004) (st := 0) (by decide) (by decide) rfl (Nat.le_of_eq h.symm) h
  case LDG_ADMIT => exact mayCover_row (b := 0x900008) (st := 0) (by decide) (by decide) rfl (Nat.le_of_eq h.symm) h
  case LDG_ADMIT_RESULT => exact mayCover_row (b := 0x90000c) (st := 0) (by decide) (by decide) rfl (Nat.le_of_eq h.symm) h
  case LDG_REFUSE_LOG => exact mayCover_row (b := 0x900010) (st := 0) (by decide) (by decide) rfl (Nat.le_of_eq h.symm) h
  case LDG_ADMIT_COUNT => exact mayCover_row (b := 0x900020) (st := 0) (by decide) (by decide) rfl (Nat.le_of_eq h.symm) h
  case LDG_REFUSE_COUNT => exact mayCover_row (b := 0x900024) (st := 0) (by decide) (by decide) rfl (Nat.le_of_eq h.symm) h
  case LDG_CANCEL_COUNT => exact mayCover_row (b := 0x900028) (st := 0) (by decide) (by decide) rfl (Nat.le_of_eq h.symm) h
  case LDG_EXPIRE_COUNT => exact mayCover_row (b := 0x90002c) (st := 0) (by decide) (by decide) rfl (Nat.le_of_eq h.symm) h
  case LDG_OUT_DROP_COUNT => exact mayCover_row (b := 0x900030) (st := 0) (by decide) (by decide) rfl (Nat.le_of_eq h.symm) h
  case LDG_STEP_FAIL_COUNT => exact mayCover_row (b := 0x900034) (st := 0) (by decide) (by decide) rfl (Nat.le_of_eq h.symm) h
  case LDG_UPDATE_LATE_COUNT => exact mayCover_row (b := 0x900038) (st := 0) (by decide) (by decide) rfl (Nat.le_of_eq h.symm) h
  case LDG_STALL_TICKS_COUNT => exact mayCover_row (b := 0x90003c) (st := 0) (by decide) (by decide) rfl (Nat.le_of_eq h.symm) h
  case LDG_CTRL => exact mayCover_row (b := 0x900040) (st := 0) (by decide) (by decide) rfl (Nat.le_of_eq h.symm) h
  case LDG_ORDER_ADMIT => exact mayCover_row (b := 0x900050) (st := 0) (by decide) (by decide) rfl (Nat.le_of_eq h.symm) h
  case LDG_ORDER_RESULT => exact mayCover_row (b := 0x900054) (st := 0) (by decide) (by decide) rfl (Nat.le_of_eq h.symm) h
  case LDG_OUT_BASE_LO =>
    obtain ⟨i, h⟩ := h
    unfold Reg.LDG_OUT_BASE_LO at h
    exact mayCover_row (b := 0x900100) (st := 32) (by decide) (by decide) rfl (by omega) (by rw [if_neg (by decide)]; omega)
  case LDG_OUT_BASE_HI =>
    obtain ⟨i, h⟩ := h
    unfold Reg.LDG_OUT_BASE_HI at h
    exact mayCover_row (b := 0x900104) (st := 32) (by decide) (by decide) rfl (by omega) (by rw [if_neg (by decide)]; omega)
  case LDG_OUT_CFG =>
    obtain ⟨i, h⟩ := h
    unfold Reg.LDG_OUT_CFG at h
    exact mayCover_row (b := 0x900108) (st := 32) (by decide) (by decide) rfl (by omega) (by rw [if_neg (by decide)]; omega)
  case LDG_OUT_TAIL =>
    obtain ⟨i, h⟩ := h
    unfold Reg.LDG_OUT_TAIL at h
    exact mayCover_row (b := 0x90010c) (st := 32) (by decide) (by decide) rfl (by omega) (by rw [if_neg (by decide)]; omega)
  case LDG_OUT_HEAD =>
    obtain ⟨i, h⟩ := h
    unfold Reg.LDG_OUT_HEAD at h
    exact mayCover_row (b := 0x900110) (st := 32) (by decide) (by decide) rfl (by omega) (by rw [if_neg (by decide)]; omega)
  case LDG_KV_FREE =>
    obtain ⟨i, h⟩ := h
    unfold Reg.LDG_KV_FREE at h
    exact mayCover_row (b := 0x900114) (st := 32) (by decide) (by decide) rfl (by omega) (by rw [if_neg (by decide)]; omega)
  case LDG_SLOTS_LIVE =>
    obtain ⟨i, h⟩ := h
    unfold Reg.LDG_SLOTS_LIVE at h
    exact mayCover_row (b := 0x900118) (st := 32) (by decide) (by decide) rfl (by omega) (by rw [if_neg (by decide)]; omega)
  case LDG_OUT_SLOT_BYTES =>
    obtain ⟨i, h⟩ := h
    unfold Reg.LDG_OUT_SLOT_BYTES at h
    exact mayCover_row (b := 0x90011c) (st := 32) (by decide) (by decide) rfl (by omega) (by rw [if_neg (by decide)]; omega)
  case LDG_SLOT =>
    obtain ⟨i, h⟩ := h
    unfold Reg.LDG_SLOT at h
    exact mayCover_row (b := 0x910000) (st := 4) (by decide) (by decide) rfl (by omega) (by rw [if_neg (by decide)]; omega)
  case MSK_EVENT => exact mayCover_row (b := 0x980000) (st := 0) (by decide) (by decide) rfl (Nat.le_of_eq h.symm) h
  case MSK_AUTO_CTRL => exact mayCover_row (b := 0x980004) (st := 0) (by decide) (by decide) rfl (Nat.le_of_eq h.symm) h
  case MSK_AUTO_STATUS => exact mayCover_row (b := 0x980008) (st := 0) (by decide) (by decide) rfl (Nat.le_of_eq h.symm) h
  case MSK_HOST_LATE_COUNT => exact mayCover_row (b := 0x980010) (st := 0) (by decide) (by decide) rfl (Nat.le_of_eq h.symm) h
  case MSK_HOST_REFUSE_COUNT => exact mayCover_row (b := 0x980014) (st := 0) (by decide) (by decide) rfl (Nat.le_of_eq h.symm) h
  case MSK_MASK_END_COUNT => exact mayCover_row (b := 0x980018) (st := 0) (by decide) (by decide) rfl (Nat.le_of_eq h.symm) h
  case MSK_SPEC_ROUNDS_COUNT => exact mayCover_row (b := 0x98001c) (st := 0) (by decide) (by decide) rfl (Nat.le_of_eq h.symm) h
  case MSK_SPEC_ACCEPT_COUNT => exact mayCover_row (b := 0x980020) (st := 0) (by decide) (by decide) rfl (Nat.le_of_eq h.symm) h
  case MSK_ADAPTER_REFUSE_COUNT => exact mayCover_row (b := 0x980024) (st := 0) (by decide) (by decide) rfl (Nat.le_of_eq h.symm) h
  case MSK_SHIP_FAIL_COUNT => exact mayCover_row (b := 0x980028) (st := 0) (by decide) (by decide) rfl (Nat.le_of_eq h.symm) h
  case MSK_ORDER_REFUSE_COUNT => exact mayCover_row (b := 0x98002c) (st := 0) (by decide) (by decide) rfl (Nat.le_of_eq h.symm) h
  case MSK_CTRL => exact mayCover_row (b := 0x980030) (st := 0) (by decide) (by decide) rfl (Nat.le_of_eq h.symm) h
  case MSK_SAMPLE_BASE_LO =>
    obtain ⟨i, h⟩ := h
    unfold Reg.MSK_SAMPLE_BASE_LO at h
    exact mayCover_row (b := 0x980100) (st := 16) (by decide) (by decide) rfl (by omega) (by rw [if_neg (by decide)]; omega)
  case MSK_SAMPLE_BASE_HI =>
    obtain ⟨i, h⟩ := h
    unfold Reg.MSK_SAMPLE_BASE_HI at h
    exact mayCover_row (b := 0x980104) (st := 16) (by decide) (by decide) rfl (by omega) (by rw [if_neg (by decide)]; omega)
  case MSK_RETURN_BASE_LO =>
    obtain ⟨i, h⟩ := h
    unfold Reg.MSK_RETURN_BASE_LO at h
    exact mayCover_row (b := 0x980108) (st := 16) (by decide) (by decide) rfl (by omega) (by rw [if_neg (by decide)]; omega)
  case MSK_RETURN_BASE_HI =>
    obtain ⟨i, h⟩ := h
    unfold Reg.MSK_RETURN_BASE_HI at h
    exact mayCover_row (b := 0x98010c) (st := 16) (by decide) (by decide) rfl (by omega) (by rw [if_neg (by decide)]; omega)
  case MSK_AUTO_W0 =>
    obtain ⟨i, h⟩ := h
    unfold Reg.MSK_AUTO_W0 at h
    exact mayCover_row (b := 0x980800) (st := 32) (by decide) (by decide) rfl (by omega) (by rw [if_neg (by decide)]; omega)
  case MSK_AUTO_W1 =>
    obtain ⟨i, h⟩ := h
    unfold Reg.MSK_AUTO_W1 at h
    exact mayCover_row (b := 0x980804) (st := 32) (by decide) (by decide) rfl (by omega) (by rw [if_neg (by decide)]; omega)
  case MSK_AUTO_W2 =>
    obtain ⟨i, h⟩ := h
    unfold Reg.MSK_AUTO_W2 at h
    exact mayCover_row (b := 0x980808) (st := 32) (by decide) (by decide) rfl (by omega) (by rw [if_neg (by decide)]; omega)
  case MSK_AUTO_W3 =>
    obtain ⟨i, h⟩ := h
    unfold Reg.MSK_AUTO_W3 at h
    exact mayCover_row (b := 0x98080c) (st := 32) (by decide) (by decide) rfl (by omega) (by rw [if_neg (by decide)]; omega)
  case MSK_AUTO_W4 =>
    obtain ⟨i, h⟩ := h
    unfold Reg.MSK_AUTO_W4 at h
    exact mayCover_row (b := 0x980810) (st := 32) (by decide) (by decide) rfl (by omega) (by rw [if_neg (by decide)]; omega)
  case MSK_AUTO_W5 =>
    obtain ⟨i, h⟩ := h
    unfold Reg.MSK_AUTO_W5 at h
    exact mayCover_row (b := 0x980814) (st := 32) (by decide) (by decide) rfl (by omega) (by rw [if_neg (by decide)]; omega)
  case MSK_AUTO_W6 =>
    obtain ⟨i, h⟩ := h
    unfold Reg.MSK_AUTO_W6 at h
    exact mayCover_row (b := 0x980818) (st := 32) (by decide) (by decide) rfl (by omega) (by rw [if_neg (by decide)]; omega)
  case MSK_AUTO_W7 =>
    obtain ⟨i, h⟩ := h
    unfold Reg.MSK_AUTO_W7 at h
    exact mayCover_row (b := 0x98081c) (st := 32) (by decide) (by decide) rfl (by omega) (by rw [if_neg (by decide)]; omega)
  case MSK_ADAPTER_W0 =>
    obtain ⟨i, h⟩ := h
    unfold Reg.MSK_ADAPTER_W0 at h
    exact mayCover_row (b := 0x981000) (st := 16) (by decide) (by decide) rfl (by omega) (by rw [if_neg (by decide)]; omega)
  case MSK_ADAPTER_W1 =>
    obtain ⟨i, h⟩ := h
    unfold Reg.MSK_ADAPTER_W1 at h
    exact mayCover_row (b := 0x981004) (st := 16) (by decide) (by decide) rfl (by omega) (by rw [if_neg (by decide)]; omega)
  case MSK_ADAPTER_W2 =>
    obtain ⟨i, h⟩ := h
    unfold Reg.MSK_ADAPTER_W2 at h
    exact mayCover_row (b := 0x981008) (st := 16) (by decide) (by decide) rfl (by omega) (by rw [if_neg (by decide)]; omega)
  case MSK_ADAPTER_W3 =>
    obtain ⟨i, h⟩ := h
    unfold Reg.MSK_ADAPTER_W3 at h
    exact mayCover_row (b := 0x98100c) (st := 16) (by decide) (by decide) rfl (by omega) (by rw [if_neg (by decide)]; omega)
  case MSK_SLOT_STATE =>
    obtain ⟨i, h⟩ := h
    unfold Reg.MSK_SLOT_STATE at h
    exact mayCover_row (b := 0x984000) (st := 4) (by decide) (by decide) rfl (by omega) (by rw [if_neg (by decide)]; omega)
  case BKG_CFG => exact mayCover_row (b := 0xa00000) (st := 0) (by decide) (by decide) rfl (Nat.le_of_eq h.symm) h
  case BKG_STATUS => exact mayCover_row (b := 0xa00004) (st := 0) (by decide) (by decide) rfl (Nat.le_of_eq h.symm) h
  case BKG_EVENT => exact mayCover_row (b := 0xa00008) (st := 0) (by decide) (by decide) rfl (Nat.le_of_eq h.symm) h
  case BKG_HBM_UE_LOG_LO => exact mayCover_row (b := 0xa00010) (st := 0) (by decide) (by decide) rfl (Nat.le_of_eq h.symm) h
  case BKG_HBM_UE_LOG_HI => exact mayCover_row (b := 0xa00014) (st := 0) (by decide) (by decide) rfl (Nat.le_of_eq h.symm) h
  case BKG_CSRAM_UE_LOG => exact mayCover_row (b := 0xa00018) (st := 0) (by decide) (by decide) rfl (Nat.le_of_eq h.symm) h
  case BKG_LOG_CLR => exact mayCover_row (b := 0xa0001c) (st := 0) (by decide) (by decide) rfl (Nat.le_of_eq h.symm) h
  case BKG_HBM_CE_COUNT => exact mayCover_row (b := 0xa00020) (st := 0) (by decide) (by decide) rfl (Nat.le_of_eq h.symm) h
  case BKG_HBM_UE_COUNT => exact mayCover_row (b := 0xa00024) (st := 0) (by decide) (by decide) rfl (Nat.le_of_eq h.symm) h
  case BKG_CSRAM_CE_COUNT => exact mayCover_row (b := 0xa00028) (st := 0) (by decide) (by decide) rfl (Nat.le_of_eq h.symm) h
  case BKG_CSRAM_UE_COUNT => exact mayCover_row (b := 0xa0002c) (st := 0) (by decide) (by decide) rfl (Nat.le_of_eq h.symm) h
  case BKG_TABLE_CE_COUNT => exact mayCover_row (b := 0xa00030) (st := 0) (by decide) (by decide) rfl (Nat.le_of_eq h.symm) h
  case BKG_TABLE_UE_COUNT => exact mayCover_row (b := 0xa00034) (st := 0) (by decide) (by decide) rfl (Nat.le_of_eq h.symm) h
  case BKG_RECAL_DONE_COUNT => exact mayCover_row (b := 0xa00038) (st := 0) (by decide) (by decide) rfl (Nat.le_of_eq h.symm) h
  case BKG_RECAL_FAIL_COUNT => exact mayCover_row (b := 0xa0003c) (st := 0) (by decide) (by decide) rfl (Nat.le_of_eq h.symm) h
  case BKG_RECAL_SKIP_COUNT => exact mayCover_row (b := 0xa00040) (st := 0) (by decide) (by decide) rfl (Nat.le_of_eq h.symm) h
  case BKG_LOG_DROP_COUNT => exact mayCover_row (b := 0xa00044) (st := 0) (by decide) (by decide) rfl (Nat.le_of_eq h.symm) h
  case BKG_TELEM_OVF_COUNT => exact mayCover_row (b := 0xa00048) (st := 0) (by decide) (by decide) rfl (Nat.le_of_eq h.symm) h
  case BKG_SECTOR_RETIRED_COUNT => exact mayCover_row (b := 0xa0004c) (st := 0) (by decide) (by decide) rfl (Nat.le_of_eq h.symm) h
  case BKG_PASS_HBM => exact mayCover_row (b := 0xa00060) (st := 0) (by decide) (by decide) rfl (Nat.le_of_eq h.symm) h
  case BKG_PASS_CSRAM => exact mayCover_row (b := 0xa00064) (st := 0) (by decide) (by decide) rfl (Nat.le_of_eq h.symm) h
  case BKG_PASS_HSRAM => exact mayCover_row (b := 0xa00068) (st := 0) (by decide) (by decide) rfl (Nat.le_of_eq h.symm) h
  case BKG_PASS_CS => exact mayCover_row (b := 0xa0006c) (st := 0) (by decide) (by decide) rfl (Nat.le_of_eq h.symm) h
  case BKG_PASS_TABLE => exact mayCover_row (b := 0xa00070) (st := 0) (by decide) (by decide) rfl (Nat.le_of_eq h.symm) h
  case BKG_LOG_WPTR => exact mayCover_row (b := 0xa00080) (st := 0) (by decide) (by decide) rfl (Nat.le_of_eq h.symm) h
  case BKG_LOG_USABLE => exact mayCover_row (b := 0xa00084) (st := 0) (by decide) (by decide) rfl (Nat.le_of_eq h.symm) h
  case BKG_TELEM_IDX => exact mayCover_row (b := 0xa00088) (st := 0) (by decide) (by decide) rfl (Nat.le_of_eq h.symm) h
  case BKG_CTRL => exact mayCover_row (b := 0xa000f0) (st := 0) (by decide) (by decide) rfl (Nat.le_of_eq h.symm) h
  case BKG_TIMER_COMPARE =>
    obtain ⟨i, h⟩ := h
    unfold Reg.BKG_TIMER_COMPARE at h
    exact mayCover_row (b := 0xa00200) (st := 16) (by decide) (by decide) rfl (by omega) (by rw [if_neg (by decide)]; omega)
  case BKG_TIMER_COUNT =>
    obtain ⟨i, h⟩ := h
    unfold Reg.BKG_TIMER_COUNT at h
    exact mayCover_row (b := 0xa00204) (st := 16) (by decide) (by decide) rfl (by omega) (by rw [if_neg (by decide)]; omega)
  case BKG_TIMER_RUN =>
    obtain ⟨i, h⟩ := h
    unfold Reg.BKG_TIMER_RUN at h
    exact mayCover_row (b := 0xa00208) (st := 16) (by decide) (by decide) rfl (by omega) (by rw [if_neg (by decide)]; omega)
  case HST_IDENT => exact mayCover_row (b := 0xb00000) (st := 0) (by decide) (by decide) rfl (Nat.le_of_eq h.symm) h
  case HST_PCIE_STATUS => exact mayCover_row (b := 0xb00004) (st := 0) (by decide) (by decide) rfl (Nat.le_of_eq h.symm) h
  case HST_EVENT => exact mayCover_row (b := 0xb00008) (st := 0) (by decide) (by decide) rfl (Nat.le_of_eq h.symm) h
  case HST_ALERT_STATUS => exact mayCover_row (b := 0xb0000c) (st := 0) (by decide) (by decide) rfl (Nat.le_of_eq h.symm) h
  case HST_BAD_ACCESS_COUNT => exact mayCover_row (b := 0xb00010) (st := 0) (by decide) (by decide) rfl (Nat.le_of_eq h.symm) h
  case HST_IDE_FAIL_COUNT => exact mayCover_row (b := 0xb00014) (st := 0) (by decide) (by decide) rfl (Nat.le_of_eq h.symm) h
  case HST_PLDM_EVENT_DROP_COUNT => exact mayCover_row (b := 0xb00018) (st := 0) (by decide) (by decide) rfl (Nat.le_of_eq h.symm) h
  case HST_UPDATE_STATUS => exact mayCover_row (b := 0xb0001c) (st := 0) (by decide) (by decide) rfl (Nat.le_of_eq h.symm) h
  case HST_MCTP_EID => exact mayCover_row (b := 0xb00020) (st := 0) (by decide) (by decide) rfl (Nat.le_of_eq h.symm) h
  case HST_CTRL => exact mayCover_row (b := 0xb00030) (st := 0) (by decide) (by decide) rfl (Nat.le_of_eq h.symm) h
  case HST_LOG_ADDR => exact mayCover_row (b := 0xb00040) (st := 0) (by decide) (by decide) rfl (Nat.le_of_eq h.symm) h
  case HST_LOG_STATUS => exact mayCover_row (b := 0xb00044) (st := 0) (by decide) (by decide) rfl (Nat.le_of_eq h.symm) h
  case HST_STRAP => exact mayCover_row (b := 0xb00100) (st := 0) (by decide) (by decide) rfl (Nat.le_of_eq h.symm) h
  case HST_BOOT_STATUS => exact mayCover_row (b := 0xb00104) (st := 0) (by decide) (by decide) rfl (Nat.le_of_eq h.symm) h
  case HST_BOOT_CTRL => exact mayCover_row (b := 0xb00108) (st := 0) (by decide) (by decide) rfl (Nat.le_of_eq h.symm) h
  case HST_BOOT_FAIL => exact mayCover_row (b := 0xb0010c) (st := 0) (by decide) (by decide) rfl (Nat.le_of_eq h.symm) h
  case HST_IMAGE_SEQ => exact mayCover_row (b := 0xb00110) (st := 0) (by decide) (by decide) rfl (Nat.le_of_eq h.symm) h
  case HST_BOOT_ELAPSED => exact mayCover_row (b := 0xb00114) (st := 0) (by decide) (by decide) rfl (Nat.le_of_eq h.symm) h
  case HST_DOORBELL_EARLY_COUNT => exact mayCover_row (b := 0xb00118) (st := 0) (by decide) (by decide) rfl (Nat.le_of_eq h.symm) h
  case HST_BOOT_INGEST_DROP => exact mayCover_row (b := 0xb0011c) (st := 0) (by decide) (by decide) rfl (Nat.le_of_eq h.symm) h
  case HST_BOOT_HWFAIL => exact mayCover_row (b := 0xb00120) (st := 0) (by decide) (by decide) rfl (Nat.le_of_eq h.symm) h
  case HST_SVN => exact mayCover_row (b := 0xb00124) (st := 0) (by decide) (by decide) rfl (Nat.le_of_eq h.symm) h
  case HST_IMAGE_DIGEST =>
    obtain ⟨i, h⟩ := h
    unfold Reg.HST_IMAGE_DIGEST at h
    exact mayCover_row (b := 0xb00130) (st := 4) (by decide) (by decide) rfl (by omega) (by rw [if_neg (by decide)]; omega)
  case HST_LOG_DATA =>
    obtain ⟨i, h⟩ := h
    unfold Reg.HST_LOG_DATA at h
    exact mayCover_row (b := 0xb00400) (st := 4) (by decide) (by decide) rfl (by omega) (by rw [if_neg (by decide)]; omega)
  case PWR_LIMIT => exact mayCover_row (b := 0xc00000) (st := 0) (by decide) (by decide) rfl (Nat.le_of_eq h.symm) h
  case PWR_STATUS => exact mayCover_row (b := 0xc00004) (st := 0) (by decide) (by decide) rfl (Nat.le_of_eq h.symm) h
  case PWR_EVENT => exact mayCover_row (b := 0xc00008) (st := 0) (by decide) (by decide) rfl (Nat.le_of_eq h.symm) h
  case PWR_THERM_CFG => exact mayCover_row (b := 0xc0000c) (st := 0) (by decide) (by decide) rfl (Nat.le_of_eq h.symm) h
  case PWR_TICK_MEAN_W => exact mayCover_row (b := 0xc00010) (st := 0) (by decide) (by decide) rfl (Nat.le_of_eq h.symm) h
  case PWR_TICK_ENERGY_UJ => exact mayCover_row (b := 0xc00014) (st := 0) (by decide) (by decide) rfl (Nat.le_of_eq h.symm) h
  case PWR_PEAK_W => exact mayCover_row (b := 0xc00018) (st := 0) (by decide) (by decide) rfl (Nat.le_of_eq h.symm) h
  case PWR_RESET_CAUSE => exact mayCover_row (b := 0xc0001c) (st := 0) (by decide) (by decide) rfl (Nat.le_of_eq h.symm) h
  case PWR_TEMP_CDIE =>
    obtain ⟨i, h⟩ := h
    unfold Reg.PWR_TEMP_CDIE at h
    exact mayCover_row (b := 0xc00020) (st := 4) (by decide) (by decide) rfl (by omega) (by rw [if_neg (by decide)]; omega)
  case PWR_TEMP_IDIE =>
    obtain ⟨i, h⟩ := h
    unfold Reg.PWR_TEMP_IDIE at h
    exact mayCover_row (b := 0xc00030) (st := 4) (by decide) (by decide) rfl (by omega) (by rw [if_neg (by decide)]; omega)
  case PWR_TEMP_HBM =>
    obtain ⟨i, h⟩ := h
    unfold Reg.PWR_TEMP_HBM at h
    exact mayCover_row (b := 0xc00040) (st := 4) (by decide) (by decide) rfl (by omega) (by rw [if_neg (by decide)]; omega)
  case PWR_LIMIT_TICK_COUNT => exact mayCover_row (b := 0xc00080) (st := 0) (by decide) (by decide) rfl (Nat.le_of_eq h.symm) h
  case PWR_THERM_WARN_COUNT => exact mayCover_row (b := 0xc00084) (st := 0) (by decide) (by decide) rfl (Nat.le_of_eq h.symm) h
  case PWR_THERM_CRIT_COUNT => exact mayCover_row (b := 0xc00088) (st := 0) (by decide) (by decide) rfl (Nat.le_of_eq h.symm) h
  case PWR_CTRL => exact mayCover_row (b := 0xc000a0) (st := 0) (by decide) (by decide) rfl (Nat.le_of_eq h.symm) h
  case HUB_SEGCFG =>
    obtain ⟨i, h⟩ := h
    unfold Reg.HUB_SEGCFG at h
    exact mayCover_row (b := 0x400000) (st := 1048576) (by decide) (by decide) rfl (by omega) (by rw [if_neg (by decide)]; omega)
  case HUB_EVENT =>
    obtain ⟨i, h⟩ := h
    unfold Reg.HUB_EVENT at h
    exact mayCover_row (b := 0x400004) (st := 1048576) (by decide) (by decide) rfl (by omega) (by rw [if_neg (by decide)]; omega)
  case HUB_SRAM_CE_COUNT =>
    obtain ⟨i, h⟩ := h
    unfold Reg.HUB_SRAM_CE_COUNT at h
    exact mayCover_row (b := 0x400008) (st := 1048576) (by decide) (by decide) rfl (by omega) (by rw [if_neg (by decide)]; omega)
  case HUB_SRAM_UE_COUNT =>
    obtain ⟨i, h⟩ := h
    unfold Reg.HUB_SRAM_UE_COUNT at h
    exact mayCover_row (b := 0x40000c) (st := 1048576) (by decide) (by decide) rfl (by omega) (by rw [if_neg (by decide)]; omega)
  case HUB_CREDIT_VIOL_COUNT =>
    obtain ⟨i, h⟩ := h
    unfold Reg.HUB_CREDIT_VIOL_COUNT at h
    exact mayCover_row (b := 0x400010) (st := 1048576) (by decide) (by decide) rfl (by omega) (by rw [if_neg (by decide)]; omega)
  case HUB_HELD_PEAK =>
    obtain ⟨i, h⟩ := h
    unfold Reg.HUB_HELD_PEAK at h
    exact mayCover_row (b := 0x400014) (st := 1048576) (by decide) (by decide) rfl (by omega) (by rw [if_neg (by decide)]; omega)
  case HUB_CTRL =>
    obtain ⟨i, h⟩ := h
    unfold Reg.HUB_CTRL at h
    exact mayCover_row (b := 0x400020) (st := 1048576) (by decide) (by decide) rfl (by omega) (by rw [if_neg (by decide)]; omega)
  case HUB_STRM_CFG =>
    obtain ⟨i, j, h⟩ := h
    unfold Reg.HUB_STRM_CFG at h
    exact mayCover_row (b := 0x400100) (st := 16) (by decide) (by decide) rfl (by omega) (by rw [if_neg (by decide)]; omega)
  case HUB_STRM_BASE =>
    obtain ⟨i, j, h⟩ := h
    unfold Reg.HUB_STRM_BASE at h
    exact mayCover_row (b := 0x400104) (st := 16) (by decide) (by decide) rfl (by omega) (by rw [if_neg (by decide)]; omega)
  case HUB_STRM_SIZE =>
    obtain ⟨i, j, h⟩ := h
    unfold Reg.HUB_STRM_SIZE at h
    exact mayCover_row (b := 0x400108) (st := 16) (by decide) (by decide) rfl (by omega) (by rw [if_neg (by decide)]; omega)
  case HUB_STRM_STAT =>
    obtain ⟨i, j, h⟩ := h
    unfold Reg.HUB_STRM_STAT at h
    exact mayCover_row (b := 0x40010c) (st := 16) (by decide) (by decide) rfl (by omega) (by rw [if_neg (by decide)]; omega)
  case SPK_STATE =>
    obtain ⟨i, j, h⟩ := h
    unfold Reg.SPK_STATE at h
    exact mayCover_row (b := 0x408000) (st := 64) (by decide) (by decide) rfl (by omega) (by rw [if_neg (by decide)]; omega)
  case SPK_CONT =>
    obtain ⟨i, j, h⟩ := h
    unfold Reg.SPK_CONT at h
    exact mayCover_row (b := 0x408004) (st := 64) (by decide) (by decide) rfl (by omega) (by rw [if_neg (by decide)]; omega)
  case SPK_RESTART_COUNT =>
    obtain ⟨i, j, h⟩ := h
    unfold Reg.SPK_RESTART_COUNT at h
    exact mayCover_row (b := 0x408008) (st := 64) (by decide) (by decide) rfl (by omega) (by rw [if_neg (by decide)]; omega)
  case SPK_LAST_CAUSE =>
    obtain ⟨i, j, h⟩ := h
    unfold Reg.SPK_LAST_CAUSE at h
    exact mayCover_row (b := 0x40800c) (st := 64) (by decide) (by decide) rfl (by omega) (by rw [if_neg (by decide)]; omega)
  case SPK_LS_MISS_COUNT =>
    obtain ⟨i, j, h⟩ := h
    unfold Reg.SPK_LS_MISS_COUNT at h
    exact mayCover_row (b := 0x408010) (st := 64) (by decide) (by decide) rfl (by omega) (by rw [if_neg (by decide)]; omega)
  case SPK_EVENT =>
    obtain ⟨i, h⟩ := h
    unfold Reg.SPK_EVENT at h
    exact mayCover_row (b := 0x408400) (st := 1048576) (by decide) (by decide) rfl (by omega) (by rw [if_neg (by decide)]; omega)
  case SPK_UCODE_ID =>
    obtain ⟨i, h⟩ := h
    unfold Reg.SPK_UCODE_ID at h
    exact mayCover_row (b := 0x408404) (st := 1048576) (by decide) (by decide) rfl (by omega) (by rw [if_neg (by decide)]; omega)
  case SPK_ILLEGAL_LOG =>
    obtain ⟨i, h⟩ := h
    unfold Reg.SPK_ILLEGAL_LOG at h
    exact mayCover_row (b := 0x408408) (st := 1048576) (by decide) (by decide) rfl (by omega) (by rw [if_neg (by decide)]; omega)
  case SPK_LOG_CLR =>
    obtain ⟨i, h⟩ := h
    unfold Reg.SPK_LOG_CLR at h
    exact mayCover_row (b := 0x40840c) (st := 1048576) (by decide) (by decide) rfl (by omega) (by rw [if_neg (by decide)]; omega)
  case SPK_CS_CE_COUNT =>
    obtain ⟨i, h⟩ := h
    unfold Reg.SPK_CS_CE_COUNT at h
    exact mayCover_row (b := 0x408410) (st := 1048576) (by decide) (by decide) rfl (by omega) (by rw [if_neg (by decide)]; omega)
  case SPK_CS_UE_COUNT =>
    obtain ⟨i, h⟩ := h
    unfold Reg.SPK_CS_UE_COUNT at h
    exact mayCover_row (b := 0x408414) (st := 1048576) (by decide) (by decide) rfl (by omega) (by rw [if_neg (by decide)]; omega)
  case SPK_RELOAD_COUNT =>
    obtain ⟨i, h⟩ := h
    unfold Reg.SPK_RELOAD_COUNT at h
    exact mayCover_row (b := 0x408418) (st := 1048576) (by decide) (by decide) rfl (by omega) (by rw [if_neg (by decide)]; omega)
  case SPK_ILLEGAL_COUNT =>
    obtain ⟨i, h⟩ := h
    unfold Reg.SPK_ILLEGAL_COUNT at h
    exact mayCover_row (b := 0x40841c) (st := 1048576) (by decide) (by decide) rfl (by omega) (by rw [if_neg (by decide)]; omega)
  case SPK_CS_BAD =>
    obtain ⟨i, j, h⟩ := h
    unfold Reg.SPK_CS_BAD at h
    exact mayCover_row (b := 0x408420) (st := 4) (by decide) (by decide) rfl (by omega) (by rw [if_neg (by decide)]; omega)
  case SPK_CTRL =>
    obtain ⟨i, h⟩ := h
    unfold Reg.SPK_CTRL at h
    exact mayCover_row (b := 0x408440) (st := 1048576) (by decide) (by decide) rfl (by omega) (by rw [if_neg (by decide)]; omega)
  case SPK_CS_WINDOW =>
    obtain ⟨i, j, h⟩ := h
    unfold Reg.SPK_CS_WINDOW at h
    exact mayCover_row (b := 0x410000) (st := 4) (by decide) (by decide) rfl (by omega) (by rw [if_neg (by decide)]; omega)
  case anyRegister => rfl

/-- A register that no place of the mask may cover. -/
theorem not_allowed {T a : Nat} (h : (List.range 417).all (fun i => !(T.testBit i && mayCover i a)) = true) : ¬ Allowed T a := by
  rintro ⟨q, hq, hc⟩
  have hi : q.ctorIdx < 417 := by cases q <;> decide
  have := List.all_eq_true.1 h q.ctorIdx (List.mem_range.2 hi)
  unfold Has at hq
  rw [hq, mayCover_of hc] at this
  exact absurd this (by decide)

end Sys2Proof.Machine
end

