-- ==== Sys2Proof/Laws/Send.lean ====
section
/-! SUPPORT. What sending a packet does beside the places it may change (Laws/WithinSend.lean): of the fabric it moves only
the round-robin of the equal routes, and of a port only what is sent, kept and waits, and the receive buffer that a packet in
transit leaves. -/

namespace Sys2Proof.Machine

/-- A port with the transmit side and the receive buffer of another. -/
def Port.withTraffic (p q : Port) : Port :=
  { p with
    txWait := q.txWait, txSeq := q.txSeq, replay := q.replay, credits := q.credits, turn := q.turn, rxBuf := q.rxBuf
    owed := q.owed }

/-- `s'` is `s` after packets have been sent: the fabric but for its round-robin and the ports but for their transmit side
and receive buffer are as before. -/
structure Sends (s s' : State) : Prop where
  fab : s'.fab = { s.fab with rotate := s'.fab.rotate }
  ports : ∀ n, port s' n = (port s n).withTraffic (port s' n)

variable {s s' s'' : State}

theorem Sends.refl : Sends s s := ⟨rfl, fun _ => rfl⟩

theorem Sends.trans (h : Sends s s') (h' : Sends s' s'') : Sends s s'' := by
  refine ⟨?_, fun n => ?_⟩
  · rw [h'.fab, h.fab]
  · rw [h'.ports n, h.ports n]
    rfl

/-- Nothing was sent: the fabric and the ports are as before. -/
theorem Sends.of_eq (h1 : s'.fab = s.fab) (h2 : s'.ports = s.ports) : Sends s s' :=
  ⟨by rw [h1], fun n => by unfold port; rw [h2]; rfl⟩

theorem Sends.foldl {β : Type} {f : State → β → State} (hf : ∀ s x, Sends s (f s x)) (l : List β) :
    Sends s (l.foldl f s) := by
  induction l generalizing s with
  | nil => exact Sends.refl
  | cons x xs ih => exact (hf s x).trans ih

theorem port_setPort (s : State) (n m : Nat) (v : Port) : port (setPort s n v) m = if m = n then v else port s m := by
  unfold port SMap.get setPort
  dsimp only
  rw [SMap.get?_put]
  split <;> rfl

theorem setPort_sends (s : State) (n : Nat) (v : Port) (h : v = (port s n).withTraffic v) : Sends s (setPort s n v) := by
  refine ⟨rfl, fun m => ?_⟩
  rw [port_setPort]
  split
  · next e => rw [e]; exact h
  · rfl

theorem passRx_sends (s : State) (n : Nat) (p : Packet) : Sends s (passRx s n p) := by
  unfold passRx
  dsimp only
  split
  · exact setPort_sends s n _ rfl
  · exact Sends.refl

theorem transmit_sends (s : State) (n : Nat) (w : TxWait) : Sends s (transmit s n w) := by
  unfold transmit
  dsimp only
  split
  · exact ((setPort_sends s n _ rfl).trans (passRx_sends _ _ _)).trans ⟨rfl, fun _ => rfl⟩
  · exact (setPort_sends s n _ rfl).trans ⟨rfl, fun _ => rfl⟩

/-- A preemption touches spokes and their registers, no port. -/
theorem preempt_sends (s : State) (i hub b : Nat) : Sends s (preempt s i hub b) := by
  have h := preempt_within (T := 0x2c0000000000130000800200000000000000000000000000000000000000000000000000000000000000000000000a78400000) (Within.start (s := s)) i hub b (by decide)
  exact Sends.of_eq (h.fab.resolve_left (by unfold Has; decide)) (h.ports.resolve_left (by unfold Has; decide))

theorem drainPort_sends (n k : Nat) : ∀ s : State, Sends s (drainPort s n k) := by
  induction k with
  | zero => exact fun _ => Sends.refl
  | succ k ih =>
    intro s
    unfold drainPort
    split
    · exact Sends.refl
    · dsimp only
      refine Sends.trans ?_ (((setPort_sends _ n _ rfl).trans (transmit_sends _ _ _)).trans (ih _))
      split
      · exact preempt_sends _ _ _ _
      · exact Sends.refl

theorem toPort_sends (s : State) (n : Nat) (w : TxWait) : Sends s (toPort s n w) :=
  (setPort_sends s n _ rfl).trans (drainPort_sends _ _ _)

theorem routeOut_sends (s : State) (die : Nat) (w : TxWait) : Sends s (routeOut s die w) := by
  unfold routeOut
  split
  · split <;> exact Sends.of_eq rfl rfl
  · split
    · exact Sends.of_eq rfl rfl
    · split
      · split
        · exact toPort_sends _ _ _
        · exact Sends.refl
      · exact toPort_sends _ _ _

theorem sendOwn_sends (s : State) (q die : Nat) (p : Packet) (t : Nat) : Sends s (sendOwn s q die p t) := by
  unfold sendOwn
  dsimp only
  split
  · have h := routeOut_sends { s with fence := { s.fence with
      usedAethil := SMap.upd s.fence.usedAethil 0 q (· + (32 + p.length)) } } die { pkt := p, rx := none }
    refine Sends.trans ?_ h
    exact Sends.of_eq rfl rfl
  · exact Sends.of_eq (fenceRefuse_fab ..) (fenceRefuse_ports ..)

theorem sendCtl_sends (s : State) (dst tag : Nat) (m : Msg) : Sends s (sendCtl s dst tag m) := by
  unfold sendCtl
  split
  · exact Sends.refl
  · exact routeOut_sends _ _ _

theorem flood_sends (s : State) (e : Option Nat) (m : Msg) : Sends s (flood s e m) :=
  Sends.foldl (fun s n => toPort_sends s n { pkt := ctlPacket s (port s n).partnerMod 0 m, rx := none }) _

end Sys2Proof.Machine
end

