-- ==== Sys2Proof/WellFormed.lean ====
section
/-! DEFINITION. Well-formed commands: every operand that numbers something lies in the range the spec gives it. The
meanings are total; this says which commands a sender of the block can send. -/

namespace Sys2Proof

open Sys2Proof.Machine

/-- Ports, queues, streams, hubs, flags, issuers, cores, partitions, models, modules, slots, timers, balls, lanes, ECC
outcomes and descriptors (64 bytes, 32 under G1COMPAT) in range. -/
def wellFormed : Instr → Bool
  | .tickEdge _ _ => true
  | .firstTick _ => true
  | .maintenanceSlotOpen => true
  | .graceDeadline => true
  | .itemStart _ _ => true
  | .workItemComplete _ _ => true
  | .overlayCommit _ => true
  | .registerWrite _ off _ _ _ _ => decide (off < 2 ^ 32)
  | .barRefusedAccess _ bytes _ => (decide (1 ≤ bytes) && decide (bytes ≤ 8))
  | .supervisorBusError _ _ => true
  | .ppsInEdge _ _ => true
  | .ppsInLoss _ => true
  | .ref10mQualify _ => true
  | .ref10mLoss _ => true
  | .ptpSyncRx _ _ _ => true
  | .ptpAnnounceRx _ _ _ _ _ _ _ _ => true
  | .ptpLoss _ => true
  | .ptpMeasurement _ => true
  | .revertHoldOffExpiry _ => true
  | .untraceableEntry _ => true
  | .labelSubmit _ => true
  | .snap _ => true
  | .ppsOutRise _ => true
  | .powerOn => true
  | .resetNAssert _ => true
  | .resetRelease _ bootSel modId _ _ => decide (bootSel < 4) && decide (modId < 32)
  | .flashReadTimeout _ => true
  | .imageReadComplete _ _ => true
  | .loadComplete => true
  | .hwTrainingComplete _ _ => true
  | .fwInitBudgetExpiry _ => true
  | .portBringupStart n => decide (n < 16)
  | .supReady _ => true
  | .configLock _ => true
  | .lockWindowExpiry _ => true
  | .confirm => true
  | .comparatorMismatch _ => true
  | .delayParityError _ => true
  | .comparatorSelfTest _ _ _ => true
  | .watchdogFire _ _ => true
  | .watchdogKick _ => true
  | .supervisorEntry => true
  | .supRelease => true
  | .fencePartActiveWrite _ _ => true
  | .egressCapWrite p _ _ => decide (p < 8)
  | .tableReloadComplete _ _ => true
  | .packetArrive n _ _ => decide (n < 16)
  | .keyRejectNoticeRx _ _ _ => true
  | .queueEnable q _ => decide (q < 64)
  | .queueShutdown q => decide (q < 64)
  | .queueReset q _ => decide (q < 64)
  | .queueInvalidate q _ => decide (q < 64)
  | .invalidateComplete q _ => decide (q < 64)
  | .abortedRecordsWrite q _ => decide (q < 64)
  | .doorbellSqTail q _ _ => decide (q < 64)
  | .doorbellCqHead q _ _ => decide (q < 64)
  | .nop q raw _ => decide (q < 64) && (raw.length == 64 || raw.length == 32)
  | .compute _ _ _ => true
  | .copy _ _ => true
  | .barrier q raw _ => decide (q < 64) && (raw.length == 64 || raw.length == 32)
  | .allReduce _ _ _ => true
  | .reduce _ _ _ => true
  | .reduceScatter _ _ _ => true
  | .allGather _ _ _ => true
  | .gather _ _ _ => true
  | .scatter _ _ _ => true
  | .broadcast _ _ _ => true
  | .allToAll _ _ _ => true
  | .send _ _ => true
  | .recv _ _ _ => true
  | .stream _ _ _ _ => true
  | .serveSubmit q raw _ => decide (q < 64) && (raw.length == 64 || raw.length == 32)
  | .serveCancel q raw _ => decide (q < 64) && (raw.length == 64 || raw.length == 32)
  | .servePause q raw _ => decide (q < 64) && (raw.length == 64 || raw.length == 32)
  | .serveResume q raw _ => decide (q < 64) && (raw.length == 64 || raw.length == 32)
  | .hostReadCompletion _ _ _ _ => true
  | .completionTimeout k _ => decide (k < 1024)
  | .tagQuarantineEnd k => decide (k < 1024)
  | .flagSet issuer flag _ => decide (issuer < 96) && decide (flag < 4096)
  | .flagClear issuer flag _ => decide (issuer < 96) && decide (flag < 4096)
  | .flagWait issuer flag _ => decide (issuer < 96) && decide (flag < 4096)
  | .flagWaitClr issuer flag _ => decide (issuer < 96) && decide (flag < 4096)
  | .tileSet core flag _ => decide (core < 64) && decide (flag < 4096)
  | .waiterRelease issuer _ => decide (issuer < 96)
  | .manualSet flag part _ _ => decide (flag < 4096) && decide (part < 8)
  | .manualClear flag part _ _ => decide (flag < 4096) && decide (part < 8)
  | .armMessageRx stream _ _ => decide (stream < 32)
  | .armStepTimeout stream _ => decide (stream < 32)
  | .sealRx stream _ _ _ _ _ => decide (stream < 32)
  | .dataPhaseStart stream _ => decide (stream < 32)
  | .segmentRx stream pos src _ _ _ _ _ => decide (stream < 32) && decide (pos < 5) && decide (src < 32)
  | .segmentCreditRx stream dir peer _ => decide (stream < 32) && (dir == 0 || dir == 2) && decide (peer < 32)
  | .withdrawNoticeRx stream rank src _ =>
    decide (stream < 32) && (decide (rank < 32) || rank == 255) && decide (src < 32)
  | .dataStepTimeout stream rank _ => decide (stream < 32) && decide (rank < 32)
  | .reArmRx stream rank _ _ => decide (stream < 32) && (decide (rank < 32) || rank == 255)
  | .treeResume stream _ _ => decide (stream < 32)
  | .microNop idx ecc _ => decide (idx < 32) && decide (ecc < 3)
  | .microLdi idx ecc _ => decide (idx < 32) && decide (ecc < 3)
  | .microLdctx idx ecc _ => decide (idx < 32) && decide (ecc < 3)
  | .microAdd idx ecc _ => decide (idx < 32) && decide (ecc < 3)
  | .microSub idx ecc _ => decide (idx < 32) && decide (ecc < 3)
  | .microAnd idx ecc _ => decide (idx < 32) && decide (ecc < 3)
  | .microOr idx ecc _ => decide (idx < 32) && decide (ecc < 3)
  | .microShl idx ecc _ => decide (idx < 32) && decide (ecc < 3)
  | .microShr idx ecc _ => decide (idx < 32) && decide (ecc < 3)
  | .microGrant idx ecc _ => decide (idx < 32) && decide (ecc < 3)
  | .microRead idx ecc _ => decide (idx < 32) && decide (ecc < 3)
  | .microComb idx ecc _ => decide (idx < 32) && decide (ecc < 3)
  | .microFill idx ecc _ => decide (idx < 32) && decide (ecc < 3)
  | .microSend idx ecc _ => decide (idx < 32) && decide (ecc < 3)
  | .microWrite idx ecc _ => decide (idx < 32) && decide (ecc < 3)
  | .microSetf idx ecc _ => decide (idx < 32) && decide (ecc < 3)
  | .microClrf idx ecc _ => decide (idx < 32) && decide (ecc < 3)
  | .microEnd idx ecc _ => decide (idx < 32) && decide (ecc < 3)
  | .engineOpComplete stream _ _ => decide (stream < 32)
  | .waitConditionTrue idx _ => decide (idx < 32)
  | .spokeRestart idx => decide (idx < 32)
  | .csBlockReloadComplete h blk _ _ => decide (h < 2) && decide (blk < 256)
  | .flitRx n _ _ _ _ => decide (n < 16)
  | .nakRx n _ _ => decide (n < 16)
  | .ackTimerExpiry n _ => decide (n < 16)
  | .replayBudgetExpiry n _ => decide (n < 16)
  | .faultRx n _ => decide (n < 16)
  | .abortFlitRx n _ _ => decide (n < 16)
  | .signalLoss n _ _ => decide (n < 16)
  | .trainingFrameRx n => decide (n < 16)
  | .holdRx n => decide (n < 16)
  | .holdRetry n => decide (n < 16)
  | .bringupComplete n mask => decide (n < 16) && decide (mask < 16)
  | .capRx n _ _ => decide (n < 16)
  | .capAckRx n => decide (n < 16)
  | .capRefuseRx n _ _ => decide (n < 16)
  | .widthReqRx n mask _ => decide (n < 16) && decide (mask < 16)
  | .widthAckRx n mask _ => decide (n < 16) && decide (mask < 16)
  | .portRetrainTimer n => decide (n < 16)
  | .portRetry n => decide (n < 16)
  | .linkFaultNoticeRx _ _ => true
  | .bridgeFail _ _ _ => true
  | .bridgeRetrain _ => true
  | .nodeDownRx n m _ => decide (n < 16) && decide (m < 32)
  | .nodeUpRx n m _ => decide (n < 16) && decide (m < 32)
  | .joinRx n m _ _ _ => decide (n < 16) && decide (m < 32)
  | .e2eAckRx _ _ dst _ _ => decide (dst < 32)
  | .e2eNakRx _ _ dst _ => decide (dst < 32)
  | .e2eAckTimer _ _ src => decide (src < 32)
  | .e2eTimeout _ _ dst _ => decide (dst < 32)
  | .ingestFrameRx n _ _ => decide (n < 2)
  | .ingestLinkDown n _ => decide (n < 2)
  | .tlyStreamWrite idx w _ _ _ => decide (idx < 8192) && decide (w < 3)
  | .tlyFwdHeadWrite n _ => decide (n < 2)
  | .ldgAdmit _ _ => true
  | .ldgOrderAdmit _ _ => true
  | .outputRingEnable p _ => decide (p < 8)
  | .ldgOutHeadWrite p _ => decide (p < 8)
  | .microstepBoundary m => decide (m < 16)
  | .decodeStepEnd _ _ _ => true
  | .prefillChunkEnd _ _ _ => true
  | .slotUpdateRx m k _ _ _ _ _ => decide (m < 16) && decide (k < 1024)
  | .pauseTtlExpiry k _ => decide (k < 1024)
  | .coldPauseComplete k _ => decide (k < 1024)
  | .summaryStoreComplete _ _ => true
  | .coldResumeComplete k _ _ => decide (k < 1024)
  | .orderRx _ src _ _ => decide (src < 32)
  | .orderRefuseNoticeRx k _ _ => decide (k < 1024)
  | .orderQueueTimeout m _ => decide (m < 16)
  | .kvShipComplete k _ _ _ _ => decide (k < 1024)
  | .kvShipTimeout k _ => decide (k < 1024)
  | .orderWithdrawRx src decSlot => decide (src < 32) && decide (decSlot < 1024)
  | .autoLoad n _ => decide (n < 64)
  | .autoUnload n _ => decide (n < 64)
  | .autoValidationDone _ => true
  | .adapterRegister a _ _ => decide (a < 512)
  | .choreStart _ _ => true
  | .choreStop _ => true
  | .laneRecalStart n => decide (n < 16)
  | .laneRecalDone n _ _ => decide (n < 16)
  | .logPageProgram => true
  | .flashOpComplete _ _ => true
  | .telemetrySample _ => true
  | .hwTimerExpiry k => decide (k < 32)
  | .flrPf0 _ => true
  | .flrPf1 => true
  | .perstNAssert _ => true
  | .perstNDeassert => true
  | .atsInvalidateRequest _ _ => true
  | .atsInvalidateComplete _ => true
  | .ideIntegrityFail _ => true
  | .ideKmKSetGo keySet => decide (keySet < 2)
  | .setEndpointId ep _ => decide (ep < 4)
  | .getSensorReading ep _ _ => decide (ep < 4)
  | .setEventReceiver ep _ => decide (ep < 4)
  | .pollForPlatformEventMessage ep => decide (ep < 4)
  | .requestUpdate ep _ _ => decide (ep < 4)
  | .firmwareDataRx _ _ => true
  | .verifyComplete _ _ => true
  | .activateFirmware ep _ => decide (ep < 4)
  | .spdmGetMeasurements ep _ => decide (ep < 4)
  | .spdmKeyExchange ep => decide (ep < 4)
  | .spdmChallenge ep _ => decide (ep < 4)
  | .spdmGetCertificate ep _ => decide (ep < 4)
  | .logRead _ => true
  | .logReadComplete => true
  | .pwrLimitWrite _ _ _ => true
  | .limiterInterval _ _ => true
  | .railFault _ => true
  | .railProtectReset => true
  | .railHoldRelease _ bootSel modId _ _ => decide (bootSel < 4) && decide (modId < 32)
  | .thermalTrip => true
  | .thermalHoldRelease _ bootSel modId _ _ => decide (bootSel < 4) && decide (modId < 32)
  | .alarmMinTimeExpiry ball => decide (ball < 7)
  | .tickCountClr => true
  | .tbuCountClr => true
  | .supCountClr => true
  | .fenceCountClr => true
  | .fenceVlogClr => true
  | .partCountClr => true
  | .partLogClr => true
  | .wqCountClr => true
  | .syncCountClr => true
  | .syncFaultLogClr => true
  | .syncAuditWrapClr => true
  | .hubCollCountClr => true
  | .hubCollLogClr => true
  | .hubCountClr h => decide (h < 2)
  | .spkCountClr h => decide (h < 2)
  | .spkLogClr h => decide (h < 2)
  | .lnkCountClr => true
  | .lnkLogClr => true
  | .fabCountClr => true
  | .tlyCountClr => true
  | .ldgCountClr => true
  | .mskCountClr => true
  | .bkgCountClr => true
  | .bkgLogClr => true
  | .hstCountClr => true
  | .pwrCountClr => true
  | .signalDetect n => decide (n < 16)
  | .laneSignalLoss n lane _ => decide (n < 16) && decide (lane < 4)
  | .ingestLinkUp n => decide (n < 2)
  | .pcieLinkUp _ _ _ _ => true
  | .pcieLinkDown _ => true
  | .pairLoRead off _ _ _ => decide (off < 2 ^ 32)
  | .descriptorFetchComplete q idx _ _ => decide (q < 64) && decide (idx < 4096)
  | .leapSecond => true
  | .i3cEntdaa ep => decide (ep < 4)

end Sys2Proof
end

