-- ==== Sys2Proof/Tests/Slice0.lean ====
section
/-! SUPPORT. Tests: small states, one command each, with the results the spec's rules give; the ill-formed commands that the
check refuses; and, for the statements of Certificates/Slice0, states and operands that meet their hypotheses. -/

open Sys2Proof Sys2Proof.Machine

namespace Sys2Proof.Tests

set_option Elab.async false

/-- The command answers a next state, of which `p` holds. -/
def after (c : Instr) (s : State) (p : State → Bool) : Bool :=
  match exec c s with
  | .next s' => p s'
  | _ => false

/-- The command changes nothing. -/
def idle (c : Instr) (s : State) : Bool := after c s (fun s' => decide (s' = s))

/-- Every register but those listed reads as before. -/
def same (s s' : State) (but : List Nat) : Bool :=
  (s.regs ++ s'.regs).all (fun e => but.contains e.1 || rd s' e.1 == rd s e.1)

/-- A counter register has gone up by one. -/
def up (s s' : State) (reg : Nat) : Bool := (rd s' reg).toNat == (rd s reg).toNat + 1

/-- Registers written over a state. -/
def regs (s : State) (l : List (Nat × Nat)) : State := l.foldl (fun s e => wr s e.1 (BitVec.ofNat 32 e.2)) s

/-- A serviceable module in tick 1605, the sixth since reset, with partition 0 defined and in force. -/
def live : State :=
  let r := State.reset
  let boot : Boot := { r.boot with phase := 8, slot := 0, hwDone := true, fwReady := true }
  let win : Window := { read := true, write := true, host := true, part := 0, base := 0x1000, length := 0x100000 }
  let alloc (c n : Nat) : Alloc := { cls := c, use := 0, part := 0, first := 0, count := n }
  let fence : Fence := { r.fence with inForce := 1, caps := [(0, 0xFFFFFFFF#32)] }
  let clock : Clock := { r.clock with running := true, seq := 5, index := 1605, edge := 8025000000 }
  regs { r with
    boot := { boot with cfgLocked := true, ucodeLocked := true, serviceable := true }
    clock := { clock with elapsed := 30000000, len := 5000000 }
    sup := { r.sup with ready := true, started := true, wdogOn := true }
    fence := { fence with
      allocs := [(0, alloc 0x0B 8), (1, alloc 0x0A 4)]
      windows := [(0, win), (1, { win with host := false })] } }
    [(Reg.PART_KEY 0, 0x1AAAA)]

/-! ## Boot and resets -/

def inRst : State := { State.reset with boot := { State.reset.boot with inReset := true } }
theorem test_straps_at_release : after (.resetRelease true 5 33 false 0) inRst (fun s' =>
    s'.straps == { g1compat := true, bootSel := 1, modId := 1 } && s'.boot.phase == 15 &&
        rd s' Reg.HST_BOOT_FAIL == 0x101010#32 &&
    !heldInReset s') = true := by decide
theorem test_release_good_flash : after (.resetRelease false 2 31 true 0) inRst (fun s' =>
    s'.straps == { g1compat := false, bootSel := 2, modId := 31 } && s'.boot.phase == 1 &&
    (slotOrder (setStraps inRst s'.straps)).head? == some s'.boot.slot && !s'.clock.running) = true := by decide
def railHeld : State := { live with boot := { live.boot with railHold := true } }
def thermHeld : State := { live with boot := { live.boot with thermalHold := true } }
theorem test_rail_release : after (.railHoldRelease false 0 3 true 0) railHeld (fun s' =>
    s'.straps.modId == 3 && s'.boot.phase == 1 && !s'.boot.cfgLocked) = true := by decide
theorem test_thermal_release : after (.thermalHoldRelease false 0 3 true 0) thermHeld (fun s' =>
    s'.straps.modId == 3 && s'.boot.phase == 1 && s'.out.contains (.level "THERMTRIP_N" true)) = true := by decide
theorem test_release_while_held : after (.resetRelease false 0 3 true 0) { railHeld with boot := { railHeld.boot with inReset := true } }
    (fun s' => s'.boot == { railHeld.boot with inReset := false } && s'.straps == live.straps) = true := by decide
theorem test_rail_release_while_held : after (.railHoldRelease false 0 3 true 0) { railHeld with boot := { railHeld.boot with inReset := true } }
    (fun s' => s'.boot == { railHeld.boot with inReset := true, railHold := false } &&
        same railHeld s' []) = true := by decide
theorem test_thermal_release_while_held : after (.thermalHoldRelease false 0 3 true 0)
    { thermHeld with boot := { thermHeld.boot with inReset := true } }
    (fun s' => !s'.boot.thermalHold && s'.boot.inReset && s'.out.head? == some (.level "THERMTRIP_N" true))
        = true := by decide
def clearedB (s s' : State) (causes : Word) : Bool :=
  let f := State.fresh s.build s.straps s.fuses s.mems.flash s.mems.host
  s'.mems == f.mems && s'.clock == f.clock && s'.tbu == f.tbu && s'.queues == f.queues && s'.fence == f.fence && s'.sync == f.sync &&
  s'.latches == f.latches && s'.sched == f.sched && s'.tags == f.tags && s'.sup == f.sup && s'.part == f.part && s'.ports == f.ports &&
  s'.bridge == f.bridge && s'.fab == f.fab && s'.faults == f.faults && s'.hubs == f.hubs && s'.tally == f.tally && s'.ledger == f.ledger &&
  s'.bkg == f.bkg && s'.power == f.power && s'.logBuf == f.logBuf && s'.logSeq == f.logSeq && s'.pldmQ == f.pldmQ && s'.fuses == f.fuses &&
  s'.straps == f.straps && s'.build == f.build &&
  s'.msixTable == f.msixTable && same f s' [Reg.PWR_RESET_CAUSE] && rd s' Reg.PWR_RESET_CAUSE == causes && !s'.boot.cfgLocked &&
  !s'.boot.ucodeLocked && !s'.boot.serviceable && s'.boot.phase == 0
theorem test_power_on : after .powerOn live (fun s' => clearedB live s' 1#32 && s'.boot.inReset) = true := by decide
theorem test_reset_pulse : (idle (.resetNAssert 999) live &&
    after (.resetNAssert 1000000) live (fun s' => clearedB live s' 2#32 && s'.boot.inReset)
   && after (.resetNAssert 1000000) railHeld (fun s' => s'.boot == { railHeld.boot with inReset := true } &&
       same railHeld s' [])
   ) = true := by decide
theorem test_reset_pulse_undefined : exec (.resetNAssert 1000) live = .fault .resetPulseUndefined ∧
    exec (.resetNAssert 999999) live = .fault .resetPulseUndefined := ⟨rfl, rfl⟩
theorem test_protective_resets : (after .railProtectReset thermHeld (fun s' => clearedB thermHeld s' (resetCauses thermHeld 3) && s'.boot.railHold && s'.boot.thermalHold)
   && after .thermalTrip live (fun s' => clearedB live s' (resetCauses live 2) && s'.boot.thermalHold &&
       !s'.boot.railHold
      && s'.out.head? == some (.level "THERMTRIP_N" false))) = true := by decide

def inLoad : State := { State.reset with boot := { State.reset.boot with phase := 4, slot := 0, trying := [1, 2] } }
def inRead : State := { inLoad with boot := { inLoad.boot with phase := 1 } }
theorem test_flash_read_timeout : (after (.flashReadTimeout 0) inLoad (fun s' => s'.boot.phase == 15 &&
    s'.boot.trying == [] &&
    rd s' Reg.HST_BOOT_FAIL == 0x101010#32) && idle (.flashReadTimeout 0) live &&
        idle (.flashReadTimeout 0) inRst) = true := by decide
theorem test_image_fails : imageCode inRead 0 [] ≠ 0 ∧
   after (.imageReadComplete [] 0) inRead (fun s' => s'.boot.phase == 1 && s'.boot.slot == 1 &&
       s'.boot.trying == [2] && s'.boot.fallback
    && rd s' Reg.HST_BOOT_FAIL == putFld 0 0 8 (imageCode inRead 0 [])) = true ∧
   after (.imageReadComplete [] 0) { inRead with boot := { inRead.boot with trying := [] } } (fun s' => s'.boot.phase == 15 && s'.boot.slot == 0) = true
    ∧ idle (.imageReadComplete [] 0) inLoad = true := by decide
theorem test_load_complete : after .loadComplete inLoad (fun s' => s'.boot.ucodeLocked && !s'.boot.cfgLocked &&
    s'.sup.started && s'.boot.phase == 5 &&
    (List.range 16).all (fun n => (port s' n).st == .down)) = true ∧
   after .loadComplete (regs { inLoad with boot := { inLoad.boot with slot := 2 } } [(Reg.LNK_PORT_EN,
       0xFFFE)]) (fun s' => (port s' 0).st == (if wbit (rd s' Reg.LNK_PORT_EN) 0 then .hold else .disabled) &&
       (port s' 1).st == .hold) = true
   ∧ idle .loadComplete live = true := by decide +kernel

def fwInit : State := { live with boot := { State.reset.boot with phase := 5, slot := 1, trying := [0], ucodeLocked := true }, clock := State.reset.clock }
theorem test_hw_training : after (.hwTrainingComplete 65536 0) { fwInit with boot := { fwInit.boot with fwReady := true } } (fun s' => s'.boot.hwDone && s'.boot.phase == 6 && same fwInit s' []) = true ∧
   after (.hwTrainingComplete 65536 0) fwInit (fun s' => s'.boot.hwDone && s'.boot.phase == 5) = true ∧
   after (.hwTrainingComplete 5 0) fwInit (fun s' => !s'.boot.hwDone && s'.boot.phase == 10 &&
       rd s' Reg.HST_BOOT_HWFAIL == 5) = true := by decide
theorem test_fw_init_budget : after (.fwInitBudgetExpiry 0) fwInit (fun s' => rd s' Reg.HST_BOOT_FAIL == 0x1100#32 &&
    !s'.sup.started && s'.boot.phase == 1 && s'.boot.slot == 0 && s'.boot.trying == []) = true ∧
   after (.fwInitBudgetExpiry 0) { fwInit with boot := { fwInit.boot with trying := [] } } (fun s' => s'.boot.phase == 15) = true ∧ idle (.fwInitBudgetExpiry 0) live = true := by decide
theorem test_sup_ready : after (.supReady true) { fwInit with boot := { fwInit.boot with hwDone := true } } (fun s' => s'.sup.ready && s'.sup.wdogOn && s'.boot.phase == 6 && same fwInit s' []) = true ∧
   after (.supReady false) live (fun s' => s'.sup == { live.sup with ready := false } && s'.boot == live.boot &&
       same live s' []) = true ∧
   idle (.supReady true) { live with sup := { live.sup with held := true } } = true := by decide
def hostWin : State := regs { fwInit with boot := { fwInit.boot with phase := 6, slot := 0 } } [(Reg.FENCE_EGRESS_CEIL 0, 0x10002), (Reg.FENCE_PART_INIT, 1)]
theorem test_config_lock : after (.configLock 7) hostWin (fun s' => s'.boot.cfgLocked && !s'.boot.serviceable &&
    s'.boot.phase == 7 && rd s' (Reg.FENCE_EGRESS_CAP 0) == 0x10002#32
     && rd s' Reg.FENCE_PART_ACTIVE == 1 && s'.boot.waitSource && s'.clock == hostWin.clock &&
         s'.mems == hostWin.mems) = true ∧
   after (.lockWindowExpiry 7) { hostWin with tbu := { hostWin.tbu with source := 1 } } (fun s' => s'.clock.firstFrom == some 7 && s'.boot.phase == 7) = true ∧
   after (.lockWindowExpiry 7) { hostWin with boot := { hostWin.boot with slot := 2 } } (fun s' => s'.boot.phase == 9 && s'.boot.cfgLocked && s'.clock == hostWin.clock) = true ∧
   idle (.configLock 0) live = true ∧ idle (.lockWindowExpiry 0) live = true := by decide
def unconf : State := regs { live with boot := { live.boot with unconfirmed := true } } [(Reg.HST_SVN, 9)]
theorem test_confirm : after .confirm unconf (fun s' => s'.boot == live.boot && s'.fuses.minSvn == 9 &&
    rd s' Reg.HST_SVN == 0x90009#32 && same unconf s' [Reg.HST_SVN] && s'.clock == live.clock) = true ∧
   idle .confirm live = true ∧ idle .confirm { unconf with sup := { unconf.sup with checkLost := true } }
       = true := by decide

/-! ## The supervisor -/

def restarted (s s' : State) (causes : Nat) : Bool :=
  !s'.sup.ready && s'.sup.wdog == 0 && !s'.sup.wdogOn && !s'.sup.started && !s'.sup.irq && s'.sup.overlayHeld && s'.sup.checkLost == s.sup.checkLost &&
  rd s' Reg.SUP_RESET_CAUSE == BitVec.ofNat 32 causes && up s s' Reg.SUP_RESET_COUNT && s'.clock == s.clock && s'.tbu == s.tbu && s'.sched == s.sched && s'.queues == s.queues
  && s'.fence == s.fence && s'.sync == s.sync && s'.ports == s.ports && s'.bridge == s.bridge && s'.fab == s.fab && s'.hubs == s.hubs && s'.tally == s.tally && s'.ledger == s.ledger && s'.bkg == s.bkg
  && s'.boot == s.boot && s'.mems.mem == s.mems.mem && s'.mems.supData == Mem.writeN 0#8 [] 0 (Mem.readN 0#8 s.mems.supCode s.sup.codeLen s.sup.dataLen)
def lost : State := { live with sup := { live.sup with checkLost := true } }
theorem test_comparator : after (.comparatorMismatch 0) { live with mems := { live.mems with supCode := [(16, 7)] }, sup := { live.sup with codeLen := 16, dataLen := 2 } } (fun s' => restarted { live with mems := { live.mems with supCode := [(16, 7)] }, sup := { live.sup with codeLen := 16, dataLen := 2 } } s' 2 && s'.sup.restarting && up live s' Reg.SUP_MISMATCH_COUNT && s'.mems.supData == [(0, 7)]) = true ∧
   idle (.comparatorMismatch 0) lost = true := by decide
def late : State := { live with sup := { live.sup with wdog := 4 } }
theorem test_watchdog_fires : after (.watchdogFire true 0) late (fun s' => restarted late s' 3 &&
    s'.sup.restarting) = true ∧ after (.watchdogFire false 0) late (fun s' => restarted late s' 1) = true ∧
  after (.watchdogFire true 0) { late with sup := { late.sup with checkLost := true } } (fun s' => restarted { late with sup := { late.sup with checkLost := true } } s' 1) = true ∧
  idle (.watchdogFire true 0) { late with sup := { late.sup with wdog := 3 } } = true := by decide
def again (n : Nat) : State := { live with sup := { live.sup with restarting := true, failed := n } }
theorem test_third_failed_restart_holds : after (.fwInitBudgetExpiry 0) (again 2) (fun s' => restarted (again 2) s' 4 && s'.sup.failed == 3 && s'.sup.held && !s'.sup.restarting) = true ∧
  after (.fwInitBudgetExpiry 0) (again 1) (fun s' => restarted (again 1) s' 4 && s'.sup.failed == 2 &&
      !s'.sup.held && s'.sup.restarting) = true := by decide
def supHeld : State := { live with sup := { live.sup with held := true, failed := 3 } }
theorem test_sup_release : after .supRelease supHeld (fun s' => restarted supHeld s' 8 && !s'.sup.held &&
    s'.sup.restarting && s'.sup.failed == 3) = true ∧ idle .supRelease live = true := by decide
theorem test_delay_parity : after (.delayParityError 0) live (fun s' => s'.sup == { live.sup with checkLost := true, checkerHalted := true } && rd s' Reg.SUP_CHECK_STATUS == setBitW (rd live Reg.SUP_CHECK_STATUS) 1) = true ∧ idle (.delayParityError 0) lost = true := by decide
def pos1 : State := { live with clock := { live.clock with index := 1601 } }
theorem test_self_test : after (.comparatorSelfTest none false 0) pos1 (fun s' => s'.sup == pos1.sup &&
    rd s' Reg.SUP_CHECK_STATUS == setBitW (rd pos1 Reg.SUP_CHECK_STATUS) 0) = true ∧
   after (.comparatorSelfTest (some 1) false 0) pos1 (fun s' => s'.sup == { pos1.sup with checkLost := true, checkerHalted := true } && !wbit (rd s' Reg.SUP_CHECK_STATUS) 0) = true ∧
   after (.comparatorSelfTest none true 0) pos1 (fun s' => s'.sup.checkLost) = true ∧
       idle (.comparatorSelfTest none false 0) lost = true := by decide

theorem test_watchdog_kick : after (.watchdogKick 5) { live with sup := { live.sup with wdog := 2 } } (fun s' => s' == live) = true ∧
   after (.watchdogKick 6) live (fun s' => s'.sup == live.sup && up live s' Reg.SUP_KICK_BAD_COUNT) = true := by decide
theorem test_supervisor_entry : after .supervisorEntry { live with sup := { live.sup with started := false } } (fun s' => s' == live) = true ∧ idle .supervisorEntry live = true := by decide

/-! ## The Fence -/

theorem test_part_active : after (.fencePartActiveWrite 0x81 0) live (fun s' => rd s' Reg.FENCE_PART_ACTIVE == 0x81#32 && same live s' [Reg.FENCE_PART_ACTIVE]) = true ∧
   after (.fencePartActiveWrite 0x83 0) lost (fun s' => rd s' Reg.FENCE_PART_ACTIVE == 1#32 &&
       rd s' Reg.FENCE_COUNT_LOCK == 2#32) = true := by decide
def ceil : State := regs live [(Reg.FENCE_EGRESS_CEIL 0, 0x100010)]
theorem test_egress_cap : after (.egressCapWrite 0 0x100010 0) ceil (fun s' => rd s' (Reg.FENCE_EGRESS_CAP 0) == 0x100010#32 && same ceil s' [Reg.FENCE_EGRESS_CAP 0] && s'.fence == ceil.fence) = true ∧
   after (.egressCapWrite 0 0x100011 0) ceil (fun s' => up ceil s' Reg.FENCE_COUNT_EGRESS &&
       rd s' Reg.FENCE_EVENT == setBitW (rd ceil Reg.FENCE_EVENT) 1 &&
       rd s' (Reg.FENCE_EGRESS_CAP 0) == rd ceil (Reg.FENCE_EGRESS_CAP 0)) = true := by decide
def closed (n : Nat) : State := { live with fence := { live.fence with failedClosed := [(1, n)] } }
theorem test_table_reload : after (.tableReloadComplete 1 true) (closed 1) (fun s' => s'.fence.failedClosed == [] &&
    same live s' []) = true ∧
   after (.tableReloadComplete 1 false) (closed 1) (fun s' => s'.fence == (closed 2).fence &&
       same live s' []) = true ∧ idle (.tableReloadComplete 1 true) (closed 2) = true := by decide

/-! ## The timebase -/

def pps (s : State) : State := regs s [(Reg.TBU_CFG, 0x3C000001)]
theorem test_pps_first : ppsEn (pps live) = true ∧
    after (.ppsInEdge false 3) (pps live) (fun s' => s'.tbu.pps.count == 1 && s'.tbu.pps.last == some 30000003 &&
    !s'.tbu.pps.qualified) = true := by decide
def third : State := { pps live with tbu := { live.tbu with pps := { live.tbu.pps with count := 3, last := some 1000 } }, clock := { live.clock with elapsed := 1000001000 } }
theorem test_pps_fourth_qualifies : after (.ppsInEdge false 1000) third (fun s' => s'.tbu.pps.count == 4 &&
    s'.tbu.pps.qualified && s'.tbu.pps.last == some 1000002000) = true ∧
   after (.ppsInEdge false 0) { third with clock := { third.clock with elapsed := 1000000000 } } (fun s' => s'.tbu.pps.qualified) = true ∧
   idle (.ppsInEdge false 1001) third = true ∧
   after (.ppsInLoss 0) third (fun s' => s'.tbu.pps.count == 0 && !s'.tbu.pps.qualified && s'.tbu.pps.last == none &&
       s'.tbu.ptp == third.tbu.ptp) = true := by decide
theorem test_ref10m : after (.ref10mQualify 0) { regs live [(Reg.TBU_CFG, 0x3C000002)] with tbu := { live.tbu with source := 2 } } (fun s' => s'.tbu.ref10m && s'.tbu.source == 1 && s'.tbu.quality == live.tbu.quality && rd s' Reg.TBU_EVENT == 16) = true ∧
   after (.ref10mLoss 0) { live with tbu := { live.tbu with ref10m := true, source := 1 } } (fun s' => !s'.tbu.ref10m && s'.tbu.source == 2 && rd s' Reg.TBU_EVENT == 16) = true := by decide
def ptpOn : State := regs { live with tbu := { live.tbu with ptp := { live.tbu.ptp with count := 2, lastInterval := some 7 } } } [(Reg.TBU_CFG, 0x3C050100)]
theorem test_ptp_sync : ptpProfile ptpOn = 1 ∧ after (.ptpSyncRx 8 5 0) ptpOn (fun s' => s'.tbu.ptp.count == 3 &&
    s'.tbu.ptp.lastInterval == some 8) = true ∧
   after (.ptpSyncRx 7 5 0) ptpOn (fun s' => s'.tbu.ptp.count == 2) = true ∧
       after (.ptpSyncRx 9 5 0) ptpOn (fun s' => s'.tbu.ptp.count == 1 && s'.tbu.ptp.lastInterval == some 9) = true ∧
       idle (.ptpSyncRx 8 5 0) live = true := by decide
theorem test_ptp_announce : after (.ptpAnnounceRx 8 5 true 7 37 true false 0) ptpOn (fun s' => s'.tbu.ptp.utc == 37 &&
    s'.tbu.ptp.leap61 && !s'.tbu.ptp.leap59 && s'.tbu.ptp.announceOk) = true ∧
   after (.ptpAnnounceRx 8 5 true 8 37 true false 0) ptpOn (fun s' => !s'.tbu.ptp.announceOk) = true ∧
       idle (.ptpAnnounceRx 8 4 true 7 37 true false 0) ptpOn = true ∧
       idle (.ptpAnnounceRx 8 0 true 7 37 true false 0) live = true := by decide
theorem test_ptp_loss : after (.ptpLoss 0) { ptpOn with tbu := { ptpOn.tbu with ptp := { ptpOn.tbu.ptp with qualified := true, announceOk := true } } } (fun s' => !s'.tbu.ptp.qualified && s'.tbu.ptp.count == 0 && !s'.tbu.ptp.announceOk && s'.tbu.pps == ptpOn.tbu.pps) = true := by decide
theorem test_ptp_measurement : after (.ptpMeasurement 0) { ptpOn with tbu := { ptpOn.tbu with ptp := { ptpOn.tbu.ptp with pendingOffsets := [4, 10] } } } (fun s' => s'.tbu.ptp.pendingOffsets == [] && s'.tbu.ptp.offset == some 7) = true := by decide
def hold : State := { pps live with tbu := { live.tbu with holding := true, source := 3, pps := { live.tbu.pps with qualified := true, count := 4 } } }
theorem test_revert_hold_off : after (.revertHoldOffExpiry 0) hold (fun s' => s'.tbu.source == bestSource hold &&
    bestSource hold != 3 && !s'.tbu.holding && s'.tbu.quality == hold.tbu.quality) = true ∧
    idle (.revertHoldOffExpiry 0) live = true := by decide
def free : State := { live with tbu := { live.tbu with quality := .freewheel, everTraced := true, fwB0 := 10000000 } }
theorem test_untraceable_entry : untraceNs free < boundAt free 0 ∧
    after (.untraceableEntry 0) free (fun s' => s'.tbu.quality == .untraceable && s'.tbu.source == free.tbu.source &&
    rd s' Reg.TBU_EVENT == 8) = true := by decide
theorem test_label : after (.labelSubmit 0x10002) (regs live [(Reg.TBU_LABEL_LO,
    5)]) (fun s' => s'.tbu.label == some 8589934597) = true ∧
  after (.labelSubmit 0x10002) { live with tbu := { live.tbu with ptp := { live.tbu.ptp with qualified := true } } } (fun s' => s'.tbu.label == none && up live s' Reg.TBU_LABEL_IGNORED_COUNT && same live s' [Reg.TBU_LABEL_IGNORED_COUNT]) = true := by decide
theorem test_snap : after (.snap 9) live (fun s' => s'.tbu.snap == [25000009#32, 8#32, 0x30000#32, 0xFFFFFFFF#32] &&
    same live s' []) = true := by decide
def ppsBall : State := { live with fence := { live.fence with allocs := [(2, { cls := 1, use := 1, part := 0, first := 0, count := 1 })] } }
theorem test_pps_out : timingBall ppsBall 0 = true ∧
    after (.ppsOutRise 975000000) ppsBall (fun s' => s'.out.head? == some (.pulse "PPS_OUT" 975000000 100000) &&
    s'.tbu == live.tbu) = true ∧
  idle (.ppsOutRise 975000000) (regs ppsBall [(Reg.TBU_CFG, 0x3C000800)]) = true := by decide
theorem test_leap_second : after .leapSecond { live with tbu := { live.tbu with ptp := { live.tbu.ptp with qualified := true, utc := 37, leap59 := true } } } (fun s' => s'.tbu.ptp.utc == 36 && !s'.tbu.ptp.leap59 && s'.clock == live.clock) = true := by decide

/-! ## Registers -/

theorem test_register_write : after (.registerWrite .bar0 Reg.TICK_OVL_COUNT 0xFFFFF803 none .supervisor 0) live (fun s' => rd s' Reg.TICK_OVL_COUNT == 3 && same live s' [Reg.TICK_OVL_COUNT] && s'.mems == live.mems && s'.fence == live.fence && s'.boot == live.boot && s'.out == live.out) = true ∧
  ((regRow live Reg.TICK_OVL_COUNT).map (·.acc) = some .rw ∧ brokenBound live Reg.TICK_OVL_COUNT = none) := by decide
theorem test_locked_writes_are_refused : after (.registerWrite .bar0 Reg.TBU_LIMITS 0x0271000A none .supervisor 0) live (fun s' => up live s' Reg.FENCE_COUNT_TIME && rd s' Reg.FENCE_EVENT == 4 && rd s' Reg.TBU_LIMITS == rd live Reg.TBU_LIMITS && s'.mems == live.mems &&
      same live s' [Reg.FENCE_EVENT, Reg.FENCE_VLOG_0, Reg.FENCE_VLOG_1, Reg.FENCE_COUNT_TIME,
          Reg.HST_ALERT_STATUS]) = true ∧
   after (.registerWrite .bar0 Reg.TICK_CFG 0x32140064 none .supervisor 0) live (fun s' => up live s' Reg.FENCE_COUNT_LOCK && rd s' Reg.FENCE_EVENT == 8) = true ∧
   after (.registerWrite .bar0 Reg.PWR_THERM_CFG 0 none .supervisor 0) live (fun s' => up live s' Reg.FENCE_COUNT_LOCK && rd s' Reg.FENCE_EVENT == 64) = true := by decide
theorem test_pf0_refused_on_supervisor_registers : after (.registerWrite .bar0 Reg.TICK_OVL_COUNT 3 none .pf0 0) live (fun s' => up live s' Reg.HST_BAD_ACCESS_COUNT && rd s' Reg.TICK_OVL_COUNT == 0 && s'.sup == live.sup) = true := by decide
theorem test_no_register_no_effect : regRow live 0x1100F0 = none ∧
    idle (.registerWrite .bar0 0x1100F0 1 none .supervisor 0) live = true ∧
  after (.registerWrite .bar0 0x1100F2 1 none .supervisor 0) live (fun s' => up live s' Reg.HST_BAD_ACCESS_COUNT) = true := by decide
theorem test_bar_refused_access : after (.barRefusedAccess true 2 0) live (fun s' => up live s' Reg.HST_BAD_ACCESS_COUNT && s'.out.head? == some (.value 65535)) = true ∧ after (.barRefusedAccess false 2 0) live (fun s' => up live s' Reg.HST_BAD_ACCESS_COUNT && s'.mems == live.mems) = true := by decide
theorem test_supervisor_bus_error : after (.supervisorBusError 64 0) live (fun s' => s'.out.head? == some .busError && up live s' Reg.FENCE_COUNT_PART && rd s' Reg.FENCE_EVENT == 1) = true := by decide
def big : State := { live with clock := { live.clock with seq := 0x300000007 } }
theorem test_pair_read : after (.pairLoRead Reg.TICK_SEQ_LO false .pf0 0) big (fun s' => s'.out.head? == some (.value 7) && readReg { s' with clock := live.clock } .pf0 Reg.TICK_SEQ_HI 9 == 3 && readReg s' .supervisor Reg.TICK_SEQ_HI 9 == 0) = true ∧
  after (.pairLoRead Reg.TICK_SEQ_LO true .pf0 0) big (fun s' => s'.out.head? == some (.value 0x300000007)) = true ∧
      after (.pairLoRead Reg.TICK_CFG false .pf0 0) big (fun s' => s'.out.head? == some (.value 0x32140064) &&
      s'.latches == []) = true := by decide

/-! ## Ticks, items and overlays -/

theorem test_tick_edge : after (.tickEdge [] 0) live (fun s' => s'.clock.seq == 6 && s'.clock.index == 1606 &&
    s'.clock.edge == 8030000000 && s'.clock.elapsed == 35000000 && s'.clock.len == 5000000 && !s'.clock.slotOpen &&
    s'.clock.bank != live.clock.bank) = true ∧
  after (.tickEdge [] 0) { live with sched := { live.sched with overlay := some (6, []) } } (fun s' => s'.clock.bank != live.clock.bank) = true ∧ idle (.tickEdge [] 0) State.reset = true := by decide +kernel
def locked : State := regs { live with boot := { live.boot with phase := 7, serviceable := false }, clock := { State.reset.clock with firstFrom := some 4999999 } } [(Reg.FENCE_PART_INIT, 1)]
theorem test_first_tick : after (.firstTick []) locked (fun s' => s'.clock.running && s'.clock.seq == 0 &&
    s'.clock.index == 1 && s'.boot.serviceable && s'.boot.phase == 8 && s'.fence.inForce == 1) = true ∧
  after (.firstTick []) { locked with clock := { locked.clock with firstFrom := some 5000000 } } (fun s' => s'.clock.index == 2) = true ∧ idle (.firstTick []) live = true := by decide +kernel
def flagged : State := { live with sync := { live.sync with flags := [3, 40] }, clock := { live.clock with stepCommitted := true }, tbu := { live.tbu with stepPending := true }, fence := { live.fence with allocs := [(2, { cls := 8, use := 1, part := 0, first := 0, count := 8 })] } }
theorem test_maintenance_slot : flagUse flagged 3 = some 1 ∧
    after .maintenanceSlotOpen flagged (fun s' => s'.clock.slotOpen && s'.sync.flags == [40] &&
    s'.clock.steps == 1 && !s'.clock.stepCommitted && !s'.tbu.stepPending && s'.clock.seq == 5) = true ∧
  idle .maintenanceSlotOpen { live with clock := { live.clock with slotOpen := true } } = true := by decide
/-- An item of a queue entry on a lane. -/
def work (i : Item) : State := { live with sched := { live.sched with items := [(0, i)], nextItem := 1 } }
def anItem : Item := { Item.zero with src := .entry 0 0, desc := { Desc.zero with opcode := 1 }, lanes := [3], start := 400000, finish := 500000, seq := 5, ph := .waiting }
theorem test_grace : after .graceDeadline (work { anItem with seq := 4, ph := .running }) (fun s' => (item s' 0).ph == .done && rd s' Reg.TICK_OVERRUN_COUNT == 1 && s'.clock == live.clock) = true ∧
   after .graceDeadline (work anItem) (fun s' => (item s' 0).ph == .waiting &&
       rd s' Reg.TICK_OVERRUN_COUNT == 0) = true := by decide +kernel
theorem test_item_starts : laneTurn (work anItem) 0 = true ∧ foreStart live ≤ 400000 ∧
    after (.itemStart 0 400000) (work anItem) (fun s' => item s' 0 == { anItem with ph := .running } &&
    same live s' [] && s'.mems == live.mems && s'.queues == live.queues) = true ∧
    idle (.itemStart 0 399999) (work anItem) = true := by decide
theorem test_item_completes : after (.workItemComplete 0 5) (work { anItem with ph := .running }) (fun s' => (item s' 0).ph == .done && rd s' Reg.TICK_OVERRUN_COUNT == 0) = true ∧
  after (.workItemComplete 0 100000) (work { anItem with ph := .running, seq := 4 }) (fun s' => graceNs s' == 100000 && (item s' 0).ph == .done && rd s' Reg.TICK_OVERRUN_COUNT == 1) = true := by decide
def ovl (k : Nat) : State := regs live [(Reg.TICK_OVL_TARGET_LO, 1606), (Reg.TICK_OVL_COUNT, k)]
theorem test_overlay_not_next : after (.overlayCommit 0) live (fun s' => s'.sched.ovlResult == 6 &&
    same live s' [] && s'.queues == live.queues) = true ∧
  after (.overlayCommit 0) { ovl 0 with sched := { live.sched with overlay := some (6, []) } } (fun s' => s'.sched.ovlResult == 7 && s'.sched.overlay == some (6, [])) = true := by decide
theorem test_overlay_held : after (.overlayCommit 0) { ovl 0 with sup := { live.sup with overlayHeld := true } } (fun s' => s'.sched.ovlResult == 5 && s'.sched.overlay == none && rd s' Reg.SUP_OVERLAY_HELD_COUNT == 1) = true := by decide
theorem test_overlay_late : after (.overlayCommit 4975001) (ovl 0) (fun s' => s'.sched.ovlResult == 2 &&
    rd s' Reg.TICK_SCHED_LATE_COUNT == 1 && rd s' Reg.TICK_EVENT == 1) = true ∧
    after (.overlayCommit 4975000) (ovl 0) (fun s' => s'.sched.ovlResult == 1 && s'.sched.overlay == some (6, []) &&
    same (ovl 0) s' []) = true := by decide
theorem test_overlay_too_long : after (.overlayCommit 0) (ovl 1025) (fun s' => s'.sched.ovlResult == 3 &&
    s'.sched.ovlItem == 0x7FF && rd s' Reg.FENCE_COUNT_PART == 1) = true := by decide

/-! ## Queues -/

/-- Queue 0 configured: 8 entries, rings in module memory at 0x2000 and 0x3000, vector 4. -/
def qcfg : State :=
  let al : Alloc := { cls := 0x0C, use := 1, part := 0, first := 0, count := 8 }
  regs { live with fence := { live.fence with allocs := live.fence.allocs ++ [(2, al)] } }
    [(Reg.WQ_Q_SQ_BASE_LO 0, 0x2000), (Reg.WQ_Q_CQ_BASE_LO 0, 0x3000), (Reg.WQ_Q_CFG 0, 0x40003)]
def withQ (f : Queue → Queue) : State := setQueue qcfg 0 (f Queue.init)
def enQ : Queue := { Queue.init with st := .enabled, phase := true, firstPass := false }
def qon (q : Queue) : State := setQueue qcfg 0 q

theorem test_queue_enable : enableOk qcfg 0 = true ∧ after (.queueEnable 0 0) qcfg (fun s' => queue s' 0 == enQ &&
    same qcfg s' [] && queue s' 1 == Queue.init) = true ∧
  after (.queueEnable 1 0) qcfg (fun s' => (queue s' 1).st == .disabled && (queue s' 1).cfgErr &&
      rd s' Reg.WQ_EVENT == 16) = true ∧ idle (.queueEnable 0 0) (qon enQ) = true ∧
      idle (.queueEnable 64 0) qcfg = true ∧
  after (.queueEnable 0 0) (qon { enQ with st := .disabled, tail := 3 }) (fun s' => queue s' 0 == { enQ with tail := 3 }) = true := by decide
theorem test_queue_shutdown : after (.queueShutdown 0) (qon { enQ with posted := [1] }) (fun s' => queue s' 0 == { enQ with st := .stopping, posted := [1] }) = true ∧ idle (.queueShutdown 0) qcfg = true ∧
  after (.queueShutdown 0) (qon { enQ with st := .faulted }) (fun s' => (queue s' 0).st == .stopping)
      = true := by decide
theorem test_queue_reset : after (.queueReset 0 0) (qon enQ) (fun s' => queue s' 0 == Queue.init &&
    rd s' (Reg.WQ_Q_CFG 0) == 0) = true ∧
  after (.queueReset 0 0) (qon { enQ with posted := [7, 0], fetching := [7] }) (fun s' => (queue s' 0).st == .resetting && (queue s' 0).posted == [] && (queue s' 0).fetching == [] &&
    (queue s' 0).aborts.map (·.index) == [7, 0] && SMap.get? (queue s' 0).done 7 == some .aborted &&
        SMap.get? (queue s' 0).done 0 == some .aborted) = true ∧
        idle (.queueReset 0 0) (qon { enQ with st := .resetting }) = true := by decide
def rec0 (i : Nat) : PendingRec := { index := i, desc := Desc.zero, status := .aborted, detail := 0, invalid := false, time := [0, 0, 0] }
theorem test_aborted_records : after (.abortedRecordsWrite 0 0) (qon { enQ with st := .stopping, aborts := [rec0 7, rec0 0] }) (fun s' => (queue s' 0).aborts == [] && (queue s' 0).st == .disabled && (queue s' 0).unreleased == [false, false] && rd s' Reg.WQ_ABORTED_COUNT == 2) = true ∧
  after (.abortedRecordsWrite 0 0) (qon { enQ with st := .resetting, aborts := [rec0 7, rec0 0] }) (fun s' => queue s' 0 == Queue.init && rd s' Reg.WQ_ABORTED_COUNT == 2) = true ∧
  after (.abortedRecordsWrite 0 0) (qon { enQ with st := .resetting, aborts := [rec0 7, rec0 0], unreleased := List.replicate 7 false }) (fun s' => (queue s' 0).aborts == [rec0 0] && (queue s' 0).st == .resetting && rd s' Reg.WQ_ABORTED_COUNT == 1) = true ∧
  idle (.abortedRecordsWrite 0 0) (qon { enQ with aborts := [rec0 7], unreleased := List.replicate 8 false })
      = true ∧ idle (.abortedRecordsWrite 0 0) qcfg = true := by decide
def cached (i : Nat) : CacheSlot := { index := i, desc := Desc.zero, pos := i, target := 6, first := 6, fail := none, taken := false, steps := 0 }
theorem test_queue_invalidate : after (.queueInvalidate 0 0) (qon { enQ with posted := [0, 1, 2], cache := [cached 0], fetching := [1], toFetch := [2] }) (fun s' => (queue s' 0).invBusy && (queue s' 0).cache == [] && (queue s' 0).posted == [0, 1, 2] && (queue s' 0).fetching == [0, 1, 2] && (queue s' 0).toFetch == []) = true ∧
  after (.queueInvalidate 0 0) (qon { enQ with st := .faulted, posted := [0, 1], cache := [cached 0] }) (fun s' => (queue s' 0).invBusy && (queue s' 0).cache == [] && (queue s' 0).fetching == [] && (queue s' 0).st == .faulted) = true ∧ idle (.queueInvalidate 0 0) qcfg = true ∧
  idle (.queueInvalidate 0 0) (qon { enQ with posted := [0, 1], invBusy := true }) = true := by decide
theorem test_invalidate_complete : after (.invalidateComplete 0 0) (qon { enQ with invBusy := true, dbWaiting := [(false, 2)] }) (fun s' => !(queue s' 0).invBusy && (queue s' 0).tail == 2 && (queue s' 0).posted == [0, 1]) = true ∧
  after (.invalidateComplete 0 0) (qon { enQ with invBusy := true }) (fun s' => queue s' 0 == enQ) = true ∧
      after (.invalidateComplete 0 0) (qon { enQ with invBusy := true, dbWaiting := [(true, 1)], unreleased := [true] }) (fun s' => (queue s' 0).unreleased == [] && (queue s' 0).cqHead == 1) = true ∧ idle (.invalidateComplete 0 0) qcfg = true := by decide
theorem test_tail_doorbell : after (.doorbellSqTail 0 7 0) (qon enQ) (fun s' => (queue s' 0).tail == 7 &&
    (queue s' 0).posted == [0, 1, 2, 3, 4, 5, 6] && (queue s' 0).dbResult == 0 && (queue s' 0).dbRetry == 0) = true ∧
  after (.doorbellSqTail 0 8 0) (qon enQ) (fun s' => (queue s' 0).dbResult == 0x0B &&
      rd s' Reg.WQ_DB_REFUSED_COUNT == 1 && (queue s' 0).posted == []) = true ∧
  after (.doorbellSqTail 0 1 0) (qon { enQ with tail := 7, posted := [0, 1, 2, 3, 4, 5, 6] }) (fun s' => (queue s' 0).dbResult == 0x0B) = true ∧
  after (.doorbellSqTail 0 1 0) qcfg (fun s' => (queue s' 0).dbResult == 0x0D && (queue s' 0).dbRetry == 0xFFFF &&
      rd s' Reg.WQ_DB_REFUSED_COUNT == 1) = true := by decide
theorem test_tail_doorbell_not_ready : after (.doorbellSqTail 0 1 0) { qon enQ with fence := { qcfg.fence with inForce := 2 } } (fun s' => (queue s' 0).dbResult == 0x0D && rd s' Reg.WQ_DB_REFUSED_COUNT == 1) = true ∧
  after (.doorbellSqTail 0 1 0) { qon enQ with boot := { live.boot with serviceable := false } } (fun s' => (queue s' 0).dbResult == 0x0D && rd s' Reg.HST_DOORBELL_EARLY_COUNT == 1) = true ∧
  after (.doorbellSqTail 0 1 0) (qon { enQ with invBusy := true }) (fun s' => (queue s' 0).dbWaiting == [(false,
      1)]) = true ∧ idle (.doorbellSqTail 64 1 0) qcfg = true := by decide
theorem test_head_doorbell : after (.doorbellCqHead 0 2 0) (qon { enQ with unreleased := [true, false, true] }) (fun s' => (queue s' 0).cqHead == 2 && (queue s' 0).unreleased == [true] && (queue s' 0).dbResult == 0) = true ∧
  after (.doorbellCqHead 0 4 0) (qon { enQ with unreleased := [true, false, true] }) (fun s' => (queue s' 0).dbResult == 0x0B && (queue s' 0).cqHead == 0 && rd s' Reg.WQ_DB_REFUSED_COUNT == 1) = true ∧
  after (.doorbellCqHead 0 1 0) (qon { enQ with invBusy := true }) (fun s' => (queue s' 0).dbWaiting == [(true,
      1)]) = true ∧ idle (.doorbellCqHead 64 1 0) qcfg = true ∧
  after (.doorbellCqHead 0 1 0) { qon enQ with boot := { live.boot with serviceable := false } } (fun s' => (queue s' 0).dbResult == 0x0D && rd s' Reg.HST_DOORBELL_EARLY_COUNT == 1) = true := by decide
/-- A descriptor of an opcode with key 0xAAAA and defer 3. -/
def sqe (op : Nat) : List Byte := leBytes 1 op ++ leBytes 1 0 ++ leBytes 2 0xAAAA ++ leBytes 4 0 ++ leBytes 1 3 ++ leBytes 23 0 ++ leBytes 32 0
def waits : State := qon { enQ with posted := [0], fetching := [0], tail := 1 }
theorem test_descriptors_enter_the_cache : ([(0, Instr.nop 0 (sqe 0) 0), (8, .barrier 0 (sqe 8) 0), (4,
    .serveSubmit 0 (sqe 4) 0), (6, .servePause 0 (sqe 6) 0), (7, .serveResume 0 (sqe 7) 0)].all (fun e =>
   after e.2 waits (fun s' => (queue s' 0).posted == [0] && (queue s' 0).cache.any (fun x => x.index == 0 &&
       x.desc == parseDesc (sqe e.1) && !x.taken && x.target == 6 && x.first == 6 &&
       x.fail == checkEntry waits 0 0 x.desc)))) = true ∧
   checkEntry waits 0 0 (parseDesc (sqe 0)) = none ∧ idle (.barrier 0 (sqe 0) 0) waits = true := by decide
theorem test_serve_cancel : checkEntry waits 0 0 (parseDesc (sqe 5)) = none ∧
    after (.serveCancel 0 (sqe 5) 0) waits (fun s' => SMap.get? (queue s' 0).done 0 == some .ok &&
    (queue s' 0).posted == []) = true ∧
   checkEntry (regs waits [(Reg.PART_KEY 0, 0x1BBBB)]) 0 0 (parseDesc (sqe 5)) ≠ none ∧
       after (.serveCancel 0 (sqe 5) 0) (regs waits [(Reg.PART_KEY 0,
       0x1BBBB)]) (fun s' => (queue s' 0).posted == [0] && (queue s' 0).cache.length == 1) = true := by decide
def inRing : State := memWrite waits 0x2000 (sqe 0)
theorem test_descriptor_fetch : after (.descriptorFetchComplete 0 0 true 0) inRing (fun s' => (queue s' 0).cache.any (fun x => x.index == 0 && x.desc == parseDesc (sqe 0))) = true ∧
   ((sqBase inRing 0).2 = false ∧ (queue inRing 0).fetching = [0] ∧
       memPoisoned { inRing with mems := { inRing.mems with poisonMem := [128] } } 0x2000 64 = true ∧
       (∃ s', exec (.descriptorFetchComplete 0 0 false 0) inRing = .next s')) ∧
   idle (.descriptorFetchComplete 0 0 true 0) (regs waits [(Reg.WQ_Q_SQ_BASE_LO 0, 0x2001)]) = true := by
  refine ⟨by decide +kernel, ⟨by decide +kernel, by decide +kernel, by decide +kernel, _, rfl⟩, by decide +kernel⟩

/-! ## Host reads, kernels and copies -/

def tagged (u : ReadUse) : State := { work { anItem with ph := .running } with tags := [(2, { gen := 3, waiting := some u, quarantined := false })] }
theorem test_late_completion : after (.hostReadCompletion 34 none [1] 0) (tagged (.copy 0 0x4000 2)) (fun s' => rd s' Reg.WQ_LATE_CPL_COUNT == 1 && rd s' Reg.WQ_EVENT == 4 && s'.tags == (tagged (.copy 0 0x4000 2)).tags && s'.mems == live.mems) = true ∧ after (.hostReadCompletion 16 none [1] 0) live (fun s' => rd s' Reg.WQ_LATE_CPL_COUNT == 1) = true := by decide
theorem test_copy_completion : after (.hostReadCompletion 35 none [1, 2,
    3] 0) (tagged (.copy 0 0x4000 2)) (fun s' => s'.mems.mem == [(0x4000, 1), (0x4001, 2)] && (item s' 0).wrote &&
    (SMap.get s'.tags TagSlot.init 2).waiting == none) = true := by decide
def tq (u : ReadUse) : State := setQueue { tagged u with regs := qcfg.regs, fence := qcfg.fence } 0 { enQ with posted := [0, 1], fetching := [1] }
def ends (s' : State) (st : Status) : Bool := (item s' 0).ph == .done && SMap.get? (queue s' 0).done 0 == some st
theorem test_failed_completion : after (.hostReadCompletion 35 (some .unsupported) [] 0) (tq (.copy 0 0x4000 2)) (fun s' => ends s' .poisoned && (SMap.get s'.tags TagSlot.init 2).quarantined && (SMap.get s'.tags TagSlot.init 2).waiting == none) = true ∧
   after (.completionTimeout 2 0) (tq (.copy 0 0x4000 2)) (fun s' => ends s' .poisoned &&
       (SMap.get s'.tags TagSlot.init 2).quarantined) = true ∧
       idle (.completionTimeout 3 0) (tq (.copy 0 0x4000 2)) = true := by decide
theorem test_failed_fetch_meets_its_hypotheses : (SMap.get (tq (.fetch 0 1)).tags TagSlot.init 2).waiting = some (.fetch 0 1) ∧ (queue (tq (.fetch 0 1)) 0).fetching = [1] := by decide
def quar : State := { live with tags := [(2, { gen := 3, waiting := none, quarantined := true })] }
theorem test_quarantine_end : after (.tagQuarantineEnd 2) quar (fun s' => !(SMap.get s'.tags TagSlot.init 2).quarantined && s'.mems == live.mems) = true ∧ idle (.tagQuarantineEnd 2) live = true := by decide

/-- A running item of an opcode with its operands. -/
def running (op : Nat) (ops : List Byte) : State := setQueue { work { anItem with ph := .running, desc := { Desc.zero with opcode := op, ops := ops } } with regs := qcfg.regs, fence := qcfg.fence } 0 { enQ with posted := [0] }
def kern (code arg n : Nat) : State := running 1 (leBytes 8 code ++ leBytes 8 arg ++ leBytes 16 n)
theorem test_kernel_writes : after (.compute 0 [(true, 0x5000, [1, 2]), (false, 0x6000,
    [0])] 0) (kern 0x4000 0 0) (fun s' => s'.mems.mem == [(0x5000, 1), (0x5001, 2)] && (item s' 0).wrote &&
    (item s' 0).ph == .running && same live s' (qcfg.regs.map (·.1))) = true ∧
    idle (.compute 0 [] 0) (kern 0x4000 0 0) = true ∧ idle (.compute 0 [] 0) (work anItem) = true := by decide
theorem test_kernel_windows : after (.compute 0 [] 0) (kern 0xFC0 0 0) (fun s' => ends s' .windowViolation) = true ∧
    after (.compute 0 [] 0) (kern 0x4000 0x100FFF 4) (fun s' => ends s' .windowViolation) = true ∧
  after (.compute 0 [(true, 0x101000, [1])] 0) (kern 0x4000 0 0) (fun s' => ends s' .windowViolation)
      = true := by decide
theorem test_kernel_poison : after (.compute 0 [] 0) { kern 0x4000 0 0 with mems := { live.mems with poisonMem := [256] } } (fun s' => ends s' .poisoned) = true ∧
   after (.compute 0 [] 0) { kern 0x4000 0x5000 4 with mems := { live.mems with poisonMem := [320] } } (fun s' => ends s' .poisoned) = true ∧
   after (.compute 0 [(false, 0x5000,
       [1])] 0) { kern 0x4000 0 0 with mems := { live.mems with poisonMem := [320] } } (fun s' => ends s' .poisoned) = true := by decide
def cpy (src dst n sp : Nat) : State := memWrite (running 2 (leBytes 8 src ++ leBytes 8 dst ++ leBytes 4 n ++ leBytes 12 sp)) 0x5000 [1, 2, 3]
theorem test_copy_in_memory : after (.copy 0 0) (cpy 0x5000 0x5001 3 0) (fun s' => memRead s' 0x5000 4 == [1, 1, 2,
    3] && (item s' 0).wrote) = true ∧ idle (.copy 0 0) (work anItem) = true ∧
  after (.copy 0 0) (cpy 0xFFF 0x5001 3 0) (fun s' => ends s' .windowViolation) = true ∧
      after (.copy 0 0) (cpy 0x5000 0x100FFE 3 0) (fun s' => ends s' .windowViolation) = true ∧
      after (.copy 0 0) { cpy 0x5000 0x6000 3 0 with mems := { live.mems with poisonMem := [320] } } (fun s' => ends s' .poisoned) = true := by decide
theorem test_copy_host : after (.copy 0 0) (cpy 0x5000 0x7000 3 2) (fun s' => hostRead s' 0x7000 3 == [1, 2, 3] &&
    s'.mems.mem == (cpy 0x5000 0x7000 3 2).mems.mem && (item s' 0).wrote) = true ∧
  after (.copy 0 0) (cpy 0x5000 0x7000 3 1) (fun s' => itemReads s' 0 && s'.mems == (cpy 0x5000 0x7000 3 1).mems &&
      s'.sched == (cpy 0x5000 0x7000 3 1).sched) = true := by decide

/-! ## Sync flags -/

/-- Item 0 runs on core 3; the core flags 0 to 7 are partition 0's, and flags 8 to 15 TILE flags. -/
def fl (on : List Nat) (w : List (Nat × List Waiter)) : State :=
  let s := running 1 []
  { s with
    sync := { s.sync with flags := on, waiters := w }
    fence := { s.fence with allocs := [(2, { cls := 8, use := 0, part := 0, first := 0, count := 8 }), (3, { cls := 8, use := 3, part := 0, first := 8, count := 8 })] } }
def wtr (u : Nat) (clr : Bool) : Waiter := { issuer := u, clr := clr, item := none }
theorem test_flag_set : flagCheck (fl [] []) 3 5 = true ∧ after (.flagSet 3 5 0) (fl [] [(5, [wtr 9 true,
    wtr 2 false, wtr 7 true])]) (fun s' => s'.sync.flags == [] && waitsOn s' 5 == [wtr 9 true] &&
    s'.sync.releases.map (·.issuer) == [2, 7] && same (fl [] []) s' []) = true ∧
  after (.flagSet 3 5 0) (fl [4] []) (fun s' => flagOn s' 5 && flagOn s' 4 && s'.sync.releases == []) = true ∧
      after (.flagSet 3 5 0) (fl [5] []) (fun s' => ends s' .syncFault) = true := by decide
def fln (on : List Nat) : State := { fl on [] with straps := { live.straps with g1compat := true } }
theorem test_flag_overflow_under_g1compat : flagCheck (fln [5]) 3 5 = true ∧
    after (.flagSet 3 5 0) (fln [5]) (fun s' => rd s' Reg.SYNC_OVERFLOW_COUNT == 1 && rd s' Reg.SYNC_EVENT == 1 &&
    s'.sync.flags == [5] && (item s' 0).ph == .running) = true := by decide
theorem test_flag_clear : after (.flagClear 3 5 0) (fl [5] []) (fun s' => s'.sync.flags == []) = true ∧
    after (.flagClear 3 5 0) (fl [] []) (fun s' => ends s' .syncFault) = true := by decide
theorem test_flag_wait : after (.flagWait 3 5 0) (fl [5] []) (fun s' => s'.sync.flags == [5] &&
    s'.sync.releases.map (·.issuer) == [3]) = true ∧
    after (.flagWaitClr 3 5 0) (fl [5] []) (fun s' => s'.sync.flags == [] &&
    s'.sync.releases.map (·.issuer) == [3]) = true ∧
  after (.flagWait 3 5 0) (fl [] []) (fun s' => waitsOn s' 5 == [{ wtr 3 false with item := some 0 }]) = true ∧
      after (.flagWaitClr 3 5 0) (fl [] [(5, [wtr 9 false])]) (fun s' => waitsOn s' 5 == [wtr 9 false,
      { wtr 3 true with item := some 0 }]) = true := by decide
theorem test_flag_of_another_partition : flagCheck (fl [] []) 3 40 = false ∧
    after (.flagSet 3 40 0) (fl [] []) (fun s' => ends s' .keyReject) = true ∧
    after (.flagClear 3 40 0) (fl [] []) (fun s' => ends s' .keyReject) = true ∧
    after (.flagWait 3 40 0) (fl [] []) (fun s' => ends s' .keyReject) = true ∧
    after (.flagWaitClr 3 40 0) (fl [] []) (fun s' => ends s' .keyReject) = true ∧
  after (.flagSet 4 5 0) (fl [] []) (fun s' => rd s' Reg.PART_REJECT_SYNC_COUNT == 1 && s'.sync == (fl [] []).sync &&
      wbit (rd s' Reg.PART_EVENT) 2) = true := by decide
theorem test_tile_set : after (.tileSet 3 8 0) (fl [] []) (fun s' => flagOn s' 8) = true ∧
    after (.tileSet 3 5 0) (fl [] []) (fun s' => ends s' .descInvalid) = true ∧
    after (.tileSet 4 5 0) (fl [] []) (fun s' => s'.sync == (fl [] []).sync) = true := by decide
def rel (u : Nat) : Release := { flag := 5, issuer := u, latency := 40 }
theorem test_waiter_release : after (.waiterRelease 3 70) { fl [] [] with sync := { (fl [] []).sync with releases := [rel 2, rel 3], since := [(3, 20)] } } (fun s' => s'.sync.releases == [rel 2] && s'.sync.since == [] && s'.sync.spinCore == 50) = true ∧ idle (.waiterRelease 3 0) (fl [] []) = true := by decide
theorem test_manual_set : after (.manualSet 5 0 .pf0 0) (fl [] [(5, [wtr 9 true])]) (fun s' => s'.sync.flags == [] &&
    rd s' Reg.SYNC_DBG_COUNT == 1 && rd s' Reg.SYNC_EVENT == 4 && s'.sync.auditNext == 1 &&
    ((SMap.get? s'.sync.audit 0).map List.length) == some 4 &&
    ((SMap.get? s'.sync.audit 0).bind List.head?) == some 0x11005#32) = true ∧
  after (.manualSet 5 0 .supervisor 0) { fl [5] [] with sync := { (fl [5] []).sync with auditNext := 63, audit := [(63, [0])] } } (fun s' => s'.sync.flags == [5] && s'.sync.auditNext == 0 && s'.sync.auditWrap && ((SMap.get? s'.sync.audit 63).bind List.head?) == some 0x61005#32) = true ∧
  after (.manualClear 40 1 .supervisor 0) (fl [40] []) (fun s' => s'.sync.flags == [40] &&
      rd s' Reg.FENCE_COUNT_PART == 1 && ((SMap.get? s'.sync.audit 0).bind List.head?) == some 0xA2028#32) = true ∧
  after (.manualClear 5 0 .supervisor 0) (fl [5] []) (fun s' => s'.sync.flags == []) = true := by decide

/-! ## Collectives -/

/-- An operation of two INT32 elements on modules 0 and 1, this module rank 0. -/
def cop (coll : Nat) : CollOp :=
  { item := 0, group := 0, coll := coll, redFn := if coll ≤ 2 then 1 else 0, fmt := 5, cflags := 0, count := 2, src := 0x5000, dst := 0x6000, peer := 1, tileFlag := 0
    tileK := 1, tileLen := 4, members := [0, 1], rank := some 0, role := 0, foldR := 2, tree := 0, stage := 3, arms := [], sGran := 8, sealed := 3
    counts := [], segs := 1, lost := 0, counted := 0, blocks := 0, written := 0, reArms := [], switching := false, granted := [], held := []
    slots := [], engine := [], wrote := false, tick := 1605, tiles := 0, ownRead := [], got := [], sent := [], redo := 0 }
def spk (o : CollOp) : Spoke :=
  { entry := 0, pc := 0, gp := List.replicate 16 0, commit := none, dataSeen := false, timing := false, claim := false, taken := none, waitOnly := false
    waiting := false, flagWait := none, released := false, restarting := false, stall := none, op := o }
def coll (o : CollOp) : State :=
  let s := running 3 []
  let it := { item s 0 with lanes := [64], desc := { (item s 0).desc with lanes := 0 } }
  memWrite (setSpoke (setItem s 0 it) 0 (spk o)) 0x5000 [5, 0, 0, 0, 1, 0, 0, 0]
theorem test_all_reduce : fmtBytes 5 = 4 ∧ after (.allReduce 0 [(1, [7, 0, 0, 0, 255, 255, 255,
    255])] 0) (coll (cop 0)) (fun s' => memRead s' 0x6000 8 == [12, 0, 0, 0, 0, 0, 0, 0] &&
    (item s' 0).ph == .running && (spoke? s' 0).map (·.op.written) == some 1 && s'.mems.host == []) = true := by decide
theorem test_reduce_and_gather_write_at_the_root_only : after (.reduce 0 [(1, [7, 0, 0, 0,
    1])] 0) (coll (cop 1)) (fun s' => s'.mems == (coll (cop 1)).mems) = true ∧
    after (.reduce 0 [(1, [7])] 0) (coll { cop 1 with peer := 0 }) (fun s' => memRead s' 0x6000 8 == [12, 0, 0, 0, 1,
    0, 0, 0]) = true ∧
   after (.gather 0 [(1, [7])] 0) (coll { cop 4 with peer := 0 }) (fun s' => memRead s' 0x6000 16 == [5, 0, 0, 0, 1,
       0, 0, 0, 7, 0, 0, 0, 0, 0, 0, 0]) = true ∧
       after (.gather 0 [(1, [7])] 0) (coll (cop 4)) (fun s' => s'.mems == (coll (cop 4)).mems) = true := by decide
theorem test_reduce_scatter : after (.reduceScatter 0 [(1,
    [7])] 0) (coll (cop 2)) (fun s' => memRead s' 0x6000 8 == [12, 0, 0, 0, 0, 0, 0, 0]) = true := by decide
theorem test_all_gather : after (.allGather 0 [(1,
    [7])] 0) (coll { cop 3 with lost := 2 }) (fun s' => memRead s' 0x6000 16 == [5, 0, 0, 0, 1, 0, 0, 0, 255, 255,
    255, 255, 255, 255, 255, 255]) = true := by decide
theorem test_scatter_broadcast : after (.scatter 0 [(1, [1, 2, 3, 4, 5, 6, 7, 8,
    9])] 0) (coll (cop 5)) (fun s' => memRead s' 0x6000 9 == [1, 2, 3, 4, 5, 6, 7, 8, 0]) = true ∧
    after (.broadcast 0 [(1, [1, 2, 3, 4, 5, 6, 7, 8, 9])] 0) (coll (cop 6)) (fun s' => memRead s' 0x6000 9 == [1, 2,
    3, 4, 5, 6, 7, 8, 0]) = true := by decide
theorem test_all_to_all : after (.allToAll 0 [(1, [1, 2, 3, 4, 5, 6, 7, 8,
    9])] 0) (coll { cop 7 with count := 1 }) (fun s' => memRead s' 0x6000 9 == [5, 0, 0, 0, 1, 2, 3, 4,
    0]) = true := by decide
theorem test_send_recv : after (.send 0 0) (coll (cop 8)) (fun s' => s'.mems == (coll (cop 8)).mems &&
    (spoke? s' 0).map (·.op.written) == some 1) = true ∧ after (.recv 0 [(1, [1, 2, 3, 4, 5, 6, 7, 8,
    9])] 0) (coll (cop 9)) (fun s' => memRead s' 0x6000 9 == [1, 2, 3, 4, 5, 6, 7, 8, 0]) = true := by decide
theorem test_collective_source_checks : after (.allReduce 0 [] 0) (coll { cop 0 with src := 0xFFF }) (fun s' => (item s' 0).ph == .done) = true ∧ after (.allReduce 0 [] 0) { coll (cop 0) with mems := { live.mems with poisonMem := [320] } } (fun s' => (item s' 0).ph == .done) = true := by decide
def flc (o : CollOp) : State := { coll o with fence := { live.fence with allocs := [(1, { cls := 0x0A, use := 0, part := 0, first := 0, count := 4 }), (2, { cls := 8, use := 3, part := 0, first := 0, count := 8 })] } }
theorem test_stream : after (.stream 0 1 [1, 2, 3, 4,
    5] 0) (flc { cop 10 with tiles := 1 }) (fun s' => s'.mems.mem == Mem.writeN 0#8 (coll (cop 10)).mems.mem 0x6004 [1, 2, 3, 4] &&
    s'.sync.flags == [0]) = true ∧ idle (.stream 0 1 [1, 2, 3, 4, 5] 0) (flc (cop 10)) = true ∧
    after (.stream 0 0 [1] 0) (flc { cop 10 with dst := 0x100FFD }) (fun s' => (item s' 0).ph == .done) = true ∧
  after (.stream 0 0 [] 0) (flc { cop 10 with peer := 0 }) (fun s' => s'.mems == (flc (cop 10)).mems &&
      s'.sync == (flc (cop 10)).sync && s'.sched == (flc (cop 10)).sched &&
      (spoke? s' 0).map (·.op.tiles) == some 1) = true := by decide
/-- This module holds the order root of tree 0. -/
def rooted (s : State) (m : Nat) : State := { s with fab := { s.fab with routes := { s.fab.routes with trees := [{ Tree.none with defined := true, rootMod := m, node0 := { Tree.none.node0 with role := 1 } }] } } }
def arm1 (o : CollOp) : State := rooted (coll { o with stage := 1, sealed := 0 }) 0
def armMsg (r sig : Nat) : ArmMsg := { opTag := 0, signature := sig, sGran := 4, counts := [2], rank := r }
def sig0 : Nat := groupSignature (arm1 (cop 0)) (group (arm1 (cop 0)) 0)
theorem test_arm_message : after (.armMessageRx 0 (armMsg 1 sig0) 0) (arm1 (cop 0)) (fun s' => (spoke? s' 0).map (·.op) == some { cop 0 with stage := 1, sealed := 0, sGran := 4, arms := [(1, { good := true, counts := [2] })] }) = true ∧
  after (.armMessageRx 0 (armMsg 1 sig0) 0) (arm1 { cop 0 with arms := [(0, { good := true, counts := [2] })] }) (fun s' => (spoke? s' 0).map (fun q => (q.op.stage, q.op.sealed % 2 ^ 32, q.op.lost)) == some (2, 3, 0)) = true ∧
  after (.armMessageRx 0 (armMsg 1 (sig0 + 1)) 0) (arm1 (cop 0)) (fun s' => rd s' Reg.HUB_SIG_MISMATCH_COUNT == 1 &&
      (spoke? s' 0).map (fun q => SMap.get? q.op.arms 1) == some (some { good := false, counts := [] })) = true ∧
  idle (.armMessageRx 0 (armMsg 1 sig0) 0) (rooted (coll (cop 0)) 0) = true := by decide +kernel
theorem test_arm_step_timeout : after (.armStepTimeout 0 0) (arm1 { cop 0 with arms := [(0, { good := true, counts := [2] })] }) (fun s' => (spoke? s' 0).map (fun q => (q.op.stage, q.op.sealed % 2 ^ 32, q.op.lost)) == some (2, 1, 0)) = true ∧ idle (.armStepTimeout 0 0) (rooted (coll (cop 0)) 0) = true ∧ idle (.armStepTimeout 0 0) (rooted (arm1 (cop 0)) 1) = true := by decide
theorem test_arm_message_on_a_node : after (.armMessageRx 0 (armMsg 1 sig0) 0) (rooted (arm1 (cop 0)) 1) (fun s' => spoke? s' 0 == spoke? (arm1 (cop 0)) 0 && s'.mems == (arm1 (cop 0)).mems) = true := by decide
theorem test_seal : after (.sealRx 0 3 8 [2,
    2] none 0) (arm1 (cop 0)) (fun s' => spoke? s' 0 == some (spk (({ cop 0 with stage := 1, sealed := 0 } : CollOp).withSeal 3 8 [2, 2]))) = true ∧
  after (.sealRx 0 2 8 [2, 2] none 0) (arm1 (cop 0)) (fun s' => (item s' 0).ph == .done) = true ∧
      after (.sealRx 0 3 8 [2, 2] none 0) (coll (cop 0)) (fun s' => spoke? s' 0 == some (spk (cop 0))) = true ∧
  after (.sealRx 0 3 8 [2,
      2] (some 1) 0) (coll { cop 0 with switching := true, lost := 1 }) (fun s' => spoke? s' 0 == some (spk { cop 0 with switching := true })) = true := by decide
theorem test_data_phase : after (.dataPhaseStart 0 0) (coll { cop 0 with stage := 2 }) (fun s' => spoke? s' 0 == some (spk (cop 0))) = true ∧ idle (.dataPhaseStart 0 0) (coll (cop 0)) = true := by decide
theorem test_withdraw : after (.withdrawNoticeRx 0 1 3 0) (coll (cop 0)) (fun s' => (spoke? s' 0).map (fun q => (q.op.lost, q.restarting, q.op.sealed)) == some (2, true, 3) && rd s' Reg.HUB_WITHDRAW_RX_COUNT == 1 && s'.mems == (coll (cop 0)).mems) = true ∧
  after (.withdrawNoticeRx 0 0 3 0) (coll (cop 0)) (fun s' => (spoke? s' 0).map (fun q => (q.op.lost, q.restarting,
      q.op.sealed)) == some (1, true, 3)) = true ∧
  after (.withdrawNoticeRx 0 32 3 0) (coll (cop 0)) (fun s' => rd s' Reg.HUB_WITHDRAW_RX_COUNT == 1 &&
      rd s' Reg.HUB_COLL_EVENT == 8 && s'.hubs == (coll (cop 0)).hubs) = true := by decide
theorem test_data_step_timeout : after (.dataStepTimeout 0 1 0) (coll (cop 0)) (fun s' => (spoke? s' 0).map (fun q => (q.op.lost, q.restarting)) == some (2, true) && rd s' (Reg.SPK_RESTART_COUNT 0 0) == 1 && rd s' (Reg.SPK_LAST_CAUSE 0 0) == 1) = true ∧
  after (.dataStepTimeout 0 1 0) { coll (cop 0) with fab := { live.fab with down := [1] } } (fun s' => rd s' Reg.LNK_CONSEQ_COUNT == 1 && rd s' Reg.LNK_EVENT == 16 && spoke? s' 0 == some (spk (cop 0))) = true ∧ idle (.dataStepTimeout 0 1 0) (coll { cop 0 with cflags := 4 }) = true := by decide
theorem test_re_arm : after (.reArmRx 0 1 5 0) (rooted (coll (cop 0)) 0) (fun s' => spoke? s' 0 == some (spk { cop 0 with reArms := [(1, 5)] })) = true ∧ after (.reArmRx 0 1 5 0) (rooted (coll (cop 0)) 1) (fun s' => spoke? s' 0 == some (spk (cop 0))) = true := by decide
theorem test_tree_resume : after (.treeResume 0 0 0) (rooted (coll { cop 0 with switching := true, stage := 2 }) 1) (fun s' => (spoke? s' 0).map (·.op) == some (({ cop 0 with switching := true, stage := 2 } : CollOp).resumeAt 0 ({ cop 0 with stage := 2 } : CollOp).bitmap) && (spoke? s' 0).map (·.restarting) == some true && rd s' (Reg.SPK_LAST_CAUSE 0 0) == 2 && rd s' (Reg.SPK_RESTART_COUNT 0 0) == 1) = true ∧
  after (.treeResume 0 0 0) (rooted (coll { cop 0 with switching := true, stage := 2, written := 3, reArms := [(0, 3), (1, 2)] }) 0) (fun s' => (spoke? s' 0).map (fun q => (q.op.stage, q.op.switching, decide (q.op.written ≤ 2), q.restarting)) == some (3, false, true, true)) = true ∧ idle (.treeResume 0 0 0) (coll (cop 0)) = true := by decide

/-! ## Spokes -/

/-- A microword (Table 11.2). -/
def mw (op cond carg dst srcA srcB isel br next imm : Nat) (commit : Bool) : Nat :=
  op * 2 ^ 122 + cond * 2 ^ 117 + b2n commit * 2 ^ 115 + carg * 2 ^ 103 + dst * 2 ^ 99 + srcA * 2 ^ 95 + srcB * 2 ^ 91 + isel * 2 ^ 90 +
    br * 2 ^ 88 + next * 2 ^ 74 + imm
def word0 (op imm : Nat) : Nat := mw op 0 0 2 1 3 1 0 0 imm true
/-- Spoke 0 stands at word 70 of its routine, which holds the word. -/
def atWord (w : Nat) (p : Spoke) : State :=
  let s := flc p.op
  let st := s.hubs.store
  let s1 := { s with hubs := { s.hubs with spokes := [(0, p)], store := { st with words := [(70, w)], crcs := [(1, 1)] } } }
  { s1 with fence := { s1.fence with allocs := s1.fence.allocs ++ [(3, { cls := 6, use := 0, part := 0, first := 64, count := 64 }), (4, { cls := 0x0B, use := 0, part := 0, first := 0, count := 8 })] } }
def spoke0 : Spoke := { spk (cop 0) with pc := 70, gp := [0, 5, 6, 7, 0, 0, 0, 0, 0, 0, 0, 0, 0, 0, 0, 0], dataSeen := true, entry := 64 }
theorem test_alu_words : ([(1, 9), (2, 0), (3, 14), (4, 2 ^ 64 - 4), (5, 1), (6, 13), (7, 5 * 512), (8,
    0)].all (fun (e : Nat × Nat) =>
    let imm := if e.1 = 2 then 0x02 else 9
    (microOf (word0 e.1 imm)).legal false true && (condFlag spoke0 (microOf (word0 e.1 imm))).isNone &&
    after (microCommand e.1 0 0 0) (atWord (word0 e.1 imm) spoke0) (fun s' => spoke? s' 0 == some { spoke0 with pc := 71, gp := spoke0.gp.set 2 e.2, commit := some (71, spoke0.gp.set 2 e.2) } && s'.mems == (flc (cop 0)).mems))) = true := by decide
theorem test_nop_and_branch : after (.microNop 0 0 0) (atWord (mw 0 0 0 0 1 0 0 3 99 0 false) spoke0) (fun s' => spoke? s' 0 == some { spoke0 with pc := 99 }) = true ∧
  after (.microSub 0 0 0) (atWord (mw 4 0 0 1 1 1 0 2 99 0 false) spoke0) (fun s' => spoke? s' 0 == some { spoke0 with pc := 99, gp := spoke0.gp.set 1 0 }) = true ∧ after (.microNop 0 0 0) (atWord (mw 0 0 0 0 1 0 0 2 99 0 false) spoke0) (fun s' => spoke? s' 0 == some { spoke0 with pc := 71 }) = true := by decide
theorem test_engine_words : ([(0x10, 1), (0x11, 0x20), (0x12, 0x10020), (0x13, 0x20), (0x14, 0x20), (0x15,
    0x20)].all (fun (e : Nat × Nat) =>
    (microOf (word0 e.1 e.2)).legal false true &&
        after (microCommand e.1 0 0 0) (atWord (word0 e.1 e.2) spoke0) (fun s' => ((spoke? s' 0).map (fun q => (q.op.engine.map (fun x => (x.op, x.seg)), q.gp, q.pc))) == some ([(e.1, 5)], spoke0.gp, 71) && s'.mems == (flc (cop 0)).mems))) = true := by decide
theorem test_flag_words : after (.microSetf 0 0 0) (atWord (mw 0x20 0 5 0 0 0 0 0 0 0 true) spoke0) (fun s' => s'.sync.flags == [5] && ((spoke? s' 0).map (fun q => (q.gp, q.pc))) == some (spoke0.gp, 71)) = true ∧
  after (.microClrf 0 0 0) { atWord (mw 0x21 0 5 0 0 0 0 0 0 0 true) spoke0 with sync := { live.sync with flags := [5] } } (fun s' => s'.sync.flags == [] && ((spoke? s' 0).map (fun q => (q.gp, q.pc))) == some (spoke0.gp, 71)) = true := by decide
theorem test_end_word : after (.microEnd 0 0 0) (atWord (mw 0x30 0 0 0 0 0 0 0 0 0x81 false) spoke0) (fun s' => ends s' (.micro 1)) = true := by decide
def stalls : Nat := mw 0 8 0 0 1 0 0 0 0 0 false
theorem test_stall : condTrue (atWord stalls spoke0) 0 spoke0 (microOf stalls) = false ∧
    after (.microNop 0 0 0) (atWord stalls spoke0) (fun s' => spoke? s' 0 == some { spoke0 with waiting := true }) = true ∧
  after (.microNop 0 0 0) (atWord stalls { spoke0 with timing := true, claim := true }) (fun s' => spoke? s' 0 == some { spoke0 with waiting := true, waitOnly := true } && rd s' (Reg.SPK_LS_MISS_COUNT 0 0) == 1) = true := by decide
theorem test_illegal_word : after (.microNop 0 0 0) (atWord (mw 0x3F 0 0 0 0 0 0 0 0 0 false) spoke0) (fun s' => (item s' 0).ph == .done && rd s' (Reg.SPK_ILLEGAL_COUNT 0) == 1 && rd s' (Reg.SPK_ILLEGAL_LOG 0) == 0x80000046#32) = true ∧
   after (.microNop 0 0 0) (regs (atWord (mw 0 0 0 0 0 0 0 0 0 1 false) spoke0) [(Reg.SPK_ILLEGAL_LOG 0,
       0x80000001)]) (fun s' => (item s' 0).ph == .done && rd s' (Reg.SPK_ILLEGAL_LOG 0) == 0x80000001#32)
       = true := by decide
theorem test_word_of_another_op : idle (.microLdi 0 0 0) (atWord (word0 0 0) spoke0) = true ∧
    after (.microLdi 0 1 0) (atWord (word0 0 0) spoke0) (fun s' => spoke? s' 0 == some spoke0 &&
    rd s' (Reg.SPK_CS_CE_COUNT 0) == 1 && rd s' (Reg.SPK_EVENT 0) == 4) = true ∧
  after (.microLdi 0 2 0) (atWord (word0 0 0) spoke0) (fun s' => spoke? s' 0 == some { spoke0 with stall := some (1, true) } && rd s' (Reg.SPK_CS_UE_COUNT 0) == 1 && s'.hubs.store.reloading == [(1, 0)]) = true := by decide
theorem test_wait_condition : after (.waitConditionTrue 0 0) (atWord stalls { spoke0 with waiting := true, op := { spoke0.op with held := [(0, 5)] } }) (fun s' => spoke? s' 0 == some { spoke0 with pc := 71, op := { spoke0.op with held := [(0, 5)] } }) = true ∧
  after (.waitConditionTrue 0 0) (atWord (mw 0 1 5 0 0 0 0 0 0 0 false) { spoke0 with waiting := true, flagWait := some 5, released := true }) (fun s' => spoke? s' 0 == some { spoke0 with pc := 71 }) = true ∧
  after (.waitConditionTrue 0 0) (atWord (mw 0 4 0 0 0 0 0 0 0 0 false) { spoke0 with waiting := true, dataSeen := false, entry := 2 ^ 14 }) (fun s' => (spoke? s' 0).map (·.timing) == some true) = true ∧
  idle (.waitConditionTrue 0 0) (atWord stalls { spoke0 with waiting := true }) = true ∧
      idle (.waitConditionTrue 0 0) (atWord stalls spoke0) = true := by decide
theorem test_spoke_restart : after (.spokeRestart 0) (atWord 0 { spoke0 with restarting := true, commit := some (66, [1]) }) (fun s' => spoke? s' 0 == some { spoke0 with pc := 66, gp := [1], commit := some (66, [1]) }) = true ∧
  after (.spokeRestart 0) (atWord 0 { spoke0 with restarting := true }) (fun s' => spoke? s' 0 == some { spoke0 with pc := 64, gp := List.replicate 16 0 }) = true ∧ idle (.spokeRestart 0) (atWord 0 spoke0) = true := by decide

/-! ## Engines, segments and store blocks -/

def eng (e : EngOp) (f : CollOp → CollOp) : State := flc (f { cop 0 with engine := [e] })
def eop (op arg aux : Nat) : EngOp := { op := op, seg := 0, slot := 1, arg := arg, aux := aux }
def slotsOf (s : State) : SMap SlotBuf := ((spoke? s 0).map (·.op.slots)).getD []
theorem test_engine_read_and_fill : after (.engineOpComplete 0 0 0) (eng (eop 0x11 0 0) id) (fun s' => slotsOf s' == [(1, { seg := 0, full := true, out := false, elems := [5, 1] })] && ((spoke? s' 0).map (·.op.engine)) == some []) = true ∧
  after (.engineOpComplete 0 0 0) (eng (eop 0x11 0 0) (fun o => { o with src := 0xFFF })) (fun s' => (item s' 0).ph == .done) = true ∧
  after (.engineOpComplete 0 0 0) (eng (eop 0x13 1 0) id) (fun s' => slotsOf s' == [(1,
      { seg := 0, full := true, out := false, elems := [0xFFFFFFFF, 0xFFFFFFFF] })]) = true ∧
      after (.engineOpComplete 0 0 0) (eng (eop 0x13 0 0) id) (fun s' => slotsOf s' == [(1,
      { seg := 0, full := true, out := false, elems := [0, 0] })]) = true := by decide
def twoSlots (o : CollOp) : CollOp := { o with slots := [(1, ⟨0, true, false, [5, 6], false⟩), (2, ⟨0, true, false, [7, 8], false⟩)] }
theorem test_engine_comb : after (.engineOpComplete 0 0 0) (eng (eop 0x12 2 0) twoSlots) (fun s' => SMap.get? (slotsOf s') 1 == some ⟨0, true, false, [12, 14], false⟩) = true ∧ after (.engineOpComplete 0 0 0) (eng (eop 0x12 2 1) twoSlots) (fun s' => SMap.get? (slotsOf s') 1 == some ⟨0, true, false, [7, 8], false⟩) = true ∧ idle (.engineOpComplete 0 0 0) (eng (eop 0x12 2 0) id) = true ∧
  idle (.engineOpComplete 0 1 0) (eng (eop 0x13 0 0) (fun o => { o with engine := o.engine ++ [eop 0x13 1 0] })) = true := by decide
def withPos (s : State) : State := { s with fab := { s.fab with routes := { s.fab.routes with trees := [{ Tree.none with defined := true, rootMod := 0, node0 := { Tree.none.node0 with role := 2, pos := [{ kind := 1, mod := 0, hub := 0 }, { kind := 2, mod := 1, hub := 0 }] } }] } } }
theorem test_engine_grant : after (.engineOpComplete 0 0 0) (withPos (eng (eop 0x10 2 0) id)) (fun s' => ((spoke? s' 0).map (fun q => (q.op.engine, q.op.granted))) == some ([], [(1, 0)])) = true ∧ after (.engineOpComplete 0 0 0) (withPos (eng (eop 0x10 0 0) id)) (fun s' => ((spoke? s' 0).map (fun q => (q.op.engine, q.op.granted))) == some ([], [])) = true := by decide
theorem test_engine_write : after (.engineOpComplete 0 0 0) (eng (eop 0x15 0 0) twoSlots) (fun s' => memRead s' 0x6000 8 == [5, 0, 0, 0, 6, 0, 0, 0] && ((spoke? s' 0).map (·.op.written)) == some 1) = true ∧ after (.engineOpComplete 0 0 0) (eng (eop 0x15 0 0) (fun o => { twoSlots o with dst := 0xFFF })) (fun s' => (item s' 0).ph == .done) = true := by decide
theorem test_segment_rx : after (.segmentRx 0 1 1 0 false [9, 0, 0,
    0] none 0) (flc { cop 0 with granted := [(1, 0)] }) (fun s' => slotsOf s' == [(1, ⟨0, true, false, [9, 0],
    false⟩)] && s'.mems == (flc (cop 0)).mems) = true ∧
  after (.segmentRx 0 1 1 0 false [9] none 0) (flc (cop 0)) (fun s' => rd s' (Reg.HUB_CREDIT_VIOL_COUNT 0) == 1 &&
      rd s' (Reg.HUB_EVENT 0) == 4 && s'.hubs == (flc (cop 0)).hubs) = true ∧
  after (.segmentRx 0 1 1 0 false [9] none 0) (flc { cop 0 with lost := 2 }) (fun s' => rd s' Reg.HUB_LATE_CONTRIB_COUNT == 1 && s'.hubs == (flc { cop 0 with lost := 2 }).hubs) = true ∧ after (.segmentRx 0 1 1 0 false [9] none 0) live (fun s' => rd s' Reg.HUB_LATE_CONTRIB_COUNT == 1 && rd s' Reg.HUB_COLL_EVENT == 4) = true := by decide
theorem test_segment_credit : after (.segmentCreditRx 0 2 1 5) (flc (cop 0)) (fun s' => ((spoke? s' 0).map (·.op.held)) == some [(17, 5)]) = true ∧ after (.segmentCreditRx 0 2 1 5) (flc { cop 0 with held := [(17, 5)] }) (fun s' => ((spoke? s' 0).map (·.op.held)) == some [(17, 5)]) = true ∧ idle (.segmentCreditRx 0 2 1 5) live = true := by decide
/-- Block 1 of hub 0's store reloads; it holds words 64 and 65. -/
def reloads (n : Nat) : State :=
  let fl := Mem.writeN 0xFF#8 [] 0x100 (leBytes 16 7 ++ leBytes 16 9)
  let st := live.hubs.store
  let st1 := { st with words := [(64, 1)], reloading := [(1, n)], base := [(0, 64)], wordsN := [(0, 2)] }
  { live with mems := { live.mems with flash := fl }, hubs := { live.hubs with store := { st1 with flashAt := [(0, 0x100)], crcs := [(1, crc32c (leBytes 16 7 ++ leBytes 16 9))] } } }
theorem test_store_block_reload : after (.csBlockReloadComplete 0 1 true 0) (reloads 0) (fun s' => s'.hubs.store.words == [(64, 7), (65, 9)] && s'.hubs.store.reloading == [] && rd s' (Reg.SPK_RELOAD_COUNT 0) == 1 && rd s' (Reg.SPK_EVENT 0) == 16) = true ∧
  after (.csBlockReloadComplete 0 1 false 0) (reloads 0) (fun s' => s'.hubs == (reloads 1).hubs) = true ∧
      after (.csBlockReloadComplete 0 1 false 0) (reloads 1) (fun s' => s'.hubs.store.words == [(64, 1)] &&
      s'.hubs.store.reloading == [] && blockBad s' 0 1) = true ∧ idle (.csBlockReloadComplete 0 1 true 0) live
      = true := by decide +kernel

/-! ## Links -/

def pt (p : Port) : State := setPort live 1 p
def act : Port := { Port.init with st := .active, laneOk := 15, credits := [32, 1024, 512] }
def idleFlit (q : Nat) : Flit := { ty := .idle, seq := q, ack := 2047, crd := none, opTag := 0, last := true, pkt := none }
theorem test_flit_accepted : after (.flitRx 1 true (idleFlit 2047) (2,
    1) 0) (pt { act with rxSeq := 2047, gap := true }) (fun s' => (port s' 1).rxSeq == 0 && !(port s' 1).gap &&
    (port s' 1).fault == none && rd s' (Reg.LNK_FEC_CORR_COUNT 1) == 2 && rd s' (Reg.LNK_CRC_ERR_COUNT 1) == 0)
    = true := by decide
theorem test_flit_discarded : after (.flitRx 1 false (idleFlit 5) (0,
    0) 7) (pt { act with rxSeq := 5 }) (fun s' => port s' 1 == { act with rxSeq := 5, gap := true, fault := some { opened := 30000007, seq := 5, failures := 1 } } && rd s' (Reg.LNK_CRC_ERR_COUNT 1) == 1 && s'.out == [.link 1 (.nak 5)]) = true ∧
  after (.flitRx 1 true (idleFlit 6) (0,
      0) 7) (pt { act with rxSeq := 5, gap := true }) (fun s' => port s' 1 == { act with rxSeq := 5, gap := true } &&
      rd s' (Reg.LNK_CRC_ERR_COUNT 1) == 1 && s'.out == []) = true ∧ idle (.flitRx 1 true (idleFlit 0) (0,
      0) 7) (pt { act with st := .exchange }) = true := by decide
def kept : Port := { act with replay := [idleFlit 4, idleFlit 5] }
theorem test_nak : after (.nakRx 1 5 0) (pt kept) (fun s' => port s' 1 == { kept with txFault := some { opened := 30000000, seq := 5, failures := 1 } } && rd s' (Reg.LNK_REPLAY_COUNT 1) == 1 && s'.out == [.link 1 (.flit (idleFlit 5))]) = true ∧ idle (.nakRx 1 6 0) (pt kept) = true := by decide
theorem test_ack_timer : after (.ackTimerExpiry 1 0) (pt kept) (fun s' => (port s' 1).replay == kept.replay &&
    rd s' (Reg.LNK_REPLAY_COUNT 1) == 1 && s'.out == [.link 1 (.flit (idleFlit 5)),
    .link 1 (.flit (idleFlit 4))]) = true ∧ idle (.ackTimerExpiry 1 0) (pt act) = true := by decide
def faulted (s s' : State) : Bool := (port s' 1).st == .faulted && (port s' 1).replay == [] && (port s' 1).rxSeq == 0 && (port s' 1).txSeq == 0 && wbit (rd s' Reg.LNK_EVENT) 0 && port s' 0 == port s 0
theorem test_budget_exhausted : after (.replayBudgetExpiry 1 0) (pt { act with fault := some { opened := 0, seq := 0, failures := 1 } }) (fun s' => faulted live s' && rd s' (Reg.LNK_EXHAUST_COUNT 1) == 1) = true ∧
  after (.nakRx 1 5 0) (pt { kept with txFault := some { opened := 0, seq := 5, failures := 3 } }) (fun s' => (port s' 1).st == .faulted && rd s' (Reg.LNK_EXHAUST_COUNT 1) == 1) = true ∧ idle (.replayBudgetExpiry 1 0) { pt act with regs := SMap.put live.regs Reg.LNK_PORT_EN 1 } = true := by decide
theorem test_fault_and_signal_loss : after (.faultRx 1 0) (pt { act with st := .ready }) (fun s' => faulted live s') = true ∧ after (.signalLoss 1 false 0) (pt { act with st := .degraded }) (fun s' => faulted live s') = true ∧ after (.signalLoss 1 true 0) (pt { act with st := .exchange, rxSeq := 4 }) (fun s' => (port s' 1).st == .down && (port s' 1).rxSeq == 0 && same live s' []) = true := by decide
theorem test_lane_loss : after (.laneSignalLoss 1 2 0) (pt act) (fun s' => (port s' 1).st == .active &&
    (port s' 1).widthReq == some 11) = true ∧
    after (.laneSignalLoss 1 0 0) (pt { act with st := .degraded, laneOk := 5 }) (fun s' => faulted live s')
    = true := by decide
theorem test_bringup : [Instr.portBringupStart 1, .signalDetect 1,
    .trainingFrameRx 1].all (fun c => after c (pt { Port.init with st := .down, begun := true }) (fun s' => (port s' 1).st == .training && s'.out == [.link 1 .train] && same live s' [])) = true ∧
  after (.trainingFrameRx 1) { State.reset with regs := live.regs } (fun s' => s'.out == [.link 1 .hold] &&
      (port s' 1).st == .hold) = true ∧ idle (.portBringupStart 1) State.reset = true ∧
      idle (.signalDetect 1) State.reset = true := by decide
theorem test_hold : after (.holdRx 1) (pt { Port.init with st := .down, begun := true }) (fun s' => port s' 1 == { Port.init with st := .training, begun := true }) = true ∧ after (.holdRetry 1) (pt { Port.init with st := .training }) (fun s' => s'.out == [.link 1 .train]) = true ∧ idle (.holdRetry 1) (pt act) = true := by decide
theorem test_bringup_complete : after (.bringupComplete 1 3) (pt { Port.init with st := .training, rxSeq := 9 }) (fun s' => (port s' 1).st == .exchange && (port s' 1).laneOk == 3 && (port s' 1).credits == [32, 1024, 512] && (port s' 1).rxSeq == 0) = true ∧
  after (.bringupComplete 1 4) (pt { Port.init with st := .training, retrain := true, failedRetrains := 3 }) (fun s' => (port s' 1).st == .faulted && (port s' 1).failedRetrains == 4 && rd s' (Reg.LNK_TRAIN_FAIL_COUNT 1) == 1) = true ∧ after (.bringupComplete 1 0) (pt { Port.init with st := .training }) (fun s' => (port s' 1).st == .down) = true ∧ idle (.bringupComplete 1 15) (pt act) = true := by decide
theorem test_retrain : after (.portRetrainTimer 1) (pt { act with st := .faulted, failedRetrains := 7 }) (fun s' => (port s' 1).st == .training && (port s' 1).retrain && (port s' 1).failedRetrains == 7 && s'.out == [.link 1 .train]) = true ∧ idle (.portRetrainTimer 1) (pt { act with st := .faulted, failedRetrains := 8 }) = true ∧
  after (.portRetry 1) (pt { act with st := .faulted, failedRetrains := 8 }) (fun s' => (port s' 1).st == .training && (port s' 1).failedRetrains == 0) = true ∧ idle (.portRetry 1) (pt { act with st := .faulted, failedRetrains := 7 }) = true := by decide
def exch (p : Port) : State := { pt p with fab := { live.fab with routes := { live.fab.routes with ports := [{ expMod := 9, expPort := 0, used := false, foreign := false }, { expMod := 3, expPort := 2, used := true, foreign := false }] } } }
def exPort : Port := { Port.init with st := .exchange, laneOk := 15 }
def cap3 : Cap := { ownCap (exch exPort) 1 with modId := 3, port := 2, expMod := 0, expPort := 1 }
theorem test_cap : capCheck (exch exPort) 1 cap3 = 0 ∧
    after (.capRx 1 cap3 0) (exch exPort) (fun s' => (port s' 1).st == .exchange && (port s' 1).capPassed &&
    (port s' 1).partnerMod == 3 && s'.out == [.link 1 .capAck]) = true ∧
    after (.capRx 1 cap3 0) (exch { exPort with ackRx := true }) (fun s' => (port s' 1).st == .ready) = true ∧
  capCheck (exch exPort) 1 { cap3 with modId := 4 } = 4 ∧
      after (.capRx 1 { cap3 with modId := 4 } 0) (exch exPort) (fun s' => (port s' 1).st == .refused &&
      (port s' 1).refuse == 4 && rd s' Reg.LNK_EVENT == 2 && s'.out.head? == some (.link 1 (.capRefuse 4)))
      = true := by decide
theorem test_cap_ack_and_refuse : after (.capAckRx 1) (exch { exPort with capPassed := true }) (fun s' => (port s' 1).st == .ready) = true ∧ after (.capAckRx 1) (exch exPort) (fun s' => (port s' 1).st == .exchange && (port s' 1).ackRx) = true ∧ after (.capRefuseRx 1 5 0) (exch exPort) (fun s' => (port s' 1).st == .refused && (port s' 1).refuse == 5 && rd s' Reg.LNK_EVENT == 2) = true ∧ idle (.capAckRx 1) (pt act) = true ∧ idle (.capRx 1 cap3 0) (pt act) = true ∧ idle (.capRefuseRx 1 5 0) (pt act) = true := by decide
theorem test_width : after (.widthReqRx 1 5 0) (pt kept) (fun s' => (port s' 1).laneOk == 5 &&
    (port s' 1).st == .degraded && (port s' 1).replay == kept.replay) = true ∧
    after (.widthAckRx 1 15 0) (pt { act with st := .degraded, laneOk := 3, widthReq := some 15 }) (fun s' => (port s' 1).laneOk == 15 && (port s' 1).st == .active) = true ∧ idle (.widthAckRx 1 15 0) (pt act) = true := by decide
def pk : Packet := { key := 0xAAAA, ptype := 1, cls := 1, fence := false, src := 3, dst := 0, mode := 0, phase := false, via := 0, failover := false, foreign := false, ttl := 0, opTag := 0x21, e2e := 0, offset := 0, msg := .data, data := [] }
theorem test_abort_flit : after (.abortFlitRx 1 { pk with key := 0xFFFF } 0) (pt { act with rxPartial := some pk }) (fun s' => (port s' 1).rxPartial == none && (port s' 1).st == .active && s'.faults == live.faults && rd s' Reg.LNK_FAULT_OP_COUNT == 0) = true ∧ after (.abortFlitRx 1 pk 0) (pt act) (fun s' => rd s' Reg.LNK_FAULT_OP_COUNT == 1) = true ∧ idle (.abortFlitRx 1 pk 0) (pt { act with st := .ready }) = true := by decide

/-! ## Packets -/

def open_ (s : State) : State := regs s [(Reg.PART_PORT_ALLOW 1, 1), (Reg.PART_PORT_ALLOW 0, 1)]
def joined : State := open_ { setPort live 1 act with fab := { live.fab with routes := { live.fab.routes with ports := [{ expMod := 9, expPort := 0, used := true, foreign := false }, { expMod := 3, expPort := 2, used := true, foreign := false }] } } }
def rejects (s' : State) (p : Packet) (part reason : Nat) : Bool := rd s' (Reg.PART_REJECT_PORT_COUNT 1) == 1 && wbit (rd s' Reg.PART_EVENT) 0 && s'.part.tickRejects == 1 && rd s' Reg.PART_REJECT_LOG_0 == rejectLog0 p.key part 1 reason && s'.fab.delivered == [] && s'.fab.inFlows == []
theorem test_packet_rejects : after (.packetArrive 1 { pk with key := 0 } 0) joined (fun s' => rejects s' { pk with key := 0 } 0 1) = true ∧ after (.packetArrive 1 { pk with cls := 0 } 0) joined (fun s' => rejects s' pk 0 2) = true ∧ after (.packetArrive 1 { pk with key := 0xFFFF } 0) joined (fun s' => rejects s' { pk with key := 0xFFFF } 0 2) = true ∧
  after (.packetArrive 1 { pk with key := 0xBBBB } 0) joined (fun s' => rejects s' { pk with key := 0xBBBB } 0 3) = true ∧ after (.packetArrive 1 pk 0) (regs joined [(Reg.PART_PORT_ALLOW 1, 2)]) (fun s' => rejects s' pk 0 4) = true ∧ after (.packetArrive 1 pk 0) { joined with fence := { joined.fence with inForce := 0 } } (fun s' => rd s' Reg.PART_REJECT_HUB_COUNT == 1 && rd s' Reg.PART_EVENT == 2 && s'.part.tickRejects == 1 &&
    rd s' Reg.PART_REJECT_LOG_0 == rejectLog0 pk.key 0 0x11 5 && s'.fab.delivered == []) = true := by decide
theorem test_packet_delivered : targetOk joined 0 { pk with ptype := 0 } = true ∧
    after (.packetArrive 1 { pk with ptype := 0 } 0) joined (fun s' => s'.fab.delivered == [{ pk with ptype := 0 }]) = true ∧ after (.packetArrive 1 { pk with key := 0xFFFF, cls := 0, ptype := 0 } 0) joined (fun s' => s'.fab.delivered.length == 1) = true ∧ idle (.packetArrive 1 pk 0) (pt { act with st := .down }) = true := by decide
def chanState (f : List InFlow) : State := { joined with fab := { joined.fab with inFlows := f, routes := { joined.fab.routes with channels := [{ mode := 1, foreignOk := false, timeoutUs := 20, valiant := 0 }] } }, fence := { joined.fence with allocs := [(5, { cls := 4, use := 2, part := 0, first := 0, count := 4096 })] } }
def cpk (q : Nat) : Packet := { pk with ptype := 3, opTag := 0x21, e2e := q, cls := 2 }
def flow (e : Nat) (n : Bool) : InFlow := { key := 0xAAAA, chan := 0, src := 3, expect := e, held := [], fences := [], direct := [], unackedCount := 1, nakSent := n, unsequenced := false }
theorem test_strict_channel : targetOk (chanState []) 0 (cpk 5) = true ∧
    after (.packetArrive 1 (cpk 5) 0) (chanState [flow 5 true]) (fun s' => s'.fab.delivered == [cpk 5] &&
    (inFlow s' 0xAAAA 0 3).expect == 6 && !(inFlow s' 0xAAAA 0 3).nakSent) = true ∧
    idle (.packetArrive 1 (cpk 7) 0) (chanState [flow 5 true]) = true ∧
  after (.packetArrive 1 (cpk 7) 0) (chanState [flow 5 false]) (fun s' => rd s' Reg.FAB_GAP_COUNT == 1 &&
      s'.fab.delivered == [] && (inFlow s' 0xAAAA 0 3).nakSent) = true ∧
      after (.packetArrive 1 (cpk 4) 0) (chanState [flow 5 false]) (fun s' => s'.fab.delivered == [] &&
      (inFlow s' 0xAAAA 0 3).unackedCount == 0) = true := by decide
theorem test_transit : after (.packetArrive 1 { pk with dst := 7 } 0) joined (fun s' => rd s' Reg.FAB_TTL_DROP_COUNT == 1 && rd s' Reg.FAB_EVENT == 16 && s'.fab == joined.fab) = true ∧ after (.packetArrive 1 { pk with dst := 7, ttl := 2 } 0) joined (fun s' => same joined s' [] && s'.fab == joined.fab && s'.ports == joined.ports) = true ∧ after (.packetArrive 1 { pk with dst := 7, ttl := 2 } 0) { joined with fab := { joined.fab with down := [3], routes := { joined.fab.routes with failover := SMap.put joined.fab.routes.failover 103 (2, 0) } } } (fun s' => rd s' Reg.FAB_UNREACH_COUNT == 1 && s'.ports == joined.ports) = true := by decide

def routed : State := setPort { joined with fab := { joined.fab with routes := { joined.fab.routes with route := List.replicate 8 (1, 1) } } } 0 act
theorem test_transit_leaves_by_its_port : egressPort routed { pk with dst := 7, ttl := 1 } = some 0 ∧
    after (.packetArrive 1 { pk with dst := 7, ttl := 2 } 0) routed (fun s' => s'.out.contains (.packet 0 { pk with dst := 7, ttl := 1 }) && (port s' 0).txSeq == 1 && (port s' 0).st == .active && port s' 1 == port routed 1 && same routed s' [] && s'.fab.delivered == []) = true := by decide
theorem test_key_reject_notice : streamOfTag joined 0x21 = none ∧
    after (.keyRejectNoticeRx 0x21 3 0) joined (fun s' => rd s' Reg.PART_NOTICE_RX_COUNT == 1 &&
    rd s' Reg.PART_EVENT == 8 && s'.fab == joined.fab) = true ∧
    streamOfTag (flc (cop 0)) (collTag 0 0 1605 0) = some 0 ∧
   after (.keyRejectNoticeRx (collTag 0 0 1605 0) 3 0) { flc (cop 0) with fence := { qcfg.fence with allocs := qcfg.fence.allocs } } (fun s' => (item s' 0).ph == .done && rd s' Reg.PART_NOTICE_RX_COUNT == 1 && SMap.get? (queue s' 0).done 0 == some .keyReject) = true := by decide
def sent (q : Nat) : Sent := { seq := q, transfer := 9, addr := 0, pkt := cpk q }
def oflow (l : List Sent) (n : Nat) : OutFlow := { part := 0, chan := 0, dst := 3, next := 9, unacked := l, timeouts := n, via := none, reported := true, rejected := false }
def sends (f : OutFlow) : State := { joined with fab := { joined.fab with outFlows := [f] } }
theorem test_e2e_ack : after (.e2eAckRx 0xAAAA 0 3 5 0) (sends (oflow [sent 4,
    sent 5] 1)) (fun s' => outFlow? s' 0 0 3 == some { oflow [sent 5] 0 with reported := ((outFlow? s' 0 0 3).map (·.reported)).getD false }) = true ∧ after (.e2eAckRx 0xAAAA 0 3 4 0) (sends (oflow [sent 4] 1)) (fun s' => outFlow? s' 0 0 3 == some (oflow [sent 4] 1)) = true ∧ idle (.e2eAckRx 0xBBBB 0 3 4 0) joined = true := by decide
theorem test_e2e_nak_and_timeout : after (.e2eNakRx 0xAAAA 0 3 0) (sends (oflow [sent 4,
    sent 5] 1)) (fun s' => rd s' Reg.FAB_E2E_RESEND_COUNT == 2 && outFlow? s' 0 0 3 == some (oflow [sent 4,
    sent 5] 1)) = true ∧
    after (.e2eTimeout 0xAAAA 0 3 0) (sends (oflow [sent 4] 1)) (fun s' => rd s' Reg.FAB_E2E_RESEND_COUNT == 1 &&
    outFlow? s' 0 0 3 == some (oflow [sent 4] 2)) = true ∧
  after (.e2eTimeout 0xAAAA 0 3 0) (sends (oflow [sent 4] 2)) (fun s' => rd s' Reg.FAB_EVENT == 128 &&
      outFlow? s' 0 0 3 == some { oflow [] 0 with reported := false } && rd s' Reg.LNK_CONSEQ_COUNT == 1) = true ∧
      idle (.e2eNakRx 0xBBBB 0 3 0) joined = true ∧ idle (.e2eTimeout 0xBBBB 0 3 0) joined = true := by decide
theorem test_e2e_ack_timer : after (.e2eAckTimer 0xAAAA 0 3) (chanState [flow 5 false]) (fun s' => (inFlow s' 0xAAAA 0 3).unackedCount == 0 && (inFlow s' 0xAAAA 0 3).expect == 5) = true := by decide
def tag0 : Nat := collTag 0 0 1605 0
def cq : State :=
  let s := flc (cop 0)
  { s with fence := qcfg.fence, hubs := { s.hubs with groups := [(0, { Group.none with kind := 1, size := 2, members := [0, 1] })] } }
theorem test_link_fault_notice : after (.linkFaultNoticeRx tag0 0) cq (fun s' => rd s' Reg.LNK_NOTICE_RX_COUNT == 1 && ends s' .linkFault) = true ∧ after (.linkFaultNoticeRx tag0 0) { cq with faults := { reported := [tag0], rejects := [], timedOut := [], closed := [] } } (fun s' => rd s' Reg.LNK_NOTICE_RX_COUNT == 1 && rd s' Reg.LNK_EVENT == 256 && s'.hubs == cq.hubs && s'.faults.reported == [tag0]) = true ∧
  after (.linkFaultNoticeRx tag0 0) { cq with faults := { reported := [], rejects := [], timedOut := [tag0], closed := [] }, regs := SMap.put (SMap.put cq.regs Reg.HUB_COLL_LOG_0 (BitVec.ofNat 32 (0x80000000 + (tag0 / 32 % 256) * 32 + (tag0 % 32) * 8192))) Reg.HUB_COLL_LOG_1 (BitVec.ofNat 32 (tag0 / 8192 % 16384)) } (fun s' => rd s' Reg.LNK_CONSEQ_COUNT == 1 && s'.hubs == cq.hubs && s'.faults.reported == [tag0] && fld (rd s' Reg.HUB_COLL_LOG_0) 18 3 == 3) = true ∧ after (.linkFaultNoticeRx tag0 0) { cq with faults := { reported := [], rejects := [], timedOut := [tag0], closed := [] }, regs := SMap.put cq.regs Reg.HUB_COLL_LOG_0 0x9FE00000 } (fun s' => rd s' Reg.LNK_CONSEQ_COUNT == 1 && rd s' Reg.HUB_COLL_LOG_0 == 0x9FE00000) = true := by decide
theorem test_bridge_fail : after (.bridgeFail [pk] [] 0) live (fun s' => s'.bridge == { live.bridge with st := 1 } &&
    rd s' Reg.LNK_BRIDGE_FAULT_COUNT == 1 && rd s' Reg.LNK_FAULT_OP_COUNT == 1 &&
    rd s' Reg.LNK_FAULT_LOG_0 == 0x80000010#32 && rd s' Reg.LNK_FAULT_LOG_1 == 0x21#32) = true ∧
    idle (.bridgeFail [] [] 0) { live with bridge := { live.bridge with st := 1 } } = true := by decide
theorem test_bridge_retrain : after (.bridgeRetrain true) { live with bridge := { live.bridge with st := 1 } } (fun s' => s'.bridge.st == 2) = true ∧ idle (.bridgeRetrain false) { live with bridge := { live.bridge with st := 1 } } = true := by decide
def upMods : State := { joined with fab := { joined.fab with nodeUp := 0xF } }
theorem test_node_down : after (.nodeDownRx 1 2 0) upMods (fun s' => rd s' Reg.FAB_NODE_DOWN_COUNT == 1 &&
    rd s' Reg.FAB_EVENT == 1 && s'.fab.seenDown == [2] && !bitAt s'.fab.nodeUp 2 && !s'.fab.severed &&
    s'.fab.down == [2]) = true ∧ after (.nodeDownRx 1 0 0) upMods (fun s' => s'.fab.severed &&
    s'.fab.down == [0]) = true ∧
  after (.nodeDownRx 1 2 0) { upMods with fab := { upMods.fab with seenDown := [2] } } (fun s' => s'.fab == { upMods.fab with seenDown := [2] } && same upMods s' []) = true := by decide +kernel
def edge : State := { joined with clock := { live.clock with index := 1600 }, ports := SMap.put joined.ports 1 { act with st := .ready, partnerMod := 3, joinTx := some 2 }, fab := { joined.fab with inFlows := [flow 5 false] } }
def pastEdge (ahead : Bool) : State := { edge with clock := { edge.clock with slotOpen := !ahead }, fab := { edge.fab with down := [2] } }
theorem test_node_up : slotAhead (pastEdge true) = true ∧
    after (.nodeUpRx 1 2 0) (pastEdge true) (fun s' => s'.fab.seenUp == [2] && s'.fab.upNext == [2] &&
    s'.fab.nodeUp == edge.fab.nodeUp && rd s' Reg.FAB_EVENT == 2) = true ∧
    after (.nodeUpRx 1 2 0) (pastEdge false) (fun s' => s'.fab.upNext == [] && bitAt s'.fab.nodeUp 2 &&
    s'.fab.down == []) = true ∧ idle (.nodeUpRx 1 2 0) { joined with fab := { joined.fab with seenUp := [2] } }
    = true := by decide
theorem test_join : after (.joinRx 1 3 2 0 2000) edge (fun s' => (port s' 1).st == .active &&
    (port s' 1).joinTx == none && s'.fab.seenUp.contains 3 && s'.fab.seenUp.contains 0 &&
    s'.fab.inFlows == []) = true ∧ after (.joinRx 1 3 2 1 0) edge (fun s' => rd s' Reg.FAB_EVENT == 256 &&
    s'.ports == edge.ports && s'.fab == edge.fab) = true ∧
  after (.joinRx 1 3 3 0 0) edge (fun s' => (port s' 1).joinRx == some (3, 0) && (port s' 1).st == .ready) = true ∧
      idle (.joinRx 1 3 2 0 2001) edge = true ∧ idle (.joinRx 1 4 2 0 0) edge = true ∧
      idle (.joinRx 1 3 2 0 0) joined = true := by decide

/-! ## Measurement ingest -/

def be (n v : Nat) : List Byte := (leBytes n v).reverse
/-- An IPv4 UDP frame to 10.0.0.1, to a port. -/
def udp (port : Nat) (d : List Byte) : List Byte := List.replicate 12 0 ++ [8, 0] ++ [0x45, 0] ++ be 2 (28 + d.length) ++ [0, 0, 0, 0, 64, 17, 0, 0] ++ [10, 0, 0, 2] ++ [10, 0, 0, 1] ++ be 2 1 ++ be 2 port ++ be 2 (8 + d.length) ++ [0, 0] ++ d
/-- Port 0 takes measurements; stream 3 is a C37.118.2 stream of partition 0 on it (identifier 7, 50 frames a second); native stream 4. -/
def ing : State := regs live [(Reg.TLY_CFG, 0x00640001), (Reg.TLY_UDP_PORTS, 0x22221111), (Reg.TLY_PORT_IP 0, 0x0A000001), (Reg.TLY_AREA_BASE_LO 0, 0x10000), (Reg.TLY_AREA_CFG 0, 0x00020001),
  (Reg.TLY_STREAM_W0 3, 0x00070005), (Reg.TLY_STREAM_W1 3, 0x00320000), (Reg.TLY_STREAM_W2 3, 1000000), (Reg.TLY_STREAM_W0 4, 0x00090007)]
def c37 (kind frac : Nat) : List Byte :=
  let d := [0xAA, BitVec.ofNat 8 (kind * 16 + 1)] ++ be 2 20 ++ be 2 7 ++ be 4 8 ++ [0] ++ be 3 frac ++ [1, 2, 3, 4]
  d ++ be 2 (crcCcitt d)
theorem test_datagram : datagramOf ing 0 (udp 0x1111 (c37 0 0)) = some (false, c37 0 0) ∧
    datagramOf ing 0 (udp 0x2222 [1]) = some (true, [1]) ∧ datagramOf ing 0 (udp 5 [1]) = none := by decide +kernel
def fr (s : State) (d : List Byte) (p : State → Bool) : Bool := after (.ingestFrameRx 0 (udp 0x1111 d) 25000000) s p
theorem test_frame_screening : after (.ingestFrameRx 0 [] 0) { ing with boot := { ing.boot with serviceable := false } } (fun s' => rd s' Reg.HST_BOOT_INGEST_DROP == 1 && s'.tally == ing.tally) = true ∧ idle (.ingestFrameRx 1 (udp 5 [1]) 0) ing = true ∧ after (.ingestFrameRx 0 (udp 5 [1]) 0) ing (fun s' => rd s' Reg.TLY_RX_0_COUNT == 1 && rd s' Reg.TLY_NOT_MEAS_COUNT == 1 && s'.tally == ing.tally) = true ∧
  fr ing [0xAB] (fun s' => rd s' Reg.TLY_MALFORMED_COUNT == 1) = true ∧
      fr ing ((c37 0 0).set 10 9) (fun s' => rd s' Reg.TLY_CORRUPT_COUNT == 1 && rd s' Reg.TLY_EVENT == 1) = true ∧
      fr ing (c37 4 0) (fun s' => rd s' Reg.TLY_CMD_DROP_COUNT == 1) = true := by decide +kernel
theorem test_data_frames : fr (regs ing [(Reg.TLY_STREAM_W0 3,
    0)]) (c37 0 0) (fun s' => rd s' Reg.TLY_UNKNOWN_COUNT == 1 && rd s' Reg.TLY_EVENT == 2) = true ∧
    fr ing (c37 0 1000000) (fun s' => rd s' Reg.TLY_MALFORMED_COUNT == 1) = true ∧
    fr { ing with fence := { ing.fence with inForce := 0 } } (c37 0 0) (fun s' => rd s' Reg.TLY_INACTIVE_COUNT == 1) = true ∧
  fr ing (c37 0 20000) (fun s' => rdF s' (Reg.TLY_STREAM_W3 3) 0 17 == 65536 + 401 &&
      memRead s' (0x10000 + 64) 4 == [3, 0, 0, 3] && memRead s' (0x10000 + 128) 2 == [0xAA, 1] &&
      (SMap.get s'.tally.sets TallySet.init 0).entries == 1) = true := by decide +kernel
theorem test_ingest_links : after (.ingestLinkDown 1 0) (regs ing [(Reg.TLY_STATUS,
    0x600)]) (fun s' => rd s' Reg.TLY_STATUS == 0x200#32 && rd s' Reg.TLY_EVENT == 0x200#32) = true ∧
    idle (.ingestLinkDown 0 0) ing = true ∧
    after (.ingestLinkUp 0) ing (fun s' => rd s' Reg.TLY_STATUS == 0x200#32 && same ing s' [Reg.TLY_STATUS]) = true ∧
    idle (.ingestLinkUp 2) ing = true ∧ idle (.ingestLinkDown 2 0) ing = true := by decide
def ring (u : Nat) : State := regs { live with tally := { live.tally with fwdUsed := [(0, u)], fwdOff := [0] } } [(Reg.TLY_FWD_CFG 0, 2), (Reg.TLY_FWD_HEAD 0, 3)]
theorem test_forward_head : after (.tlyFwdHeadWrite 0 1) (ring 2) (fun s' => rd s' (Reg.TLY_FWD_HEAD 0) == 1 &&
    SMap.get s'.tally.fwdUsed 9 0 == 0 && s'.tally.fwdOff == []) = true ∧
    after (.tlyFwdHeadWrite 0 1) (ring 1) (fun s' => rd s' (Reg.TLY_FWD_HEAD 0) == 3 &&
    s'.tally.fwdUsed == [(0, 1)] && s'.tally.fwdOff == []) = true ∧
    after (.tlyFwdHeadWrite 0 4) (ring 2) (fun s' => rd s' (Reg.TLY_FWD_HEAD 0) == 3) = true ∧
    idle (.tlyFwdHeadWrite 2 1) (ring 1) = true := by decide
def unlocked : State := { ing with boot := { ing.boot with cfgLocked := false } }
theorem test_stream_write : after (.tlyStreamWrite 3 1 0x00640005 .pf0 0) unlocked (fun s' => rd s' (Reg.TLY_STREAM_W1 3) == 0x00640005#32 && same unlocked s' [Reg.TLY_STREAM_W1 3]) = true ∧ after (.tlyStreamWrite 5 0 0x00070007 .pf0 0) unlocked (fun s' => rd s' (Reg.TLY_STREAM_W0 5) == 0x00070007#32) = true ∧ after (.tlyStreamWrite 5 0 0x00090007 .pf0 0) unlocked (fun s' => rd s' (Reg.TLY_STREAM_W0 5) == 0 && rd s' Reg.TLY_STATUS == 256) = true ∧
  after (.tlyStreamWrite 3 1 5 .pf0 0) ing (fun s' => rd s' Reg.FENCE_COUNT_LOCK == 1 &&
      rd s' Reg.FENCE_EVENT == 64 && rd s' (Reg.TLY_STREAM_W1 3) == 0x00320000#32) = true ∧
      idle (.tlyStreamWrite 8192 0 0 .pf0 0) ing = true ∧ idle (.tlyStreamWrite 3 3 0 .pf0 0) ing = true := by decide
/-- A native segment: index, last index, block length, payload. -/
def seg (idx last bl off : Nat) (pay : List Byte) : List Byte := [0x4D, 0x4B, 1, BitVec.ofNat 8 (idx + 16 * last)] ++ leBytes 2 9 ++ leBytes 2 1 ++ leBytes 12 8025 ++ leBytes 4 bl ++ leBytes 4 off ++ leBytes 2 pay.length ++ leBytes 2 0 ++ pay
def nat (s : State) (d : List Byte) (p : State → Bool) : Bool := after (.ingestFrameRx 0 (udp 0x2222 d) 0) s p
theorem test_native_segments : nat ing (seg 1 1 3 1 [5, 6]) (fun s' => rd s' Reg.TLY_ORPHAN_COUNT == 1) = true ∧
    nat ing (seg 0 1 2 0 [5, 6]) (fun s' => rd s' Reg.TLY_MALFORMED_COUNT == 1 && s'.tally.blocks == []) = true ∧
    nat ing (seg 0 1 3 0 [5, 6]) (fun s' => ((SMap.get? s'.tally.blocks 0).map (fun b => (b.next, b.count,
    b.payload))) == some (1, 2, [5, 6])) = true := by decide
def meas (alive : Nat) : Meas := { ofNative := false, id := 7, alive := alive, time := 8025000000, data := [1], len := 1 }
def seen (v : Nat) : State := regs ing [(Reg.TLY_STREAM_W3 3, 0x10000 + v)]
theorem test_alive : ((judge (seen 5) 0 3 (meas 5) 0).regs.any (fun e => e.1 == Reg.TLY_REPEAT_COUNT &&
    e.2 == 1)) = true ∧ rd (judge (seen 5) 0 3 (meas 4) 0) Reg.TLY_OLD_COUNT = 1 ∧
    rdF (judge (seen 5) 0 3 (meas 4) 0) (Reg.TLY_STREAM_W3 3) 0 17 = 65541 ∧
    rdF (judge (seen 65535) 0 3 (meas 0) 0) (Reg.TLY_STREAM_W3 3) 0 17 = 65536 ∧
    rd (judge (seen 65535) 0 3 (meas 0) 0) Reg.TLY_GAP_COUNT = 0 ∧
  rd (judge (seen 5) 0 3 (meas 8) 0) Reg.TLY_GAP_COUNT = 1 ∧
      rdF (judge ing 0 3 (meas 8) 0) (Reg.TLY_STREAM_W3 3) 0 17 = 65544 ∧
      rd (judge { ing with tally := { ing.tally with sets := [(0, { TallySet.init with entries := 2 })] } } 0 3 (meas 8) 0) Reg.TLY_DROPPED_COUNT = 1 := by decide

/-! ## The Ledger -/

def mdl : Model :=
  let r0 : Model := { runNext := false, multi := false, part := 0, steps := 1, microsteps := 1, failLimit := 2, leadMod := 0, group := 0, cores := 1, maxCtx := 64, kvb := 4096, d0 := 1, d1 := 1, d2 := 1, p0 := 1, p1 := 1, chunkMax := 8, slotMax := 2, reserve := 0, summaryBytes := 65536, summaryTokens := 4, layout := 0, place := 0, peerModel := 1, peerMod := 2, draftModel := 255, draftLen := 0, kvChannel := 0, shipGroup := 0, stepStreams := 0, vocab := 8, sampleK := 2, shipLimit := 3, adapterBpr := 64, gatherBase := 0 }
  r0
/-- One model of a place, with pages of 64 KiB from 0x10000 in module memory, its run and its slots. -/
def sv (place : Nat) (r : ModelRun) (sl : List (Nat × Slot)) (s : State) : State :=
  { s with ledger := { s.ledger with parts := [(0, { slotFirst := 0, slotMax := 4, weights := [2, 1, 1, 1, 1, 1, 1, 1], pageLog2 := 16, kvBase := 0x10000, kvPages := 2 })], models := [(0, { mdl with place := place })], runs := [(0, r)], slots := sl, taken := [(0, sl.flatMap (·.2.pages))] } }
/-- A slot of model 0 whose SUBMIT is entry 0 of queue 0. -/
def sl0 : Slot := { Slot.free with st := 2, promptLen := 4, maxNew := 8, pages := [0], desc := { Desc.zero with opcode := 4 } }
/-- A SERVE_SUBMIT of model 0: four prompt tokens of the host at 0x8000, eight new ones. -/
def sub (prompt fl : Nat) : Desc := { Desc.zero with opcode := 4, ops := leBytes 2 0 ++ leBytes 1 fl ++ leBytes 1 255 ++ leBytes 4 4 ++ leBytes 8 prompt ++ leBytes 4 8 ++ leBytes 4 0xFFFF ++ leBytes 8 0 }
def subm (place : Nat) (sl : List (Nat × Slot)) (d : Desc) : State := sv place ModelRun.init sl (qon { enQ with posted := [0], cache := [{ cached 0 with desc := d }] })
def res (s' : State) (code k : Nat) : Bool := (rd s' Reg.LDG_ADMIT_RESULT).toNat == 0x80000000 + code * 1024 + k
theorem test_admit : after (.ldgAdmit 0 0) (subm 0 [] (sub 0x8000 1)) (fun s' => res s' 0 0 &&
    rd s' Reg.LDG_ADMIT_COUNT == 1 && takenPages s' 0 == [0] && (slot s' 0).st == 1 && (slot s' 0).pages == [0] &&
    (slot s' 0).todo == 4 && (queue s' 0).cache == [] && slot s' 1 == Slot.free) = true ∧
  slotOfSubmit (subm 0 [] (sub 0x8000 1)) 0 0 0 (sub 0x8000 1) 0 = { Slot.free with st := 1, promptLen := 4, promptAddr := 0x8000, promptHost := true, maxNew := 8, todo := 4, desc := sub 0x8000 1 } ∧ windowOk (subm 0 [] (sub 0x8000 1)) 0 true false 0x8000 16 = true ∧
  after (.ldgAdmit 0 0) (subm 0 [] (sub 0x200000 0)) (fun s' => res s' 0 0 && (slot s' 0).st == 0 &&
      SMap.get? (queue s' 0).done 0 == some .windowViolation && takenPages s' 0 == []) = true := by decide
theorem test_admit_refused : after (.ldgAdmit 1 0) (subm 0 [] (sub 0x8000 1)) (fun s' => res s' 3 0 &&
    rd s' Reg.LDG_REFUSE_COUNT == 1 && rd s' Reg.LDG_EVENT == 1 && s'.ledger == (subm 0 [] (sub 0x8000 1)).ledger &&
    s'.queues == (subm 0 [] (sub 0x8000 1)).queues) = true ∧
  after (.ldgAdmit 0 0) { subm 0 [] (sub 0x8000 1) with fence := { qcfg.fence with inForce := 2 } } (fun s' => res s' 4 0 && rd s' Reg.LDG_REFUSE_COUNT == 1) = true ∧
  after (.ldgAdmit 0 0) (subm 0 [(0, sl0), (2, sl0)] (sub 0x8000 1)) (fun s' => res s' 5 0 &&
      rd s' Reg.LDG_REFUSE_LOG == 1) = true ∧
  after (.ldgAdmit 0 0) (subm 0 ([0, 1, 2, 3].map (fun k => (k,
      { sl0 with model := 1 }))) (sub 0x8000 1)) (fun s' => res s' 1 0 && rd s' Reg.LDG_REFUSE_LOG == 1) = true ∧
  after (.ldgAdmit 0 0) (subm 0 [(0,
      { sl0 with pages := [0, 1], model := 1 })] (sub 0x8000 1)) (fun s' => res s' 2 0 &&
      rd s' Reg.LDG_REFUSE_LOG == 2) = true := by decide
def ord : List Byte := leBytes 4 0x5244524F ++ leBytes 1 2 ++ leBytes 1 0 ++ leBytes 2 7 ++ leBytes 1 0 ++ leBytes 1 255 ++ leBytes 2 0xFFFF ++ leBytes 4 4 ++ leBytes 4 4096 ++ leBytes 1 16 ++ leBytes 3 0 ++ leBytes 8 5 ++ leBytes 4 0 ++ leBytes 4 9 ++ leBytes 24 0 ++ leBytes 16 0
def anOrder : Order := { bytes := ord, seq := 2, src := 2 }
def rn : ModelRun := ModelRun.init
theorem test_order_admit : after (.ldgOrderAdmit 0 0) (sv 2 { rn with orders := [anOrder] } [] live) (fun s' => (rd s' Reg.LDG_ORDER_RESULT).toNat == 0x80000000 && rd s' (Reg.MSK_SLOT_STATE 0) == 9 && (slot s' 0).st == 1 && (slot s' 0).pages == [0] && takenPages s' 0 == [0] && (run s' 0).orders == []) = true ∧
  after (.ldgOrderAdmit 0 0) (sv 2 rn [] live) (fun s' => (rd s' Reg.LDG_ORDER_RESULT).toNat == 0x80000C00) = true ∧
      after (.ldgOrderAdmit 0 0) (sv 0 rn [] live) (fun s' => (rd s' Reg.LDG_ORDER_RESULT).toNat == 0x80001000)
      = true := by decide
/-- An output ring of four slots at 0x40000 of the host, vector 5. -/
def oring (on : Bool) (s : State) : State := regs s [(Reg.LDG_OUT_BASE_LO 0, 0x40000), (Reg.LDG_OUT_CFG 0, 0x50002 + (if on then 16 else 0))]
theorem test_output_ring : after (.outputRingEnable 0 0x50012) (sv 0 rn [] (oring false qcfg)) (fun s' => rd s' (Reg.LDG_OUT_CFG 0) == 0x50012) = true ∧ after (.outputRingEnable 0 0x90012) (sv 0 rn [] (oring false qcfg)) (fun s' => rd s' (Reg.LDG_OUT_CFG 0) == 0x90002) = true ∧
  after (.outputRingEnable 0 0x60003) (sv 0 rn [] (oring true qcfg)) (fun s' => rd s' (Reg.LDG_OUT_CFG 0) == 0x50002) = true := by decide
def used (n : Nat) (s : State) : State := { s with ledger := { s.ledger with outUsed := [(0, n)] } }
theorem test_output_head : after (.ldgOutHeadWrite 0 3) (used 3 (oring true live)) (fun s' => rd s' (Reg.LDG_OUT_HEAD 0) == 3 && SMap.get s'.ledger.outUsed 0 0 == 0) = true ∧ idle (.ldgOutHeadWrite 0 4) (used 3 (oring true live)) = true ∧ idle (.ldgOutHeadWrite 0 3) (used 2 (oring true live)) = true := by decide

/-! ## Steps and chunks -/

def stepping : ModelRun := { rn with running := true, rows := [0], stepNo := 5, microstep := 1 }
def upd (step micro : Nat) : SlotUpdate := { slot := 3, st := 2, masked := false, step := step, microstep := micro }
theorem test_microstep : after (.microstepBoundary 0) (sv 0 { stepping with updates := [upd 5 2, upd 5 3, upd 4 9] } [(0, sl0)] live) (fun s' => (run s' 0).microstep == 2 && (run s' 0).running && (run s' 0).updates == [upd 5 3] && (slot s' 3).st == 2) = true ∧
  idle (.microstepBoundary 0) (sv 0 rn [] live) = true ∧ idle (.microstepBoundary 1) live = true := by decide
theorem test_slot_update : after (.slotUpdateRx 0 3 2 false 5 1 0) (sv 0 stepping [] live) (fun s' => (run s' 0).updates == [upd 5 1] && rd s' Reg.LDG_UPDATE_LATE_COUNT == 1 && rd s' Reg.LDG_EVENT == 16) = true ∧
  after (.slotUpdateRx 0 3 2 false 5 2 0) (sv 0 stepping [] live) (fun s' => (run s' 0).updates == [upd 5 2] &&
      same live s' []) = true := by decide
/-- Item 0 runs for a source of the Ledger on core 3. -/
def served (src : ItemSrc) (place : Nat) (r : ModelRun) (x : Slot) : State := sv place r [(0, x)] { work { anItem with ph := .running, src := src } with regs := qcfg.regs, fence := qcfg.fence, queues := (qon { enQ with posted := [0, 1] }).queues }
def logits : List Nat := [0x3F800000, 0x40000000, 0x7FC00000, 0xBF800000]
theorem test_step_ends : after (.decodeStepEnd 0 [(0,
    [logits])] 0) (oring true (served (.step 0 0) 0 { stepping with fails := 1 } sl0)) (fun s' => (item s' 0).ph == .done && (run s' 0).rows == [] && !(run s' 0).running && (run s' 0).stepNo == 6 && (run s' 0).stepSeq == 1 && (run s' 0).fails == 0 && rd s' (Reg.LDG_OUT_TAIL 0) == 1 && SMap.get s'.ledger.outUsed 0 0 == 1 &&
      (slot s' 0).emitted == 1 && (slot s' 0).st == 2 && rd s' (Reg.MSK_SLOT_STATE 0) == 0 &&
          hostRead s' 0x40000 4 == leBytes 4 0x48435442 && hostRead s' 0x40020 16 == leBytes 4 0x1010000 ++
          leBytes 4 0 ++ leBytes 4 0 ++ leBytes 4 1) = true ∧
  after (.decodeStepEnd 0 [(0,
      [logits])] 0) (served (.step 0 0) 0 stepping sl0) (fun s' => rd s' Reg.LDG_OUT_DROP_COUNT == 1 &&
      rd s' Reg.LDG_EVENT == 2 && (run s' 0).gap && (run s' 0).stepSeq == 1) = true ∧
  after (.decodeStepEnd 0 [] 0) (served (.step 0 0) 3 stepping sl0) (fun s' => (item s' 0).ph == .done &&
      (run s' 0).stepNo == 6 && (run s' 0).stepSeq == 0) = true ∧
      idle (.decodeStepEnd 0 [] 0) (served (.entry 0 0) 0 stepping sl0) = true := by decide +kernel
theorem test_step_selects : selectToken (served (.step 0 0) 0 stepping sl0) mdl 255 0 none logits = some 1 ∧
    selectToken live mdl 255 0 none [0x7FC00000, 0x7FC00000] = some 0 ∧ selectToken live mdl 255 0 none [0x80000000,
    0] = some 0 ∧ selectToken live mdl 255 0 none [] = none ∧
  candidates live { mdl with sampleK := 3 } 255 0 none [0x3F800000, 0x40000000, 0x7FC00000, 0x40000000] = [1, 3,
      0] := by decide
def pf : Slot := { sl0 with st := 1, todo := 4 }
theorem test_chunk_ends : after (.prefillChunkEnd 0 logits 0) (served (.chunk 0 0 3) 0 { rn with vtime := 10, finish := [20, 0, 0, 0, 0, 0, 0, 0], fails := 1 } pf) (fun s' => (item s' 0).ph == .done && (slot s' 0).todo == 1 && (slot s' 0).st == 1 && (run s' 0).vtime == 20 && (run s' 0).finish.head? == some (20 + 98304) && (run s' 0).fails == 0) = true ∧
  after (.prefillChunkEnd 0 logits 0) (served (.chunk 0 0 4) 0 rn pf) (fun s' => (slot s' 0).st == 2 &&
      (slot s' 0).todo == 0 && (run s' 0).stepSeq == 1 && (slot s' 0).emitted == 1) = true ∧
  after (.prefillChunkEnd 0 logits 0) (served (.chunk 0 0 4) 0 rn { pf with summary := true, resume := some (0, 1, Desc.zero) }) (fun s' => (slot s' 0).st == 2 && (slot s' 0).resume == none && SMap.get? (queue s' 0).done 1 == some .ok) = true ∧ idle (.prefillChunkEnd 0 [] 0) (served (.entry 0 0) 0 rn pf) = true := by decide
theorem test_prefill_ships : after (.prefillChunkEnd 0 logits 0) (served (.chunk 0 0 4) 2 rn { pf with order := some anOrder, queue := 64, desc := Desc.zero }) (fun s' => s'.fab.nextTransfer == live.fab.nextTransfer + 1 && (item s' 0).ph == .done) = true := by decide

/-! ## Pauses and resumes -/

def gone (s' : State) (st : Status) : Bool := (slot s' 0).st == 0 && takenPages s' 0 == [] && SMap.get? (queue s' 0).done 0 == some st
theorem test_ttl_expiry : after (.pauseTtlExpiry 0 0) (served (.entry 0 0) 0 rn { sl0 with st := 5, ttlOn := true }) (fun s' => gone s' .cancelled && rd s' Reg.LDG_EXPIRE_COUNT == 1 && rd s' Reg.LDG_EVENT == 8) = true ∧ idle (.pauseTtlExpiry 0 0) (served (.entry 0 0) 0 rn { sl0 with st := 5, ttlOn := true, ttl := 1 }) = true := by decide
def pausing : Slot := { sl0 with st := 3, pause := some (0, 1, Desc.zero, 1), pausedFrom := 2, hostAddr := 0x20000 }
theorem test_cold_pause : after (.coldPauseComplete 0 0) (served (.entry 0 0) 0 rn { pausing with pages := [] }) (fun s' => (slot s' 0).st == 4 && (slot s' 0).pause == none && SMap.get? (queue s' 0).done 1 == some .ok) = true ∧
  after (.coldPauseComplete 0 0) { served (.entry 0 0) 0 rn pausing with mems := { live.mems with poisonMem := [1024] } } (fun s' => gone s' .poisoned) = true ∧
  after (.coldPauseComplete 0 0) (served (.entry 0 0) 0 rn { pausing with hostAddr := 0x200000 }) (fun s' => (slot s' 0).st == 2 && (slot s' 0).pause == none && (slot s' 0).pages == [0] && SMap.get? (queue s' 0).done 1 == some .windowViolation) = true ∧ idle (.coldPauseComplete 0 0) (served (.entry 0 0) 0 rn sl0) = true := by decide
theorem test_cold_pause_moves_its_pages : (pausing.pages.any (fun pg => memPoisoned (served (.entry 0 0) 0 rn pausing) (pageAddr (served (.entry 0 0) 0 rn pausing) 0 pg) 65536)) = false ∧ pausing.pages.length = 1 ∧ windowOk (served (.entry 0 0) 0 rn pausing) 0 true true 0x20000 65536 = true := by decide
theorem test_summary_store : after (.summaryStoreComplete 0 0) (served (.summary 0 0) 0 rn { pausing with pages := [1, 0] }) (fun s' => (slot s' 0).st == 5 && (slot s' 0).pages == [1] && (slot s' 0).pause == none && takenPages s' 0 == [1] && SMap.get? (queue s' 0).done 1 == some .ok) = true ∧ idle (.summaryStoreComplete 0 0) (served (.entry 0 0) 0 rn pausing) = true := by decide
def resuming : Slot := { sl0 with st := 6, resume := some (0, 1, Desc.zero), reads := 0 }
theorem test_cold_resume : after (.coldResumeComplete 0 none 0) (served (.entry 0 0) 0 rn resuming) (fun s' => (slot s' 0).st == 2 && (slot s' 0).resume == none && (slot s' 0).pages == [0] && SMap.get? (queue s' 0).done 1 == some .ok) = true ∧ idle (.coldResumeComplete 0 none 0) (served (.entry 0 0) 0 rn { resuming with reads := 1 }) = true ∧
  after (.coldResumeComplete 0 (some .unsupported) 0) (served (.entry 0 0) 0 rn { resuming with resume := none }) (fun s' => gone s' .poisoned) = true ∧ idle (.coldResumeComplete 0 (some .unsupported) 0) live = true := by decide

/-! ## Orders and ships -/

def keyed (s : State) : State := regs s [(Reg.PART_KEY 0, 0x1AAAA)]
theorem test_order_rx : after (.orderRx ord 2 0xAAAA 0) (sv 2 rn [] live) (fun s' => (run s' 0).orders == [{ anOrder with seq := 5 }] && same live s' []) = true ∧
  after (.orderRx ord 2 0xAAAA 0) (sv 0 rn [] live) (fun s' => rd s' Reg.MSK_ORDER_REFUSE_COUNT == 1 &&
      rd s' Reg.MSK_EVENT == 64 && s'.ledger == (sv 0 rn [] live).ledger) = true ∧
  after (.orderRx (ord.set 0x10 1#8) 2 0xAAAA 0) (sv 2 rn [] live) (fun s' => rd s' Reg.MSK_ORDER_REFUSE_COUNT == 1) = true := by decide
theorem test_order_refused : after (.orderRefuseNoticeRx 0 0 0) (served (.entry 0 0) 1 rn pf) (fun s' => gone s' .notAdmitted) = true ∧
    after (.orderRefuseNoticeRx 0 5 0) (served (.entry 0 0) 1 rn pf) (fun s' => gone s' (Status.ofCode 5)) = true ∧ idle (.orderRefuseNoticeRx 0 0 0) (served (.entry 0 0) 0 rn pf) = true := by decide
theorem test_order_timeout : after (.orderQueueTimeout 0 0) (sv 2 { rn with orders := [anOrder, anOrder] } [] live) (fun s' => (run s' 0).orders == [anOrder] && rd s' Reg.MSK_ORDER_REFUSE_COUNT == 1) = true ∧ idle (.orderQueueTimeout 0 0) (sv 2 { rn with orders := [{ anOrder with seq := 3 }] } [] live) = true := by decide
def ordered : Slot := { pf with order := some anOrder, queue := 64 }
theorem test_order_withdrawn : after (.orderWithdrawRx 2 7) (sv 2 { rn with orders := [anOrder, { anOrder with src := 3 }] } [(0, ordered), (1, sl0)] live) (fun s' => (run s' 0).orders == [{ anOrder with src := 3 }] && (slot s' 0).st == 0 && slot s' 1 == sl0 && same live s' []) = true := by decide
theorem test_ship_complete : after (.kvShipComplete 0 [] (some 3) 9 0) (served (.entry 0 0) 1 rn pf) (fun s' => rd s' (Reg.MSK_SLOT_STATE 0) == 9 && (run s' 0).stepSeq == 1 && (slot s' 0).emitted == 1 && (slot s' 0).shipped && (slot s' 0).todo == 0 && (slot s' 0).st == 1) = true := by decide
theorem test_ship_timeout : after (.kvShipTimeout 0 0) (served (.entry 0 0) 1 rn pf) (fun s' => gone s' .linkFault &&
    rd s' Reg.MSK_SHIP_FAIL_COUNT == 1 && rd s' Reg.MSK_EVENT == 32) = true ∧
  after (.kvShipTimeout 0 0) (sv 2 rn [(0,
      { ordered with shipSeq := some 2 })] live) (fun s' => (slot s' 0).st == 0 && takenPages s' 0 == [] &&
      same live s' []) = true ∧ idle (.kvShipTimeout 0 0) (sv 2 rn [(0, { ordered with shipSeq := some 3 })] live) = true ∧
      idle (.kvShipTimeout 0 0) (served (.entry 0 0) 1 rn sl0) = true := by decide

/-! ## Automata and adapters -/

def auto (st : Nat) (s : State) : State := regs s [(Reg.MSK_AUTO_STATUS, st), (Reg.MSK_AUTO_W0 2, 2), (Reg.MSK_AUTO_W1 2, 4), (Reg.MSK_AUTO_W2 2, 8), (Reg.MSK_AUTO_W5 2, 3)]
def compat (s : State) : State := { s with straps := { s.straps with g1compat := true } }
theorem test_auto_load : after (.autoLoad 2 0) (auto 0 live) (fun s' => rd s' Reg.MSK_AUTO_STATUS == 66 &&
    same (auto 0 live) s' [Reg.MSK_AUTO_STATUS]) = true ∧ idle (.autoLoad 2 0) (auto 66 live) = true ∧
    idle (.autoUnload 2 0) (auto 66 live) = true ∧
  after (.autoLoad 2 0) (compat (auto 0 live)) (fun s' => rd s' Reg.MSK_EVENT == 1 &&
      rd s' Reg.MSK_AUTO_STATUS == 0) = true ∧
      after (.autoUnload 2 0) (compat (auto 0 live)) (fun s' => rd s' Reg.MSK_EVENT == 1 &&
      rd s' (Reg.MSK_AUTO_W0 2) == 2) = true := by decide
theorem test_auto_unload : after (.autoUnload 2 0) (wr (auto 0 live) (Reg.MSK_AUTO_W0 2) 3) (fun s' => rd s' (Reg.MSK_AUTO_W0 2) == 2 && (rd s' Reg.MSK_AUTO_STATUS).toNat == 0x80000002) = true ∧
  after (.autoUnload 2 0) (wr (sv 0 rn [(0,
      { sl0 with maskN := 2 })] (auto 0 live)) (Reg.MSK_AUTO_W0 2) 3) (fun s' => rd s' (Reg.MSK_AUTO_W0 2) == 3 &&
      (rd s' Reg.MSK_AUTO_STATUS).toNat == 0x80000102 && rd s' Reg.MSK_EVENT == 1) = true := by decide
theorem test_auto_validation : after (.autoValidationDone 0) (auto 66 live) (fun s' => (rd s' Reg.MSK_AUTO_STATUS).toNat == 0x80000002 && rd s' (Reg.MSK_AUTO_W0 2) == 3 && rd s' Reg.MSK_EVENT == 0) = true ∧
  after (.autoValidationDone 0) (wr (auto 66 live) (Reg.MSK_AUTO_W2 2) 0) (fun s' => (rd s' Reg.MSK_AUTO_STATUS).toNat == 0x80000302 && rd s' (Reg.MSK_AUTO_W0 2) == 2 && rd s' Reg.MSK_EVENT == 1) = true ∧ idle (.autoValidationDone 0) (auto 0 live) = true := by decide
theorem test_ramp_automaton : autoAllows (auto 0 live) 2 0x80000000 none 11 = true ∧
    autoAllows (auto 0 live) 2 3 none 7 = true ∧ autoAllows (auto 0 live) 2 3 none 8 = false ∧
    autoAllows (auto 0 live) 2 3 none 3 = true ∧ autoAllows (auto 0 live) 2 3 none 13 = false ∧
    autoNext (auto 0 live) 2 3 none 8 = 4 ∧ autoNext (auto 0 live) 2 3 none 2 = 3 ∧ autoStart (auto 0 live) 2 [5,
    1] = 1 := by decide
def adp (s : State) : State := sv 0 rn [] (regs s [(Reg.MSK_ADAPTER_W2 5, 0x5000)])
theorem test_adapter : after (.adapterRegister 5 0xFFFF0801 0) (adp live) (fun s' => rd s' (Reg.MSK_ADAPTER_W0 5) == 0x801 && same (adp live) s' [Reg.MSK_ADAPTER_W0 5]) = true ∧
  after (.adapterRegister 5 0x1 0) (adp live) (fun s' => rd s' Reg.MSK_ADAPTER_REFUSE_COUNT == 1 &&
      rd s' Reg.MSK_EVENT == 2 && rd s' (Reg.MSK_ADAPTER_W0 5) == 0) = true ∧
  after (.adapterRegister 5 0x0 0) (sv 0 rn [(0,
      { sl0 with adapter := 5 })] live) (fun s' => rd s' Reg.MSK_ADAPTER_REFUSE_COUNT == 1) = true ∧
  after (.adapterRegister 5 0x801 0) (compat (adp live)) (fun s' => rd s' Reg.MSK_ADAPTER_REFUSE_COUNT == 0 &&
      rd s' Reg.MSK_EVENT == 2 && rd s' (Reg.MSK_ADAPTER_W0 5) == 0) = true := by decide

/-! ## Background work -/

def slotOpen (s : State) : State := { s with clock := { s.clock with slotOpen := true } }
def chores (b : Background → Background) : State := { live with bkg := b { live.bkg with running := [2] } }
theorem test_chore_start : after (.choreStart [.hbm 5 true] 0) (slotOpen live) (fun s' => s'.bkg.running == choresOf s'.build && rd s' Reg.BKG_HBM_UE_COUNT == 1 && wbit (rd s' Reg.BKG_EVENT) 1 && s'.mems.poisonMem == [5] && s'.mems.mem == live.mems.mem && rd s' Reg.BKG_HBM_UE_LOG_LO == 0x141 && rd s' Reg.BKG_HBM_UE_LOG_HI == 0) = true ∧ idle (.choreStart [] 0) State.reset = true ∧
    atEpochEdge live = false := by decide
theorem test_carry_over_window : after (.choreStart [.hbm 5 true] 3) live (fun s' => s'.bkg.running == [0, 1, 2] &&
    s'.bkg.carry == some 3 && s'.mems.poisonMem == [5] && s'.bkg.ticks == live.bkg.ticks) = true ∧
    after (.choreStart [.hbm 5 true] 3) (work { anItem with seq := 4, ph := .running }) (fun s' => s'.bkg.running == [2] && s'.mems.poisonMem == []) = true ∧
    idle (.choreStart [] 100000) live = true ∧ graceNs live = 100000 := by decide
theorem test_chore_stop : after (.choreStop 0) (chores id) (fun s' => s'.bkg.running == [] &&
    SMap.get s'.bkg.place 0 2 == 32 * maintNs live && s'.mems == live.mems && s'.logBuf == live.logBuf) = true ∧
    idle (.choreStop 0) live = true := by decide
def alive (p : Port → Port) (s : State) : State := { s with ports := SMap.put s.ports 3 (p { port s 3 with st := .active, laneOk := 15, partnerMod := 2 }) }
theorem test_lane_recal : epochNum live 1605 % 4 = 2 ∧ epochPos live 1605 = 5 ∧ maintNs live = 250000 ∧
    after (.laneRecalStart 3) (slotOpen (alive id live)) (fun s' => (port s' 3).recal == some (2, true) &&
    (port s' 3).widthReq == some 11 && (port s' 3).laneOk == 15 && same live s' [] && port s' 4 == port live 4) = true ∧
  idle (.laneRecalStart 3) (alive id live) = true ∧
      idle (.laneRecalStart 3) (slotOpen (alive (fun p => { p with laneOk := 3 }) live)) = true := by decide
theorem test_lane_recal_done : after (.laneRecalDone 3 true 0) (alive (fun p => { p with recal := some (0, true), laneOk := 14 }) live) (fun s' => (port s' 3).recal == none && (port s' 3).widthReq == some 15 && rd s' Reg.BKG_RECAL_DONE_COUNT == 1 && rd s' Reg.BKG_RECAL_FAIL_COUNT == 0) = true ∧
  after (.laneRecalDone 3 false 0) (alive (fun p => { p with recal := some (0, true), laneOk := 15 }) live) (fun s' => (port s' 3).recal == none && (port s' 3).laneOk == 14 && rd s' Reg.BKG_RECAL_FAIL_COUNT == 1 && (port s' 3).st == .degraded) = true ∧ idle (.laneRecalDone 3 true 0) live = true := by decide
def lrec (i : Nat) : LogRec := .telemetry i 7 0 i [0, 0, 0]
def logging (n : Nat) : State := { chores (fun b => { b with openSector := some 2, nextPage := 3, erased := [3, 4] }) with logBuf := (List.range n).map lrec, regs := SMap.put live.regs Reg.BKG_CFG 0x40#32 }
theorem test_log_page : after .logPageProgram (logging 9) (fun s' => s'.bkg.flashOp == some (.program 0x06120300 ((List.range 8).flatMap (fun i => (lrec i).bytes))) && s'.bkg.pagesInEpoch == 1 && s'.bkg.pageInSlot && s'.mems == live.mems && s'.logBuf.length == 9) = true ∧ idle .logPageProgram live = true ∧
  after .logPageProgram (logging 7) (fun s' => s'.bkg.flashOp == none) = true := by decide +kernel
def flashing (o : FlashOp) : State := { logging 9 with bkg := { (logging 9).bkg with flashOp := some o } }
theorem test_flash_program : after (.flashOpComplete true 0) (flashing (.program 0x06120300 (List.replicate 256 1#8))) (fun s' => s'.bkg.openSector == some 2 && s'.bkg.nextPage == 4 && s'.logBuf == [lrec 8] && Mem.readN 0xFF#8 s'.mems.flash 0x061202FF 2 == [0xFF#8, 1#8] && s'.mems.mem == live.mems.mem) = true ∧
  after (.flashOpComplete false 0) (flashing (.program 0x06120300 [])) (fun s' => s'.bkg.retired == [2] &&
      rd s' Reg.BKG_SECTOR_RETIRED_COUNT == 1 && wbit (rd s' Reg.BKG_EVENT) 8) = true ∧
      idle (.flashOpComplete true 0) live = true := by decide +kernel
theorem test_flash_erase : after (.flashOpComplete true 0) { flashing (.erase 5) with mems := { live.mems with flash := [(0x0614FFFF, 1), (0x06150000, 2), (0x0615FFFF, 3), (0x06160000, 4)] } } (fun s' => SMap.get s'.bkg.erases 0 5 == 1 && s'.bkg.flashOp == none && s'.bkg.erased.contains 5 && s'.mems.flash == [(0x0614FFFF, 1), (0x06160000, 4)]) = true := by decide
theorem test_hw_timer : after (.hwTimerExpiry 4) { regs live [(Reg.BKG_TIMER_RUN 4, 1)] with bkg := { live.bkg with timerNext := [(4, 99)] }, fence := { live.fence with allocs := [(0, { cls := 2, use := 3, part := 0xFF, first := 4, count := 1 })] } } (fun s' => s'.regs == (regs live [(Reg.BKG_TIMER_RUN 4, 1)]).regs && s'.sup.irq && s'.bkg.timerNext == []) = true ∧ idle (.hwTimerExpiry 4) live = true := by decide
theorem test_telemetry_runs : ∃ s', exec (.telemetrySample 0) live = .next s' := ⟨_, rfl⟩

/-! ## The PCIe functions and the link -/

theorem test_flr_pf0 : after (.flrPf0 0) { used 2 (oring true (qon enQ)) with msixUnmasked := [3, 4099], heldWrites := [(0, 0, [1])] } (fun s' => s'.host.pf0Off && s'.heldWrites == [] && queue s' 0 == Queue.init && rd s' (Reg.WQ_Q_CFG 0) == 0 && rd s' (Reg.LDG_OUT_CFG 0) == 0x50002 && s'.msixUnmasked == [4099] && s'.ledger.outUsed == [] && s'.tally.fwdOff == [0, 1] && s'.clock == live.clock && s'.boot == live.boot) = true ∧
  after .flrPf1 { live with msixUnmasked := [3, 4099], msixPending := [4100, 5] } (fun s' => s'.msixUnmasked == [3] && s'.msixPending == [5] && same live s' []) = true := by decide +kernel
def up4 : State := regs live [(Reg.HST_PCIE_STATUS, 0xF86)]
theorem test_perst : after (.perstNAssert 0) { up4 with host := { live.host with ats := [(0, 1)], ideKeySet := 1 } } (fun s' => s'.host.perstLow && s'.host.ats == [] && s'.host.ideKeySet == 0 && rd s' Reg.HST_PCIE_STATUS == 0 && wbit (rd s' Reg.HST_EVENT) 2 && s'.host.pf0Off) = true ∧
  idle (.perstNAssert 0) { live with host := { live.host with perstLow := true } } = true ∧
      after .perstNDeassert { live with host := { live.host with perstLow := true } } (fun s' => s' == live)
      = true := by decide +kernel
theorem test_pcie_link : after (.pcieLinkUp 5 16 true true) live (fun s' => rd s' Reg.HST_PCIE_STATUS == 0xD85)
    = true ∧ after (.pcieLinkUp 6 4 false false) live (fun s' => rd s' Reg.HST_PCIE_STATUS == 0x926) = true ∧
    idle (.pcieLinkUp 0 4 false false) live = true ∧ idle (.pcieLinkUp 7 4 false false) live = true ∧
  after (.pcieLinkDown 0) up4 (fun s' => rd s' Reg.HST_PCIE_STATUS == 0 && wbit (rd s' Reg.HST_EVENT) 2 &&
      s'.queues == live.queues) = true ∧ idle (.pcieLinkDown 0) live = true := by decide
theorem test_ats : after (.atsInvalidateRequest 8 2) { live with host := { live.host with ats := [(0, 7), (1, 8), (0, 9), (0, 10)] } } (fun s' => s'.host.ats == [(0, 7), (0, 10)] && s'.host.atsInv == [8]) = true ∧
  after (.atsInvalidateComplete 8) { live with host := { live.host with atsInv := [8, 9] } } (fun s' => s'.host.atsInv == [9] && s'.out.head? == some (.reply "InvalidateCompletion" 0 (leBytes 8 8))) = true ∧ idle (.atsInvalidateComplete 8) live = true := by decide
theorem test_ide : after (.ideIntegrityFail 0) up4 (fun s' => rd s' Reg.HST_PCIE_STATUS == 0xD86 &&
    s'.host.ideInsecure && rd s' Reg.HST_IDE_FAIL_COUNT == 1 && wbit (rd s' Reg.HST_EVENT) 1) = true ∧
    idle (.ideIntegrityFail 0) live = true ∧
  after (.ideKmKSetGo 3) { regs live [(Reg.HST_PCIE_STATUS, 0xD86)] with host := { live.host with ideInsecure := true, spdmSession := true } } (fun s' => rd s' Reg.HST_PCIE_STATUS == 0xF86 && !s'.host.ideInsecure && s'.host.ideKeySet == 1) = true ∧ idle (.ideKmKSetGo 3) up4 = true := by decide

/-! ## Management and attestation -/

def eid (s : State) : State := regs s [(Reg.HST_MCTP_EID, 0x0A)]
theorem test_mctp : after (.setEndpointId 1 9) live (fun s' => eidOf s' 1 == 9 && eidOf s' 0 == 0 &&
    rd s' Reg.HST_MCTP_EID == 0x900) = true ∧ after (.i3cEntdaa 1) live (fun s' => s'.host.i3cMode == [1]) = true ∧
    idle (.setEndpointId 3 9) live = true ∧ idle (.i3cEntdaa 3) live = true ∧
    idle (.getSensorReading 0 1 0) live = true := by decide
theorem test_pldm : after (.getSensorReading 0 0x70 0) (eid live) (fun s' => s'.out.head? == some (.reply "GetSensorReading" 0 [0, 0, 0, 0])) = true ∧ after (.getSensorReading 0 0x71 0) (eid live) (fun s' => s'.out.head? == some (.reply "GetSensorReading" 0x80 [])) = true ∧
  after (.getSensorReading 0 1 0) { eid live with sup := { live.sup with held := true } } (fun s' => s'.out.head? == some (.reply "GetSensorReading" 4 [])) = true ∧ after (.setEventReceiver 0 (some 8)) (eid live) (fun s' => s'.pldmReceiver == some 8) = true := by decide
def ev0 : EventRec := { cls := .check, block := 3, bit := 2, alert := true, detail := 7, tick := 9, time := [1, 2, 3] }
theorem test_pldm_poll : after (.pollForPlatformEventMessage 0) { eid live with pldmQ := [ev0], pldmReceiver := none } (fun s' => s'.pldmQ == [] && s'.out.head? == some (.reply "PollForPlatformEventMessage" 0 (leBytes 1 EvClass.check.code ++ [3, 2, 1, 7, 0, 0, 0, 9, 0, 0, 0, 1, 0, 0, 0, 2, 0, 0, 0, 3, 0, 0, 0]))) = true ∧
  after (.pollForPlatformEventMessage 0) (eid live) (fun s' => s'.out.head? == some (.reply "PollForPlatformEventMessage" 0 [])) = true := by decide
theorem test_spdm : spdmAnswers up4 3 = true ∧ spdmAnswers live 3 = false ∧
    after (.spdmGetMeasurements 3 5) { up4 with boot := { live.boot with cfgLocked := false } } (fun s' => s'.out.head? == some (.reply "ERROR" 3 [])) = true ∧ measurement live 6 = some (leBytes 8 (live.fuses.minSvn % 65536 + live.fuses.revoked % 16 * 65536)) ∧
  idle (.spdmKeyExchange 3) live = true := by decide
theorem test_spdm_answers : (∃ s', exec (.spdmKeyExchange 3) up4 = .next s' ∧ s'.host.spdmSession = true) ∧
    (∃ s', exec (.spdmChallenge 3 0) up4 = .next s') ∧ (∃ s', exec (.spdmGetCertificate 3 0) up4 = .next s') ∧
    (∃ s', exec (.spdmGetMeasurements 3 6) up4 = .next s') :=
  ⟨⟨_, rfl, rfl⟩, ⟨_, rfl⟩, ⟨_, rfl⟩, ⟨_, rfl⟩⟩
theorem test_log_read : after (.logRead 0x12345) live (fun s' => s'.host.logBusy == some 0x12300 &&
    rd s' Reg.HST_LOG_STATUS == 1 && rd s' Reg.HST_LOG_ADDR == 0x12300) = true ∧
    idle (.logRead 0x01F00000) live = true ∧ idle .logReadComplete live = true ∧
  after .logReadComplete { live with host := { live.host with logBusy := some 0x100 }, mems := { live.mems with flash := [(0x06100104, 0x12)] } } (fun s' => s'.host.logBusy == none && rd s' (Reg.HST_LOG_DATA 1) == 0xFFFFFF12#32 && rd s' Reg.HST_LOG_STATUS == 0) = true := by decide

/-! ## Firmware update -/

def updating (st n : Nat) : State := { regs (eid live) [(Reg.HST_UPDATE_STATUS, 1 + 4 * st)] with host := { live.host with update := { active := true, got := 0, len := n } } }
theorem test_update_opens : after (.requestUpdate 0 2000 0) (eid live) (fun s' => s'.host.update == { active := true, got := 0, len := 2000 } && updateSlot s' == 1 && updateState s' == 1) = true ∧ updateTarget live = 1 ∧ updateTarget { live with boot := { live.boot with slot := 1 } } = 0 ∧
  after (.requestUpdate 0 9 0) (updating 1 2000) (fun s' => s'.host.update.len == 2000 &&
      s'.out.head? == some (.reply "RequestUpdate" 0x81 [])) = true := by decide
theorem test_update_data : after (.firmwareDataRx [1, 2,
    3] 0) (updating 1 4) (fun s' => Mem.readN 0xFF#8 s'.mems.flash (slotBase 1) 4 == [1, 2, 3, 0xFF] &&
    s'.host.update.got == 3 && updateState s' == 1) = true ∧ after (.firmwareDataRx [1, 2,
    3] 0) (updating 1 3) (fun s' => updateState s' == 2) = true ∧ idle (.firmwareDataRx [1] 0) live = true := by decide
theorem test_update_verify : imageCode (updating 2 3) 1 [] = 3 ∧
    after (.verifyComplete [] 0) (updating 2 3) (fun s' => updateState s' == 4 && !s'.host.update.active &&
    wbit (rd s' Reg.HST_EVENT) 4 && fld (rd s' Reg.HST_UPDATE_STATUS) 8 8 == 3) = true ∧
    idle (.verifyComplete [] 0) live = true := by decide
theorem test_update_activate : after (.activateFirmware 0 0) (updating 3 3) (fun s' => updateState s' == 5 &&
    !s'.host.update.active && wbit (rd s' Reg.HST_EVENT) 3 && s'.fuses == live.fuses) = true ∧
    after (.activateFirmware 0 0) (eid live) (fun s' => s'.mems == live.mems &&
    s'.out.head? == some (.reply "ActivateFirmware" 0x88 [])) = true := by decide

/-! ## Power, clears -/

theorem test_power_ceiling : after (.pwrLimitWrite 1 .pf0 0) live (fun s' => rd s' Reg.PWR_LIMIT == 1) = true ∧
    after (.pwrLimitWrite 0 .pf0 0) live (fun s' => rd s' Reg.FENCE_EVENT == 64 &&
    rd s' Reg.FENCE_COUNT_LOCK == 1) = true ∧
  after (.pwrLimitWrite (BitVec.ofNat 32 live.build.envelope) .pf0 0) live (fun s' => rd s' Reg.FENCE_EVENT == 0) = true ∧ after (.pwrLimitWrite (BitVec.ofNat 32 (live.build.envelope + 1)) .pf0 0) live (fun s' => rd s' Reg.FENCE_EVENT == 64) = true := by decide
theorem test_limiter : after (.limiterInterval 50 1000) { live with power := { live.power with ceiling := 2700, energy := 10 } } (fun s' => s'.power.energy == 60 && !s'.power.gated && same live s' []) = true ∧ after (.limiterInterval 50 1000) { live with power := { live.power with ceiling := 1, energy := 10, gated := true } } (fun s' => s'.power.gated && s'.power.acted) = true ∧ idle (.limiterInterval 50 0) State.reset = true := by decide
theorem test_rail_fault : after (.railFault 0) live (fun s' => rd s' Reg.PWR_STATUS == 8 &&
    wbit (rd s' Reg.PWR_EVENT) 3 && s'.clock == live.clock) = true := by decide
def ball2 (st : Nat) : State := { regs live [(Reg.HST_ALERT_STATUS, st)] with fence := { live.fence with allocs := [(0, { cls := 1, use := 0x12, part := 0xFF, first := 2, count := 1 })] }, power := { live.power with balls := [(2, true)] } }
theorem test_alarm_ball : after (.alarmMinTimeExpiry 2) (ball2 4) (fun s' => SMap.get? s'.power.balls 2 == some false && s'.out == live.out) = true ∧ after (.alarmMinTimeExpiry 2) (ball2 0) (fun s' => SMap.get? s'.power.balls 2 == none) = true ∧ alarmBalls (ball2 0) 2 = [2] ∧ idle (.alarmMinTimeExpiry 3) (ball2 0) = true := by decide
theorem test_clears : clearCommands.all (fun e => takesWrite live e.2.1 &&
    after e.1 (regs live (e.2.2.map (fun r => (r, 5)) ++ [(Reg.TBU_LIMITS,
    9)])) (fun s' => e.2.2.all (fun r => rd s' r == 0) && rd s' Reg.TBU_LIMITS == 9 &&
    s'.clock == live.clock)) = true := by decide +kernel

/-! ## What every step keeps -/

def cmd : Instr := .labelSubmit 5
theorem test_invariants_hold_at_reset : (Mem.wf 0#8 State.reset.mems.mem && Mem.wf 0xFF#8 State.reset.mems.flash &&
    SMap.sorted State.reset.regs) = true ∧ State.reset.boot.ucodeLocked = false ∧
    State.reset.boot.cfgLocked = false ∧ State.reset.boot.serviceable = false ∧ State.reset.clock.running = false ∧
    State.reset.clock.firstFrom = none ∧ State.reset.boot.phase = 0 := by decide
theorem test_memories_and_locks_of_a_live_module : MemoriesWf live ∧ LockPointsInOrder live := by
  refine ⟨⟨?_, ?_, ?_, ?_, ?_, ?_, ?_, ?_⟩, ⟨⟨?_, ?_, ?_⟩, ?_, ?_⟩⟩ <;> decide
theorem test_step_takes_the_front_command : (match step (live.withPending [cmd,
    .snap 3]) with | .next s' => s'.pending == [.snap 3] &&
    s' == { (match exec cmd (live.withPending [.snap 3]) with | .next u => u | _ => live) with pending := [.snap 3] } | _ => false) = true := by decide
theorem test_idle_step : step live = .next live ∧ decodeTableWord 32 0x1234 = none ∧
    live.withFetchWord 32 0x1234 = live := ⟨rfl, rfl, rfl⟩
theorem test_no_lock_is_undone : isModuleReset (.choreStop 0) = false ∧ (∃ s', exec (.choreStop 0) live = .next s') := ⟨rfl,
    _, rfl⟩

/-! ## More states and operands of the statements -/

theorem test_announce_after_a_gap : after (.ptpAnnounceRx 9 5 true 7 37 true false 0) ptpOn (fun s' => s'.tbu.ptp.count == 0 &&
      s'.tbu.ptp.announceOk) = true ∧
    after (.ptpAnnounceRx 8 5 true 7 37 true false 0) ptpOn (fun s' => s'.tbu.ptp.count == 2) = true := by decide
theorem test_unaligned_reads : after (.pairLoRead 0x2 false .pf0 0) live (fun s' => up live s' Reg.HST_BAD_ACCESS_COUNT &&
      s'.out.head? == some (.value 0xFFFFFFFF)) = true ∧
    after (.pairLoRead (Reg.TICK_SEQ_HI) true .pf0 0) live (fun s' => up live s' Reg.HST_BAD_ACCESS_COUNT &&
      s'.out.head? == some (.value 0xFFFFFFFFFFFFFFFF) && s'.latches == []) = true := by decide
theorem test_slewed_tick : after (.tickEdge [] 0) { live with tbu := { live.tbu with tickSlew := 501 } } (fun s' =>
    s'.clock.elapsed == 35000250 && s'.clock.half == 1) = true := by decide +kernel
def gatedOff (s : State) : State := { s with power := { s.power with gated := true } }
theorem test_gated_lanes_do_not_act : idle (.compute 0 [(true, 0x5000, [1])] 0) (gatedOff (kern 0x4000 0 0)) = true ∧
    idle (.copy 0 0) (gatedOff (cpy 0x5000 0x5001 3 0)) = true := by decide
def waits3 : State :=
  let s := fl [] [(5, [{ wtr 3 false with item := some 0 }])]
  { s with sync := { s.sync with since := [(3, 0)] } }
theorem test_waiting_core : coreWaits waits3 3 = true ∧ idle (.flagWait 3 6 0) waits3 = true ∧ idle (.flagWaitClr 3 5 0) waits3 = true ∧
    idle (.workItemComplete 0 5) waits3 = true ∧
    after (.flagSet 3 6 0) waits3 (fun s' => flagOn s' 6 && waitsOn s' 5 == waitsOn waits3 5) = true := by decide
theorem test_head_doorbell_not_ready : after (.doorbellCqHead 0 1 0) (qon { enQ with st := .stopping, unreleased := [true] }) (fun s' =>
      (queue s' 0).dbResult == 0x0D && (queue s' 0).dbRetry == 0xFFFF && (queue s' 0).cqHead == 0) = true ∧
    after (.doorbellCqHead 0 1 0) (qon { enQ with st := .stopping, unreleased := [true], aborts := [rec0 7] }) (fun s' =>
      (queue s' 0).dbResult == 0 && (queue s' 0).cqHead == 1 && (queue s' 0).unreleased == []) = true := by decide
def tiled : State := flc { cop 0 with cflags := 4, tileK := 2 }
def lit (l : List Nat) (s : State) : State := { s with sync := { s.sync with flags := l } }
theorem test_streamed_source : idle (.allReduce 0 [] 0) tiled = true ∧
    after (.allReduce 0 [] 0) (lit [0, 1] tiled) (fun s' => s'.sync.flags == [1] && s'.mems == tiled.mems &&
      (spoke? s' 0).map (fun q => (q.op.tiles, q.op.ownRead)) == some (1, [5, 0, 0, 0])) = true := by decide +kernel
theorem test_late_parts : after (.allGather 0 [(1, [7])] 0) (coll { cop 3 with lost := 2 }) (fun s' => rd s' Reg.HUB_LATE_CONTRIB_COUNT == 1) = true ∧
    after (.stream 0 0 [1] 0) (flc { cop 10 with lost := 2 }) (fun s' => rd s' Reg.HUB_LATE_CONTRIB_COUNT == 1 && s'.mems == (flc (cop 10)).mems) = true := by decide +kernel
theorem test_node_arm_and_count_header : after (.armMessageRx 0 { armMsg 32 sig0 with sGran := 3 } 0) (arm1 (cop 0)) (fun s' =>
      (spoke? s' 0).map (·.op) == some { cop 0 with stage := 1, sealed := 0, sGran := 3 }) = true ∧
    after (.dataPhaseStart 0 0) (coll { cop 3 with cflags := 2, stage := 2, counts := [2, 1] }) (fun s' =>
      memRead s' 0x6000 9 == [2, 0, 0, 0, 1, 0, 0, 0, 0] && (spoke? s' 0).map (·.op.stage) == some 3) = true := by decide +kernel
def withAlt (s : State) : State :=
  { s with fab := { s.fab with routes := { s.fab.routes with trees := [{ Tree.none with defined := true, alt := List.replicate 32 1 }, { Tree.none with defined := true, rootMod := 2 }] } } }
theorem test_node_withdrawal : after (.withdrawNoticeRx 0 255 3 0) (withAlt (coll (cop 0))) (fun s' => rd s' Reg.FAB_TREE_SWITCH_COUNT == 1 &&
      (spoke? s' 0).map (fun q => (q.op.tree, q.op.switching, q.op.lost)) == some (1, true, 0)) = true ∧
    after (.withdrawNoticeRx 0 255 3 0) (coll { cop 0 with tree := 255 }) (fun s' => s'.hubs == (coll { cop 0 with tree := 255 }).hubs) = true := by decide
theorem test_engine_waits : idle (.engineOpComplete 0 0 0) (eng (eop 0x11 0 0) (fun o => { o with cflags := 4, tileK := 2 })) = true ∧
    idle (.engineOpComplete 0 0 0) (withPos (eng { eop 0x10 2 0 with seg := 2 } (fun o => { o with segs := 4, granted := [(1, 0)] }))) = true ∧
    after (.engineOpComplete 0 0 0) (withPos (eng { eop 0x10 2 0 with seg := 1 } (fun o => { o with segs := 4, granted := [(1, 0)] }))) (fun s' =>
      (spoke? s' 0).map (·.op.granted.contains (1, 1)) == some true) = true := by decide
theorem test_engine_send : idle (.engineOpComplete 0 0 0) (eng (eop 0x14 0 0) twoSlots) = true ∧
    after (.engineOpComplete 0 0 0) (eng (eop 0x14 0 0) (fun o => { twoSlots o with held := [(0, 0)] })) (fun s' =>
      SMap.get? (slotsOf s') 1 == some ⟨0, true, false, [5, 6], true⟩ && (spoke? s' 0).map (fun q => (q.op.held, q.op.engine)) == some ([], [])) = true ∧
    after (.engineOpComplete 0 0 0) (eng (eop 0x14 1 0) twoSlots) (fun s' => (spoke? s' 0).map (·.op.engine) == some []) = true := by decide
theorem test_width_change_in_flight : after (.flitRx 1 false (idleFlit 0) (0, 0) 7) (pt { act with changing := true }) (fun s' =>
      (port s' 1).gap && (port s' 1).fault == none && rd s' (Reg.LNK_CRC_ERR_COUNT 1) == 1 && s'.out == [.link 1 (.nak 0)]) = true ∧
    after (.nakRx 1 5 0) (pt { kept with changingTx := true }) (fun s' => port s' 1 == { kept with changingTx := true } &&
      rd s' (Reg.LNK_REPLAY_COUNT 1) == 1) = true ∧
    lanesWithout (pt { act with widthReq := some 7 }) 1 0 = 6 ∧
    after (.laneSignalLoss 1 0 0) (pt { act with widthReq := some 7 }) (fun s' => (port s' 1).widthReq == some 6) = true := by decide
theorem test_target_and_egress_rejects : targetOk joined 0 pk = false ∧ targetPoint joined 1 pk = 0x11 ∧
    after (.packetArrive 1 pk 0) joined (fun s' => rd s' Reg.PART_REJECT_HUB_COUNT == 1 && rd s' Reg.PART_REJECT_LOG_0 == rejectLog0 pk.key 0 0x11 6) = true ∧
    after (.packetArrive 1 { pk with dst := 7, ttl := 2 } 0) (regs routed [(Reg.PART_PORT_ALLOW 0, 2)]) (fun s' =>
      rd s' (Reg.PART_REJECT_PORT_COUNT 1) == 1 && rd s' Reg.PART_REJECT_LOG_0 == rejectLog0 pk.key 0 1 7) = true := by decide
theorem test_packet_held_for_its_last_flit : after (.packetArrive 1 { pk with ptype := 0 } 0) (setPort joined 1 { act with rxPartial := some { pk with ptype := 0 } })
    (fun s' => s'.fab == joined.fab && (port s' 1).arriving == some { pk with ptype := 0 } && same joined s' []) = true := by decide
theorem test_rejected_flow_times_out : after (.e2eTimeout 0xAAAA 0 3 0) (sends { oflow [] 0 with rejected := true }) (fun s' =>
      rd s' Reg.LNK_CONSEQ_COUNT == 1 && outFlow? s' 0 0 3 == some (oflow [] 0)) = true ∧
    after (.e2eTimeout 0xAAAA 0 3 0) (sends (oflow [] 0)) (fun s' => rd s' Reg.LNK_CONSEQ_COUNT == 0 && s'.fab == (sends (oflow [] 0)).fab) = true := by decide
theorem test_fraction_beyond_the_second : fracBeyond (bump ing Reg.TLY_RX_0_COUNT) 0 (c37 0 1000000) = true ∧
    fracBeyond (bump ing Reg.TLY_RX_0_COUNT) 0 (c37 0 999999) = false := by decide +kernel
def depends : State :=
  let s := subm 0 [] { sub 0x8000 1 with depValid := true, depIndex := 7 }
  setQueue s 0 { queue s 0 with done := [(7, .aborted)] }
theorem test_admit_of_a_failed_dependency : after (.ldgAdmit 0 0) depends (fun s' => res s' 3 0 && rd s' Reg.LDG_REFUSE_COUNT == 1 &&
    s'.ledger == depends.ledger && s'.queues == depends.queues) = true := by decide
def nonLead : State := { served (.step 0 0) 0 stepping sl0 with ledger := { (served (.step 0 0) 0 stepping sl0).ledger with models := [(0, { mdl with multi := true, leadMod := 5 })] } }
theorem test_step_ends_off_the_lead : leads nonLead { mdl with multi := true, leadMod := 5 } = false ∧
    after (.decodeStepEnd 0 [] 0) nonLead (fun s' => (item s' 0).ph == .done && (run s' 0).stepNo == 6 && (run s' 0).stepSeq == 0 &&
      rd s' Reg.LDG_OUT_DROP_COUNT == 0) = true := by decide
theorem test_pause_across_a_step : after (.coldPauseComplete 0 0) { served (.entry 0 0) 0 rn { pausing with pages := [] } with clock := { live.clock with steps := 1 } } (fun s' =>
    (slot s' 0).st == 4 && SMap.get? (queue s' 0).done 1 == some .timeDiscontinuity) = true := by decide
theorem test_reload_holds_the_flash : idle .logPageProgram { logging 9 with hubs := { live.hubs with store := { live.hubs.store with reloading := [(1, 0)] } } } = true ∧
    idle (.flashOpComplete true 0) { flashing (.erase 5) with hubs := { live.hubs with store := { live.hubs.store with reloading := [(1, 0)] } } } = true := by decide +kernel
theorem test_config_retry : configRetry live = true ∧ configRetry { up4 with host := { live.host with cfgReady := true } } = false ∧
    after (.perstNAssert 0) { up4 with host := { live.host with cfgReady := true } } (fun s' => configRetry s') = true ∧
    after (.pcieLinkUp 5 16 true true) live (fun s' => !configRetry s') = true := by decide +kernel
theorem test_held_events_are_sent : after (.setEventReceiver 0 (some 8)) { eid live with pldmQ := [ev0] } (fun s' => s'.pldmQ == [] &&
    s'.pldmReceiver == some 8 && s'.out == [.reply "SetEventReceiver" 0 [], .pldmEvent ev0]) = true := by decide
theorem test_limiter_caps_the_draw : intervalUj live 5000 = live.build.peakW ∧ intervalUj (gatedOff live) 5000 = live.build.reserveW ∧
    intervalUj live 50 = 50 := by decide
theorem test_isolated_clear : after .lnkCountClr { regs live [(Reg.LNK_CRC_ERR_COUNT 1, 5), (Reg.LNK_CRC_ERR_COUNT 9, 5)] with bridge := { live.bridge with isolated := true } } (fun s' =>
    rd s' (Reg.LNK_CRC_ERR_COUNT 1) == 0 && rd s' (Reg.LNK_CRC_ERR_COUNT 9) == 5) = true := by decide

/-! ## Ill-formed commands are refused by the check -/

theorem test_ill_formed_registers_and_resets : [Instr.registerWrite .bar0 (2 ^ 32) 0 none .pf0 0,
    .barRefusedAccess true 0 0, .barRefusedAccess true 9 0, .resetRelease false 4 0 true 0,
    .resetRelease false 0 32 true 0, .railHoldRelease false 4 0 true 0, .thermalHoldRelease false 0 32 true 0,
    .pairLoRead (2 ^ 32) false .pf0 0].all (fun c => !wellFormed c) = true := by decide
theorem test_ill_formed_queues_and_flags : [Instr.queueEnable 64 0, .doorbellSqTail 64 0 0,
    .nop 64 (List.replicate 64 0) 0, .nop 0 (List.replicate 63 0) 0, .serveSubmit 0 [] 0,
    .descriptorFetchComplete 0 4096 true 0, .completionTimeout 1024 0, .tagQuarantineEnd 1024, .flagSet 96 0 0,
    .flagSet 0 4096 0, .tileSet 64 0 0, .waiterRelease 96 0, .manualSet 0 8 .pf0 0,
    .manualClear 4096 0 .pf0 0].all (fun c => !wellFormed c) = true := by decide
theorem test_ill_formed_hubs_and_spokes : [Instr.armStepTimeout 32 0, .segmentRx 0 5 0 0 false [] none 0,
    .segmentRx 0 0 32 0 false [] none 0, .segmentCreditRx 32 0 0 0, .withdrawNoticeRx 0 32 0 0, .reArmRx 0 32 0 0,
    .treeResume 32 0 0, .microNop 32 0 0, .microEnd 0 3 0, .engineOpComplete 32 0 0, .spokeRestart 32,
    .csBlockReloadComplete 2 0 true 0, .csBlockReloadComplete 0 256 true 0,
    .hubCountClr 2].all (fun c => !wellFormed c) = true := by decide
theorem test_ill_formed_ports_and_modules : [Instr.portBringupStart 16, .egressCapWrite 8 0 0, .holdRx 16,
    .bringupComplete 0 16, .widthReqRx 0 16 0, .laneSignalLoss 0 4 0, .nodeDownRx 0 32 0, .e2eTimeout 0 0 32 0,
    .ingestLinkUp 2, .tlyStreamWrite 8192 0 0 .pf0 0,
    .tlyStreamWrite 0 3 0 .pf0 0].all (fun c => !wellFormed c) = true := by decide
theorem test_ill_formed_serving_and_management : [Instr.outputRingEnable 8 0, .microstepBoundary 16,
    .slotUpdateRx 16 0 0 false 0 0 0, .coldPauseComplete 1024 0, .orderRx [] 32 0 0, .orderWithdrawRx 0 1024,
    .autoLoad 64 0, .adapterRegister 512 0 0, .hwTimerExpiry 32, .ideKmKSetGo 2, .setEndpointId 4 0,
    .alarmMinTimeExpiry 7].all (fun c => !wellFormed c) = true ∧ wellFormed cmd = true ∧
    wellFormed (.segmentRx 31 4 31 0 false [] none 0) = true := by decide

end Sys2Proof.Tests
end

