-- ==== Sys2Proof/Proofs/Frame.lean ====
section
/-! PROOF. The frame of a command, as a fact about its next state. -/

namespace Sys2Proof.Machine

/-- A next state differs from the state before only in the places that `changes` names. -/
theorem exec_changesOnly {c : Instr} {s s' : State} (h : exec c s = .next s') : ChangesOnly (changes c) s s' := by
  have hw := exec_within c s
  rw [h] at hw
  exact Within.changesOnly hw

end Sys2Proof.Machine
end

