-- ==== Sys2Proof/Proofs/Straps.lean ====
section
/-! PROOF. The straps (R92): a release of the module latches them, and nothing else touches them. -/

namespace Sys2Proof.Machine

/-- Whatever the boot does after a release, the straps stay as the release latched them. -/
theorem releaseBoot_keeps_latched (s : State) (g : Bool) (sel m : Nat) (ok : Bool) (t : Nat) :
    Keeps Anchor.straps (setStraps s { g1compat := g, bootSel := sel % 4, modId := m % 32 })
      (releaseBoot s g sel m ok t) := by
  have hclear := clearAll_keeps (p := Anchor.straps) (fun _ _ _ _ => rfl) (fun _ _ _ _ => rfl)
    (fun _ _ _ _ _ _ _ => rfl) (Keeps.start (s := setStraps s { g1compat := g, bootSel := sel % 4, modId := m % 32 }))
    (rd s Reg.PWR_RESET_CAUSE)
  unfold releaseBoot
  dsimp only
  generalize clearAll _ _ = cleared at hclear ⊢
  have hboot := setBoot_keeps hclear { cleared.boot with hwDone := cleared.build == .q } rfl rfl rfl
  split
  · exact flashDead_keeps hboot t
  · refine startSlot_keeps (fun _ _ => rfl) (setBoot_keeps (directoryCodes_keeps hboot) _ ?_ ?_ ?_) t <;> rfl

theorem releaseBoot_straps (s : State) (g : Bool) (sel m : Nat) (ok : Bool) (t : Nat) :
    (releaseBoot s g sel m ok t).straps = { g1compat := g, bootSel := sel % 4, modId := m % 32 } :=
  (releaseBoot_keeps_latched s g sel m ok t).same

theorem execResetRelease_of_reset {s : State} (hin : s.boot.inReset = true) (hrail : s.boot.railHold = false)
    (hthermal : s.boot.thermalHold = false) (g : Bool) (sel m : Nat) (ok : Bool) (t : Nat) :
    execResetRelease g sel m ok t s = .next (releaseBoot (setBoot s { s.boot with inReset := false }) g sel m ok t) := by
  simp [execResetRelease, hin, hrail, hthermal]

theorem execRailHoldRelease_of_hold {s : State} (hin : s.boot.inReset = false) (hrail : s.boot.railHold = true)
    (hthermal : s.boot.thermalHold = false) (g : Bool) (sel m : Nat) (ok : Bool) (t : Nat) :
    execRailHoldRelease g sel m ok t s =
      .next (releaseBoot (setBoot s { s.boot with railHold := false }) g sel m ok t) := by
  simp [execRailHoldRelease, heldInReset, hin, hrail, hthermal]

theorem execThermalHoldRelease_of_hold {s : State} (hin : s.boot.inReset = false) (hrail : s.boot.railHold = false)
    (hthermal : s.boot.thermalHold = true) (g : Bool) (sel m : Nat) (ok : Bool) (t : Nat) :
    execThermalHoldRelease g sel m ok t s =
      .next (releaseBoot (emit (setBoot s { s.boot with thermalHold := false }) (.level "THERMTRIP_N" true))
        g sel m ok t) := by
  simp [execThermalHoldRelease, heldInReset, hin, hrail, hthermal]

/-- Only the three releases name the straps among the places they may change. -/
theorem straps_notMem_changes {c : Instr} (hreset : ∀ g sel m ok t, c ≠ .resetRelease g sel m ok t)
    (hrail : ∀ g sel m ok t, c ≠ .railHoldRelease g sel m ok t)
    (hthermal : ∀ g sel m ok t, c ≠ .thermalHoldRelease g sel m ok t) : Place.straps ∉ changes c := by
  cases c
  case resetRelease g sel m ok t => exact absurd rfl (hreset g sel m ok t)
  case railHoldRelease g sel m ok t => exact absurd rfl (hrail g sel m ok t)
  case thermalHoldRelease g sel m ok t => exact absurd rfl (hthermal g sel m ok t)
  all_goals
    rw [changes]
    decide

end Sys2Proof.Machine

open Sys2Proof Sys2Proof.Machine

/-- Settles O9: a release that ends the last hold latches the straps and boots, and the frame of every other command leaves
the straps out. -/
theorem strapsAreSampledAtReleaseOnly : Obligations.StrapsAreSampledAtReleaseOnly := by
  refine ⟨fun s g sel m t ok c hc => ?_, fun c s s' hc h => ?_⟩
  · obtain ⟨rfl, hin, hrail, hthermal⟩ | ⟨rfl, hin, hrail, hthermal⟩ | ⟨rfl, hin, hrail, hthermal⟩ := hc
    · exact ⟨_, execResetRelease_of_reset hin hrail hthermal g sel m ok t, releaseBoot_straps ..⟩
    · exact ⟨_, execRailHoldRelease_of_hold hin hrail hthermal g sel m ok t, releaseBoot_straps ..⟩
    · exact ⟨_, execThermalHoldRelease_of_hold hin hrail hthermal g sel m ok t, releaseBoot_straps ..⟩
  · have hs := straps_notMem_changes (fun g sel m ok t => (hc g sel m ok t).1)
      (fun g sel m ok t => (hc g sel m ok t).2.1) (fun g sel m ok t => (hc g sel m ok t).2.2)
    exact (exec_changesOnly h).1 .straps hs

end

