-- ==== Sys2Proof/Proofs/Confirm.lean ====
section
/-! PROOF. CONFIRM (R98, R104): the directory marks the slot, the fuses and HST_SVN take the new minimum. -/

namespace Sys2Proof.Machine

/-- A rewrite of the directory changes the flash alone. -/
theorem rewriteDirectory_flashOnly (s : State) (f : Directory → Directory) :
    ∃ flash, rewriteDirectory s f = { s with mems := { s.mems with flash := flash } } := by
  unfold rewriteDirectory
  split <;> exact ⟨_, rfl⟩

theorem fld_lt (w : Word) (lo len : Nat) : fld w lo len < 2 ^ len := Nat.mod_lt _ (Nat.two_pow_pos len)

/-- HST_SVN holds the image's SVN in its low half and the fused minimum in its high one (Table 4.17). -/
theorem fld_low_of_halves {a : Nat} (b : Nat) (ha : a < 65536) :
    fld (BitVec.ofNat 32 (a + b % 65536 * 65536)) 0 16 = a := by
  simp only [fld, bits, BitVec.toNat_ofNat]
  omega

theorem fld_high_of_halves {a : Nat} (b : Nat) (ha : a < 65536) :
    fld (BitVec.ofNat 32 (a + b % 65536 * 65536)) 16 16 = b % 65536 := by
  simp only [fld, bits, BitVec.toNat_ofNat]
  omega

/-- A CONFIRM that takes effect: beside the flash it changes the fused minimum, the mark on the booted image and HST_SVN. -/
theorem execConfirm_next {s : State} (hserv : s.boot.serviceable = true) (hunconf : s.boot.unconfirmed = true)
    (hcheck : s.sup.checkLost = false) :
    ∃ flash, execConfirm s = .next (wr
      { s with
        mems := { s.mems with flash := flash }
        fuses := { s.fuses with minSvn := max s.fuses.minSvn (rdF s Reg.HST_SVN 0 16) }
        boot := { s.boot with unconfirmed := false } }
      Reg.HST_SVN (BitVec.ofNat 32 (rdF s Reg.HST_SVN 0 16 +
        max s.fuses.minSvn (rdF s Reg.HST_SVN 0 16) % 65536 * 65536))) := by
  obtain ⟨flash, hflash⟩ := rewriteDirectory_flashOnly s (fun d => d.set s.boot.slot (d.seq s.boot.slot)
    (if bitAt (d.flags s.boot.slot) 1 then d.flags s.boot.slot else d.flags s.boot.slot + 2))
  have hacts : (s.boot.serviceable && s.boot.unconfirmed && !s.sup.checkLost) = true := by simp [hserv, hunconf, hcheck]
  refine ⟨flash, ?_⟩
  unfold execConfirm
  dsimp only
  rw [if_pos hacts, hflash]
  rfl

theorem execConfirm_idle {s : State}
    (h : s.boot.serviceable = false ∨ s.boot.unconfirmed = false ∨ s.sup.checkLost = true) :
    execConfirm s = .next s := by
  unfold execConfirm
  obtain h | h | h := h <;> simp [h]

end Sys2Proof.Machine

open Sys2Proof Sys2Proof.Machine

/-- Settles O21: an acting CONFIRM leaves the state of `execConfirm_next`, whose HST_SVN reads back both SVNs; any other idles. -/
theorem confirmRaisesTheMinimum : Obligations.ConfirmRaisesTheMinimum := by
  refine fun s => ⟨fun hserv hunconf hcheck => ?_, fun h => ⟨s, execConfirm_idle h, rfl⟩⟩
  obtain ⟨flash, hnext⟩ := execConfirm_next hserv hunconf hcheck
  have hsvn : rdF s Reg.HST_SVN 0 16 < 65536 := fld_lt _ 0 16
  refine ⟨_, hnext, rfl, rfl, ?_, ?_, fun a ha => rd_wr_other _ _ ha, rfl, rfl⟩
  · rw [rdF, rd_wr_same, fld_low_of_halves _ hsvn]
  · rw [rdF, rd_wr_same, fld_high_of_halves _ hsvn]

end

