-- ==== Sys2Proof/Proofs/ConfigLock.lean ====
section
/-! PROOF. The configuration lock (R107, R108, R110, R560): what it copies, what its checks leave alone, and what the first
tick waits for. -/

namespace Sys2Proof.Machine

/-! ## The copies of the lock -/

/-- The egress cap of a partition set to its ceiling. -/
def copyCap (s : State) (p : Nat) : State := wr s (Reg.FENCE_EGRESS_CAP p) (rd s (Reg.FENCE_EGRESS_CEIL p))

theorem foldl_copyCap_regsOnly (l : List Nat) (s : State) : ∃ regs, l.foldl copyCap s = { s with regs := regs } := by
  induction l generalizing s with
  | nil => exact ⟨s.regs, rfl⟩
  | cons p ps ih =>
    obtain ⟨regs, h⟩ := ih (copyCap s p)
    exact ⟨regs, h⟩

theorem rd_foldl_copyCap_other {l : List Nat} {a : Nat} (h : ∀ p ∈ l, a ≠ Reg.FENCE_EGRESS_CAP p) (s : State) :
    rd (l.foldl copyCap s) a = rd s a := by
  induction l generalizing s with
  | nil => rfl
  | cons p ps ih =>
    rw [List.foldl_cons, ih (fun q hq => h q (List.mem_cons_of_mem p hq))]
    exact rd_wr_other s _ (h p List.mem_cons_self)

theorem egressCap_injective {p q : Nat} (h : Reg.FENCE_EGRESS_CAP p = Reg.FENCE_EGRESS_CAP q) : p = q := by
  unfold Reg.FENCE_EGRESS_CAP at h
  omega

/-- The ceilings of the eight partitions lie below every cap. -/
theorem egressCeil_ne_egressCap {p : Nat} (hp : p < 8) (q : Nat) : Reg.FENCE_EGRESS_CEIL p ≠ Reg.FENCE_EGRESS_CAP q := by
  unfold Reg.FENCE_EGRESS_CEIL Reg.FENCE_EGRESS_CAP
  omega

/-- Every cap of the list takes its ceiling: no copy before it changes that ceiling, and none after it the cap. -/
theorem rd_foldl_copyCap_mem {l : List Nat} {p : Nat} (hl : p ∈ l) (hp : p < 8) (s : State) :
    rd (l.foldl copyCap s) (Reg.FENCE_EGRESS_CAP p) = rd s (Reg.FENCE_EGRESS_CEIL p) := by
  induction l generalizing s with
  | nil => exact absurd hl List.not_mem_nil
  | cons q qs ih =>
    rw [List.foldl_cons]
    by_cases hqs : p ∈ qs
    · exact (ih hqs _).trans (rd_wr_other s _ (egressCeil_ne_egressCap hp q))
    · obtain rfl : p = q := (List.mem_cons.1 hl).resolve_right hqs
      have hother : ∀ r ∈ qs, Reg.FENCE_EGRESS_CAP p ≠ Reg.FENCE_EGRESS_CAP r :=
        fun r hr e => hqs (egressCap_injective e ▸ hr)
      rw [rd_foldl_copyCap_other hother]
      exact rd_wr_same ..

/-- The state once the lock is taken and its measurement and the Fence's caps are recorded, before any register changes. -/
def lockMarked (s : State) : State :=
  let m5 := Config.measurement5 (rd s Reg.HST_STRAP).toNat s.boot.slot (rdF s Reg.HST_SVN 0 16) s.boot.imageId
    (rd s Reg.HST_IDENT).toNat
  let s0 := setBoot s { s.boot with cfgLocked := true }
  { s0 with
    host := { s0.host with meas := SMap.put s0.host.meas 5 m5 }
    fence := { s0.fence with caps := (List.range (numParts s)).map (fun p => (p, rd s (Reg.FENCE_EGRESS_CEIL p))) } }

/-- The state once the lock has also copied the egress caps and the partitions of the image, before its checks. -/
def lockCopies (s : State) : State :=
  wr ((List.range (numParts s)).foldl copyCap (lockMarked s)) Reg.FENCE_PART_ACTIVE (rd s Reg.FENCE_PART_INIT)

theorem numParts_le (s : State) : numParts s ≤ 8 := by
  unfold numParts
  split <;> decide

theorem lockCopies_regsOnly (s : State) : ∃ regs, lockCopies s = { lockMarked s with regs := regs } := by
  obtain ⟨regs, h⟩ := foldl_copyCap_regsOnly (List.range (numParts s)) (lockMarked s)
  rw [lockCopies, h]
  exact ⟨_, rfl⟩

@[simp] theorem lockCopies_boot (s : State) : (lockCopies s).boot = { s.boot with cfgLocked := true } := by
  obtain ⟨regs, h⟩ := lockCopies_regsOnly s
  rw [h]
  rfl

@[simp] theorem lockCopies_mems (s : State) : (lockCopies s).mems = s.mems := by
  obtain ⟨regs, h⟩ := lockCopies_regsOnly s
  rw [h]
  rfl

@[simp] theorem lockCopies_clock (s : State) : (lockCopies s).clock = s.clock := by
  obtain ⟨regs, h⟩ := lockCopies_regsOnly s
  rw [h]
  rfl

@[simp] theorem lockCopies_tbu (s : State) : (lockCopies s).tbu = s.tbu := by
  obtain ⟨regs, h⟩ := lockCopies_regsOnly s
  rw [h]
  rfl

theorem rd_lockCopies_partActive (s : State) : rd (lockCopies s) Reg.FENCE_PART_ACTIVE = rd s Reg.FENCE_PART_INIT :=
  rd_wr_same ..

theorem rd_lockCopies_egressCap {s : State} {p : Nat} (hp : p < numParts s) :
    rd (lockCopies s) (Reg.FENCE_EGRESS_CAP p) = rd s (Reg.FENCE_EGRESS_CEIL p) := by
  have hne : Reg.FENCE_EGRESS_CAP p ≠ Reg.FENCE_PART_ACTIVE := by
    unfold Reg.FENCE_EGRESS_CAP Reg.FENCE_PART_ACTIVE
    omega
  rw [lockCopies, rd_wr_other _ _ hne,
    rd_foldl_copyCap_mem (List.mem_range.2 hp) (Nat.lt_of_lt_of_le hp (numParts_le s))]
  rfl

theorem rd_lockCopies_tbuCfg (s : State) : rd (lockCopies s) Reg.TBU_CFG = rd s Reg.TBU_CFG := by
  have hne : ∀ p ∈ List.range (numParts s), Reg.TBU_CFG ≠ Reg.FENCE_EGRESS_CAP p := by
    intro p _
    unfold Reg.FENCE_EGRESS_CAP Reg.TBU_CFG
    omega
  rw [lockCopies, rd_wr_other _ _ (by decide), rd_foldl_copyCap_other hne]
  rfl

/-! ## The checks of the lock -/

/-- The measurement areas checked, and the ALARM balls driven by the classes that stand. -/
def lockChecks (s : State) (t : Nat) : State :=
  (indicesWhere 10 (fun c => wbit (rd (checkAreas s t) Reg.HST_ALERT_STATUS) c)).foldl raiseAlarms (checkAreas s t)

/-- The places that the checks may change: those of an event, and the event and status registers of the Tally units. -/
def lockChecksMask : Nat := 0x13000080020000000000000000000000c000000000000000000000000000000000000000000000000a78000000

theorem lockChecks_within (s : State) (t : Nat) : Within lockChecksMask s (lockChecks s t) :=
  foldl_within (fun _ c h => raiseAlarms_within h c (by decide)) (checkAreas_within Within.start t (by decide)) _

@[simp] theorem lockChecks_boot (s : State) (t : Nat) : (lockChecks s t).boot = s.boot :=
  (lockChecks_within s t).boot.resolve_left (by unfold Has; decide)

@[simp] theorem lockChecks_clock (s : State) (t : Nat) : (lockChecks s t).clock = s.clock :=
  (lockChecks_within s t).clock.resolve_left (by unfold Has; decide)

@[simp] theorem lockChecks_tbu (s : State) (t : Nat) : (lockChecks s t).tbu = s.tbu :=
  (lockChecks_within s t).tbu.resolve_left (by unfold Has; decide)

@[simp] theorem lockChecks_mems (s : State) (t : Nat) : (lockChecks s t).mems = s.mems := by
  have h := lockChecks_within s t
  apply mems_eq
  · exact h.moduleMemory.resolve_left (by unfold Has; decide)
  · exact h.hostMemory.resolve_left (by unfold Has; decide)
  · exact h.coreSram.resolve_left (by unfold Has; decide)
  · exact h.hubSram.resolve_left (by unfold Has; decide)
  · exact h.flashMemory.resolve_left (by unfold Has; decide)
  · exact h.supData.resolve_left (by unfold Has; decide)
  · exact h.supCode.resolve_left (by unfold Has; decide)
  · exact h.poisonMem.resolve_left (by unfold Has; decide)
  · exact h.poisonCsram.resolve_left (by unfold Has; decide)
  · exact h.poisonHsram.resolve_left (by unfold Has; decide)

theorem rd_lockChecks_partActive (s : State) (t : Nat) :
    rd (lockChecks s t) Reg.FENCE_PART_ACTIVE = rd s Reg.FENCE_PART_ACTIVE :=
  rd_within (lockChecks_within s t) (not_allowed (by decide +kernel))

theorem rd_lockChecks_tbuCfg (s : State) (t : Nat) : rd (lockChecks s t) Reg.TBU_CFG = rd s Reg.TBU_CFG :=
  rd_within (lockChecks_within s t) (not_allowed (by decide +kernel))

theorem rd_lockChecks_egressCap (s : State) (t : Nat) {p : Nat} (hp : p < 8) :
    rd (lockChecks s t) (Reg.FENCE_EGRESS_CAP p) = rd s (Reg.FENCE_EGRESS_CAP p) := by
  have houtside : ∀ q < 8, (List.range 417).all (fun i =>
      !(lockChecksMask.testBit i && mayCover i (Reg.FENCE_EGRESS_CAP q))) = true := by decide +kernel
  exact rd_within (lockChecks_within s t) (not_allowed (houtside p hp))

/-! ## The first tick -/

theorem now_congr {s s' : State} (hclock : s'.clock = s.clock) (htbu : s'.tbu = s.tbu) (t : Nat) : now s' t = now s t := by
  simp only [now, slewAt, hclock, htbu]

/-- Arming the first tick with a source in use waits for nothing more. -/
theorem armFirstTick_of_source {s : State} (h : s.tbu.source ≠ 0) (t : Nat) :
    armFirstTick s t = { s with clock := { s.clock with firstFrom := some (now s t) } } := if_pos h

/-- Under FREEWHEEL_START the timescale starts from TBU_SEED without a source. -/
theorem armFirstTick_of_freewheel {s : State} (h : s.tbu.source = 0) (hcfg : wbit (rd s Reg.TBU_CFG) 10 = true) (t : Nat) :
    armFirstTick s t = { s with clock := { s.clock with
      firstFrom := some (now s t), edge := (seedNs s : Int) - (t : Int) } } := by
  simp [armFirstTick, h, hcfg]

theorem armFirstTick_of_none {s : State} (h : s.tbu.source = 0) (hcfg : wbit (rd s Reg.TBU_CFG) 10 = false) (t : Nat) :
    armFirstTick s t = setBoot s { s.boot with waitSource := true } := by
  simp [armFirstTick, h, hcfg]

/-- Of the boot, arming the first tick changes only whether a source is waited for. -/
theorem armFirstTick_boot (s : State) (t : Nat) :
    ∃ w, (armFirstTick s t).boot = { s.boot with waitSource := w } := by
  unfold armFirstTick
  split
  · exact ⟨_, rfl⟩
  · split <;> exact ⟨_, rfl⟩

@[simp] theorem armFirstTick_mems (s : State) (t : Nat) : (armFirstTick s t).mems = s.mems := by
  unfold armFirstTick
  split
  · rfl
  · split <;> rfl

@[simp] theorem armFirstTick_running (s : State) (t : Nat) : (armFirstTick s t).clock.running = s.clock.running := by
  unfold armFirstTick
  split
  · rfl
  · split <;> rfl

@[simp] theorem rd_armFirstTick (s : State) (t a : Nat) : rd (armFirstTick s t) a = rd s a := by
  unfold armFirstTick
  split
  · rfl
  · split <;> rfl

/-! ## The lock -/

@[simp] theorem setPhase_boot (s : State) (ph : Nat) : (setPhase s ph).boot = { s.boot with phase := ph } := by
  unfold setPhase
  split
  · next h => rw [← h]
  · exact signalDevice_boot _ _

/-- The state that the lock leaves before the first tick is armed: its copies made, its checks done, in phase `ph`. -/
def lockTaken (s : State) (t ph : Nat) : State := setPhase (lockChecks (lockCopies s) t) ph

theorem lockTaken_boot (s : State) (t ph : Nat) :
    (lockTaken s t ph).boot = { s.boot with cfgLocked := true, phase := ph } := by
  simp [lockTaken]

@[simp] theorem lockTaken_mems (s : State) (t ph : Nat) : (lockTaken s t ph).mems = s.mems := by simp [lockTaken]

@[simp] theorem lockTaken_clock (s : State) (t ph : Nat) : (lockTaken s t ph).clock = s.clock := by simp [lockTaken]

@[simp] theorem lockTaken_tbu (s : State) (t ph : Nat) : (lockTaken s t ph).tbu = s.tbu := by simp [lockTaken]

theorem rd_lockTaken_partActive (s : State) (t ph : Nat) :
    rd (lockTaken s t ph) Reg.FENCE_PART_ACTIVE = rd s Reg.FENCE_PART_INIT := by
  rw [lockTaken, rd_setPhase, rd_lockChecks_partActive, rd_lockCopies_partActive]

theorem rd_lockTaken_tbuCfg (s : State) (t ph : Nat) : rd (lockTaken s t ph) Reg.TBU_CFG = rd s Reg.TBU_CFG := by
  rw [lockTaken, rd_setPhase, rd_lockChecks_tbuCfg, rd_lockCopies_tbuCfg]

theorem rd_lockTaken_egressCap {s : State} {p : Nat} (hp : p < numParts s) (t ph : Nat) :
    rd (lockTaken s t ph) (Reg.FENCE_EGRESS_CAP p) = rd s (Reg.FENCE_EGRESS_CEIL p) := by
  rw [lockTaken, rd_setPhase, rd_lockChecks_egressCap _ _ (Nat.lt_of_lt_of_le hp (numParts_le s)),
    rd_lockCopies_egressCap hp]

theorem configLock_eq (s : State) (t : Nat) : configLock s t =
    if s.boot.slot = 2 then lockTaken s t 9 else armFirstTick (lockTaken s t 7) t := by
  rfl

/-- The safe image stops at the lock (R100). -/
theorem configLock_of_safe {s : State} (h : s.boot.slot = 2) (t : Nat) : configLock s t = lockTaken s t 9 :=
  (configLock_eq s t).trans (if_pos h)

theorem configLock_of_image {s : State} (h : s.boot.slot ≠ 2) (t : Nat) :
    configLock s t = armFirstTick (lockTaken s t 7) t := (configLock_eq s t).trans (if_neg h)

theorem execConfigLock_inWindow {s : State} (h : s.boot.phase = 6) (t : Nat) :
    execConfigLock t s = .next (configLock s t) := if_pos h

theorem execConfigLock_outside {s : State} (h : s.boot.phase ≠ 6) (t : Nat) : execConfigLock t s = .next s := if_neg h

/-- Where the lock takes effect, its command and the end of the window do the same (R108). -/
theorem exec_lock {c : Instr} {t : Nat} (hc : c = .configLock t ∨ c = .lockWindowExpiry t) (s : State) :
    exec c s = execConfigLock t s := by
  obtain rfl | rfl := hc <;> rfl

/-- What the lock does under every image: it is taken, and the caps and partitions of the image are in force. -/
theorem configLock_takes (s : State) (t : Nat) :
    (configLock s t).boot.cfgLocked = true ∧ (configLock s t).boot.serviceable = s.boot.serviceable ∧
    (configLock s t).clock.running = s.clock.running ∧
    (configLock s t).boot.phase = (if s.boot.slot = 2 then 9 else 7) ∧ (configLock s t).mems = s.mems ∧
    (∀ p, p < numParts s → rd (configLock s t) (Reg.FENCE_EGRESS_CAP p) = rd s (Reg.FENCE_EGRESS_CEIL p)) ∧
    rd (configLock s t) Reg.FENCE_PART_ACTIVE = rd s Reg.FENCE_PART_INIT := by
  by_cases hslot : s.boot.slot = 2
  · rw [configLock_of_safe hslot, if_pos hslot]
    refine ⟨?_, ?_, by simp, ?_, by simp, fun p hp => rd_lockTaken_egressCap hp t 9, rd_lockTaken_partActive s t 9⟩ <;>
      rw [lockTaken_boot]
  · obtain ⟨w, hboot⟩ := armFirstTick_boot (lockTaken s t 7) t
    rw [configLock_of_image hslot, if_neg hslot]
    refine ⟨?_, ?_, by simp, ?_, by simp, fun p hp => (rd_armFirstTick ..).trans (rd_lockTaken_egressCap hp t 7),
      (rd_armFirstTick ..).trans (rd_lockTaken_partActive s t 7)⟩ <;>
      rw [hboot, lockTaken_boot]

theorem configLock_clock_of_safe {s : State} (h : s.boot.slot = 2) (t : Nat) : (configLock s t).clock = s.clock := by
  rw [configLock_of_safe h, lockTaken_clock]

theorem now_lockTaken (s : State) (t ph : Nat) : now (lockTaken s t ph) t = now s t :=
  now_congr (lockTaken_clock s t ph) (lockTaken_tbu s t ph) t

theorem configLock_firstFrom_of_source {s : State} (hslot : s.boot.slot ≠ 2) (h : s.tbu.source ≠ 0) (t : Nat) :
    (configLock s t).clock.firstFrom = some (now s t) := by
  have hsource : (lockTaken s t 7).tbu.source ≠ 0 := by rwa [lockTaken_tbu]
  rw [configLock_of_image hslot, armFirstTick_of_source hsource, now_lockTaken]

theorem configLock_firstFrom_of_freewheel {s : State} (hslot : s.boot.slot ≠ 2) (h : s.tbu.source = 0)
    (hcfg : wbit (rd s Reg.TBU_CFG) 10 = true) (t : Nat) : (configLock s t).clock.firstFrom = some (now s t) := by
  have hsource : (lockTaken s t 7).tbu.source = 0 := by rwa [lockTaken_tbu]
  have hstart : wbit (rd (lockTaken s t 7) Reg.TBU_CFG) 10 = true := by rwa [rd_lockTaken_tbuCfg]
  rw [configLock_of_image hslot, armFirstTick_of_freewheel hsource hstart, now_lockTaken]

theorem configLock_waits_of_none {s : State} (hslot : s.boot.slot ≠ 2) (h : s.tbu.source = 0)
    (hcfg : wbit (rd s Reg.TBU_CFG) 10 = false) (t : Nat) :
    (configLock s t).boot.waitSource = true ∧ (configLock s t).clock = s.clock := by
  have hsource : (lockTaken s t 7).tbu.source = 0 := by rwa [lockTaken_tbu]
  have hstart : wbit (rd (lockTaken s t 7) Reg.TBU_CFG) 10 = false := by rwa [rd_lockTaken_tbuCfg]
  rw [configLock_of_image hslot, armFirstTick_of_none hsource hstart]
  exact ⟨rfl, lockTaken_clock s t 7⟩

end Sys2Proof.Machine

open Sys2Proof Sys2Proof.Machine

/-- Settles O20: both commands run `configLock` in HOST_WINDOW and idle outside it; the lock's copies survive its checks, and
the first tick is armed by what the Timebase Unit has. -/
theorem theConfigurationLockIsTaken : Obligations.TheConfigurationLockIsTaken := by
  intro s t c hc
  refine ⟨fun hphase => ⟨configLock s t, ?_, ?_⟩, fun hphase => ⟨s, ?_, rfl⟩⟩
  · rw [exec_lock hc, execConfigLock_inWindow hphase]
  · obtain ⟨hlocked, hserv, hrun, hph, hmems, hcaps, hactive⟩ := configLock_takes s t
    exact ⟨hlocked, hserv, hrun, hph, hmems, hcaps, hactive, fun h => configLock_clock_of_safe h t,
      fun hslot h => configLock_firstFrom_of_source hslot h t,
      fun hslot h hcfg => configLock_firstFrom_of_freewheel hslot h hcfg t,
      fun hslot h hcfg => configLock_waits_of_none hslot h hcfg t⟩
  · rw [exec_lock hc, execConfigLock_outside hphase]

end

