-- ==== Sys2Proof/Proofs/LinkReceive.lean ====
section
/-! PROOF. What a port receives (R299, R303): the effects of an accepted flit on the rest of the module leave the receive
sequence of every port and the ports' own registers alone. -/

namespace Sys2Proof.Machine

variable {s s' s'' : State}

/-- The registers that each port has of its own: 16 blocks of 64 bytes. -/
def PortReg (a : Nat) : Prop := 0x600100 ≤ a ∧ a < 0x600500

theorem PortReg.crcErr {n : Nat} (h : n < 16) : PortReg (Reg.LNK_CRC_ERR_COUNT n) := by
  unfold PortReg Reg.LNK_CRC_ERR_COUNT
  omega

theorem PortReg.fecCorr {n : Nat} (h : n < 16) : PortReg (Reg.LNK_FEC_CORR_COUNT n) := by
  unfold PortReg Reg.LNK_FEC_CORR_COUNT
  omega

theorem PortReg.ne {a k : Nat} (ha : PortReg a) (hk : ¬ PortReg k) : a ≠ k := fun h => hk (h ▸ ha)

theorem PortReg.notMem_eventRegs {a : Nat} (ha : PortReg a) : a ∉ eventRegs := by
  intro hmem
  have hevents : ∀ k ∈ eventRegs, 0x600500 ≤ k := by decide
  exact absurd (hevents a hmem) (Nat.not_le.2 ha.2)

theorem not_portReg_spkRestart (h i : Nat) : ¬ PortReg (Reg.SPK_RESTART_COUNT h (i % 16)) := by
  unfold PortReg Reg.SPK_RESTART_COUNT
  omega

theorem not_portReg_spkCause (h i : Nat) : ¬ PortReg (Reg.SPK_LAST_CAUSE h (i % 16)) := by
  unfold PortReg Reg.SPK_LAST_CAUSE
  omega

theorem not_portReg_spkEvent (h : Nat) : ¬ PortReg (Reg.SPK_EVENT h) := by
  unfold PortReg Reg.SPK_EVENT
  omega

/-! ## Sending writes no register of a port -/

theorem rd_bump_portReg {a k : Nat} (ha : PortReg a) (hk : ¬ PortReg k) (s : State) : rd (bump s k) a = rd s a := by
  rw [rd_bump, if_neg (ha.ne hk)]

theorem rd_raise_portReg {a evt : Nat} (ha : PortReg a) (hevt : ¬ PortReg evt) (s : State) (bit : Nat) (c : EvClass)
    (alert pldm : Bool) (t : Nat) : rd (raise s evt bit c alert pldm t) a = rd s a := by
  rw [rd_raise _ ha.notMem_eventRegs, if_neg (ha.ne hevt)]

theorem rd_preemptSpoke {a : Nat} (ha : PortReg a) (s : State) (i : Nat) : rd (preemptSpoke s i) a = rd s a := by
  unfold preemptSpoke
  split
  · rfl
  · refine (rd_raise_portReg ha (not_portReg_spkEvent _) ..).trans ?_
    rw [rd_wr_other _ _ (ha.ne (not_portReg_spkCause _ i)), rd_bump_portReg ha (not_portReg_spkRestart _ i)]

theorem rd_preempt {a : Nat} (ha : PortReg a) (s : State) (i hub b : Nat) : rd (preempt s i hub b) a = rd s a :=
  List.foldlRecOn (motive := fun x => rd x a = rd s a) _ preemptSpoke rfl
    fun x hx k _ => (rd_preemptSpoke ha x k).trans hx

@[simp] theorem rd_passRx (s : State) (n : Nat) (p : Packet) (a : Nat) : rd (passRx s n p) a = rd s a := by
  unfold passRx
  dsimp only
  split <;> rfl

@[simp] theorem rd_transmit (s : State) (n : Nat) (w : TxWait) (a : Nat) : rd (transmit s n w) a = rd s a := by
  unfold transmit
  dsimp only
  split
  · exact rd_passRx ..
  · rfl

theorem rd_drainPort {a : Nat} (ha : PortReg a) (n k : Nat) : ∀ s : State, rd (drainPort s n k) a = rd s a := by
  induction k with
  | zero => exact fun _ => rfl
  | succ k ih =>
    intro s
    unfold drainPort
    split
    · rfl
    · dsimp only
      rw [ih, rd_transmit, rd_setPort]
      split
      · exact rd_preempt ha ..
      · rfl

theorem rd_toPort {a : Nat} (ha : PortReg a) (s : State) (n : Nat) (w : TxWait) : rd (toPort s n w) a = rd s a :=
  rd_drainPort ha n _ _

theorem rd_routeOut {a : Nat} (ha : PortReg a) (s : State) (die : Nat) (w : TxWait) :
    rd (routeOut s die w) a = rd s a := by
  have hunreach : rd (bump s Reg.FAB_UNREACH_COUNT) a = rd s a := rd_bump_portReg ha (by unfold PortReg; decide) s
  unfold routeOut
  split
  · split
    · exact hunreach
    · rfl
  · split
    · exact hunreach
    · split
      · split
        · exact rd_toPort ha ..
        · rfl
      · exact rd_toPort ha ..

theorem rd_sendCtl {a : Nat} (ha : PortReg a) (s : State) (dst tag : Nat) (m : Msg) :
    rd (sendCtl s dst tag m) a = rd s a := by
  unfold sendCtl
  split
  · rfl
  · exact rd_routeOut ha ..

/-! ## The receive sequence is kept -/

/-- Where a port stands in what it receives: the number expected next, the gap and its fault. -/
def Port.rxPlace (p : Port) : Nat × Bool × Option LinkFault := (p.rxSeq, p.gap, p.fault)

/-- `s'` is `s` after work that accepts and discards no flit: every port expects what it expected, and the registers of
the ports read as before. -/
structure RxKept (s s' : State) : Prop where
  place : ∀ n, (port s' n).rxPlace = (port s n).rxPlace
  regs : ∀ a, PortReg a → rd s' a = rd s a

theorem RxKept.refl : RxKept s s := ⟨fun _ => rfl, fun _ _ => rfl⟩

theorem RxKept.trans (h : RxKept s s') (h' : RxKept s' s'') : RxKept s s'' :=
  ⟨fun n => (h'.place n).trans (h.place n), fun a ha => (h'.regs a ha).trans (h.regs a ha)⟩

theorem RxKept.of_ports_eq (h : s'.ports = s.ports) (hr : ∀ a, PortReg a → rd s' a = rd s a) : RxKept s s' :=
  ⟨fun n => by unfold port; rw [h], hr⟩

theorem Sends.rxKept (h : Sends s s') (hr : ∀ a, PortReg a → rd s' a = rd s a) : RxKept s s' :=
  ⟨fun n => by rw [h.ports n]; rfl, hr⟩

theorem setPort_rxKept (s : State) {n : Nat} {v : Port} (h : v.rxPlace = (port s n).rxPlace) :
    RxKept s (setPort s n v) := by
  refine ⟨fun m => ?_, fun _ _ => rfl⟩
  rw [port_setPort]
  split
  · next e => rw [e, h]
  · rfl

theorem setFab_rxKept (s : State) (f : Fabric) : RxKept s (setFab s f) := RxKept.of_ports_eq rfl fun _ _ => rfl

theorem emit_rxKept (s : State) (o : Output) : RxKept s (emit s o) := RxKept.of_ports_eq rfl fun _ _ => rfl

theorem bump_rxKept (s : State) {k : Nat} (hk : ¬ PortReg k) : RxKept s (bump s k) :=
  RxKept.of_ports_eq (bump_ports ..) fun _ ha => rd_bump_portReg ha hk s

theorem raise_rxKept (s : State) {evt : Nat} (hevt : ¬ PortReg evt) (bit : Nat) (c : EvClass) (alert pldm : Bool)
    (t : Nat) : RxKept s (raise s evt bit c alert pldm t) :=
  RxKept.of_ports_eq (raise_ports ..) fun _ ha => rd_raise_portReg ha hevt ..

theorem drainPort_rxKept (s : State) (n k : Nat) : RxKept s (drainPort s n k) :=
  (drainPort_sends n k s).rxKept fun _ ha => rd_drainPort ha n k s

theorem sendCtl_rxKept (s : State) (dst tag : Nat) (m : Msg) : RxKept s (sendCtl s dst tag m) :=
  (sendCtl_sends s dst tag m).rxKept fun _ ha => rd_sendCtl ha s dst tag m

/-! ## The flows at their destination (R329, R331–R333) -/

theorem putInFlow_rxKept (s : State) (f : InFlow) : RxKept s (putInFlow s f) := setFab_rxKept ..

theorem deliver_rxKept (s : State) (p : Packet) : RxKept s (deliver s p) := setFab_rxKept ..

theorem ackInFlow_rxKept (s : State) (f : InFlow) : RxKept s (ackInFlow s f) :=
  (putInFlow_rxKept s _).trans (sendCtl_rxKept ..)

theorem advance_rxKept (s : State) (f : InFlow) : RxKept s (advance s f) := by
  unfold advance
  dsimp only
  split
  · exact ackInFlow_rxKept ..
  · exact putInFlow_rxKept ..

theorem useReorder_rxKept (s : State) (h : Nat) (ovf : Bool) (add sub : Nat) :
    RxKept s (useReorder s h ovf add sub) := by
  cases ovf <;> exact setFab_rxKept ..

theorem drainFlow_rxKept (key chan src n : Nat) : ∀ s : State, RxKept s (drainFlow key chan src n s) := by
  induction n with
  | zero => exact fun _ => RxKept.refl
  | succ n ih =>
    intro s
    unfold drainFlow
    dsimp only
    split
    · exact (((deliver_rxKept s _).trans (useReorder_rxKept ..)).trans (advance_rxKept ..)).trans (ih _)
    · split
      · exact (advance_rxKept ..).trans (ih _)
      · split
        · exact (((deliver_rxKept s _).trans (setFab_rxKept ..)).trans (advance_rxKept ..)).trans (ih _)
        · exact RxKept.refl

theorem recvStrict_rxKept (s : State) (p : Packet) : RxKept s (recvStrict s p) := by
  unfold recvStrict
  dsimp only
  split
  · exact (deliver_rxKept s p).trans (advance_rxKept ..)
  · split
    · split
      · exact RxKept.refl
      · exact ((bump_rxKept s (by unfold PortReg; decide)).trans (sendCtl_rxKept ..)).trans (putInFlow_rxKept ..)
    · exact ackInFlow_rxKept ..

theorem recvSpray_rxKept (s : State) (p : Packet) (t : Nat) : RxKept s (recvSpray s p t) := by
  unfold recvSpray
  dsimp only
  split
  · exact ((deliver_rxKept s p).trans (advance_rxKept ..)).trans (drainFlow_rxKept ..)
  split
  · exact ackInFlow_rxKept ..
  split
  · exact RxKept.refl
  split
  · split
    · exact (setFab_rxKept ..).trans (putInFlow_rxKept ..)
    · exact (bump_rxKept s (by unfold PortReg; decide)).trans (raise_rxKept _ (by unfold PortReg; decide) ..)
  split
  · exact (useReorder_rxKept ..).trans (putInFlow_rxKept ..)
  split
  · exact (useReorder_rxKept ..).trans (putInFlow_rxKept ..)
  · have hdirect : ∀ g, RxKept s (putInFlow (bump (deliver s p) Reg.FAB_ROB_DIRECT_COUNT) g) := fun g =>
      ((deliver_rxKept s p).trans (bump_rxKept _ (by unfold PortReg; decide))).trans (putInFlow_rxKept _ g)
    split
    · exact hdirect _
    · exact (hdirect _).trans (raise_rxKept _ (by unfold PortReg; decide) ..)

theorem acceptPacket_rxKept (s : State) (p : Packet) (t : Nat) : RxKept s (acceptPacket s p t) := by
  unfold acceptPacket
  dsimp only
  split
  · split
    · exact recvStrict_rxKept ..
    · split
      · exact recvSpray_rxKept ..
      · exact RxKept.refl
  · exact deliver_rxKept ..

/-! ## What follows an accepted flit -/

theorem endArriving_rxKept (s : State) (n t : Nat) : RxKept s (endArriving s n t) := by
  unfold endArriving
  split
  · exact (setPort_rxKept s (by rfl)).trans (acceptPacket_rxKept ..)
  · exact RxKept.refl

theorem acceptReturns_rxKept (s : State) (n : Nat) (f : Flit) : RxKept s (acceptReturns s n f) := by
  unfold acceptReturns
  exact (setPort_rxKept s (by rfl)).trans (drainPort_rxKept ..)

theorem sendIdle_rxKept (s : State) (n : Nat) : RxKept s (sendIdle s n) := by
  unfold sendIdle
  exact (setPort_rxKept s (by rfl)).trans (emit_rxKept ..)

end Sys2Proof.Machine

end

