-- ==== Sys2Proof/Proofs/FlitSequence.lean ====
section
/-! PROOF. Acceptance and discard of a sequenced flit (R299, R300): the state that FLIT_RX answers in each of its cases. -/

namespace Sys2Proof.Machine

variable {s : State} {n t : Nat} {ok : Bool} {f : Flit} {fec : Nat × Nat}

/-- The port's flits are sequenced (Table 12.5). -/
def Sequenced (s : State) (n : Nat) : Prop := portSt s n = .ready ∨ portSt s n = .active ∨ portSt s n = .degraded

/-- The codewords that the FEC corrected, and could not correct, counted. -/
def countFec (s : State) (n : Nat) (fec : Nat × Nat) : State :=
  bumpN (bumpN s (Reg.LNK_FEC_CORR_COUNT n) fec.1) (Reg.LNK_FEC_UNCORR_COUNT n) fec.2

/-- A flit discarded: it counts as a CRC error. -/
def countDiscard (s : State) (n : Nat) (fec : Nat × Nat) : State := bump (countFec s n fec) (Reg.LNK_CRC_ERR_COUNT n)

/-- What follows a flit that the port has taken: its acknowledgement and credits, an IDLE in return, and the packet that it
ends. -/
def afterTake (s : State) (n : Nat) (f : Flit) (t : Nat) : State :=
  if f.ty = .idle then acceptReturns s n f
  else if f.last && f.ty == .data then endArriving (sendIdle (acceptReturns s n f) n) n t
  else sendIdle (acceptReturns s n f) n

theorem afterTake_rxKept (s : State) (n : Nat) (f : Flit) (t : Nat) : RxKept s (afterTake s n f t) := by
  have hreturns := acceptReturns_rxKept s n f
  unfold afterTake
  split
  · exact hreturns
  · split
    · exact (hreturns.trans (sendIdle_rxKept ..)).trans (endArriving_rxKept ..)
    · exact hreturns.trans (sendIdle_rxKept ..)

/-- Port `n` after a discard that asks for the flit again, at the first of a gap or at the expected flit corrupted once more
(log entry 44): a gap is open, and the fault of the flit expected has one more failed delivery, except across a width
change (R308). -/
def refusedPort (s : State) (n t : Nat) : Port :=
  { port s n with
    gap := true
    fault := if (port s n).changing = true then (port s n).fault
      else some (failDelivery (port s n).fault (port s n).rxSeq (now s t)) }

/-! ## The counters of FLIT_RX -/

@[simp] theorem port_bumpN (s : State) (k c m : Nat) : port (bumpN s k c) m = port s m := by
  simp only [port, bumpN_ports]

@[simp] theorem port_bump (s : State) (k m : Nat) : port (bump s k) m = port s m := port_bumpN s k 1 m

@[simp] theorem port_countDiscard (s : State) (n m : Nat) (fec : Nat × Nat) : port (countDiscard s n fec) m = port s m := by
  simp [countDiscard, countFec]

@[simp] theorem countDiscard_out (s : State) (n : Nat) (fec : Nat × Nat) : (countDiscard s n fec).out = s.out := by
  simp [countDiscard, countFec]

theorem toNat_addSat (w : Word) (c : Nat) : (addSat w c).toNat = min (w.toNat + c) (2 ^ 32 - 1) := by
  rw [addSat, sat32, BitVec.toNat_ofNat]
  omega

theorem countsUp_of_addSat {s s' : State} {k c : Nat} (h : rd s' k = addSat (rd s k) c) : CountsUp s s' k c := by
  rw [CountsUp, h, toNat_addSat]

theorem rd_countFec_crcErr (s : State) (n : Nat) (fec : Nat × Nat) :
    rd (countFec s n fec) (Reg.LNK_CRC_ERR_COUNT n) = rd s (Reg.LNK_CRC_ERR_COUNT n) := by
  simp [countFec, Reg.LNK_CRC_ERR_COUNT, Reg.LNK_FEC_CORR_COUNT, Reg.LNK_FEC_UNCORR_COUNT]

theorem rd_countFec_fecCorr (s : State) (n : Nat) (fec : Nat × Nat) :
    rd (countFec s n fec) (Reg.LNK_FEC_CORR_COUNT n) = addSat (rd s (Reg.LNK_FEC_CORR_COUNT n)) fec.1 := by
  simp [countFec, Reg.LNK_FEC_CORR_COUNT, Reg.LNK_FEC_UNCORR_COUNT]

theorem rd_countDiscard_crcErr (s : State) (n : Nat) (fec : Nat × Nat) :
    rd (countDiscard s n fec) (Reg.LNK_CRC_ERR_COUNT n) = addSat (rd s (Reg.LNK_CRC_ERR_COUNT n)) 1 := by
  rw [countDiscard, rd_bump, if_pos rfl, rd_countFec_crcErr]

/-! ## The cases of FLIT_RX -/

theorem Sequenced.test_eq_true (h : Sequenced s n) :
    (portSt s n == .ready || portSt s n == .active || portSt s n == .degraded) = true := by
  simpa [Sequenced, or_assoc] using h

theorem execFlitRx_unsequenced (h : ¬ Sequenced s n) : execFlitRx n ok f fec t s = .next s := by
  simp only [Sequenced, not_or] at h
  simp [execFlitRx, h]

theorem execFlitRx_expected (h : Sequenced s n) (hseq : f.seq = (port s n).rxSeq) :
    execFlitRx n true f fec t s =
      .next (afterTake (setPort (countFec s n fec) n ((port s n).takeFlit f)) n f t) := by
  simp only [execFlitRx, h.test_eq_true, port_bumpN, hseq, beq_self_eq_true, Bool.not_true, Bool.and_self,
    Bool.false_eq_true, if_true, if_false]
  unfold afterTake
  split <;> rfl

theorem execFlitRx_inGap (h : Sequenced s n) (hseq : f.seq ≠ (port s n).rxSeq) (hgap : (port s n).gap = true) :
    execFlitRx n ok f fec t s = .next (countDiscard s n fec) := by
  simp [execFlitRx, h.test_eq_true, hseq, hgap, countDiscard, countFec]

theorem execFlitRx_refused (h : Sequenced s n) (hbad : ok = false ∨ f.seq ≠ (port s n).rxSeq)
    (hfirst : (port s n).gap = false ∨ f.seq = (port s n).rxSeq)
    (hbudget : (port s n).changing = true ∨
      (failDelivery (port s n).fault (port s n).rxSeq (now s t)).failures < 4) :
    execFlitRx n ok f fec t s =
      .next (emit (setPort (countDiscard s n fec) n (refusedPort s n t)) (.link n (.nak (port s n).rxSeq))) := by
  have hnotTaken : (ok && f.seq == (port s n).rxSeq) = false := by simpa [Decidable.imp_iff_not_or] using hbad
  have hanswered : ((port s n).gap && !((port s n).gap && f.seq == (port s n).rxSeq)) = false := by
    obtain hgap | hseq := hfirst
    · simp [hgap]
    · simp [hseq]
  simp only [execFlitRx, h.test_eq_true, port_bumpN, port_bump, hnotTaken, hanswered, Bool.not_true, Bool.false_eq_true,
    if_false]
  unfold refusedPort countDiscard countFec
  by_cases hchanging : (port s n).changing = true
  · simp only [hchanging, if_true]
  · have hleft := Nat.not_le.2 (hbudget.resolve_left hchanging)
    simp only [hchanging, hleft, Bool.false_eq_true, if_false]

/-! ## The port and its counters afterwards -/

theorem takeFlit_rxPlace (po : Port) (f : Flit) : (po.takeFlit f).rxPlace = ((po.rxSeq + 1) % 2048, false, none) := by
  unfold Port.takeFlit
  dsimp only
  split
  · rfl
  · split
    · rfl
    · split <;> rfl

theorem afterTake_place (s : State) (n : Nat) (f : Flit) (fec : Nat × Nat) (t : Nat) :
    (port (afterTake (setPort (countFec s n fec) n ((port s n).takeFlit f)) n f t) n).rxPlace =
      (((port s n).rxSeq + 1) % 2048, false, none) := by
  rw [(afterTake_rxKept ..).place, port_setPort, if_pos rfl, takeFlit_rxPlace]

end Sys2Proof.Machine

open Sys2Proof Sys2Proof.Machine

/-- Settles O37: the three outcomes of FLIT_RX on a sequenced port; what an accepted flit sets off keeps the port's place in
the sequence and its counters (`afterTake_rxKept`). -/
theorem flitsAreAcceptedInSequence : Obligations.FlitsAreAcceptedInSequence := by
  intro s n t ok f fec hn
  have hport : n < 16 := Nat.lt_of_lt_of_le hn (by cases s.build <;> decide)
  refine ⟨fun hup => ⟨fun hok hseq => ?_, fun hbad hfirst hbudget => ?_, fun hseq hgap => ?_⟩,
    fun hready hactive hdegraded => ⟨s, execFlitRx_unsequenced (by simp [Sequenced, hready, hactive, hdegraded]), rfl⟩⟩
  · subst hok
    have hkept := afterTake_rxKept (setPort (countFec s n fec) n ((port s n).takeFlit f)) n f t
    obtain ⟨hrx, hgap, hfault⟩ : _ = _ ∧ _ = _ ∧ _ = _ := by
      simpa only [Port.rxPlace, Prod.mk.injEq] using afterTake_place s n f fec t
    refine ⟨_, execFlitRx_expected hup hseq, hrx, hgap, hfault, ?_, countsUp_of_addSat ?_⟩
    · rw [hkept.regs _ (.crcErr hport), rd_setPort, rd_countFec_crcErr]
    · rw [hkept.regs _ (.fecCorr hport), rd_setPort, rd_countFec_fecCorr]
  · have hat : port (emit (setPort (countDiscard s n fec) n (refusedPort s n t)) (.link n (.nak (port s n).rxSeq))) n =
        refusedPort s n t := (port_setPort ..).trans (if_pos rfl)
    refine ⟨_, execFlitRx_refused hup hbad hfirst hbudget, ?_, ?_, ?_, countsUp_of_addSat ?_, ?_, fun m hm => ?_⟩
    · rw [hat, refusedPort]
    · rw [hat, refusedPort]
    · rw [hat, refusedPort]
    · exact rd_countDiscard_crcErr s n fec
    · exact congrArg _ (countDiscard_out s n fec)
    · exact (port_setPort ..).trans ((if_neg hm).trans (port_countDiscard ..))
  · exact ⟨_, execFlitRx_inGap hup hseq hgap, port_countDiscard .., countsUp_of_addSat (rd_countDiscard_crcErr s n fec),
      countDiscard_out s n fec⟩

end
